-- ==== Sys2Proof/Word.lean ====
section
/-! DEFINITION. The word type of the machine: every register is 32 bits wide (spec/00_scope.md, "Register
space"), and bytes of images, messages and memories are 8 bits wide. -/

namespace Sys2Proof

/-- A register's or memory's word. -/
abbrev Word := BitVec 32

/-- A byte of an image, a message or a memory. -/
abbrev Byte := BitVec 8

end Sys2Proof
end

