-- ==== Sys2Proof/Machine/RegMap.lean ====
section
/-! DEFINITION. The register map of the Q9648: every register of the maps of spec/02 to spec/22, with the base
of its block (R7), its array dimensions, its fields, their access codes (R9), retention classes (R12) and reset
values (R13). One entry per register name; the comment after each name gives the rule whose map or table
shows it. `R.X` names a register, `F.X.Y` the bit range of its field Y. -/

namespace Sys2Proof.Machine

/-- R9: the access codes of a field. `roc` is RO with the note "cleared on read". -/
inductive Access | ro | roc | rw | wo | w1c | w1s | rwl
  deriving DecidableEq, Repr

/-- R12: the retention classes: one-time, non-volatile, kept, working, volatile. -/
inductive RClass | o | n | k | w | v
  deriving DecidableEq, Repr

/-- One field of a register map: its bits, access code, class and reset value. -/
structure FldInfo where
  hi : Nat
  lo : Nat
  acc : Access
  cls : RClass
  reset : Nat
  deriving DecidableEq, Repr

/-- A field's bit range. -/
structure Fld where
  hi : Nat
  lo : Nat
  deriving DecidableEq, Repr

/-- One register of the map: its first address, the count and stride of each of its dimensions, whether a
read clears the whole of it, and its fields. -/
structure RegInfo where
  base : Nat
  dims : List (Nat × Nat)
  cor : Bool
  flds : List FldInfo
  deriving DecidableEq, Repr

/-- The names of the registers. -/
inductive RegName
  | SYS_RST_CTL
  | SYS_RST_STAT
  | SYS_RST_CNT
  | SYS_WDT_CFG
  | SYS_PF_STAT
  | SYS_ENV_STAT
  | SYS_ENV_TEMP
  | SYS_ENV_ENC
  | CLK_CTL
  | CLK_STAT
  | PWR_LATTOL
  | PWR_STAT
  | PWR_WAKEIO
  | PWR_TIME
  | PWR_CNT
  | SEC_STAT
  | SEC_CTL
  | SEC_SVCLEFT
  | SEC_DBGLEFT
  | SEC_CNT_QUOTE
  | SEC_CNT_TOKFAIL
  | SEC_CNT_DBGDENY
  | SEC_OWNER_HASH
  | SEC_MS
  | SEC_EXTCNT
  | TIME_CTL
  | TIME_STAT
  | TIME_NS_LO
  | TIME_NS_HI
  | TIME_TICK_LO
  | TIME_TICK_HI
  | TIME_UPTIME
  | TIME_RATE
  | TIME_STEP_LO
  | TIME_STEP_HI
  | TIME_PTP_CFG
  | TIME_PTP_OFS
  | TIME_PTP_DLY
  | TIME_PTP_UTC
  | TIME_CMP_TGT
  | TIME_CMP_PER
  | TIME_CMP_CTL
  | TIME_CMP_STAT
  | FAB_IMG_CTL
  | FAB_IMG_STAT
  | FAB_LOAD_ERR
  | FAB_LOAD_IDX
  | FAB_ACT_TIME
  | FAB_IMG_ID
  | FAB_IMG_VER
  | FAB_IMG_HASH
  | FAB_SCHED_UTIL
  | CE_CTL
  | CE_STAT
  | CE_FAULT
  | CE_FAULT_PC
  | CE_FAULT_TIME
  | CE_CNT_FAULT
  | CE_CNT_OVR
  | CE_CNT_ECC
  | CE_CNT_STALL
  | CE_UTIL
  | CE_TASK_SEL
  | CE_TASK_MAXCYC
  | CE_TASK_MAXFIN
  | CE_TASK_CNT
  | CE_MEM_ADDR
  | CE_MEM_DATA
  | PWM_DRV_CFG
  | PWM_DRV_STAT
  | PWM_DRV_TYPE
  | PWM_DRV_SERIAL
  | PWM_DRV_DTFLOOR
  | PWM_DRV_EXPTYPE
  | PWM_TRIP_CFG
  | SD_CFG
  | SD_VAL
  | PWM_LEG_CFG
  | PWM_LEG_DT
  | PWM_CMP_LO
  | PWM_CMP_HI
  | PWM_LEG_CTL
  | PWM_LEG_STAT
  | PWM_LEG_NAT
  | PWM_LEG_CNT
  | PWM_LEG_ACC
  | FBK_ENC_CFG
  | FBK_ENC_SSI
  | FBK_ENC_POS
  | FBK_ENC_PRESET
  | FBK_ENC_SPD
  | FBK_ENC_SPFS
  | FBK_ENC_STAT
  | FBK_ENC_CTL
  | FBK_ENC_TLAST
  | FBK_PRB_CFG
  | FBK_PRB_CTL
  | FBK_PRB_POS
  | FBK_PRB_TIME
  | FBK_PRB_STAT
  | FBK_REM_CFG
  | FBK_REM_POS
  | FBK_REM_SPD
  | FBK_REM_SPFS
  | FBK_REM_STAT
  | FBK_SUP
  | AXIS_CTL
  | AXIS_STAT
  | AXIS_CFG
  | AXIS_REACT
  | AXIS_QDEC
  | AXIS_FELIM
  | AXIS_FEMAX
  | AXIS_DLY_P
  | AXIS_DLY_V
  | AXIS_DLY_C
  | AXIS_DLYMAX
  | AXIS_DLYCYC
  | AXIS_MANVAL
  | AXIS_MANSLEW
  | AXIS_STBY
  | LVL_CFG
  | LVL_KP0
  | LVL_KI0
  | LVL_KD0
  | LVL_ILIM0
  | LVL_KP1
  | LVL_KI1
  | LVL_KD1
  | LVL_ILIM1
  | LVL_DPOLE
  | LVL_OLIM
  | LVL_FFA
  | LVL_FFB
  | LVL_OBS_L1
  | LVL_OBS_L2
  | LVL_OBS_JINV
  | FLT_CFG
  | FLT_PAR
  | FLT_B0
  | FLT_B1
  | FLT_B2
  | FLT_A1
  | FLT_A2
  | PCFG
  | AXIS_PA1
  | AXIS_PA2
  | AXIS_PB1
  | AXIS_PB2
  | AXIS_PLIM
  | AXIS_PRES
  | AXIS_PRESMAX
  | AXIS_MOT_CTL
  | AXIS_MOT_TGT_LO
  | AXIS_MOT_TGT_HI
  | AXIS_MOT_VMAX
  | AXIS_MOT_AMAX
  | AXIS_MOT_DMAX
  | AXIS_MOT_JMAX
  | AXIS_MOT_TVEL
  | AXIS_MOT_POS_LO
  | AXIS_MOT_POS_HI
  | AXIS_MOT_VEL
  | AXIS_MOT_ACC
  | AXIS_MOT_STAT
  | AXIS_VL_MIN_LO
  | AXIS_VL_MIN_HI
  | AXIS_VL_MAX_LO
  | AXIS_VL_MAX_HI
  | AXIS_VL_CFG
  | AXIS_GEAR_CFG
  | AXIS_GEAR_NUM
  | AXIS_GEAR_DEN
  | AXIS_GEAR_AT_LO
  | AXIS_GEAR_AT_HI
  | AXIS_GEAR_BLEND
  | AXIS_GEAR_CTL
  | AXIS_GEAR_FIRED_LO
  | AXIS_GEAR_FIRED_HI
  | AXIS_GEAR_CUR_NUM
  | AXIS_GEAR_CUR_DEN
  | AXIS_MOT_INPOS
  | TRACK_CFG
  | TRACK_STAT
  | TRACK_POS_LO
  | TRACK_POS_HI
  | TRACK_VEL
  | TRACK_ACC
  | TRACK_REV
  | TRACK_TIME
  | TRACK_SET_LO
  | TRACK_SET_HI
  | TRACK_CORR
  | TRACK_CORRSLEW
  | TRACK_CORRREM
  | TRACK_CTL
  | VM_CTL
  | VM_VEL
  | VM_ACC
  | VM_POS_LO
  | VM_POS_HI
  | VM_CURVEL
  | VM_SET_LO
  | VM_SET_HI
  | ARM_CTL
  | ARM_STAT
  | ARM_CFG
  | ARM_VCART
  | ARM_WCART
  | ARM_TJ
  | ARM_THOLD
  | ARM_SSLEW
  | ARM_SCALE
  | ARM_KEFF
  | ARM_IKCFG
  | ARM_IKLAM
  | ARM_IKTOL
  | ARM_NSGAIN
  | ARM_SEGCUR
  | ARM_SEGDONE
  | ARM_TAU
  | ARM_POSE
  | ARM_IKRES
  | ARM_SIGMA
  | ARM_CNT
  | ARM_QHOME
  | TALL_CTL
  | TALL_ITEMS
  | TALL_ACTS
  | TALL_PROJ_CFG
  | TALL_CNT_FIRED
  | TALL_CNT_LATE
  | TALL_CNT_DISC
  | TALL_CNT_DELAY
  | TALL_CNT_DROP
  | TALL_CNT_MISS
  | TALL_CNT_TOLATE
  | TALL_CNT_TOBUSY
  | TALL_ITEM_SEL
  | TALL_ACT_SEL
  | TALL_ITEM_WIN
  | TALL_ACT_WIN
  | TALL_TRK_CFG
  | TALL_TRK_STAT
  | TALL_TRK_ERRMAX
  | TALL_TRK_LASTERR
  | TALL_TO_STAT
  | TALL_TO_TFIRE
  | TALL_TO_ACK
  | TALL_TO_CNT
  | GORSE_CTL
  | GORSE_STAT
  | GORSE_EVTIME
  | GORSE_CNT_EVAL
  | GORSE_CNT_FAIL
  | GORSE_CNT_DUP
  | GORSE_CNT_KAT
  | GORSE_CNT_XCHK
  | GORSE_GCFG
  | GORSE_TOL
  | GORSE_ARM_CFG
  | GORSE_ARM_SLOW
  | GORSE_ARM_ZONE
  | GORSE_ARM_STAT
  | GORSE_ARM_MARGIN
  | GORSE_ARM_DIST
  | GORSE_ARM_SP
  | GORSE_ARM_PAIR
  | GORSE_ARM_SPEED
  | GORSE_ARM_CAPEN
  | GORSE_SEN_STAT
  | GORSE_SEN_TMEAS
  | LINE_CFG
  | LINE_CTL
  | LINE_STAT
  | LINE_NODES
  | LINE_LOOPDLY
  | LINE_BREAKPOS
  | LINE_CYCLE
  | LINE_CNT_DRIFT
  | LINE_CNT_DISC
  | LINE_CNT_CRC
  | LINE_CNT_MISS
  | LINE_CNT_MUTE
  | LINE_CNT_HEAL
  | LINE_MARK_OFS
  | LINE_MARK_CTL
  | LINE_SLOT_STAT
  | LINE_GCFG
  | LINE_GSTAT
  | GRP_REQ
  | GRP_CFG
  | GRP_STAT
  | GRP_SPLIT
  | CAN_CFG
  | CAN_NBT
  | CAN_DBT
  | CAN_CTL
  | CAN_STAT
  | CAN_RATE
  | CAN_TDCV
  | CAN_CNT_NOMATCH
  | CAN_CNT_RXOVF
  | CAN_CNT_ACKERR
  | CAN_CNT_BITERR
  | CAN_CNT_STUFF
  | CAN_CNT_FORM
  | CAN_CNT_CRC
  | CAN_CLASH_ID
  | CAN_TXB_STAT
  | CAN_FLT_MATCH
  | CAN_FLT_MASK
  | DIO_BANK_CFG
  | DIO_BANK_STAT
  | DIO_BANK_CTL
  | DIO_IN
  | DIO_OUT
  | DIO_OUT_SET
  | DIO_OUT_CLR
  | DIO_RB
  | DIO_FLT_A
  | DIO_FLT_B
  | DIO_THCLR
  | DIO_CH_CFG
  | DIO_CAP_TIME
  | DIO_CAP_STAT
  | SAFE_STAT
  | SAFE_CTL
  | SAFE_SECTCRC
  | SAFE_CNT_CRC
  | SAFE_CNT_SEQ
  | SAFE_CNT_REASM
  | SAFE_CNT_DISC
  | SAFE_SA_STAT
  | SAFE_SA_POS
  | SAFE_SA_VEL
  | SAFE_SA_DEV
  | SAFE_IN
  | SAFE_CONN_STAT
  | SAFE_CONN_TIME
  | SAFE_CONN_CNT
  | SAFE_FN
  | CAP_CTL
  | CAP_CFG
  | CAP_LEN
  | CAP_PRE
  | CAP_NREC
  | CAP_AUTO
  | CAP_MEMSIZE
  | CAP_STAT
  | CAP_CNT_DROP
  | CAP_CNT_HALF
  | CAP_STOL
  | CAP_TRIGMAP
  | CAP_CH
  | CAP_RAW
  | CAP_TRIG_CFG
  | CAP_TRIG_LEVEL
  | CAP_TRIG_LEVEL2
  | CAP_TRIG_STAMP
  | EVT_CTL
  | EVT_CFG
  | EVT_STAT
  | EVT_OLDEST
  | EVT_NEWEST
  | EVT_COUNT
  | EVT_BOOTNO
  | EVT_LGCOUNT
  | EVT_OVF
  | EVT_CURSOR
  | EVT_CNT_LOST
  | EVT_CNT_TORN
  | EVT_REGMAP
  | EVT_WIN
  | PAIR_CFG
  | PAIR_CTL
  | PAIR_STAT
  | PAIR_MPOINT_LO
  | PAIR_MPOINT_HI
  | PAIR_PEER_SERIAL
  | PAIR_LINKDLY
  | PAIR_TKO_TIME
  | PAIR_TKO_CNT
  | PAIR_CNT_RETX
  | PAIR_CNT_GAP
  | PAIR_CNT_RESYNC
  | PAIR_CNT_WARN
  | HOST_CFG
  | HOST_CFG2
  | HOST_CTL
  | HOST_STAT
  | HOST_P_MAC_LO
  | HOST_P_MAC_HI
  | HOST_P_IP4
  | HOST_P_IP4PFX
  | HOST_P_IP4GW
  | HOST_P_IP6
  | HOST_P_IP6PFX
  | HOST_P_CNT_RX
  | HOST_P_CNT_TX
  | HOST_P_CNT_DROP
  | HOST_S_STAT
  | HOST_S_DROP
  | HOST_S_REJ
  | HOST_S_RETX
  | HOST_Q_CFG
  | HOST_Q_POS
  | HOST_Q_ACK
  | HOST_Q_CNT
  deriving DecidableEq, Repr

/-- A register: its name and the numbers of the array elements it stands in (0 where it has none). -/
structure Reg where
  name : RegName
  i : Nat
  j : Nat
  deriving DecidableEq, Repr

/-- The map: one line per register. -/
def RegName.info : RegName → RegInfo
  | .SYS_RST_CTL => ⟨0x00000010, [], false, [⟨31, 16, .wo, .v, 0⟩, ⟨0, 0, .w1s, .v, 0⟩]⟩ -- R636
  | .SYS_RST_STAT => ⟨0x00000014, [], false, [⟨8, 8, .ro, .n, 0⟩, ⟨2, 0, .ro, .n, 0⟩]⟩ -- R637
  | .SYS_RST_CNT => ⟨0x00000018, [], false, [⟨31, 24, .ro, .n, 0⟩, ⟨23, 16, .ro, .n, 0⟩, ⟨15, 8, .ro, .n, 0⟩, ⟨7, 0, .ro, .n, 0⟩]⟩ -- R637
  | .SYS_WDT_CFG => ⟨0x00000020, [], false, [⟨15, 0, .rw, .n, 500⟩]⟩ -- R638
  | .SYS_PF_STAT => ⟨0x00000024, [], false, [⟨31, 31, .ro, .v, 0⟩, ⟨30, 30, .ro, .v, 0⟩, ⟨8, 0, .ro, .v, 0⟩]⟩ -- R638
  | .SYS_ENV_STAT => ⟨0x00000030, [], false, [⟨10, 8, .ro, .v, 7⟩, ⟨5, 5, .ro, .v, 0⟩, ⟨4, 4, .ro, .v, 0⟩, ⟨2, 0, .ro, .v, 0⟩]⟩ -- R658
  | .SYS_ENV_TEMP => ⟨0x00000034, [], false, [⟨31, 16, .ro, .k, 0⟩, ⟨15, 0, .ro, .v, 0⟩]⟩ -- R659
  | .SYS_ENV_ENC => ⟨0x00000038, [], false, [⟨7, 0, .ro, .v, 0⟩]⟩ -- R659
  | .CLK_CTL => ⟨0x00100000, [], false, [⟨8, 8, .rw, .n, 0⟩, ⟨1, 0, .rw, .n, 0⟩]⟩ -- R38
  | .CLK_STAT => ⟨0x00100004, [], false, [⟨2, 2, .w1c, .v, 0⟩, ⟨1, 1, .ro, .v, 0⟩, ⟨0, 0, .ro, .v, 0⟩]⟩ -- R39
  | .PWR_LATTOL => ⟨0x00200000, [], false, [⟨31, 0, .rw, .k, 0⟩]⟩ -- R616
  | .PWR_STAT => ⟨0x00200004, [], false, [⟨31, 28, .ro, .v, 0⟩, ⟨27, 24, .ro, .v, 0⟩, ⟨23, 23, .ro, .v, 0⟩, ⟨22, 22, .ro, .v, 0⟩, ⟨21, 21, .ro, .v, 0⟩, ⟨20, 20, .ro, .v, 0⟩, ⟨19, 19, .ro, .v, 0⟩]⟩ -- R616
  | .PWR_WAKEIO => ⟨0x00200008, [(2, 0x4)], false, [⟨31, 0, .rw, .k, 0⟩]⟩ -- R616
  | .PWR_TIME => ⟨0x00200010, [], false, [⟨31, 0, .ro, .v, 0⟩]⟩ -- R616
  | .PWR_CNT => ⟨0x00200014, [], true, [⟨31, 0, .ro, .v, 0⟩]⟩ -- R616
  | .SEC_STAT => ⟨0x00400000, [], false, [⟨31, 30, .ro, .n, 0⟩, ⟨29, 29, .ro, .o, 0⟩, ⟨28, 28, .ro, .k, 0⟩, ⟨27, 26, .ro, .v, 0⟩, ⟨25, 25, .ro, .v, 0⟩, ⟨19, 16, .ro, .v, 0⟩]⟩ -- R614
  | .SEC_CTL => ⟨0x00400004, [], false, [⟨2, 2, .w1s, .v, 0⟩, ⟨1, 1, .w1s, .v, 0⟩, ⟨0, 0, .w1s, .v, 0⟩]⟩ -- R614
  | .SEC_SVCLEFT => ⟨0x00400008, [], false, [⟨31, 0, .ro, .k, 0⟩]⟩ -- R615
  | .SEC_DBGLEFT => ⟨0x0040000C, [], false, [⟨31, 0, .ro, .v, 0⟩]⟩ -- R615
  | .SEC_CNT_QUOTE => ⟨0x00400010, [], true, [⟨31, 0, .ro, .v, 0⟩]⟩ -- R615
  | .SEC_CNT_TOKFAIL => ⟨0x00400014, [], true, [⟨31, 0, .ro, .v, 0⟩]⟩ -- R615
  | .SEC_CNT_DBGDENY => ⟨0x00400018, [], true, [⟨31, 0, .ro, .v, 0⟩]⟩ -- R615
  | .SEC_OWNER_HASH => ⟨0x00400040, [(12, 0x4)], false, [⟨31, 0, .ro, .o, 0⟩]⟩ -- R615
  | .SEC_MS => ⟨0x00400100, [(8, 0x30), (12, 0x4)], false, [⟨31, 0, .ro, .k, 0⟩]⟩ -- R615
  | .SEC_EXTCNT => ⟨0x00400280, [(8, 0x4)], false, [⟨15, 0, .ro, .k, 0⟩]⟩ -- R615
  | .TIME_CTL => ⟨0x00800000, [], false, [⟨16, 16, .w1s, .v, 0⟩, ⟨15, 8, .rw, .n, 20⟩, ⟨1, 0, .rw, .n, 2⟩]⟩ -- R61
  | .TIME_STAT => ⟨0x00800004, [], false, [⟨3, 2, .ro, .v, 0⟩, ⟨1, 1, .ro, .v, 1⟩, ⟨0, 0, .ro, .v, 0⟩]⟩ -- R62
  | .TIME_NS_LO => ⟨0x00800008, [], false, [⟨31, 0, .ro, .k, 0⟩]⟩ -- R63
  | .TIME_NS_HI => ⟨0x0080000C, [], false, [⟨31, 0, .ro, .k, 0⟩]⟩ -- R63
  | .TIME_TICK_LO => ⟨0x00800010, [], false, [⟨31, 0, .ro, .k, 0⟩]⟩ -- R63
  | .TIME_TICK_HI => ⟨0x00800014, [], false, [⟨31, 0, .ro, .k, 0⟩]⟩ -- R63
  | .TIME_UPTIME => ⟨0x00800018, [], false, [⟨31, 0, .ro, .v, 0⟩]⟩ -- R63
  | .TIME_RATE => ⟨0x0080001C, [], false, [⟨31, 0, .rw, .k, 0⟩]⟩ -- R63
  | .TIME_STEP_LO => ⟨0x00800020, [], false, [⟨31, 0, .wo, .v, 0⟩]⟩ -- R63
  | .TIME_STEP_HI => ⟨0x00800024, [], false, [⟨31, 0, .wo, .v, 0⟩]⟩ -- R63
  | .TIME_PTP_CFG => ⟨0x00800030, [], false, [⟨31, 28, .rw, .n, 0⟩, ⟨25, 24, .rw, .n, 2⟩, ⟨23, 22, .rw, .n, 0⟩, ⟨21, 16, .rw, .n, 10⟩, ⟨15, 8, .rw, .n, 100⟩, ⟨6, 0, .rw, .n, 0⟩]⟩ -- R52
  | .TIME_PTP_OFS => ⟨0x00800034, [], false, [⟨31, 0, .ro, .v, 0⟩]⟩ -- R63
  | .TIME_PTP_DLY => ⟨0x00800038, [], false, [⟨31, 0, .ro, .v, 0⟩]⟩ -- R63
  | .TIME_PTP_UTC => ⟨0x0080003C, [], false, [⟨31, 0, .ro, .v, 0⟩]⟩ -- R63
  | .TIME_CMP_TGT => ⟨0x00801000, [(64, 0x20)], false, [⟨31, 0, .rw, .v, 0⟩]⟩ -- R53
  | .TIME_CMP_PER => ⟨0x00801004, [(64, 0x20)], false, [⟨31, 0, .rw, .v, 0⟩]⟩ -- R53
  | .TIME_CMP_CTL => ⟨0x00801008, [(64, 0x20)], false, [⟨31, 31, .ro, .v, 0⟩, ⟨30, 30, .ro, .v, 0⟩, ⟨24, 24, .rw, .v, 0⟩, ⟨23, 20, .rw, .v, 0⟩, ⟨19, 8, .rw, .v, 0⟩, ⟨1, 1, .w1s, .v, 0⟩, ⟨0, 0, .w1s, .v, 0⟩]⟩ -- R54
  | .TIME_CMP_STAT => ⟨0x0080100C, [(64, 0x20)], false, [⟨31, 31, .w1c, .v, 0⟩, ⟨23, 16, .roc, .v, 0⟩, ⟨15, 0, .ro, .v, 0⟩]⟩ -- R55
  | .FAB_IMG_CTL => ⟨0x01000000, [], false, [⟨31, 31, .w1s, .v, 0⟩, ⟨30, 30, .w1s, .v, 0⟩, ⟨29, 29, .w1s, .v, 0⟩, ⟨28, 28, .rw, .v, 0⟩, ⟨8, 8, .rw, .v, 0⟩, ⟨1, 0, .rw, .n, 2⟩]⟩ -- R146
  | .FAB_IMG_STAT => ⟨0x01000004, [], false, [⟨31, 28, .ro, .v, 0⟩, ⟨9, 8, .ro, .v, 3⟩, ⟨7, 7, .ro, .v, 0⟩, ⟨1, 1, .ro, .n, 0⟩, ⟨0, 0, .ro, .n, 0⟩]⟩ -- R147
  | .FAB_LOAD_ERR => ⟨0x01000008, [], false, [⟨31, 28, .ro, .v, 0⟩, ⟨23, 16, .ro, .v, 0⟩, ⟨15, 8, .ro, .v, 0⟩, ⟨7, 0, .ro, .v, 0⟩]⟩ -- R148
  | .FAB_LOAD_IDX => ⟨0x0100000C, [], false, [⟨31, 0, .ro, .v, 0⟩]⟩ -- R148
  | .FAB_ACT_TIME => ⟨0x01000010, [], false, [⟨31, 0, .ro, .v, 0⟩]⟩ -- R148
  | .FAB_IMG_ID => ⟨0x01000014, [], false, [⟨31, 0, .ro, .v, 0⟩]⟩ -- R148
  | .FAB_IMG_VER => ⟨0x01000018, [], false, [⟨31, 0, .ro, .v, 0⟩]⟩ -- R148
  | .FAB_IMG_HASH => ⟨0x01000040, [(12, 0x4)], false, [⟨31, 0, .ro, .v, 0⟩]⟩ -- R148
  | .FAB_SCHED_UTIL => ⟨0x01000100, [(16, 0x4)], false, [⟨21, 12, .ro, .v, 0⟩, ⟨10, 8, .ro, .v, 0⟩, ⟨6, 0, .ro, .v, 0⟩]⟩ -- R148
  | .CE_CTL => ⟨0x02000000, [(16, 0x100000)], false, [⟨1, 1, .w1s, .v, 0⟩, ⟨0, 0, .w1s, .v, 0⟩]⟩ -- R184
  | .CE_STAT => ⟨0x02000004, [(16, 0x100000)], false, [⟨31, 28, .ro, .v, 0⟩, ⟨27, 26, .ro, .v, 0⟩, ⟨15, 8, .ro, .v, 0⟩, ⟨0, 0, .ro, .v, 0⟩]⟩ -- R185
  | .CE_FAULT => ⟨0x02000008, [(16, 0x100000)], false, [⟨31, 31, .w1c, .k, 0⟩, ⟨27, 24, .ro, .k, 0⟩, ⟨23, 22, .ro, .k, 0⟩, ⟨11, 0, .ro, .k, 0⟩]⟩ -- R186
  | .CE_FAULT_PC => ⟨0x0200000C, [(16, 0x100000)], false, [⟨14, 0, .ro, .k, 0⟩]⟩ -- R187
  | .CE_FAULT_TIME => ⟨0x02000010, [(16, 0x100000)], false, [⟨31, 0, .ro, .k, 0⟩]⟩ -- R187
  | .CE_CNT_FAULT => ⟨0x02000014, [(16, 0x100000)], true, [⟨31, 0, .ro, .v, 0⟩]⟩ -- R187
  | .CE_CNT_OVR => ⟨0x02000018, [(16, 0x100000)], true, [⟨31, 0, .ro, .v, 0⟩]⟩ -- R187
  | .CE_CNT_ECC => ⟨0x0200001C, [(16, 0x100000)], true, [⟨31, 0, .ro, .v, 0⟩]⟩ -- R187
  | .CE_CNT_STALL => ⟨0x02000020, [(16, 0x100000)], true, [⟨31, 0, .ro, .v, 0⟩]⟩ -- R187
  | .CE_UTIL => ⟨0x02000024, [(16, 0x100000)], false, [⟨25, 16, .ro, .v, 0⟩, ⟨9, 0, .ro, .v, 0⟩]⟩ -- R187
  | .CE_TASK_SEL => ⟨0x02000040, [(16, 0x100000)], false, [⟨11, 0, .rw, .v, 0⟩]⟩ -- R187
  | .CE_TASK_MAXCYC => ⟨0x02000044, [(16, 0x100000)], false, [⟨31, 0, .ro, .v, 0⟩]⟩ -- R187
  | .CE_TASK_MAXFIN => ⟨0x02000048, [(16, 0x100000)], false, [⟨31, 0, .ro, .v, 0⟩]⟩ -- R187
  | .CE_TASK_CNT => ⟨0x0200004C, [(16, 0x100000)], false, [⟨31, 16, .ro, .v, 0⟩, ⟨15, 0, .ro, .v, 0⟩]⟩ -- R187
  | .CE_MEM_ADDR => ⟨0x02000080, [(16, 0x100000)], false, [⟨31, 30, .rw, .v, 0⟩, ⟨16, 0, .rw, .v, 0⟩]⟩ -- R187
  | .CE_MEM_DATA => ⟨0x02000084, [(16, 0x100000)], false, [⟨31, 0, .ro, .v, 0⟩]⟩ -- R187
  | .PWM_DRV_CFG => ⟨0x03000000, [(8, 0x4000)], false, [⟨31, 29, .rw, .w, 1⟩, ⟨28, 28, .rwl, .w, 0⟩, ⟨27, 27, .rwl, .w, 0⟩]⟩ -- R254
  | .PWM_DRV_STAT => ⟨0x03000004, [(8, 0x4000)], false, [⟨31, 31, .ro, .v, 0⟩, ⟨30, 30, .ro, .v, 0⟩, ⟨29, 29, .ro, .v, 0⟩, ⟨28, 28, .ro, .v, 0⟩, ⟨27, 24, .ro, .v, 0⟩, ⟨23, 20, .w1c, .v, 0⟩]⟩ -- R255
  | .PWM_DRV_TYPE => ⟨0x03000008, [(8, 0x4000)], false, [⟨31, 0, .ro, .v, 0⟩]⟩ -- R256
  | .PWM_DRV_SERIAL => ⟨0x0300000C, [(8, 0x4000)], false, [⟨31, 0, .ro, .v, 0⟩]⟩ -- R256
  | .PWM_DRV_DTFLOOR => ⟨0x03000010, [(8, 0x4000)], false, [⟨15, 0, .ro, .v, 0⟩]⟩ -- R256
  | .PWM_DRV_EXPTYPE => ⟨0x03000014, [(8, 0x4000)], false, [⟨31, 0, .rwl, .w, 0⟩]⟩ -- R256
  | .PWM_TRIP_CFG => ⟨0x03000020, [(8, 0x4000), (4, 0x4)], false, [⟨31, 31, .rw, .w, 0⟩, ⟨30, 30, .rw, .w, 0⟩, ⟨27, 24, .rw, .w, 15⟩, ⟨10, 0, .rw, .w, 16⟩]⟩ -- R257
  | .SD_CFG => ⟨0x03000100, [(8, 0x4000), (13, 0x8)], false, [⟨31, 31, .rw, .w, 0⟩, ⟨30, 28, .rw, .w, 2⟩, ⟨16, 16, .ro, .v, 0⟩]⟩ -- R258
  | .SD_VAL => ⟨0x03000104, [(8, 0x4000), (13, 0x8)], false, [⟨31, 0, .ro, .v, 0⟩]⟩ -- R258
  | .PWM_LEG_CFG => ⟨0x03000400, [(8, 0x4000), (12, 0x40)], false, [⟨31, 31, .rw, .w, 0⟩, ⟨30, 30, .rw, .w, 0⟩, ⟨11, 0, .rw, .w, 125⟩]⟩ -- R259
  | .PWM_LEG_DT => ⟨0x03000404, [(8, 0x4000), (12, 0x40)], false, [⟨29, 20, .rw, .w, 50⟩, ⟨19, 10, .rw, .w, 250⟩, ⟨9, 0, .rw, .w, 20⟩]⟩ -- R259
  | .PWM_CMP_LO => ⟨0x03000408, [(8, 0x4000), (12, 0x40)], false, [⟨25, 0, .rw, .v, 0⟩]⟩ -- R260
  | .PWM_CMP_HI => ⟨0x0300040C, [(8, 0x4000), (12, 0x40)], false, [⟨25, 0, .rw, .v, 0⟩]⟩ -- R260
  | .PWM_LEG_CTL => ⟨0x03000410, [(8, 0x4000), (12, 0x40)], false, [⟨31, 31, .w1s, .v, 0⟩, ⟨30, 30, .rw, .v, 0⟩, ⟨29, 29, .w1s, .v, 0⟩]⟩ -- R260
  | .PWM_LEG_STAT => ⟨0x03000414, [(8, 0x4000), (12, 0x40)], false, [⟨31, 30, .ro, .v, 0⟩, ⟨29, 29, .ro, .v, 0⟩, ⟨28, 28, .ro, .v, 0⟩, ⟨27, 27, .ro, .v, 0⟩, ⟨26, 26, .ro, .v, 0⟩, ⟨25, 16, .ro, .v, 0⟩, ⟨9, 0, .ro, .v, 0⟩]⟩ -- R261
  | .PWM_LEG_NAT => ⟨0x03000418, [(8, 0x4000), (12, 0x40)], false, [⟨25, 16, .ro, .v, 0⟩, ⟨9, 0, .ro, .v, 0⟩]⟩ -- R261
  | .PWM_LEG_CNT => ⟨0x0300041C, [(8, 0x4000), (12, 0x40)], true, [⟨31, 16, .ro, .v, 0⟩, ⟨15, 0, .ro, .v, 0⟩]⟩ -- R261
  | .PWM_LEG_ACC => ⟨0x03000420, [(8, 0x4000), (12, 0x40)], false, [⟨31, 0, .ro, .v, 0⟩]⟩ -- R261
  | .FBK_ENC_CFG => ⟨0x03100000, [(32, 0x40)], false, [⟨31, 29, .rwl, .w, 0⟩, ⟨28, 28, .rw, .w, 0⟩, ⟨27, 27, .rwl, .w, 0⟩, ⟨26, 24, .rwl, .w, 2⟩, ⟨23, 22, .rw, .w, 0⟩, ⟨21, 21, .rw, .w, 0⟩, ⟨9, 0, .rw, .w, 4⟩]⟩ -- R281
  | .FBK_ENC_SSI => ⟨0x03100004, [(32, 0x40)], false, [⟨31, 27, .rwl, .w, 24⟩, ⟨26, 19, .rwl, .w, 100⟩, ⟨18, 18, .rwl, .w, 0⟩, ⟨17, 17, .rwl, .w, 0⟩, ⟨16, 16, .rwl, .w, 0⟩, ⟨15, 10, .rwl, .w, 20⟩, ⟨9, 6, .rw, .w, 2⟩]⟩ -- R282
  | .FBK_ENC_POS => ⟨0x03100008, [(32, 0x40)], false, [⟨31, 0, .ro, .w, 0⟩]⟩ -- R283
  | .FBK_ENC_PRESET => ⟨0x0310000C, [(32, 0x40)], false, [⟨31, 0, .wo, .v, 0⟩]⟩ -- R283
  | .FBK_ENC_SPD => ⟨0x03100010, [(32, 0x40)], false, [⟨31, 0, .ro, .v, 0⟩]⟩ -- R283
  | .FBK_ENC_SPFS => ⟨0x03100014, [(32, 0x40)], false, [⟨31, 0, .rw, .w, 0xf4240⟩]⟩ -- R283
  | .FBK_ENC_STAT => ⟨0x03100018, [(32, 0x40)], false, [⟨31, 31, .ro, .v, 0⟩, ⟨30, 30, .w1c, .v, 0⟩, ⟨29, 27, .ro, .v, 4⟩, ⟨23, 16, .roc, .v, 0⟩, ⟨15, 0, .ro, .v, 0⟩]⟩ -- R283
  | .FBK_ENC_CTL => ⟨0x0310001C, [(32, 0x40)], false, [⟨0, 0, .w1s, .v, 0⟩]⟩ -- R283
  | .FBK_ENC_TLAST => ⟨0x03100020, [(32, 0x40)], false, [⟨31, 0, .ro, .v, 0⟩]⟩ -- R283
  | .FBK_PRB_CFG => ⟨0x03101000, [(16, 0x20)], false, [⟨31, 31, .rw, .w, 0⟩, ⟨30, 29, .rw, .w, 1⟩, ⟨28, 28, .rw, .w, 1⟩, ⟨27, 23, .rw, .w, 0⟩, ⟨7, 0, .rw, .w, 0⟩]⟩ -- R284
  | .FBK_PRB_CTL => ⟨0x03101004, [(16, 0x20)], false, [⟨1, 1, .w1s, .v, 0⟩, ⟨0, 0, .w1s, .v, 0⟩]⟩ -- R284
  | .FBK_PRB_POS => ⟨0x03101008, [(16, 0x20)], false, [⟨31, 0, .ro, .v, 0⟩]⟩ -- R284
  | .FBK_PRB_TIME => ⟨0x0310100C, [(16, 0x20)], false, [⟨31, 0, .ro, .v, 0⟩]⟩ -- R284
  | .FBK_PRB_STAT => ⟨0x03101010, [(16, 0x20)], false, [⟨31, 31, .ro, .v, 0⟩, ⟨30, 30, .ro, .v, 0⟩, ⟨29, 29, .ro, .v, 0⟩, ⟨28, 28, .ro, .v, 0⟩, ⟨27, 27, .ro, .v, 0⟩]⟩ -- R284
  | .FBK_REM_CFG => ⟨0x03102000, [(256, 0x10)], false, [⟨31, 31, .rwl, .w, 0⟩, ⟨30, 30, .rwl, .w, 0⟩, ⟨23, 12, .rwl, .w, 0⟩, ⟨11, 0, .rwl, .w, 0⟩]⟩ -- R285
  | .FBK_REM_POS => ⟨0x03102004, [(256, 0x10)], false, [⟨31, 0, .ro, .v, 0⟩]⟩ -- R285
  | .FBK_REM_SPD => ⟨0x03102008, [(256, 0x10)], false, [⟨31, 0, .ro, .v, 0⟩]⟩ -- R285
  | .FBK_REM_SPFS => ⟨0x0310200C, [(256, 0x10)], false, [⟨31, 0, .rw, .w, 0xf4240⟩]⟩ -- R285
  | .FBK_REM_STAT => ⟨0x03103000, [(256, 0x4)], false, [⟨31, 31, .ro, .v, 0⟩, ⟨29, 27, .ro, .v, 4⟩, ⟨23, 16, .roc, .v, 0⟩]⟩ -- R285
  | .FBK_SUP => ⟨0x03104000, [], false, [⟨15, 8, .w1s, .v, 0⟩, ⟨7, 0, .w1c, .v, 0⟩]⟩ -- R285
  | .AXIS_CTL => ⟨0x04000000, [(8192, 0x200)], false, [⟨31, 31, .rw, .v, 0⟩, ⟨30, 30, .rw, .v, 0⟩, ⟨29, 29, .rw, .w, 0⟩, ⟨28, 28, .w1s, .v, 0⟩]⟩ -- R219
  | .AXIS_STAT => ⟨0x04000004, [(8192, 0x200)], false, [⟨31, 28, .ro, .v, 0⟩, ⟨27, 25, .ro, .v, 0⟩, ⟨24, 24, .ro, .v, 0⟩, ⟨23, 23, .ro, .v, 0⟩, ⟨22, 22, .ro, .v, 0⟩, ⟨21, 21, .w1c, .v, 0⟩, ⟨20, 20, .ro, .v, 0⟩, ⟨19, 19, .ro, .v, 0⟩, ⟨18, 16, .ro, .v, 0⟩, ⟨15, 8, .roc, .v, 0⟩, ⟨7, 7, .ro, .v, 0⟩]⟩ -- R220
  | .AXIS_CFG => ⟨0x04000008, [(8192, 0x200)], false, [⟨31, 30, .rwl, .w, 0⟩, ⟨29, 29, .rwl, .w, 0⟩, ⟨28, 28, .rwl, .w, 0⟩, ⟨27, 27, .rwl, .w, 0⟩]⟩ -- R221
  | .AXIS_REACT => ⟨0x0400000C, [(8192, 0x200)], false, [⟨31, 29, .rw, .w, 2⟩, ⟨28, 26, .rw, .w, 2⟩, ⟨25, 23, .rw, .w, 2⟩, ⟨22, 20, .rw, .w, 2⟩, ⟨7, 0, .rw, .w, 3⟩]⟩ -- R222
  | .AXIS_QDEC => ⟨0x04000010, [(8192, 0x200)], false, [⟨31, 0, .rw, .w, 0x8000000⟩]⟩ -- R223
  | .AXIS_FELIM => ⟨0x04000014, [(8192, 0x200)], false, [⟨31, 0, .rw, .w, 0x2000000⟩]⟩ -- R223
  | .AXIS_FEMAX => ⟨0x04000018, [(8192, 0x200)], true, [⟨31, 0, .ro, .v, 0⟩]⟩ -- R223
  | .AXIS_DLY_P => ⟨0x0400001C, [(8192, 0x200)], false, [⟨31, 0, .ro, .v, 0⟩]⟩ -- R223
  | .AXIS_DLY_V => ⟨0x04000020, [(8192, 0x200)], false, [⟨31, 0, .ro, .v, 0⟩]⟩ -- R223
  | .AXIS_DLY_C => ⟨0x04000024, [(8192, 0x200)], false, [⟨31, 0, .ro, .v, 0⟩]⟩ -- R223
  | .AXIS_DLYMAX => ⟨0x04000028, [(8192, 0x200)], true, [⟨31, 0, .ro, .v, 0⟩]⟩ -- R223
  | .AXIS_DLYCYC => ⟨0x0400002C, [(8192, 0x200)], true, [⟨15, 0, .ro, .v, 0⟩]⟩ -- R223
  | .AXIS_MANVAL => ⟨0x04000030, [(8192, 0x200)], false, [⟨31, 0, .rw, .v, 0⟩]⟩ -- R223
  | .AXIS_MANSLEW => ⟨0x04000034, [(8192, 0x200)], false, [⟨31, 0, .rw, .w, 0x100000⟩]⟩ -- R223
  | .AXIS_STBY => ⟨0x04000038, [(8192, 0x200)], false, [⟨31, 0, .rw, .w, 0x200000⟩]⟩ -- R223
  | .LVL_CFG => ⟨0x04000040, [(8192, 0x200), (3, 0x40)], false, [⟨31, 28, .rw, .w, 0⟩, ⟨27, 23, .rw, .w, 0⟩, ⟨22, 18, .rw, .w, 0⟩, ⟨17, 16, .rw, .w, 0⟩, ⟨15, 0, .rwl, .w, 0⟩]⟩ -- R224
  | .LVL_KP0 => ⟨0x04000044, [(8192, 0x200), (3, 0x40)], false, [⟨31, 0, .rw, .w, 0⟩]⟩ -- R224
  | .LVL_KI0 => ⟨0x04000048, [(8192, 0x200), (3, 0x40)], false, [⟨31, 0, .rw, .w, 0⟩]⟩ -- R224
  | .LVL_KD0 => ⟨0x0400004C, [(8192, 0x200), (3, 0x40)], false, [⟨31, 0, .rw, .w, 0⟩]⟩ -- R224
  | .LVL_ILIM0 => ⟨0x04000050, [(8192, 0x200), (3, 0x40)], false, [⟨31, 0, .rw, .w, 0⟩]⟩ -- R224
  | .LVL_KP1 => ⟨0x04000054, [(8192, 0x200), (3, 0x40)], false, [⟨31, 0, .rw, .w, 0⟩]⟩ -- R224
  | .LVL_KI1 => ⟨0x04000058, [(8192, 0x200), (3, 0x40)], false, [⟨31, 0, .rw, .w, 0⟩]⟩ -- R224
  | .LVL_KD1 => ⟨0x0400005C, [(8192, 0x200), (3, 0x40)], false, [⟨31, 0, .rw, .w, 0⟩]⟩ -- R224
  | .LVL_ILIM1 => ⟨0x04000060, [(8192, 0x200), (3, 0x40)], false, [⟨31, 0, .rw, .w, 0⟩]⟩ -- R224
  | .LVL_DPOLE => ⟨0x04000064, [(8192, 0x200), (3, 0x40)], false, [⟨31, 0, .rw, .w, 0⟩]⟩ -- R224
  | .LVL_OLIM => ⟨0x04000068, [(8192, 0x200), (3, 0x40)], false, [⟨31, 0, .rw, .w, 0x7fffffff⟩]⟩ -- R224
  | .LVL_FFA => ⟨0x0400006C, [(8192, 0x200), (3, 0x40)], false, [⟨31, 0, .rw, .w, 0⟩]⟩ -- R224
  | .LVL_FFB => ⟨0x04000070, [(8192, 0x200), (3, 0x40)], false, [⟨31, 0, .rw, .w, 0⟩]⟩ -- R224
  | .LVL_OBS_L1 => ⟨0x04000074, [(8192, 0x200), (3, 0x40)], false, [⟨31, 0, .rw, .w, 0⟩]⟩ -- R224
  | .LVL_OBS_L2 => ⟨0x04000078, [(8192, 0x200), (3, 0x40)], false, [⟨31, 0, .rw, .w, 0⟩]⟩ -- R224
  | .LVL_OBS_JINV => ⟨0x0400007C, [(8192, 0x200), (3, 0x40)], false, [⟨31, 0, .rw, .w, 0⟩]⟩ -- R224
  | .FLT_CFG => ⟨0x04000100, [(8192, 0x200), (8, 0x1C)], false, [⟨31, 30, .rw, .w, 0⟩, ⟨29, 28, .rw, .w, 0⟩]⟩ -- R225
  | .FLT_PAR => ⟨0x04000104, [(8192, 0x200), (8, 0x1C)], false, [⟨31, 16, .rw, .w, 0⟩, ⟨15, 8, .rw, .w, 0⟩, ⟨7, 0, .rw, .w, 0⟩]⟩ -- R225
  | .FLT_B0 => ⟨0x04000108, [(8192, 0x200), (8, 0x1C)], false, [⟨31, 0, .rw, .w, 0⟩]⟩ -- R225
  | .FLT_B1 => ⟨0x0400010C, [(8192, 0x200), (8, 0x1C)], false, [⟨31, 0, .rw, .w, 0⟩]⟩ -- R225
  | .FLT_B2 => ⟨0x04000110, [(8192, 0x200), (8, 0x1C)], false, [⟨31, 0, .rw, .w, 0⟩]⟩ -- R225
  | .FLT_A1 => ⟨0x04000114, [(8192, 0x200), (8, 0x1C)], false, [⟨31, 0, .rw, .w, 0⟩]⟩ -- R225
  | .FLT_A2 => ⟨0x04000118, [(8192, 0x200), (8, 0x1C)], false, [⟨31, 0, .rw, .w, 0⟩]⟩ -- R225
  | .PCFG => ⟨0x040001E0, [(8192, 0x200)], false, [⟨31, 30, .rw, .w, 0⟩, ⟨29, 28, .rw, .w, 1⟩, ⟨27, 23, .rw, .w, 0⟩, ⟨15, 8, .rw, .w, 5⟩]⟩ -- R226
  | .AXIS_PA1 => ⟨0x040001E4, [(8192, 0x200)], false, [⟨31, 0, .rw, .w, 0⟩]⟩ -- R226
  | .AXIS_PA2 => ⟨0x040001E8, [(8192, 0x200)], false, [⟨31, 0, .rw, .w, 0⟩]⟩ -- R226
  | .AXIS_PB1 => ⟨0x040001EC, [(8192, 0x200)], false, [⟨31, 0, .rw, .w, 0⟩]⟩ -- R226
  | .AXIS_PB2 => ⟨0x040001F0, [(8192, 0x200)], false, [⟨31, 0, .rw, .w, 0⟩]⟩ -- R226
  | .AXIS_PLIM => ⟨0x040001F4, [(8192, 0x200)], false, [⟨31, 0, .rw, .w, 0x1000000⟩]⟩ -- R226
  | .AXIS_PRES => ⟨0x040001F8, [(8192, 0x200)], false, [⟨31, 0, .ro, .v, 0⟩]⟩ -- R226
  | .AXIS_PRESMAX => ⟨0x040001FC, [(8192, 0x200)], true, [⟨31, 0, .ro, .v, 0⟩]⟩ -- R226
  | .AXIS_MOT_CTL => ⟨0x04400000, [(8192, 0x80)], false, [⟨31, 31, .w1s, .v, 0⟩, ⟨30, 30, .w1s, .v, 0⟩, ⟨29, 28, .rw, .v, 0⟩, ⟨27, 27, .rw, .w, 0⟩]⟩ -- R318
  | .AXIS_MOT_TGT_LO => ⟨0x04400004, [(8192, 0x80)], false, [⟨31, 0, .rw, .v, 0⟩]⟩ -- R319
  | .AXIS_MOT_TGT_HI => ⟨0x04400008, [(8192, 0x80)], false, [⟨31, 0, .rw, .v, 0⟩]⟩ -- R319
  | .AXIS_MOT_VMAX => ⟨0x0440000C, [(8192, 0x80)], false, [⟨31, 0, .rw, .w, 0⟩]⟩ -- R319
  | .AXIS_MOT_AMAX => ⟨0x04400010, [(8192, 0x80)], false, [⟨31, 0, .rw, .w, 0⟩]⟩ -- R319
  | .AXIS_MOT_DMAX => ⟨0x04400014, [(8192, 0x80)], false, [⟨31, 0, .rw, .w, 0⟩]⟩ -- R319
  | .AXIS_MOT_JMAX => ⟨0x04400018, [(8192, 0x80)], false, [⟨31, 0, .rw, .w, 0⟩]⟩ -- R319
  | .AXIS_MOT_TVEL => ⟨0x0440001C, [(8192, 0x80)], false, [⟨31, 0, .rw, .v, 0⟩]⟩ -- R319
  | .AXIS_MOT_POS_LO => ⟨0x04400020, [(8192, 0x80)], false, [⟨31, 0, .ro, .v, 0⟩]⟩ -- R319
  | .AXIS_MOT_POS_HI => ⟨0x04400024, [(8192, 0x80)], false, [⟨31, 0, .ro, .v, 0⟩]⟩ -- R319
  | .AXIS_MOT_VEL => ⟨0x04400028, [(8192, 0x80)], false, [⟨31, 0, .ro, .v, 0⟩]⟩ -- R319
  | .AXIS_MOT_ACC => ⟨0x0440002C, [(8192, 0x80)], false, [⟨31, 0, .ro, .v, 0⟩]⟩ -- R319
  | .AXIS_MOT_STAT => ⟨0x04400030, [(8192, 0x80)], false, [⟨31, 29, .ro, .v, 0⟩, ⟨28, 28, .ro, .v, 0⟩, ⟨27, 27, .ro, .v, 0⟩, ⟨26, 25, .ro, .v, 0⟩, ⟨24, 24, .ro, .v, 0⟩, ⟨23, 22, .ro, .v, 0⟩, ⟨21, 21, .w1c, .v, 0⟩, ⟨20, 20, .w1c, .v, 0⟩]⟩ -- R320
  | .AXIS_VL_MIN_LO => ⟨0x04400034, [(8192, 0x80)], false, [⟨31, 0, .rw, .w, 0⟩]⟩ -- R321
  | .AXIS_VL_MIN_HI => ⟨0x04400038, [(8192, 0x80)], false, [⟨31, 0, .rw, .w, 0⟩]⟩ -- R321
  | .AXIS_VL_MAX_LO => ⟨0x0440003C, [(8192, 0x80)], false, [⟨31, 0, .rw, .w, 0⟩]⟩ -- R321
  | .AXIS_VL_MAX_HI => ⟨0x04400040, [(8192, 0x80)], false, [⟨31, 0, .rw, .w, 0⟩]⟩ -- R321
  | .AXIS_VL_CFG => ⟨0x04400044, [(8192, 0x80)], false, [⟨31, 31, .rw, .w, 0⟩, ⟨30, 29, .rw, .w, 0⟩, ⟨28, 26, .rw, .w, 3⟩, ⟨25, 23, .rw, .w, 3⟩]⟩ -- R321
  | .AXIS_GEAR_CFG => ⟨0x04400048, [(8192, 0x80)], false, [⟨31, 30, .rw, .w, 3⟩, ⟨7, 0, .rw, .w, 0⟩]⟩ -- R321
  | .AXIS_GEAR_NUM => ⟨0x0440004C, [(8192, 0x80)], false, [⟨31, 0, .rw, .v, 0⟩]⟩ -- R321
  | .AXIS_GEAR_DEN => ⟨0x04400050, [(8192, 0x80)], false, [⟨31, 0, .rw, .v, 1⟩]⟩ -- R321
  | .AXIS_GEAR_AT_LO => ⟨0x04400054, [(8192, 0x80)], false, [⟨31, 0, .rw, .v, 0⟩]⟩ -- R321
  | .AXIS_GEAR_AT_HI => ⟨0x04400058, [(8192, 0x80)], false, [⟨31, 0, .rw, .v, 0⟩]⟩ -- R321
  | .AXIS_GEAR_BLEND => ⟨0x0440005C, [(8192, 0x80)], false, [⟨31, 0, .rw, .v, 0⟩]⟩ -- R321
  | .AXIS_GEAR_CTL => ⟨0x04400060, [(8192, 0x80)], false, [⟨31, 31, .w1s, .v, 0⟩, ⟨30, 30, .w1s, .v, 0⟩, ⟨29, 29, .w1s, .v, 0⟩, ⟨28, 28, .w1s, .v, 0⟩, ⟨27, 26, .rw, .v, 0⟩]⟩ -- R321
  | .AXIS_GEAR_FIRED_LO => ⟨0x04400064, [(8192, 0x80)], false, [⟨31, 0, .ro, .v, 0⟩]⟩ -- R321
  | .AXIS_GEAR_FIRED_HI => ⟨0x04400068, [(8192, 0x80)], false, [⟨31, 0, .ro, .v, 0⟩]⟩ -- R321
  | .AXIS_GEAR_CUR_NUM => ⟨0x0440006C, [(8192, 0x80)], false, [⟨31, 0, .ro, .v, 0⟩]⟩ -- R321
  | .AXIS_GEAR_CUR_DEN => ⟨0x04400070, [(8192, 0x80)], false, [⟨31, 0, .ro, .v, 1⟩]⟩ -- R321
  | .AXIS_MOT_INPOS => ⟨0x04400074, [(8192, 0x80)], false, [⟨31, 8, .rw, .w, 16⟩, ⟨7, 0, .rw, .w, 4⟩]⟩ -- R319
  | .TRACK_CFG => ⟨0x04800000, [(256, 0x40)], false, [⟨31, 31, .ro, .w, 0⟩, ⟨30, 28, .ro, .w, 0⟩, ⟨27, 26, .rw, .w, 2⟩, ⟨15, 8, .rw, .w, 8⟩, ⟨6, 4, .rw, .w, 2⟩, ⟨2, 0, .rw, .w, 3⟩]⟩ -- R322
  | .TRACK_STAT => ⟨0x04800004, [(256, 0x40)], false, [⟨31, 31, .ro, .v, 0⟩, ⟨30, 30, .ro, .v, 0⟩, ⟨29, 29, .ro, .v, 1⟩, ⟨28, 28, .ro, .v, 0⟩, ⟨27, 27, .ro, .v, 0⟩, ⟨26, 26, .ro, .v, 0⟩]⟩ -- R323
  | .TRACK_POS_LO => ⟨0x04800008, [(256, 0x40)], false, [⟨31, 0, .ro, .w, 0⟩]⟩ -- R324
  | .TRACK_POS_HI => ⟨0x0480000C, [(256, 0x40)], false, [⟨31, 0, .ro, .w, 0⟩]⟩ -- R324
  | .TRACK_VEL => ⟨0x04800010, [(256, 0x40)], false, [⟨31, 0, .ro, .v, 0⟩]⟩ -- R324
  | .TRACK_ACC => ⟨0x04800014, [(256, 0x40)], false, [⟨31, 0, .ro, .v, 0⟩]⟩ -- R324
  | .TRACK_REV => ⟨0x04800018, [(256, 0x40)], false, [⟨31, 0, .ro, .w, 0⟩]⟩ -- R324
  | .TRACK_TIME => ⟨0x0480001C, [(256, 0x40)], false, [⟨31, 0, .ro, .v, 0⟩]⟩ -- R324
  | .TRACK_SET_LO => ⟨0x04800020, [(256, 0x40)], false, [⟨31, 0, .wo, .v, 0⟩]⟩ -- R324
  | .TRACK_SET_HI => ⟨0x04800024, [(256, 0x40)], false, [⟨31, 0, .wo, .v, 0⟩]⟩ -- R324
  | .TRACK_CORR => ⟨0x04800028, [(256, 0x40)], false, [⟨31, 0, .wo, .v, 0⟩]⟩ -- R324
  | .TRACK_CORRSLEW => ⟨0x0480002C, [(256, 0x40)], false, [⟨31, 0, .rw, .w, 8⟩]⟩ -- R324
  | .TRACK_CORRREM => ⟨0x04800030, [(256, 0x40)], false, [⟨31, 0, .ro, .v, 0⟩]⟩ -- R324
  | .TRACK_CTL => ⟨0x04800034, [(256, 0x40)], false, [⟨0, 0, .w1s, .v, 0⟩]⟩ -- R324
  | .VM_CTL => ⟨0x04804000, [(64, 0x40)], false, [⟨31, 31, .rw, .v, 0⟩]⟩ -- R325
  | .VM_VEL => ⟨0x04804004, [(64, 0x40)], false, [⟨31, 0, .rw, .w, 0⟩]⟩ -- R325
  | .VM_ACC => ⟨0x04804008, [(64, 0x40)], false, [⟨31, 0, .rw, .w, 0xf4240⟩]⟩ -- R325
  | .VM_POS_LO => ⟨0x0480400C, [(64, 0x40)], false, [⟨31, 0, .ro, .w, 0⟩]⟩ -- R325
  | .VM_POS_HI => ⟨0x04804010, [(64, 0x40)], false, [⟨31, 0, .ro, .w, 0⟩]⟩ -- R325
  | .VM_CURVEL => ⟨0x04804014, [(64, 0x40)], false, [⟨31, 0, .ro, .v, 0⟩]⟩ -- R325
  | .VM_SET_LO => ⟨0x04804018, [(64, 0x40)], false, [⟨31, 0, .wo, .v, 0⟩]⟩ -- R325
  | .VM_SET_HI => ⟨0x0480401C, [(64, 0x40)], false, [⟨31, 0, .wo, .v, 0⟩]⟩ -- R325
  | .ARM_CTL => ⟨0x05000000, [(12, 0x10000)], false, [⟨31, 31, .w1s, .v, 0⟩, ⟨30, 30, .w1s, .v, 0⟩, ⟨29, 29, .w1s, .v, 0⟩]⟩ -- R351
  | .ARM_STAT => ⟨0x05000004, [(12, 0x10000)], false, [⟨31, 28, .ro, .v, 0⟩, ⟨27, 25, .ro, .v, 0⟩, ⟨24, 24, .ro, .v, 0⟩, ⟨23, 23, .ro, .v, 0⟩, ⟨22, 22, .ro, .v, 0⟩, ⟨21, 21, .ro, .v, 0⟩, ⟨8, 0, .ro, .v, 256⟩]⟩ -- R352
  | .ARM_CFG => ⟨0x05000008, [(12, 0x10000)], false, [⟨31, 28, .rwl, .w, 0⟩, ⟨27, 16, .rwl, .w, 0⟩, ⟨15, 0, .rwl, .w, 0⟩]⟩ -- R353
  | .ARM_VCART => ⟨0x05000010, [(12, 0x10000)], false, [⟨31, 0, .rw, .w, 0x3d090⟩]⟩ -- R354
  | .ARM_WCART => ⟨0x05000014, [(12, 0x10000)], false, [⟨31, 0, .rw, .w, 3142⟩]⟩ -- R354
  | .ARM_TJ => ⟨0x05000018, [(12, 0x10000)], false, [⟨15, 0, .rw, .w, 8000⟩]⟩ -- R354
  | .ARM_THOLD => ⟨0x0500001C, [(12, 0x10000)], false, [⟨31, 16, .rw, .w, 200⟩, ⟨15, 0, .rw, .w, 150⟩]⟩ -- R354
  | .ARM_SSLEW => ⟨0x05000020, [(12, 0x10000)], false, [⟨31, 16, .rw, .w, 16⟩, ⟨15, 0, .rw, .w, 128⟩]⟩ -- R354
  | .ARM_SCALE => ⟨0x05000024, [(12, 0x10000)], false, [⟨31, 16, .ro, .v, 32767⟩, ⟨15, 0, .rw, .w, 32767⟩]⟩ -- R354
  | .ARM_KEFF => ⟨0x05000028, [(12, 0x10000)], false, [⟨31, 16, .ro, .v, 32767⟩, ⟨15, 0, .ro, .v, 32767⟩]⟩ -- R354
  | .ARM_IKCFG => ⟨0x05000030, [(12, 0x10000)], false, [⟨31, 26, .rwl, .w, 63⟩, ⟨23, 16, .rw, .w, 3⟩, ⟨15, 0, .rw, .w, 100⟩]⟩ -- R355
  | .ARM_IKLAM => ⟨0x05000034, [(12, 0x10000)], false, [⟨31, 16, .rw, .w, 40⟩, ⟨15, 0, .rw, .w, 50⟩]⟩ -- R355
  | .ARM_IKTOL => ⟨0x05000038, [(12, 0x10000)], false, [⟨31, 16, .rw, .w, 50⟩, ⟨15, 0, .rw, .w, 100⟩]⟩ -- R355
  | .ARM_NSGAIN => ⟨0x0500003C, [(12, 0x10000)], false, [⟨31, 0, .rw, .w, 0⟩]⟩ -- R355
  | .ARM_SEGCUR => ⟨0x05000040, [(12, 0x10000)], false, [⟨31, 0, .ro, .v, 0xffffffff⟩]⟩ -- R356
  | .ARM_SEGDONE => ⟨0x05000044, [(12, 0x10000)], false, [⟨31, 0, .ro, .v, 0xffffffff⟩]⟩ -- R356
  | .ARM_TAU => ⟨0x05000048, [(12, 0x10000)], false, [⟨31, 0, .ro, .v, 0⟩]⟩ -- R356
  | .ARM_POSE => ⟨0x05000050, [(12, 0x10000), (6, 0x4)], false, [⟨31, 0, .ro, .v, 0⟩]⟩ -- R356
  | .ARM_IKRES => ⟨0x05000068, [(12, 0x10000)], false, [⟨31, 16, .ro, .v, 0⟩, ⟨15, 0, .ro, .v, 0⟩]⟩ -- R355
  | .ARM_SIGMA => ⟨0x0500006C, [(12, 0x10000)], false, [⟨31, 0, .ro, .v, 0⟩]⟩ -- R355
  | .ARM_CNT => ⟨0x05000070, [(12, 0x10000)], true, [⟨31, 24, .ro, .v, 0⟩, ⟨23, 16, .ro, .v, 0⟩, ⟨15, 8, .ro, .v, 0⟩, ⟨7, 0, .ro, .v, 0⟩]⟩ -- R356
  | .ARM_QHOME => ⟨0x05000100, [(12, 0x10000), (9, 0x4)], false, [⟨31, 0, .rw, .w, 0⟩]⟩ -- R355
  | .TALL_CTL => ⟨0x06000000, [], false, [⟨31, 31, .w1s, .v, 0⟩, ⟨1, 1, .rw, .w, 0⟩, ⟨0, 0, .w1s, .v, 0⟩]⟩ -- R385
  | .TALL_ITEMS => ⟨0x06000004, [], false, [⟨17, 0, .ro, .v, 0⟩]⟩ -- R386
  | .TALL_ACTS => ⟨0x06000008, [], false, [⟨18, 0, .ro, .v, 0⟩]⟩ -- R386
  | .TALL_PROJ_CFG => ⟨0x0600000C, [], false, [⟨7, 0, .rw, .w, 4⟩]⟩ -- R386
  | .TALL_CNT_FIRED => ⟨0x06000010, [], true, [⟨31, 0, .ro, .v, 0⟩]⟩ -- R386
  | .TALL_CNT_LATE => ⟨0x06000014, [], true, [⟨31, 0, .ro, .v, 0⟩]⟩ -- R386
  | .TALL_CNT_DISC => ⟨0x06000018, [], true, [⟨31, 0, .ro, .v, 0⟩]⟩ -- R386
  | .TALL_CNT_DELAY => ⟨0x0600001C, [], true, [⟨31, 0, .ro, .v, 0⟩]⟩ -- R386
  | .TALL_CNT_DROP => ⟨0x06000020, [], true, [⟨31, 0, .ro, .v, 0⟩]⟩ -- R386
  | .TALL_CNT_MISS => ⟨0x06000024, [], true, [⟨31, 0, .ro, .v, 0⟩]⟩ -- R386
  | .TALL_CNT_TOLATE => ⟨0x06000028, [], true, [⟨31, 0, .ro, .v, 0⟩]⟩ -- R386
  | .TALL_CNT_TOBUSY => ⟨0x0600002C, [], true, [⟨31, 0, .ro, .v, 0⟩]⟩ -- R386
  | .TALL_ITEM_SEL => ⟨0x06000040, [], false, [⟨16, 0, .rw, .v, 0⟩]⟩ -- R386
  | .TALL_ACT_SEL => ⟨0x06000044, [], false, [⟨17, 0, .rw, .v, 0⟩]⟩ -- R386
  | .TALL_ITEM_WIN => ⟨0x06000080, [(16, 0x4)], false, [⟨31, 0, .ro, .v, 0⟩]⟩ -- R386
  | .TALL_ACT_WIN => ⟨0x060000C0, [(8, 0x4)], false, [⟨31, 0, .ro, .v, 0⟩]⟩ -- R386
  | .TALL_TRK_CFG => ⟨0x06010000, [(256, 0x10)], false, [⟨23, 0, .rw, .w, 500⟩]⟩ -- R387
  | .TALL_TRK_STAT => ⟨0x06010004, [(256, 0x10)], false, [⟨18, 0, .ro, .v, 0⟩]⟩ -- R387
  | .TALL_TRK_ERRMAX => ⟨0x06010008, [(256, 0x10)], false, [⟨31, 0, .ro, .v, 0⟩]⟩ -- R387
  | .TALL_TRK_LASTERR => ⟨0x0601000C, [(256, 0x10)], false, [⟨31, 0, .ro, .v, 0⟩]⟩ -- R387
  | .TALL_TO_STAT => ⟨0x06020000, [(8192, 0x10)], false, [⟨31, 30, .ro, .v, 0⟩, ⟨23, 16, .ro, .v, 0⟩, ⟨15, 0, .ro, .v, 0⟩]⟩ -- R388
  | .TALL_TO_TFIRE => ⟨0x06020004, [(8192, 0x10)], false, [⟨31, 0, .ro, .v, 0⟩]⟩ -- R388
  | .TALL_TO_ACK => ⟨0x06020008, [(8192, 0x10)], false, [⟨31, 0, .ro, .v, 0⟩]⟩ -- R388
  | .TALL_TO_CNT => ⟨0x0602000C, [(8192, 0x10)], true, [⟨31, 16, .ro, .v, 0⟩, ⟨15, 0, .ro, .v, 0⟩]⟩ -- R388
  | .GORSE_CTL => ⟨0x07000000, [], false, [⟨1, 1, .w1s, .v, 0⟩, ⟨0, 0, .w1s, .v, 0⟩]⟩ -- R409
  | .GORSE_STAT => ⟨0x07000004, [], false, [⟨31, 28, .ro, .v, 0⟩, ⟨27, 24, .ro, .v, 0⟩]⟩ -- R409
  | .GORSE_EVTIME => ⟨0x07000008, [], false, [⟨31, 16, .ro, .v, 0⟩, ⟨15, 0, .ro, .v, 0⟩]⟩ -- R409
  | .GORSE_CNT_EVAL => ⟨0x07000010, [], true, [⟨31, 0, .ro, .v, 0⟩]⟩ -- R409
  | .GORSE_CNT_FAIL => ⟨0x07000014, [], true, [⟨31, 0, .ro, .v, 0⟩]⟩ -- R409
  | .GORSE_CNT_DUP => ⟨0x07000018, [], true, [⟨31, 0, .ro, .v, 0⟩]⟩ -- R409
  | .GORSE_CNT_KAT => ⟨0x0700001C, [], true, [⟨31, 0, .ro, .v, 0⟩]⟩ -- R409
  | .GORSE_CNT_XCHK => ⟨0x07000020, [], true, [⟨31, 0, .ro, .v, 0⟩]⟩ -- R409
  | .GORSE_GCFG => ⟨0x07000030, [], false, [⟨31, 16, .ro, .w, 1600⟩, ⟨15, 0, .ro, .w, 200⟩]⟩ -- R409
  | .GORSE_TOL => ⟨0x07000034, [], false, [⟨31, 16, .ro, .w, 2000⟩, ⟨15, 0, .ro, .w, 4⟩]⟩ -- R409
  | .GORSE_ARM_CFG => ⟨0x07001000, [(12, 0x40)], false, [⟨31, 31, .ro, .w, 0⟩, ⟨23, 0, .ro, .w, 1500⟩]⟩ -- R410
  | .GORSE_ARM_SLOW => ⟨0x07001004, [(12, 0x40)], false, [⟨31, 16, .rw, .w, 4096⟩, ⟨15, 0, .rw, .w, 500⟩]⟩ -- R410
  | .GORSE_ARM_ZONE => ⟨0x07001008, [(12, 0x40)], false, [⟨31, 16, .ro, .w, 50⟩, ⟨15, 0, .ro, .w, 20⟩]⟩ -- R410
  | .GORSE_ARM_STAT => ⟨0x0700100C, [(12, 0x40)], false, [⟨31, 31, .ro, .v, 0⟩, ⟨30, 28, .ro, .v, 0⟩, ⟨27, 24, .ro, .v, 0⟩, ⟨15, 0, .ro, .v, 32767⟩]⟩ -- R410
  | .GORSE_ARM_MARGIN => ⟨0x07001010, [(12, 0x40)], false, [⟨31, 0, .ro, .v, 0⟩]⟩ -- R410
  | .GORSE_ARM_DIST => ⟨0x07001014, [(12, 0x40)], false, [⟨31, 0, .ro, .v, 0⟩]⟩ -- R410
  | .GORSE_ARM_SP => ⟨0x07001018, [(12, 0x40)], false, [⟨31, 0, .ro, .v, 0⟩]⟩ -- R410
  | .GORSE_ARM_PAIR => ⟨0x0700101C, [(12, 0x40)], false, [⟨31, 30, .ro, .v, 0⟩, ⟨28, 24, .ro, .v, 0⟩, ⟨9, 0, .ro, .v, 0⟩]⟩ -- R410
  | .GORSE_ARM_SPEED => ⟨0x07001020, [(12, 0x40)], false, [⟨31, 0, .ro, .v, 0⟩]⟩ -- R410
  | .GORSE_ARM_CAPEN => ⟨0x07001024, [(12, 0x40)], false, [⟨23, 0, .rw, .w, 0⟩]⟩ -- R410
  | .GORSE_SEN_STAT => ⟨0x07002000, [(64, 0x20)], false, [⟨31, 30, .ro, .v, 3⟩, ⟨29, 24, .ro, .v, 0⟩, ⟨15, 0, .ro, .v, 65535⟩]⟩ -- R411
  | .GORSE_SEN_TMEAS => ⟨0x07002004, [(64, 0x20)], false, [⟨31, 0, .ro, .v, 0⟩]⟩ -- R411
  | .LINE_CFG => ⟨0x08000000, [(24, 0x100000)], false, [⟨31, 29, .rwl, .w, 0⟩, ⟨28, 27, .rwl, .w, 0⟩, ⟨26, 26, .rw, .w, 1⟩, ⟨25, 13, .rwl, .w, 0⟩, ⟨12, 9, .rw, .w, 8⟩, ⟨8, 5, .rw, .w, 3⟩]⟩ -- R106
  | .LINE_CTL => ⟨0x08000004, [(24, 0x100000)], false, [⟨3, 3, .w1s, .v, 0⟩, ⟨2, 2, .rw, .w, 1⟩, ⟨1, 1, .w1s, .v, 0⟩, ⟨0, 0, .w1s, .v, 0⟩]⟩ -- R107
  | .LINE_STAT => ⟨0x08000008, [(24, 0x100000)], false, [⟨31, 28, .ro, .v, 0⟩, ⟨27, 24, .ro, .v, 0⟩, ⟨2, 2, .ro, .v, 0⟩, ⟨1, 1, .w1c, .v, 0⟩, ⟨0, 0, .ro, .v, 0⟩]⟩ -- R108
  | .LINE_NODES => ⟨0x0800000C, [(24, 0x100000)], false, [⟨28, 16, .ro, .v, 0⟩, ⟨12, 0, .ro, .v, 0⟩]⟩ -- R109
  | .LINE_LOOPDLY => ⟨0x08000010, [(24, 0x100000)], false, [⟨31, 0, .ro, .v, 0⟩]⟩ -- R109
  | .LINE_BREAKPOS => ⟨0x08000014, [(24, 0x100000)], false, [⟨28, 16, .ro, .v, 8191⟩, ⟨12, 0, .ro, .v, 8191⟩]⟩ -- R109
  | .LINE_CYCLE => ⟨0x08000018, [(24, 0x100000)], false, [⟨31, 0, .ro, .k, 0⟩]⟩ -- R109
  | .LINE_CNT_DRIFT => ⟨0x08000020, [(24, 0x100000)], true, [⟨31, 0, .ro, .v, 0⟩]⟩ -- R109
  | .LINE_CNT_DISC => ⟨0x08000024, [(24, 0x100000)], true, [⟨31, 0, .ro, .v, 0⟩]⟩ -- R109
  | .LINE_CNT_CRC => ⟨0x08000028, [(24, 0x100000)], true, [⟨31, 0, .ro, .v, 0⟩]⟩ -- R109
  | .LINE_CNT_MISS => ⟨0x0800002C, [(24, 0x100000)], true, [⟨31, 0, .ro, .v, 0⟩]⟩ -- R109
  | .LINE_CNT_MUTE => ⟨0x08000030, [(24, 0x100000)], true, [⟨31, 0, .ro, .v, 0⟩]⟩ -- R109
  | .LINE_CNT_HEAL => ⟨0x08000034, [(24, 0x100000)], true, [⟨31, 0, .ro, .v, 0⟩]⟩ -- R109
  | .LINE_MARK_OFS => ⟨0x08000100, [(24, 0x100000), (16, 0x8)], false, [⟨21, 0, .rwl, .w, 0⟩]⟩ -- R111
  | .LINE_MARK_CTL => ⟨0x08000104, [(24, 0x100000), (16, 0x8)], false, [⟨31, 31, .rw, .w, 0⟩, ⟨30, 30, .rwl, .w, 0⟩, ⟨29, 28, .rwl, .w, 0⟩, ⟨11, 0, .rwl, .w, 0⟩]⟩ -- R111
  | .LINE_SLOT_STAT => ⟨0x08010000, [(24, 0x100000), (6144, 0x4)], false, [⟨31, 30, .ro, .v, 0⟩, ⟨29, 29, .ro, .v, 0⟩, ⟨28, 28, .ro, .v, 0⟩, ⟨27, 26, .ro, .v, 0⟩, ⟨23, 16, .ro, .v, 0⟩, ⟨15, 0, .ro, .v, 0⟩]⟩ -- R110
  | .LINE_GCFG => ⟨0x09800000, [], false, [⟨3, 0, .rw, .n, 15⟩]⟩ -- R112
  | .LINE_GSTAT => ⟨0x09800004, [], false, [⟨3, 3, .w1c, .v, 0⟩, ⟨1, 0, .ro, .v, 0⟩]⟩ -- R112
  | .GRP_REQ => ⟨0x09810000, [(256, 0x10)], false, [⟨31, 31, .w1s, .v, 0⟩, ⟨7, 0, .rw, .w, 0⟩]⟩ -- R113
  | .GRP_CFG => ⟨0x09810004, [(256, 0x10)], false, [⟨15, 8, .rwl, .w, 4⟩, ⟨7, 0, .rwl, .w, 240⟩]⟩ -- R113
  | .GRP_STAT => ⟨0x09810008, [(256, 0x10)], false, [⟨31, 29, .ro, .v, 0⟩, ⟨26, 24, .ro, .v, 0⟩, ⟨23, 16, .ro, .v, 0⟩, ⟨15, 8, .ro, .w, 0⟩]⟩ -- R113
  | .GRP_SPLIT => ⟨0x0981000C, [(256, 0x10)], false, [⟨15, 0, .ro, .v, 0⟩]⟩ -- R113
  | .CAN_CFG => ⟨0x0A000000, [(8, 0x10000)], false, [⟨31, 30, .rw, .w, 0⟩, ⟨29, 29, .rw, .w, 0⟩, ⟨28, 28, .rw, .w, 0⟩, ⟨27, 27, .rw, .w, 1⟩, ⟨26, 26, .rw, .w, 0⟩, ⟨7, 0, .rw, .w, 64⟩]⟩ -- R494
  | .CAN_NBT => ⟨0x0A000004, [(8, 0x10000)], false, [⟨31, 23, .rw, .w, 4⟩, ⟨22, 14, .rw, .w, 79⟩, ⟨13, 7, .rw, .w, 20⟩, ⟨6, 0, .rw, .w, 20⟩]⟩ -- R495
  | .CAN_DBT => ⟨0x0A000008, [(8, 0x10000)], false, [⟨31, 26, .rw, .w, 4⟩, ⟨25, 20, .rw, .w, 19⟩, ⟨19, 15, .rw, .w, 5⟩, ⟨14, 10, .rw, .w, 5⟩, ⟨7, 0, .rw, .w, 80⟩]⟩ -- R495
  | .CAN_CTL => ⟨0x0A00000C, [(8, 0x10000)], false, [⟨2, 2, .w1s, .v, 0⟩, ⟨1, 1, .w1s, .v, 0⟩, ⟨0, 0, .w1s, .v, 0⟩]⟩ -- R496
  | .CAN_STAT => ⟨0x0A000010, [(8, 0x10000)], false, [⟨31, 29, .ro, .v, 0⟩, ⟨28, 28, .ro, .v, 0⟩, ⟨27, 27, .ro, .v, 0⟩, ⟨26, 26, .ro, .v, 0⟩, ⟨24, 16, .ro, .v, 0⟩, ⟨7, 0, .ro, .v, 0⟩]⟩ -- R496
  | .CAN_RATE => ⟨0x0A000014, [(8, 0x10000)], false, [⟨31, 0, .ro, .v, 0⟩]⟩ -- R497
  | .CAN_TDCV => ⟨0x0A000018, [(8, 0x10000)], false, [⟨7, 0, .ro, .v, 0⟩]⟩ -- R497
  | .CAN_CNT_NOMATCH => ⟨0x0A000020, [(8, 0x10000)], true, [⟨31, 0, .ro, .v, 0⟩]⟩ -- R497
  | .CAN_CNT_RXOVF => ⟨0x0A000024, [(8, 0x10000)], true, [⟨31, 0, .ro, .v, 0⟩]⟩ -- R497
  | .CAN_CNT_ACKERR => ⟨0x0A000028, [(8, 0x10000)], true, [⟨31, 0, .ro, .v, 0⟩]⟩ -- R497
  | .CAN_CNT_BITERR => ⟨0x0A00002C, [(8, 0x10000)], true, [⟨31, 0, .ro, .v, 0⟩]⟩ -- R497
  | .CAN_CNT_STUFF => ⟨0x0A000030, [(8, 0x10000)], true, [⟨31, 0, .ro, .v, 0⟩]⟩ -- R497
  | .CAN_CNT_FORM => ⟨0x0A000034, [(8, 0x10000)], true, [⟨31, 0, .ro, .v, 0⟩]⟩ -- R497
  | .CAN_CNT_CRC => ⟨0x0A000038, [(8, 0x10000)], true, [⟨31, 0, .ro, .v, 0⟩]⟩ -- R497
  | .CAN_CLASH_ID => ⟨0x0A000040, [(8, 0x10000), (8, 0x4)], false, [⟨31, 31, .ro, .v, 0⟩, ⟨30, 30, .ro, .v, 0⟩, ⟨28, 0, .ro, .v, 0⟩]⟩ -- R497
  | .CAN_TXB_STAT => ⟨0x0A000080, [(8, 0x10000), (32, 0x4)], false, [⟨31, 30, .ro, .v, 0⟩, ⟨29, 29, .ro, .v, 0⟩, ⟨28, 0, .ro, .v, 0⟩]⟩ -- R497
  | .CAN_FLT_MATCH => ⟨0x0A000100, [(8, 0x10000), (64, 0x8)], false, [⟨31, 31, .rw, .w, 0⟩, ⟨30, 30, .rw, .w, 0⟩, ⟨29, 29, .rw, .w, 0⟩, ⟨28, 0, .rw, .w, 0⟩]⟩ -- R498
  | .CAN_FLT_MASK => ⟨0x0A000104, [(8, 0x10000), (64, 0x8)], false, [⟨29, 29, .rw, .w, 0⟩, ⟨28, 0, .rw, .w, 0⟩]⟩ -- R498
  | .DIO_BANK_CFG => ⟨0x0A800000, [(4, 0x40)], false, [⟨31, 16, .ro, .w, 1000⟩, ⟨7, 0, .rw, .w, 10⟩]⟩ -- R472
  | .DIO_BANK_STAT => ⟨0x0A800004, [(4, 0x40)], false, [⟨31, 31, .ro, .v, 0⟩, ⟨30, 30, .ro, .v, 0⟩, ⟨29, 29, .ro, .v, 0⟩, ⟨28, 28, .ro, .v, 0⟩, ⟨27, 27, .ro, .v, 1⟩, ⟨8, 0, .ro, .v, 0⟩]⟩ -- R472
  | .DIO_BANK_CTL => ⟨0x0A800008, [(4, 0x40)], false, [⟨1, 1, .w1s, .v, 0⟩, ⟨0, 0, .w1s, .v, 0⟩]⟩ -- R473
  | .DIO_IN => ⟨0x0A80000C, [(4, 0x40)], false, [⟨15, 0, .ro, .v, 0⟩]⟩ -- R473
  | .DIO_OUT => ⟨0x0A800010, [(4, 0x40)], false, [⟨15, 0, .rw, .v, 0⟩]⟩ -- R473
  | .DIO_OUT_SET => ⟨0x0A800014, [(4, 0x40)], false, [⟨15, 0, .w1s, .v, 0⟩]⟩ -- R473
  | .DIO_OUT_CLR => ⟨0x0A800018, [(4, 0x40)], false, [⟨15, 0, .w1c, .v, 0⟩]⟩ -- R473
  | .DIO_RB => ⟨0x0A80001C, [(4, 0x40)], false, [⟨15, 0, .ro, .v, 0⟩]⟩ -- R473
  | .DIO_FLT_A => ⟨0x0A800020, [(4, 0x40)], false, [⟨31, 16, .w1c, .v, 0⟩, ⟨15, 0, .w1c, .v, 0⟩]⟩ -- R473
  | .DIO_FLT_B => ⟨0x0A800024, [(4, 0x40)], false, [⟨31, 16, .w1c, .v, 0⟩, ⟨15, 0, .ro, .v, 0⟩]⟩ -- R473
  | .DIO_THCLR => ⟨0x0A800028, [(4, 0x40)], false, [⟨15, 0, .w1s, .v, 0⟩]⟩ -- R473
  | .DIO_CH_CFG => ⟨0x0A801000, [(64, 0x4)], false, [⟨31, 30, .rwl, .w, 2⟩, ⟨29, 29, .rwl, .w, 0⟩, ⟨28, 28, .ro, .w, 0⟩, ⟨27, 26, .rw, .w, 0⟩, ⟨25, 25, .rw, .w, 0⟩, ⟨7, 0, .rw, .w, 3⟩]⟩ -- R474
  | .DIO_CAP_TIME => ⟨0x0A802000, [(64, 0x8)], false, [⟨31, 0, .ro, .v, 0⟩]⟩ -- R474
  | .DIO_CAP_STAT => ⟨0x0A802004, [(64, 0x8)], false, [⟨31, 31, .ro, .v, 0⟩, ⟨0, 0, .ro, .v, 0⟩]⟩ -- R474
  | .SAFE_STAT => ⟨0x0B000000, [], false, [⟨31, 28, .ro, .v, 0⟩, ⟨27, 27, .ro, .v, 0⟩, ⟨26, 26, .ro, .v, 0⟩, ⟨25, 25, .ro, .v, 0⟩, ⟨23, 16, .ro, .k, 0⟩]⟩ -- R447
  | .SAFE_CTL => ⟨0x0B000004, [], false, [⟨0, 0, .w1s, .v, 0⟩]⟩ -- R448
  | .SAFE_SECTCRC => ⟨0x0B000008, [], false, [⟨31, 0, .ro, .w, 0⟩]⟩ -- R448
  | .SAFE_CNT_CRC => ⟨0x0B000010, [], true, [⟨31, 0, .ro, .v, 0⟩]⟩ -- R448
  | .SAFE_CNT_SEQ => ⟨0x0B000014, [], true, [⟨31, 0, .ro, .v, 0⟩]⟩ -- R448
  | .SAFE_CNT_REASM => ⟨0x0B000018, [], true, [⟨31, 0, .ro, .v, 0⟩]⟩ -- R448
  | .SAFE_CNT_DISC => ⟨0x0B00001C, [], true, [⟨31, 0, .ro, .v, 0⟩]⟩ -- R448
  | .SAFE_SA_STAT => ⟨0x0B001000, [(256, 0x10)], false, [⟨31, 31, .ro, .v, 0⟩, ⟨30, 30, .ro, .v, 0⟩, ⟨29, 28, .ro, .v, 0⟩, ⟨27, 27, .ro, .v, 0⟩, ⟨26, 26, .ro, .v, 0⟩, ⟨23, 16, .ro, .v, 255⟩]⟩ -- R449
  | .SAFE_SA_POS => ⟨0x0B001004, [(256, 0x10)], false, [⟨31, 0, .ro, .v, 0⟩]⟩ -- R449
  | .SAFE_SA_VEL => ⟨0x0B001008, [(256, 0x10)], false, [⟨31, 0, .ro, .v, 0⟩]⟩ -- R449
  | .SAFE_SA_DEV => ⟨0x0B00100C, [(256, 0x10)], false, [⟨31, 0, .ro, .v, 0⟩]⟩ -- R449
  | .SAFE_IN => ⟨0x0B002000, [(16, 0x4)], false, [⟨31, 31, .ro, .v, 1⟩, ⟨30, 30, .ro, .v, 0⟩, ⟨29, 28, .ro, .v, 0⟩]⟩ -- R450
  | .SAFE_CONN_STAT => ⟨0x0B003000, [(256, 0x10)], false, [⟨31, 30, .ro, .v, 3⟩, ⟨29, 29, .ro, .v, 0⟩, ⟨15, 0, .ro, .v, 0⟩]⟩ -- R451
  | .SAFE_CONN_TIME => ⟨0x0B003004, [(256, 0x10)], false, [⟨31, 0, .ro, .v, 0⟩]⟩ -- R451
  | .SAFE_CONN_CNT => ⟨0x0B003008, [(256, 0x10)], true, [⟨31, 16, .ro, .v, 0⟩, ⟨15, 0, .ro, .v, 0⟩]⟩ -- R451
  | .SAFE_FN => ⟨0x0B004000, [(128, 0x4)], false, [⟨31, 31, .ro, .v, 0⟩, ⟨30, 30, .ro, .v, 0⟩, ⟨29, 29, .ro, .v, 0⟩]⟩ -- R452
  | .CAP_CTL => ⟨0x0C000000, [], false, [⟨31, 31, .w1s, .v, 0⟩, ⟨30, 30, .w1s, .v, 0⟩, ⟨29, 29, .w1s, .v, 0⟩, ⟨28, 28, .w1s, .v, 0⟩]⟩ -- R514
  | .CAP_CFG => ⟨0x0C000004, [], false, [⟨31, 30, .rw, .w, 0⟩, ⟨29, 27, .rw, .w, 2⟩, ⟨26, 23, .rw, .w, 0⟩, ⟨22, 22, .rw, .w, 1⟩, ⟨21, 14, .rw, .w, 0⟩, ⟨13, 9, .rw, .w, 0⟩]⟩ -- R514
  | .CAP_LEN => ⟨0x0C000008, [], false, [⟨23, 0, .rw, .w, 4096⟩]⟩ -- R515
  | .CAP_PRE => ⟨0x0C00000C, [], false, [⟨23, 0, .rw, .w, 0⟩]⟩ -- R515
  | .CAP_NREC => ⟨0x0C000010, [], false, [⟨15, 0, .rw, .w, 1⟩]⟩ -- R515
  | .CAP_AUTO => ⟨0x0C000014, [], false, [⟨15, 0, .rw, .w, 0⟩]⟩ -- R515
  | .CAP_MEMSIZE => ⟨0x0C000018, [], false, [⟨10, 0, .rwl, .w, 0⟩]⟩ -- R515
  | .CAP_STAT => ⟨0x0C00001C, [], false, [⟨31, 28, .ro, .v, 0⟩, ⟨27, 24, .ro, .v, 0⟩, ⟨23, 23, .ro, .v, 0⟩, ⟨15, 0, .ro, .v, 0⟩]⟩ -- R515
  | .CAP_CNT_DROP => ⟨0x0C000020, [], true, [⟨31, 0, .ro, .v, 0⟩]⟩ -- R515
  | .CAP_CNT_HALF => ⟨0x0C000024, [], true, [⟨31, 0, .ro, .v, 0⟩]⟩ -- R515
  | .CAP_STOL => ⟨0x0C000028, [], false, [⟨9, 0, .rw, .w, 20⟩]⟩ -- R515
  | .CAP_TRIGMAP => ⟨0x0C00002C, [], false, [⟨31, 0, .ro, .v, 0⟩]⟩ -- R515
  | .CAP_CH => ⟨0x0C000100, [(128, 0x4)], false, [⟨31, 31, .rw, .w, 0⟩, ⟨30, 30, .rw, .w, 0⟩, ⟨29, 27, .rw, .w, 0⟩, ⟨26, 16, .rw, .w, 0⟩, ⟨11, 0, .rw, .w, 0⟩]⟩ -- R516
  | .CAP_RAW => ⟨0x0C000300, [(16, 0x4)], false, [⟨31, 29, .rw, .w, 0⟩, ⟨7, 0, .rw, .w, 0⟩]⟩ -- R516
  | .CAP_TRIG_CFG => ⟨0x0C000400, [(32, 0x10)], false, [⟨31, 28, .rw, .w, 0⟩, ⟨27, 27, .rw, .w, 0⟩, ⟨26, 26, .rw, .w, 0⟩, ⟨25, 24, .rw, .w, 0⟩, ⟨23, 23, .rw, .w, 0⟩, ⟨15, 0, .rw, .w, 0⟩]⟩ -- R517
  | .CAP_TRIG_LEVEL => ⟨0x0C000404, [(32, 0x10)], false, [⟨31, 0, .rw, .w, 0⟩]⟩ -- R517
  | .CAP_TRIG_LEVEL2 => ⟨0x0C000408, [(32, 0x10)], false, [⟨31, 0, .rw, .w, 0⟩]⟩ -- R517
  | .CAP_TRIG_STAMP => ⟨0x0C00040C, [(32, 0x10)], false, [⟨31, 0, .ro, .v, 0⟩]⟩ -- R517
  | .EVT_CTL => ⟨0x0C800000, [], false, [⟨31, 31, .w1s, .v, 0⟩, ⟨1, 1, .w1s, .v, 0⟩, ⟨0, 0, .w1s, .v, 0⟩]⟩ -- R535
  | .EVT_CFG => ⟨0x0C800004, [], false, [⟨6, 4, .rw, .n, 0⟩, ⟨2, 0, .rw, .n, 5⟩]⟩ -- R535
  | .EVT_STAT => ⟨0x0C800008, [], false, [⟨31, 30, .ro, .v, 0⟩, ⟨29, 29, .w1c, .v, 0⟩, ⟨28, 28, .w1c, .v, 0⟩, ⟨9, 0, .ro, .n, 0⟩]⟩ -- R536
  | .EVT_OLDEST => ⟨0x0C80000C, [], false, [⟨31, 0, .ro, .n, 0⟩]⟩ -- R536
  | .EVT_NEWEST => ⟨0x0C800010, [], false, [⟨31, 0, .ro, .n, 0⟩]⟩ -- R536
  | .EVT_COUNT => ⟨0x0C800014, [], false, [⟨19, 0, .ro, .n, 0⟩]⟩ -- R536
  | .EVT_BOOTNO => ⟨0x0C800018, [], false, [⟨15, 0, .ro, .n, 0⟩]⟩ -- R536
  | .EVT_LGCOUNT => ⟨0x0C80001C, [], false, [⟨6, 0, .ro, .n, 0⟩]⟩ -- R536
  | .EVT_OVF => ⟨0x0C800020, [(8, 0x4)], false, [⟨31, 0, .ro, .n, 0⟩]⟩ -- R536
  | .EVT_CURSOR => ⟨0x0C800040, [], false, [⟨31, 0, .rw, .v, 0⟩]⟩ -- R536
  | .EVT_CNT_LOST => ⟨0x0C800044, [], false, [⟨31, 0, .ro, .n, 0⟩]⟩ -- R536
  | .EVT_CNT_TORN => ⟨0x0C800048, [], false, [⟨31, 0, .ro, .n, 0⟩]⟩ -- R536
  | .EVT_REGMAP => ⟨0x0C800080, [(16, 0x4)], false, [⟨31, 0, .ro, .n, 0⟩]⟩ -- R536
  | .EVT_WIN => ⟨0x0C800400, [(16, 0x40), (16, 0x4)], false, [⟨31, 0, .ro, .v, 0⟩]⟩ -- R526
  | .PAIR_CFG => ⟨0x0D000000, [], false, [⟨31, 24, .rwl, .w, 4⟩, ⟨23, 16, .rwl, .w, 4⟩, ⟨0, 0, .ro, .w, 0⟩]⟩ -- R559
  | .PAIR_CTL => ⟨0x0D000004, [], false, [⟨1, 1, .w1s, .v, 0⟩, ⟨0, 0, .w1s, .v, 0⟩]⟩ -- R560
  | .PAIR_STAT => ⟨0x0D000008, [], false, [⟨31, 30, .ro, .v, 0⟩, ⟨29, 29, .ro, .v, 0⟩, ⟨28, 28, .ro, .v, 0⟩, ⟨27, 27, .ro, .v, 0⟩, ⟨26, 26, .w1c, .v, 0⟩, ⟨25, 25, .w1c, .v, 0⟩, ⟨23, 16, .ro, .v, 0⟩, ⟨15, 12, .ro, .v, 0⟩, ⟨2, 0, .ro, .v, 0⟩]⟩ -- R561
  | .PAIR_MPOINT_LO => ⟨0x0D000010, [], false, [⟨31, 0, .ro, .v, 0⟩]⟩ -- R562
  | .PAIR_MPOINT_HI => ⟨0x0D000014, [], false, [⟨31, 0, .ro, .v, 0⟩]⟩ -- R562
  | .PAIR_PEER_SERIAL => ⟨0x0D000018, [], false, [⟨31, 0, .ro, .v, 0⟩]⟩ -- R562
  | .PAIR_LINKDLY => ⟨0x0D00001C, [], false, [⟨31, 0, .ro, .v, 0⟩]⟩ -- R562
  | .PAIR_TKO_TIME => ⟨0x0D000020, [], false, [⟨31, 0, .ro, .n, 0⟩]⟩ -- R562
  | .PAIR_TKO_CNT => ⟨0x0D000024, [], false, [⟨31, 0, .ro, .n, 0⟩]⟩ -- R562
  | .PAIR_CNT_RETX => ⟨0x0D000030, [], true, [⟨31, 0, .ro, .v, 0⟩]⟩ -- R562
  | .PAIR_CNT_GAP => ⟨0x0D000034, [], true, [⟨31, 0, .ro, .v, 0⟩]⟩ -- R562
  | .PAIR_CNT_RESYNC => ⟨0x0D000038, [], true, [⟨31, 0, .ro, .v, 0⟩]⟩ -- R562
  | .PAIR_CNT_WARN => ⟨0x0D00003C, [], true, [⟨31, 0, .ro, .v, 0⟩]⟩ -- R562
  | .HOST_CFG => ⟨0x0E000000, [], false, [⟨31, 16, .rw, .n, 29648⟩, ⟨15, 8, .rw, .n, 10⟩, ⟨7, 0, .rw, .n, 5⟩]⟩ -- R586
  | .HOST_CFG2 => ⟨0x0E000004, [], false, [⟨31, 16, .rw, .n, 29649⟩, ⟨15, 8, .rw, .n, 10⟩, ⟨0, 0, .rw, .n, 0⟩]⟩ -- R586
  | .HOST_CTL => ⟨0x0E000008, [], false, [⟨0, 0, .w1s, .v, 0⟩]⟩ -- R587
  | .HOST_STAT => ⟨0x0E00000C, [], false, [⟨31, 31, .ro, .k, 0⟩, ⟨29, 28, .ro, .k, 0⟩, ⟨27, 24, .ro, .k, 0⟩, ⟨1, 1, .ro, .v, 0⟩, ⟨0, 0, .ro, .v, 0⟩]⟩ -- R587
  | .HOST_P_MAC_LO => ⟨0x0E000100, [(2, 0x80)], false, [⟨31, 0, .ro, .o, 0⟩]⟩ -- R588
  | .HOST_P_MAC_HI => ⟨0x0E000104, [(2, 0x80)], false, [⟨15, 0, .ro, .o, 0⟩]⟩ -- R588
  | .HOST_P_IP4 => ⟨0x0E000108, [(2, 0x80)], false, [⟨31, 0, .rw, .n, 0⟩]⟩ -- R588
  | .HOST_P_IP4PFX => ⟨0x0E00010C, [(2, 0x80)], false, [⟨5, 0, .rw, .n, 24⟩]⟩ -- R588
  | .HOST_P_IP4GW => ⟨0x0E000110, [(2, 0x80)], false, [⟨31, 0, .rw, .n, 0⟩]⟩ -- R588
  | .HOST_P_IP6 => ⟨0x0E000120, [(2, 0x80), (4, 0x4)], false, [⟨31, 0, .rw, .n, 0⟩]⟩ -- R588
  | .HOST_P_IP6PFX => ⟨0x0E000130, [(2, 0x80)], false, [⟨7, 0, .rw, .n, 64⟩]⟩ -- R588
  | .HOST_P_CNT_RX => ⟨0x0E000140, [(2, 0x80)], true, [⟨31, 0, .ro, .v, 0⟩]⟩ -- R588
  | .HOST_P_CNT_TX => ⟨0x0E000144, [(2, 0x80)], true, [⟨31, 0, .ro, .v, 0⟩]⟩ -- R588
  | .HOST_P_CNT_DROP => ⟨0x0E000148, [(2, 0x80)], true, [⟨31, 0, .ro, .v, 0⟩]⟩ -- R588
  | .HOST_S_STAT => ⟨0x0E000200, [(4, 0x20)], false, [⟨31, 31, .ro, .k, 0⟩, ⟨30, 30, .ro, .k, 0⟩, ⟨29, 29, .ro, .k, 0⟩, ⟨15, 0, .ro, .k, 0⟩]⟩ -- R589
  | .HOST_S_DROP => ⟨0x0E000204, [(4, 0x20)], false, [⟨31, 0, .ro, .k, 0⟩]⟩ -- R589
  | .HOST_S_REJ => ⟨0x0E000208, [(4, 0x20)], true, [⟨31, 0, .ro, .v, 0⟩]⟩ -- R589
  | .HOST_S_RETX => ⟨0x0E00020C, [(4, 0x20)], true, [⟨31, 0, .ro, .v, 0⟩]⟩ -- R589
  | .HOST_Q_CFG => ⟨0x0E001000, [(128, 0x10)], false, [⟨31, 31, .ro, .k, 0⟩, ⟨29, 28, .ro, .k, 0⟩, ⟨27, 24, .ro, .k, 0⟩, ⟨23, 16, .ro, .k, 0⟩, ⟨6, 0, .ro, .k, 0⟩]⟩ -- R590
  | .HOST_Q_POS => ⟨0x0E001004, [(128, 0x10)], false, [⟨31, 0, .ro, .k, 0⟩]⟩ -- R590
  | .HOST_Q_ACK => ⟨0x0E001008, [(128, 0x10)], false, [⟨31, 0, .ro, .k, 0⟩]⟩ -- R590
  | .HOST_Q_CNT => ⟨0x0E00100C, [(128, 0x10)], true, [⟨31, 16, .ro, .v, 0⟩, ⟨15, 0, .ro, .v, 0⟩]⟩ -- R590

/-- Every register name, in address order of the blocks. -/
def regNames0 : List RegName := [.SYS_RST_CTL, .SYS_RST_STAT, .SYS_RST_CNT, .SYS_WDT_CFG, .SYS_PF_STAT, .SYS_ENV_STAT, .SYS_ENV_TEMP, .SYS_ENV_ENC, .CLK_CTL, .CLK_STAT, .PWR_LATTOL, .PWR_STAT, .PWR_WAKEIO, .PWR_TIME, .PWR_CNT, .SEC_STAT, .SEC_CTL, .SEC_SVCLEFT, .SEC_DBGLEFT, .SEC_CNT_QUOTE, .SEC_CNT_TOKFAIL, .SEC_CNT_DBGDENY, .SEC_OWNER_HASH, .SEC_MS, .SEC_EXTCNT, .TIME_CTL, .TIME_STAT, .TIME_NS_LO, .TIME_NS_HI, .TIME_TICK_LO, .TIME_TICK_HI, .TIME_UPTIME, .TIME_RATE, .TIME_STEP_LO, .TIME_STEP_HI, .TIME_PTP_CFG, .TIME_PTP_OFS, .TIME_PTP_DLY, .TIME_PTP_UTC, .TIME_CMP_TGT]
def regNames1 : List RegName := [.TIME_CMP_PER, .TIME_CMP_CTL, .TIME_CMP_STAT, .FAB_IMG_CTL, .FAB_IMG_STAT, .FAB_LOAD_ERR, .FAB_LOAD_IDX, .FAB_ACT_TIME, .FAB_IMG_ID, .FAB_IMG_VER, .FAB_IMG_HASH, .FAB_SCHED_UTIL, .CE_CTL, .CE_STAT, .CE_FAULT, .CE_FAULT_PC, .CE_FAULT_TIME, .CE_CNT_FAULT, .CE_CNT_OVR, .CE_CNT_ECC, .CE_CNT_STALL, .CE_UTIL, .CE_TASK_SEL, .CE_TASK_MAXCYC, .CE_TASK_MAXFIN, .CE_TASK_CNT, .CE_MEM_ADDR, .CE_MEM_DATA, .PWM_DRV_CFG, .PWM_DRV_STAT, .PWM_DRV_TYPE, .PWM_DRV_SERIAL, .PWM_DRV_DTFLOOR, .PWM_DRV_EXPTYPE, .PWM_TRIP_CFG, .SD_CFG, .SD_VAL, .PWM_LEG_CFG, .PWM_LEG_DT, .PWM_CMP_LO]
def regNames2 : List RegName := [.PWM_CMP_HI, .PWM_LEG_CTL, .PWM_LEG_STAT, .PWM_LEG_NAT, .PWM_LEG_CNT, .PWM_LEG_ACC, .FBK_ENC_CFG, .FBK_ENC_SSI, .FBK_ENC_POS, .FBK_ENC_PRESET, .FBK_ENC_SPD, .FBK_ENC_SPFS, .FBK_ENC_STAT, .FBK_ENC_CTL, .FBK_ENC_TLAST, .FBK_PRB_CFG, .FBK_PRB_CTL, .FBK_PRB_POS, .FBK_PRB_TIME, .FBK_PRB_STAT, .FBK_REM_CFG, .FBK_REM_POS, .FBK_REM_SPD, .FBK_REM_SPFS, .FBK_REM_STAT, .FBK_SUP, .AXIS_CTL, .AXIS_STAT, .AXIS_CFG, .AXIS_REACT, .AXIS_QDEC, .AXIS_FELIM, .AXIS_FEMAX, .AXIS_DLY_P, .AXIS_DLY_V, .AXIS_DLY_C, .AXIS_DLYMAX, .AXIS_DLYCYC, .AXIS_MANVAL, .AXIS_MANSLEW]
def regNames3 : List RegName := [.AXIS_STBY, .LVL_CFG, .LVL_KP0, .LVL_KI0, .LVL_KD0, .LVL_ILIM0, .LVL_KP1, .LVL_KI1, .LVL_KD1, .LVL_ILIM1, .LVL_DPOLE, .LVL_OLIM, .LVL_FFA, .LVL_FFB, .LVL_OBS_L1, .LVL_OBS_L2, .LVL_OBS_JINV, .FLT_CFG, .FLT_PAR, .FLT_B0, .FLT_B1, .FLT_B2, .FLT_A1, .FLT_A2, .PCFG, .AXIS_PA1, .AXIS_PA2, .AXIS_PB1, .AXIS_PB2, .AXIS_PLIM, .AXIS_PRES, .AXIS_PRESMAX, .AXIS_MOT_CTL, .AXIS_MOT_TGT_LO, .AXIS_MOT_TGT_HI, .AXIS_MOT_VMAX, .AXIS_MOT_AMAX, .AXIS_MOT_DMAX, .AXIS_MOT_JMAX, .AXIS_MOT_TVEL]
def regNames4 : List RegName := [.AXIS_MOT_POS_LO, .AXIS_MOT_POS_HI, .AXIS_MOT_VEL, .AXIS_MOT_ACC, .AXIS_MOT_STAT, .AXIS_VL_MIN_LO, .AXIS_VL_MIN_HI, .AXIS_VL_MAX_LO, .AXIS_VL_MAX_HI, .AXIS_VL_CFG, .AXIS_GEAR_CFG, .AXIS_GEAR_NUM, .AXIS_GEAR_DEN, .AXIS_GEAR_AT_LO, .AXIS_GEAR_AT_HI, .AXIS_GEAR_BLEND, .AXIS_GEAR_CTL, .AXIS_GEAR_FIRED_LO, .AXIS_GEAR_FIRED_HI, .AXIS_GEAR_CUR_NUM, .AXIS_GEAR_CUR_DEN, .AXIS_MOT_INPOS, .TRACK_CFG, .TRACK_STAT, .TRACK_POS_LO, .TRACK_POS_HI, .TRACK_VEL, .TRACK_ACC, .TRACK_REV, .TRACK_TIME, .TRACK_SET_LO, .TRACK_SET_HI, .TRACK_CORR, .TRACK_CORRSLEW, .TRACK_CORRREM, .TRACK_CTL, .VM_CTL, .VM_VEL, .VM_ACC, .VM_POS_LO]
def regNames5 : List RegName := [.VM_POS_HI, .VM_CURVEL, .VM_SET_LO, .VM_SET_HI, .ARM_CTL, .ARM_STAT, .ARM_CFG, .ARM_VCART, .ARM_WCART, .ARM_TJ, .ARM_THOLD, .ARM_SSLEW, .ARM_SCALE, .ARM_KEFF, .ARM_IKCFG, .ARM_IKLAM, .ARM_IKTOL, .ARM_NSGAIN, .ARM_SEGCUR, .ARM_SEGDONE, .ARM_TAU, .ARM_POSE, .ARM_IKRES, .ARM_SIGMA, .ARM_CNT, .ARM_QHOME, .TALL_CTL, .TALL_ITEMS, .TALL_ACTS, .TALL_PROJ_CFG, .TALL_CNT_FIRED, .TALL_CNT_LATE, .TALL_CNT_DISC, .TALL_CNT_DELAY, .TALL_CNT_DROP, .TALL_CNT_MISS, .TALL_CNT_TOLATE, .TALL_CNT_TOBUSY, .TALL_ITEM_SEL, .TALL_ACT_SEL]
def regNames6 : List RegName := [.TALL_ITEM_WIN, .TALL_ACT_WIN, .TALL_TRK_CFG, .TALL_TRK_STAT, .TALL_TRK_ERRMAX, .TALL_TRK_LASTERR, .TALL_TO_STAT, .TALL_TO_TFIRE, .TALL_TO_ACK, .TALL_TO_CNT, .GORSE_CTL, .GORSE_STAT, .GORSE_EVTIME, .GORSE_CNT_EVAL, .GORSE_CNT_FAIL, .GORSE_CNT_DUP, .GORSE_CNT_KAT, .GORSE_CNT_XCHK, .GORSE_GCFG, .GORSE_TOL, .GORSE_ARM_CFG, .GORSE_ARM_SLOW, .GORSE_ARM_ZONE, .GORSE_ARM_STAT, .GORSE_ARM_MARGIN, .GORSE_ARM_DIST, .GORSE_ARM_SP, .GORSE_ARM_PAIR, .GORSE_ARM_SPEED, .GORSE_ARM_CAPEN, .GORSE_SEN_STAT, .GORSE_SEN_TMEAS, .LINE_CFG, .LINE_CTL, .LINE_STAT, .LINE_NODES, .LINE_LOOPDLY, .LINE_BREAKPOS, .LINE_CYCLE, .LINE_CNT_DRIFT]
def regNames7 : List RegName := [.LINE_CNT_DISC, .LINE_CNT_CRC, .LINE_CNT_MISS, .LINE_CNT_MUTE, .LINE_CNT_HEAL, .LINE_MARK_OFS, .LINE_MARK_CTL, .LINE_SLOT_STAT, .LINE_GCFG, .LINE_GSTAT, .GRP_REQ, .GRP_CFG, .GRP_STAT, .GRP_SPLIT, .CAN_CFG, .CAN_NBT, .CAN_DBT, .CAN_CTL, .CAN_STAT, .CAN_RATE, .CAN_TDCV, .CAN_CNT_NOMATCH, .CAN_CNT_RXOVF, .CAN_CNT_ACKERR, .CAN_CNT_BITERR, .CAN_CNT_STUFF, .CAN_CNT_FORM, .CAN_CNT_CRC, .CAN_CLASH_ID, .CAN_TXB_STAT, .CAN_FLT_MATCH, .CAN_FLT_MASK, .DIO_BANK_CFG, .DIO_BANK_STAT, .DIO_BANK_CTL, .DIO_IN, .DIO_OUT, .DIO_OUT_SET, .DIO_OUT_CLR, .DIO_RB]
def regNames8 : List RegName := [.DIO_FLT_A, .DIO_FLT_B, .DIO_THCLR, .DIO_CH_CFG, .DIO_CAP_TIME, .DIO_CAP_STAT, .SAFE_STAT, .SAFE_CTL, .SAFE_SECTCRC, .SAFE_CNT_CRC, .SAFE_CNT_SEQ, .SAFE_CNT_REASM, .SAFE_CNT_DISC, .SAFE_SA_STAT, .SAFE_SA_POS, .SAFE_SA_VEL, .SAFE_SA_DEV, .SAFE_IN, .SAFE_CONN_STAT, .SAFE_CONN_TIME, .SAFE_CONN_CNT, .SAFE_FN, .CAP_CTL, .CAP_CFG, .CAP_LEN, .CAP_PRE, .CAP_NREC, .CAP_AUTO, .CAP_MEMSIZE, .CAP_STAT, .CAP_CNT_DROP, .CAP_CNT_HALF, .CAP_STOL, .CAP_TRIGMAP, .CAP_CH, .CAP_RAW, .CAP_TRIG_CFG, .CAP_TRIG_LEVEL, .CAP_TRIG_LEVEL2, .CAP_TRIG_STAMP]
def regNames9 : List RegName := [.EVT_CTL, .EVT_CFG, .EVT_STAT, .EVT_OLDEST, .EVT_NEWEST, .EVT_COUNT, .EVT_BOOTNO, .EVT_LGCOUNT, .EVT_OVF, .EVT_CURSOR, .EVT_CNT_LOST, .EVT_CNT_TORN, .EVT_REGMAP, .EVT_WIN, .PAIR_CFG, .PAIR_CTL, .PAIR_STAT, .PAIR_MPOINT_LO, .PAIR_MPOINT_HI, .PAIR_PEER_SERIAL, .PAIR_LINKDLY, .PAIR_TKO_TIME, .PAIR_TKO_CNT, .PAIR_CNT_RETX, .PAIR_CNT_GAP, .PAIR_CNT_RESYNC, .PAIR_CNT_WARN, .HOST_CFG, .HOST_CFG2, .HOST_CTL, .HOST_STAT, .HOST_P_MAC_LO, .HOST_P_MAC_HI, .HOST_P_IP4, .HOST_P_IP4PFX, .HOST_P_IP4GW, .HOST_P_IP6, .HOST_P_IP6PFX, .HOST_P_CNT_RX, .HOST_P_CNT_TX]
def regNames10 : List RegName := [.HOST_P_CNT_DROP, .HOST_S_STAT, .HOST_S_DROP, .HOST_S_REJ, .HOST_S_RETX, .HOST_Q_CFG, .HOST_Q_POS, .HOST_Q_ACK, .HOST_Q_CNT]
def regNames : List RegName :=
  regNames0 ++ regNames1 ++ regNames2 ++ regNames3 ++ regNames4 ++ regNames5 ++ regNames6 ++ regNames7 ++ regNames8 ++ regNames9 ++ regNames10

namespace R
abbrev SYS_RST_CTL : Reg := ⟨.SYS_RST_CTL, 0, 0⟩
abbrev SYS_RST_STAT : Reg := ⟨.SYS_RST_STAT, 0, 0⟩
abbrev SYS_RST_CNT : Reg := ⟨.SYS_RST_CNT, 0, 0⟩
abbrev SYS_WDT_CFG : Reg := ⟨.SYS_WDT_CFG, 0, 0⟩
abbrev SYS_PF_STAT : Reg := ⟨.SYS_PF_STAT, 0, 0⟩
abbrev SYS_ENV_STAT : Reg := ⟨.SYS_ENV_STAT, 0, 0⟩
abbrev SYS_ENV_TEMP : Reg := ⟨.SYS_ENV_TEMP, 0, 0⟩
abbrev SYS_ENV_ENC : Reg := ⟨.SYS_ENV_ENC, 0, 0⟩
abbrev CLK_CTL : Reg := ⟨.CLK_CTL, 0, 0⟩
abbrev CLK_STAT : Reg := ⟨.CLK_STAT, 0, 0⟩
abbrev PWR_LATTOL : Reg := ⟨.PWR_LATTOL, 0, 0⟩
abbrev PWR_STAT : Reg := ⟨.PWR_STAT, 0, 0⟩
abbrev PWR_WAKEIO (i : Nat) : Reg := ⟨.PWR_WAKEIO, i, 0⟩
abbrev PWR_TIME : Reg := ⟨.PWR_TIME, 0, 0⟩
abbrev PWR_CNT : Reg := ⟨.PWR_CNT, 0, 0⟩
abbrev SEC_STAT : Reg := ⟨.SEC_STAT, 0, 0⟩
abbrev SEC_CTL : Reg := ⟨.SEC_CTL, 0, 0⟩
abbrev SEC_SVCLEFT : Reg := ⟨.SEC_SVCLEFT, 0, 0⟩
abbrev SEC_DBGLEFT : Reg := ⟨.SEC_DBGLEFT, 0, 0⟩
abbrev SEC_CNT_QUOTE : Reg := ⟨.SEC_CNT_QUOTE, 0, 0⟩
abbrev SEC_CNT_TOKFAIL : Reg := ⟨.SEC_CNT_TOKFAIL, 0, 0⟩
abbrev SEC_CNT_DBGDENY : Reg := ⟨.SEC_CNT_DBGDENY, 0, 0⟩
abbrev SEC_OWNER_HASH (i : Nat) : Reg := ⟨.SEC_OWNER_HASH, i, 0⟩
abbrev SEC_MS (i j : Nat) : Reg := ⟨.SEC_MS, i, j⟩
abbrev SEC_EXTCNT (i : Nat) : Reg := ⟨.SEC_EXTCNT, i, 0⟩
abbrev TIME_CTL : Reg := ⟨.TIME_CTL, 0, 0⟩
abbrev TIME_STAT : Reg := ⟨.TIME_STAT, 0, 0⟩
abbrev TIME_NS_LO : Reg := ⟨.TIME_NS_LO, 0, 0⟩
abbrev TIME_NS_HI : Reg := ⟨.TIME_NS_HI, 0, 0⟩
abbrev TIME_TICK_LO : Reg := ⟨.TIME_TICK_LO, 0, 0⟩
abbrev TIME_TICK_HI : Reg := ⟨.TIME_TICK_HI, 0, 0⟩
abbrev TIME_UPTIME : Reg := ⟨.TIME_UPTIME, 0, 0⟩
abbrev TIME_RATE : Reg := ⟨.TIME_RATE, 0, 0⟩
abbrev TIME_STEP_LO : Reg := ⟨.TIME_STEP_LO, 0, 0⟩
abbrev TIME_STEP_HI : Reg := ⟨.TIME_STEP_HI, 0, 0⟩
abbrev TIME_PTP_CFG : Reg := ⟨.TIME_PTP_CFG, 0, 0⟩
abbrev TIME_PTP_OFS : Reg := ⟨.TIME_PTP_OFS, 0, 0⟩
abbrev TIME_PTP_DLY : Reg := ⟨.TIME_PTP_DLY, 0, 0⟩
abbrev TIME_PTP_UTC : Reg := ⟨.TIME_PTP_UTC, 0, 0⟩
abbrev TIME_CMP_TGT (i : Nat) : Reg := ⟨.TIME_CMP_TGT, i, 0⟩
abbrev TIME_CMP_PER (i : Nat) : Reg := ⟨.TIME_CMP_PER, i, 0⟩
abbrev TIME_CMP_CTL (i : Nat) : Reg := ⟨.TIME_CMP_CTL, i, 0⟩
abbrev TIME_CMP_STAT (i : Nat) : Reg := ⟨.TIME_CMP_STAT, i, 0⟩
abbrev FAB_IMG_CTL : Reg := ⟨.FAB_IMG_CTL, 0, 0⟩
abbrev FAB_IMG_STAT : Reg := ⟨.FAB_IMG_STAT, 0, 0⟩
abbrev FAB_LOAD_ERR : Reg := ⟨.FAB_LOAD_ERR, 0, 0⟩
abbrev FAB_LOAD_IDX : Reg := ⟨.FAB_LOAD_IDX, 0, 0⟩
abbrev FAB_ACT_TIME : Reg := ⟨.FAB_ACT_TIME, 0, 0⟩
abbrev FAB_IMG_ID : Reg := ⟨.FAB_IMG_ID, 0, 0⟩
abbrev FAB_IMG_VER : Reg := ⟨.FAB_IMG_VER, 0, 0⟩
abbrev FAB_IMG_HASH (i : Nat) : Reg := ⟨.FAB_IMG_HASH, i, 0⟩
abbrev FAB_SCHED_UTIL (i : Nat) : Reg := ⟨.FAB_SCHED_UTIL, i, 0⟩
abbrev CE_CTL (i : Nat) : Reg := ⟨.CE_CTL, i, 0⟩
abbrev CE_STAT (i : Nat) : Reg := ⟨.CE_STAT, i, 0⟩
abbrev CE_FAULT (i : Nat) : Reg := ⟨.CE_FAULT, i, 0⟩
abbrev CE_FAULT_PC (i : Nat) : Reg := ⟨.CE_FAULT_PC, i, 0⟩
abbrev CE_FAULT_TIME (i : Nat) : Reg := ⟨.CE_FAULT_TIME, i, 0⟩
abbrev CE_CNT_FAULT (i : Nat) : Reg := ⟨.CE_CNT_FAULT, i, 0⟩
abbrev CE_CNT_OVR (i : Nat) : Reg := ⟨.CE_CNT_OVR, i, 0⟩
abbrev CE_CNT_ECC (i : Nat) : Reg := ⟨.CE_CNT_ECC, i, 0⟩
abbrev CE_CNT_STALL (i : Nat) : Reg := ⟨.CE_CNT_STALL, i, 0⟩
abbrev CE_UTIL (i : Nat) : Reg := ⟨.CE_UTIL, i, 0⟩
abbrev CE_TASK_SEL (i : Nat) : Reg := ⟨.CE_TASK_SEL, i, 0⟩
abbrev CE_TASK_MAXCYC (i : Nat) : Reg := ⟨.CE_TASK_MAXCYC, i, 0⟩
abbrev CE_TASK_MAXFIN (i : Nat) : Reg := ⟨.CE_TASK_MAXFIN, i, 0⟩
abbrev CE_TASK_CNT (i : Nat) : Reg := ⟨.CE_TASK_CNT, i, 0⟩
abbrev CE_MEM_ADDR (i : Nat) : Reg := ⟨.CE_MEM_ADDR, i, 0⟩
abbrev CE_MEM_DATA (i : Nat) : Reg := ⟨.CE_MEM_DATA, i, 0⟩
abbrev PWM_DRV_CFG (i : Nat) : Reg := ⟨.PWM_DRV_CFG, i, 0⟩
abbrev PWM_DRV_STAT (i : Nat) : Reg := ⟨.PWM_DRV_STAT, i, 0⟩
abbrev PWM_DRV_TYPE (i : Nat) : Reg := ⟨.PWM_DRV_TYPE, i, 0⟩
abbrev PWM_DRV_SERIAL (i : Nat) : Reg := ⟨.PWM_DRV_SERIAL, i, 0⟩
abbrev PWM_DRV_DTFLOOR (i : Nat) : Reg := ⟨.PWM_DRV_DTFLOOR, i, 0⟩
abbrev PWM_DRV_EXPTYPE (i : Nat) : Reg := ⟨.PWM_DRV_EXPTYPE, i, 0⟩
abbrev PWM_TRIP_CFG (i j : Nat) : Reg := ⟨.PWM_TRIP_CFG, i, j⟩
abbrev SD_CFG (i j : Nat) : Reg := ⟨.SD_CFG, i, j⟩
abbrev SD_VAL (i j : Nat) : Reg := ⟨.SD_VAL, i, j⟩
abbrev PWM_LEG_CFG (i j : Nat) : Reg := ⟨.PWM_LEG_CFG, i, j⟩
abbrev PWM_LEG_DT (i j : Nat) : Reg := ⟨.PWM_LEG_DT, i, j⟩
abbrev PWM_CMP_LO (i j : Nat) : Reg := ⟨.PWM_CMP_LO, i, j⟩
abbrev PWM_CMP_HI (i j : Nat) : Reg := ⟨.PWM_CMP_HI, i, j⟩
abbrev PWM_LEG_CTL (i j : Nat) : Reg := ⟨.PWM_LEG_CTL, i, j⟩
abbrev PWM_LEG_STAT (i j : Nat) : Reg := ⟨.PWM_LEG_STAT, i, j⟩
abbrev PWM_LEG_NAT (i j : Nat) : Reg := ⟨.PWM_LEG_NAT, i, j⟩
abbrev PWM_LEG_CNT (i j : Nat) : Reg := ⟨.PWM_LEG_CNT, i, j⟩
abbrev PWM_LEG_ACC (i j : Nat) : Reg := ⟨.PWM_LEG_ACC, i, j⟩
abbrev FBK_ENC_CFG (i : Nat) : Reg := ⟨.FBK_ENC_CFG, i, 0⟩
abbrev FBK_ENC_SSI (i : Nat) : Reg := ⟨.FBK_ENC_SSI, i, 0⟩
abbrev FBK_ENC_POS (i : Nat) : Reg := ⟨.FBK_ENC_POS, i, 0⟩
abbrev FBK_ENC_PRESET (i : Nat) : Reg := ⟨.FBK_ENC_PRESET, i, 0⟩
abbrev FBK_ENC_SPD (i : Nat) : Reg := ⟨.FBK_ENC_SPD, i, 0⟩
abbrev FBK_ENC_SPFS (i : Nat) : Reg := ⟨.FBK_ENC_SPFS, i, 0⟩
abbrev FBK_ENC_STAT (i : Nat) : Reg := ⟨.FBK_ENC_STAT, i, 0⟩
abbrev FBK_ENC_CTL (i : Nat) : Reg := ⟨.FBK_ENC_CTL, i, 0⟩
abbrev FBK_ENC_TLAST (i : Nat) : Reg := ⟨.FBK_ENC_TLAST, i, 0⟩
abbrev FBK_PRB_CFG (i : Nat) : Reg := ⟨.FBK_PRB_CFG, i, 0⟩
abbrev FBK_PRB_CTL (i : Nat) : Reg := ⟨.FBK_PRB_CTL, i, 0⟩
abbrev FBK_PRB_POS (i : Nat) : Reg := ⟨.FBK_PRB_POS, i, 0⟩
abbrev FBK_PRB_TIME (i : Nat) : Reg := ⟨.FBK_PRB_TIME, i, 0⟩
abbrev FBK_PRB_STAT (i : Nat) : Reg := ⟨.FBK_PRB_STAT, i, 0⟩
abbrev FBK_REM_CFG (i : Nat) : Reg := ⟨.FBK_REM_CFG, i, 0⟩
abbrev FBK_REM_POS (i : Nat) : Reg := ⟨.FBK_REM_POS, i, 0⟩
abbrev FBK_REM_SPD (i : Nat) : Reg := ⟨.FBK_REM_SPD, i, 0⟩
abbrev FBK_REM_SPFS (i : Nat) : Reg := ⟨.FBK_REM_SPFS, i, 0⟩
abbrev FBK_REM_STAT (i : Nat) : Reg := ⟨.FBK_REM_STAT, i, 0⟩
abbrev FBK_SUP : Reg := ⟨.FBK_SUP, 0, 0⟩
abbrev AXIS_CTL (i : Nat) : Reg := ⟨.AXIS_CTL, i, 0⟩
abbrev AXIS_STAT (i : Nat) : Reg := ⟨.AXIS_STAT, i, 0⟩
abbrev AXIS_CFG (i : Nat) : Reg := ⟨.AXIS_CFG, i, 0⟩
abbrev AXIS_REACT (i : Nat) : Reg := ⟨.AXIS_REACT, i, 0⟩
abbrev AXIS_QDEC (i : Nat) : Reg := ⟨.AXIS_QDEC, i, 0⟩
abbrev AXIS_FELIM (i : Nat) : Reg := ⟨.AXIS_FELIM, i, 0⟩
abbrev AXIS_FEMAX (i : Nat) : Reg := ⟨.AXIS_FEMAX, i, 0⟩
abbrev AXIS_DLY_P (i : Nat) : Reg := ⟨.AXIS_DLY_P, i, 0⟩
abbrev AXIS_DLY_V (i : Nat) : Reg := ⟨.AXIS_DLY_V, i, 0⟩
abbrev AXIS_DLY_C (i : Nat) : Reg := ⟨.AXIS_DLY_C, i, 0⟩
abbrev AXIS_DLYMAX (i : Nat) : Reg := ⟨.AXIS_DLYMAX, i, 0⟩
abbrev AXIS_DLYCYC (i : Nat) : Reg := ⟨.AXIS_DLYCYC, i, 0⟩
abbrev AXIS_MANVAL (i : Nat) : Reg := ⟨.AXIS_MANVAL, i, 0⟩
abbrev AXIS_MANSLEW (i : Nat) : Reg := ⟨.AXIS_MANSLEW, i, 0⟩
abbrev AXIS_STBY (i : Nat) : Reg := ⟨.AXIS_STBY, i, 0⟩
abbrev LVL_CFG (i j : Nat) : Reg := ⟨.LVL_CFG, i, j⟩
abbrev LVL_KP0 (i j : Nat) : Reg := ⟨.LVL_KP0, i, j⟩
abbrev LVL_KI0 (i j : Nat) : Reg := ⟨.LVL_KI0, i, j⟩
abbrev LVL_KD0 (i j : Nat) : Reg := ⟨.LVL_KD0, i, j⟩
abbrev LVL_ILIM0 (i j : Nat) : Reg := ⟨.LVL_ILIM0, i, j⟩
abbrev LVL_KP1 (i j : Nat) : Reg := ⟨.LVL_KP1, i, j⟩
abbrev LVL_KI1 (i j : Nat) : Reg := ⟨.LVL_KI1, i, j⟩
abbrev LVL_KD1 (i j : Nat) : Reg := ⟨.LVL_KD1, i, j⟩
abbrev LVL_ILIM1 (i j : Nat) : Reg := ⟨.LVL_ILIM1, i, j⟩
abbrev LVL_DPOLE (i j : Nat) : Reg := ⟨.LVL_DPOLE, i, j⟩
abbrev LVL_OLIM (i j : Nat) : Reg := ⟨.LVL_OLIM, i, j⟩
abbrev LVL_FFA (i j : Nat) : Reg := ⟨.LVL_FFA, i, j⟩
abbrev LVL_FFB (i j : Nat) : Reg := ⟨.LVL_FFB, i, j⟩
abbrev LVL_OBS_L1 (i j : Nat) : Reg := ⟨.LVL_OBS_L1, i, j⟩
abbrev LVL_OBS_L2 (i j : Nat) : Reg := ⟨.LVL_OBS_L2, i, j⟩
abbrev LVL_OBS_JINV (i j : Nat) : Reg := ⟨.LVL_OBS_JINV, i, j⟩
abbrev FLT_CFG (i j : Nat) : Reg := ⟨.FLT_CFG, i, j⟩
abbrev FLT_PAR (i j : Nat) : Reg := ⟨.FLT_PAR, i, j⟩
abbrev FLT_B0 (i j : Nat) : Reg := ⟨.FLT_B0, i, j⟩
abbrev FLT_B1 (i j : Nat) : Reg := ⟨.FLT_B1, i, j⟩
abbrev FLT_B2 (i j : Nat) : Reg := ⟨.FLT_B2, i, j⟩
abbrev FLT_A1 (i j : Nat) : Reg := ⟨.FLT_A1, i, j⟩
abbrev FLT_A2 (i j : Nat) : Reg := ⟨.FLT_A2, i, j⟩
abbrev PCFG (i : Nat) : Reg := ⟨.PCFG, i, 0⟩
abbrev AXIS_PA1 (i : Nat) : Reg := ⟨.AXIS_PA1, i, 0⟩
abbrev AXIS_PA2 (i : Nat) : Reg := ⟨.AXIS_PA2, i, 0⟩
abbrev AXIS_PB1 (i : Nat) : Reg := ⟨.AXIS_PB1, i, 0⟩
abbrev AXIS_PB2 (i : Nat) : Reg := ⟨.AXIS_PB2, i, 0⟩
abbrev AXIS_PLIM (i : Nat) : Reg := ⟨.AXIS_PLIM, i, 0⟩
abbrev AXIS_PRES (i : Nat) : Reg := ⟨.AXIS_PRES, i, 0⟩
abbrev AXIS_PRESMAX (i : Nat) : Reg := ⟨.AXIS_PRESMAX, i, 0⟩
abbrev AXIS_MOT_CTL (i : Nat) : Reg := ⟨.AXIS_MOT_CTL, i, 0⟩
abbrev AXIS_MOT_TGT_LO (i : Nat) : Reg := ⟨.AXIS_MOT_TGT_LO, i, 0⟩
abbrev AXIS_MOT_TGT_HI (i : Nat) : Reg := ⟨.AXIS_MOT_TGT_HI, i, 0⟩
abbrev AXIS_MOT_VMAX (i : Nat) : Reg := ⟨.AXIS_MOT_VMAX, i, 0⟩
abbrev AXIS_MOT_AMAX (i : Nat) : Reg := ⟨.AXIS_MOT_AMAX, i, 0⟩
abbrev AXIS_MOT_DMAX (i : Nat) : Reg := ⟨.AXIS_MOT_DMAX, i, 0⟩
abbrev AXIS_MOT_JMAX (i : Nat) : Reg := ⟨.AXIS_MOT_JMAX, i, 0⟩
abbrev AXIS_MOT_TVEL (i : Nat) : Reg := ⟨.AXIS_MOT_TVEL, i, 0⟩
abbrev AXIS_MOT_POS_LO (i : Nat) : Reg := ⟨.AXIS_MOT_POS_LO, i, 0⟩
abbrev AXIS_MOT_POS_HI (i : Nat) : Reg := ⟨.AXIS_MOT_POS_HI, i, 0⟩
abbrev AXIS_MOT_VEL (i : Nat) : Reg := ⟨.AXIS_MOT_VEL, i, 0⟩
abbrev AXIS_MOT_ACC (i : Nat) : Reg := ⟨.AXIS_MOT_ACC, i, 0⟩
abbrev AXIS_MOT_STAT (i : Nat) : Reg := ⟨.AXIS_MOT_STAT, i, 0⟩
abbrev AXIS_VL_MIN_LO (i : Nat) : Reg := ⟨.AXIS_VL_MIN_LO, i, 0⟩
abbrev AXIS_VL_MIN_HI (i : Nat) : Reg := ⟨.AXIS_VL_MIN_HI, i, 0⟩
abbrev AXIS_VL_MAX_LO (i : Nat) : Reg := ⟨.AXIS_VL_MAX_LO, i, 0⟩
abbrev AXIS_VL_MAX_HI (i : Nat) : Reg := ⟨.AXIS_VL_MAX_HI, i, 0⟩
abbrev AXIS_VL_CFG (i : Nat) : Reg := ⟨.AXIS_VL_CFG, i, 0⟩
abbrev AXIS_GEAR_CFG (i : Nat) : Reg := ⟨.AXIS_GEAR_CFG, i, 0⟩
abbrev AXIS_GEAR_NUM (i : Nat) : Reg := ⟨.AXIS_GEAR_NUM, i, 0⟩
abbrev AXIS_GEAR_DEN (i : Nat) : Reg := ⟨.AXIS_GEAR_DEN, i, 0⟩
abbrev AXIS_GEAR_AT_LO (i : Nat) : Reg := ⟨.AXIS_GEAR_AT_LO, i, 0⟩
abbrev AXIS_GEAR_AT_HI (i : Nat) : Reg := ⟨.AXIS_GEAR_AT_HI, i, 0⟩
abbrev AXIS_GEAR_BLEND (i : Nat) : Reg := ⟨.AXIS_GEAR_BLEND, i, 0⟩
abbrev AXIS_GEAR_CTL (i : Nat) : Reg := ⟨.AXIS_GEAR_CTL, i, 0⟩
abbrev AXIS_GEAR_FIRED_LO (i : Nat) : Reg := ⟨.AXIS_GEAR_FIRED_LO, i, 0⟩
abbrev AXIS_GEAR_FIRED_HI (i : Nat) : Reg := ⟨.AXIS_GEAR_FIRED_HI, i, 0⟩
abbrev AXIS_GEAR_CUR_NUM (i : Nat) : Reg := ⟨.AXIS_GEAR_CUR_NUM, i, 0⟩
abbrev AXIS_GEAR_CUR_DEN (i : Nat) : Reg := ⟨.AXIS_GEAR_CUR_DEN, i, 0⟩
abbrev AXIS_MOT_INPOS (i : Nat) : Reg := ⟨.AXIS_MOT_INPOS, i, 0⟩
abbrev TRACK_CFG (i : Nat) : Reg := ⟨.TRACK_CFG, i, 0⟩
abbrev TRACK_STAT (i : Nat) : Reg := ⟨.TRACK_STAT, i, 0⟩
abbrev TRACK_POS_LO (i : Nat) : Reg := ⟨.TRACK_POS_LO, i, 0⟩
abbrev TRACK_POS_HI (i : Nat) : Reg := ⟨.TRACK_POS_HI, i, 0⟩
abbrev TRACK_VEL (i : Nat) : Reg := ⟨.TRACK_VEL, i, 0⟩
abbrev TRACK_ACC (i : Nat) : Reg := ⟨.TRACK_ACC, i, 0⟩
abbrev TRACK_REV (i : Nat) : Reg := ⟨.TRACK_REV, i, 0⟩
abbrev TRACK_TIME (i : Nat) : Reg := ⟨.TRACK_TIME, i, 0⟩
abbrev TRACK_SET_LO (i : Nat) : Reg := ⟨.TRACK_SET_LO, i, 0⟩
abbrev TRACK_SET_HI (i : Nat) : Reg := ⟨.TRACK_SET_HI, i, 0⟩
abbrev TRACK_CORR (i : Nat) : Reg := ⟨.TRACK_CORR, i, 0⟩
abbrev TRACK_CORRSLEW (i : Nat) : Reg := ⟨.TRACK_CORRSLEW, i, 0⟩
abbrev TRACK_CORRREM (i : Nat) : Reg := ⟨.TRACK_CORRREM, i, 0⟩
abbrev TRACK_CTL (i : Nat) : Reg := ⟨.TRACK_CTL, i, 0⟩
abbrev VM_CTL (i : Nat) : Reg := ⟨.VM_CTL, i, 0⟩
abbrev VM_VEL (i : Nat) : Reg := ⟨.VM_VEL, i, 0⟩
abbrev VM_ACC (i : Nat) : Reg := ⟨.VM_ACC, i, 0⟩
abbrev VM_POS_LO (i : Nat) : Reg := ⟨.VM_POS_LO, i, 0⟩
abbrev VM_POS_HI (i : Nat) : Reg := ⟨.VM_POS_HI, i, 0⟩
abbrev VM_CURVEL (i : Nat) : Reg := ⟨.VM_CURVEL, i, 0⟩
abbrev VM_SET_LO (i : Nat) : Reg := ⟨.VM_SET_LO, i, 0⟩
abbrev VM_SET_HI (i : Nat) : Reg := ⟨.VM_SET_HI, i, 0⟩
abbrev ARM_CTL (i : Nat) : Reg := ⟨.ARM_CTL, i, 0⟩
abbrev ARM_STAT (i : Nat) : Reg := ⟨.ARM_STAT, i, 0⟩
abbrev ARM_CFG (i : Nat) : Reg := ⟨.ARM_CFG, i, 0⟩
abbrev ARM_VCART (i : Nat) : Reg := ⟨.ARM_VCART, i, 0⟩
abbrev ARM_WCART (i : Nat) : Reg := ⟨.ARM_WCART, i, 0⟩
abbrev ARM_TJ (i : Nat) : Reg := ⟨.ARM_TJ, i, 0⟩
abbrev ARM_THOLD (i : Nat) : Reg := ⟨.ARM_THOLD, i, 0⟩
abbrev ARM_SSLEW (i : Nat) : Reg := ⟨.ARM_SSLEW, i, 0⟩
abbrev ARM_SCALE (i : Nat) : Reg := ⟨.ARM_SCALE, i, 0⟩
abbrev ARM_KEFF (i : Nat) : Reg := ⟨.ARM_KEFF, i, 0⟩
abbrev ARM_IKCFG (i : Nat) : Reg := ⟨.ARM_IKCFG, i, 0⟩
abbrev ARM_IKLAM (i : Nat) : Reg := ⟨.ARM_IKLAM, i, 0⟩
abbrev ARM_IKTOL (i : Nat) : Reg := ⟨.ARM_IKTOL, i, 0⟩
abbrev ARM_NSGAIN (i : Nat) : Reg := ⟨.ARM_NSGAIN, i, 0⟩
abbrev ARM_SEGCUR (i : Nat) : Reg := ⟨.ARM_SEGCUR, i, 0⟩
abbrev ARM_SEGDONE (i : Nat) : Reg := ⟨.ARM_SEGDONE, i, 0⟩
abbrev ARM_TAU (i : Nat) : Reg := ⟨.ARM_TAU, i, 0⟩
abbrev ARM_POSE (i j : Nat) : Reg := ⟨.ARM_POSE, i, j⟩
abbrev ARM_IKRES (i : Nat) : Reg := ⟨.ARM_IKRES, i, 0⟩
abbrev ARM_SIGMA (i : Nat) : Reg := ⟨.ARM_SIGMA, i, 0⟩
abbrev ARM_CNT (i : Nat) : Reg := ⟨.ARM_CNT, i, 0⟩
abbrev ARM_QHOME (i j : Nat) : Reg := ⟨.ARM_QHOME, i, j⟩
abbrev TALL_CTL : Reg := ⟨.TALL_CTL, 0, 0⟩
abbrev TALL_ITEMS : Reg := ⟨.TALL_ITEMS, 0, 0⟩
abbrev TALL_ACTS : Reg := ⟨.TALL_ACTS, 0, 0⟩
abbrev TALL_PROJ_CFG : Reg := ⟨.TALL_PROJ_CFG, 0, 0⟩
abbrev TALL_CNT_FIRED : Reg := ⟨.TALL_CNT_FIRED, 0, 0⟩
abbrev TALL_CNT_LATE : Reg := ⟨.TALL_CNT_LATE, 0, 0⟩
abbrev TALL_CNT_DISC : Reg := ⟨.TALL_CNT_DISC, 0, 0⟩
abbrev TALL_CNT_DELAY : Reg := ⟨.TALL_CNT_DELAY, 0, 0⟩
abbrev TALL_CNT_DROP : Reg := ⟨.TALL_CNT_DROP, 0, 0⟩
abbrev TALL_CNT_MISS : Reg := ⟨.TALL_CNT_MISS, 0, 0⟩
abbrev TALL_CNT_TOLATE : Reg := ⟨.TALL_CNT_TOLATE, 0, 0⟩
abbrev TALL_CNT_TOBUSY : Reg := ⟨.TALL_CNT_TOBUSY, 0, 0⟩
abbrev TALL_ITEM_SEL : Reg := ⟨.TALL_ITEM_SEL, 0, 0⟩
abbrev TALL_ACT_SEL : Reg := ⟨.TALL_ACT_SEL, 0, 0⟩
abbrev TALL_ITEM_WIN (i : Nat) : Reg := ⟨.TALL_ITEM_WIN, i, 0⟩
abbrev TALL_ACT_WIN (i : Nat) : Reg := ⟨.TALL_ACT_WIN, i, 0⟩
abbrev TALL_TRK_CFG (i : Nat) : Reg := ⟨.TALL_TRK_CFG, i, 0⟩
abbrev TALL_TRK_STAT (i : Nat) : Reg := ⟨.TALL_TRK_STAT, i, 0⟩
abbrev TALL_TRK_ERRMAX (i : Nat) : Reg := ⟨.TALL_TRK_ERRMAX, i, 0⟩
abbrev TALL_TRK_LASTERR (i : Nat) : Reg := ⟨.TALL_TRK_LASTERR, i, 0⟩
abbrev TALL_TO_STAT (i : Nat) : Reg := ⟨.TALL_TO_STAT, i, 0⟩
abbrev TALL_TO_TFIRE (i : Nat) : Reg := ⟨.TALL_TO_TFIRE, i, 0⟩
abbrev TALL_TO_ACK (i : Nat) : Reg := ⟨.TALL_TO_ACK, i, 0⟩
abbrev TALL_TO_CNT (i : Nat) : Reg := ⟨.TALL_TO_CNT, i, 0⟩
abbrev GORSE_CTL : Reg := ⟨.GORSE_CTL, 0, 0⟩
abbrev GORSE_STAT : Reg := ⟨.GORSE_STAT, 0, 0⟩
abbrev GORSE_EVTIME : Reg := ⟨.GORSE_EVTIME, 0, 0⟩
abbrev GORSE_CNT_EVAL : Reg := ⟨.GORSE_CNT_EVAL, 0, 0⟩
abbrev GORSE_CNT_FAIL : Reg := ⟨.GORSE_CNT_FAIL, 0, 0⟩
abbrev GORSE_CNT_DUP : Reg := ⟨.GORSE_CNT_DUP, 0, 0⟩
abbrev GORSE_CNT_KAT : Reg := ⟨.GORSE_CNT_KAT, 0, 0⟩
abbrev GORSE_CNT_XCHK : Reg := ⟨.GORSE_CNT_XCHK, 0, 0⟩
abbrev GORSE_GCFG : Reg := ⟨.GORSE_GCFG, 0, 0⟩
abbrev GORSE_TOL : Reg := ⟨.GORSE_TOL, 0, 0⟩
abbrev GORSE_ARM_CFG (i : Nat) : Reg := ⟨.GORSE_ARM_CFG, i, 0⟩
abbrev GORSE_ARM_SLOW (i : Nat) : Reg := ⟨.GORSE_ARM_SLOW, i, 0⟩
abbrev GORSE_ARM_ZONE (i : Nat) : Reg := ⟨.GORSE_ARM_ZONE, i, 0⟩
abbrev GORSE_ARM_STAT (i : Nat) : Reg := ⟨.GORSE_ARM_STAT, i, 0⟩
abbrev GORSE_ARM_MARGIN (i : Nat) : Reg := ⟨.GORSE_ARM_MARGIN, i, 0⟩
abbrev GORSE_ARM_DIST (i : Nat) : Reg := ⟨.GORSE_ARM_DIST, i, 0⟩
abbrev GORSE_ARM_SP (i : Nat) : Reg := ⟨.GORSE_ARM_SP, i, 0⟩
abbrev GORSE_ARM_PAIR (i : Nat) : Reg := ⟨.GORSE_ARM_PAIR, i, 0⟩
abbrev GORSE_ARM_SPEED (i : Nat) : Reg := ⟨.GORSE_ARM_SPEED, i, 0⟩
abbrev GORSE_ARM_CAPEN (i : Nat) : Reg := ⟨.GORSE_ARM_CAPEN, i, 0⟩
abbrev GORSE_SEN_STAT (i : Nat) : Reg := ⟨.GORSE_SEN_STAT, i, 0⟩
abbrev GORSE_SEN_TMEAS (i : Nat) : Reg := ⟨.GORSE_SEN_TMEAS, i, 0⟩
abbrev LINE_CFG (i : Nat) : Reg := ⟨.LINE_CFG, i, 0⟩
abbrev LINE_CTL (i : Nat) : Reg := ⟨.LINE_CTL, i, 0⟩
abbrev LINE_STAT (i : Nat) : Reg := ⟨.LINE_STAT, i, 0⟩
abbrev LINE_NODES (i : Nat) : Reg := ⟨.LINE_NODES, i, 0⟩
abbrev LINE_LOOPDLY (i : Nat) : Reg := ⟨.LINE_LOOPDLY, i, 0⟩
abbrev LINE_BREAKPOS (i : Nat) : Reg := ⟨.LINE_BREAKPOS, i, 0⟩
abbrev LINE_CYCLE (i : Nat) : Reg := ⟨.LINE_CYCLE, i, 0⟩
abbrev LINE_CNT_DRIFT (i : Nat) : Reg := ⟨.LINE_CNT_DRIFT, i, 0⟩
abbrev LINE_CNT_DISC (i : Nat) : Reg := ⟨.LINE_CNT_DISC, i, 0⟩
abbrev LINE_CNT_CRC (i : Nat) : Reg := ⟨.LINE_CNT_CRC, i, 0⟩
abbrev LINE_CNT_MISS (i : Nat) : Reg := ⟨.LINE_CNT_MISS, i, 0⟩
abbrev LINE_CNT_MUTE (i : Nat) : Reg := ⟨.LINE_CNT_MUTE, i, 0⟩
abbrev LINE_CNT_HEAL (i : Nat) : Reg := ⟨.LINE_CNT_HEAL, i, 0⟩
abbrev LINE_MARK_OFS (i j : Nat) : Reg := ⟨.LINE_MARK_OFS, i, j⟩
abbrev LINE_MARK_CTL (i j : Nat) : Reg := ⟨.LINE_MARK_CTL, i, j⟩
abbrev LINE_SLOT_STAT (i j : Nat) : Reg := ⟨.LINE_SLOT_STAT, i, j⟩
abbrev LINE_GCFG : Reg := ⟨.LINE_GCFG, 0, 0⟩
abbrev LINE_GSTAT : Reg := ⟨.LINE_GSTAT, 0, 0⟩
abbrev GRP_REQ (i : Nat) : Reg := ⟨.GRP_REQ, i, 0⟩
abbrev GRP_CFG (i : Nat) : Reg := ⟨.GRP_CFG, i, 0⟩
abbrev GRP_STAT (i : Nat) : Reg := ⟨.GRP_STAT, i, 0⟩
abbrev GRP_SPLIT (i : Nat) : Reg := ⟨.GRP_SPLIT, i, 0⟩
abbrev CAN_CFG (i : Nat) : Reg := ⟨.CAN_CFG, i, 0⟩
abbrev CAN_NBT (i : Nat) : Reg := ⟨.CAN_NBT, i, 0⟩
abbrev CAN_DBT (i : Nat) : Reg := ⟨.CAN_DBT, i, 0⟩
abbrev CAN_CTL (i : Nat) : Reg := ⟨.CAN_CTL, i, 0⟩
abbrev CAN_STAT (i : Nat) : Reg := ⟨.CAN_STAT, i, 0⟩
abbrev CAN_RATE (i : Nat) : Reg := ⟨.CAN_RATE, i, 0⟩
abbrev CAN_TDCV (i : Nat) : Reg := ⟨.CAN_TDCV, i, 0⟩
abbrev CAN_CNT_NOMATCH (i : Nat) : Reg := ⟨.CAN_CNT_NOMATCH, i, 0⟩
abbrev CAN_CNT_RXOVF (i : Nat) : Reg := ⟨.CAN_CNT_RXOVF, i, 0⟩
abbrev CAN_CNT_ACKERR (i : Nat) : Reg := ⟨.CAN_CNT_ACKERR, i, 0⟩
abbrev CAN_CNT_BITERR (i : Nat) : Reg := ⟨.CAN_CNT_BITERR, i, 0⟩
abbrev CAN_CNT_STUFF (i : Nat) : Reg := ⟨.CAN_CNT_STUFF, i, 0⟩
abbrev CAN_CNT_FORM (i : Nat) : Reg := ⟨.CAN_CNT_FORM, i, 0⟩
abbrev CAN_CNT_CRC (i : Nat) : Reg := ⟨.CAN_CNT_CRC, i, 0⟩
abbrev CAN_CLASH_ID (i j : Nat) : Reg := ⟨.CAN_CLASH_ID, i, j⟩
abbrev CAN_TXB_STAT (i j : Nat) : Reg := ⟨.CAN_TXB_STAT, i, j⟩
abbrev CAN_FLT_MATCH (i j : Nat) : Reg := ⟨.CAN_FLT_MATCH, i, j⟩
abbrev CAN_FLT_MASK (i j : Nat) : Reg := ⟨.CAN_FLT_MASK, i, j⟩
abbrev DIO_BANK_CFG (i : Nat) : Reg := ⟨.DIO_BANK_CFG, i, 0⟩
abbrev DIO_BANK_STAT (i : Nat) : Reg := ⟨.DIO_BANK_STAT, i, 0⟩
abbrev DIO_BANK_CTL (i : Nat) : Reg := ⟨.DIO_BANK_CTL, i, 0⟩
abbrev DIO_IN (i : Nat) : Reg := ⟨.DIO_IN, i, 0⟩
abbrev DIO_OUT (i : Nat) : Reg := ⟨.DIO_OUT, i, 0⟩
abbrev DIO_OUT_SET (i : Nat) : Reg := ⟨.DIO_OUT_SET, i, 0⟩
abbrev DIO_OUT_CLR (i : Nat) : Reg := ⟨.DIO_OUT_CLR, i, 0⟩
abbrev DIO_RB (i : Nat) : Reg := ⟨.DIO_RB, i, 0⟩
abbrev DIO_FLT_A (i : Nat) : Reg := ⟨.DIO_FLT_A, i, 0⟩
abbrev DIO_FLT_B (i : Nat) : Reg := ⟨.DIO_FLT_B, i, 0⟩
abbrev DIO_THCLR (i : Nat) : Reg := ⟨.DIO_THCLR, i, 0⟩
abbrev DIO_CH_CFG (i : Nat) : Reg := ⟨.DIO_CH_CFG, i, 0⟩
abbrev DIO_CAP_TIME (i : Nat) : Reg := ⟨.DIO_CAP_TIME, i, 0⟩
abbrev DIO_CAP_STAT (i : Nat) : Reg := ⟨.DIO_CAP_STAT, i, 0⟩
abbrev SAFE_STAT : Reg := ⟨.SAFE_STAT, 0, 0⟩
abbrev SAFE_CTL : Reg := ⟨.SAFE_CTL, 0, 0⟩
abbrev SAFE_SECTCRC : Reg := ⟨.SAFE_SECTCRC, 0, 0⟩
abbrev SAFE_CNT_CRC : Reg := ⟨.SAFE_CNT_CRC, 0, 0⟩
abbrev SAFE_CNT_SEQ : Reg := ⟨.SAFE_CNT_SEQ, 0, 0⟩
abbrev SAFE_CNT_REASM : Reg := ⟨.SAFE_CNT_REASM, 0, 0⟩
abbrev SAFE_CNT_DISC : Reg := ⟨.SAFE_CNT_DISC, 0, 0⟩
abbrev SAFE_SA_STAT (i : Nat) : Reg := ⟨.SAFE_SA_STAT, i, 0⟩
abbrev SAFE_SA_POS (i : Nat) : Reg := ⟨.SAFE_SA_POS, i, 0⟩
abbrev SAFE_SA_VEL (i : Nat) : Reg := ⟨.SAFE_SA_VEL, i, 0⟩
abbrev SAFE_SA_DEV (i : Nat) : Reg := ⟨.SAFE_SA_DEV, i, 0⟩
abbrev SAFE_IN (i : Nat) : Reg := ⟨.SAFE_IN, i, 0⟩
abbrev SAFE_CONN_STAT (i : Nat) : Reg := ⟨.SAFE_CONN_STAT, i, 0⟩
abbrev SAFE_CONN_TIME (i : Nat) : Reg := ⟨.SAFE_CONN_TIME, i, 0⟩
abbrev SAFE_CONN_CNT (i : Nat) : Reg := ⟨.SAFE_CONN_CNT, i, 0⟩
abbrev SAFE_FN (i : Nat) : Reg := ⟨.SAFE_FN, i, 0⟩
abbrev CAP_CTL : Reg := ⟨.CAP_CTL, 0, 0⟩
abbrev CAP_CFG : Reg := ⟨.CAP_CFG, 0, 0⟩
abbrev CAP_LEN : Reg := ⟨.CAP_LEN, 0, 0⟩
abbrev CAP_PRE : Reg := ⟨.CAP_PRE, 0, 0⟩
abbrev CAP_NREC : Reg := ⟨.CAP_NREC, 0, 0⟩
abbrev CAP_AUTO : Reg := ⟨.CAP_AUTO, 0, 0⟩
abbrev CAP_MEMSIZE : Reg := ⟨.CAP_MEMSIZE, 0, 0⟩
abbrev CAP_STAT : Reg := ⟨.CAP_STAT, 0, 0⟩
abbrev CAP_CNT_DROP : Reg := ⟨.CAP_CNT_DROP, 0, 0⟩
abbrev CAP_CNT_HALF : Reg := ⟨.CAP_CNT_HALF, 0, 0⟩
abbrev CAP_STOL : Reg := ⟨.CAP_STOL, 0, 0⟩
abbrev CAP_TRIGMAP : Reg := ⟨.CAP_TRIGMAP, 0, 0⟩
abbrev CAP_CH (i : Nat) : Reg := ⟨.CAP_CH, i, 0⟩
abbrev CAP_RAW (i : Nat) : Reg := ⟨.CAP_RAW, i, 0⟩
abbrev CAP_TRIG_CFG (i : Nat) : Reg := ⟨.CAP_TRIG_CFG, i, 0⟩
abbrev CAP_TRIG_LEVEL (i : Nat) : Reg := ⟨.CAP_TRIG_LEVEL, i, 0⟩
abbrev CAP_TRIG_LEVEL2 (i : Nat) : Reg := ⟨.CAP_TRIG_LEVEL2, i, 0⟩
abbrev CAP_TRIG_STAMP (i : Nat) : Reg := ⟨.CAP_TRIG_STAMP, i, 0⟩
abbrev EVT_CTL : Reg := ⟨.EVT_CTL, 0, 0⟩
abbrev EVT_CFG : Reg := ⟨.EVT_CFG, 0, 0⟩
abbrev EVT_STAT : Reg := ⟨.EVT_STAT, 0, 0⟩
abbrev EVT_OLDEST : Reg := ⟨.EVT_OLDEST, 0, 0⟩
abbrev EVT_NEWEST : Reg := ⟨.EVT_NEWEST, 0, 0⟩
abbrev EVT_COUNT : Reg := ⟨.EVT_COUNT, 0, 0⟩
abbrev EVT_BOOTNO : Reg := ⟨.EVT_BOOTNO, 0, 0⟩
abbrev EVT_LGCOUNT : Reg := ⟨.EVT_LGCOUNT, 0, 0⟩
abbrev EVT_OVF (i : Nat) : Reg := ⟨.EVT_OVF, i, 0⟩
abbrev EVT_CURSOR : Reg := ⟨.EVT_CURSOR, 0, 0⟩
abbrev EVT_CNT_LOST : Reg := ⟨.EVT_CNT_LOST, 0, 0⟩
abbrev EVT_CNT_TORN : Reg := ⟨.EVT_CNT_TORN, 0, 0⟩
abbrev EVT_REGMAP (i : Nat) : Reg := ⟨.EVT_REGMAP, i, 0⟩
abbrev EVT_WIN (i j : Nat) : Reg := ⟨.EVT_WIN, i, j⟩
abbrev PAIR_CFG : Reg := ⟨.PAIR_CFG, 0, 0⟩
abbrev PAIR_CTL : Reg := ⟨.PAIR_CTL, 0, 0⟩
abbrev PAIR_STAT : Reg := ⟨.PAIR_STAT, 0, 0⟩
abbrev PAIR_MPOINT_LO : Reg := ⟨.PAIR_MPOINT_LO, 0, 0⟩
abbrev PAIR_MPOINT_HI : Reg := ⟨.PAIR_MPOINT_HI, 0, 0⟩
abbrev PAIR_PEER_SERIAL : Reg := ⟨.PAIR_PEER_SERIAL, 0, 0⟩
abbrev PAIR_LINKDLY : Reg := ⟨.PAIR_LINKDLY, 0, 0⟩
abbrev PAIR_TKO_TIME : Reg := ⟨.PAIR_TKO_TIME, 0, 0⟩
abbrev PAIR_TKO_CNT : Reg := ⟨.PAIR_TKO_CNT, 0, 0⟩
abbrev PAIR_CNT_RETX : Reg := ⟨.PAIR_CNT_RETX, 0, 0⟩
abbrev PAIR_CNT_GAP : Reg := ⟨.PAIR_CNT_GAP, 0, 0⟩
abbrev PAIR_CNT_RESYNC : Reg := ⟨.PAIR_CNT_RESYNC, 0, 0⟩
abbrev PAIR_CNT_WARN : Reg := ⟨.PAIR_CNT_WARN, 0, 0⟩
abbrev HOST_CFG : Reg := ⟨.HOST_CFG, 0, 0⟩
abbrev HOST_CFG2 : Reg := ⟨.HOST_CFG2, 0, 0⟩
abbrev HOST_CTL : Reg := ⟨.HOST_CTL, 0, 0⟩
abbrev HOST_STAT : Reg := ⟨.HOST_STAT, 0, 0⟩
abbrev HOST_P_MAC_LO (i : Nat) : Reg := ⟨.HOST_P_MAC_LO, i, 0⟩
abbrev HOST_P_MAC_HI (i : Nat) : Reg := ⟨.HOST_P_MAC_HI, i, 0⟩
abbrev HOST_P_IP4 (i : Nat) : Reg := ⟨.HOST_P_IP4, i, 0⟩
abbrev HOST_P_IP4PFX (i : Nat) : Reg := ⟨.HOST_P_IP4PFX, i, 0⟩
abbrev HOST_P_IP4GW (i : Nat) : Reg := ⟨.HOST_P_IP4GW, i, 0⟩
abbrev HOST_P_IP6 (i j : Nat) : Reg := ⟨.HOST_P_IP6, i, j⟩
abbrev HOST_P_IP6PFX (i : Nat) : Reg := ⟨.HOST_P_IP6PFX, i, 0⟩
abbrev HOST_P_CNT_RX (i : Nat) : Reg := ⟨.HOST_P_CNT_RX, i, 0⟩
abbrev HOST_P_CNT_TX (i : Nat) : Reg := ⟨.HOST_P_CNT_TX, i, 0⟩
abbrev HOST_P_CNT_DROP (i : Nat) : Reg := ⟨.HOST_P_CNT_DROP, i, 0⟩
abbrev HOST_S_STAT (i : Nat) : Reg := ⟨.HOST_S_STAT, i, 0⟩
abbrev HOST_S_DROP (i : Nat) : Reg := ⟨.HOST_S_DROP, i, 0⟩
abbrev HOST_S_REJ (i : Nat) : Reg := ⟨.HOST_S_REJ, i, 0⟩
abbrev HOST_S_RETX (i : Nat) : Reg := ⟨.HOST_S_RETX, i, 0⟩
abbrev HOST_Q_CFG (i : Nat) : Reg := ⟨.HOST_Q_CFG, i, 0⟩
abbrev HOST_Q_POS (i : Nat) : Reg := ⟨.HOST_Q_POS, i, 0⟩
abbrev HOST_Q_ACK (i : Nat) : Reg := ⟨.HOST_Q_ACK, i, 0⟩
abbrev HOST_Q_CNT (i : Nat) : Reg := ⟨.HOST_Q_CNT, i, 0⟩
end R

abbrev F.SYS_RST_CTL.KEY : Fld := ⟨31, 16⟩
abbrev F.SYS_RST_CTL.WARM : Fld := ⟨0, 0⟩
abbrev F.SYS_RST_STAT.PFAIL : Fld := ⟨8, 8⟩
abbrev F.SYS_RST_STAT.LASTKIND : Fld := ⟨2, 0⟩
abbrev F.SYS_RST_CNT.COLD : Fld := ⟨31, 24⟩
abbrev F.SYS_RST_CNT.PIN : Fld := ⟨23, 16⟩
abbrev F.SYS_RST_CNT.WARM : Fld := ⟨15, 8⟩
abbrev F.SYS_RST_CNT.WDOG : Fld := ⟨7, 0⟩
abbrev F.SYS_WDT_CFG.TIMEOUT : Fld := ⟨15, 0⟩
abbrev F.SYS_PF_STAT.PFW : Fld := ⟨31, 31⟩
abbrev F.SYS_PF_STAT.PFDONE : Fld := ⟨30, 30⟩
abbrev F.SYS_PF_STAT.BULK : Fld := ⟨8, 0⟩
abbrev F.SYS_ENV_STAT.FANOK : Fld := ⟨10, 8⟩
abbrev F.SYS_ENV_STAT.TEMPCRIT : Fld := ⟨5, 5⟩
abbrev F.SYS_ENV_STAT.TEMPWARN : Fld := ⟨4, 4⟩
abbrev F.SYS_ENV_STAT.SFPOK : Fld := ⟨2, 0⟩
abbrev F.SYS_ENV_TEMP.MAX : Fld := ⟨31, 16⟩
abbrev F.SYS_ENV_TEMP.NOW : Fld := ⟨15, 0⟩
abbrev F.SYS_ENV_ENC.ON : Fld := ⟨7, 0⟩
abbrev F.CLK_CTL.REFOUT : Fld := ⟨8, 8⟩
abbrev F.CLK_CTL.REFSEL : Fld := ⟨1, 0⟩
abbrev F.CLK_STAT.REFLOSS : Fld := ⟨2, 2⟩
abbrev F.CLK_STAT.EXTACT : Fld := ⟨1, 1⟩
abbrev F.CLK_STAT.PLLLOCK : Fld := ⟨0, 0⟩
abbrev F.PWR_STAT.STATE : Fld := ⟨31, 28⟩
abbrev F.PWR_STAT.TARGET : Fld := ⟨27, 24⟩
abbrev F.PWR_STAT.CAPDBG : Fld := ⟨23, 23⟩
abbrev F.PWR_STAT.CAPAXIS : Fld := ⟨22, 22⟩
abbrev F.PWR_STAT.CAPPAIR : Fld := ⟨21, 21⟩
abbrev F.PWR_STAT.TRANS : Fld := ⟨20, 20⟩
abbrev F.PWR_STAT.WOKE : Fld := ⟨19, 19⟩
abbrev F.SEC_STAT.STATE : Fld := ⟨31, 30⟩
abbrev F.SEC_STAT.OWNERSET : Fld := ⟨29, 29⟩
abbrev F.SEC_STAT.MLOGFULL : Fld := ⟨28, 28⟩
abbrev F.SEC_STAT.DBG : Fld := ⟨27, 26⟩
abbrev F.SEC_STAT.ATTACH : Fld := ⟨25, 25⟩
abbrev F.SEC_STAT.SCOPE : Fld := ⟨19, 16⟩
abbrev F.SEC_CTL.DBGCLOSE : Fld := ⟨2, 2⟩
abbrev F.SEC_CTL.ENDSVC : Fld := ⟨1, 1⟩
abbrev F.SEC_CTL.LOCK : Fld := ⟨0, 0⟩
abbrev F.SEC_EXTCNT.V : Fld := ⟨15, 0⟩
abbrev F.TIME_CTL.CLOSE : Fld := ⟨16, 16⟩
abbrev F.TIME_CTL.STEPWIN : Fld := ⟨15, 8⟩
abbrev F.TIME_CTL.SRC : Fld := ⟨1, 0⟩
abbrev F.TIME_STAT.PTPST : Fld := ⟨3, 2⟩
abbrev F.TIME_STAT.WINOPEN : Fld := ⟨1, 1⟩
abbrev F.TIME_STAT.STEPPED : Fld := ⟨0, 0⟩
abbrev F.TIME_PTP_CFG.SDOID : Fld := ⟨31, 28⟩
abbrev F.TIME_PTP_CFG.PORT : Fld := ⟨25, 24⟩
abbrev F.TIME_PTP_CFG.TRANS : Fld := ⟨23, 22⟩
abbrev F.TIME_PTP_CFG.CLAMP : Fld := ⟨21, 16⟩
abbrev F.TIME_PTP_CFG.LOCKTHR : Fld := ⟨15, 8⟩
abbrev F.TIME_PTP_CFG.DOMAIN : Fld := ⟨6, 0⟩
abbrev F.TIME_CMP_CTL.OWNIMG : Fld := ⟨31, 31⟩
abbrev F.TIME_CMP_CTL.ARMED : Fld := ⟨30, 30⟩
abbrev F.TIME_CMP_CTL.LATEPOL : Fld := ⟨24, 24⟩
abbrev F.TIME_CMP_CTL.ACT : Fld := ⟨23, 20⟩
abbrev F.TIME_CMP_CTL.OBJ : Fld := ⟨19, 8⟩
abbrev F.TIME_CMP_CTL.DISARM : Fld := ⟨1, 1⟩
abbrev F.TIME_CMP_CTL.ARM : Fld := ⟨0, 0⟩
abbrev F.TIME_CMP_STAT.LATE : Fld := ⟨31, 31⟩
abbrev F.TIME_CMP_STAT.MISSED : Fld := ⟨23, 16⟩
abbrev F.TIME_CMP_STAT.FIRED : Fld := ⟨15, 0⟩
abbrev F.FAB_IMG_CTL.ACTIVATE : Fld := ⟨31, 31⟩
abbrev F.FAB_IMG_CTL.CHECK : Fld := ⟨30, 30⟩
abbrev F.FAB_IMG_CTL.ERASE : Fld := ⟨29, 29⟩
abbrev F.FAB_IMG_CTL.KEEPITEMS : Fld := ⟨28, 28⟩
abbrev F.FAB_IMG_CTL.SLOT : Fld := ⟨8, 8⟩
abbrev F.FAB_IMG_CTL.BOOT : Fld := ⟨1, 0⟩
abbrev F.FAB_IMG_STAT.STATE : Fld := ⟨31, 28⟩
abbrev F.FAB_IMG_STAT.ACTSLOT : Fld := ⟨9, 8⟩
abbrev F.FAB_IMG_STAT.COMMIT : Fld := ⟨7, 7⟩
abbrev F.FAB_IMG_STAT.VALID1 : Fld := ⟨1, 1⟩
abbrev F.FAB_IMG_STAT.VALID0 : Fld := ⟨0, 0⟩
abbrev F.FAB_LOAD_ERR.STAGE : Fld := ⟨31, 28⟩
abbrev F.FAB_LOAD_ERR.CODE : Fld := ⟨23, 16⟩
abbrev F.FAB_LOAD_ERR.SECTYPE : Fld := ⟨15, 8⟩
abbrev F.FAB_LOAD_ERR.ENGINE : Fld := ⟨7, 0⟩
abbrev F.FAB_SCHED_UTIL.SHARE : Fld := ⟨21, 12⟩
abbrev F.FAB_SCHED_UTIL.K : Fld := ⟨10, 8⟩
abbrev F.FAB_SCHED_UTIL.WINDOW : Fld := ⟨6, 0⟩
abbrev F.CE_CTL.RESUME : Fld := ⟨1, 1⟩
abbrev F.CE_CTL.CLRMAX : Fld := ⟨0, 0⟩
abbrev F.CE_STAT.STATE : Fld := ⟨31, 28⟩
abbrev F.CE_STAT.CTX : Fld := ⟨27, 26⟩
abbrev F.CE_STAT.SUSP : Fld := ⟨15, 8⟩
abbrev F.CE_STAT.FBLOCK : Fld := ⟨0, 0⟩
abbrev F.CE_FAULT.VALID : Fld := ⟨31, 31⟩
abbrev F.CE_FAULT.CAUSE : Fld := ⟨27, 24⟩
abbrev F.CE_FAULT.CTX : Fld := ⟨23, 22⟩
abbrev F.CE_FAULT.TASK : Fld := ⟨11, 0⟩
abbrev F.CE_FAULT_PC.V : Fld := ⟨14, 0⟩
abbrev F.CE_UTIL.MAXPM : Fld := ⟨25, 16⟩
abbrev F.CE_UTIL.LASTPM : Fld := ⟨9, 0⟩
abbrev F.CE_TASK_SEL.V : Fld := ⟨11, 0⟩
abbrev F.CE_TASK_CNT.FAULTS : Fld := ⟨31, 16⟩
abbrev F.CE_TASK_CNT.OVR : Fld := ⟨15, 0⟩
abbrev F.CE_MEM_ADDR.MEM : Fld := ⟨31, 30⟩
abbrev F.CE_MEM_ADDR.ADDR : Fld := ⟨16, 0⟩
abbrev F.PWM_DRV_CFG.PERIOD : Fld := ⟨31, 29⟩
abbrev F.PWM_DRV_CFG.MOD : Fld := ⟨28, 28⟩
abbrev F.PWM_DRV_CFG.FSELEN : Fld := ⟨27, 27⟩
abbrev F.PWM_DRV_STAT.PRESENT : Fld := ⟨31, 31⟩
abbrev F.PWM_DRV_STAT.TYPEOK : Fld := ⟨30, 30⟩
abbrev F.PWM_DRV_STAT.DLFAIL : Fld := ⟨29, 29⟩
abbrev F.PWM_DRV_STAT.FSELOUT : Fld := ⟨28, 28⟩
abbrev F.PWM_DRV_STAT.TRIPIN : Fld := ⟨27, 24⟩
abbrev F.PWM_DRV_STAT.TRIPLAT : Fld := ⟨23, 20⟩
abbrev F.PWM_DRV_DTFLOOR.V : Fld := ⟨15, 0⟩
abbrev F.PWM_TRIP_CFG.EN : Fld := ⟨31, 31⟩
abbrev F.PWM_TRIP_CFG.POL : Fld := ⟨30, 30⟩
abbrev F.PWM_TRIP_CFG.AXMASK : Fld := ⟨27, 24⟩
abbrev F.PWM_TRIP_CFG.FILT : Fld := ⟨10, 0⟩
abbrev F.SD_CFG.EN : Fld := ⟨31, 31⟩
abbrev F.SD_CFG.OSR : Fld := ⟨30, 28⟩
abbrev F.SD_CFG.LOSS : Fld := ⟨16, 16⟩
abbrev F.PWM_LEG_CFG.SRC : Fld := ⟨31, 31⟩
abbrev F.PWM_LEG_CFG.DTMODE : Fld := ⟨30, 30⟩
abbrev F.PWM_LEG_CFG.MINP : Fld := ⟨11, 0⟩
abbrev F.PWM_LEG_DT.DTMIN : Fld := ⟨29, 20⟩
abbrev F.PWM_LEG_DT.DTMAX : Fld := ⟨19, 10⟩
abbrev F.PWM_LEG_DT.MARGIN : Fld := ⟨9, 0⟩
abbrev F.PWM_CMP_LO.CMPA : Fld := ⟨25, 0⟩
abbrev F.PWM_CMP_HI.CMPB : Fld := ⟨25, 0⟩
abbrev F.PWM_LEG_CTL.COMMIT : Fld := ⟨31, 31⟩
abbrev F.PWM_LEG_CTL.DEN : Fld := ⟨30, 30⟩
abbrev F.PWM_LEG_CTL.CLRACC : Fld := ⟨29, 29⟩
abbrev F.PWM_LEG_STAT.STATE : Fld := ⟨31, 30⟩
abbrev F.PWM_LEG_STAT.HELD : Fld := ⟨29, 29⟩
abbrev F.PWM_LEG_STAT.STRETCH : Fld := ⟨28, 28⟩
abbrev F.PWM_LEG_STAT.SUPP : Fld := ⟨27, 27⟩
abbrev F.PWM_LEG_STAT.SWNFIX : Fld := ⟨26, 26⟩
abbrev F.PWM_LEG_STAT.DTHL : Fld := ⟨25, 16⟩
abbrev F.PWM_LEG_STAT.DTLH : Fld := ⟨9, 0⟩
abbrev F.PWM_LEG_NAT.NATHL : Fld := ⟨25, 16⟩
abbrev F.PWM_LEG_NAT.NATLH : Fld := ⟨9, 0⟩
abbrev F.PWM_LEG_CNT.PSKIP : Fld := ⟨31, 16⟩
abbrev F.PWM_LEG_CNT.LATE : Fld := ⟨15, 0⟩
abbrev F.FBK_ENC_CFG.MODE : Fld := ⟨31, 29⟩
abbrev F.FBK_ENC_CFG.HYST : Fld := ⟨28, 28⟩
abbrev F.FBK_ENC_CFG.DIR : Fld := ⟨27, 27⟩
abbrev F.FBK_ENC_CFG.PER : Fld := ⟨26, 24⟩
abbrev F.FBK_ENC_CFG.SPAVG : Fld := ⟨23, 22⟩
abbrev F.FBK_ENC_CFG.EXTRAP : Fld := ⟨21, 21⟩
abbrev F.FBK_ENC_CFG.FILT : Fld := ⟨9, 0⟩
abbrev F.FBK_ENC_SSI.BITS : Fld := ⟨31, 27⟩
abbrev F.FBK_ENC_SSI.CLKDIV : Fld := ⟨26, 19⟩
abbrev F.FBK_ENC_SSI.GRAY : Fld := ⟨18, 18⟩
abbrev F.FBK_ENC_SSI.PAR : Fld := ⟨17, 17⟩
abbrev F.FBK_ENC_SSI.ERRBIT : Fld := ⟨16, 16⟩
abbrev F.FBK_ENC_SSI.MONO : Fld := ⟨15, 10⟩
abbrev F.FBK_ENC_SSI.ERRLIM : Fld := ⟨9, 6⟩
abbrev F.FBK_ENC_STAT.VALID : Fld := ⟨31, 31⟩
abbrev F.FBK_ENC_STAT.QERR : Fld := ⟨30, 30⟩
abbrev F.FBK_ENC_STAT.CAUSE : Fld := ⟨29, 27⟩
abbrev F.FBK_ENC_STAT.ERRCNT : Fld := ⟨23, 16⟩
abbrev F.FBK_ENC_STAT.TD : Fld := ⟨15, 0⟩
abbrev F.FBK_ENC_CTL.CLRINV : Fld := ⟨0, 0⟩
abbrev F.FBK_PRB_CFG.EN : Fld := ⟨31, 31⟩
abbrev F.FBK_PRB_CFG.EDGE : Fld := ⟨30, 29⟩
abbrev F.FBK_PRB_CFG.ONESHOT : Fld := ⟨28, 28⟩
abbrev F.FBK_PRB_CFG.SRC : Fld := ⟨27, 23⟩
abbrev F.FBK_PRB_CFG.FILT : Fld := ⟨7, 0⟩
abbrev F.FBK_PRB_CTL.DISARM : Fld := ⟨1, 1⟩
abbrev F.FBK_PRB_CTL.ARM : Fld := ⟨0, 0⟩
abbrev F.FBK_PRB_STAT.ARMED : Fld := ⟨31, 31⟩
abbrev F.FBK_PRB_STAT.LATCHED : Fld := ⟨30, 30⟩
abbrev F.FBK_PRB_STAT.OVR : Fld := ⟨29, 29⟩
abbrev F.FBK_PRB_STAT.QERR : Fld := ⟨28, 28⟩
abbrev F.FBK_PRB_STAT.INVAL : Fld := ⟨27, 27⟩
abbrev F.FBK_REM_CFG.EN : Fld := ⟨31, 31⟩
abbrev F.FBK_REM_CFG.NOSTAMP : Fld := ⟨30, 30⟩
abbrev F.FBK_REM_CFG.STAMPCHAN : Fld := ⟨23, 12⟩
abbrev F.FBK_REM_CFG.POSCHAN : Fld := ⟨11, 0⟩
abbrev F.FBK_REM_STAT.VALID : Fld := ⟨31, 31⟩
abbrev F.FBK_REM_STAT.CAUSE : Fld := ⟨29, 27⟩
abbrev F.FBK_REM_STAT.ERRCNT : Fld := ⟨23, 16⟩
abbrev F.FBK_SUP.RESTORE : Fld := ⟨15, 8⟩
abbrev F.FBK_SUP.SUPFLT : Fld := ⟨7, 0⟩
abbrev F.AXIS_CTL.EN : Fld := ⟨31, 31⟩
abbrev F.AXIS_CTL.MAN : Fld := ⟨30, 30⟩
abbrev F.AXIS_CTL.BANK : Fld := ⟨29, 29⟩
abbrev F.AXIS_CTL.CLRFLT : Fld := ⟨28, 28⟩
abbrev F.AXIS_STAT.STATE : Fld := ⟨31, 28⟩
abbrev F.AXIS_STAT.REACT : Fld := ⟨27, 25⟩
abbrev F.AXIS_STAT.FBVALID : Fld := ⟨24, 24⟩
abbrev F.AXIS_STAT.IMPL : Fld := ⟨23, 23⟩
abbrev F.AXIS_STAT.FEFLT : Fld := ⟨22, 22⟩
abbrev F.AXIS_STAT.BUMP : Fld := ⟨21, 21⟩
abbrev F.AXIS_STAT.OSAT : Fld := ⟨20, 20⟩
abbrev F.AXIS_STAT.ISAT : Fld := ⟨19, 19⟩
abbrev F.AXIS_STAT.CAUSE : Fld := ⟨18, 16⟩
abbrev F.AXIS_STAT.FLATE : Fld := ⟨15, 8⟩
abbrev F.AXIS_STAT.PFSTOP : Fld := ⟨7, 7⟩
abbrev F.AXIS_CFG.CASC : Fld := ⟨31, 30⟩
abbrev F.AXIS_CFG.PCLS : Fld := ⟨29, 29⟩
abbrev F.AXIS_CFG.VCLS : Fld := ⟨28, 28⟩
abbrev F.AXIS_CFG.CCLS : Fld := ⟨27, 27⟩
abbrev F.AXIS_REACT.FBREACT : Fld := ⟨31, 29⟩
abbrev F.AXIS_REACT.PREACT : Fld := ⟨28, 26⟩
abbrev F.AXIS_REACT.FEREACT : Fld := ⟨25, 23⟩
abbrev F.AXIS_REACT.ENGREACT : Fld := ⟨22, 20⟩
abbrev F.AXIS_REACT.FLATEN : Fld := ⟨7, 0⟩
abbrev F.AXIS_DLYCYC.V : Fld := ⟨15, 0⟩
abbrev F.LVL_CFG.LAW : Fld := ⟨31, 28⟩
abbrev F.LVL_CFG.SHIFT : Fld := ⟨27, 23⟩
abbrev F.LVL_CFG.FFSHIFT : Fld := ⟨22, 18⟩
abbrev F.LVL_CFG.OBS : Fld := ⟨17, 16⟩
abbrev F.LVL_CFG.OUTPH : Fld := ⟨15, 0⟩
abbrev F.FLT_CFG.KIND : Fld := ⟨31, 30⟩
abbrev F.FLT_CFG.LEVEL : Fld := ⟨29, 28⟩
abbrev F.FLT_PAR.FREQ : Fld := ⟨31, 16⟩
abbrev F.FLT_PAR.WIDTH : Fld := ⟨15, 8⟩
abbrev F.FLT_PAR.DEPTH : Fld := ⟨7, 0⟩
abbrev F.PCFG.MODEL : Fld := ⟨31, 30⟩
abbrev F.PCFG.SIG : Fld := ⟨29, 28⟩
abbrev F.PCFG.PSHIFT : Fld := ⟨27, 23⟩
abbrev F.PCFG.PCOUNT : Fld := ⟨15, 8⟩
abbrev F.AXIS_MOT_CTL.GO : Fld := ⟨31, 31⟩
abbrev F.AXIS_MOT_CTL.HALT : Fld := ⟨30, 30⟩
abbrev F.AXIS_MOT_CTL.MOVE : Fld := ⟨29, 28⟩
abbrev F.AXIS_MOT_CTL.SHAPE : Fld := ⟨27, 27⟩
abbrev F.AXIS_MOT_STAT.SRC : Fld := ⟨31, 29⟩
abbrev F.AXIS_MOT_STAT.DONE : Fld := ⟨28, 28⟩
abbrev F.AXIS_MOT_STAT.INPOS : Fld := ⟨27, 27⟩
abbrev F.AXIS_MOT_STAT.VLIM : Fld := ⟨26, 25⟩
abbrev F.AXIS_MOT_STAT.VLFLT : Fld := ⟨24, 24⟩
abbrev F.AXIS_MOT_STAT.GEARST : Fld := ⟨23, 22⟩
abbrev F.AXIS_MOT_STAT.LATE : Fld := ⟨21, 21⟩
abbrev F.AXIS_MOT_STAT.MLOST : Fld := ⟨20, 20⟩
abbrev F.AXIS_VL_CFG.EN : Fld := ⟨31, 31⟩
abbrev F.AXIS_VL_CFG.LREACT : Fld := ⟨30, 29⟩
abbrev F.AXIS_VL_CFG.FREACT : Fld := ⟨28, 26⟩
abbrev F.AXIS_VL_CFG.MLREACT : Fld := ⟨25, 23⟩
abbrev F.AXIS_GEAR_CFG.MKIND : Fld := ⟨31, 30⟩
abbrev F.AXIS_GEAR_CFG.MASTER : Fld := ⟨7, 0⟩
abbrev F.AXIS_GEAR_CTL.ENGAGE : Fld := ⟨31, 31⟩
abbrev F.AXIS_GEAR_CTL.ARM : Fld := ⟨30, 30⟩
abbrev F.AXIS_GEAR_CTL.CANCEL : Fld := ⟨29, 29⟩
abbrev F.AXIS_GEAR_CTL.DISENGAGE : Fld := ⟨28, 28⟩
abbrev F.AXIS_GEAR_CTL.LATEPOL : Fld := ⟨27, 26⟩
abbrev F.AXIS_MOT_INPOS.WIN : Fld := ⟨31, 8⟩
abbrev F.AXIS_MOT_INPOS.N : Fld := ⟨7, 0⟩
abbrev F.TRACK_CFG.MODE : Fld := ⟨31, 31⟩
abbrev F.TRACK_CFG.MKIND : Fld := ⟨30, 28⟩
abbrev F.TRACK_CFG.DEFLATE : Fld := ⟨27, 26⟩
abbrev F.TRACK_CFG.COAST : Fld := ⟨15, 8⟩
abbrev F.TRACK_CFG.VAVG : Fld := ⟨6, 4⟩
abbrev F.TRACK_CFG.AAVG : Fld := ⟨2, 0⟩
abbrev F.TRACK_STAT.VALID : Fld := ⟨31, 31⟩
abbrev F.TRACK_STAT.COAST : Fld := ⟨30, 30⟩
abbrev F.TRACK_STAT.STILL : Fld := ⟨29, 29⟩
abbrev F.TRACK_STAT.DIR : Fld := ⟨28, 28⟩
abbrev F.TRACK_STAT.CORRACT : Fld := ⟨27, 27⟩
abbrev F.TRACK_STAT.HELD : Fld := ⟨26, 26⟩
abbrev F.TRACK_CTL.CLRINV : Fld := ⟨0, 0⟩
abbrev F.VM_CTL.RUN : Fld := ⟨31, 31⟩
abbrev F.ARM_CTL.HOLD : Fld := ⟨31, 31⟩
abbrev F.ARM_CTL.RESUME : Fld := ⟨30, 30⟩
abbrev F.ARM_CTL.FLUSH : Fld := ⟨29, 29⟩
abbrev F.ARM_STAT.STATE : Fld := ⟨31, 28⟩
abbrev F.ARM_STAT.CAUSE : Fld := ⟨27, 25⟩
abbrev F.ARM_STAT.SCALED : Fld := ⟨24, 24⟩
abbrev F.ARM_STAT.SINGULAR : Fld := ⟨23, 23⟩
abbrev F.ARM_STAT.BLEND : Fld := ⟨22, 22⟩
abbrev F.ARM_STAT.LIMRED : Fld := ⟨21, 21⟩
abbrev F.ARM_STAT.QFREE : Fld := ⟨8, 0⟩
abbrev F.ARM_CFG.IKENG : Fld := ⟨31, 28⟩
abbrev F.ARM_CFG.IKTASK : Fld := ⟨27, 16⟩
abbrev F.ARM_CFG.IKBASE : Fld := ⟨15, 0⟩
abbrev F.ARM_TJ.V : Fld := ⟨15, 0⟩
abbrev F.ARM_THOLD.THOLD : Fld := ⟨31, 16⟩
abbrev F.ARM_THOLD.TCSTOP : Fld := ⟨15, 0⟩
abbrev F.ARM_SSLEW.SUP : Fld := ⟨31, 16⟩
abbrev F.ARM_SSLEW.SDN : Fld := ⟨15, 0⟩
abbrev F.ARM_SCALE.GORSE : Fld := ⟨31, 16⟩
abbrev F.ARM_SCALE.OVR : Fld := ⟨15, 0⟩
abbrev F.ARM_KEFF.FS : Fld := ⟨31, 16⟩
abbrev F.ARM_KEFF.H : Fld := ⟨15, 0⟩
abbrev F.ARM_IKCFG.MASK : Fld := ⟨31, 26⟩
abbrev F.ARM_IKCFG.IKCOUNT : Fld := ⟨23, 16⟩
abbrev F.ARM_IKCFG.IKRW : Fld := ⟨15, 0⟩
abbrev F.ARM_IKLAM.LAMBDA0 : Fld := ⟨31, 16⟩
abbrev F.ARM_IKLAM.SIGSING : Fld := ⟨15, 0⟩
abbrev F.ARM_IKTOL.TOLP : Fld := ⟨31, 16⟩
abbrev F.ARM_IKTOL.TOLR : Fld := ⟨15, 0⟩
abbrev F.ARM_IKRES.RESP : Fld := ⟨31, 16⟩
abbrev F.ARM_IKRES.RESR : Fld := ⟨15, 0⟩
abbrev F.ARM_CNT.BLENDLOST : Fld := ⟨31, 24⟩
abbrev F.ARM_CNT.STARVE : Fld := ⟨23, 16⟩
abbrev F.ARM_CNT.IKFAIL : Fld := ⟨15, 8⟩
abbrev F.ARM_CNT.LIMRED : Fld := ⟨7, 0⟩
abbrev F.TALL_CTL.FLUSH : Fld := ⟨31, 31⟩
abbrev F.TALL_CTL.TRACEFIRE : Fld := ⟨1, 1⟩
abbrev F.TALL_CTL.CLRMAX : Fld := ⟨0, 0⟩
abbrev F.TALL_ITEMS.V : Fld := ⟨17, 0⟩
abbrev F.TALL_ACTS.V : Fld := ⟨18, 0⟩
abbrev F.TALL_PROJ_CFG.LEADCYC : Fld := ⟨7, 0⟩
abbrev F.TALL_ITEM_SEL.V : Fld := ⟨16, 0⟩
abbrev F.TALL_ACT_SEL.V : Fld := ⟨17, 0⟩
abbrev F.TALL_TRK_CFG.TOLP : Fld := ⟨23, 0⟩
abbrev F.TALL_TRK_STAT.LIVE : Fld := ⟨18, 0⟩
abbrev F.TALL_TO_STAT.STATE : Fld := ⟨31, 30⟩
abbrev F.TALL_TO_STAT.TOKEN : Fld := ⟨23, 16⟩
abbrev F.TALL_TO_STAT.WAITING : Fld := ⟨15, 0⟩
abbrev F.TALL_TO_CNT.LATE : Fld := ⟨31, 16⟩
abbrev F.TALL_TO_CNT.BUSY : Fld := ⟨15, 0⟩
abbrev F.GORSE_CTL.CLRFAIL : Fld := ⟨1, 1⟩
abbrev F.GORSE_CTL.CLRMAX : Fld := ⟨0, 0⟩
abbrev F.GORSE_STAT.STATE : Fld := ⟨31, 28⟩
abbrev F.GORSE_STAT.LASTCAUSE : Fld := ⟨27, 24⟩
abbrev F.GORSE_EVTIME.MAX : Fld := ⟨31, 16⟩
abbrev F.GORSE_EVTIME.LAST : Fld := ⟨15, 0⟩
abbrev F.GORSE_GCFG.VH : Fld := ⟨31, 16⟩
abbrev F.GORSE_GCFG.AGEMAX : Fld := ⟨15, 0⟩
abbrev F.GORSE_TOL.RCTOL : Fld := ⟨31, 16⟩
abbrev F.GORSE_TOL.DIAGTOL : Fld := ⟨15, 0⟩
abbrev F.GORSE_ARM_CFG.MON : Fld := ⟨31, 31⟩
abbrev F.GORSE_ARM_CFG.TREACT : Fld := ⟨23, 0⟩
abbrev F.GORSE_ARM_SLOW.SMIN : Fld := ⟨31, 16⟩
abbrev F.GORSE_ARM_SLOW.MSLOW : Fld := ⟨15, 0⟩
abbrev F.GORSE_ARM_ZONE.MREL : Fld := ⟨31, 16⟩
abbrev F.GORSE_ARM_ZONE.ZR : Fld := ⟨15, 0⟩
abbrev F.GORSE_ARM_STAT.STOPREQ : Fld := ⟨31, 31⟩
abbrev F.GORSE_ARM_STAT.CAUSE : Fld := ⟨30, 28⟩
abbrev F.GORSE_ARM_STAT.RELCNT : Fld := ⟨27, 24⟩
abbrev F.GORSE_ARM_STAT.SCALE : Fld := ⟨15, 0⟩
abbrev F.GORSE_ARM_PAIR.KIND : Fld := ⟨31, 30⟩
abbrev F.GORSE_ARM_PAIR.OWN : Fld := ⟨28, 24⟩
abbrev F.GORSE_ARM_PAIR.OTHER : Fld := ⟨9, 0⟩
abbrev F.GORSE_ARM_CAPEN.V : Fld := ⟨23, 0⟩
abbrev F.GORSE_SEN_STAT.STATE : Fld := ⟨31, 30⟩
abbrev F.GORSE_SEN_STAT.COUNT : Fld := ⟨29, 24⟩
abbrev F.GORSE_SEN_STAT.AGE : Fld := ⟨15, 0⟩
abbrev F.LINE_CFG.PERIOD : Fld := ⟨31, 29⟩
abbrev F.LINE_CFG.TOPO : Fld := ⟨28, 27⟩
abbrev F.LINE_CFG.AUTORST : Fld := ⟨26, 26⟩
abbrev F.LINE_CFG.NODES : Fld := ⟨25, 13⟩
abbrev F.LINE_CFG.DLYPER : Fld := ⟨12, 9⟩
abbrev F.LINE_CFG.MISSLIM : Fld := ⟨8, 5⟩
abbrev F.LINE_CTL.REDISC : Fld := ⟨3, 3⟩
abbrev F.LINE_CTL.JOINEN : Fld := ⟨2, 2⟩
abbrev F.LINE_CTL.STOP : Fld := ⟨1, 1⟩
abbrev F.LINE_CTL.START : Fld := ⟨0, 0⟩
abbrev F.LINE_STAT.STATE : Fld := ⟨31, 28⟩
abbrev F.LINE_STAT.CLASHES : Fld := ⟨27, 24⟩
abbrev F.LINE_STAT.LOS : Fld := ⟨2, 2⟩
abbrev F.LINE_STAT.BREAK : Fld := ⟨1, 1⟩
abbrev F.LINE_STAT.LOOPLONG : Fld := ⟨0, 0⟩
abbrev F.LINE_NODES.JOINED : Fld := ⟨28, 16⟩
abbrev F.LINE_NODES.MUTED : Fld := ⟨12, 0⟩
abbrev F.LINE_BREAKPOS.LAST : Fld := ⟨28, 16⟩
abbrev F.LINE_BREAKPOS.FIRST : Fld := ⟨12, 0⟩
abbrev F.LINE_MARK_OFS.OFS : Fld := ⟨21, 0⟩
abbrev F.LINE_MARK_CTL.EN : Fld := ⟨31, 31⟩
abbrev F.LINE_MARK_CTL.WIRE : Fld := ⟨30, 30⟩
abbrev F.LINE_MARK_CTL.ACT : Fld := ⟨29, 28⟩
abbrev F.LINE_MARK_CTL.TASK : Fld := ⟨11, 0⟩
abbrev F.LINE_SLOT_STAT.STATE : Fld := ⟨31, 30⟩
abbrev F.LINE_SLOT_STAT.FAR : Fld := ⟨29, 29⟩
abbrev F.LINE_SLOT_STAT.STALE : Fld := ⟨28, 28⟩
abbrev F.LINE_SLOT_STAT.CONSEC : Fld := ⟨27, 26⟩
abbrev F.LINE_SLOT_STAT.OFS : Fld := ⟨23, 16⟩
abbrev F.LINE_SLOT_STAT.ALIAS : Fld := ⟨15, 0⟩
abbrev F.LINE_GCFG.RANK : Fld := ⟨3, 0⟩
abbrev F.LINE_GSTAT.RANKCLASH : Fld := ⟨3, 3⟩
abbrev F.LINE_GSTAT.ROLE : Fld := ⟨1, 0⟩
abbrev F.GRP_REQ.REQ : Fld := ⟨31, 31⟩
abbrev F.GRP_REQ.MODE : Fld := ⟨7, 0⟩
abbrev F.GRP_CFG.STAGEDL : Fld := ⟨15, 8⟩
abbrev F.GRP_CFG.FALLBACK : Fld := ⟨7, 0⟩
abbrev F.GRP_STAT.STATE : Fld := ⟨31, 29⟩
abbrev F.GRP_STAT.RETRY : Fld := ⟨26, 24⟩
abbrev F.GRP_STAT.STAGED : Fld := ⟨23, 16⟩
abbrev F.GRP_STAT.CURRENT : Fld := ⟨15, 8⟩
abbrev F.GRP_SPLIT.COUNT : Fld := ⟨15, 0⟩
abbrev F.CAN_CFG.MODE : Fld := ⟨31, 30⟩
abbrev F.CAN_CFG.FDEN : Fld := ⟨29, 29⟩
abbrev F.CAN_CFG.AUTOBAUD : Fld := ⟨28, 28⟩
abbrev F.CAN_CFG.AUTOREC : Fld := ⟨27, 27⟩
abbrev F.CAN_CFG.ACCEPTALL : Fld := ⟨26, 26⟩
abbrev F.CAN_CFG.HOSTQ : Fld := ⟨7, 0⟩
abbrev F.CAN_NBT.NBRP : Fld := ⟨31, 23⟩
abbrev F.CAN_NBT.NTSEG1 : Fld := ⟨22, 14⟩
abbrev F.CAN_NBT.NTSEG2 : Fld := ⟨13, 7⟩
abbrev F.CAN_NBT.NSJW : Fld := ⟨6, 0⟩
abbrev F.CAN_DBT.DBRP : Fld := ⟨31, 26⟩
abbrev F.CAN_DBT.DTSEG1 : Fld := ⟨25, 20⟩
abbrev F.CAN_DBT.DTSEG2 : Fld := ⟨19, 15⟩
abbrev F.CAN_DBT.DSJW : Fld := ⟨14, 10⟩
abbrev F.CAN_DBT.TDCO : Fld := ⟨7, 0⟩
abbrev F.CAN_CTL.RATERESTART : Fld := ⟨2, 2⟩
abbrev F.CAN_CTL.RECOVER : Fld := ⟨1, 1⟩
abbrev F.CAN_CTL.CLASHCLR : Fld := ⟨0, 0⟩
abbrev F.CAN_STAT.STATE : Fld := ⟨31, 29⟩
abbrev F.CAN_STAT.LONE : Fld := ⟨28, 28⟩
abbrev F.CAN_STAT.CLASHFULL : Fld := ⟨27, 27⟩
abbrev F.CAN_STAT.RATEOK : Fld := ⟨26, 26⟩
abbrev F.CAN_STAT.TEC : Fld := ⟨24, 16⟩
abbrev F.CAN_STAT.REC : Fld := ⟨7, 0⟩
abbrev F.CAN_TDCV.V : Fld := ⟨7, 0⟩
abbrev F.CAN_CLASH_ID.VALID : Fld := ⟨31, 31⟩
abbrev F.CAN_CLASH_ID.IDE : Fld := ⟨30, 30⟩
abbrev F.CAN_CLASH_ID.ID : Fld := ⟨28, 0⟩
abbrev F.CAN_TXB_STAT.STATE : Fld := ⟨31, 30⟩
abbrev F.CAN_TXB_STAT.CANREQ : Fld := ⟨29, 29⟩
abbrev F.CAN_TXB_STAT.ID : Fld := ⟨28, 0⟩
abbrev F.CAN_FLT_MATCH.EN : Fld := ⟨31, 31⟩
abbrev F.CAN_FLT_MATCH.DEST : Fld := ⟨30, 30⟩
abbrev F.CAN_FLT_MATCH.IDE : Fld := ⟨29, 29⟩
abbrev F.CAN_FLT_MATCH.MATCH : Fld := ⟨28, 0⟩
abbrev F.CAN_FLT_MASK.MIDE : Fld := ⟨29, 29⟩
abbrev F.CAN_FLT_MASK.MASK : Fld := ⟨28, 0⟩
abbrev F.DIO_BANK_CFG.TPPER : Fld := ⟨31, 16⟩
abbrev F.DIO_BANK_CFG.WDT : Fld := ⟨7, 0⟩
abbrev F.DIO_BANK_STAT.FIELDLOW : Fld := ⟨31, 31⟩
abbrev F.DIO_BANK_STAT.BANKOFF : Fld := ⟨30, 30⟩
abbrev F.DIO_BANK_STAT.REARMOK : Fld := ⟨29, 29⟩
abbrev F.DIO_BANK_STAT.DISC : Fld := ⟨28, 28⟩
abbrev F.DIO_BANK_STAT.WDEXP : Fld := ⟨27, 27⟩
abbrev F.DIO_BANK_STAT.LPLUS : Fld := ⟨8, 0⟩
abbrev F.DIO_BANK_CTL.WDRESUME : Fld := ⟨1, 1⟩
abbrev F.DIO_BANK_CTL.REARM : Fld := ⟨0, 0⟩
abbrev F.DIO_IN.V : Fld := ⟨15, 0⟩
abbrev F.DIO_OUT.V : Fld := ⟨15, 0⟩
abbrev F.DIO_OUT_SET.V : Fld := ⟨15, 0⟩
abbrev F.DIO_OUT_CLR.V : Fld := ⟨15, 0⟩
abbrev F.DIO_RB.V : Fld := ⟨15, 0⟩
abbrev F.DIO_FLT_A.THERM : Fld := ⟨31, 16⟩
abbrev F.DIO_FLT_A.FHIGH : Fld := ⟨15, 0⟩
abbrev F.DIO_FLT_B.CROSS : Fld := ⟨31, 16⟩
abbrev F.DIO_FLT_B.LIMIT : Fld := ⟨15, 0⟩
abbrev F.DIO_THCLR.CLRTHERM : Fld := ⟨15, 0⟩
abbrev F.DIO_CH_CFG.DIR : Fld := ⟨31, 30⟩
abbrev F.DIO_CH_CFG.SRC : Fld := ⟨29, 29⟩
abbrev F.DIO_CH_CFG.SOUT : Fld := ⟨28, 28⟩
abbrev F.DIO_CH_CFG.SAFE : Fld := ⟨27, 26⟩
abbrev F.DIO_CH_CFG.INV : Fld := ⟨25, 25⟩
abbrev F.DIO_CH_CFG.FILT : Fld := ⟨7, 0⟩
abbrev F.DIO_CAP_STAT.OVR : Fld := ⟨31, 31⟩
abbrev F.DIO_CAP_STAT.STATE : Fld := ⟨0, 0⟩
abbrev F.SAFE_STAT.STATE : Fld := ⟨31, 28⟩
abbrev F.SAFE_STAT.ARMED : Fld := ⟨27, 27⟩
abbrev F.SAFE_STAT.DEMAND : Fld := ⟨26, 26⟩
abbrev F.SAFE_STAT.ACKREQ : Fld := ⟨25, 25⟩
abbrev F.SAFE_STAT.FCAUSE : Fld := ⟨23, 16⟩
abbrev F.SAFE_CTL.ACK : Fld := ⟨0, 0⟩
abbrev F.SAFE_SA_STAT.PERMIT : Fld := ⟨31, 31⟩
abbrev F.SAFE_SA_STAT.TORQUE : Fld := ⟨30, 30⟩
abbrev F.SAFE_SA_STAT.REACT : Fld := ⟨29, 28⟩
abbrev F.SAFE_SA_STAT.LATCH : Fld := ⟨27, 27⟩
abbrev F.SAFE_SA_STAT.SFAULT : Fld := ⟨26, 26⟩
abbrev F.SAFE_SA_STAT.FN : Fld := ⟨23, 16⟩
abbrev F.SAFE_IN.DEMAND : Fld := ⟨31, 31⟩
abbrev F.SAFE_IN.DISCF : Fld := ⟨30, 30⟩
abbrev F.SAFE_IN.CONTACT : Fld := ⟨29, 28⟩
abbrev F.SAFE_CONN_STAT.STATE : Fld := ⟨31, 30⟩
abbrev F.SAFE_CONN_STAT.FAILSAFE : Fld := ⟨29, 29⟩
abbrev F.SAFE_CONN_STAT.LASTSEQ : Fld := ⟨15, 0⟩
abbrev F.SAFE_CONN_CNT.LOST : Fld := ⟨31, 16⟩
abbrev F.SAFE_CONN_CNT.ERR : Fld := ⟨15, 0⟩
abbrev F.SAFE_FN.ACTIVE : Fld := ⟨31, 31⟩
abbrev F.SAFE_FN.DEMAND : Fld := ⟨30, 30⟩
abbrev F.SAFE_FN.VIOL : Fld := ⟨29, 29⟩
abbrev F.CAP_CTL.ARM : Fld := ⟨31, 31⟩
abbrev F.CAP_CTL.STOP : Fld := ⟨30, 30⟩
abbrev F.CAP_CTL.FORCE : Fld := ⟨29, 29⟩
abbrev F.CAP_CTL.CLR : Fld := ⟨28, 28⟩
abbrev F.CAP_CFG.MODE : Fld := ⟨31, 30⟩
abbrev F.CAP_CFG.KPER : Fld := ⟨29, 27⟩
abbrev F.CAP_CFG.RAWDIV : Fld := ⟨26, 23⟩
abbrev F.CAP_CFG.CAL : Fld := ⟨22, 22⟩
abbrev F.CAP_CFG.NFAB : Fld := ⟨21, 14⟩
abbrev F.CAP_CFG.NRAW : Fld := ⟨13, 9⟩
abbrev F.CAP_LEN.V : Fld := ⟨23, 0⟩
abbrev F.CAP_PRE.V : Fld := ⟨23, 0⟩
abbrev F.CAP_NREC.V : Fld := ⟨15, 0⟩
abbrev F.CAP_AUTO.AUTOTO : Fld := ⟨15, 0⟩
abbrev F.CAP_MEMSIZE.V : Fld := ⟨10, 0⟩
abbrev F.CAP_STAT.STATE : Fld := ⟨31, 28⟩
abbrev F.CAP_STAT.DEC : Fld := ⟨27, 24⟩
abbrev F.CAP_STAT.GAP : Fld := ⟨23, 23⟩
abbrev F.CAP_STAT.RECDONE : Fld := ⟨15, 0⟩
abbrev F.CAP_STOL.V : Fld := ⟨9, 0⟩
abbrev F.CAP_CH.MEAS : Fld := ⟨31, 31⟩
abbrev F.CAP_CH.MASKEN : Fld := ⟨30, 30⟩
abbrev F.CAP_CH.MSLOT : Fld := ⟨29, 27⟩
abbrev F.CAP_CH.SKEWTRIM : Fld := ⟨26, 16⟩
abbrev F.CAP_CH.CHAN : Fld := ⟨11, 0⟩
abbrev F.CAP_RAW.KIND : Fld := ⟨31, 29⟩
abbrev F.CAP_RAW.SRC : Fld := ⟨7, 0⟩
abbrev F.CAP_TRIG_CFG.KIND : Fld := ⟨31, 28⟩
abbrev F.CAP_TRIG_CFG.EN : Fld := ⟨27, 27⟩
abbrev F.CAP_TRIG_CFG.GATE : Fld := ⟨26, 26⟩
abbrev F.CAP_TRIG_CFG.POL : Fld := ⟨25, 24⟩
abbrev F.CAP_TRIG_CFG.RAW : Fld := ⟨23, 23⟩
abbrev F.CAP_TRIG_CFG.SRC : Fld := ⟨15, 0⟩
abbrev F.EVT_CTL.CLEAR : Fld := ⟨31, 31⟩
abbrev F.EVT_CTL.RETEST : Fld := ⟨1, 1⟩
abbrev F.EVT_CTL.NEXT : Fld := ⟨0, 0⟩
abbrev F.EVT_CFG.RECMIN : Fld := ⟨6, 4⟩
abbrev F.EVT_CFG.KEEP : Fld := ⟨2, 0⟩
abbrev F.EVT_STAT.STORE : Fld := ⟨31, 30⟩
abbrev F.EVT_STAT.REGFAIL : Fld := ⟨29, 29⟩
abbrev F.EVT_STAT.TORN : Fld := ⟨28, 28⟩
abbrev F.EVT_STAT.RETIRED : Fld := ⟨9, 0⟩
abbrev F.EVT_COUNT.V : Fld := ⟨19, 0⟩
abbrev F.EVT_BOOTNO.V : Fld := ⟨15, 0⟩
abbrev F.EVT_LGCOUNT.V : Fld := ⟨6, 0⟩
abbrev F.PAIR_CFG.LINKTO : Fld := ⟨31, 24⟩
abbrev F.PAIR_CFG.STALEMAX : Fld := ⟨23, 16⟩
abbrev F.PAIR_CFG.EN : Fld := ⟨0, 0⟩
abbrev F.PAIR_CTL.SWITCH : Fld := ⟨1, 1⟩
abbrev F.PAIR_CTL.RESYNC : Fld := ⟨0, 0⟩
abbrev F.PAIR_STAT.ROLE : Fld := ⟨31, 30⟩
abbrev F.PAIR_STAT.LINKUP : Fld := ⟨29, 29⟩
abbrev F.PAIR_STAT.LINESUP : Fld := ⟨28, 28⟩
abbrev F.PAIR_STAT.MISMATCH : Fld := ⟨27, 27⟩
abbrev F.PAIR_STAT.STALE : Fld := ⟨26, 26⟩
abbrev F.PAIR_STAT.DUAL : Fld := ⟨25, 25⟩
abbrev F.PAIR_STAT.LAG : Fld := ⟨23, 16⟩
abbrev F.PAIR_STAT.MSTATE : Fld := ⟨15, 12⟩
abbrev F.PAIR_STAT.PHK : Fld := ⟨2, 0⟩
abbrev F.HOST_CFG.UDPPORT : Fld := ⟨31, 16⟩
abbrev F.HOST_CFG.HELLOPER : Fld := ⟨15, 8⟩
abbrev F.HOST_CFG.SESSTO : Fld := ⟨7, 0⟩
abbrev F.HOST_CFG2.HELLOPORT : Fld := ⟨31, 16⟩
abbrev F.HOST_CFG2.ACKTO : Fld := ⟨15, 8⟩
abbrev F.HOST_CFG2.JUMBO : Fld := ⟨0, 0⟩
abbrev F.HOST_CTL.APPLY : Fld := ⟨0, 0⟩
abbrev F.HOST_STAT.CTLVALID : Fld := ⟨31, 31⟩
abbrev F.HOST_STAT.CTLSLOT : Fld := ⟨29, 28⟩
abbrev F.HOST_STAT.SESSMASK : Fld := ⟨27, 24⟩
abbrev F.HOST_STAT.LINK3 : Fld := ⟨1, 1⟩
abbrev F.HOST_STAT.LINK2 : Fld := ⟨0, 0⟩
abbrev F.HOST_P_MAC_HI.V : Fld := ⟨15, 0⟩
abbrev F.HOST_P_IP4PFX.V : Fld := ⟨5, 0⟩
abbrev F.HOST_P_IP6PFX.V : Fld := ⟨7, 0⟩
abbrev F.HOST_S_STAT.VALID : Fld := ⟨31, 31⟩
abbrev F.HOST_S_STAT.CTL : Fld := ⟨30, 30⟩
abbrev F.HOST_S_STAT.PORT : Fld := ⟨29, 29⟩
abbrev F.HOST_S_STAT.SESSID : Fld := ⟨15, 0⟩
abbrev F.HOST_Q_CFG.OPEN : Fld := ⟨31, 31⟩
abbrev F.HOST_Q_CFG.SLOT : Fld := ⟨29, 28⟩
abbrev F.HOST_Q_CFG.DEPTH : Fld := ⟨27, 24⟩
abbrev F.HOST_Q_CFG.RESV : Fld := ⟨23, 16⟩
abbrev F.HOST_Q_CFG.RESPQ : Fld := ⟨6, 0⟩
abbrev F.HOST_Q_CNT.REJ : Fld := ⟨31, 16⟩
abbrev F.HOST_Q_CNT.DUP : Fld := ⟨15, 0⟩

end Sys2Proof.Machine
end

