-- ==== Sys2Proof/Machine/Blocks.lean ====
section
/-! DEFINITION. The parts of the state as plain data: the internal state of every block that the chapters of spec/ name beside
their registers, and what the unit puts out. `Dev` and `State` in Sys2Proof/Machine/State.lean hold them. -/

namespace Sys2Proof.Machine

/-- A sparse table: number and value, numbers strictly rising. An unlisted number holds the default that its
reader names. -/
abbrev Tab (α : Type) := List (Nat × α)

/-! ### Answers -/

/-- R14: the status codes of an answer. -/
inductive Status
  | ok | badLen | badArg | denied | busy | late | noSpace | notReady | conflict | aborted | timeout
  | unsupported | checksum | stale
  deriving DecidableEq, Repr

/-- Where a host's datagrams come from and go to: host port (0 X2, 1 X3), address and UDP port. -/
structure Peer where
  port : Nat := 0
  addr : Nat := 0
  udp : Nat := 0
  deriving DecidableEq, Repr

/-! ### Time base (spec/02_time_base.md) -/

/-- A foreign master that the best-master algorithm of R49 knows: its data set in comparison order, the host port it
is heard on, its logAnnounceInterval, its currentUtcOffset, and the clocks of its Announce messages, newest first. -/
structure PtpMaster where
  data : List Nat := []
  port : Nat := 0
  logInt : Int := 0
  utc : Int := 0
  seen : List Nat := []
  deriving DecidableEq, Repr

/-- The time base's state beside its registers. `tns` is TIME_NS in units of 2^-32 ns, `tick` the base tick that last
began (R43), `bootClk` the clock of the last reset's release, `winClk` the clock in which the step window opened,
`cmpTgt` the next target of each armed comparator (R57), `ext` the clock since which the external reference is present
and in range, `refHold` that only a write of REFSEL returns to it (R40), and the PTP
servo's measurement in hand: Sync (sequence, receipt, origin time), Delay_Req (sequence, sending), complete measurements since
the grandmaster was selected, Sync messages in a row within the threshold, the last mean path delay, the last outputs of the servo. `pairSrc` says that a
new active unit still runs with SRC = PAIR until its next Sync (R67). -/
structure TimeSt where
  tns : Nat := 0
  tick : Nat := 0
  bootClk : Nat := 0
  winClk : Nat := 0
  cmpTgt : Tab Word := []
  ext : Option Nat := none
  refHold : Bool := false
  masters : Tab PtpMaster := []
  gm : Option Nat := none
  syncSeq : Option (Nat × Int × Option Int) := none
  dreq : Option (Nat × Int) := none
  dseq : Nat := 0
  meas : Nat := 0
  inLock : Nat := 0
  dly : Option Int := none
  outs : List Int := []
  pairSrc : Bool := false
  deriving DecidableEq, Repr

/-! ### Bureau (spec/17_event_recorder.md) -/

/-- R520: one record. `place` is where the MRAM holds it (0 to 524,287; its region is `place / 1024`), `whole` that its
CRC is good: a record cut off by the loss of supply is not (R532). -/
structure Rec where
  seq : Word
  ts : Word
  uptime : Word
  code : Nat
  sev : Nat
  flags : Nat := 0
  source : Word
  rep : Nat := 0
  lastTs : Word
  bootNo : Nat
  data : List Word := []
  place : Nat := 0
  whole : Bool := true
  deriving DecidableEq, Repr

/-- An event on its way to the Bureau: code, severity, SOURCE and DATA as R665 fills them, and whether it goes to the
last-gasp store in any case (R528). -/
structure Ev where
  code : Nat
  sev : Nat
  source : Word := 0xFFFFFFFF#32
  data : List Word := []
  toLg : Bool := false
  deriving DecidableEq, Repr

/-- R536: where the Bureau records. -/
inductive Store | mram | lastGasp | copying
  deriving DecidableEq, Repr

/-- The Bureau's state. `mram` and `lg` are the records of the two stores in the order of their SEQ, `lastSeq` the last
SEQ assigned (R521), `ovf` EVT_OVF by severity with the severities whose refusal has been logged (R524), `lost` and
`torn` the counters, `retired` the retired regions (R528), `badRegions` those that the world makes fail, `win` the copied
window slots (R526), `lgFrom` the first SEQ created since STORE became LASTGASP (R529), `waiting` the events of a copy. -/
structure BureauSt where
  store : Store := .mram
  mram : List Rec := []
  lg : List Rec := []
  lastSeq : Word := 0
  ovf : Tab Nat := []
  refused : List Nat := []
  lost : Nat := 0
  torn : Nat := 0
  retired : List Nat := []
  regFail : Bool := false
  badRegions : List Nat := []
  win : Tab (List Word) := []
  lgFrom : Word := 1
  probeClk : Nat := 0
  waiting : List Ev := []
  deriving DecidableEq, Repr

/-! ### Host interface (spec/19_host_interface.md) -/

/-- R581: a bulk handle: object, direction, index, length or size, bytes written so far, clock of the last use, and,
for an image write, the clock at which the erase of the slot is complete (R582). -/
structure Handle where
  obj : Nat
  dir : Nat
  index : Nat
  len : Nat
  written : Nat := 0
  lastUse : Nat := 0
  erasing : Bool := false
  buf : List Byte := []
  deriving DecidableEq, Repr

/-- R570 to R578: a session: SESSID, role, NONCE and clock of its opening, peer of its last valid datagram and that
datagram's clock, subscription (event queue, EVMIN, SRCMASK), events dropped since its last EVENT and the clock of the
last HOST_EVT_DROP, its latched halves and held writes by the address of the _HI register (R8), its bulk handles. -/
structure Session where
  sessId : Nat
  ctl : Bool := false
  nonce : Nat := 0
  openClk : Nat := 0
  peer : Peer := {}
  lastClk : Nat := 0
  sub : Option (Nat × Nat × Nat) := none
  drops : Nat := 0
  dropLogClk : Option Nat := none
  latch : Tab Word := []
  held : Tab Word := []
  handles : Tab Handle := []
  deriving DecidableEq, Repr

/-- An answer that waits to be placed: for the standby's acknowledgement of a tick (R546), or for the signature of a quote, with the clock at
which QUOTE started (R596): TYPE, STATUS, REF and the bytes from offset 16 on. -/
structure Held where
  quote : Bool
  tick : Nat
  clk : Nat
  typ : Nat
  status : Nat
  ref : Nat
  body : List Byte
  deriving DecidableEq, Repr

/-- R574 to R577: an open queue: owning session slot, entries (2^DEPTH), RESV, response queue of a command queue;
`pos` is E of a command queue or the next position to send of a response queue, `ack` the position answered up to or
DONE. `wait` is the answer that a command queue waits for, `stored` are its messages not yet executed, `log` its last 64 answers, `unacked` a response queue's
messages by position, `ackClk` the clock of the last advance of DONE, `rounds` the rounds sent again, `closing` who asked
for a QUEUE_CLOSE that waits for the message in execution (R583). -/
structure Queue where
  slot : Nat
  depth : Nat
  resv : Nat := 0
  respQ : Nat := 0
  pos : Nat := 0
  ack : Nat := 0
  stored : List (List Byte) := []
  wait : Option Held := none
  log : List (Nat × List Byte) := []
  unacked : List (Nat × List Byte) := []
  ackClk : Nat := 0
  rounds : Nat := 0
  closing : Option Peer := none
  deriving DecidableEq, Repr

/-- The host interface's state: sessions by slot, open queues by number, events dropped by slot (HOST_S_DROP), the
address registers in force (R583) by port and word, and the clock of the last HELLO. -/
structure HostSt where
  sess : Tab Session := []
  queues : Tab Queue := []
  dropped : Tab Nat := []
  inForce : Tab Word := []
  helloClk : Option Nat := none
  deriving DecidableEq, Repr

/-! ### Sward (spec/16_capture.md) -/

/-- A record of R503 to R512, running or complete: its number, TRIGMAP, primary, FLAGS, TIME_NS of each fabric sample, the primary instant,
PRE, the decimations, the mask violation, the settings under which it is taken, the skews in 1/256 sample, and the samples as taken (the
fabric samples by sample, the raw samples by the fabric sample that they follow and then by raw channel), all newest first while the record runs
and oldest first once it is complete; the measurements. -/
structure CapRec where
  recNo : Nat
  trigMap : Nat := 0
  primary : Nat := 255
  flags : Nat := 0
  tTrig : Word := 0
  pre : Nat := 0
  dec : List (Nat × Nat) := []
  mFailCh : Nat := 255
  mFailIx : Nat := 0
  kper : Nat := 0
  rawDiv : Nat := 0
  nFab : Nat := 0
  nRaw : Nat := 0
  skew : List Int := []
  times : List Nat := []
  fab : List (List Int) := []
  raw : List (List (List Int)) := []
  mea : List (Nat × Nat × Nat × Nat × Nat) := []
  deriving DecidableEq, Repr

/-- Sward's state beside its registers: complete records, the record in hand, the conditions that other blocks met since the last sample
with their instants (R505, R506), for each edge condition whether it is armed (2t rising, 2t + 1 falling), for each window and bits condition
whether it held at the last sample, the open gates and those shut since the last sample, the mask slots loaded, FORCE and the auto trigger,
the clock at which the record held PRE samples, the tick of the last sample, the fabric periods and raw samples counted for the decimation,
records begun since ARM, the records of STREAM that have been read, the value of each fabric channel as R33 gives it to a reader of the
sample period, and the modulator bits since the record began. -/
structure CapSt where
  recs : List CapRec := []
  cur : Option CapRec := none
  met : Tab Word := []
  armed : List Nat := []
  held : Tab Bool := []
  gates : List Nat := []
  shut : List Nat := []
  masks : Tab (List Int × List Int) := []
  force : Bool := false
  autoDue : Bool := false
  waitClk : Nat := 0
  tick : Option Nat := none
  phase : Nat := 0
  rawN : Nat := 0
  recNo : Nat := 0
  read : List Nat := []
  latch : Tab Word := []
  bits : Nat := 0
  deriving DecidableEq, Repr

/-! ### The structure image (spec/04_structure_image.md) -/

/-- R126: a SCHED record. -/
structure TaskRec where
  task : Nat
  engine : Nat
  k : Nat
  phase : Nat
  trig : Nat
  order : Nat
  entry : Nat
  wcet : Nat
  deadline : Nat
  dep0 : Nat
  dep1 : Nat
  ctx : Nat
  hostOk : Bool
  deriving DecidableEq, Repr

/-- R127: a FABRIC record with its consumer words. -/
structure ChanRec where
  chan : Nat
  kind : Nat
  fmt : Nat
  src : Nat
  producer : Nat
  dst : List Nat
  deriving DecidableEq, Repr

/-- R128: an AXES record. -/
structure AxisRec where
  axis : Nat
  kind : Nat
  k : Nat
  bind : Nat
  group : Nat
  arm : Nat
  joint : Nat
  fb : Nat
  sp : Nat
  law : Nat
  deriving DecidableEq, Repr

/-- R129: a TRACKS record. -/
structure TrackRec where
  track : Nat
  mode : Nat
  mkind : Nat
  master : Nat
  modulus : Nat
  num : Int
  den : Int
  deriving DecidableEq, Repr

/-- R130: a joint block of an ARMS record. -/
structure JointRec where
  axis : Nat
  jtype : Nat
  geom : List Int
  qmin : Int
  qmax : Int
  vmax : Int
  amax : Int
  deriving DecidableEq, Repr

/-- R130: an ARMS record. -/
structure ArmRec where
  arm : Nat
  model : Nat
  port : Nat
  base : List Int
  tool : List Int
  joints : List JointRec
  deriving DecidableEq, Repr

/-- R131: a port record of LINES. -/
structure PortRec where
  port : Nat
  nodes : Nat
  k : Nat
  topo : Nat
  deriving DecidableEq, Repr

/-- R131: a slot record of LINES. -/
structure SlotRec where
  port : Nat
  slot : Nat
  epCount : Nat
  nodeAlias : Nat
  typeCode : Nat
  firstEp : Nat
  deriving DecidableEq, Repr

/-- R132: an IOMAP record. -/
structure IoRec where
  ep : Nat
  fn : Nat
  dir : Nat
  byte : Nat
  bit : Nat
  width : Nat
  chan : Nat
  fmt : Nat
  deriving DecidableEq, Repr

/-- R133: a GROUPS record. -/
structure GroupRec where
  group : Nat
  stageDl : Nat
  fallback : Nat
  deriving DecidableEq, Repr

/-- R133: a PARAMS record. -/
structure ParamRec where
  engine : Nat
  mem : Nat
  task : Nat
  addr : Nat
  len : Nat
  deriving DecidableEq, Repr

/-- R133: a TIMECMP record. -/
structure CmpRec where
  comp : Nat
  act : Nat
  obj : Nat
  target : Nat
  per : Nat
  deriving DecidableEq, Repr

/-- R125: an ENGPROG record. -/
structure EngRec where
  engine : Nat
  prog : List Byte
  xmem : List Byte
  ymem : List Byte
  deriving DecidableEq, Repr

/-- R122: a directory entry. -/
structure DirRec where
  typ : Nat
  inst : Nat
  count : Nat
  offset : Nat
  len : Nat
  crc : Nat
  deriving DecidableEq, Repr

/-- The image the loader has parsed from a slot (R121 to R133); the sections SAFETY, GORSE and PERIPH are kept as their
records' bytes, and `tracksRaw` and `linesRaw` are the TRACKS and LINES sections byte for byte (R140, R141). -/
structure Image where
  slot : Nat := 2
  id : Nat := 0
  ver : Nat := 0
  pairFlag : Bool := false
  hash : List Byte := []
  pubKey : List Byte := []
  eng : List EngRec := []
  tasks : List TaskRec := []
  chans : List ChanRec := []
  axes : List AxisRec := []
  tracks : List TrackRec := []
  arms : List ArmRec := []
  ports : List PortRec := []
  slots : List SlotRec := []
  io : List IoRec := []
  groups : List GroupRec := []
  params : List ParamRec := []
  regInit : List (Nat × Word) := []
  cmps : List CmpRec := []
  safety : List (List Byte) := []
  gorse : List (List Byte) := []
  periph : List (List Byte) := []
  tracksRaw : List Byte := []
  groupsRaw : List Byte := []
  deriving DecidableEq, Repr

/-- What the loader is doing (R134, R139, R140). -/
inductive LoaderJob
  | idle
  /-- A check of a slot; `act` that an activation follows it, `keep` its KEEPITEMS. -/
  | checking (slot : Nat) (act : Bool) (keep : Bool)
  /-- An activation armed for the boundary `t` in ns of TIME_NS. -/
  | armed (t : Nat) (keep : Bool)
  /-- The switch of R140 between T and T + 4 ms; `committed` from T + 4 ms − 200 µs on. -/
  | switching (t : Nat) (keep : Bool) (committed : Bool)
  deriving DecidableEq, Repr

/-- The loader's state beside its registers: the two flash slots as sparse bytes over the erased value 0xFF with the
length written, the slot of the image last activated without a later failure (R120), the active image, the image that an
activation is about to make active, the slots that have failed at boot, whether the boot checks are over, the IMGHASH of the
image that passed the last check (R139), TIME_NS of the first release of the active image (R140), and the shadow copies of PARAMS words not yet committed (R145): engine, memory, word address, value. -/
structure LoaderSt where
  flash : Tab (List Byte) := []
  lastGood : Option Nat := none
  job : LoaderJob := .idle
  image : Option Image := none
  nextImage : Option Image := none
  bootTry : List Nat := []
  bootDone : Bool := false
  checked : List Byte := []
  actNs : Nat := 0
  shadow : List (Nat × Nat × Nat × Word) := []
  pendingParams : List (Nat × Nat × Nat × Word) := []
  deriving DecidableEq, Repr

/-! ### Line rings (spec/03_line_rings.md) -/

/-- R90, R663: a join in progress past step 2: its next step, the node's SERIAL, the placement tests made, the cycle of its
last step, whether the frame that the node must answer has been sent, and the ends whose DELAY_RPT has come. -/
structure JoinSt where
  step : Nat
  serial : Nat := 0
  tests : Nat := 0
  cycle : Nat := 0
  sent : Bool := false
  rpt0 : Bool := false
  rpt1 : Bool := false
  deriving DecidableEq, Repr

/-- A slot's state beside LINE_SLOT_STAT: whether a slot arrived in the present cycle and whether it was usable, the offset e
at which it arrived, the runs of cycles without a usable slot and without any slot (R84), the delays H reported from both ends and the
one-way delays that they gave (R93), the node port it is fed on, whether it came in at the far end of the line (R96, R100), its first cycle (R90), its
join, its link states (R77) with the clock since which both are up, STATUS, SYNCOK and LOOPBACK as last received, the start of the cycle whose
slot was last used, and its last payload. -/
structure SlotSt where
  any : Bool := false
  usable : Bool := false
  sdAt : Option Int := none
  noUse : Nat := 0
  absent : Nat := 0
  h0 : Option Nat := none
  h1 : Option Nat := none
  dly0 : Option Nat := none
  dly1 : Option Nat := none
  feed : Nat := 0
  far : Bool := false
  firstCyc : Option Nat := none
  join : Option JoinSt := none
  links : Nat := 3
  linksClk : Nat := 0
  status : Nat := 0
  synced : Bool := true
  loopBack : Bool := false
  sampleNs : Nat := 0
  payload : List Byte := []
  deriving DecidableEq, Repr

/-- An acyclic frame waiting for the fallow window (R80): its rank in the order of priority, type, target and payload
bytes. -/
structure Acyclic where
  prio : Nat
  typ : Nat
  adr : Nat
  body : List Byte
  deriving DecidableEq, Repr

/-- A port's state beside its registers. `linkUp` and `upClk`: the receive link and the clock of its coming up; `listenClk`:
the start of the listening of R85, `listening` that it runs; `heardNs`, `heardK`, `heardKa`: the last valid cycle start heard from another
unit, its period code and whether it was of a keep-alive cycle (R550); `cycleNs`, `lastTick`: the last cycle start; `markerNs`, `markerCyc`: the cycle-end marker in
flight; `goodLast`: the last returned marker was good and within the limit (R72); `grace`: cycles left of R97; `joinSusp`,
`validCyc`: the suspension of R92 and the full valid cycles since `suspCyc`; `brk`, `brkIx`: a declared break and the number of nodes
before it, `brk2` a second break of a healed ring (R98); what waits for the next cycle start (healing, restoration, relay, the end of sending); `backoffEnd`: R87;
`keepAlive`, `resume`: R116 and the state that the port goes back to; `queue`: frames for the fallow window; `blocks`, `fresh`:
the last payloads of the train and the slots whose payload is a fresh command; `relaying`, `relayed`, `relayNs`: the standby's
relay (R100), its blocks (16 bytes each), their arrival and their CYCLE; `fallowNs`: the start of the cycle whose fallow window has been
served; `marks`: the marks fired in this cycle; `changed`: R140. -/
structure PortSt where
  linkUp : Bool := false
  upClk : Nat := 0
  listening : Bool := false
  listenClk : Nat := 0
  heardNs : Option Nat := none
  heardK : Nat := 0
  heardKa : Bool := false
  cycleNs : Nat := 0
  lastTick : Option Nat := none
  markerNs : Option Nat := none
  markerCyc : Nat := 0
  goodLast : Bool := false
  grace : Nat := 0
  joinSusp : Bool := false
  validCyc : Nat := 0
  suspCyc : Nat := 0
  brk : Bool := false
  brkIx : Option Nat := none
  brk2 : Bool := false
  healPending : Bool := false
  restorePending : Bool := false
  relayPending : Bool := false
  remeasure : Bool := false
  stopAsked : Bool := false
  backoffEnd : Option Nat := none
  keepAlive : Bool := false
  resume : Nat := 2
  fallowNs : Option Nat := none
  queue : List Acyclic := []
  blocks : Tab (List Byte) := []
  fresh : List Nat := []
  relaying : Bool := false
  relayed : Tab (List Byte) := []
  relayNs : Nat := 0
  relayCyc : Nat := 0
  marks : List Nat := []
  changed : Bool := false
  deriving DecidableEq, Repr

/-- A group's change in progress (R104): its TOKEN, the P_G boundary of the request S, the boundary N, members that
have staged and applied (port and slot), the repetitions sent, whether the change of local axes at N has been made, the boundary
at which FALLBACK is applied, and the repetitions of a power-fail stop still to send (R624). -/
structure GroupSt where
  token : Nat := 0
  s : Nat := 0
  n : Option Nat := none
  staged : List (Nat × Nat) := []
  applied : List (Nat × Nat) := []
  retries : Nat := 0
  boundaryDone : Bool := false
  fallbackDue : Option Nat := none
  stop : Nat := 0
  deriving DecidableEq, Repr

/-- The state of the line ports and groups, and the listening of a unit that has given way (R86): the port of the conflict, the clock at
which it ends, and whether the unit was ACTIVE. -/
structure LineSt where
  ports : Tab PortSt := []
  slots : Tab SlotSt := []
  groups : Tab GroupSt := []
  nextToken : Nat := 1
  demote : Option (Nat × Nat × Bool) := none
  deriving DecidableEq, Repr

/-! ### Control engines (spec/05_control_engines.md) -/

/-- R166, R168: an active hardware loop: first and last bundle of its body, iterations to run in all, the present
iteration, the fill depth D and ROT. -/
structure HwLoop where
  start : Nat
  stop : Nat
  total : Nat
  iter : Nat := 0
  depth : Nat := 0
  rot : Bool := false
  deriving DecidableEq, Repr

/-- R170: a result in flight: general register and value, due before the bundle after the next. -/
structure Flight where
  reg : Nat
  val : Word
  wait : Nat
  deriving DecidableEq, Repr

/-- R152: the state of one context. -/
structure Ctx where
  g : Tab Word := []
  a : Tab Int := []
  n : Bool := false
  z : Bool := false
  c : Bool := false
  v : Bool := false
  sat : Bool := false
  scale : Int := 0
  modLen : Tab Nat := []
  rrb : Nat := 0
  loops : List HwLoop := []
  calls : List Nat := []
  pc : Nat := 0
  flight : List Flight := []
  deriving DecidableEq, Repr

/-- An instance of a task: the task, its context, release (TIME_NS) and cycles spent so far, whether it has begun. -/
structure Inst where
  task : Nat
  ctx : Nat
  order : Nat
  release : Nat
  cycles : Nat := 0
  begun : Bool := false
  deriving DecidableEq, Repr

/-- R187: a task's figures. -/
structure TaskStat where
  maxCyc : Nat := 0
  maxFin : Nat := 0
  faults : Nat := 0
  ovr : Nat := 0
  aborts : Nat := 0
  suspended : Bool := false
  doneNs : Option Nat := none
  lastRel : Option Nat := none
  deriving DecidableEq, Repr

/-- An engine: program length in bundles, its three memories (unlisted words are 0), its three contexts, the instances
pending (the one in issue of each context first among its context), the context in issue, the base tick of the last fault
entry (R179), whether it is halted by debug (R190), its breakpoints, whether the next bundle issues in spite of one (it was resumed there), the cycles
busy in the present base tick, and the instants (TIME_NS) at which the entries of its fabric queue leave, oldest first (R171). -/
structure EngSt where
  plen : Nat := 0
  prog : Tab (BitVec 64) := []
  xmem : Tab Word := []
  ymem : Tab Word := []
  ctxs : Tab Ctx := []
  insts : List Inst := []
  entryTick : Option Nat := none
  halted : Bool := false
  cur : Nat := 0
  breaks : List Nat := []
  pass : Bool := false
  busy : Nat := 0
  util : Nat := 0
  fq : List Nat := []
  deriving DecidableEq, Repr

/-- A fabric channel: its last completed value, whether it is valid, whether it was stored since the last downstream
take (R174, R204), and the time of its last store. -/
structure ChanSt where
  val : Word := 0
  valid : Bool := true
  fresh : Bool := false
  ns : Nat := 0
  deriving DecidableEq, Repr

/-- The engines, the fabric channels, the values latched for each consumer word of kind engine (R33, R172: by channel
× 16 + index, with the period number in which it was latched), and the triggered tasks asked to start. -/
structure EnginesSt where
  eng : Tab EngSt := []
  stat : Tab TaskStat := []
  chan : Tab ChanSt := []
  latch : Tab (Nat × Word) := []
  starts : List Nat := []
  deriving DecidableEq, Repr

/-! ### Control loops (spec/06_control_loops.md) -/

/-- A level's state: integrator, derivative, previous feedback (none before the first sample), previous law sum before scaling, output computed, output
stored by the last completed instance (R173) and output taken by its destination, whether an output waits for the end of its instance (`pend`)
and whether a stored one waits to be taken (R202), a law transfer waiting for the next
release (R217), the observer's predictions (R200), the feedback sampled for the present period (R31, R33), whether its output was limited in it and its integrator stands at the limit (R220), the sample instant of the present output, the start of the period whose class F take is over, whether
the instance of the present period was aborted, and late outputs in a row (R203). -/
structure LevelSt where
  i : Int := 0
  d : Int := 0
  fbPrev : Option Int := none
  law : Int := 0
  out : Int := 0
  stored : Int := 0
  applied : Int := 0
  pend : Bool := false
  fresh : Bool := false
  transfer : Bool := false
  pPred : Int := 0
  vPred : Int := 0
  sPos : Int := 0
  sVel : Int := 0
  sCur : Int := 0
  osat : Bool := false
  isat : Bool := false
  sampleNs : Option Nat := none
  takeNs : Option Nat := none
  aborted : Bool := false
  late : Nat := 0
  deriving DecidableEq, Repr

/-- A filter slot: the committed KIND, level and coefficients, the histories, whether they are preset at its next input, and the commit that waits for the
next release (R199). -/
structure FltSt where
  kind : Nat := 0
  level : Nat := 0
  b0 : Int := 0
  b1 : Int := 0
  b2 : Int := 0
  a1 : Int := 0
  a2 : Int := 0
  x1 : Int := 0
  x2 : Int := 0
  y1 : Int := 0
  y2 : Int := 0
  preset : Bool := false
  next : Option (Nat × Nat × List Int) := none
  deriving DecidableEq, Repr

/-- An axis's loop state beside its registers: levels (0 position, 1 velocity, 2 current), filter slots, actual position,
velocity and current as last sampled for its outermost level, the torque feedforward, the actual position of the last completed position period (R32), the set-point of the outermost level with its velocity and acceleration, and a joint's for the next arm period (R331), whether
the loss of its feedback has been acted on (R206), the ramp velocity of a QSTOP or
CSTOP, samples at standstill in a row (R212), the base tick at which the reaction in progress was applied (R213), a joint's position as Gorse's last stage 1 sampled it (R391), the plausibility model's histories and count
(R208, R209) with the instant of their preset, and manual operation. -/
structure AxisSt where
  levels : Tab LevelSt := []
  flts : Tab FltSt := []
  pos : Int := 0
  vel : Int := 0
  cur : Int := 0
  torqueFf : Int := 0
  donePos : Int := 0
  sp : Int := 0
  spVel : Int := 0
  spAcc : Int := 0
  spNext : Option (Int × Int × Int) := none
  lost : Bool := false
  ramp : Option Int := none
  rampPos : Int := 0
  still : Nat := 0
  reactTick : Option Nat := none
  tickPos : Int := 0
  y1 : Int := 0
  y2 : Int := 0
  u1 : Int := 0
  u2 : Int := 0
  uSum : Int := 0
  uN : Nat := 0
  primed : Bool := false
  primedNs : Nat := 0
  bad : Nat := 0
  manual : Bool := false
  deriving DecidableEq, Repr

/-- The loops: axes by number, stops asked of the arms by axis reactions (arm: reaction code and cause, R211), and axes
whose STO the safety processor is asked to carry out, and the axes to which it grants the test permit (R431). -/
structure AxesSt where
  axes : Tab AxisSt := []
  armReq : Tab (Nat × Nat) := []
  stoReq : List Nat := []
  testPermit : List Nat := []
  deriving DecidableEq, Repr

/-! ### PWM legs and drive connectors (spec/07_pwm_and_drive_connectors.md) -/

/-- A leg's state beside its registers: the pair last committed with the clock of its commit, the pair committed before that
clock, the pairs taken for the next and used in the present period (R235, R236), the largest natural transitions of each of the
last 16 periods and of the present one (R239), missed transitions in a row (R240), whether a trip holds it off (R245), and whether it waits for the first
reload sample after a takeover (R252). `gate` is what its gates do: 0 both inactive, 1 the low side on, from `lowAt` of the present period on where that
edge has still to come, 2 the high side on. The accumulator and gates at the start of the present period, and whether PSKIP counted in it, are kept for a
clear in the clock of its start (R253). -/
structure LegSt where
  comm : Nat × Nat := (0, 0)
  commClk : Nat := 0
  prev : Nat × Nat := (0, 0)
  next : Nat × Nat := (0, 0)
  use : Nat × Nat := (0, 0)
  natHL : List (Option Nat) := []
  natLH : List (Option Nat) := []
  curHL : Option Nat := none
  curLH : Option Nat := none
  miss : Nat := 0
  trip : Bool := false
  wait : Bool := false
  gate : Nat := 0
  lowAt : Option Int := none
  accIn : Int := 0
  gateIn : Nat := 0
  lowIn : Option Int := none
  skipped : Bool := false
  deriving DecidableEq, Repr

/-- A carrier's state beside its registers: whether its identification is being read, whether the CRC of the last reading was
good, its FMAX, the tap map in force and the one that waits for the next period start with the clock of the last measurement
(R233), the periods of the last reload sample and of the last period start with their clocks, and the trip inputs that were active and enabled
(bits 0 to 3, R244). -/
structure CarSt where
  reading : Bool := false
  crcOk : Bool := false
  fmax : Nat := 0
  tap : Nat := 0
  tapNext : Option Nat := none
  calClk : Nat := 0
  lastReload : Option Nat := none
  lastStart : Option Nat := none
  reloadClk : Option Nat := none
  startClk : Option Nat := none
  tripOn : Nat := 0
  deriving DecidableEq, Repr

/-- The filter of an input line (R244, R266, R275): the level of the line, the clock in which it last changed, and the level passed on. -/
structure FilSt where
  raw : Bool := false
  clk : Nat := 0
  out : Bool := false
  deriving DecidableEq, Repr

/-- The PWM block: carriers, legs by number over the unit, the last 768 modulator bits of each sigma-delta input, oldest first (R247: by connector × 13 +
input), and the clock in which SDCLK last started (R263). -/
structure PwmSt where
  cars : Tab CarSt := []
  legs : Tab LegSt := []
  bits : Tab (List Bool) := []
  sdFrom : Nat := 0
  deriving DecidableEq, Repr

/-! ### Position and speed feedback (spec/08_feedback.md) -/

/-- A local encoder channel's state beside its registers: raw count `q`, reported position `p`, the direction of R268; the
latched causes 1, 2 and 3 (R279); the clocks of the last illegal transitions, newest first, and of the last error; whether an
SSI frame has been good since the last invalidity; the SSI frame in progress by its t_l, the last good value with its t_l,
frames in error in a row; the estimates of speed, newest first, in units of 2^-32 counts/s; the stamp t_p with the position
that stood there, the stamp t_e of the last change of p, the last speed window and frame period, and the position latched in stage 1,
unwrapped (R297); the change of `q` in a clock, and the causes that CLRINV cleared in one (R280). -/
structure EncSt where
  q : Int := 0
  p : Int := 0
  up : Bool := true
  c1 : Bool := false
  c2 : Bool := false
  c3 : Bool := false
  illegal : List Nat := []
  errClk : Option Nat := none
  good : Bool := false
  frame : Option Nat := none
  val : Int := 0
  valNs : Option Nat := none
  errRun : Nat := 0
  ests : List Int := []
  tp : Nat := 0
  pTp : Int := 0
  te : Nat := 0
  win : Option Nat := none
  frameNo : Option Nat := none
  ofs : Int := 0
  lat : Int := 0
  moved : Option (Nat × Int) := none
  cleared : Option (Nat × Bool × Bool × Bool) := none
  deriving DecidableEq, Repr

/-- A remote encoder's state beside its registers: whether it has had a sample, its speed in units of 2^-32 counts/s,
discards in a row, the cycle last evaluated with the instant of its start, and the position unwrapped (R297). -/
structure RemSt where
  has : Bool := false
  v : Int := 0
  bad : Nat := 0
  cyc : Option Nat := none
  csNs : Nat := 0
  u : Int := 0
  deriving DecidableEq, Repr

/-- The feedback block: local channels and remote encoders, and the clock of the last latch of each probe (R280). -/
structure FbkSt where
  enc : Tab EncSt := []
  rem : Tab RemSt := []
  prbClk : Tab Nat := []
  deriving DecidableEq, Repr
/-! ### Gearing, tracks and profiles (spec/09_gearing_and_profiles.md) -/

/-- A point of a planned motion: position, velocity and acceleration in 2^-128 counts, counts/s and counts/s². -/
structure Kin where
  p : Int := 0
  v : Int := 0
  a : Int := 0
  deriving DecidableEq, Repr

/-- A phase of constant jerk: its duration, the acceleration at its start and its jerk, in 2^-128 of their units. -/
structure Phase where
  dur : Int
  acc : Int
  jerk : Int := 0
  deriving DecidableEq, Repr

/-- A planned motion (R292): its start, its phases, the time since its start in 2^-128 s, its kind (0 ABS or REL, 1 VEL, 2 a
stop, 3 a QSTOP ramp, 4 a CSTOP ramp), the rest position in 2^-32 counts that it reaches exactly, the limit that a stop plan
holds (R307), and the velocity that a VEL move is to reach. -/
structure Plan where
  start : Kin
  phases : List Phase
  t : Int := 0
  kind : Nat
  goal : Option Int := none
  hold : Option Int := none
  tvel : Int := 0
  deriving DecidableEq, Repr

/-- A move that a fired action asks for (R373): 1 REL, 2 VEL, 3 HALT, its distance or velocity, and the instant of the crossing
in ns of TIME_NS. -/
structure MoveReq where
  kind : Nat
  val : Int
  ns : Nat
  deriving DecidableEq, Repr

/-- A ratio change in hand (R300 to R302): the position q in 2^-32 master units, the new ratio, the blend, the late policy that
applied (0 none), whether it fires at once, the master's position at the last evaluation or at the arming (R301), the direction of motion at arming, and whether it blends. -/
structure Change where
  q : Int
  num : Int
  den : Nat
  blend : Nat
  late : Nat := 0
  now : Bool := false
  last : Int := 0
  fwd : Bool := true
  blending : Bool := false
  deriving DecidableEq, Repr

/-- An axis's motion state beside its registers: set-point in 2^-32 counts with its velocity and acceleration in 2^-128 units,
the running plan, the target of the last ABS or REL move, what the next period commits (R290: moves of actions, the host's move as MOVE or 3 for HALT,
gearing writes, new limits), the present sample count of INPOS, the tick of its last period, and the gearing: the master's last value and the travel since the anchor in 2^-32 master units,
the anchor as a fraction in 2^-32 counts (R298), and the ratio change in hand. -/
structure MotSt where
  sp : Int := 0
  v : Int := 0
  a : Int := 0
  plan : Option Plan := none
  target : Option Int := none
  cmds : List MoveReq := []
  move : Option Nat := none
  engage : Bool := false
  disengage : Bool := false
  cancel : Bool := false
  replan : Bool := false
  inN : Nat := 0
  tick : Option Nat := none
  m : Int := 0
  x : Int := 0
  yn : Int := 0
  yd : Nat := 1
  change : Option Change := none
  deriving DecidableEq, Repr

/-- A track's state beside its registers: position in 2^-32 µm, the remainder of R310 in 1/DEN of that, the master's last value,
the last positions and velocities (newest first), updates coasted and the velocity of coasting, whether it is frozen, whether
CLRINV has been written since the master became valid, a preset that waits, and the instant of its last update. -/
structure TrackSt where
  p : Int := 0
  rem : Int := 0
  m : Option Int := none
  hist : List Int := [0]
  vhist : List Int := [0]
  coast : Nat := 0
  vLast : Int := 0
  frozen : Bool := false
  clr : Bool := false
  preset : Option Int := none
  tns : Nat := 0
  deriving DecidableEq, Repr

/-- A virtual master's state: position and velocity in 2^-32 units, present acceleration in units/s². -/
structure VmSt where
  p : Int := 0
  v : Int := 0
  acc : Int := 0
  deriving DecidableEq, Repr

/-- Motion: axes, tracks, virtual masters, and the ticks of the last updates of the latter two. -/
structure MotionSt where
  axes : Tab MotSt := []
  tracks : Tab TrackSt := []
  vms : Tab VmSt := []
  trackTick : Option Nat := none
  vmTick : Option Nat := none
  deriving DecidableEq, Repr

/-! ### Arms and paths (spec/10_arms_and_paths.md) -/

/-- A vector in 60 fraction bits. -/
structure V3 where
  x : Int := 0
  y : Int := 0
  z : Int := 0
  deriving DecidableEq, Repr

/-- A rotation matrix by rows, in 60 fraction bits. -/
structure M3 where
  a : V3 := { x := 2 ^ 60 }
  b : V3 := { y := 2 ^ 60 }
  c : V3 := { z := 2 ^ 60 }
  deriving DecidableEq, Repr

/-- A pose of the TCP (R332): position in µm and rotation. -/
structure PoseM where
  p : V3 := {}
  r : M3 := {}
  deriving DecidableEq, Repr

/-- A segment (R333, R334). -/
structure Seg where
  kind : Nat
  blendEn : Bool
  evStart : Bool
  evEnd : Bool
  segId : Nat
  vel : Nat
  acc : Nat
  blend : Nat
  target : List Int
  aux : List Int
  dur : Nat
  deriving DecidableEq, Repr

/-- A segment in execution: path time and duration in 2^-128 s, the profile of its path coordinate with the coordinate's length in
2^-128 (R337), where it starts, its target joints in 2^-32 units, and its geometry: the line's displacement, a circle's centre and
its two radius vectors with its angle, or a spline's six coefficients with the lengths at its nodes; the axis and angle of its
change of orientation; whether its blend point has been decided (R340, R342). -/
structure SegRun where
  seg : Seg
  tau : Int := 0
  dur : Int := 0
  phases : List Phase := []
  len : Int := 0
  startQ : List Int := []
  endQ : List Int := []
  start : PoseM := {}
  finish : PoseM := {}
  disp : V3 := {}
  centre : V3 := {}
  e1 : V3 := {}
  e2 : V3 := {}
  angle : Int := 0
  coef : List V3 := []
  nodes : List Int := []
  axis : V3 := {}
  theta : Int := 0
  decided : Bool := false
  deriving DecidableEq, Repr

/-- An arm's path engine beside its registers: segments in execution, oldest first, and queued; f_s in Q15 with 32768 as 1, the hold
factor with 2^40 as 1 and its ramp (goal and step per period); joint set-points of the last two periods in 2^-32 units; the rates
dq/dτ of the last two periods and the TCP's, the last Δτ; the commanded pose, and the tangent and curvature with which the last
segment ends; periods of IK excess in a row (R344); the stop in progress (reaction code and CAUSE); the tick of the last period; the
Gorse scales that wait for a period, each with the instant from which on a period takes it, oldest first (R35); segments whose path time ended in this period, with whether the queue ran out (R350); the IK registers committed for this period, IKCFG, IKLAM, IKTOL, NSGAIN and QHOME; what a host write asks for at the next period; a pose that waits for the IK task. -/
structure ArmSt where
  runs : List SegRun := []
  queue : List Seg := []
  fs : Nat := 32768
  h : Int := 2 ^ 40
  hGoal : Int := 2 ^ 40
  hStep : Int := 0
  q : List Int := []
  qPrev : List Int := []
  vel : List Int := []
  rate : List Int := []
  ratePrev : List Int := []
  dtau : Int := 0
  tcpRate : Int := 0
  tcpRatePrev : Int := 0
  pose : PoseM := {}
  endTan : Option V3 := none
  endCurv : V3 := {}
  excess : Nat := 0
  stop : Nat := 0
  stopCause : Nat := 0
  tick : Option Nat := none
  gorse : List (Nat × Nat) := []
  ends : List (Seg × Bool) := []
  ikRegs : List Word := []
  hold : Bool := false
  resume : Bool := false
  flush : Bool := false
  lastBlend : Bool := false
  ikPose : Option PoseM := none
  deriving DecidableEq, Repr

/-! ### Field inputs and outputs (spec/14_field_io.md) -/

/-- A field channel beside its registers. Input: the counter of R459 and the samples since the last reset, resuming or re-arm (R460).
Output: the level that its terminal is driven to, TIME_NS of the last change of command, the CK_PER clock of the last clear (R462),
samples in a row commanded off and read back high (R463), the field side's SAFE value, the level held by SAFE = HOLD, whether a
thermal shutdown holds it off, whether eight in 1 s hold it off until CLRTHERM, the clocks of the shutdowns (R464), the end of a
running pulse (R361), whether the safety processor permits it (R434), and
`fout` that the field side drives it as an output that is no safety output. -/
structure DioCh where
  c : Nat := 0
  qualN : Nat := 0
  level : Bool := false
  cmdNs : Nat := 0
  clrPer : Option Nat := none
  highRun : Nat := 0
  safe : Nat := 0
  held : Bool := false
  hot : Bool := false
  latched : Bool := false
  thermClks : List Nat := []
  pulseEnd : Option Nat := none
  permit : Bool := false
  lastPulse : Nat := 0
  captured : Bool := false
  fout : Bool := false
  deriving DecidableEq, Repr

/-- A field bank beside its registers: samples in a row below 19.2 V, at or above 19.2 V and at or above 20.4 V (R467, R468), the
clock of the last refresh, the field side's WDT, an expiry to report (R469), the last six readbacks, newest first, and
`holding` that the field side holds the last levels after a reset (R470). -/
structure DioBank where
  low : Nat := 0
  ok : Nat := 0
  rearm : Nat := 0
  refresh : Option Nat := none
  wdt : Nat := 10
  report : Bool := false
  holding : Bool := false
  rb : List Nat := []
  deriving DecidableEq, Repr

/-- Field I/O: channels, banks, the index of the last sample (TIME_NS / 100 µs), the running dark test pulse (channel and TIME_NS of
its start, R465), and whether every output is at SAFE for the unit as a whole (R470). -/
structure DioSt where
  ch : Tab DioCh := []
  bank : Tab DioBank := []
  sample : Option Nat := none
  pulse : Option (Nat × Nat) := none
  allSafe : Bool := false
  deriving DecidableEq, Repr

/-! ### The Tallboy (spec/11_item_tracking.md) -/

/-- R359: an item record. -/
structure ItemSt where
  trk : Nat
  gen : Nat
  tag : Nat
  ref : Int
  len : Nat
  addTime : Nat
  xfrTime : Nat
  acts : List (Option Nat) := [none, none, none, none]
  user : List Byte := []
  deriving DecidableEq, Repr

/-- R360: an action entry. `state` is 1 DORMANT, 2 ARMED, 3 PROJECTED, 4 COMMITTED, 5 WAIT; `wrap` the direction of motion at arming of
an action with WRAP = 1 (true forward); `cross` the crossing (TIME_NS and position in 2^-32 µm), `tc` the committed time, `ep` the
position error measured at it (R382), `busy` that TO_BUSY has been logged, `late` that it is sent at once (R380), `waits` that it is held until its track updates again (R370). -/
structure ActSt where
  kind : Nat
  trk : Nat
  pol : Nat
  state : Nat
  item : Nat
  gen : Nat
  slot : Nat
  ofs : Int
  target : Nat
  arg0 : Nat
  arg1 : Nat
  q : Int := 0
  wrap : Option Bool := none
  replay : Bool := false
  tfire : Nat := 0
  toIx : Nat := 0
  token : Nat := 0
  cross : Option (Nat × Int) := none
  tc : Option Nat := none
  ep : Option Int := none
  busy : Bool := false
  late : Bool := false
  waits : Bool := false
  deriving DecidableEq, Repr

/-- A crossing that waits to be issued (R372): action, clock, TIME_NS, position in 2^-32 µm and HOSTTAG of the item. -/
structure FireSt where
  act : Nat
  clk : Nat
  ns : Nat
  pos : Int
  tag : Nat := 0
  deriving DecidableEq, Repr

/-- A timed output: the action it carries, the last token assigned, a token to cancel at the next take, the command that is sent
(TFIRE and TCMD), the TFIRE up to which a FINAL command is repeated, and whether FIRED has been seen for it. -/
structure ToSt where
  act : Option Nat := none
  last : Nat := 0
  cancel : Option Nat := none
  tfire : Nat := 0
  tcmd : Nat := 0
  final : Option Nat := none
  fired : Bool := false
  deriving DecidableEq, Repr

/-- The Tallboy: items and actions by number, the generation of every handle, timed outputs, the publications of each track (instant,
position and velocity, newest first), the position and instant up to which each track has been compared, the crossings that wait, the clocks
of the last firings, the copy of the item window, and the takes made by port (the start of the cycle that the last one served). -/
structure TallSt where
  items : Tab ItemSt := []
  gens : Tab Nat := []
  acts : Tab ActSt := []
  tos : Tab ToSt := []
  pubs : Tab (List (Nat × Int × Int)) := []
  seen : Tab Int := []
  fires : List FireSt := []
  fireClks : List Nat := []
  win : List Word := []
  takes : Tab Nat := []
  replay : Bool := false
  deriving DecidableEq, Repr

/-! ### Gorse (spec/12_separation_monitoring.md) -/

/-- R394: a capsule report: TMEAS, STATUS, its capsules in µm in the plant frame (end points and radius). -/
structure CapReport where
  tmeas : Word
  status : Nat
  caps : List (List Int × List Int × Int)
  deriving DecidableEq, Repr

/-- R403: a sensor: the report in use, one that waits for the next evaluation, whether a report has come since the last evaluation,
and whether the safety layer has lost its connection. -/
structure SensorSt where
  cur : Option CapReport := none
  next : Option CapReport := none
  new : Bool := false
  lost : Bool := true
  deriving DecidableEq, Repr

/-- R391, R396, R407: a monitored arm: GORSE_ARM_CAPEN and whether its joints' feedback was valid at the last sample tick, the last valid joint positions, the end points of its 24 capsules in the last evaluation (2^-60 µm,
empty where there is no history), and the deciding pair's distance and margin that the cross-check compares. -/
structure GorseArm where
  en : Nat := 0
  fb : Bool := false
  q : List Int := []
  ends : List (Nat × V3 × V3) := []
  d : Int := 0
  m : Int := 0
  paired : Bool := false
  deriving DecidableEq, Repr

/-- Gorse: sensors, arms, the tick of the last evaluation delivered or failed, whether that one failed, TIME_NS of the failures, and that of the delivery of
the last evaluation (R35). -/
structure GorseSt where
  sens : Tab SensorSt := []
  arms : Tab GorseArm := []
  tick : Option Nat := none
  failed : Bool := false
  fails : List Nat := []
  done : Nat := 0
  deriving DecidableEq, Repr

/-! ### The safety processor (spec/13_safety.md) -/

/-- A safe axis beside its registers: cycles in a row of a mismatch of STOFB, the SS1 in progress (CSTOP or QSTOP reaction code, safe
speed at the demand, TIME_NS of its start), cycles at standstill, safe positions of the last cycles (newest first), cycles in a row
beyond SPOSTOL, the kind of the last fault, TIME_NS since which PERMIT = 0 is sent, and whether FACK is to be sent. -/
structure SafeAxis where
  misN : Nat := 0
  ss1 : Option (Nat × Int × Nat) := none
  standN : Nat := 0
  pos : List Int := []
  devN : Nat := 0
  cause : Nat := 0
  offNs : Option Nat := none
  fack : Bool := false
  deriving DecidableEq, Repr

/-- An input pair beside its register: TIME_NS since which its contacts disagree, and whether both have shown the demand state since
DISCF was set, and whether a cross fault (R466) or the loss of the bank (R433, R468) keeps it in demand until an acknowledgement. -/
structure SafePair where
  since : Option Nat := none
  both : Bool := false
  owes : Bool := false
  deriving DecidableEq, Repr

/-- A safety connection beside its registers: carrier units received and not yet taken (an empty one is missing or discarded; with the stamp of its
start of frame), the partial message in hand, complete messages not yet checked (bytes, stamp and TIME_NS
of arrival), whether an accepted message gives a baseline, the WDT of the last accepted one, TIME_NS of its arrival, messages accepted
in sequence since the baseline, the discards of SEQ (TIME_NS), the last payload, and what it sends: SEQ, whether one has been sent
since start, the fragments that wait, and the last PERMIT. -/
structure SafeConn where
  inbox : List (List Byte × Word) := []
  part : Option (List Byte) := none
  full : List (List Byte × Word × Nat) := []
  wdt : Nat := 0
  arr : Nat := 0
  seqN : Nat := 0
  discs : List Nat := []
  data : List Byte := []
  seq : Nat := 0
  started : Bool := false
  frags : List (List Byte) := []
  permit : Bool := false
  sentTick : Option Nat := none
  deriving DecidableEq, Repr

/-- A function beside its register: cycles in a row beyond LIM1 by safe axis (SLS), and the reference of SDI by safe axis. -/
structure SafeFn where
  ovr : Tab Nat := []
  ref : Tab Int := []
  deriving DecidableEq, Repr

/-- The safety processor: safe axes, pairs, connections, functions, the tick of the last safety cycle, an acknowledgement asked for,
the last level of the acknowledgement input, whether the diagnostics at start have passed, the safety monitor's hold (R416, R418),
the clocks of the last ROM check and self-test, and the safe axes whose STOFB is active. -/
structure SafeSt where
  axes : Tab SafeAxis := []
  pairs : Tab SafePair := []
  conns : Tab SafeConn := []
  fns : Tab SafeFn := []
  tick : Option Nat := none
  ack : Bool := false
  ackLvl : Bool := false
  monitor : Bool := false
  romClk : Nat := 0
  testClk : Nat := 0
  stofb : List Nat := []
  deriving DecidableEq, Repr

/-! ### CAN channels (spec/15_can_channels.md) -/

/-- R485: a CAN frame: FLAGS, DLC, identifier and data. -/
structure CanFrame where
  flags : Nat
  dlc : Nat
  id : Nat
  data : List Byte := []
  deriving DecidableEq, Repr

/-- The frame in transmission: that of a transmit buffer, or the next fragment of a safety connection (R487). -/
inductive CanSrc
  | buffer (b : Nat)
  | safety (conn : Nat)
  deriving DecidableEq, Repr

/-- A channel beside its registers: frames by transmit buffer, RXA and RXB as the message bodies that they become (R484), messages of
completion that wait for room, the frame in transmission, acknowledgement errors in a row on one frame (R490), the clock of the last attempt
during LONE, data bit errors in a row by identifier (R491), whether bus-off recovery has begun (R489), whether CAN_DBT has been
written, and rate detection (R481): its start, the candidate, frames received without error, whether it has failed; the last
identifier suspended with its CK_PER clock and its place in CAN_CLASH_ID (R492), and what stood in the mask/match pairs before writes of
the last 100 ms: TIME_NS of the write, pair, MATCH and MASK (R498). -/
structure CanSt where
  bufs : Tab CanFrame := []
  rxa : List (List Byte) := []
  rxb : List (List Byte) := []
  done : List (List Byte) := []
  cur : Option CanSrc := none
  ackRun : Option (CanSrc × Nat) := none
  loneClk : Nat := 0
  clash : Tab Nat := []
  recovering : Bool := false
  dbt : Bool := false
  detClk : Nat := 0
  detRate : Nat := 0
  detN : Nat := 0
  detFailed : Bool := false
  newClash : Option (Nat × Nat × CanFrame) := none
  fltOld : List (Nat × Nat × Word × Word) := []
  deriving DecidableEq, Repr


/-! ### The redundant pair (spec/18_redundant_pair.md) -/

/-- R543: a mirrored object as a whole entry. `gone` says that the object of a kind and number is there no more. -/
inductive MirObj
  /-- A register in which a mirrored object shows, by address. -/
  | reg (addr : Nat) (w : Word)
  | axis (a : Nat) (x : AxisSt)
  | mot (a : Nat) (x : MotSt)
  | track (t : Nat) (x : TrackSt)
  | arm (m : Nat) (x : ArmSt)
  | item (h : Nat) (x : ItemSt)
  | gen (h g : Nat)
  | act (i : Nat) (x : ActSt)
  | toObj (o : Nat) (x : ToSt)
  | fires (l : List FireSt)
  | group (g : Nat) (x : GroupSt)
  | slot (k : Nat) (x : SlotSt)
  | cmp (k : Nat) (tgt : Word)
  | can (c : Nat) (bufs : Tab CanFrame) (clash : Tab Nat) (lone : Bool)
  | safeAxis (k : Nat) (x : SafeAxis)
  | safeConn (c : Nat) (x : SafeConn)
  | enc (c : Nat) (pos : Int)
  | rem (r : Nat) (x : RemSt)
  | sess (slot : Nat) (x : Session)
  | queue (q : Nat) (x : Queue)
  | load (hash : List Byte) (keep : Bool) (t : Nat)
  | gone (kind num : Nat)
  deriving DecidableEq, Repr

/-- R541: a MIRROR or COPY frame: FSEQ, TICK, whether it is the last of its tick or copy, whether it is part of a full copy, and its
entries. -/
structure MirFrame where
  fseq : Nat
  tick : Nat
  last : Bool
  copy : Bool
  objs : List MirObj
  deriving DecidableEq, Repr

/-- R540, R541: what a HELLO carries: rank, serial number, role (LINE_GSTAT.ROLE), MSTATE, IMGHASH of the active image, the IMGHASH of the
image that passed the last CHECK (R139), and the power state announced (R564). -/
structure PairHello where
  rank : Nat
  serial : Nat
  role : Nat
  mstate : Nat
  hash : List Byte
  checked : List Byte
  pwr : Nat
  deriving DecidableEq, Repr

/-- The pair's state beside its registers: the last HELLO of the peer, the clock of its last valid frame, that of the last HELLO sent, and
the paths that have been lost (R549, R550); as active unit the next FSEQ, the tick last mirrored, the objects as last sent, the frames of the
last 32 ticks, the tick acknowledged with the clock of the last ACK, whether the standby is lost, and the handover asked for: T and whether
HANDOVER has been sent and acknowledged; as standby the next FSEQ awaited, the frames held behind a gap, the tick of the gap, whether a full
copy is awaited and whether it has begun, the mirrored state at the mirror point, and the offsets of R287. `takeT` is T of a HANDOVER received,
`demoteT` that of a handover made, until T + 4 ms. -/
structure PairSt where
  peer : Option PairHello := none
  heardClk : Option Nat := none
  helloClk : Nat := 0
  linkLost : Bool := false
  lineLost : Bool := false
  fseq : Nat := 0
  sentTick : Option Nat := none
  sent : List MirObj := []
  kept : List MirFrame := []
  acked : Option Nat := none
  ackClk : Nat := 0
  standbyLost : Bool := false
  switchT : Option Nat := none
  handSent : Bool := false
  handAcked : Bool := false
  expect : Nat := 0
  early : List MirFrame := []
  gapTick : Option Nat := none
  copyWait : Bool := false
  copying : Bool := false
  copy : List MirObj := []
  encOfs : Tab Int := []
  takeT : Option Nat := none
  demoteT : Option Nat := none
  deriving DecidableEq, Repr

/-! ### What the unit puts out -/

/-- What the unit put out while it carried out the last command, in order: answers to register accesses, messages to
the host, frames on its lines, links and buses, and actions that leave a block. -/
inductive Out
  /-- The answer to a register write. -/
  | status (st : Status)
  /-- The answer to a register read, with the word. -/
  | word (st : Status) (w : Word)
  /-- A Sapex message to a host. -/
  | host (dst : Peer) (bytes : List Byte)
  /-- A message placed in response queue `q`, at position `pos`. -/
  | placed (q : Nat) (pos : Nat) (bytes : List Byte)
  /-- A frame that is not Sapex on a host port: PTP, ARP, ICMP and Neighbour Discovery, with its kind and bytes. -/
  | net (port : Nat) (kind : Nat) (bytes : List Byte)
  /-- A frame on line port `p`: its frame type and its bytes on the wire. -/
  | line (p : Nat) (typ : Nat) (bytes : List Byte)
  /-- The bytes of an MBX frame passed on to the host: port, slot index, FUNC and data (R80). -/
  | mbx (p slot func : Nat) (data : List Byte)
  /-- A frame on the pairing link (R541): its TYPE, FSEQ and TICK and the values of its payload. -/
  | pair (typ fseq tick : Nat) (fields : List Int)
  /-- A MIRROR or COPY frame on the pairing link, `retx` that it is sent again (R544). -/
  | mirror (f : MirFrame) (retx : Bool)
  /-- A CAN frame put on the bus of a channel: identifier word, flags and data. -/
  | can (ch : Nat) (id : Nat) (flags : Nat) (data : List Byte)
  /-- The gate edges of leg `l` from now on, in taps from the start of the PWM period: 0 high side off, 1 high side on, 2 low side off, 3 low side on. Edges
  of an earlier record that are not yet due are withdrawn; with no edge at all both gates are inactive at once. -/
  | leg (l : Nat) (edges : List (Int × Nat))
  /-- The action of a comparator (R57): its number, ACT and OBJ. -/
  | action (cmp : Nat) (act : Nat) (obj : Nat)
  /-- A safety message fragment (R436) sent for a connection. -/
  | fragment (conn : Nat) (bytes : List Byte)
  /-- A discrete signal of the unit: its kind, the object and the level or value. -/
  | signal (kind : String) (obj : Nat) (val : Int)
  deriving DecidableEq, Repr

/-! ### Measurement, debug and power states (spec/20_security_debug_power.md) -/

/-- The pairing link (R541, R542): the clock in which it is free again, the FSEQ of the next frame of each TYPE but MIRROR, and the frames that wait to
be sent with their priorities, oldest first. -/
structure LinkSt where
  busy : Nat := 0
  seqs : Tab Nat := []
  q : List (Nat × Out) := []
  deriving DecidableEq, Repr

/-- R594: an entry of the measurement log. -/
structure MeasRec where
  slot : Nat
  op : Nat
  cnt : Nat
  d : List Byte
  ts : Word
  boot : Nat
  deriving DecidableEq, Repr

/-- The security state beside its registers: the digests of the firmware in force and of the inactive copy where it has been written (0
housekeeping, 1 safety processor), the measurement log, the copies of slots that a read of SEC_MS takes, the outstanding challenge with
the clock of its issue, TIME_NS at which SERVICE ends with its scope and token digest, TIME_NS at which an armed debug permission ends with
its scope and digest, the debug session by its SOURCE, the instructions and operations refused in this session, whether a request has been refused,
whether a BSDRIVE instruction holds the pins, and the engines whose halt waits for the safety processor (R606). -/
structure SecSt where
  fw : Tab (List Byte) := []
  fwNext : Tab (List Byte) := []
  log : List MeasRec := []
  msCopy : Tab (List Word) := []
  chal : Option (List Byte × Nat) := none
  svcEnd : Option Nat := none
  svcScope : Nat := 0
  svcTd : List Byte := []
  dbgEnd : Option Nat := none
  dbgScope : Nat := 0
  dbgTd : List Byte := []
  open_ : Option Nat := none
  denied : List Nat := []
  reqDenied : Bool := false
  pins : Bool := false
  haltAsk : List Nat := []
  deriving DecidableEq, Repr

/-- The power states beside PWR_STAT: TIME_NS of the selection of a deeper state with its cause, and the state left by an exit in
progress. Causes: 0 PWR_LATTOL, 1 a wake, 2 debug, 3 an axis, 4 the peer. -/
structure PwrSt where
  selNs : Nat := 0
  cause : Nat := 0
  exitFrom : Option Nat := none
  deriving DecidableEq, Repr

/-- SYS beside its registers: whether the regulated supply is off after a TEMPCRIT, the clock at which an accepted warm reset is made, the
clock of the last service of the watchdog, the clock at which the last sequence of R624 in this run began, the axes whose CSTOP of R624 waits
for their next position-level sample, the clock of a TEMPCRIT, the clock since which the temperature is below 70 °C, and that of the last
measurement. -/
structure SysSt where
  off : Bool := false
  resetDue : Option Nat := none
  wdClk : Nat := 0
  pfClk : Option Nat := none
  pfAxes : List Nat := []
  crit : Option Nat := none
  coolClk : Option Nat := none
  tempClk : Option Nat := none
  deriving DecidableEq, Repr

end Sys2Proof.Machine
end

