-- ==== Sys2Proof/Messages.lean ====
section
/-! DEFINITION. The structured operands of commands: what a frame or a message that reaches the unit carries. -/

namespace Sys2Proof

/-- R49: the header of a PTP message: host port (0 X2, 1 X3), transport (the code of TIME_PTP_CFG.TRANS), domain,
majorSdoId, the sender's port identity and the sequence number. -/
structure PtpHdr where
  port : Nat
  trans : Nat
  domain : Nat
  sdoId : Nat
  src : Nat
  seq : Nat
  deriving DecidableEq, Repr

/-- R75: what a valid cycle-start frame of another unit carries: FLAGS, period code, CYCLE, TIME and UNIT. -/
structure CycFrame where
  flags : Nat
  k : Nat
  cycle : Nat
  time : Nat
  unit : Nat
  deriving DecidableEq, Repr

/-- R77, R81: an upstream slot as received: the offset e of its SD in ns, the offset of the next slot's SD if that came before this
slot's ED, and its 40 bytes. -/
structure SlotFrame where
  e : Int
  nextE : Option Int
  wire : List (BitVec 8)
  deriving DecidableEq, Repr

end Sys2Proof
end

