-- ==== Sys2Proof/Syntax.lean ====
section
/-! DEFINITION. The commands of the Q9648: one constructor per row of spec/opcode_table.json. A command is an access of the host,
an event of the world outside the case, or an instant that one of the unit's own units reaches; its operands carry what comes from outside the
unit's state: numbers of ports, axes, channels and sessions, written words, measured values and messages. The table gives its rows no bits and no operands,
so the operands are the model's (notes/assumptions/1.md). -/

namespace Sys2Proof

/-- The commands: those with operands in the table's order, then those without. -/
inductive Instr
  /-- R661: A host write of a register that has no row of its own is taken whole or not at all, with each field checked under its access code. Operands: session slot, address and word. -/
  | regWriteOther (ses addr : Nat) (w : Word)
  /-- R8: A read of a _LO register latches the _HI half of the pair for the reading session. Operands: session slot and address. -/
  | loReadLatch (ses addr : Nat)
  /-- R8: A write of a _HI register is held for the session until its _LO is written. Operands: session slot, address and word. -/
  | hiWriteHold (ses addr : Nat) (w : Word)
  /-- R8: A write of a _LO register commits it and any held _HI half in the same clock. Operands: session slot, address and word. -/
  | loWriteCommit (ses addr : Nat) (w : Word)
  /-- R109: A read of a saturating counter register marked cleared on read returns the count and clears it. Operands: session slot and address. -/
  | counterReadClear (ses addr : Nat)
  /-- R618: Mains loss beyond hold-up or a brownout resets the unit, restarts TIME_NS at 0 and runs the start-up sequence. Operand: that the newest record was being written when the supply failed. -/
  | coldReset (cut : Bool)
  /-- R651: The X70 reset input or the front reset switch held active for at least 10 µs resets the unit when it is released. Operand: the time for which the input was active, in ns. -/
  | pinReset (ns : Nat)
  /-- R619: A write of SYS_RST_CTL.WARM with the right KEY from a controlling session, with no axis enabled, is accepted and logs SYS_RESET_REQ. Operands: session slot and the word written to SYS_RST_CTL, whose WARM is 1. -/
  | warmResetReq (ses : Nat) (w : Word)
  /-- R43: A base tick begins when TIME_NS reaches n × 31,250 and local samples are latched at tick phase 0. Operand: the modulator bits that the sigma-delta inputs have given since the last base tick: connector, input, bits, oldest first. -/
  | baseTick (sd : List (Nat × Nat × List Bool))
  /-- R40: A write of CLK_CTL.REFSEL selects the reference and, with REFSEL = external, returns the PLL to it after a loss. Operands: session slot and the word written to CLK_CTL. -/
  | refselWrite (ses : Nat) (w : Word)
  /-- R45: A write of TIME_CTL.CLOSE closes the step window in the next clock. Operands: session slot and the word written to TIME_CTL, whose CLOSE is 1. -/
  | close (ses : Nat) (w : Word)
  /-- R45: A write of STEPWIN while the window is open changes its length, closing it at once if already elapsed. Operands: session slot and the word written to TIME_CTL. -/
  | stepwinWrite (ses : Nat) (w : Word)
  /-- R46: With SRC = HOST a write of TIME_STEP_LO adds the signed offset to TIME_NS in one clock. Operands: session slot and the word written to TIME_STEP_LO. -/
  | timeStepWrite (ses : Nat) (w : Word)
  /-- R48: A host write of TIME_RATE sets the rate offset from the next CK_FAB clock. Operands: session slot and the word written to TIME_RATE. -/
  | timeRateWrite (ses : Nat) (w : Word)
  /-- R50: A received Announce qualifies a grandmaster under the BMCA and moves the PTP servo state. Operands: the message's header, its data set in comparison order, its logAnnounceInterval and its currentUtcOffset. -/
  | ptpAnnounce (m : PtpHdr) (data : List Nat) (logInt utc : Int)
  /-- R49: A received Sync message is stamped in hardware for the offset measurement. Operands: the message's header, logSyncInterval, whether a Follow_Up comes, and its corrected origin time in ns. -/
  | ptpSync (m : PtpHdr) (logInt : Int) (twoStep : Bool) (t1 : Int)
  /-- R49: A received Follow_Up supplies the precise origin time of a two-step Sync. Operands: the message's header and its corrected origin time in ns. -/
  | ptpFollowUp (m : PtpHdr) (t1 : Int)
  /-- R50: A received Delay_Resp completes an offset measurement that feeds the servo, the lock test and the step. Operands: the message's header; its requestingPortIdentity and its corrected receive time in ns. -/
  | ptpDelayResp (m : PtpHdr) (resp : Nat × Int)
  /-- R56: A write of TIME_CMP_CTL.ARM arms a comparator after checking target, period and owner. Operands: session slot, comparator and the word written to TIME_CMP_CTL, whose ARM is 1. -/
  | cmpArm (ses k : Nat) (w : Word)
  /-- R58: A write of TIME_CMP_CTL.DISARM disarms a comparator. Operands: session slot, comparator and the word written to TIME_CMP_CTL, whose DISARM is 1. -/
  | cmpDisarm (ses k : Nat) (w : Word)
  /-- R55: A read of TIME_CMP_STAT returns the counts and clears MISSED. Operands: session slot and comparator. -/
  | cmpStatRead (ses k : Nat)
  /-- R69: A port's receive link comes up after 1,024 valid symbols and LINE_UP is logged. Operand: port. -/
  | linkUp (p : Nat)
  /-- R69: A port's link goes down after 1 µs without a valid symbol or 16 code violations; LINE_DOWN is logged and a break may be declared. Operand: port. -/
  | linkDown (p : Nat)
  /-- R107: A write of LINE_CTL.START starts a port in LISTEN under R85. Operands: session slot, port and the word written to LINE_CTL, whose START is 1. -/
  | lineStart (ses p : Nat) (w : Word)
  /-- R107: A write of LINE_CTL.STOP ends sending after the current cycle. Operands: session slot, port and the word written to LINE_CTL, whose STOP is 1. -/
  | lineStop (ses p : Nat) (w : Word)
  /-- R107: A write of LINE_CTL.REDISC restores a healed ring and remeasures all delays. Operands: session slot, port and the word written to LINE_CTL, whose REDISC is 1. -/
  | redisc (ses p : Nat) (w : Word)
  /-- R86: A valid cycle-start frame from another unit decides roles by rank, silencing the higher rank number. Operands: port and the bytes of the frame. -/
  | foreignCycleStart (p : Nat) (w : List (BitVec 8))
  /-- R73: At a port's period boundary it sends the cycle-start frame and the downstream train. Operand: port. -/
  | cycleStart (p : Nat)
  /-- R78: At P − 256 ns the port sends the cycle-end marker with HOPS 0. Operand: port. -/
  | cycleEndMarkerSend (p : Nat)
  /-- R72: A returned cycle-end marker gives the loop delay and decides RUN entry, LOOPLONG, breaks and open-line restoration. Operands: port and the bytes of the marker: those before its CRC-16, the CRC-16, and those after it. -/
  | markerReturn (p : Nat) (head crc tail : List (BitVec 8))
  /-- R95: A LINK_DOWN frame from a node declares a break on the port. Operands: port and the bytes of the frame. -/
  | linkDownFrame (p : Nat) (w : List (BitVec 8))
  /-- R81: An upstream slot is received, its placement measured and its data used or discarded. Operands: port, slot and the slot as received. -/
  | slotArrival (p i : Nat) (f : SlotFrame)
  /-- R84: MISSLIM consecutive cycles without a usable slot make the node's endpoints STALE and start feedback-loss reactions. Operands: port and slot. -/
  | slotStale (p i : Nat)
  /-- R84: 16 consecutive cycles without any slot make the slot EMPTY, log NODE_LOST and send MUTE with REASON 5. Operands: port and slot. -/
  | nodeLost (p i : Nat)
  /-- R80: In the fallow window the port sends acyclic frames by priority: marks, probes, TRIM and MUTE, group frames, joins, MBX. Operand: port. -/
  | fallowWindow (p : Nat)
  /-- R93: Every 2^DLYPER cycles, and during each join, the Q9648 sends DELAY_PROBE from each end of the line. Operand: port. -/
  | delayProbeCycle (p : Nat)
  /-- R93: A DELAY_RPT gives a node's H, from which its delays and transmit offsets are sent in NODE_TIMING. Operands: port, slot of the node or of its join, and the bytes of the frame: those up to its payload, and its CRC-32 and end symbol. -/
  | delayRpt (p i : Nat) (head tail : List (BitVec 8))
  /-- R90: A JOIN_REQ is matched to the slot table and the join proceeds, or is refused with JOIN_NAK. Operands: port and the bytes of the frame: those before its payload, the payload, the CRC-32, and the end symbol. -/
  | joinReq (p : Nat) (head body crc tail : List (BitVec 8))
  /-- R90: A test slot sent for PLACE_TEST is measured; a TRIM and retest or a JOIN_GRANT follows. Operands: port, slot, how far in ns the test slot lies from its place, and its bytes. -/
  | testSlot (p i : Nat) (err : Int) (w : List (BitVec 8))
  /-- R663: No DELAY_RPT or test slot within 2 cycles abandons the join and returns the slot to EMPTY. Operands: port and slot. -/
  | joinTimeout (p i : Nat)
  /-- R99: With AUTORST = 1, once every link has been up for 1 s, only LP2k sends again and LINE_RESTORED is logged. Operand: port. -/
  | ringRestore (p : Nat)
  /-- R100: A RELAY_BLK frame over the pairing link gives the standby the blocks of a relayed segment. Operands: port, CYCLE and the blocks of 16 bytes by slot. -/
  | relayBlk (p cycle : Nat) (blocks : List (Nat × List (BitVec 8)))
  /-- R100: A RELAY_SLOT frame brings a slot received by the standby to the active unit. Operands: port, slot and the slot as received. -/
  | relaySlot (p i : Nat) (f : SlotFrame)
  /-- R80: An upstream MBX frame passes its bytes unchanged from an endpoint to the host. Operands: port and the bytes of the frame: those before its payload, the payload, and its CRC-32 and end symbol. -/
  | mbxUp (p : Nat) (head body tail : List (BitVec 8))
  /-- R102: A cycle mark fires at its offset, raising an event, starting a task or both, and is sent as MARK with WIRE = 1. Operands: port and mark. -/
  | cycleMark (p m : Nat)
  /-- R104: A write of GRP_REQ.REQ starts a staged group mode change, sending GRP_STAGE to every member. Operands: session slot, group and the word written to GRP_REQ, whose REQ is 1. -/
  | grpReq (ses g : Nat) (w : Word)
  /-- R104: A GRP_STAGED from a member records its staged mode; after the last, the apply cycle N is set. Operands: port and the bytes of the frame: those before its payload, the payload, the CRC-32, and the end symbol. -/
  | grpStaged (p : Nat) (head body crc tail : List (BitVec 8))
  /-- R104: At S + STAGEDL with a member unanswered, GRP_UNSTAGE is sent and the change is ABORTED. Operand: group. -/
  | grpStageDeadline (g : Nat)
  /-- R104: At the start of N members apply the mode and local axes apply at once. Operand: group. -/
  | grpApplyBoundary (g : Nat)
  /-- R104: A GRP_APPLY_RPT records which endpoints of a member are in the applied mode. Operands: port and the bytes of the frame: those before its payload, the payload, the CRC-32, and the end symbol. -/
  | grpApplyRpt (p : Nat) (head body crc tail : List (BitVec 8))
  /-- R104: In cycles N + 1 to N + 4 GRP_APPLY is sent again to each member not yet reported applied. Operand: group. -/
  | grpRetry (g : Nat)
  /-- R104: At the end of N + 4 the change is DONE or FALLBACK is applied to every member. Operand: group. -/
  | grpConverge (g : Nat)
  /-- R134: A write of FAB_IMG_CTL.CHECK makes the loader check SLOT without activating it. Operands: session slot and the word written to FAB_IMG_CTL, whose CHECK is 1. -/
  | imageCheck (ses : Nat) (w : Word)
  /-- R139: A write of FAB_IMG_CTL.ACTIVATE, with no axis enabled, checks the slot and arms activation at boundary T. Operands: session slot and the word written to FAB_IMG_CTL, whose ACTIVATE is 1. -/
  | activate (ses : Nat) (w : Word)
  /-- R146: A write of FAB_IMG_CTL.ERASE erases SLOT unless it is active. Operands: session slot and the word written to FAB_IMG_CTL, whose ERASE is 1. -/
  | erase (ses : Nat) (w : Word)
  /-- R145: A host write to a PARAMS region goes to its shadow copy. Operands: session slot, engine, memory (0 X, 1 Y), word address and word. -/
  | paramsWrite (ses e mem a : Nat) (w : Word)
  /-- R175: A task is released by its period, producers, comparator or mark and dispatched by context priority. Operands: task, and for the axes it serves the actual velocity where no channel of the image gives it, and the torque feedforward, each as a Q31 fraction. -/
  | taskRelease (t : Nat) (ms : List (Nat × Int × Int))
  /-- R155: An engine issues one 64-bit bundle whose five slots execute together. Operands: engine; a memory error that the bundle's reads meet: memory (0 program, 1 X, 2 Y), word address, whether two or more symbols are in error. -/
  | bundleIssue (e : Nat) (err : Option (Nat × Nat × Bool))
  /-- R177: A cyclic instance without END at release + DEADLINE is aborted as an overrun. Operand: task. -/
  | taskDeadline (t : Nat)
  /-- R184: A write of CE_CTL.RESUME releases suspended tasks from their next period. Operands: session slot, engine and the word written to CE_CTL, whose RESUME is 1. -/
  | ceResume (ses e : Nat) (w : Word)
  /-- R184: A write of CE_CTL.CLRMAX clears MAXPM and the per-task maxima. Operands: session slot, engine and the word written to CE_CTL, whose CLRMAX is 1. -/
  | ceClrmax (ses e : Nat) (w : Word)
  /-- R606: A debug halt request stops an engine at a bundle boundary, first applying STO for safety-relevant tasks. Operand: engine. -/
  | engineHalt (e : Nat)
  /-- R190: A debug step on a halted engine issues one bundle. Operands: engine; a memory error as in BUNDLE_ISSUE. -/
  | engineStep (e : Nat) (err : Option (Nat × Nat × Bool))
  /-- R190: A debug resume lets a halted engine run again at its next release. Operand: engine. -/
  | engineResume (e : Nat)
  /-- R604: A debug session sets a breakpoint, refused on a safety-relevant engine while ARMED = 1. Operands: engine and bundle address. -/
  | breakpointSet (e pc : Nat)
  /-- R214: AXIS_CTL.EN = 1 enables a ready axis, presetting set-point and states, through ENABLING to AUTO. Operands: session slot, axis and the word written to AXIS_CTL, whose EN is 1. -/
  | axisEnable (ses a : Nat) (w : Word)
  /-- R215: AXIS_CTL.EN = 0 at standstill zeroes outputs, switches legs off and sets DISABLED. Operands: session slot, axis and the word written to AXIS_CTL, whose EN is 0. -/
  | axisDisable (ses a : Nat) (w : Word)
  /-- R216: AXIS_CTL.MAN = 1 puts the innermost level into manual operation following MANVAL. Operands: session slot, axis and the word written to AXIS_CTL, whose MAN is 1. -/
  | manOn (ses a : Nat) (w : Word)
  /-- R216: AXIS_CTL.MAN = 0 returns the level to AUTO with the integrator preset. Operands: session slot, axis and the word written to AXIS_CTL, whose MAN is 0. -/
  | manOff (ses a : Nat) (w : Word)
  /-- R217: A write of AXIS_CTL.BANK is a law transfer with an integrator preset at the next release. Operands: session slot, axis and the word written to AXIS_CTL. -/
  | bankWrite (ses a : Nat) (w : Word)
  /-- R217: A write of a level's LAW is a law transfer with an integrator preset at the next release. Operands: session slot, axis, level and the word written to LVL_CFG. -/
  | lawWrite (ses a lvl : Nat) (w : Word)
  /-- R212: A write of AXIS_CTL.CLRFLT clears FEFLT, IMPL and VLFLT whose causes no longer hold. Operands: session slot, axis and the word written to AXIS_CTL, whose CLRFLT is 1. -/
  | clrflt (ses a : Nat) (w : Word)
  /-- R199: A write of FLT_CFG commits a filter slot's coefficients at the next release after checking them. Operands: session slot, axis, filter slot and the word written to FLT_CFG. -/
  | filterCommit (ses a k : Nat) (w : Word)
  /-- R212: After 8 samples at standstill a QSTOP or CSTOP ends, STATE = STOPPED and AX_STOPPED is logged. Operand: axis. -/
  | stopComplete (a : Nat)
  /-- R208: Each model period the plausibility model forms its residual against the prediction. Operand: axis. -/
  | plausibilitySample (a : Nat)
  /-- R202: At period start + OUTPH the destination takes a class F output, or keeps the previous one if late. Operands: axis and level (0 position, 1 velocity, 2 current). -/
  | classFOutputTake (a lvl : Nat)
  /-- R204: 1 µs (or 12 µs relayed) before a cycle start the port takes each downstream channel for the train. Operands: port, and whether the take is that of a relayed segment. -/
  | downstreamTake (p : Nat) (relayed : Bool)
  /-- R236: 2,048 ns before each PWM period each leg takes its last committed compare pair. Operand: drive connector. -/
  | reloadSample (c : Nat)
  /-- R241: At each PWM period start the leg applies its pair, dead times, tap map and minimum-pulse rule. Operand: drive connector. -/
  | pwmPeriodStart (c : Nat)
  /-- R233: Every 4 µs the replica line is measured; failure sets DLFAIL and logs PWM_DLCAL. Operands: connector and the tap map derived, none if the replica line cannot span a clock. -/
  | delayLineCal (c : Nat) (map : Option Nat)
  /-- R235: A host write of PWM_CMP_LO commits both compares of a DIRECT leg. Operands: session slot, leg and the word written to PWM_CMP_LO. -/
  | pwmCmpLoWrite (ses l : Nat) (w : Word)
  /-- R235: A write of PWM_LEG_CTL.COMMIT commits the compare pair as it stands. Operands: session slot, leg and the word written to PWM_LEG_CTL, whose COMMIT is 1. -/
  | legCommit (ses l : Nat) (w : Word)
  /-- R242: A write of PWM_LEG_CTL.CLRACC clears the leg's error accumulator. Operands: session slot, leg and the word written to PWM_LEG_CTL, whose CLRACC is 1. -/
  | clracc (ses l : Nat) (w : Word)
  /-- R239: A switching-node edge before dead-time expiry is measured as a natural transition. Operands: leg, whether the edge goes to the low rail, and its time from the gate edge. -/
  | swnEdge (l : Nat) (low : Bool) (ns : Nat)
  /-- R240: No SWN edge within 2 µs counts a missed transition; 16 in a row log PWM_SWN and fix dead times. Operand: leg. -/
  | swnMiss (l : Nat)
  /-- R244: A filtered enabled trip input latches TRIPLAT, switches the masked legs off in hardware and starts STO. Operands: connector, input and the level that it takes. -/
  | tripActive (c t : Nat) (high : Bool)
  /-- R246: Loss of PRES acts as an active trip on all four axes and logs PWM_CARRIER. Operand: drive connector. -/
  | carrierRemoved (c : Nat)
  /-- R251: PRES becoming active starts reading the carrier identification and checking TYPEOK. Operand: drive connector. -/
  | carrierInserted (c : Nat)
  /-- R248: A sigma-delta input without transitions for 64 clocks sets LOSS, invalidates feedback and logs PWM_SDLOSS. Operands: connector and data input. -/
  | sdLoss (c j : Nat)
  /-- R248: LOSS clears 3 × OSR modulator clocks after transitions return. Operands: connector and data input. -/
  | sdLossClear (c j : Nat)
  /-- R267: A quadrature transition changes the count or, if illegal, sets QERR and may invalidate the channel. Operands: channel, and the levels that its lines A and B take. -/
  | quadTransition (k : Nat) (a b : Bool)
  /-- R273: A Hall code change counts ±1 or is handled as an illegal transition. Operands: channel, and the levels that its line A and its lines B and C take. -/
  | hallChange (k : Nat) (a : Bool) (bc : Bool × Bool)
  /-- R269: SSILEAD before each frame period the channel starts clocking an SSI frame. Operand: channel. -/
  | ssiFrameStart (k : Nat)
  /-- R271: A completed SSI frame updates the position or is discarded as in error, with FBK_SSIERR. Operands: channel, line delay in 2 ns units, data bits, error bit, parity bit and the level of the line at the end of MONO. -/
  | ssiFrameEnd (k : Nat) (td : Option Nat) (data : Nat) (err par high : Bool)
  /-- R274: At the end of each speed window the channel computes its speed estimate. Operand: channel. -/
  | speedWindow (k : Nat)
  /-- R275: An armed probe latches the stamp and position at its selected edge. Operands: probe and the level that its line takes. -/
  | probeEdge (p : Nat) (high : Bool)
  /-- R284: A write of FBK_PRB_CTL.ARM arms a probe. Operands: session slot, probe and the word written to FBK_PRB_CTL, whose ARM is 1. -/
  | probeArm (ses p : Nat) (w : Word)
  /-- R284: A write of FBK_PRB_CTL.DISARM disarms a probe. Operands: session slot, probe and the word written to FBK_PRB_CTL, whose DISARM is 1. -/
  | probeDisarm (ses p : Nat) (w : Word)
  /-- R275: A read of FBK_PRB_POS latches FBK_PRB_TIME and counts the capture as read. Operands: session slot and probe. -/
  | prbPosRead (ses p : Nat)
  /-- R277: Each cycle a remote encoder corrects its position to the cycle start from its stamp. Operand: remote encoder. -/
  | remoteEncoderCycle (r : Nat)
  /-- R278: An encoder supply overcurrent switches the supply off, latches SUPFLT and logs FBK_SUPPLY. Operand: connector. -/
  | encOvercurrent (c : Nat)
  /-- R278: A write of FBK_SUP.RESTORE switches a connector's encoder supply on again. Operands: session slot and the word written to FBK_SUP. -/
  | restore (ses : Nat) (w : Word)
  /-- R279: A write of FBK_ENC_CTL.CLRINV clears a latched invalidity cause if its conditions hold. Operands: session slot, encoder channel and the word written to FBK_ENC_CTL, whose CLRINV is 1. -/
  | encClrinv (ses k : Nat) (w : Word)
  /-- R283: A write of FBK_ENC_PRESET sets the count and reported position. Operands: session slot, encoder channel and the word written to FBK_ENC_PRESET. -/
  | encPreset (ses k : Nat) (w : Word)
  /-- R293: A write of AXIS_MOT_CTL.GO starts an ABS, REL or VEL move of the profile generator. Operands: session slot, axis and the word written to AXIS_MOT_CTL, whose GO is 1. -/
  | go (ses a : Nat) (w : Word)
  /-- R293: A write of AXIS_MOT_CTL.HALT brings the axis to rest at DMAX and JMAX. Operands: session slot, axis and the word written to AXIS_MOT_CTL, whose HALT is 1. -/
  | halt (ses a : Nat) (w : Word)
  /-- R299: A write of AXIS_GEAR_CTL.ENGAGE anchors gearing to the master and sets SRC = GEAR. Operands: session slot, axis and the word written to AXIS_GEAR_CTL, whose ENGAGE is 1. -/
  | engage (ses a : Nat) (w : Word)
  /-- R300: A write of AXIS_GEAR_CTL.ARM arms a ratio change at a master position. Operands: session slot, axis and the word written to AXIS_GEAR_CTL, whose ARM is 1. -/
  | gearArm (ses a : Nat) (w : Word)
  /-- R303: A write of AXIS_GEAR_CTL.CANCEL withdraws an armed ratio change. Operands: session slot, axis and the word written to AXIS_GEAR_CTL, whose CANCEL is 1. -/
  | gearCancel (ses a : Nat) (w : Word)
  /-- R304: A write of AXIS_GEAR_CTL.DISENGAGE ends gearing when the follower velocity set-point is 0. Operands: session slot, axis and the word written to AXIS_GEAR_CTL, whose DISENGAGE is 1. -/
  | disengage (ses a : Nat) (w : Word)
  /-- R290: Each position-level period stage 3 forms the source's candidate set-point and applies the virtual limits. Operand: axis. -/
  | setpointUpdate (a : Nat)
  /-- R315: After COAST updates, or at once for a track master, the track freezes invalid and logs TRK_MASTER_LOST. Operand: track. -/
  | trkMasterLost (t : Nat)
  /-- R313: A write of TRACK_SET_LO presets a track at rest and logs TRK_PRESET. Operands: session slot, track and the word written to TRACK_SET_LO. -/
  | trackSet (ses t : Nat) (w : Word)
  /-- R314: A write of TRACK_CORR adds a correction applied at most TRACK_CORRSLEW per update. Operands: session slot, track and the word written to TRACK_CORR. -/
  | trackCorr (ses t : Nat) (w : Word)
  /-- R315: A write of TRACK_CTL.CLRINV lets a frozen track become valid once its master is valid. Operands: session slot, track and the word written to TRACK_CTL, whose CLRINV is 1. -/
  | trackClrinv (ses t : Nat) (w : Word)
  /-- R316: A write of VM_CTL.RUN makes a virtual master ramp to VM_VEL or to 0. Operands: session slot, virtual master and the word written to VM_CTL. -/
  | vmRunWrite (ses v : Nat) (w : Word)
  /-- R316: A write of VM_SET_LO presets a virtual master at velocity 0. Operands: session slot, virtual master and the word written to VM_SET_LO. -/
  | vmSet (ses v : Nat) (w : Word)
  /-- R336: An ARM_SEG message is checked and appended to the arm's segment queue, answered by ARM_SEG_RSP. Operands: the sender (host port, address, UDP port) and the bytes of the message. -/
  | armSeg (src : Nat × Nat × Nat) (m : List (BitVec 8))
  /-- R331: Each 125 µs the path engine advances path time, interpolates segments and issues joint set-points. Operand: arm. -/
  | pathPeriod (m : Nat)
  /-- R349: A write of ARM_CTL.HOLD ramps h to 0 over THOLD. Operands: session slot, arm and the word written to ARM_CTL, whose HOLD is 1. -/
  | hold (ses m : Nat) (w : Word)
  /-- R349: A write of ARM_CTL.RESUME ramps h back to 1. Operands: session slot, arm and the word written to ARM_CTL, whose RESUME is 1. -/
  | armResume (ses m : Nat) (w : Word)
  /-- R349: A write of ARM_CTL.FLUSH abandons the segment, empties the queue and leaves the arm IDLE. Operands: session slot, arm and the word written to ARM_CTL, whose FLUSH is 1. -/
  | armFlush (ses m : Nat) (w : Word)
  /-- R367: An ITEM_ADD message atomically adds an item with up to four actions. Operands: the sender (host port, address, UDP port) and the bytes of the message. -/
  | itemAdd (src : Nat × Nat × Nat) (m : List (BitVec 8))
  /-- R368: An ACT_ARM message arms an action on an item and tests it under the late policy. Operands: the sender (host port, address, UDP port) and the bytes of the message. -/
  | actArm (src : Nat × Nat × Nat) (m : List (BitVec 8))
  /-- R369: An ACT_CANCEL message frees an action that is not COMMITTED. Operands: the sender (host port, address, UDP port) and the bytes of the message. -/
  | actCancel (src : Nat × Nat × Nat) (m : List (BitVec 8))
  /-- R369: An ITEM_REMOVE message frees an item and its uncommitted actions. Operands: the sender (host port, address, UDP port) and the bytes of the message. -/
  | itemRemove (src : Nat × Nat × Nat) (m : List (BitVec 8))
  /-- R369: An ITEM_SHIFT message adds DELTA to REF and retests the live actions. Operands: the sender (host port, address, UDP port) and the bytes of the message. -/
  | itemShift (src : Nat × Nat × Nat) (m : List (BitVec 8))
  /-- R363: An ITEM_READ message returns an item record. Operands: the sender (host port, address, UDP port) and the bytes of the message. -/
  | itemRead (src : Nat × Nat × Nat) (m : List (BitVec 8))
  /-- R361: At the end of its width a pulse switches the output off. Operand: field channel. -/
  | pulseEnd (k : Nat)
  /-- R382: At t_c a COMMITTED action's position and crossing errors are measured and PROJ_MISS logged if out of tolerance. Operand: action index. -/
  | commitMeasure (i : Nat)
  /-- R376: A TACK field from a timed output reports the last command fired or cancelled. Operands: timed output and the TACK word. -/
  | tackReceived (o : Nat) (w : Word)
  /-- R385: A write of TALL_CTL.FLUSH removes every item. Operands: session slot and the word written to TALL_CTL, whose FLUSH is 1. -/
  | tallFlush (ses : Nat) (w : Word)
  /-- R385: A write of TALL_CTL.CLRMAX clears every TALL_TRK_ERRMAX. Operands: session slot and the word written to TALL_CTL, whose CLRMAX is 1. -/
  | tallClrmax (ses : Nat) (w : Word)
  /-- R386: A read of TALL_ITEM_WIN(0) copies the whole record for the window. Operands: session slot and word 0 to 15. -/
  | itemWinRead (ses k : Nat)
  /-- R374: A double-symbol error in an item or action entry frees the entry and logs ACT_DROPPED and TALL_ECC. Operands: whether the entry is an item record, and its handle or action index. -/
  | tallEcc (isItem : Bool) (k : Nat)
  /-- R391: Every 500 µs Gorse tests every monitored arm's capsules and delivers margins, scales and stop requests. Operands: the time to delivery in µs; a pair whose two runs disagree beyond DIAGTOL (arm, kind, own and other index); whether a known-answer pair failed; whether a read was beyond correction. -/
  | gorseEvaluation (us : Nat) (dup : Option (Nat × Nat × Nat × Nat)) (kat ecc : Bool)
  /-- R406: A write of GORSE_CTL.CLRFAIL leaves FAILED if the last evaluation passed. Operands: session slot and the word written to GORSE_CTL, whose CLRFAIL is 1. -/
  | clrfail (ses : Nat) (w : Word)
  /-- R409: A write of GORSE_CTL.CLRMAX clears GORSE_EVTIME.MAX. Operands: session slot and the word written to GORSE_CTL, whose CLRMAX is 1. -/
  | gorseClrmax (ses : Nat) (w : Word)
  /-- R393: A write of GORSE_ARM_CAPEN switches optional capsules from the next evaluation and logs GORSE_CAPEN. Operands: session slot, arm and the word written to GORSE_ARM_CAPEN. -/
  | capenWrite (ses m : Nat) (w : Word)
  /-- R415: Every 125 µs the safety processor evaluates demands, reactions, permits and monitors. Operands: the safe axes whose STOFB is active; of each pair that the cross-check recomputes, arm, its d and m, and those of Gorse (none: the deciding pair of that arm). -/
  | safetyCycle (stofb : List Nat) (xc : List (Nat × Int × Int × Option (Int × Int)))
  /-- R448: A write of SAFE_CTL.ACK requests an acknowledgement where ACKHOST = 1. Operands: session slot and the word written to SAFE_CTL, whose ACK is 1. -/
  | safeAckWrite (ses : Nat) (w : Word)
  /-- R418: A failed safety diagnostic sends every safe axis to STO, logs SAFE_FAULT and holds FAULT. Operand: cause of R417. -/
  | processorFault (cause : Nat)
  /-- R417: Every 10 s the safety processor checks the CRC of its firmware and the SAFETY section. Operand: whether the CRC of the firmware is right. -/
  | romCheck (fwOk : Bool)
  /-- R417: Every 100 ms the safety processor runs its instruction and register self-test. Operand: whether the test passes. -/
  | cpuSelfTest (ok : Bool)
  /-- R436: A received safety fragment is appended to, or starts, a partial message. Operand: connection. -/
  | safetyFragment (c : Nat)
  /-- R438: A complete safety message is checked for length, CRC, identity, sequence and watchdog. Operand: connection. -/
  | safetyMessage (c : Nat)
  /-- R438: No accepted message within the watchdog time makes the connection LOST. Operand: connection. -/
  | safetyWatchdog (c : Nat)
  /-- R440: Every 2^SENDK base ticks the Q9648 starts an outgoing safety message. Operand: connection. -/
  | safetySend (c : Nat)
  /-- R459: Every 100 µs each input is sampled and filtered and L+ and readback are measured. Operands: contacts, readback and current limit by channel as masks of 64 bits, and L+ of the four banks in 0.1 V. -/
  | fieldSample (contacts rb limit : Nat) (lplus : List Nat)
  /-- R468: L+ below 16 V switches a bank's outputs off in hardware, latches BANKOFF and logs DIO_BANK_OFF. Operand: bank. -/
  | bankOff (b : Nat)
  /-- R468: A write of DIO_BANK_CTL.REARM clears BANKOFF when REARMOK = 1 and logs DIO_REARM. Operands: session slot, bank and the word written to DIO_BANK_CTL, whose REARM is 1. -/
  | rearm (ses b : Nat) (w : Word)
  /-- R469: A write of DIO_BANK_CTL.WDRESUME returns outputs from SAFE to their commands. Operands: session slot, bank and the word written to DIO_BANK_CTL, whose WDRESUME is 1. -/
  | wdresume (ses b : Nat) (w : Word)
  /-- R469: No refresh for WDT ms drives outputs to SAFE, de-energises safety outputs and sets WDEXP. Operand: bank. -/
  | fieldWdExpiry (b : Nat)
  /-- R464: A thermal shutdown switches a channel off, sets THERM and logs DIO_THERMAL. Operand: channel. -/
  | thermalShutdown (k : Nat)
  /-- R464: A cooled channel restarts on its own unless 8 shutdowns occurred within 1 s. Operand: channel. -/
  | thermalRestart (k : Nat)
  /-- R464: A write of DIO_THCLR.CLRTHERM releases a channel held off after repeated shutdowns. Operands: session slot, bank and the word written to DIO_THCLR. -/
  | clrtherm (ses b : Nat) (w : Word)
  /-- R465: Once every TPPER each energised safety output receives a 300 µs dark test pulse. Operand: channel. -/
  | testPulse (k : Nat)
  /-- R462: A write of DIO_OUT sets the commands of host-sourced outputs. Operands: session slot, bank and the word written to DIO_OUT. -/
  | dioOutWrite (ses b : Nat) (w : Word)
  /-- R462: A write of DIO_OUT_SET switches commands on. Operands: session slot, bank and the word written to DIO_OUT_SET. -/
  | dioOutSetWrite (ses b : Nat) (w : Word)
  /-- R462: A write of DIO_OUT_CLR switches commands off; a clear prevails in the same clock. Operands: session slot, bank and the word written to DIO_OUT_CLR. -/
  | dioOutClrWrite (ses b : Nat) (w : Word)
  /-- R466: A W1C write clears FHIGH or CROSS once the cause is gone. Operands: session slot, bank, whether the register is DIO_FLT_B, and the word. -/
  | dioFltClear (ses b : Nat) (hi : Bool) (w : Word)
  /-- R474: A read of DIO_CAP_STAT returns the captured change and clears OVR. Operands: session slot and channel. -/
  | dioCapRead (ses k : Nat)
  /-- R483: A valid received frame is routed to the safety processor or filtered into RXA or RXB. Operands: channel, FLAGS, DLC, identifier and data of the frame, the CK_PER clocks since its SOF edge, and the shortest interval between its edges in ns. -/
  | canFrameReceived (c flags dlc id : Nat) (data : List (BitVec 8)) (ago edge : Nat)
  /-- R484: A stored frame is delivered to the host queue when room exists. Operand: channel. -/
  | canRx (c : Nat)
  /-- R486: A CAN_TX message queues a frame in a transmit buffer. Operands: the sender (host port, address, UDP port) and the bytes of the message. -/
  | canTx (src : Nat × Nat × Nat) (m : List (BitVec 8))
  /-- R488: A CAN_CANCEL message frees a buffer that has not begun or marks a begun one for no retry. Operands: the sender (host port, address, UDP port) and the bytes of the message. -/
  | canCancel (src : Nat × Nat × Nat) (m : List (BitVec 8))
  /-- R487: A transmission attempt completes, loses arbitration or meets an error. Operands: channel; 0 completed, 1 arbitration lost, 2 no acknowledgement, 3 bit error, 4 bit error in the data field, 5 stuff error, 6 form error; the transmitter delay measured; whether the standard counts no acknowledgement error. -/
  | canTxEnd (c r : Nat) (tdc : Option Nat) (quiet : Bool)
  /-- R489: 128 occurrences of 11 recessive bits end bus-off. Operand: channel. -/
  | canRecovered (c : Nat)
  /-- R489: A write of CAN_CTL.RECOVER starts bus-off recovery with AUTOREC = 0. Operands: session slot, channel and the word written to CAN_CTL, whose RECOVER is 1. -/
  | recover (ses c : Nat) (w : Word)
  /-- R490: Every 100 ms during LONE one attempt is made without error counting. Operand: channel. -/
  | canLoneRetry (c : Nat)
  /-- R491: A write of CAN_CTL.CLASHCLR re-enables suspended identifiers. Operands: session slot, channel and the word written to CAN_CTL, whose CLASHCLR is 1. -/
  | clashclr (ses c : Nat) (w : Word)
  /-- R481: No rate confirmed within 10 s logs CAN_RATE_FAIL. Operand: channel. -/
  | canRateFail (c : Nat)
  /-- R481: A write of CAN_CTL.RATERESTART restarts rate detection. Operands: session slot, channel and the word written to CAN_CTL, whose RATERESTART is 1. -/
  | raterestart (ses c : Nat) (w : Word)
  /-- R504: A write of CAP_CTL.ARM starts a capture after checks. Operands: session slot and the word written to CAP_CTL, whose ARM is 1. -/
  | capArm (ses : Nat) (w : Word)
  /-- R514: A write of CAP_CTL.STOP ends the capture, closing the record with TRUNC. Operands: session slot and the word written to CAP_CTL, whose STOP is 1. -/
  | capStop (ses : Nat) (w : Word)
  /-- R506: A write of CAP_CTL.FORCE triggers the record at once with FORCED. Operands: session slot and the word written to CAP_CTL, whose FORCE is 1. -/
  | capForce (ses : Nat) (w : Word)
  /-- R514: A write of CAP_CTL.CLR discards all records. Operands: session slot and the word written to CAP_CTL, whose CLR is 1. -/
  | capClr (ses : Nat) (w : Word)
  /-- R501: Each capture period Sward samples its channels and evaluates triggers. Operands: by raw channel what its source showed in the period that begins with the sample, as the lines of R502 at each raw sample or as the modulator bits; how full the staging buffer is in percent; whether the sample does not fit in it. -/
  | captureSample (raws : List (List Int)) (fill : Nat) (lost : Bool)
  /-- R521: The Bureau records an event as a new record or a repeat, or refuses it. Operands: code, severity, SOURCE and DATA of the event, and the MRAM regions whose cells fail at present. -/
  | eventReceived (code sev : Nat) (source : Word) (data : List Word) (bad : List Nat)
  /-- R529: Every 1 s the Bureau probes the MRAM and starts copying when it answers. Operand: whether the MRAM answers. -/
  | mramProbe (answers : Bool)
  /-- R529: Last-gasp records are copied back, STORE returns to MRAM and EVT_MRAM_BACK is logged. Operand: the regions that failed during the copy. -/
  | mramCopyDone (bad : List Nat)
  /-- R535: A write of EVT_CTL.CLEAR in OPEN erases every record and logs EVT_CLEARED. Operands: session slot and the word written to EVT_CTL, whose CLEAR is 1. -/
  | evtClear (ses : Nat) (w : Word)
  /-- R528: A write of EVT_CTL.RETEST tests retired regions and returns those that pass. Operands: session slot, the MRAM regions whose cells fail at present, and the word written to EVT_CTL, whose RETEST is 1. -/
  | retest (ses : Nat) (bad : List Nat) (w : Word)
  /-- R526: A write of EVT_CTL.NEXT advances the cursor past slot 15. Operands: session slot and the word written to EVT_CTL, whose NEXT is 1. -/
  | next (ses : Nat) (w : Word)
  /-- R526: A read of a window slot's first word copies the record into the slot. Operands: window slot and word of it; whether the read of the record finds two or more symbols in error. -/
  | evtWinRead (place : Nat × Nat) (fails : Bool)
  /-- R540: A received HELLO decides roles and reveals an image mismatch. Operands: what the HELLO carries and whether its CRC is good. -/
  | pairHello (h : Machine.PairHello) (ok : Bool)
  /-- R544: The standby applies MIRROR and COPY frames in tick order and advances its mirror point. Operands: the frame and whether its CRC is good. -/
  | mirrorFrame (f : Machine.MirFrame) (ok : Bool)
  /-- R544: An ACK tells the active unit the acknowledged tick and asks for missing frames. Operands: the tick acknowledged, the FSEQ of a missing frame, whether it acknowledges HANDOVER, and whether its CRC is good. -/
  | pairAck (tick : Nat) (want : Option Nat) (hand ok : Bool)
  /-- R545: A SYNCREQ makes the active unit send a full copy in COPY frames. Operand: whether the CRC of the frame is good. -/
  | syncreq (ok : Bool)
  /-- R548: The standby measures the link delay by round trip and steps to the active unit's time. Operands: the round trip and the offset to the active unit, in ns. -/
  | pairLinkDelay (rtt : Nat) (ofs : Int)
  /-- R549: No valid frame for LINKTO ticks loses the link path and logs PAIR_LINK_LOST. Operand: whether the link is down under IEEE 802.3 clause 49. -/
  | linkPathLost (down : Bool)
  /-- R557: A write of PAIR_CTL.SWITCH schedules a handover at the next suitable 4 ms boundary. Operands: session slot and the word written to PAIR_CTL, whose SWITCH is 1. -/
  | switch (ses : Nat) (w : Word)
  /-- R557: A HANDOVER frame tells the standby the boundary T at which it takes the active role. Operands: T as TIME_NS and whether the CRC of the frame is good. -/
  | handover (t : Nat) (ok : Bool)
  /-- R560: A write of PAIR_CTL.RESYNC on the standby requests a full copy. Operands: session slot and the word written to PAIR_CTL, whose RESYNC is 1. -/
  | pairResyncWrite (ses : Nat) (w : Word)
  /-- R566: A Sapex datagram is parsed message by message and queued messages are stored or rejected. Operands: the sender (host port, address, UDP port) and the UDP payload. -/
  | sapexDatagram (src : Nat × Nat × Nat) (m : List (BitVec 8))
  /-- R570: A SESS_OPEN message opens a session in a free slot. Operands: the sender (host port, address, UDP port) and the bytes of the message. -/
  | sessOpen (src : Nat × Nat × Nat) (m : List (BitVec 8))
  /-- R572: A SESS_CLOSE message closes the session, its queues and handles. Operands: the sender (host port, address, UDP port) and the bytes of the message. -/
  | sessClose (src : Nat × Nat × Nat) (m : List (BitVec 8))
  /-- R572: SESS_CTL KEEPALIVE keeps a session alive. Operands: the sender (host port, address, UDP port) and the bytes of the message. -/
  | keepalive (src : Nat × Nat × Nat) (m : List (BitVec 8))
  /-- R571: SESS_CTL CLAIM makes the session controlling. Operands: the sender (host port, address, UDP port) and the bytes of the message. -/
  | claim (src : Nat × Nat × Nat) (m : List (BitVec 8))
  /-- R571: SESS_CTL RELEASE makes the session an observer. Operands: the sender (host port, address, UDP port) and the bytes of the message. -/
  | release (src : Nat × Nat × Nat) (m : List (BitVec 8))
  /-- R571: SESS_CTL FORCE takes control from another session and logs HOST_CTL_TAKEN. Operands: the sender (host port, address, UDP port) and the bytes of the message. -/
  | force (src : Nat × Nat × Nat) (m : List (BitVec 8))
  /-- R574: A QUEUE_OPEN message opens a command or response queue. Operands: the sender (host port, address, UDP port) and the bytes of the message. -/
  | queueOpen (src : Nat × Nat × Nat) (m : List (BitVec 8))
  /-- R574: A QUEUE_CLOSE message aborts stored messages and closes the queue. Operands: the sender (host port, address, UDP port) and the bytes of the message. -/
  | queueClose (src : Nat × Nat × Nat) (m : List (BitVec 8))
  /-- R577: A HOST_ACK message frees response entries up to DONE. Operands: the sender (host port, address, UDP port) and the bytes of the message. -/
  | hostAck (src : Nat × Nat × Nat) (m : List (BitVec 8))
  /-- R578: An EVT_SUB message sets the session's event queue, severity and sources. Operands: the sender (host port, address, UDP port) and the bytes of the message. -/
  | evtSub (src : Nat × Nat × Nat) (m : List (BitVec 8))
  /-- R579: A REG_READ message reads consecutive registers. Operands: the sender (host port, address, UDP port) and the bytes of the message. -/
  | regRead (src : Nat × Nat × Nat) (m : List (BitVec 8))
  /-- R579: A REG_WRITE message writes consecutive registers, stopping at the first failure. Operands: the sender (host port, address, UDP port) and the bytes of the message. -/
  | regWrite (src : Nat × Nat × Nat) (m : List (BitVec 8))
  /-- R579: A REG_RMW message reads and writes one register under a mask in one access. Operands: the sender (host port, address, UDP port) and the bytes of the message. -/
  | regRmw (src : Nat × Nat × Nat) (m : List (BitVec 8))
  /-- R581: A BULK_OPEN message opens a handle on a bulk object. Operands: the sender (host port, address, UDP port) and the bytes of the message. -/
  | bulkOpen (src : Nat × Nat × Nat) (m : List (BitVec 8))
  /-- R581: A BULK_WRITE message appends data to a write handle. Operands: the sender (host port, address, UDP port) and the bytes of the message. -/
  | bulkWrite (src : Nat × Nat × Nat) (m : List (BitVec 8))
  /-- R581: A BULK_READ message returns data of a read handle. Operands: the sender (host port, address, UDP port) and the bytes of the message. -/
  | bulkRead (src : Nat × Nat × Nat) (m : List (BitVec 8))
  /-- R581: A BULK_CLOSE message completes or discards the object and frees the handle. Operands: the sender (host port, address, UDP port) and the bytes of the message. -/
  | bulkClose (src : Nat × Nat × Nat) (m : List (BitVec 8))
  /-- R582: The erase of an image slot opened for writing completes and BULK_WRITE is accepted. Operand: image slot. -/
  | imageEraseDone (slot : Nat)
  /-- R581: A handle unused for 60 s is closed as by BULK_CLOSE. Operands: session slot and handle. -/
  | bulkIdleTimeout (slot h : Nat)
  /-- R572: A session silent for SESSTO is closed with SESS_CLOSED reason TIMEOUT. Operand: session slot. -/
  | sessionTimeout (slot : Nat)
  /-- R577: DONE not advancing for ACKTO resends unacknowledged messages; 8 rounds close the session. Operand: response queue. -/
  | ackTimeout (q : Nat)
  /-- R583: A write of HOST_CTL.APPLY applies the port addresses from the next datagram and logs HOST_ADDR_CHANGED. Operands: session slot and the word written to HOST_CTL, whose APPLY is 1. -/
  | apply (ses : Nat) (w : Word)
  /-- R595: An MS_EXTEND message extends slot MS6. Operands: the sender (host port, address, UDP port) and the bytes of the message. -/
  | msExtend (src : Nat × Nat × Nat) (m : List (BitVec 8))
  /-- R596: A QUOTE message returns a signed snapshot of the measurement slots and state. Operands: the sender (host port, address, UDP port) and the bytes of the message. -/
  | quote (src : Nat × Nat × Nat) (m : List (BitVec 8))
  /-- R598: An OWNER_SET message installs the owner hash once, in OPEN. Operands: the sender (host port, address, UDP port) and the bytes of the message. -/
  | ownerSet (src : Nat × Nat × Nat) (m : List (BitVec 8))
  /-- R600: A SEC_CHAL message returns a new challenge. Operands: the sender (host port, address, UDP port) and the bytes of the message. -/
  | secChal (src : Nat × Nat × Nat) (m : List (BitVec 8))
  /-- R601: A SEC_TOKEN message arms debug, enters SERVICE or reopens after checks. Operands: the sender (host port, address, UDP port) and the bytes of the message. -/
  | secToken (src : Nat × Nat × Nat) (m : List (BitVec 8))
  /-- R599: A write of SEC_CTL.LOCK moves OPEN to FIELD. Operands: session slot and the word written to SEC_CTL, whose LOCK is 1. -/
  | lock (ses : Nat) (w : Word)
  /-- R599: A write of SEC_CTL.ENDSVC ends SERVICE. Operands: session slot and the word written to SEC_CTL, whose ENDSVC is 1. -/
  | endsvc (ses : Nat) (w : Word)
  /-- R603: A write of SEC_CTL.DBGCLOSE ends the debug session and disarms the permission. Operands: session slot and the word written to SEC_CTL, whose DBGCLOSE is 1. -/
  | dbgclose (ses : Nat) (w : Word)
  /-- R604: A TAP instruction is executed within the debug scope or refused with DBG_DENIED. Operand: 0 IDCODE, 1 BYPASS, 2 SAMPLE/PRELOAD, 3 EXTEST, 4 CLAMP, 5 INTEST; others are unknown to the part. -/
  | tapInstruction (ins : Nat)
  /-- R608: A write of PWR_LATTOL clears WOKE and selects a new target power state. Operands: session slot and the word written to PWR_LATTOL. -/
  | pwrLattolWrite (ses : Nat) (w : Word)
  /-- R624: Bulk below 300 V logs EVT_POWERFAIL, sends outputs to SAFE and stops every axis and group. Operand: the bulk voltage in V. -/
  | powerFailWarning (bulk : Nat)
  /-- R626: Bulk above 320 V for 100 ms clears PFW and logs SYS_PF_RECOVERED. Operand: the bulk voltage in V, held for 100 ms. -/
  | pfRecovered (bulk : Nat)
  /-- R656: Every 100 ms the internal temperature is measured and TEMPWARN or TEMPCRIT acted on. Operand: the internal temperature in 0.1 °C. -/
  | tempMeasure (t : Int)
  /-- R655: A fan leaving its speed range logs SYS_FAN. Operand: the fan. -/
  | fanFailure (f : Nat)
  /-- R652: An inserted SFP+ module is identified and accepted or rejected with SYS_SFP_REJECT. Operands: cage (0 X2, 1 X3, 2 X4) and module type (1 10GBASE-SR, 2 10GBASE-LR, 3 passive copper of up to 7 m, others not accepted). -/
  | sfpInserted (c typ : Nat)
  /-- R652: Removal of an SFP+ module is a loss of link. Operand: cage (0 X2, 1 X3, 2 X4). -/
  | sfpRemoved (c : Nat)
  /-- R454: After a reset the safety processor completes the diagnostics of R417 it runs in BOOT and enters CHECK. Operand: 0, or the cause of R417 that a diagnostic found. -/
  | safeDiagComplete (cause : Nat)
  /-- R251: The 64-byte read of a carrier's identification memory over IDSCL and IDSDA completes, setting TYPEOK or logging PWM_CARRIER. Operands: connector and the bytes read. -/
  | carrierIdReadDone (c : Nat) (bytes : List (BitVec 8))
  /-- R596: The signature of a quote completes about 50 ms after QUOTE starts, its answer is placed and the queue may start its next message. Operand: the command queue that waits for the signature. -/
  | quoteComplete (q : Nat)
  /-- R476: A CAN channel completes bus integration after a reset, a MODE change or a protocol exception and leaves INTEGRATING. Operand: channel. -/
  | canBusIntegration (c : Nat)
  /-- R481: A frame received on a CAN channel meets a stuff, form, CRC or bit error, counting REC and its counter, possibly making the channel error-passive and restarting rate detection. Operands: channel; 0 stuff, 1 form, 2 CRC, 3 bit error, 4 a protocol exception; whether the standard counts the error by 8. -/
  | canRxFrameError (c kind : Nat) (heavy : Bool)
  /-- R382: The track position crosses the position of a live remote action, which is then sent FINAL at the next take if not yet COMMITTED, or measured and freed if COMMITTED. Operand: action index. -/
  | remoteActionCrossing (i : Nat)
  /-- R382: At t_c + H a COMMITTED action without a crossing in its window is freed and PROJ_MISS is logged with e_t = 0x7FFF_FFFF. Operand: action index. -/
  | commitWindowExpiry (i : Nat)
  /-- R573: The 10GBASE-R link of host port X2 or X3 comes up, setting LINK2 or LINK3 and enabling HELLO, PTP and Sapex on that port. Operand: host port (0 X2, 1 X3). -/
  | hostLinkUp (p : Nat)
  /-- R587: The link of host port X2 or X3 goes down, clearing LINK2 or LINK3 and stopping HELLO and traffic on that port. Operand: host port (0 X2, 1 X3). -/
  | hostLinkDown (p : Nat)
  /-- R658: A fan returns to its speed range, for example after exchange, and its FANOK bit is set again. Operand: the fan. -/
  | fanRestored (f : Nat)
  /-- R565: An ARP request, or a Neighbour Discovery solicitation, for a host port's address is received and answered. Operands: host port, whether it is a Neighbour Discovery solicitation, and the address asked for. -/
  | arpRequest (p : Nat) (v6 : Bool) (addr : Nat)
  /-- R565: An ICMP or ICMPv6 echo request to a host port is received and answered. Operands: host port, whether it is ICMPv6, the destination address and the data. -/
  | icmpEcho (p : Nat) (v6 : Bool) (addr : Nat) (data : List (BitVec 8))
  /-- R618: 10 ms after an accepted request the unit makes a warm reset, keeping class K values. -/
  | warmReset
  /-- R620: Expiry of the device watchdog, unserviced for SYS_WDT_CFG.TIMEOUT, resets the unit. -/
  | watchdogReset
  /-- R620: The housekeeping core services the device watchdog every 10 ms. -/
  | watchdogService
  /-- R120: When a boot check ends the loader falls back to the other slot or to the null image, logging IMG_CHECK_FAIL, IMG_BOOT_FALLBACK or IMG_RECOVERY. -/
  | bootCheckComplete
  /-- R40: Loss of the external reference moves the PLL to the TCXO, sets REFLOSS and logs CLK_REFLOSS. -/
  | extRefLost
  /-- R40: With REFSEL = AUTO the PLL returns to the external reference after it has been present and in range for 1 s. -/
  | extRefRestored
  /-- R45: The step window closes when TIME_CTL.STEPWIN has elapsed since its opening. -/
  | stepWindowExpiry
  /-- R49: The Q9648 sends a two-step Delay_Req stamped in hardware. -/
  | delayReqSend
  /-- R50: No Announce for announceReceiptTimeout intervals moves the servo to HOLDOVER or UNLOCKED. -/
  | announceTimeout
  /-- R57: A comparator fires when TIME_NS reaches its target, issues its action and takes its next periodic target. -/
  | cmpFire
  /-- R85: A port that has listened 2 cycle periods without a foreign cycle start begins sending. -/
  | listenExpiry
  /-- R87: After the random back-off a clashed unit listens again under R85. -/
  | clashBackoffExpiry
  /-- R92: Joins resume after 3 full valid cycles in the new configuration following a break or takeover. -/
  | joinSuspendEnd
  /-- R116: A line held in keep-alive resumes its own period at the first 4 ms boundary after it is released. -/
  | lineResume
  /-- R134: When a check ends the loader sets VALID or records FAB_LOAD_ERR and logs IMG_CHECK_FAIL. -/
  | checkComplete
  /-- R141: At T − 125 µs with KEEPITEMS a track not at rest abandons the activation and logs IMG_ACT_ABORTED. -/
  | keepitemsStillCheck
  /-- R140: At T the old schedule stops releasing, comparators and marks are disarmed and engine memories load. -/
  | activationSwitch
  /-- R140: At T + 4 ms − 200 µs the new objects appear, REGINIT is applied, comparators armed, COMMIT set and MS4 extended. -/
  | activationCommit
  /-- R140: At T + 4 ms the new schedule releases its first instances, changed ports start and IMG_ACTIVATED is logged. -/
  | activationRelease
  /-- R310: Every 125 µs stage 2 updates each track from its master and publishes it to the Tallboy. -/
  | trackUpdate
  /-- R316: Every 125 µs each virtual master ramps its velocity and advances its position. -/
  | vmUpdate
  /-- R372: A crossed live local action is issued, at most one per clock, and freed. -/
  | actionFiring
  /-- R391: An evaluation not delivered 400 µs after its sample tick is failed, and the safety processor stops every arm. No operands. -/
  | evalDeadline
  /-- R429: A falling edge on the acknowledgement input requests an acknowledgement. -/
  | ackInputEdge
  /-- R506: A record not triggered AUTOTO ms after holding PRE samples is triggered with FORCED. No operands. -/
  | autoTrigger
  /-- R529: An MRAM silent for 100 µs sends recording to the last-gasp store and logs EVT_MRAM_LOST. -/
  | mramTimeout
  /-- R540: Every 1 ms each unit sends HELLO over the pairing link. -/
  | pairHelloSend
  /-- R543: At the end of each base tick the active unit sends MIRROR frames of changed objects. -/
  | mirrorSend
  /-- R544: A gap unfilled for 32 ticks moves the standby to SYNCING, logs PAIR_RESYNC and sends SYNCREQ. -/
  | mirrorGapTimeout
  /-- R550: No heard line delivering a cycle start for 2 × P_h + 1 µs loses the line path. -/
  | linePathLost
  /-- R551: A lost path returning is logged as PAIR_PATH_BACK. -/
  | pairPathBack
  /-- R552: No ACK for LINKTO ticks logs PAIR_STANDBY_LOST and the active unit works alone. -/
  | standbyAckTimeout
  /-- R557: At T the former standby sends every cycle start and FSEL changes over. -/
  | handoverBoundary
  /-- R557: HANDOVER unacknowledged by T − 10 µs abandons the switch. -/
  | handoverAckTimeout
  /-- R573: Every HELLOPER without a controlling session the unit broadcasts HELLO. -/
  | hostHello
  /-- R599: The SERVICE duration expires and the state returns to FIELD. -/
  | serviceExpiry
  /-- R603: A debug permission expires and any session it permits ends. -/
  | debugPermitExpiry
  /-- R653: PRESN low for 100 ms makes a debug request, which may raise the power state and open a session. -/
  | debugRequest
  /-- R653: PRESN high for 100 ms ends the request and the session, logging DBG_CLOSED. -/
  | debugRequestEnd
  /-- R609: The target state is entered at the next tick or 4 ms boundary and PWR_STATE is logged. -/
  | powerStateEntry
  /-- R609: An exit from a power state completes within its latency and blocks are restored. -/
  | powerExitComplete
  /-- R624: 15 ms after the warning the safety processor withdraws every permit and PFDONE is set. -/
  | pfPermitWithdraw
  /-- R656: 20 ms after TEMPCRIT the regulated supply is switched off. -/
  | tempcritSupplyOff
  /-- R656: Below 70 °C for 60 s after a TEMPCRIT shutdown the unit restarts with a cold reset. -/
  | overtempRestart
  deriving DecidableEq, Repr

end Sys2Proof
end

