-- ==== Sys2Proof/Config.lean ====
section
/-! DEFINITION. What the spec leaves open: the free values. None has a body a proof could see. The first argument of
the counted ones is the field `fresh` of the machine's state, which the step that takes a value advances. -/

namespace Sys2Proof

/-- A fresh 64-bit value that the spec calls random or leaves open: a SESSID (R570), a challenge (R600), a back-off
(R87), an undefined result. -/
opaque Config.freeBits : Nat → BitVec 64

/-- The output of the PTP servo and of the pair servo (R46, R50): a rate in 2^-32 ns/ns before the clamp. The spec
states the clamp and the states of the servo, not its law. -/
opaque Config.servo : Nat → Int

/-- The signature that the attestation key of the unit makes over a digest (R596). -/
opaque Config.attestSign : Nat → List (BitVec 8) → List (BitVec 8)

/-- R193: the full scales that the image fixes for an axis, which its records do not carry: `which` is 0 for velocity
(counts/s), 1 for acceleration (counts/s²), 2 for the scale KPV of R200 (Q31), 3 for the position error (counts). -/
opaque Config.fullScale : (axis which : Nat) → Nat

/-- R247: the current of a LOCAL axis that its current law controls, as a Q31 fraction: the spec states the three phase currents that are measured, not
how a law's single current is formed from them. The arguments are the axis, its phase currents and its actual position. -/
opaque Config.axisCurrent : (axis : Nat) → List Int → Int → Int

/-- R171: how long in ns, at most 256, an entry stays in the fabric queue of an engine. -/
opaque Config.fabricNs : Nat → Nat

/-- R541, R542: the clocks, beyond those of a frame with no payload, that a frame takes on the pairing link: the spec gives the link's capacity and not
the layout of the payloads. -/
opaque Config.linkClks : Nat → Nat

/-- The quotient of a division whose divisor is 0, where the spec states no result. -/
opaque Config.divByZero : Int → Int

/-- The C flag of a subtraction of an engine (SUB, SUBS, CMP, CMPI, NEG): R161 names C among the flags and does not
state whether it is a borrow or its complement. The arguments are the two operands. -/
opaque Config.subCarry : BitVec 32 → BitVec 32 → Bool

/-- R396: the speed in 2^-60 µm/s of a capsule's closest point towards another capsule whose closest point coincides with it, where
there is no direction; the arguments are the point's velocity. -/
opaque Config.gorseNoDirection : Int → Int → Int → Nat

/-- R425, R445: the remote input connection and the bit of it that a TRIGNUM names. The spec does not say how TRIGNUM holds the two. -/
opaque Config.remoteTrigger : Nat → Nat × Nat

/-- R453: the cause code that SAFE_SA_FAULT carries, by the kind of fault: 1 STOFB mismatch, 2 STOFB active at an enable, 3 a drive
that keeps torque, 4 DFAULT, 5 a deviation of the safe position. The spec gives the causes no codes. -/
opaque Config.saFaultCause : Nat → BitVec 32

/-- R481: the word that a confirmed rate in bit/s writes into CAN_NBT. The spec gives the sample point, not the divider of the clock. -/
opaque Config.canTiming : Nat → BitVec 32

/-- R518: the cause code that CAP_ABORTED carries, for an entry to P3 (1) and an activation (2). The spec gives the causes no codes. -/
opaque Config.capAbortCause : Nat → BitVec 32

/-- R604, R617: the code of the instruction or operation that DBG_DENIED carries: 0 a debug request, 1 halt, 2 step, 3 resume, 4 breakpoint,
16 + i TAP instruction i. The spec gives them no codes. -/
opaque Config.debugCode : Nat → BitVec 32

/-- R609, R617: the cause code that PWR_STATE carries: 0 PWR_LATTOL, 1 a wake, 2 debug, 3 an axis, 4 the peer. The spec gives the causes no
codes. -/
opaque Config.pwrCause : Nat → BitVec 32

/-- R593: the SHA-384 of the loader (0), and of the housekeeping (1) and safety processor (2) firmware that the unit left the factory with. -/
opaque Config.firmwareDigest : Nat → List (BitVec 8)

/-- R597: the device certificate (0) and the intermediate certificate (1), DER X.509, written at the factory. -/
opaque Config.attestCert : Nat → List (BitVec 8)

/-- R633: whether the class 0 transfers of an image, given by its IMGHASH, stay within 50 % of every fabric port's capacity in every base
tick. The spec gives neither the fabric ports nor the routes between them. -/
opaque Config.fabricFits : List (BitVec 8) → Bool

/-- R119: IMGID, IMGVER, IMGHASH and signer key of the null image that the factory writes. The spec does not state them. -/
opaque Config.nullImage : BitVec 32 × BitVec 32 × List (BitVec 8) × List (BitVec 8)

/-- R588: the MAC address of a host port (0 X2, 1 X3), written at the factory, its first byte in the highest place. -/
opaque Config.mac : Nat → BitVec 48

/-- The unit's serial number, written at the factory (R75, R541, R566). -/
opaque Config.serial : BitVec 32

end Sys2Proof
end

