-- ==== Sys2Proof/Machine/State.lean ====
section
/-! DEFINITION. The state of the Q9648 as plain data: the device and the queue of waiting commands; faults and refusals. -/

namespace Sys2Proof.Machine

/-! ### The device and the machine -/

/-- The device: the register store (a register not listed holds the reset value of its map), the clock of CK_FAB since
power-on, the model's counter of free values, the W1C bits that hardware has set in the clock `w1c.1`, by address (R11), what the unit put out during the last command,
the filters of the input lines (trip input 4c + t, line i of local channel k under 32 + 4k + i, probe p under 160 + p), and the state of each block. -/
structure Dev where
  regs : Tab Word := []
  clk : Nat := 0
  fresh : Nat := 0
  w1c : Nat × Tab Nat := (0, [])
  out : List Out := []
  evq : List Ev := []
  fil : Tab FilSt := []
  time : TimeSt := {}
  bureau : BureauSt := {}
  host : HostSt := {}
  cap : CapSt := {}
  loader : LoaderSt := {}
  line : LineSt := {}
  engs : EnginesSt := {}
  axs : AxesSt := {}
  pwm : PwmSt := {}
  fbk : FbkSt := {}
  mot : MotionSt := {}
  arms : Tab ArmSt := []
  dio : DioSt := {}
  tall : TallSt := {}
  gorse : GorseSt := {}
  safe : SafeSt := {}
  can : Tab CanSt := []
  duo : PairSt := {}
  link : LinkSt := {}
  sec : SecSt := {}
  pwr : PwrSt := {}
  sys : SysSt := {}
  deriving DecidableEq, Repr

/-- The machine. `pending` is the queue of waiting commands, first in, first out. -/
structure State where
  pending : List Instr := []
  dev : Dev := {}
  deriving DecidableEq, Repr

/-- No command of this block stops the machine with a fault: the spec answers every error with a status code, an
event or a reaction, all of which are next states. The constructor stands for the stop that the interface provides for. -/
inductive Fault
  /-- Raised by no command. Safe. -/
  | none
  deriving DecidableEq, Repr

/-- Why a command has no meaning. -/
inductive Refusal
  /-- Raised by the dispatch for a command whose meaning is not written yet, with the table's mnemonic. Safe: the
  machine stops where the hardware goes on. -/
  | notModelled (mnemonic : String)
  deriving DecidableEq, Repr

/-- The machine right after reset: every register at the reset value of its map, TIME_NS at 0 with the step window
open (R41, R45), nothing stored, no image active, and no command waiting. -/
def State.reset : State := {}

end Sys2Proof.Machine
end

