-- ==== Sys2Proof/Machine/Ops.lean ====
section
/-! DEFINITION. The named operations of the machine: tables, register words and fields, the counters, time, bytes and
the running of a command. -/

namespace Sys2Proof.Machine

open Sys2Proof

/-! ### Tables -/

/-- The value at number `k`, if listed. -/
def tget? {α : Type} (t : Tab α) (k : Nat) : Option α :=
  match t with
  | [] => none
  | (n, v) :: rest => if n = k then some v else tget? rest k

/-- The value at number `k`, or `dflt` if it is not listed. -/
def tget {α : Type} (t : Tab α) (k : Nat) (dflt : α) : α :=
  (tget? t k).getD dflt

/-- The table with `v` at number `k`; it keeps the numbers rising. -/
def tset {α : Type} (t : Tab α) (k : Nat) (v : α) : Tab α :=
  match t with
  | [] => [(k, v)]
  | (n, u) :: rest =>
    if k < n then (k, v) :: (n, u) :: rest
    else if k = n then (k, v) :: rest
    else (n, u) :: tset rest k v

/-- The table without number `k`. -/
def tdel {α : Type} (t : Tab α) (k : Nat) : Tab α :=
  match t with
  | [] => []
  | (n, u) :: rest => if n = k then tdel rest k else (n, u) :: tdel rest k

/-- The table with the value at `k` changed by `f`, starting from `dflt` where nothing is listed. -/
def tupd {α : Type} (t : Tab α) (k : Nat) (dflt : α) (f : α → α) : Tab α :=
  tset t k (f (tget t k dflt))

/-- The numbers of a table rise strictly: the canonical form. -/
def tabWf {α : Type} : Tab α → Bool
  | [] => true
  | [_] => true
  | (a, _) :: (b, v) :: rest => decide (a < b) && tabWf ((b, v) :: rest)

/-- A table put into canonical form: the first value listed for a number stands. -/
def tabNorm {α : Type} (t : Tab α) : Tab α :=
  t.foldr (fun e acc => tset acc e.1 e.2) []

/-! ### Words, fields, bytes -/

/-- The field of a word. -/
def getF (w : Word) (f : Fld) : Nat :=
  (w.toNat / 2 ^ f.lo) % 2 ^ (f.hi - f.lo + 1)

/-- The mask of a field. -/
def maskF (hi lo : Nat) : Nat :=
  (2 ^ (hi - lo + 1) - 1) * 2 ^ lo

/-- The word with a field replaced. -/
def putF (w : Word) (f : Fld) (v : Nat) : Word :=
  (w &&& ~~~ (BitVec.ofNat 32 (maskF f.hi f.lo))) ||| BitVec.ofNat 32 ((v % 2 ^ (f.hi - f.lo + 1)) * 2 ^ f.lo)

/-- Bit `i` of a number. -/
def bitAt (n i : Nat) : Bool := (n / 2 ^ i) % 2 == 1

/-- A number with bit `i` set. -/
def setBit (n i : Nat) : Nat := if bitAt n i then n else n + 2 ^ i

/-- A number with bit `i` cleared. -/
def clrBit (n i : Nat) : Nat := if bitAt n i then n - 2 ^ i else n

/-- How many of the low `n` bits of a number are set. -/
def popBits (x : Nat) : Nat → Nat
  | 0 => 0
  | n + 1 => popBits x n + (if bitAt x n then 1 else 0)

/-- The word of an integer, wrapping. -/
def wI (x : Int) : Word := BitVec.ofInt 32 x

/-- The word of a natural number, wrapping. -/
def wN (n : Nat) : Word := BitVec.ofNat 32 n

/-- A field of `n` bits as a signed number. -/
def signed (n v : Nat) : Int :=
  if v < 2 ^ (n - 1) then (v : Int) else (v : Int) - 2 ^ n

/-- An integer limited to a range. -/
def clampI (lo hi x : Int) : Int := if x < lo then lo else if hi < x then hi else x

/-- Saturation to a signed 32-bit number. -/
def sat32 (x : Int) : Int := clampI (-2147483648) 2147483647 x

/-- The two's-complement residue of an integer in `n` bits, as a natural number. -/
def modN (n : Nat) (x : Int) : Nat := (x % (2 ^ n : Int)).toNat

/-- Wrapping of an integer to a signed number of `n` bits. -/
def wrapI (n : Nat) (x : Int) : Int := signed n (modN n x)

/-- R3: `n` bytes of a number, least significant first. -/
def le (n v : Nat) : List Byte :=
  match n with
  | 0 => []
  | k + 1 => BitVec.ofNat 8 v :: le k (v / 256)

/-- The number that little-endian bytes spell. -/
def unle : List Byte → Nat
  | [] => 0
  | b :: rest => b.toNat + 256 * unle rest

/-- `n` bytes from offset `o`; bytes beyond the end read as 0. -/
def slice (l : List Byte) (o n : Nat) : List Byte :=
  let s := (l.drop o).take n
  s ++ List.replicate (n - s.length) 0

/-- The little-endian number of `n` bytes at offset `o` (R3). -/
def uAt (l : List Byte) (o n : Nat) : Nat := unle (slice l o n)

/-- The little-endian signed number of `n` bytes at offset `o`. -/
def sAt (l : List Byte) (o n : Nat) : Int := signed (8 * n) (uAt l o n)

/-- Bytes padded with zeros to a multiple of `n`. -/
def padTo (n : Nat) (l : List Byte) : List Byte :=
  l ++ List.replicate ((n - l.length % n) % n) 0

/-- Bytes with those from offset `o` replaced. -/
def splice (l : List Byte) (o : Nat) (x : List Byte) : List Byte :=
  slice l 0 o ++ x ++ l.drop (o + x.length)

/-! ### Status codes -/

/-- R14: the code of a status. -/
def Status.code : Status → Nat
  | .ok => 0 | .badLen => 1 | .badArg => 2 | .denied => 3 | .busy => 4 | .late => 5 | .noSpace => 6
  | .notReady => 7 | .conflict => 8 | .aborted => 9 | .timeout => 10 | .unsupported => 11 | .checksum => 12
  | .stale => 13

/-- R15: of the checks that failed, the lowest-numbered code; OK if none failed. -/
def lowest : List Status → Status
  | [] => .ok
  | st :: rest =>
    let r := lowest rest
    if st = .ok then r else if r = .ok then st else if st.code ≤ r.code then st else r

/-- A check: `st` if the condition fails to hold, OK otherwise. -/
def need (c : Bool) (st : Status) : Status := if c then .ok else st

/-! ### Registers -/

/-- The address of a register. An index counts modulo the number of registers of its name; every command and every checked image stays below
it (R10). -/
def Reg.addr (r : Reg) : Nat :=
  match r.name.info.dims with
  | [] => r.name.info.base
  | [(n, s)] => r.name.info.base + r.i % n * s
  | (n, s) :: (m, t) :: _ => r.name.info.base + r.i % n * s + r.j % m * t

/-- R13: the reset value of a register, from the fields of its map. -/
def RegInfo.resetWord (x : RegInfo) : Word :=
  x.flds.foldl (fun w f => putF w ⟨f.hi, f.lo⟩ f.reset) 0

/-- The present word of a register in the store: an unlisted register holds its reset value. -/
def Dev.reg (d : Dev) (r : Reg) : Word :=
  tget d.regs r.addr r.name.info.resetWord

/-- The device with a register's word set. A register that holds its reset value is not listed. -/
def Dev.setReg (d : Dev) (r : Reg) (w : Word) : Dev :=
  { d with regs := if w = r.name.info.resetWord then tdel d.regs r.addr else tset d.regs r.addr w }

/-- The device with a register back at the reset value of its map. -/
def Dev.clearReg (d : Dev) (r : Reg) : Dev := d.setReg r r.name.info.resetWord

/-- The present value of a register's field. -/
def Dev.fld (d : Dev) (r : Reg) (f : Fld) : Nat := getF (d.reg r) f

/-- A one-bit field. -/
def Dev.bit (d : Dev) (r : Reg) (f : Fld) : Bool := d.fld r f == 1

/-- A register as a signed number. -/
def Dev.regI (d : Dev) (r : Reg) : Int := (d.reg r).toInt

/-- A field as a signed number. -/
def Dev.fldI (d : Dev) (r : Reg) (f : Fld) : Int := signed (f.hi - f.lo + 1) (d.fld r f)

/-- The device with a register's field set. -/
def Dev.setFld (d : Dev) (r : Reg) (f : Fld) (v : Nat) : Dev := d.setReg r (putF (d.reg r) f v)

/-- R11: the bits of a register that hardware has set in the present clock. -/
def Dev.setNow (d : Dev) (r : Reg) : Nat := if d.w1c.1 == d.clk then tget d.w1c.2 r.addr 0 else 0

/-- R11: hardware sets the bits `mask` of a register in the present clock. -/
def Dev.markSet (d : Dev) (r : Reg) (mask : Nat) : Dev :=
  let t := if d.w1c.1 == d.clk then d.w1c.2 else []
  { d with w1c := (d.clk, tupd t r.addr 0 (fun m => m ||| mask)) }

/-- R11: hardware sets the bits `mask` of a W1C field: a write that clears them in the same clock leaves them set. -/
def Dev.setW1c (d : Dev) (r : Reg) (f : Fld) (mask : Nat := 1) : Dev :=
  (d.setFld r f (d.fld r f ||| mask)).markSet r (mask * 2 ^ f.lo)

/-- The device with a register set to an integer, wrapping. -/
def Dev.setRegI (d : Dev) (r : Reg) (x : Int) : Dev := d.setReg r (wI x)

/-- A saturating counter field goes up by `n`. -/
def Dev.bump (d : Dev) (r : Reg) (f : Fld) (n : Nat) : Dev :=
  d.setFld r f (min (d.fld r f + n) (2 ^ (f.hi - f.lo + 1) - 1))

/-- The whole-word field. -/
abbrev wholeF : Fld := ⟨31, 0⟩

/-- A saturating 32-bit counter goes up by one. -/
def Dev.inc (d : Dev) (r : Reg) : Dev := d.bump r wholeF 1

/-- A register that keeps a maximum. -/
def Dev.maxReg (d : Dev) (r : Reg) (n : Nat) : Dev :=
  if (d.reg r).toNat < n then d.setReg r (wN n) else d

/-- Two halves of a 64-bit register pair (R8) as one number. -/
def Dev.pair (d : Dev) (lo hi : Reg) : Nat := (d.reg lo).toNat + 2 ^ 32 * (d.reg hi).toNat

/-- Two halves of a signed 64-bit register pair. -/
def Dev.pairI (d : Dev) (lo hi : Reg) : Int := signed 64 (d.pair lo hi)

/-- The device with a 64-bit pair set. -/
def Dev.setPair (d : Dev) (lo hi : Reg) (x : Int) : Dev :=
  (d.setReg lo (wN (modN 64 x))).setReg hi (wN (modN 64 x / 2 ^ 32))

/-! ### Time -/

/-- R37: clocks of CK_FAB in a second. -/
def fabHz : Nat := 500000000

/-- TIME_NS, 64 bits (R41). -/
def Dev.ns (d : Dev) : Nat := (d.time.tns / 2 ^ 32) % 2 ^ 64

/-- R41: TS32, the low 32 bits of TIME_NS. -/
def Dev.ts (d : Dev) : Word := wN d.ns

/-- R4: the signed 32-bit difference of two TS32 values. -/
def tsDiff (a b : Word) : Int := (a - b).toInt

/-- Seconds since the last reset (R63). -/
def Dev.uptime (d : Dev) : Nat := (d.clk - d.time.bootClk) / fabHz

/-- Clocks of CK_FAB in a number of nanoseconds, rounded up. -/
def clksOfNs (n : Nat) : Nat := (n + 1) / 2

/-- Clocks of CK_FAB in a number of milliseconds. -/
def clksOfMs (n : Nat) : Nat := n * 500000

/-- The rate offset of TIME_RATE in 2^-32 ns/ns. -/
def Dev.rate (d : Dev) : Int := d.regI R.TIME_RATE

/-- `n` clocks of CK_FAB pass: on every clock TIME_NS advances by 2 ns × (1 + TIME_RATE × 2^-32) ("The counter"). -/
def Dev.pass (d : Dev) (n : Nat) : Dev :=
  { d with clk := d.clk + n,
           time := { d.time with tns := ((d.time.tns : Int) + (n : Int) * (2 * 2 ^ 32 + 2 * d.rate)).toNat } }

/-- Whether at least `n` clocks have passed since clock `c`. -/
def Dev.since (d : Dev) (c n : Nat) : Bool := decide (c + n ≤ d.clk)

/-- R29: base tick `n` is a boundary of the period of code `k`. -/
def isBoundary (n k : Nat) : Bool := n % 2 ^ k == 0

/-- Nanoseconds of a period of code `k` (R29). -/
def periodNs (k : Nat) : Nat := 31250 * 2 ^ k

/-- R5: a fire-at time against the present TS32: LATE if it lies in the past, BADARG if more than 2.1 s ahead. -/
def fireAtCheck (now t : Word) : Status :=
  if tsDiff t now < 0 then .late else if 2100000000 < tsDiff t now then .badArg else .ok

/-! ### Free values -/

/-- A fresh free value (Config.freeBits) and the device with its counter advanced. -/
def Dev.free (d : Dev) : Nat × Dev :=
  ((Config.freeBits d.fresh).toNat, { d with fresh := d.fresh + 1 })

/-- A value for a signed 32-bit register. The spec states no result for a value that does not fit: it is free. -/
def Dev.fit32 (d : Dev) (x : Int) : Int × Dev :=
  if decide (-(2 ^ 31) ≤ x) && decide (x < 2 ^ 31) then (x, d) else (signed 32 (d.free.1 % 2 ^ 32), d.free.2)

/-! ### What a command puts out -/

/-- The device puts something out. -/
def Dev.emit (d : Dev) (o : Out) : Dev := { d with out := d.out ++ [o] }

/-- The answer to a register access. -/
def Dev.answer (d : Dev) (st : Status) : Dev := d.emit (.status st)

/-- A block reports an event to the Bureau (R520). The events of one command reach the Bureau in its clock and are taken
in the order of R521 when the command ends (`Dev.flush`). -/
def Dev.raise (d : Dev) (e : Ev) : Dev := { d with evq := d.evq ++ [e] }

/-- R665: an event that carries no object number. -/
def Dev.ev (d : Dev) (code sev : Nat) (data : List Word := []) : Dev :=
  d.raise { code := code, sev := sev, data := data.take 7 }

/-- R665: an event that carries an object number. -/
def Dev.evObj (d : Dev) (code sev obj : Nat) (data : List Word := []) : Dev :=
  d.raise { code := code, sev := sev, source := wN obj, data := data.take 7 }

/-- R665: an event that names a place within an object; a place that does not apply is 0xFFFF. -/
def Dev.evAt (d : Dev) (code sev obj : Nat) (place : Option Nat) (data : List Word := []) : Dev :=
  d.raise { code := code, sev := sev, source := wN (obj * 65536 + place.getD 0xFFFF), data := data.take 7 }

/-- Two words of a 64-bit item of DATA, low half first (R665). -/
def words64 (x : Int) : List Word := [wN (modN 64 x), wN (modN 64 x / 2 ^ 32)]

/-- A list as items of DATA: the count of its entries, then its entries (R665). -/
def wordsList (l : List Nat) : List Word := wN l.length :: l.map wN

/-- Repeat an operation on the device over a list. -/
def Dev.each {α : Type} (d : Dev) (l : List α) (f : Dev → α → Dev) : Dev := l.foldl f d

/-- Apply an operation where a condition holds. -/
def Dev.when (d : Dev) (c : Bool) (f : Dev → Dev) : Dev := if c then f d else d

end Sys2Proof.Machine
end

