-- ==== Sys2Proof/Machine/Flags.lean ====
section
/-! DEFINITION. The arithmetic and the flags of a control engine (R158 to R161, R163, R165). -/

namespace Sys2Proof.Machine

open Sys2Proof

/-! ### The MAC slot -/

/-- R159: an accumulator's range: 72 bits, two's complement. -/
def accMax : Int := 2 ^ 71 - 1

/-- R159: a result of MPY to AADD, saturated to 72 bits, and whether it saturated. -/
def sat72 (x : Int) : Int × Bool :=
  if accMax < x then (accMax, true) else if x < -(2 ^ 71) then (-(2 ^ 71), true) else (x, false)

/-- The signed upper half of a word: its Q15 value (R151). -/
def hiHalf (w : Word) : Int := w.toInt / 65536

/-- R158, R159: the product that a MAC operation forms. -/
def macProduct (mop : Nat) (ga gb : Word) : Int :=
  match mop with
  | 1 | 2 | 3 => ga.toInt * gb.toInt * 2
  | 4 | 5 | 6 => hiHalf ga * hiHalf gb * 2 ^ 33
  | _ => ga.toInt * gb.toInt

/-- R158: the exact new accumulator of operations MPY to AADD; `b` is the second accumulator of AADD, `sh` the shift
count of ASR. -/
def macResult (mop : Nat) (a b : Int) (ga gb : Word) (sh : Nat) : Int :=
  match mop with
  | 1 | 4 | 7 => macProduct mop ga gb
  | 2 | 5 | 8 => a + macProduct mop ga gb
  | 3 | 6 => a - macProduct mop ga gb
  | 9 => 0
  | 10 => ga.toInt * 2 ^ 32
  | 11 => a / 2 ^ sh
  | 12 => a + b
  | _ => a

/-- R160: MOVA: the floor of A × 2^(SCALE − 32), saturated to 32 bits, and whether it saturated. -/
def movA (a scale : Int) : Int × Bool :=
  let r := a / 2 ^ (32 - scale).toNat
  (sat32 r, r != sat32 r)

/-- R160: MOVAL: A as an integer saturated to 32 bits, and whether it saturated. -/
def movAL (a : Int) : Int × Bool := (sat32 a, a != sat32 a)

/-- R160: the scaled move of a 64-bit-fraction sum in law arithmetic: the floor of x × 2^sh, saturated to Q31. -/
def scaled (x : Int) (sh : Int) : Int :=
  sat32 (if 0 ≤ sh then x * 2 ^ sh.toNat else x / 2 ^ (-sh).toNat)

/-- The product of two Q31 fractions before truncation, with 62 fraction bits. -/
def q31mul (a b : Int) : Int := a * b

/-- A sum of Q31 products scaled by 2^sh and truncated towards minus infinity to Q31 (R160, R195). -/
def q31sum (x : Int) (sh : Int) : Int := scaled x (sh - 31)

/-! ### The ALU -/

/-- What an ALU operation does: its result, if it writes one, and the flags it writes. -/
structure AluOut where
  res : Option Word := none
  n : Option Bool := none
  z : Option Bool := none
  c : Option Bool := none
  v : Option Bool := none
  sat : Bool := false
  deriving DecidableEq, Repr

/-- N and Z of a result. -/
def flagsNZ (w : Word) (r : Option Word) (sat : Bool := false) : AluOut :=
  { res := r, n := some w.msb, z := some (w == 0), sat := sat }

/-- R161: an addition; `s` that it saturates. V is signed overflow. -/
def aluAdd (a b : Word) (s : Bool) : AluOut :=
  let x := a.toInt + b.toInt
  let r := if s then wI (sat32 x) else a + b
  { res := some r, n := some r.msb, z := some (r == 0), c := some (decide (2 ^ 32 ≤ a.toNat + b.toNat)),
    v := some (x != sat32 x), sat := s && x != sat32 x }

/-- R161: a subtraction; `s` that it saturates, `w` that it writes its result. V is signed overflow; C is left open
(Config.subCarry). -/
def aluSub (a b : Word) (s w : Bool) : AluOut :=
  let x := a.toInt - b.toInt
  let r := if s then wI (sat32 x) else a - b
  { res := if w then some r else none, n := some r.msb, z := some (r == 0), c := some (Config.subCarry a b),
    v := some (x != sat32 x), sat := s && x != sat32 x }

/-- The magnitude of a word, saturated: |−2^31| is 2^31 − 1 (R161). -/
def mag (w : Word) : Int := sat32 w.toInt.natAbs

/-- R161: the ALU operations 0x00 to 0x1E but MODL, SETSC, CLRSAT and RDTS, which act on other state. `a` is RD, `b` is RS
and `imm` the RS field. -/
def aluOp (aop : Nat) (a b : Word) (imm : Nat) : AluOut :=
  let s := wI (signed 5 imm)
  let sh := b.toNat % 32
  let w (r : Word) : AluOut := flagsNZ r (some r)
  match aop with
  | 0x01 => { res := some b }
  | 0x02 => aluAdd a b false
  | 0x03 => aluSub a b false true
  | 0x04 => aluAdd a b true
  | 0x05 => aluSub a b true true
  | 0x06 => w (a &&& b)
  | 0x07 => w (a ||| b)
  | 0x08 => w (a ^^^ b)
  | 0x09 => aluSub 0 b true true
  | 0x0A => flagsNZ (wI (mag b)) (some (wI (mag b))) (mag b != b.toInt.natAbs)
  | 0x0B => w (if a.toInt ≤ b.toInt then a else b)
  | 0x0C => w (if a.toInt ≤ b.toInt then b else a)
  | 0x0D => w (wI (clampI (-(mag b)) (mag b) a.toInt))
  | 0x0E => w (a <<< sh)
  | 0x0F => w (a >>> sh)
  | 0x10 => w (a.sshiftRight sh)
  | 0x11 => let x := a.toInt * 2 ^ sh; flagsNZ (wI (sat32 x)) (some (wI (sat32 x))) (x != sat32 x)
  | 0x12 => aluSub a b false false
  | 0x13 => flagsNZ (a &&& b) none
  | 0x14 => aluAdd a s false
  | 0x15 => w (a <<< imm)
  | 0x16 => w (a >>> imm)
  | 0x17 => w (a.sshiftRight imm)
  | 0x18 => aluSub a s false false
  | 0x19 => { res := some s }
  | 0x1A => w (a &&& 0xFFFF0000#32)
  | _ => {}

/-- R165: whether a condition code holds. -/
def condHolds (cond : Nat) (n z c v sat : Bool) : Bool :=
  match cond with
  | 0 => true | 1 => z | 2 => !z | 3 => n | 4 => !n | 5 => !n && !z | 6 => n || z | 7 => false
  | 8 => c | 9 => !c | 10 => v | 11 => !v | 12 => sat | 13 => !sat | 14 => n != v | _ => n == v

/-- The least power of two at or above a number (R163). -/
def pow2Above (l : Nat) : Nat := if l ≤ 1 then 1 else 2 ^ (Nat.log2 (l - 1) + 1)

/-- R163: a pointer after its update. -/
def ptrNext (mode : Nat) (p : Word) (len : Nat) : Word :=
  match mode with
  | 0 => p
  | 1 => p + 1
  | 2 => p - 1
  | _ =>
    if len = 0 then p + 1
    else
      let base := p.toNat / pow2Above len * pow2Above len
      wN (base + (p.toNat - base + 1) % len)

end Sys2Proof.Machine
end

