-- ==== Sys2Proof/Machine/Codes.lean ====
section
/-! DEFINITION. The codes that protect frames, images and messages: CRC-32 as in IEEE 802.3 clause 3 (R75), CRC-16 with
polynomial 0x1021 (R76), CRC-32C for safety messages, SHA-384 (R121, R143, R592), and the check of an ECDSA P-384 signature (R123). -/

namespace Sys2Proof.Machine

open Sys2Proof

/-- One bit of a reflected CRC of 32 bits. -/
def crcBit (poly c : BitVec 32) : BitVec 32 :=
  if c &&& 1#32 = 1#32 then (c >>> 1) ^^^ poly else c >>> 1

/-- One byte of a reflected CRC of 32 bits. -/
def crcByte (poly c : BitVec 32) (b : Byte) : BitVec 32 :=
  (List.range 8).foldl (fun x _ => crcBit poly x) (c ^^^ b.setWidth 32)

/-- R75: CRC-32, polynomial and bit order as in IEEE 802.3 clause 3. -/
def crc32 (l : List Byte) : BitVec 32 :=
  (l.foldl (crcByte 0xEDB88320#32) 0xFFFFFFFF#32) ^^^ 0xFFFFFFFF#32

/-- CRC-32C (Castagnoli), reflected. -/
def crc32c (l : List Byte) : BitVec 32 :=
  (l.foldl (crcByte 0x82F63B78#32) 0xFFFFFFFF#32) ^^^ 0xFFFFFFFF#32

/-- One byte of the CRC-16 of R76. -/
def crc16Byte (c : BitVec 16) (b : Byte) : BitVec 16 :=
  (List.range 8).foldl
    (fun x _ => if x &&& 0x8000#16 = 0x8000#16 then (x <<< 1) ^^^ 0x1021#16 else x <<< 1)
    (c ^^^ (b.setWidth 16 <<< 8))

/-- R76: CRC-16 with polynomial 0x1021, initial value 0xFFFF, no reflection, no final XOR. -/
def crc16 (l : List Byte) : BitVec 16 := l.foldl crc16Byte 0xFFFF#16

/-- The largest `r` with `r ^ k` at most `n`, found bit by bit below bit `b` of what is found already. -/
def rootBits (k n : Nat) : Nat → Nat → Nat
  | 0, r => r
  | b + 1, r => rootBits k n b (if (r + 2 ^ b) ^ k ≤ n then r + 2 ^ b else r)

/-- The first 80 prime numbers. -/
def shaPrimes : List Nat := (List.range 410).filter (fun p => decide (2 ≤ p) && (List.range p).all (fun q => q < 2 || p % q != 0))

/-- The 80 round constants of SHA-384: the first 64 bits of the fractional parts of the cube roots of those primes. -/
def shaK : List (BitVec 64) := shaPrimes.map (fun p => BitVec.ofNat 64 (rootBits 3 (p * 2 ^ 192) 68 0))

/-- The initial hash value of SHA-384: the first 64 bits of the fractional parts of the square roots of the ninth to the sixteenth prime. -/
def shaInit : List (BitVec 64) := ((shaPrimes.drop 8).take 8).map (fun p => BitVec.ofNat 64 (rootBits 2 (p * 2 ^ 128) 70 0))

/-- The big-endian bytes of a 64-bit word. -/
def be64 (w : BitVec 64) : List Byte := (List.range 8).map (fun i => (w >>> (56 - 8 * i)).setWidth 8)

/-- The 64-bit word that big-endian bytes spell. -/
def unbe64 (l : List Byte) : BitVec 64 := l.foldl (fun a b => (a <<< 8) ||| b.setWidth 64) 0

/-- A message padded to a multiple of 128 bytes as SHA-384 asks. -/
def shaPad (l : List Byte) : List Byte :=
  let n := l.length
  l ++ [0x80#8] ++ List.replicate ((239 - n % 128) % 128) 0#8 ++
    List.replicate 8 0#8 ++ be64 (BitVec.ofNat 64 (8 * n))

/-- The sixteen words of a block. -/
def shaWords (b : List Byte) : List (BitVec 64) :=
  (List.range 16).map (fun i => unbe64 ((b.drop (8 * i)).take 8))

/-- The sum modulo 2 of a word rotated right by each of `l`. -/
def rotSum (x : BitVec 64) (l : List Nat) : BitVec 64 := (l.map x.rotateRight).foldl (· ^^^ ·) 0

/-- The message schedule, newest word first, extended by `n` words: each is formed from those 2, 7, 15 and 16 places before it. -/
def shaSched : Nat → List (BitVec 64) → List (BitVec 64)
  | 0, w => w
  | n + 1, w =>
    let ago (i : Nat) : BitVec 64 := w.getD (i - 1) 0
    shaSched n (((rotSum (ago 2) [19, 61] ^^^ (ago 2 >>> 6)) + ago 7 + (rotSum (ago 15) [1, 8] ^^^ (ago 15 >>> 7)) + ago 16) :: w)

/-- One round of SHA-384 on the eight working variables: they move one place on, with a new first and a changed fifth. -/
def shaRound (v : List (BitVec 64)) (kw : BitVec 64 × BitVec 64) : List (BitVec 64) :=
  let x (i : Nat) : BitVec 64 := v.getD i 0
  let pick := x 6 ^^^ (x 4 &&& (x 5 ^^^ x 6))
  let most := (x 0 &&& (x 1 ||| x 2)) ||| (x 1 &&& x 2)
  let t := kw.1 + kw.2 + pick + rotSum (x 4) [14, 18, 41] + x 7
  [t + most + rotSum (x 0) [28, 34, 39]] ++ v.take 3 ++ [t + x 3] ++ (v.drop 4).take 3

/-- One block of SHA-384: the rounds, and the sum with the hash value before them. -/
def shaBlock (h : List (BitVec 64)) (b : List Byte) : List (BitVec 64) :=
  List.zipWith (· + ·) h ((shaK.zip (shaSched 64 (shaWords b).reverse).reverse).foldl shaRound h)

/-- The blocks of a padded message, `n` of them. -/
def shaBlocks : Nat → List (BitVec 64) → List Byte → List (BitVec 64)
  | 0, h, _ => h
  | n + 1, h, l => shaBlocks n (shaBlock h (l.take 128)) (l.drop 128)

/-- SHA-384 of a message, 48 bytes. -/
def sha384 (l : List Byte) : List Byte :=
  let p := shaPad l
  ((shaBlocks (p.length / 128) shaInit p).take 6).flatMap be64

/-! ### ECDSA on the curve P-384 (R123, R134, R601) -/

/-- The prime of the field of P-384. -/
def ecP : Nat := 2 ^ 384 - 2 ^ 128 - 2 ^ 96 + 2 ^ 32 - 1

/-- The order of the base point of P-384. -/
def ecN : Nat := 2 ^ 384 - 0x389cb27e0bc8d220a7e5f24db74f58851313e695333ad68d

/-- The coefficient b of P-384; the coefficient a is −3. -/
def ecB : Nat := 0xb3312fa7e23ee7e4988e056be3f82d19181d9c6efe8141120314088f5013875ac656398d8a2ed19d2a85c8edd3ec2aef

/-- A point of the curve in projective coordinates (X : Y : Z), where Z = 0 is the point at infinity. -/
structure EcPoint where
  x : Nat
  y : Nat
  z : Nat
  deriving DecidableEq, Repr

/-- The point at infinity. -/
def EcPoint.zero : EcPoint := { x := 0, y := 1, z := 0 }

/-- The base point of P-384. -/
def ecBase : EcPoint :=
  { x := 0xaa87ca22be8b05378eb1c71ef320ad746e1d3b628ba79b9859f741e082542a385502f25dbf55296c3a545e3872760ab7,
    y := 0x3617de4a96262c6f5d9e98bf9292dc29f8f41dbd289a147ce9da3113b5f0b8c00a60b1ce1d7e819d7a431d7c90ea0e5f, z := 1 }

/-- A difference in the field. -/
def ecSub (a b : Nat) : Nat := (a + (ecP - b % ecP)) % ecP

/-- A power modulo `m`, over `n` bits of the exponent. -/
def powMod (m : Nat) : Nat → Nat → Nat → Nat
  | 0, _, _ => 1 % m
  | n + 1, b, e => (if e % 2 == 1 then b else 1) * powMod m n (b * b % m) (e / 2) % m

/-- Twice a point: the tangent's slope is (3x² − 3) / 2y. -/
def EcPoint.double (p : EcPoint) : EcPoint :=
  if p.z = 0 || p.y = 0 then EcPoint.zero
  else
    let w := 3 * ecSub (p.x * p.x) (p.z * p.z) % ecP
    let s := p.y * p.z % ecP
    let b := p.x * p.y * s % ecP
    let h := ecSub (w * w) (8 * b)
    { x := 2 * h * s % ecP, y := ecSub (w * ecSub (4 * b) h) (8 * p.y * p.y * s * s), z := 8 * s * s * s % ecP }

/-- The sum of two points. -/
def EcPoint.add (p q : EcPoint) : EcPoint :=
  if p.z = 0 then q
  else if q.z = 0 then p
  else
    let u := ecSub (q.y * p.z) (p.y * q.z)
    let v := ecSub (q.x * p.z) (p.x * q.z)
    if v = 0 then (if u = 0 then p.double else EcPoint.zero)
    else
      let v2 := v * v % ecP
      let v3 := v2 * v % ecP
      let zz := p.z * q.z % ecP
      let r := v2 * p.x * q.z % ecP
      let a := ecSub (u * u * zz) (v3 + 2 * r)
      { x := v * a % ecP, y := ecSub (u * ecSub r a) (v3 * p.y * q.z), z := v3 * zz % ecP }

/-- A multiple of a point, over `n` bits of the factor. -/
def EcPoint.mul : Nat → Nat → EcPoint → EcPoint
  | 0, _, _ => EcPoint.zero
  | n + 1, k, p =>
    let r := EcPoint.mul n (k / 2) p.double
    if k % 2 == 1 then r.add p else r

/-- The number that big-endian bytes spell. -/
def beNat (l : List Byte) : Nat := l.foldl (fun a b => 256 * a + b.toNat) 0

/-- R123: whether a signature (r and s, 48 bytes each) over a digest of 48 bytes verifies under an uncompressed public key of 97 bytes. -/
def ecdsaVerify (key digest sig : List Byte) : Bool :=
  let q : EcPoint := { x := beNat ((key.drop 1).take 48), y := beNat ((key.drop 49).take 48), z := 1 }
  let r := beNat (sig.take 48)
  let s := beNat ((sig.drop 48).take 48)
  let onCurve := ecSub (q.y * q.y) (ecSub (q.x * q.x % ecP * q.x + ecB) (3 * q.x)) == 0
  if !(key.length == 97 && sig.length == 96 && key.head? == some 4#8 && decide (q.x < ecP) && decide (q.y < ecP) && onCurve &&
      decide (0 < r) && decide (r < ecN) && decide (0 < s) && decide (s < ecN)) then false
  else
    let w := powMod ecN 384 s (ecN - 2)
    let p := (EcPoint.mul 384 (beNat digest * w % ecN) ecBase).add (EcPoint.mul 384 (r * w % ecN) q)
    p.z != 0 && p.x * powMod ecP 384 p.z (ecP - 2) % ecP % ecN == r

end Sys2Proof.Machine
end

