-- ==== Sys2Proof/Machine/Settle.lean ====
section
/-! DEFINITION. What follows from the state whenever a command has changed it: the selection of the power state (R608), the arming of the
activation at start (R142, R622), and the gates of the legs. -/

namespace Sys2Proof.Machine

open Sys2Proof

/-- The active image; the null image where none is active. -/
def Dev.img (d : Dev) : Image := d.loader.image.getD {}

/-- An image, or the null image, is active and not being replaced (R140). -/
def Dev.running (d : Dev) : Bool :=
  d.loader.image.isSome && (match d.loader.job with | .switching _ _ _ => false | _ => true)

/-- The loader neither arms nor makes an activation that has been accepted (R139, R140). -/
def Dev.settled (d : Dev) : Bool :=
  match d.loader.job with
  | .idle => true
  | .checking _ act _ => !act
  | _ => false

/-- AXIS_STAT.STATE of an axis (R220): 0 DISABLED, 1 ENABLING, 2 AUTO, 3 MANUAL, 4 STOPPING, 5 STOPPED, 6 STO. -/
def Dev.axState (d : Dev) (a : Nat) : Nat := d.fld (R.AXIS_STAT a) F.AXIS_STAT.STATE

/-- An axis is enabled in every state but DISABLED. -/
def Dev.axEnabled (d : Dev) (a : Nat) : Bool := d.axState a != 0

/-- Some axis of the image is enabled. -/
def Dev.anyEnabled (d : Dev) : Bool := d.img.axes.any (fun r => d.axEnabled r.axis)

/-! ### Power states (R608 to R613) -/

/-- PWR_STAT.STATE: the power state, 0 to 4. -/
def Dev.pstate (d : Dev) : Nat := d.fld R.PWR_STAT F.PWR_STAT.STATE

/-- R88: the unit is standby. -/
def Dev.roleStandby (d : Dev) : Bool := d.fld R.LINE_GSTAT F.LINE_GSTAT.ROLE == 2

/-- R612: a debug request that is present is admitted: in OPEN, or with the permission of a token armed (in SERVICE that of
its token). -/
def Dev.debugAdmitted (d : Dev) : Bool :=
  d.bit R.SEC_STAT F.SEC_STAT.ATTACH &&
  (d.fld R.SEC_STAT F.SEC_STAT.STATE == 0 || d.sec.dbgEnd.isSome)

/-- R608: the debug cap: an open session, or a request that R612 admits. -/
def Dev.capDebug (d : Dev) : Bool := d.sec.open_.isSome || d.debugAdmitted

/-- R608: the state that a standby takes from its active peer (R564). -/
def Dev.peerPower (d : Dev) : Option Nat :=
  if d.roleStandby then d.duo.peer.map (fun h => min h.pwr 4) else none

/-- R608: the effective tolerance in µs. -/
def Dev.tolerance (d : Dev) : Nat :=
  if d.bit R.PWR_STAT F.PWR_STAT.WOKE then 0 else (d.reg R.PWR_LATTOL).toNat

/-- R608: the lowest-power state whose exit latency does not exceed a tolerance and whose condition holds. -/
def powerFor (tol : Nat) (axis : Bool) : Nat :=
  if 2000000 ≤ tol && !axis then 4
  else if 20000 ≤ tol && !axis then 3
  else if 200 ≤ tol then 2
  else if 2 ≤ tol then 1
  else 0

/-- R608: the target state. -/
def Dev.powerTarget (d : Dev) : Nat :=
  let own := match d.peerPower with
    | some p => p
    | none => powerFor d.tolerance d.anyEnabled
  if d.capDebug then min own 1 else own

/-- R609: what a selection is put down to: 0 PWR_LATTOL, 1 a wake, 2 debug, 3 an axis, 4 the peer. -/
def Dev.powerCause (d : Dev) : Nat :=
  if d.capDebug then 2
  else if d.peerPower.isSome then 4
  else if d.bit R.PWR_STAT F.PWR_STAT.WOKE then 1
  else if d.anyEnabled && decide (200 ≤ d.tolerance) then 3
  else 0

/-- R608, R609, R613: the target is selected unless a transition is in progress; an exit starts at once. -/
def Dev.selectPower (d : Dev) : Dev :=
  let r := R.PWR_STAT
  if d.bit r F.PWR_STAT.TRANS then d
  else
    let b (c : Bool) : Nat := if c then 1 else 0
    let t := d.powerTarget
    let s := d.fld r F.PWR_STAT.STATE
    let d1 := ((d.setFld r F.PWR_STAT.CAPDBG (b d.capDebug)).setFld r F.PWR_STAT.CAPAXIS (b d.anyEnabled)).setFld r
      F.PWR_STAT.CAPPAIR (b d.peerPower.isSome)
    let d2 := if t == d.fld r F.PWR_STAT.TARGET then d1
      else { d1.setFld r F.PWR_STAT.TARGET t with pwr := { d1.pwr with selNs := d.ns, cause := d.powerCause } }
    if t < s then { d2.setFld r F.PWR_STAT.TRANS 1 with pwr := { d2.pwr with exitFrom := some s, cause := d.powerCause } } else d2

/-! ### Activation at start (R142, R622) -/

/-- The first 4 ms boundary of TIME_NS at least 1 ms after an instant. -/
def boundaryAfter (ns : Nat) : Nat := (ns + 1000000 + 3999999) / 4000000 * 4000000

/-- R142, R622 step 9, R627: the image chosen at start is armed once the loader's checks are over, the step window has closed and no
carrier is being read, unless a power-fail warning is in force. -/
def Dev.bootArm (d : Dev) : Dev :=
  if d.loader.bootDone && d.loader.job == .idle && d.loader.image.isNone && d.loader.nextImage.isSome &&
      !d.bit R.TIME_STAT F.TIME_STAT.WINOPEN && !(d.pwm.cars.any (fun e => e.2.reading)) && !d.bit R.SYS_PF_STAT F.SYS_PF_STAT.PFW then
    { d.setFld R.FAB_IMG_STAT F.FAB_IMG_STAT.STATE 2 with loader := { d.loader with job := .armed (boundaryAfter d.ns) false } }
  else d

/-! ### Gates (R236, R245, R263) -/

/-- The state of a leg beside its registers; legs are numbered over the unit (R229). -/
def Dev.leg (d : Dev) (l : Nat) : LegSt := tget d.pwm.legs l {}

/-- The device with a leg's state set. -/
def Dev.setLeg (d : Dev) (l : Nat) (x : LegSt) : Dev := { d with pwm := { d.pwm with legs := tset d.pwm.legs l x } }

/-- The drive connector of a LOCAL axis (R128). -/
def AxisRec.conn (r : AxisRec) : Nat := r.bind % 8

/-- The first leg of a LOCAL axis, numbered over the unit (R128). -/
def AxisRec.leg (r : AxisRec) : Nat := 12 * r.conn + (r.bind / 8) % 16

/-- R229: the LOCAL axis that a leg belongs to. -/
def Dev.axisOfLeg (d : Dev) (l : Nat) : Option Nat :=
  (d.img.axes.find? (fun r => r.kind == 0 && decide (r.leg ≤ l) && decide (l < r.leg + 3))).map (·.axis)

/-- The registers of leg `l`. -/
def legReg (f : Nat → Nat → Reg) (l : Nat) : Reg := f (l / 12) (l % 12)

/-- The unit is the standby of a redundant pair (R67). -/
def Dev.isStandby (d : Dev) : Bool :=
  d.bit R.PAIR_CFG F.PAIR_CFG.EN && d.fld R.LINE_GSTAT F.LINE_GSTAT.ROLE == 2

/-- R557: from T to T + 4 ms of a handover the former active unit has given up its role. -/
def Dev.handedOver (d : Dev) : Bool := d.duo.demoteT.isSome && d.duo.switchT.isSome

/-- R236, R245, R252, R260: a leg switches. A FABRIC leg runs while its axis is enabled and torque is not removed; a DIRECT
leg with DEN = 1, its axis disabled and the test permit granted; neither with a trip latched, nor on a standby, in P3 or P4,
or before the first reload sample after a takeover. -/
def Dev.legRuns (d : Dev) (l : Nat) : Bool :=
  !(d.leg l).trip && !(d.leg l).wait && decide (d.pstate ≤ 2) && !d.isStandby && !d.handedOver &&
  (match d.axisOfLeg l with
    | none => false
    | some a =>
      if d.bit (legReg R.PWM_LEG_CFG l) F.PWM_LEG_CFG.SRC then
        d.bit (legReg R.PWM_LEG_CTL l) F.PWM_LEG_CTL.DEN && !d.axEnabled a && d.axs.testPermit.contains a
      else d.axEnabled a && d.axState a != 6)

/-- The gates of a leg that no longer runs are inactive at once. -/
def Dev.gateFollows (d : Dev) (l : Nat) : Dev :=
  let x := d.leg l
  if x.gate == 0 || d.legRuns l then d else (d.setLeg l { x with gate := 0, lowAt := none }).emit (.leg l [])

/-- The gates of every leg follow. -/
def Dev.gatesFollow (d : Dev) : Dev := d.each (d.pwm.legs.map (·.1)) Dev.gateFollows

/-- R263: the gates of every leg are inactive. -/
def Dev.gatesOff (d : Dev) : Dev :=
  d.each (d.pwm.legs.map (·.1)) (fun d l => if (d.leg l).gate == 0 then d else (d.setLeg l { d.leg l with gate := 0, lowAt := none }).emit (.leg l []))

/-! ### The pairing link (R541, R542) -/

/-- The pairing link can carry frames: the module in X4 is accepted (R652). -/
def Dev.x4 (d : Dev) : Bool := bitAt (d.fld R.SYS_ENV_STAT F.SYS_ENV_STAT.SFPOK) 2

/-- R542: the place of a frame in the order of priority, the lowest first. SYNCREQ, which R542 does not name, goes with ACK. -/
def linkPrio : Out → Nat
  | .pair 3 _ _ _ | .pair 4 _ _ _ => 0
  | .pair 2 _ _ _ | .pair 6 _ _ _ | .pair 7 _ _ _ => 1
  | .mirror f _ => if f.copy then 3 else 2
  | _ => 4

/-- A frame waits for the pairing link. HANDOVER follows the MIRROR frames that wait already (R557). -/
def Dev.linkPut (d : Dev) (o : Out) : Dev :=
  if !d.x4 then d
  else
    let prio := match o with
      | .pair 6 _ _ _ => if d.link.q.any (fun e => e.1 == 2) then 2 else 1
      | _ => linkPrio o
    { d with link := { d.link with q := d.link.q ++ [(prio, o)] } }

/-- R541: a frame of another TYPE than MIRROR, with its FSEQ and the present tick. -/
def Dev.linkSend (d : Dev) (typ : Nat) (fields : List Int) : Dev :=
  let n := tget d.link.seqs typ 0
  ({ d with link := { d.link with seqs := tset d.link.seqs typ ((n + 1) % 2 ^ 32) } }).linkPut (.pair typ n d.time.tick fields)

/-- R542: the waiting frame that is sent next: of those with the highest priority the oldest. -/
def nextFrame (q : List (Nat × Out)) : Option (Nat × Out) :=
  q.foldl (fun best e => match best with
    | some b => if e.1 < b.1 then some e else best
    | none => some e) none

/-- R542: waiting frames leave while the link is free, the first no earlier than clock `start`. A frame with no payload takes 8 clocks. -/
def Dev.linkServe (d : Dev) (start : Nat) : Nat → Dev
  | 0 => d
  | fuel + 1 =>
    match nextFrame d.link.q with
    | none => d
    | some e =>
      if !d.x4 then { d with link := { d.link with q := [] } }
      else if d.clk < d.link.busy then d
      else
        let done := max start d.link.busy + 8 + Config.linkClks d.fresh
        (({ d with fresh := d.fresh + 1, link := { d.link with busy := done, q := d.link.q.erase e } }).emit e.2).linkServe start fuel

/-- The frames that were waiting before the present clock. -/
def Dev.linkPasses (d : Dev) : Dev := d.linkServe 0 d.link.q.length

/-- The link at the end of a command. -/
def Dev.linkFollows (d : Dev) : Dev := d.linkServe d.clk d.link.q.length

/-- What follows from the state after a command. -/
def Dev.settle (d : Dev) : Dev := d.bootArm.selectPower.gatesFollow.linkFollows

end Sys2Proof.Machine
end

