-- ==== Sys2Proof/Machine/Bureau.lean ====
section
/-! DEFINITION. The Bureau (spec/17_event_recorder.md): records, repeats, the full store, the failure of the store, the
offering of events to the host (R578), and the running of a command, whose events the Bureau takes when it ends. -/

namespace Sys2Proof.Machine

open Sys2Proof

/-! ### Records -/

/-- R520: the 60 bytes of a record before its CRC. -/
def Rec.body (r : Rec) : List Byte :=
  le 4 r.seq.toNat ++ le 4 r.ts.toNat ++ le 4 r.uptime.toNat ++ le 2 r.code ++ le 1 r.sev ++ le 1 r.flags ++
  le 4 r.source.toNat ++ le 4 r.rep ++ le 4 r.lastTs.toNat ++ le 2 r.bootNo ++ le 2 0 ++
  slice (r.data.flatMap (fun w => le 4 w.toNat)) 0 28

/-- R520: the 64 bytes of a record. -/
def Rec.bytes (r : Rec) : List Byte := r.body ++ le 4 (crc32 r.body).toNat

/-- The words of a record as the window shows them (R526). -/
def Rec.words (r : Rec) : List Word := (List.range 16).map (fun k => wN (uAt r.bytes (4 * k) 4))

/-- R524: the places of the MRAM. -/
def mramPlaces : Nat := 524288

/-- R528: the records of one region. -/
def regionSize : Nat := 1024

/-- The places of the last-gasp store. -/
def lgPlaces : Nat := 64

/-- The lowest free place of the MRAM from `p` on, outside the retired regions. -/
def freePlace (used retired : List Nat) : Nat → Nat → Option Nat
  | 0, _ => none
  | fuel + 1, p =>
    if mramPlaces ≤ p then none
    else if retired.contains (p / regionSize) then freePlace used retired fuel ((p / regionSize + 1) * regionSize)
    else if used.contains p then freePlace used retired fuel (p + 1)
    else some p

/-- R521: the SEQ after a SEQ; 0 is never assigned. -/
def nextSeq (w : Word) : Word := if w + 1 = 0 then 1 else w + 1

/-- The newest record held in either store. -/
def BureauSt.newest (b : BureauSt) : Option Rec :=
  match b.mram.getLast?, b.lg.getLast? with
  | none, x => x
  | x, none => x
  | some m, some l => if tsDiff l.seq m.seq > 0 then some l else some m

/-- The oldest record held in either store. -/
def BureauSt.oldest (b : BureauSt) : Option Rec :=
  match b.mram.head?, b.lg.head? with
  | none, x => x
  | x, none => x
  | some m, some l => if tsDiff l.seq m.seq < 0 then some l else some m

/-- R522: an event repeats the newest record if CODE, SEV and SOURCE are equal and the record is of this run. -/
def repeatsRec (r : Rec) (e : Ev) (boot : Nat) : Bool :=
  r.code == e.code && r.sev == e.sev && r.source == e.source && r.bootNo == boot

/-- R522: the record with one more occurrence. -/
def Rec.again (r : Rec) (ts : Word) : Rec :=
  { r with rep := min (r.rep + 1) 0xFFFFFFFF, lastTs := ts }

/-- The records with one of them replaced. -/
def replaceRec (l : List Rec) (r r1 : Rec) : List Rec := l.map (fun x => if x = r then r1 else x)

/-- R524: the oldest record whose severity lies strictly below both a severity and KEEP. -/
def victim (l : List Rec) (sev keep : Nat) : Option Rec := l.find? (fun r => decide (r.sev < sev) && decide (r.sev < keep))

/-- What storing an event needs of the device: the instant, the run and EVT_CFG. -/
structure EvCtx where
  ts : Word
  uptime : Nat
  boot : Nat
  keep : Nat
  recMin : Nat
  deriving DecidableEq, Repr

/-- A new record of an event, with the SEQ that follows the last one assigned. -/
def newRec (c : EvCtx) (b : BureauSt) (e : Ev) : Rec :=
  { seq := nextSeq b.lastSeq, ts := c.ts, uptime := wN c.uptime, code := e.code, sev := e.sev, source := e.source,
    lastTs := c.ts, bootNo := c.boot, data := e.data }

/-- R524: a refused record: EVT_OVF of its severity goes up, and the first refusal is logged as EVT_OVERFLOW. -/
def refuseRec (b : BureauSt) (e : Ev) : BureauSt × List Ev :=
  let b1 := { b with ovf := tset b.ovf e.sev (min (tget b.ovf e.sev 0 + 1) 0xFFFFFFFF) }
  if b.refused.contains e.sev then (b1, [])
  else ({ b1 with refused := e.sev :: b.refused }, [{ code := 0xE106, sev := 4, data := [wN e.sev] }])

/-- R528: a region is retired with the records it holds; EVT_REGION_FAIL goes to the last-gasp store. -/
def retireRegion (b : BureauSt) (g : Nat) : BureauSt × List Ev :=
  let keepRecs := b.mram.filter (fun r => r.place / regionSize != g)
  ({ b with retired := (b.retired ++ [g]), mram := keepRecs, regFail := true,
            lost := min (b.lost + (b.mram.length - keepRecs.length)) 0xFFFFFFFF },
   [{ code := 0xE103, sev := 5, data := [wN g], toLg := true }])

/-- R524 in the last-gasp store: 64 places, the record carrying LG. -/
def putLg (c : EvCtx) (b : BureauSt) (e : Ev) : BureauSt × Option Rec × List Ev :=
  let r := { newRec c b e with flags := 1 }
  let ok (l : List Rec) : BureauSt × Option Rec × List Ev :=
    ({ b with lg := l ++ [r], lastSeq := r.seq, refused := b.refused.filter (· != e.sev) }, some r, [])
  if b.lg.length < lgPlaces then ok b.lg
  else match victim b.lg e.sev c.keep with
    | some v => ok (b.lg.erase v)
    | none => let (b1, l) := refuseRec b e; (b1, none, l)

/-- R524, R528 in the MRAM: a free place, or the victim's; a write into a failing region retires it and goes on to the next
place, and with every region retired STORE becomes LASTGASP (R529). -/
def putMram (c : EvCtx) : Nat → BureauSt → Ev → BureauSt × Option Rec × List Ev
  | 0, b, _ => (b, none, [])
  | fuel + 1, b, e =>
    let r := newRec c b e
    let at_ (l : List Rec) (p : Nat) : BureauSt × Option Rec × List Ev :=
      if b.badRegions.contains (p / regionSize) then
        let (b1, f1) := retireRegion b (p / regionSize)
        let (b2, x, f2) := putMram c fuel b1 e
        (b2, x, f1 ++ f2)
      else
        let r1 := { r with place := p }
        ({ b with mram := l ++ [r1], lastSeq := r.seq, refused := b.refused.filter (· != e.sev) }, some r1, [])
    if b.retired.length ≥ 512 then
      let (b1, x, f) := putLg c { b with store := .lastGasp, lgFrom := nextSeq b.lastSeq } e
      (b1, x, { code := 0xE104, sev := 7 } :: f)
    else
      match freePlace (b.mram.map (·.place)) b.retired (b.mram.length + 513) 0 with
      | some p => at_ b.mram p
      | none =>
        match victim b.mram e.sev c.keep with
        | some v => at_ (b.mram.erase v) v.place
        | none => let (b1, f) := refuseRec b e; (b1, none, f)

/-- R522, R528: a repeat rewrites its record; one whose region fails at the write goes to the next free place under R524, and the region is
retired. -/
def repeatRec (c : EvCtx) (b : BureauSt) (r : Rec) (e : Ev) : BureauSt × Option Rec × List Ev :=
  let r1 := r.again c.ts
  if b.mram.contains r && b.badRegions.contains (r.place / regionSize) then
    let x := retireRegion { b with mram := b.mram.erase r } (r.place / regionSize)
    match freePlace (x.1.mram.map (·.place)) (x.1.retired ++ x.1.badRegions) (x.1.mram.length + 1025) 0 with
    | some p => ({ x.1 with mram := x.1.mram ++ [{ r1 with place := p }] }, some { r1 with place := p }, x.2)
    | none =>
      match victim x.1.mram e.sev c.keep with
      | some v => ({ x.1 with mram := x.1.mram.erase v ++ [{ r1 with place := v.place }] }, some { r1 with place := v.place }, x.2)
      | none => let y := refuseRec x.1 e; (y.1, none, x.2 ++ y.2)
  else ({ b with mram := replaceRec b.mram r r1, lg := replaceRec b.lg r r1 }, some r1, [])

/-- R522 to R524, R529: the Bureau takes one event: the state after it, the record as it stands (none if it is not
recorded), and the events that follow from taking it. -/
def takeEv (c : EvCtx) (b : BureauSt) (e : Ev) : BureauSt × Option Rec × List Ev :=
  if e.sev < c.recMin then (b, none, [])
  else
    match b.newest.filter (fun r => repeatsRec r e c.boot) with
    | some r => repeatRec c b r e
    | none =>
      if e.toLg || b.store == .lastGasp then putLg c b e
      else putMram c 514 b e

/-! ### The host's subscriptions (R578) -/

/-- Free entries of a response queue. -/
def Queue.freeEntries (q : Queue) : Nat := q.depth - (q.pos + 2 ^ 32 - q.ack) % 2 ^ 32

/-- A message placed in a response queue at its next position; R577: the wait for its acknowledgement begins where none was
outstanding. -/
def Queue.place (q0 : Queue) (clk : Nat) (bytes : List Byte) : Queue :=
  let q : Queue := if q0.unacked.isEmpty then { q0 with ackClk := clk, rounds := 0 } else q0
  { q with pos := (q.pos + bytes.length / 64) % 2 ^ 32, unacked := q.unacked ++ [(q.pos, bytes)] }

/-- R567: the header of a message. -/
def header (typ units queue sessId status flags qpos ref : Nat) : List Byte :=
  le 2 typ ++ le 1 units ++ le 1 queue ++ le 2 sessId ++ le 1 status ++ le 1 flags ++ le 4 qpos ++ le 4 ref

/-- R578: the bytes of an EVENT message. -/
def eventMsg (q sessId qpos drops : Nat) (noRec : Bool) (r : Rec) : List Byte :=
  padTo 64 (header 0x0FC2 2 q sessId 0 (if noRec then 4 else 0) qpos 0 ++ le 4 drops) ++ r.bytes

/-- The state that the taking of events changes. -/
structure EvSink where
  bureau : BureauSt
  host : HostSt
  met : Tab Word
  out : List Out
  deriving DecidableEq, Repr

/-- R578: an event is offered to one session: placed if more than RESV entries of its event queue are free, else
dropped, counted, and logged at most once per second. -/
def offerOne (clk : Nat) (slot : Nat) (e : Ev) (r : Rec) (noRec : Bool) (x : EvSink × List Ev) : EvSink × List Ev :=
  match tget? x.1.host.sess slot with
  | none => x
  | some ss =>
    match ss.sub with
    | none => x
    | some (evq, evMin, srcMask) =>
      if evMin ≤ e.sev && bitAt srcMask (e.code / 4096) then
        let place : Option Queue :=
          match tget? x.1.host.queues evq with
          | some q => if q.resv < q.freeEntries then some q else none
          | none => none
        match place with
        | some q =>
          let m := eventMsg evq ss.sessId q.pos ss.drops noRec r
          let h := { x.1.host with
            sess := tset x.1.host.sess slot { ss with drops := 0 }, queues := tset x.1.host.queues evq (q.place clk m) }
          ({ x.1 with host := h, out := x.1.out ++ [.placed evq q.pos m] }, x.2)
        | none =>
          let due : Bool := match ss.dropLogClk with
            | none => true
            | some c => decide (c + fabHz ≤ clk)
          let ss1 := { ss with drops := ss.drops + 1, dropLogClk := if due then some clk else ss.dropLogClk }
          let n := min (tget x.1.host.dropped slot 0 + 1) 0xFFFFFFFF
          let h := { x.1.host with sess := tset x.1.host.sess slot ss1, dropped := tset x.1.host.dropped slot n }
          ({ x.1 with host := h },
           if due then x.2 ++ [{ code := 0xF104, sev := 3, source := wN slot, data := [wN ss1.drops] }] else x.2)
      else x

/-- R578: an event is offered to every session, in slot order. -/
def offer (clk : Nat) (e : Ev) (r : Rec) (noRec : Bool) (x : EvSink) : EvSink × List Ev :=
  [0, 1, 2, 3].foldl (fun acc slot => offerOne clk slot e r noRec acc) (x, [])

/-- R505, R513: a trigger condition's gate is open, or has been in the present period. -/
def Dev.capOpen (d : Dev) (t : Nat) : Bool :=
  !d.bit (R.CAP_TRIG_CFG t) F.CAP_TRIG_CFG.GATE || d.cap.gates.contains t || d.cap.shut.contains t

/-- R505: the trigger conditions of KIND EVENT that an event of a code meets, with the instant. -/
def Dev.evTriggers (d : Dev) (code : Nat) (met : Tab Word) : Tab Word :=
  (List.range 32).foldl
    (fun m t =>
      let r := R.CAP_TRIG_CFG t
      if d.bit r F.CAP_TRIG_CFG.EN && d.fld r F.CAP_TRIG_CFG.KIND == 4 && d.fld r F.CAP_TRIG_CFG.SRC == code && d.capOpen t
      then tset m t d.ts else m) met

/-- The instant and the settings that the Bureau's taking of an event reads. -/
def Dev.evCtx (d : Dev) : EvCtx :=
  { ts := d.ts, uptime := d.uptime, boot := (d.reg R.EVT_BOOTNO).toNat, keep := d.fld R.EVT_CFG F.EVT_CFG.KEEP,
    recMin := d.fld R.EVT_CFG F.EVT_CFG.RECMIN }

/-- R522, R578: one event is taken and offered; the events that follow from it come back. During a copy the event
waits (R529). -/
def Dev.sinkEv (d : Dev) (x : EvSink) (e : Ev) : EvSink × List Ev :=
  if x.bureau.store == .copying && !e.toLg then
    ({ x with bureau := { x.bureau with waiting := x.bureau.waiting ++ [e] } }, [])
  else
    let c := d.evCtx
    let (b, r, f) := takeEv c x.bureau e
    let shown := r.getD { newRec c b e with seq := 0 }
    let met := if r.isSome then d.evTriggers e.code x.met else x.met
    let (y, g) := offer d.clk e shown r.isNone { x with bureau := b, met := met }
    (y, f ++ g)

/-- Events are taken one after another, and what follows from them after each, to a depth that no chain of events
exceeds. -/
def Dev.sinkAll (d : Dev) : Nat → EvSink → List Ev → EvSink
  | 0, x, _ => x
  | fuel + 1, x, l =>
    l.foldl (fun y e => let (z, more) := d.sinkEv y e; d.sinkAll fuel z more) x

/-- R521: an event stands before another if its code is lower, or equal with a lower SOURCE. -/
def evBefore (a b : Ev) : Bool := a.code < b.code || (a.code == b.code && a.source.toNat ≤ b.source.toNat)

/-- An event put in its place among sorted ones, after its equals. -/
def evInsert (e : Ev) : List Ev → List Ev
  | [] => [e]
  | x :: rest => if evBefore x e then x :: evInsert e rest else e :: x :: rest

/-- R521: the events of one clock in order of code, then of SOURCE. -/
def evSort (l : List Ev) : List Ev := l.foldl (fun acc e => evInsert e acc) []

/-- R521, R534: the events of one clock as the Bureau takes them: first those that repeat the newest record, which take no SEQ, then the others in
order. -/
def Dev.evOrder (d : Dev) : List Ev :=
  let again (e : Ev) : Bool := (d.bureau.newest.filter (fun r => repeatsRec r e (d.reg R.EVT_BOOTNO).toNat)).isSome
  d.evq.filter again ++ evSort (d.evq.filter (fun e => !again e))

/-- HOST_STAT.LINK2 and LINK3: the link of a host port (0 X2, 1 X3) is up. -/
def Dev.hostLink (d : Dev) (p : Nat) : Bool := d.bit R.HOST_STAT (if p == 0 then F.HOST_STAT.LINK2 else F.HOST_STAT.LINK3)

/-- R565, R566: a payload of so many bytes fits a datagram on the path to an address: within the MTU with its IP and UDP headers, 28 bytes over
IPv4 and 48 over IPv6. -/
def Dev.fitsPath (d : Dev) (addr len : Nat) : Bool :=
  decide (len + (if addr < 2 ^ 32 then 28 else 48) ≤ (if d.bit R.HOST_CFG2 F.HOST_CFG2.JUMBO then 9000 else 1500))

/-- R588: messages placed in response queues leave on the ports of their sessions, each in a datagram of its own; one that does not fit its path
is not sent (R566). -/
def Dev.countTx (d : Dev) (outs : List Out) : Dev :=
  d.each outs (fun d o => match o with
    | .placed q _ m =>
      match (tget? d.host.queues q).bind (fun x => tget? d.host.sess x.slot) with
      | some s => if d.hostLink s.peer.port && d.fitsPath s.peer.addr m.length then d.inc (R.HOST_P_CNT_TX s.peer.port) else d
      | none => d
    | _ => d)

/-- The Bureau takes the events that have been raised. A failure of its store sets REGFAIL (R11, R528). -/
def Dev.flush (d : Dev) : Dev :=
  let x := d.sinkAll 6 ⟨d.bureau, d.host, d.cap.met, d.out⟩ d.evOrder
  let e : Dev := if d.bureau.retired.length < x.bureau.retired.length then d.markSet R.EVT_STAT (2 ^ F.EVT_STAT.REGFAIL.lo) else d
  ({ e with bureau := x.bureau, host := x.host, cap := { d.cap with met := x.met }, out := x.out, evq := [] } : Dev).countTx
    (x.out.drop d.out.length)

/-! ### Running a command -/

/-- The stores of the device in canonical form, so that equal machines are equal data. -/
def Dev.seal (d : Dev) : Dev := { d with regs := tabNorm d.regs }

/-- The device as a command finds it: what the command before put out is gone. -/
def State.start (s : State) : Dev := { s.dev with out := [], evq := [] }

/-- A command acts on the device and leaves the queue alone: the effect is applied with what follows from it, the Bureau takes the events
raised, and the register store is answered in canonical form. -/
def State.runAny (s : State) (f : Dev → Dev) : Host.Outcome State Fault Refusal :=
  .next { s with dev := (f s.start).settle.flush.seal }

/-- A command while the regulated supply is on; with the supply off (R656) nothing in the unit runs. -/
def State.run (s : State) (f : Dev → Dev) : Host.Outcome State Fault Refusal :=
  s.runAny (fun d => if d.sys.off then d else f d)

/-- A command on a numbered object: a number above the limit is answered with BADARG and has no effect (R21). -/
def State.runIf (s : State) (c : Bool) (f : Dev → Dev) : Host.Outcome State Fault Refusal :=
  s.run (fun d => if c then f d else d.answer .badArg)

/-! ### Reading and the failure of the store -/

/-- A record put in its place in the signed order from a cursor. -/
def recInsert (cursor : Word) (r : Rec) : List Rec → List Rec
  | [] => [r]
  | x :: rest => if tsDiff x.seq cursor ≤ tsDiff r.seq cursor then x :: recInsert cursor r rest else r :: x :: rest

/-- R526: the records at or above the cursor, in signed order. -/
def BureauSt.fromCursor (b : BureauSt) (cursor : Word) : List Rec :=
  ((b.mram ++ b.lg).filter (fun r => decide (0 ≤ tsDiff r.seq cursor))).foldl (fun acc r => recInsert cursor r acc) []

/-- R526: a read of word `k` of window slot `w`. Word 0 copies the record into the slot. -/
def Dev.winRead (d : Dev) (w k : Nat) : Dev × Word :=
  let cursor := d.reg R.EVT_CURSOR
  let shown : List Word := match (d.bureau.fromCursor cursor)[w]? with
    | some r => r.words
    | none => []
  let b := if k = 0 then { d.bureau with win := tset d.bureau.win w shown } else d.bureau
  ({ d with bureau := b }, ((tget b.win w []).getD k 0))

/-- R528: the read of a record finds two or more symbols in error: its region is retired, and the slot shows what is left. -/
def Dev.winFails (d : Dev) (w : Nat) : Dev :=
  match (d.bureau.fromCursor (d.reg R.EVT_CURSOR))[w]? with
  | some r =>
    if d.bureau.mram.contains r then
      let x := retireRegion d.bureau (r.place / regionSize)
      ({ d with bureau := x.1, evq := d.evq ++ x.2 } : Dev).markSet R.EVT_STAT (2 ^ F.EVT_STAT.REGFAIL.lo)
    else d
  | none => d

/-- R526: NEXT moves the cursor past slot 15 as read, or past the newest record if slot 15 is empty. -/
def Dev.evtNext (d : Dev) : Dev :=
  let s15 := (tget d.bureau.win 15 []).getD 0 0
  let base := if s15 = 0 then (match d.bureau.newest with | some r => r.seq | none => 0) else s15
  d.setReg R.EVT_CURSOR (base + 1)

/-- R535: CLEAR erases every record, EVT_OVF and the counters that CLEAR clears (R536); EVT_CLEARED is the first
record. -/
def Dev.evtClear (d : Dev) : Dev :=
  { d with bureau := { d.bureau with mram := [], lg := [], ovf := [], refused := [], lost := 0, torn := 0 } }.ev 0xE108 5

/-- R528: RETEST writes and reads back each retired region; those not in `bad` return to service. -/
def Dev.retest (d : Dev) (bad : List Nat) : Dev :=
  { d with bureau := { d.bureau with badRegions := bad, retired := d.bureau.retired.filter (fun g => bad.contains g) } }

/-- R529: the MRAM does not answer: STORE becomes LASTGASP and EVT_MRAM_LOST is logged there. -/
def Dev.mramLost (d : Dev) : Dev :=
  if d.bureau.store == .mram then
    { d with bureau := { d.bureau with store := .lastGasp, lgFrom := nextSeq d.bureau.lastSeq, probeClk := d.clk } }.ev 0xE104 7
  else d

/-- R529: a probe, 1 s after the loss or the last probe: if the MRAM answers, the copy begins. -/
def Dev.mramProbe (d : Dev) (answers : Bool) : Dev :=
  if d.bureau.store == .lastGasp && d.since d.bureau.probeClk fabHz then
    if answers && decide (d.bureau.retired.length < 512) then
      { d with bureau := { d.bureau with store := .copying, probeClk := d.clk } }
    else { d with bureau := { d.bureau with probeClk := d.clk } }
  else d

/-- R529: one last-gasp record goes into the MRAM with its SEQ and COPIED, into a free place or a victim's. -/
def copyRec (keep : Nat) (b : BureauSt) (r : Rec) : BureauSt :=
  let r1 := { r with flags := r.flags % 2 + 2 }
  match freePlace (b.mram.map (·.place)) (b.retired ++ b.badRegions) (b.mram.length + 1025) 0 with
  | some p => { b with mram := b.mram ++ [{ r1 with place := p }] }
  | none =>
    match victim b.mram r.sev keep with
    | some v => { b with mram := b.mram.erase v ++ [{ r1 with place := v.place }] }
    | none => { b with ovf := tset b.ovf r.sev (min (tget b.ovf r.sev 0 + 1) 0xFFFFFFFF) }

/-- R529: the copy is complete: the records created since STORE became LASTGASP stand in the MRAM, events that arrived
during the copy follow, STORE is MRAM and EVT_MRAM_BACK is logged with the records copied. -/
def Dev.mramCopyDone (d : Dev) (bad : List Nat) : Dev :=
  if d.bureau.store == .copying then
    let b0 := { d.bureau with badRegions := bad }
    let hit := bad.filter (fun g => !(b0.retired.contains g) && b0.mram.any (fun r => r.place / regionSize == g))
    let (b1, evs) := hit.foldl (fun (x : BureauSt × List Ev) g =>
      let (b, l) := retireRegion x.1 g; (b, x.2 ++ l)) (b0, [])
    let mine := b1.lg.filter (fun r => decide (0 ≤ tsDiff r.seq b1.lgFrom))
    let b2 := mine.foldl (copyRec (d.fld R.EVT_CFG F.EVT_CFG.KEEP)) b1
    let b3 := { b2 with store := .mram, lg := b1.lg.filter (fun r => decide (tsDiff r.seq b1.lgFrom < 0)), waiting := [] }
    let d0 := if hit.isEmpty then d else d.markSet R.EVT_STAT (2 ^ F.EVT_STAT.REGFAIL.lo)
    let d1 := { d0 with bureau := b3, evq := d.evq ++ evs ++ d.bureau.waiting }.flush
    d1.ev 0xE105 3 [wN mine.length]
  else d

/-! ### Commands -/

/-- EVENT_RECEIVED (R521): an event of a block reaches the Bureau; `bad` are the regions whose cells fail at present. -/
def execEventReceived (code sev : Nat) (source : Word) (data : List Word) (bad : List Nat) (s : State) :
    Host.Outcome State Fault Refusal :=
  s.runIf (decide (code < 65536) && decide (sev < 8)) (fun d =>
    { d with bureau := { d.bureau with badRegions := bad } }.raise
      { code := code, sev := sev, source := source, data := data.take 7 })

/-- MRAM_TIMEOUT (R529). -/
def execMramTimeout (s : State) : Host.Outcome State Fault Refusal := s.run (fun d => d.mramLost)

/-- MRAM_PROBE (R529): `answers` says whether the MRAM answers. -/
def execMramProbe (answers : Bool) (s : State) : Host.Outcome State Fault Refusal :=
  s.run (fun d => d.mramProbe answers)

/-- MRAM_COPY_DONE (R529): `bad` are the regions that failed during the copy (R534). -/
def execMramCopyDone (bad : List Nat) (s : State) : Host.Outcome State Fault Refusal :=
  s.run (fun d => d.mramCopyDone bad)

/-- EVT_WIN_READ (R526): a word of a window slot; `fails` says that the read of the record finds two or more symbols in error. -/
def execEvtWinRead (place : Nat × Nat) (fails : Bool) (s : State) : Host.Outcome State Fault Refusal :=
  s.runIf (decide (place.1 < 16) && decide (place.2 < 16)) (fun d =>
    let (d1, v) := (if fails && place.2 == 0 then d.winFails place.1 else d).winRead place.1 place.2
    d1.emit (.word .ok v))

end Sys2Proof.Machine
end

