-- ==== Sys2Proof/Machine/Outputs.lean ====
section
/-! DEFINITION. The output stage of the field channels (spec/14_field_io.md, R457, R461, R462, R469): commands and terminals. -/

namespace Sys2Proof.Machine

open Sys2Proof

/-- The state of a field channel. -/
def Dev.dioCh (d : Dev) (k : Nat) : DioCh := tget d.dio.ch k {}

/-- The device with a field channel's state set. -/
def Dev.setDioCh (d : Dev) (k : Nat) (x : DioCh) : Dev := { d with dio := { d.dio with ch := tset d.dio.ch k x } }

/-- The state of a bank. -/
def Dev.dioBank (d : Dev) (b : Nat) : DioBank := tget d.dio.bank b {}

/-- The device with a bank's state set. -/
def Dev.setDioBank (d : Dev) (b : Nat) (x : DioBank) : Dev := { d with dio := { d.dio with bank := tset d.dio.bank b x } }

/-- R457: DIR of a channel: 0 INPUT, 1 OUTPUT, 2 UNUSED. -/
def Dev.dioDir (d : Dev) (k : Nat) : Nat := d.fld (R.DIO_CH_CFG k) F.DIO_CH_CFG.DIR

/-- The command of an output, whatever its source. -/
def Dev.dioCmd (d : Dev) (k : Nat) : Bool := bitAt (d.reg (R.DIO_OUT (k / 16))).toNat (k % 16)

/-- A channel is a safety output. -/
def Dev.dioSafety (d : Dev) (k : Nat) : Bool := d.bit (R.DIO_CH_CFG k) F.DIO_CH_CFG.SOUT

/-- R461, R464, R465, R468, R469, R470: whether an output is energised: at the level that the field side holds after a reset, at its SAFE
value, or at its command. -/
def Dev.dioEnergised (d : Dev) (k : Nat) : Bool :=
  let b := k / 16
  let st := R.DIO_BANK_STAT b
  let x := d.dioCh k
  let dark := match d.dio.pulse with
    | some (p, _) => p == k
    | none => false
  let want := if (d.dioBank b).holding then x.held
    else if d.bit st F.DIO_BANK_STAT.WDEXP || d.dio.allSafe then x.fout && (x.safe == 1 || (x.safe == 2 && x.held))
    else d.dioDir k == 1 && d.dioCmd k && (!d.dioSafety k || x.permit)
  want && !d.bit st F.DIO_BANK_STAT.BANKOFF && !d.bit st F.DIO_BANK_STAT.DISC && !x.hot && !x.latched && !dark

/-- An output's terminal follows; a change of level is put out. -/
def Dev.dioDrive (d : Dev) (k : Nat) : Dev :=
  let x := d.dioCh k
  let e := d.dioEnergised k
  if x.level == e then d else (d.setDioCh k { x with level := e }).emit (.signal "output" k (if e then 1 else 0))

/-- The outputs of a bank follow. -/
def Dev.dioDriveBank (d : Dev) (b : Nat) : Dev := d.each (List.range 16) (fun d i => d.dioDrive (16 * b + i))

/-- R470: every output goes to SAFE and every safety output is de-energised, for the unit as a whole; or that ends. -/
def Dev.dioAllSafe (d : Dev) (on : Bool) : Dev :=
  let d1 := if on && !d.dio.allSafe then d.each (List.range 64) (fun d k => d.setDioCh k { d.dioCh k with held := d.dioCmd k }) else d
  ({ d1 with dio := { d1.dio with allSafe := on } } : Dev).each [0, 1, 2, 3] (fun d b => d.dioDriveBank b)

/-- The field side without power: every output is off. -/
def Dev.outputsOff (d : Dev) : Dev :=
  d.each (List.range 64) (fun d k =>
    if (d.dioCh k).level then (d.setDioCh k { d.dioCh k with level := false }).emit (.signal "output" k 0) else d)

/-- R37: the CK_PER clock (200 MHz) in which the present CK_FAB clock lies. -/
def Dev.perClk (d : Dev) : Nat := 2 * d.clk / 5

/-- R461, R462, R374: a command reaches an output: a clear prevails over a set in the same CK_PER clock, and either ends a
running pulse. -/
def Dev.dioCommand (d : Dev) (k : Nat) (on : Bool) : Dev :=
  let x := d.dioCh k
  if on && x.clrPer == some d.perClk then d
  else
    let r := R.DIO_OUT (k / 16)
    let w := (d.reg r).toNat
    let w1 := if on then setBit w (k % 16) else clrBit w (k % 16)
    let y := { x with pulseEnd := none, clrPer := if on then x.clrPer else some d.perClk,
                      cmdNs := if w1 = w then x.cmdNs else d.ns, highRun := if w1 = w then x.highRun else 0 }
    ((d.setDioCh k y).setReg r (wN w1)).dioDrive k

/-- R458: the fabric delivers a value to a field output: bit 0 commands it. -/
def Dev.dioFabric (d : Dev) (cons : Nat) (val : Word) : Dev :=
  let k := cons % 64
  if d.dioDir k == 1 && d.fld (R.DIO_CH_CFG k) F.DIO_CH_CFG.SRC == 1 && !d.bit (R.DIO_BANK_STAT (k / 16)) F.DIO_BANK_STAT.BANKOFF then
    d.dioCommand k (val.toNat % 2 == 1)
  else d

end Sys2Proof.Machine
end

