-- ==== Sys2Proof/Machine/Objects.lean ====
section
/-! DEFINITION. The objects that the active image configures (R20 to R28), the fabric channels (R34, R172, R173), and the
reactions of an axis as one shared operation (R18, R19, R211, R213). -/

namespace Sys2Proof.Machine

open Sys2Proof

/-! ### Objects of the active image -/

/-- R147: an image other than the null image is active, and RWL fields are locked. -/
def Dev.commit (d : Dev) : Bool := d.bit R.FAB_IMG_STAT F.FAB_IMG_STAT.COMMIT

/-- The AXES record of an axis, if the image configures it. -/
def Dev.axisRec (d : Dev) (a : Nat) : Option AxisRec := d.img.axes.find? (fun r => r.axis == a)

/-- The SCHED record of a task. -/
def Dev.taskRec (d : Dev) (t : Nat) : Option TaskRec := d.img.tasks.find? (fun r => r.task == t)

/-- The TRACKS record of a track. -/
def Dev.trackRec (d : Dev) (k : Nat) : Option TrackRec := d.img.tracks.find? (fun r => r.track == k)

/-- The ARMS record of an arm. -/
def Dev.armRec (d : Dev) (m : Nat) : Option ArmRec := d.img.arms.find? (fun r => r.arm == m)

/-- The FABRIC record of a channel. -/
def Dev.chanRec (d : Dev) (c : Nat) : Option ChanRec := d.img.chans.find? (fun r => r.chan == c)

/-- The LINES slot record of a port's slot. -/
def Dev.slotRec (d : Dev) (p i : Nat) : Option SlotRec :=
  d.img.slots.find? (fun r => r.port == p && r.slot == i)

/-- The slot record of the node that hosts an endpoint. -/
def Dev.slotOfEp (d : Dev) (ep : Nat) : Option SlotRec :=
  d.img.slots.find? (fun r => decide (r.firstEp ≤ ep) && decide (ep < r.firstEp + r.epCount))

/-- Slots are kept under port × 6,144 + slot index. -/
def slotKey (p i : Nat) : Nat := p * 6144 + i % 6144

/-- The state of a slot beside LINE_SLOT_STAT. -/
def Dev.slot (d : Dev) (p i : Nat) : SlotSt := tget d.line.slots (slotKey p i) {}

/-- The endpoint of a JOINT or LINE axis (R128). -/
def AxisRec.ep (r : AxisRec) : Nat := r.bind % 131072

/-- The function index of a JOINT or LINE axis's endpoint (R128). -/
def AxisRec.fn (r : AxisRec) : Nat := (r.bind / 131072) % 16

/-- The drive input of a LOCAL axis within its connector, 0 to 3: its legs divided by three. -/
def AxisRec.drive (r : AxisRec) : Nat := ((r.bind / 8) % 16) / 3

/-- R27: whether the function index of an endpoint address matches the endpoint's position in its node. -/
def Dev.epFnOk (d : Dev) (ep fn : Nat) : Bool :=
  match d.slotOfEp ep with
  | some r => ep - r.firstEp == fn
  | none => false

/-- The axes bound to the endpoints of a port's slot. -/
def Dev.axesOfSlot (d : Dev) (p i : Nat) : List Nat :=
  match d.slotRec p i with
  | none => []
  | some r => (d.img.axes.filter (fun a => a.kind != 0 && decide (r.firstEp ≤ a.ep) &&
      decide (a.ep < r.firstEp + r.epCount))).map (·.axis)

/-- The axes bound to a port. -/
def Dev.axesOfPort (d : Dev) (p : Nat) : List Nat :=
  (d.img.axes.filter (fun a => a.kind != 0 &&
    (match d.slotOfEp a.ep with | some r => r.port == p | none => false))).map (·.axis)

/-- The position-level period code of an axis: the velocity level's where the cascade has no position level. -/
def AxisRec.period (r : AxisRec) : Nat := if r.kind == 2 then r.k else 2

/-- R191: the levels that a cascade runs, outermost first: 0 position, 1 velocity, 2 current. -/
def cascLevels : Nat → List Nat
  | 0 => [0, 1, 2]
  | 1 => [0, 1]
  | 2 => [0]
  | _ => [1]

/-- The cascade of an axis. -/
def Dev.casc (d : Dev) (a : Nat) : Nat := d.fld (R.AXIS_CFG a) F.AXIS_CFG.CASC

/-- The levels that an axis runs. -/
def Dev.levels (d : Dev) (a : Nat) : List Nat := cascLevels (d.casc a)

/-- The innermost level that an axis runs. -/
def Dev.innermost (d : Dev) (a : Nat) : Nat := (d.levels a).getLast?.getD 0

/-- The outermost level that an axis runs. -/
def Dev.outermost (d : Dev) (a : Nat) : Nat := (d.levels a).head?.getD 0

/-- R22, R192: the period code of a level. -/
def AxisRec.levelK (r : AxisRec) (lvl : Nat) : Nat := if r.kind == 0 then 2 - lvl else r.period

/-- R201: a level's timing class is A. -/
def Dev.classA (d : Dev) (a lvl : Nat) : Bool :=
  match lvl with
  | 0 => d.bit (R.AXIS_CFG a) F.AXIS_CFG.PCLS
  | 1 => d.bit (R.AXIS_CFG a) F.AXIS_CFG.VCLS
  | _ => d.bit (R.AXIS_CFG a) F.AXIS_CFG.CCLS

/-- The state of a level. -/
def AxisSt.level (x : AxisSt) (lvl : Nat) : LevelSt := tget x.levels lvl {}

/-- The axis's state with a level set. -/
def AxisSt.setLevel (x : AxisSt) (lvl : Nat) (l : LevelSt) : AxisSt := { x with levels := tset x.levels lvl l }

/-! ### Fabric channels -/

/-- The state of a channel. -/
def Dev.chanSt (d : Dev) (c : Nat) : ChanSt := tget d.engs.chan c {}

/-- The last completed value of a channel as a signed number. -/
def Dev.chanI (d : Dev) (c : Nat) : Int := (d.chanSt c).val.toInt

/-- R172: the kind of a consumer word. -/
def consKind (w : Nat) : Nat := w / 2 ^ 28

/-- The period code of a channel's producer: a hardware source has that of the base tick. -/
def Dev.producerK (d : Dev) (r : ChanRec) : Nat :=
  match d.taskRec r.producer with
  | some t => t.k
  | none => 0

/-- R32, R33: whether a reader of period code `k` takes a store by an instance released at `tick` of a producer of period code `pk`: a reader
of a period no longer than the producer's takes every store; one of a longer period only those of the producer's period that began with
its own. -/
def readerTakes (tick pk k : Nat) : Bool := decide (k ≤ pk) || isBoundary (tick / 2 ^ pk * 2 ^ pk) k

/-- R32, R33, R172: what a store latches for one consumer word of kind engine; `tick` is the base tick at which the instance that stored was
released. -/
def latchOne (tick pk : Nat) (val : Word) (key w : Nat) (l : Tab (Nat × Word)) : Tab (Nat × Word) :=
  if consKind w == 0 then
    let k := (w / 2 ^ 21) % 8
    if readerTakes tick pk k then tset l key (tick / 2 ^ k + 1, val) else l
  else l

/-- R34, R173: a channel is written whole, in its fabric form, and its consumers' latches follow, Sward's (R501) among them; `rel` is the base tick of the release of the instance
that stores it, the present one for a hardware source. -/
def Dev.chanStore (d : Dev) (c : Nat) (val : Word) (valid : Bool := true) (rel : Option Nat := none) : Dev :=
  match d.chanRec c with
  | none => d
  | some r =>
    let v := if r.fmt == 1 then val &&& 0xFFFF0000#32 else val
    let pk := d.producerK r
    let latch := (r.dst.zipIdx).foldl (fun l wi => latchOne (rel.getD d.time.tick) pk v (16 * c + wi.2) wi.1 l) d.engs.latch
    let d1 : Dev := { d with engs := { d.engs with
        chan := tset d.engs.chan c { val := v, valid := valid, fresh := true, ns := d.ns }, latch := latch }, cap := { d.cap with
        latch := if readerTakes (rel.getD d.time.tick) pk (d.fld R.CAP_CFG F.CAP_CFG.KPER) then tset d.cap.latch c v else d.cap.latch } }
    d1.each r.dst (fun d w => if consKind w == 5 then d.dioFabric w v else d)

/-- The channel loses or regains its validity without a new value. -/
def Dev.chanValid (d : Dev) (c : Nat) (valid : Bool) : Dev :=
  { d with engs := { d.engs with chan := tset d.engs.chan c { d.chanSt c with valid := valid } } }

/-- The channels of a source: SRCKIND and the value of SRC (R127). -/
def Dev.chansOf (d : Dev) (kind src : Nat) : List Nat :=
  (d.img.chans.filter (fun r => r.kind == kind && r.src == src)).map (·.chan)

/-- A hardware source delivers a value to every channel that names it. -/
def Dev.feed (d : Dev) (kind src : Nat) (val : Word) (valid : Bool := true) : Dev :=
  d.each (d.chansOf kind src) (fun d c => d.chanStore c val valid)

/-! ### Reactions of an axis -/

/-- R18: the rank of a reaction code of R222: NONE, WARN, CSTOP, QSTOP, STO. -/
def reactRank : Nat → Nat
  | 0 => 0 | 1 => 1 | 3 => 2 | 2 => 3 | 4 => 4 | _ => 0

/-- The state of an axis's loops. -/
def Dev.axSt (d : Dev) (a : Nat) : AxisSt := tget d.axs.axes a {}

/-- The device with the state of an axis's loops set. -/
def Dev.setAxSt (d : Dev) (a : Nat) (x : AxisSt) : Dev :=
  { d with axs := { d.axs with axes := tset d.axs.axes a x } }

/-- The device with the state of an axis's loops changed. -/
def Dev.updAxSt (d : Dev) (a : Nat) (f : AxisSt → AxisSt) : Dev := d.setAxSt a (f (d.axSt a))

/-- R211: every integrator, derivative, observer and output at zero. -/
def LevelSt.zeroed (l : LevelSt) : LevelSt := { sPos := l.sPos, sVel := l.sVel, sCur := l.sCur }

/-- R211: a filter slot's history at zero. -/
def FltSt.zeroed (f : FltSt) : FltSt := { f with x1 := 0, x2 := 0, y1 := 0, y2 := 0, preset := false }

/-- Outputs go to zero, and every integrator and filter state is preset to zero (R211). -/
def AxisSt.zeroed (x : AxisSt) : AxisSt :=
  { x with levels := x.levels.map (fun e => (e.1, e.2.zeroed)), flts := x.flts.map (fun e => (e.1, e.2.zeroed)),
           ramp := none, still := 0 }

/-- Whether every level's feedback of an axis is valid. -/
def Dev.fbValid (d : Dev) (a : Nat) : Bool := d.bit (R.AXIS_STAT a) F.AXIS_STAT.FBVALID

/-- The fabric channels that carry the output of a JOINT or LINE axis: downstream fields of its endpoint whose channel its
LAWTASK produces (R132, R191). -/
def Dev.outChans (d : Dev) (r : AxisRec) : List Nat :=
  ((d.img.io.filter (fun m => m.dir == 0 && m.ep == r.ep && m.fn == r.fn)).map (·.chan)).filter (fun c =>
    match d.chanRec c with
    | some k => k.producer == r.law
    | none => false)

/-- R211, R215: the outputs of an axis go to zero; on a JOINT or LINE axis the zero is stored for the next block (R204). -/
def Dev.outputsZero (d : Dev) (a : Nat) : Dev :=
  let d1 := d.updAxSt a AxisSt.zeroed
  match d1.axisRec a with
  | some r => if r.kind != 0 then d1.each (d1.outChans r) (fun d c => d.chanStore c 0#32) else d1
  | none => d1

/-- R173, R203, R204: a level's computed output reaches the fabric. One of class F whose take is over, or whose OUTPH is past, is discarded. -/
def Dev.levelStored (d : Dev) (r : AxisRec) (lvl rel : Nat) : Dev :=
  let x := d.axSt r.axis
  let l := x.level lvl
  let start := l.sampleNs.getD 0
  let gone := l.takeNs == some start || decide (start + 2 * d.fld (R.LVL_CFG r.axis lvl) F.LVL_CFG.OUTPH < d.ns)
  if !d.classA r.axis lvl && gone then d.setAxSt r.axis (x.setLevel lvl { l with pend := false, out := l.applied })
  else
    let d1 := d.setAxSt r.axis (x.setLevel lvl { l with pend := false, fresh := true, stored := l.out })
    if r.kind != 0 && d.innermost r.axis == lvl then d1.each (d1.outChans r) (fun d c => d.chanStore c (wI l.out) true (some rel)) else d1

/-- R173, R204: the outputs that an instance of a task, released at base tick `rel`, has computed reach the fabric at its end. -/
def Dev.lawStores (d : Dev) (task rel : Nat) : Dev :=
  d.each (d.img.axes.filter (fun r => r.law == task)) (fun d r =>
    d.each (((d.axSt r.axis).levels.filter (fun e => e.2.pend)).map (·.1)) (fun d l => d.levelStored r l rel))

/-- R179, R218: an aborted instance stores nothing, and its missing class F outputs count as no late ones. -/
def Dev.lawAborted (d : Dev) (task : Nat) : Dev :=
  d.each (d.img.axes.filter (fun r => r.law == task)) (fun d r =>
    d.updAxSt r.axis (fun x => { x with levels := x.levels.map (fun e =>
      (e.1, if e.2.pend then { e.2 with pend := false, out := e.2.stored, aborted := true } else e.2)) }))

/-- R419: whether an axis has a safe axis. -/
def Dev.hasSafeAxis (d : Dev) (a : Nat) : Bool := d.img.safety.any (fun r => uAt r 0 1 == 2 && uAt r 2 2 == a)

/-- R211: a reaction that is more severe than the one in progress takes its place. -/
def Dev.applyReaction (d : Dev) (a code cause : Nat) (pf : Bool) : Dev :=
  let r := R.AXIS_STAT a
  let d1 := ((((d.updAxSt a (fun x => { x with reactTick := some d.time.tick })).setFld r F.AXIS_STAT.REACT code).setFld r F.AXIS_STAT.CAUSE cause).setFld r F.AXIS_STAT.PFSTOP
    (if pf then 1 else 0)).evObj 0x6007 4 a [wN code, wN cause]
  if code == 4 then
    let d2 := (d1.outputsZero a).setFld r F.AXIS_STAT.STATE 6
    if !d2.hasSafeAxis a then d2
    else { d2 with axs := { d2.axs with stoReq := d2.axs.stoReq ++ [a] } }
  else
    let d2 := (d1.setFld r F.AXIS_STAT.STATE 4).updAxSt a (fun x =>
      { x with ramp := some x.vel, rampPos := x.pos, still := 0, manual := false })
    match d.axisRec a with
    | some rec_ =>
      if rec_.kind == 1 then
        let old := tget d2.axs.armReq rec_.arm (0, 0)
        if reactRank old.1 < reactRank code then
          { d2 with axs := { d2.axs with armReq := tset d2.axs.armReq rec_.arm (code, cause) } }
        else d2
      else d2
    | none => d2

/-- R18, R19, R211: a reaction of code `code` with cause `cause` falls due on an axis. A reaction of equal or lower
severity than the one in progress is logged and has no further effect; of equal ones in one sample the lowest cause is recorded (R213), a sample being what happens
in one base tick. On a LOCAL axis whose feedback is invalid, QSTOP and CSTOP are raised to STO. -/
def Dev.react (d : Dev) (a code cause : Nat) (pf : Bool := false) : Dev :=
  if !d.axEnabled a || code == 0 then d
  else if code == 1 then d.evObj 0x6007 4 a [wN code, wN cause]
  else
    let st := R.AXIS_STAT a
    let local_ : Bool := match d.axisRec a with
      | some r => r.kind == 0
      | none => false
    let c := if local_ && !d.fbValid a && code != 4 then 4 else code
    let now := reactRank (d.fld st F.AXIS_STAT.REACT)
    if now < reactRank c then d.applyReaction a c cause pf
    else
      let d1 := d.evObj 0x6007 4 a [wN c, wN cause]
      if now == reactRank c && !pf && (d.axSt a).reactTick == some d.time.tick && decide (cause < d.fld st F.AXIS_STAT.CAUSE) then
        d1.setFld st F.AXIS_STAT.CAUSE cause
      else d1

/-- R213: of several causes in one sample, the most severe reaction, and of equal ones the lowest cause. -/
def worstOf : List (Nat × Nat) → Option (Nat × Nat)
  | [] => none
  | x :: rest =>
    match worstOf rest with
    | none => some x
    | some y =>
      if reactRank y.1 < reactRank x.1 || (reactRank x.1 == reactRank y.1 && x.2 ≤ y.2) then some x else some y

/-- R213: the causes of one sample: the chosen one is applied. -/
def Dev.reactAll (d : Dev) (a : Nat) (l : List (Nat × Nat)) : Dev :=
  match worstOf l with
  | some (code, cause) => d.react a code cause
  | none => d

end Sys2Proof.Machine
end

