-- ==== Sys2Proof/Machine/Engine.lean ====
section
/-! DEFINITION. A control engine as a programmable machine (spec/05_control_engines.md): the bundle and its five slots,
contexts, results in flight, loops, faults, and the commands that issue a bundle, abort an instance and act on CE_CTL. -/

namespace Sys2Proof.Machine

open Sys2Proof

/-! ### Bundles -/

/-- Bits [hi:lo] of a bundle (R155). -/
def bf (w : BitVec 64) (hi lo : Nat) : Nat := (w.toNat / 2 ^ lo) % 2 ^ (hi - lo + 1)

/-- R168: the physical register of a logical one. -/
def Ctx.phys (c : Ctx) (k : Nat) : Nat := if k < 16 then k else 16 + (k - c.rrb) % 16

/-- A general register as it stands (R170). -/
def Ctx.get (c : Ctx) (k : Nat) : Word := tget c.g (c.phys k) 0

/-- A physical register written. -/
def Ctx.putP (c : Ctx) (p : Nat) (w : Word) : Ctx := { c with g := tset c.g p w }

/-- An accumulator. -/
def Ctx.accum (c : Ctx) (k : Nat) : Int := tget c.a k 0

/-- R170: at the start of a bundle the results that are due become visible, and the others come one bundle nearer. -/
def Ctx.land (c : Ctx) : Ctx :=
  let due := c.flight.filter (fun f => f.wait == 0)
  let later := (c.flight.filter (fun f => f.wait != 0)).map (fun f => { f with wait := f.wait - 1 })
  { due.foldl (fun x f => x.putP f.reg f.val) c with flight := later }

/-- R153: results still in flight are written into the state of the context that is left. -/
def Ctx.landAll (c : Ctx) : Ctx :=
  { c.flight.foldl (fun x f => x.putP f.reg f.val) c with flight := [] }

/-- R168: whether the loads of this iteration execute. -/
def Ctx.loadsRun (c : Ctx) : Bool :=
  match c.loops with
  | l :: _ => !l.rot || decide (l.iter < l.total - l.depth)
  | [] => true

/-- R168: whether the MAC and ALU slots and the stores of this iteration execute. -/
def Ctx.computeRuns (c : Ctx) : Bool :=
  match c.loops with
  | l :: _ => !l.rot || decide (l.depth ≤ l.iter)
  | [] => true

/-- R156, R157: whether the MAC slot holds a reserved encoding: a field that the operation does not use is not 0. -/
def macReserved (mop acc ga gb : Nat) : Bool :=
  match mop with
  | 0 => acc != 0 || ga != 0 || gb != 0
  | 9 => ga != 0 || gb != 0
  | 10 => gb != 0
  | 11 => ga != 0
  | 12 => decide (4 ≤ ga) || gb != 0
  | 13 => gb != 0
  | 14 => gb != 0
  | 15 => true
  | _ => false

/-- R155: whether a loop/branch operation takes IMM15. -/
def takesImm (lop : Nat) : Bool := lop == 1 || lop == 2 || lop == 4 || lop == 5 || lop == 6

/-- R156: reserved opcodes and the rule of FORM. -/
def bundleReserved (w : BitVec 64) : Bool :=
  macReserved (bf w 63 60) (bf w 59 58) (bf w 57 53) (bf w 52 48) ||
  (bf w 47 47 == 0 && bf w 46 42 == 0x1F) ||
  decide (5 ≤ bf w 31 29) || decide (5 ≤ bf w 19 17) || decide (10 ≤ bf w 7 4) ||
  (bf w 47 47 == 1) != takesImm (bf w 7 4)

/-- R178: the causes of an engine fault by name. -/
def causeIllegal : Nat := 1
/-- R178: program fetch. -/
def causePmem : Nat := 2
/-- R178: data access. -/
def causeMemRange : Nat := 3
/-- R178: symbols in error. -/
def causeEcc : Nat := 4
/-- R178: channel-out store by another task. -/
def causeBadChan : Nat := 5
/-- R178: loop count above its bound. -/
def causeLoopBound : Nat := 6
/-- R178: loop or call stack. -/
def causeStack : Nat := 7
/-- R178: jump table index. -/
def causeJtRange : Nat := 8
/-- R178: deadline abort. -/
def causeOverrun : Nat := 9
/-- R178: FAULT instruction. -/
def causeSwFault : Nat := 10

/-! ### Move slots -/

/-- What a move slot does: the register it loads with its value, the word it stores, the pointer update, and the fault
causes it raises. -/
structure MoveOut where
  load : Option (Nat × Word) := none
  store : Option (Nat × Word) := none
  ptr : Option (Nat × Word) := none
  causes : List Nat := []
  deriving DecidableEq, Repr

/-- R162, R163: a move slot: `op`, `reg`, the pointer register `p`, the mode; `mem` reads a word. -/
def moveSlot (c : Ctx) (mem : Nat → Word) (op reg p mode : Nat) : MoveOut :=
  let runs := if op == 1 || op == 2 then c.loadsRun else c.computeRuns
  if op == 0 || decide (5 ≤ op) || !runs then {}
  else
    let ptr := tget c.g p 0
    let upd := if mode == 0 then none else some (p, ptrNext mode ptr (tget c.modLen p 0))
    let a := ptr.toNat
    let half := op == 2 || op == 4
    let word := if half then a / 2 else a
    if decide (0x10000 ≤ word) then { causes := [causeMemRange] }
    else
      match op with
      | 1 => { load := some (c.phys reg, mem word), ptr := upd }
      | 2 =>
        let m := mem word
        let h := if a % 2 == 0 then m &&& 0xFFFF0000#32 else m <<< 16
        { load := some (c.phys reg, h), ptr := upd }
      | 3 => { store := some (word, c.get reg), ptr := upd }
      | _ =>
        let m := mem word
        let h := c.get reg >>> 16
        let v := if a % 2 == 0 then (m &&& 0x0000FFFF#32) ||| (h <<< 16) else (m &&& 0xFFFF0000#32) ||| h
        { store := some (word, v), ptr := upd }

/-! ### Loops and branches -/

/-- R166, R168: the next bundle after the one at `pc`, with the loops whose body ends there. -/
def seqNext (pc : Nat) : List HwLoop → Nat → Nat × List HwLoop × Nat
  | [], rrb => (pc + 1, [], rrb)
  | l :: rest, rrb =>
    if pc == l.stop then
      let r := if l.rot then (rrb + 1) % 16 else rrb
      if l.iter + 1 < l.total then (l.start, { l with iter := l.iter + 1 } :: rest, r) else seqNext pc rest r
    else (pc + 1, l :: rest, rrb)

/-- R167: the loops that a jump to a target does not leave. -/
def keepLoops (target : Nat) : List HwLoop → List HwLoop
  | [] => []
  | l :: rest => if decide (l.start ≤ target) && decide (target ≤ l.stop) then l :: rest else keepLoops target rest

/-- What the loop/branch slot does: where the engine continues, the loop and call stacks, RRB, the extra cycles of R171,
whether the instance ends, and the causes it raises. -/
structure FlowOut where
  pc : Nat
  loops : List HwLoop
  calls : List Nat
  rrb : Nat
  cost : Nat := 0
  ended : Bool := false
  causes : List Nat := []
  deriving DecidableEq, Repr

/-- R166 to R168: the start of a hardware loop of `count` iterations over `len` bundles with the options of COND. -/
def startLoop (c : Ctx) (count len cond : Nat) (f : FlowOut) : FlowOut :=
  let rot := bitAt cond 3
  let depth := cond % 4
  let inRot : Bool := match c.loops with
    | l :: _ => l.rot
    | [] => false
  if bitAt cond 2 || (!rot && depth != 0) || inRot then { f with causes := [causeIllegal] }
  else if decide (4 ≤ c.loops.length) then { f with causes := [causeStack] }
  else if count == 0 then
    let (pc, ls, r) := seqNext (c.pc + len) c.loops c.rrb
    { f with pc := pc, loops := ls, rrb := r }
  else
    { f with pc := c.pc + 1, rrb := if rot then 0 else c.rrb,
             loops := { start := c.pc + 1, stop := c.pc + len, total := count + depth, depth := depth, rot := rot }
               :: c.loops }

/-- R164 to R169: the loop/branch slot. `fetch` reads a program word. -/
def flowSlot (c : Ctx) (fetch : Nat → BitVec 64) (lop cond imm : Nat) : FlowOut :=
  let (npc, nls, nrrb) := seqNext c.pc c.loops c.rrb
  let dflt : FlowOut := { pc := npc, loops := nls, calls := c.calls, rrb := nrrb }
  let stay : FlowOut := { pc := c.pc, loops := c.loops, calls := c.calls, rrb := c.rrb }
  let holds := condHolds cond c.n c.z c.c c.v c.sat
  let atEnd := c.loops.any (fun l => l.stop == c.pc)
  if atEnd && !(lop == 0 || lop == 7 || lop == 8) then { stay with causes := [causeIllegal] }
  else
    match lop with
    | 1 => if holds then { stay with pc := imm, loops := keepLoops imm c.loops, cost := 2 } else dflt
    | 2 =>
      if !holds then dflt
      else if decide (8 ≤ c.calls.length) then { stay with causes := [causeStack] }
      else { stay with pc := imm, calls := (c.pc + 1) :: c.calls, cost := 2 }
    | 3 =>
      if !holds then dflt
      else match c.calls with
        | [] => { stay with causes := [causeStack] }
        | r :: rest => { stay with pc := r, calls := rest, cost := 2 }
    | 4 => startLoop c (imm / 64) (imm % 64 + 1) cond stay
    | 5 =>
      if bitAt imm 6 then { stay with causes := [causeIllegal] }
      else
        let count := (c.get (imm / 1024)).toNat
        let f := startLoop c count (imm % 64 + 1) cond stay
        if decide (4 ^ ((imm / 128) % 8 + 1) < count) then { stay with causes := causeLoopBound :: f.causes } else f
    | 6 =>
      let h := fetch imm
      let n := bf h 14 0
      if bf h 63 48 != 0x4A54 || n == 0 || decide (4096 < n) then { stay with causes := [causeIllegal] }
      else
        let i := (c.get cond).toNat
        if decide (n ≤ i) then { stay with causes := [causeJtRange] }
        else
          let t := bf (fetch (imm + 1 + i)) 14 0
          { stay with pc := t, loops := keepLoops t c.loops, cost := 3 }
    | 7 =>
      if !holds then dflt
      else match c.loops with
        | [] => dflt
        | l :: rest =>
          let (pc, ls, r) := seqNext l.stop rest c.rrb
          { stay with pc := pc, loops := ls, rrb := r }
    | 8 => if holds then { stay with loops := [], ended := true } else dflt
    | 9 => { stay with causes := [causeSwFault] }
    | _ => dflt

/-! ### One bundle -/

/-- The effect of a bundle that raises no fault: the context after it, the words it stores in X and Y, its extra cycles
and whether it ends the instance. -/
structure Issued where
  ctx : Ctx
  xst : Option (Nat × Word) := none
  yst : Option (Nat × Word) := none
  cost : Nat := 0
  ended : Bool := false
  deriving DecidableEq, Repr

/-- Whether a list of register numbers names one twice. -/
def dupIn : List Nat → Bool
  | [] => false
  | x :: rest => rest.contains x || dupIn rest

/-- The lowest of the causes raised (R178), none if there is none. -/
def lowestCause : List Nat → Option Nat
  | [] => none
  | x :: rest => match lowestCause rest with
    | none => some x
    | some y => some (min x y)

/-- The registers a flag-free ALU operation with state of its own acts on: MODL, SETSC, CLRSAT and RDTS (R161). -/
def aluState (aop rd imm : Nat) (rs ts : Word) (c : Ctx) : Ctx :=
  match aop with
  | 0x1B => { c with modLen := tset c.modLen rd (rs.toNat % 2 ^ 17) }
  | 0x1C => { c with scale := signed 5 imm }
  | 0x1D => { c with sat := false }
  | 0x1E => c.putP (c.phys rd) ts
  | _ => c

/-- R155 to R170: the five slots of a bundle execute together on a context whose due results have landed. `ts` is TS32 at
the issue, `owns` says whether the task is PRODUCER of a channel (R173). The answer is the lowest fault cause, or the
effect. -/
def runBundle (c : Ctx) (w : BitVec 64) (x y : Nat → Word) (fetch : Nat → BitVec 64) (ts : Word) (owns : Nat → Bool) :
    Nat ⊕ Issued :=
  let mop := bf w 63 60
  let acc := bf w 59 58
  let ga := bf w 57 53
  let gb := bf w 52 48
  let form := bf w 47 47
  let aop := if form == 1 then 0 else bf w 46 42
  let rd := bf w 41 37
  let rs := bf w 36 32
  let runs := c.computeRuns
  -- MAC slot
  let macAcc := runs && decide (1 ≤ mop) && decide (mop ≤ 12)
  let (macVal, macSat) := sat72 (macResult mop (c.accum acc) (c.accum (ga % 4)) (c.get ga) (c.get gb) gb)
  let (movVal, movSat) := if mop == 13 then movA (c.accum acc) c.scale else movAL (c.accum acc)
  let movRuns := runs && (mop == 13 || mop == 14)
  -- ALU slot
  let aluRuns := runs && aop != 0
  let al := if aluRuns then aluOp aop (c.get rd) (c.get rs) rs else {}
  let modlBad := aluRuns && aop == 0x1B && (decide (rd < 8) || decide (15 < rd) || decide (65536 < (c.get rs).toNat))
  -- moves
  let xm := moveSlot c x (bf w 31 29) (bf w 28 24) (8 + bf w 23 22) (bf w 21 20)
  let ym := moveSlot c y (bf w 19 17) (bf w 16 12) (12 + bf w 11 10) (bf w 9 8)
  let badChan := match ym.store with
    | some (a, _) => decide (0xF000 ≤ a) && !owns (a - 0xF000)
    | none => false
  -- loop/branch
  let fl := flowSlot c fetch (bf w 7 4) (bf w 3 0) (bf w 46 32)
  -- results due at the end of this clock, and at the end of the next
  let aluDst : List Nat := (if al.res.isSome then [c.phys rd] else []) ++
    (if aluRuns && aop == 0x1E then [c.phys rd] else [])
  let due0 := ((c.flight.filter (fun f => f.wait == 0)).map (·.reg)) ++ aluDst ++
    (xm.ptr.toList.map (·.1)) ++ (ym.ptr.toList.map (·.1))
  let due1 := (xm.load.toList.map (·.1)) ++ (ym.load.toList.map (·.1)) ++ (if movRuns then [c.phys ga] else [])
  let illegal := bundleReserved w || modlBad || dupIn due0 || dupIn due1
  let causes := (if illegal then [causeIllegal] else []) ++ xm.causes ++ ym.causes ++
    (if badChan then [causeBadChan] else []) ++ fl.causes
  match lowestCause causes with
  | some k => .inl k
  | none =>
    let c1 : Ctx := if macAcc then { c with a := tset c.a acc macVal, sat := c.sat || macSat } else c
    let c2 : Ctx := if movRuns then
        { c1 with sat := c1.sat || movSat, flight := c1.flight ++ [⟨c.phys ga, wI movVal, 1⟩] } else c1
    let c3 : Ctx := match al.res with
      | some r => c2.putP (c.phys rd) r
      | none => c2
    let c4 : Ctx := { c3 with n := al.n.getD c3.n, z := al.z.getD c3.z, c := al.c.getD c3.c, v := al.v.getD c3.v,
                              sat := c3.sat || al.sat }
    let c5 : Ctx := if aluRuns then aluState aop rd rs (c.get rs) ts c4 else c4
    let c6 : Ctx := (xm.ptr.toList ++ ym.ptr.toList).foldl (fun k u => k.putP u.1 u.2) c5
    let c7 : Ctx := { c6 with flight := c6.flight ++ (xm.load.toList ++ ym.load.toList).map (fun u => ⟨u.1, u.2, 1⟩) }
    .inr { ctx := { c7 with pc := fl.pc, loops := fl.loops, calls := fl.calls, rrb := fl.rrb },
           xst := xm.store, yst := ym.store, cost := fl.cost, ended := fl.ended }

/-! ### Instances, faults -/

/-- The state of an engine. -/
def Dev.eng (d : Dev) (e : Nat) : EngSt := tget d.engs.eng e {}

/-- The device with an engine's state set. -/
def Dev.setEng (d : Dev) (e : Nat) (x : EngSt) : Dev := { d with engs := { d.engs with eng := tset d.engs.eng e x } }

/-- A task's figures. -/
def Dev.tstat (d : Dev) (t : Nat) : TaskStat := tget d.engs.stat t {}

/-- The device with a task's figures changed. -/
def Dev.updStat (d : Dev) (t : Nat) (f : TaskStat → TaskStat) : Dev :=
  { d with engs := { d.engs with stat := tset d.engs.stat t (f (d.tstat t)) } }

/-- R189, R608: an engine is off, gated or retained in the present power state: all in P3 and P4, an idle one in P1 and P2. -/
def Dev.engineOff (d : Dev) (e : Nat) : Bool :=
  decide (3 ≤ d.pstate) || (decide (1 ≤ d.pstate) && !(d.img.tasks.any (fun t => t.engine == e && t.ctx != 0)))

/-- R175: whether one pending instance goes before another: by context, one that has begun first, then by ORDER. -/
def instBefore (a b : Inst) : Bool :=
  decide (b.ctx < a.ctx) || (a.ctx == b.ctx && ((a.begun && !b.begun) || (a.begun == b.begun && decide (a.order ≤ b.order))))

/-- R175: the instance an engine runs. -/
def pickInst : List Inst → Option Inst
  | [] => none
  | x :: rest => match pickInst rest with
    | none => some x
    | some y => if instBefore x y then some x else some y

/-- The axes whose LAWTASK a task is. -/
def Dev.axesOfTask (d : Dev) (t : Nat) : List Nat := (d.img.axes.filter (fun a => a.law == t)).map (·.axis)

/-- R138, R177: a release that is dropped is counted as an overrun and logged. -/
def Dev.dropRelease (d : Dev) (e t : Nat) : Dev :=
  ((d.inc (R.CE_CNT_OVR e)).updStat t (fun x => { x with ovr := min (x.ovr + 1) 65535 })).evObj 0x4002 4 e [wN t, 0]

/-- R179 step 2: the first fault since VALID was cleared is recorded. -/
def Dev.recordFault (d : Dev) (e cause ctx task pc : Nat) : Dev :=
  let r := R.CE_FAULT e
  if d.bit r F.CE_FAULT.VALID then d
  else
    let d1 := (((d.setFld r F.CE_FAULT.CAUSE cause).setFld r F.CE_FAULT.CTX ctx).setFld r F.CE_FAULT.TASK task).setW1c r
      F.CE_FAULT.VALID
    (d1.setReg (R.CE_FAULT_PC e) (wN (pc % 32768))).setReg (R.CE_FAULT_TIME e) d.ts

/-- The fault-context task that entry runs: the first in ORDER (R180). -/
def Dev.faultTask (d : Dev) (e : Nat) : Option TaskRec :=
  (d.img.tasks.filter (fun t => t.engine == e && t.ctx == 2)).foldl
    (fun best t => match best with
      | none => some t
      | some b => if t.order < b.order then some t else some b) none

/-- R179: whether the engine has entered the fault context in the last 128 base ticks. -/
def Dev.fblock (d : Dev) (e : Nat) : Bool :=
  match (d.eng e).entryTick with
  | none => false
  | some t => decide (d.time.tick < t + 128)

/-- R180: entry of the fault context with the cause, task, address and time in G0 to G3. -/
def Dev.enterFault (d : Dev) (e cause task pc : Nat) : Dev :=
  match d.faultTask e with
  | none => d.evObj 0x4005 4 e [wN cause, wN task]
  | some ft =>
    if d.fblock e then d.evObj 0x4005 4 e [wN cause, wN task]
    else
      let x := d.eng e
      let c0 := tget x.ctxs 2 {}
      let c := (((c0.putP 0 (wN cause)).putP 1 (wN task)).putP 2 (wN pc)).putP 3 d.ts
      let i : Inst := { task := ft.task, ctx := 2, order := ft.order, release := d.ns }
      d.setEng e { x with ctxs := tset x.ctxs 2 c, insts := i :: x.insts, entryTick := some d.time.tick }

/-- R181, R210: three consecutive aborts of a cyclic task suspend it, and its axes take STO. -/
def Dev.countAbort (d : Dev) (e : Nat) (i : Inst) (ovr : Bool) : Dev :=
  let st := d.tstat i.task
  let n := if i.ctx == 1 then st.aborts + 1 else 0
  let susp := i.ctx == 1 && decide (3 ≤ n)
  let d1 := d.updStat i.task (fun x => { x with
    aborts := n, suspended := x.suspended || susp,
    faults := if ovr then x.faults else min (x.faults + 1) 65535,
    ovr := if ovr then min (x.ovr + 1) 65535 else x.ovr })
  if susp && !st.suspended then
    (d1.evObj 0x4004 5 e [wN i.task]).each (d.axesOfTask i.task) (fun d a => d.react a 4 4)
  else d1

/-- R179: an engine fault of an instance: it is aborted, recorded and logged, its axes take ENGREACT, and the fault
context is entered if it may be. A fault inside the fault context ends its task, counts among the task's own figures, and causes no new entry (R180). -/
def Dev.engFault (d : Dev) (e : Nat) (i : Inst) (cause pc : Nat) : Dev :=
  let x := d.eng e
  let d1 := (d.setEng e { x with insts := x.insts.filter (fun j => !(j.task == i.task && j.ctx == i.ctx)) }).lawAborted i.task
  let d2 := d1.recordFault e cause i.ctx i.task pc
  let ovr := cause == causeOverrun
  let d3 := if ovr then (d2.inc (R.CE_CNT_OVR e)).evObj 0x4002 4 e [wN i.task, 1]
    else (d2.inc (R.CE_CNT_FAULT e)).evObj 0x4001 5 e [wN cause, wN i.ctx, wN i.task, wN pc]
  if i.ctx == 2 then d3.countAbort e i ovr
  else
    let d4 := d3.each (d.axesOfTask i.task) (fun d a => d.react a (d.fld (R.AXIS_REACT a) F.AXIS_REACT.ENGREACT) 4)
    (d4.countAbort e i ovr).enterFault e cause i.task pc

/-! ### Issue -/

/-- R154: the context at the dispatch of a task. -/
def Ctx.dispatch (c : Ctx) (entry : Nat) : Ctx :=
  { c with pc := entry, rrb := 0, scale := 0, n := false, z := false, c := false, v := false, sat := false, loops := [],
           calls := [] }

/-- R182: the 256-bit block of a data word set to zero. -/
def zeroBlock (m : Tab Word) (a : Nat) : Tab Word := m.filter (fun e => e.1 / 8 != a / 8)

/-- R182: a double error in X or Y zeroes its block; words of a PARAMS region come back at its next commit. -/
def Dev.eccDouble (d : Dev) (e mem a : Nat) : Dev :=
  let x := d.eng e
  let y := if mem == 1 then { x with xmem := zeroBlock x.xmem a } else if mem == 2 then
    { x with ymem := zeroBlock x.ymem a } else x
  let words := (List.range 8).map (fun j => a / 8 * 8 + j)
  let img (w : Nat) : Word :=
    match d.img.eng.find? (fun r => r.engine == e) with
    | some r => wN (uAt (if mem == 1 then r.xmem else r.ymem) (4 * w) 4)
    | none => 0
  let back := words.filterMap (fun w =>
    if d.img.params.any (fun p => p.engine == e && p.mem + 1 == mem && decide (p.addr ≤ w) && decide (w < p.addr + p.len / 4))
    then
      match d.loader.shadow.find? (fun s => s.1 == e && s.2.1 + 1 == mem && s.2.2.1 == w) with
      | some s => some (e, mem - 1, w, s.2.2.2)
      | none => some (e, mem - 1, w, img w)
    else none)
  { d.setEng e y with loader := { d.loader with pendingParams := d.loader.pendingParams ++ back } }

/-- The task is the PRODUCER of a channel (R173). -/
def Dev.owns (d : Dev) (task c : Nat) : Bool :=
  match d.chanRec c with
  | some r => r.kind == 2 && r.producer == task
  | none => false

/-- END of an instance: its outputs stand in the fabric (R173), its figures, and the completion that releases the tasks that depend on it (R126,
R187). -/
def Dev.endInst (d : Dev) (e : Nat) (i : Inst) : Dev :=
  let x := d.eng e
  let d1 := (d.setEng e { x with insts := x.insts.filter (fun j => !(j.task == i.task && j.ctx == i.ctx)) }).lawStores i.task (i.release / 31250)
  d1.updStat i.task (fun s => { s with
    maxCyc := max s.maxCyc i.cycles, maxFin := max s.maxFin (d.ns - i.release), aborts := 0, doneNs := some d.ns })

/-- R171: a store to the channel-out window meets the engine's fabric queue of 16 entries: the cycles that it stalls, and the queue after it. An entry leaves
within 256 ns (R173); the spec does not say when in that time (Config.fabricNs). -/
def Dev.fabricPut (d : Dev) (e : Nat) : Nat × List Nat :=
  let q := (d.eng e).fq.filter (fun t => decide (d.ns < t))
  let stall := if decide (16 ≤ q.length) then q.headD 0 - d.ns else 0
  let at_ := d.ns + stall
  let left := q.filter (fun t => decide (at_ < t))
  (stall, left ++ [max (left.getLast?.getD 0) (at_ + Config.fabricNs d.fresh % 257)])

/-- R171: a read corrects a single-symbol error: counted and logged, with its stall. -/
def Dev.eccSingle (d : Dev) (e m a : Nat) : Dev :=
  (((d.inc (R.CE_CNT_ECC e)).bump (R.CE_CNT_STALL e) wholeF 2)).evObj 0x4003 1 e [wN m, wN a]

/-- The bundle address at which a task starts (R126). -/
def Dev.entryOf (d : Dev) (task : Nat) : Nat :=
  match d.taskRec task with
  | some t => t.entry / 8
  | none => 0

/-- R153: leaving a context for context `k` lands its results. -/
def EngSt.ctxsFor (x : EngSt) (k : Nat) : Tab Ctx := if x.cur == k then x.ctxs else tset x.ctxs x.cur (tget x.ctxs x.cur {}).landAll

/-- R153, R154, R170: the context in which the next bundle of an instance executes. -/
def Dev.issueCtx (d : Dev) (e : Nat) (i : Inst) : Ctx :=
  let c := tget ((d.eng e).ctxsFor i.ctx) i.ctx {}
  (if i.begun then c else c.landAll.dispatch (d.entryOf i.task)).land

/-- The bundle at an address of an engine's program. -/
def EngSt.fetch (x : EngSt) (a : Nat) : BitVec 64 := if a < x.plen then tget x.prog a 0 else 0

/-- R155: what the next bundle of an instance does: the lowest cause of a fault, or its effect. -/
def Dev.nextBundle (d : Dev) (e : Nat) (i : Inst) : Nat ⊕ Issued :=
  let x := d.eng e
  let c := d.issueCtx e i
  runBundle c (x.fetch c.pc) (fun a => tget x.xmem a 0) (fun a => tget x.ymem a 0) x.fetch d.ts (d.owns i.task)

/-- The channel that a bundle stores to, with the value (R173). -/
def Issued.chanOut (u : Issued) : Option (Nat × Word) :=
  match u.yst with
  | some (a, v) => if 0xF000 ≤ a then some (a - 0xF000, v) else none
  | none => none

/-- R171: the cycles that a bundle takes, `corr` where a read of it is corrected. -/
def Dev.bundleCycles (d : Dev) (e : Nat) (u : Issued) (corr : Bool) : Nat :=
  1 + u.cost + (if u.chanOut.isSome then (d.fabricPut e).1 else 0) + (if corr then 2 else 0)

/-- R155: an engine issues one bundle of the instance that R175 picks. `err` is a memory error that its reads meet:
memory (0 program, 1 X, 2 Y), word address and whether two or more symbols are in error (R171, R178, R182). -/
def Dev.issue (d : Dev) (e : Nat) (err : Option (Nat × Nat × Bool)) : Dev :=
  let x := d.eng e
  match pickInst x.insts with
  | none => d
  | some i0 =>
    let i : Inst := { i0 with begun := true }
    let ctxs := x.ctxsFor i.ctx
    let c := d.issueCtx e i0
    if decide (x.plen ≤ c.pc) then
      (d.setEng e { x with ctxs := tset ctxs i.ctx c, cur := i.ctx }).engFault e i causePmem c.pc
    else
      let y0 : EngSt := { x with ctxs := tset ctxs i.ctx c, cur := i.ctx }
      let kept := d.setEng e y0
      match d.nextBundle e i0, err with
      | .inl k, none => kept.engFault e i k c.pc
      | .inl k, some (m, a, false) => (kept.eccSingle e m a).engFault e i k c.pc
      | .inl k, some (m, a, true) => (kept.eccDouble e m a).engFault e i (min k causeEcc) c.pc
      | .inr _, some (m, a, true) => (kept.eccDouble e m a).engFault e i causeEcc c.pc
      | .inr u, _ =>
        let out := u.chanOut
        let put : Nat × List Nat := if out.isSome then d.fabricPut e else (0, x.fq)
        let cyc := d.bundleCycles e u err.isSome
        let i1 : Inst := { i with cycles := i.cycles + cyc }
        let y : EngSt := { x with
          ctxs := tset ctxs i.ctx u.ctx, cur := i.ctx, busy := x.busy + cyc, fq := put.2,
          xmem := (match u.xst with | some (a, v) => tset x.xmem a v | none => x.xmem),
          ymem := (match u.yst with | some (a, v) => tset x.ymem a v | none => x.ymem),
          insts := i1 :: x.insts.filter (fun j => !(j.task == i.task && j.ctx == i.ctx)) }
        let d1 := d.setEng e y
        let d2 := match err with
          | some (m, a, _) => d1.eccSingle e m a
          | none => d1
        let d3 := match out with
          | some (ch, v) =>
            (({ d2 with fresh := d2.fresh + 1 } : Dev).when (put.1 != 0) (fun d => d.bump (R.CE_CNT_STALL e) wholeF put.1)).chanStore ch v true
              (some (i.release / 31250))
          | none => d2
        if u.ended then d3.endInst e i1 else d3

/-- R177: a cyclic instance that has not executed END by release + DEADLINE is aborted as an overrun. The fault context's
deadline runs from its entry (R180); a background instance is not aborted. -/
def Dev.deadline (d : Dev) (t : Nat) : Dev :=
  match d.taskRec t with
  | none => d
  | some r =>
    match (d.eng r.engine).insts.find? (fun i => i.task == t) with
    | some i =>
      if i.ctx != 0 && decide (i.release + r.deadline ≤ d.ns) then
        d.engFault r.engine i causeOverrun (tget (d.eng r.engine).ctxs i.ctx {}).pc
      else d
    | none => d

/-- R184: CLRMAX clears CE_UTIL.MAXPM and the per-task maxima of the engine's tasks. -/
def Dev.ceClrMax (d : Dev) (e : Nat) : Dev :=
  (d.setFld (R.CE_UTIL e) F.CE_UTIL.MAXPM 0).each (d.img.tasks.filter (fun t => t.engine == e)) (fun d t =>
    d.updStat t.task (fun s => { s with maxCyc := 0, maxFin := 0 }))

/-- R184: RESUME releases the tasks suspended under R181 from their next period. -/
def Dev.ceResume (d : Dev) (e : Nat) : Dev :=
  d.each (d.img.tasks.filter (fun t => t.engine == e)) (fun d t =>
    if (d.tstat t.task).suspended then d.updStat t.task (fun s => { s with suspended := false, aborts := 0 }) else d)

/-! ### Commands -/

/-- R190: a debug halt stops an engine at a bundle boundary. -/
def Dev.haltEngine (d : Dev) (e : Nat) : Dev :=
  if (d.eng e).halted then d else (d.setEng e { d.eng e with halted := true }).evObj 0x4006 3 e [1]

/-- R190: an engine resumes. -/
def Dev.resumeEngine (d : Dev) (e : Nat) : Dev :=
  if (d.eng e).halted then (d.setEng e { d.eng e with halted := false, pass := true }).evObj 0x4006 3 e [0] else d

/-- BUNDLE_ISSUE (R155). A halted engine issues nothing (R190), nor does one that is off, gated or retained (R189). An engine whose next bundle has a breakpoint set by a debug
session halts there (R604). -/
def execBundleIssue (e : Nat) (err : Option (Nat × Nat × Bool)) (s : State) : Host.Outcome State Fault Refusal :=
  s.runIf (decide (e < 16)) (fun d =>
    let x := d.eng e
    if x.halted || d.engineOff e then d
    else
      let here := match pickInst x.insts with
        | some i => if i.begun then some (tget x.ctxs i.ctx {}).pc else
            (match d.taskRec i.task with | some t => some (t.entry / 8) | none => none)
        | none => none
      match here with
      | some pc =>
        if x.breaks.contains pc && !x.pass then d.haltEngine e
        else (d.setEng e { x with pass := false }).issue e err
      | none => d)

/-- TASK_DEADLINE (R177). -/
def execTaskDeadline (t : Nat) (s : State) : Host.Outcome State Fault Refusal :=
  s.runIf (decide (t < 4096)) (fun d => d.deadline t)

end Sys2Proof.Machine
end

