-- ==== Sys2Proof/Machine/Loops.lean ====
section
/-! DEFINITION. The control loops of an axis (spec/06_control_loops.md): laws, filters, observers, supervision and
plausibility, and the release of a task (R145, R172, R175). -/

namespace Sys2Proof.Machine

open Sys2Proof

/-! ### Gains -/

/-- The parameters of a level as they stand at the release (R194, R224). -/
structure LevelPar where
  law : Nat
  shift : Int
  ffShift : Int
  obs : Nat
  kp : Int
  ki : Int
  kd : Int
  ilim : Int
  dpole : Int
  olim : Int
  ffa : Int
  ffb : Int
  l1 : Int
  l2 : Int
  jinv : Int
  deriving DecidableEq, Repr

/-- The parameters of a level, with the bank that AXIS_CTL.BANK selects (R194). -/
def Dev.levelPar (d : Dev) (a lvl : Nat) : LevelPar :=
  let b1 := d.bit (R.AXIS_CTL a) F.AXIS_CTL.BANK
  let c := R.LVL_CFG a lvl
  { law := d.fld c F.LVL_CFG.LAW, shift := d.fldI c F.LVL_CFG.SHIFT, ffShift := d.fldI c F.LVL_CFG.FFSHIFT,
    obs := d.fld c F.LVL_CFG.OBS,
    kp := if b1 then d.regI (R.LVL_KP1 a lvl) else d.regI (R.LVL_KP0 a lvl),
    ki := if b1 then d.regI (R.LVL_KI1 a lvl) else d.regI (R.LVL_KI0 a lvl),
    kd := if b1 then d.regI (R.LVL_KD1 a lvl) else d.regI (R.LVL_KD0 a lvl),
    ilim := if b1 then d.regI (R.LVL_ILIM1 a lvl) else d.regI (R.LVL_ILIM0 a lvl),
    dpole := d.regI (R.LVL_DPOLE a lvl), olim := d.regI (R.LVL_OLIM a lvl),
    ffa := d.regI (R.LVL_FFA a lvl), ffb := d.regI (R.LVL_FFB a lvl),
    l1 := d.regI (R.LVL_OBS_L1 a lvl), l2 := d.regI (R.LVL_OBS_L2 a lvl), jinv := d.regI (R.LVL_OBS_JINV a lvl) }

/-! ### Filters (R198, R199) -/

/-- R198: one sample of a direct-form I biquad with coefficients stored halved, truncated and saturated under R160. -/
def FltSt.run (f : FltSt) (x : Int) : Int × FltSt :=
  let y := scaled (f.b0 * x + f.b1 * f.x1 + f.b2 * f.x2 - f.a1 * f.y1 - f.a2 * f.y2) (1 - 31)
  (y, { f with x2 := f.x1, x1 := x, y2 := f.y1, y1 := y })

/-- R199: a waiting commit takes effect; the history is preset at the slot's next input. -/
def FltSt.take (f : FltSt) : FltSt :=
  match f.next with
  | none => f
  | some (kind, level, cs) =>
    { kind := kind, level := level, b0 := cs.getD 0 0, b1 := cs.getD 1 0, b2 := cs.getD 2 0, a1 := cs.getD 3 0, a2 := cs.getD 4 0,
      preset := true }

/-- R199: the history of a slot just committed is preset to the steady state for its present input, scaled by the new DC gain. -/
def FltSt.enter (f : FltSt) (x : Int) : FltSt :=
  if !f.preset then f
  else
    let den := 2 ^ 31 + 2 * f.a1 + 2 * f.a2
    let y := if den = 0 then Config.divByZero x else sat32 (2 * (f.b0 + f.b1 + f.b2) * x / den)
    { f with x1 := x, x2 := x, y1 := y, y2 := y, preset := false }

/-- R198: the filter chain of a level: the slots of that level in index order, from slot `s` on. -/
def chain (lvl : Nat) : List Nat → Tab FltSt → Int → Int × Tab FltSt
  | [], t, x => (x, t)
  | s :: rest, t, x =>
    let f := tget t s {}
    if f.kind != 0 && f.level == lvl then
      let (y, f1) := (f.enter x).run x
      chain lvl rest (tset t s f1) y
    else chain lvl rest t x

/-! ### One sample of a level (R195) -/

/-- The Q31 fraction of a count rate: the full scale is the image's (Config.fullScale). -/
def toFs (x : Int) (fs : Nat) : Int := if fs = 0 then Config.divByZero x else sat32 (x * 2 ^ 31 / fs)

/-- The inputs of a level's sample: set-point, feedback, feedforward inputs, and for a position level the full scale of its error (R193). -/
structure LevelIn where
  sp : Int
  fb : Int
  ffa : Int := 0
  ffb : Int := 0
  posFs : Option Nat := none
  vel : Int := 0
  manual : Bool := false
  manVal : Int := 0
  manSlew : Int := 0
  pos : Int := 0
  kpv : Int := 0
  deriving DecidableEq, Repr

/-- R193: the difference of two signals of a level: on the position level the signed 32-bit wrapping difference as a fraction of the full scale of the
position error. -/
def LevelIn.diff (u : LevelIn) (a b : Int) : Int :=
  match u.posFs with
  | some fs => toFs (wrapI 32 (a - b)) fs
  | none => a - b

/-- What a level's sample answers: its state, the filter slots, whether a preset was clamped, and the error. -/
structure LevelOut where
  lvl : LevelSt
  flts : Tab FltSt
  bump : Bool := false
  err : Int := 0
  deriving DecidableEq, Repr

/-- R194: whether a law has an integrator. -/
def hasI (law : Nat) : Bool := law == 2 || law == 3 || law == 4

/-- R200: the observer's prediction step: the estimate of velocity, the load torque estimate and the predictions. -/
def observe (p : LevelPar) (l : LevelSt) (pos kpv : Int) : Int × Int × LevelSt :=
  let err := wrapI 32 (pos - l.pPred)
  let pEst := wrapI 32 (l.pPred + scaled (p.l1 * err) (-31))
  let vEst := sat32 (l.vPred + scaled (p.l2 * err) (-31))
  let load := if p.jinv = 0 then Config.divByZero (vEst - l.vPred) else sat32 ((vEst - l.vPred) * 2 ^ 31 / p.jinv)
  let pPred := wrapI 32 (pEst + scaled (kpv * vEst) (-31))
  let vPred := sat32 (vEst + scaled (p.jinv * l.out) (-31))
  (vEst, load, { l with pPred := pPred, vPred := vPred })

/-- R195, R216, R217: one sample of a level. -/
def levelSample (p : LevelPar) (lvl : Nat) (l0 : LevelSt) (flts : Tab FltSt) (u : LevelIn) : LevelOut :=
  if p.law == 0 && !u.manual then
    { lvl := { l0 with
      out := u.sp, pend := true, law := 0, transfer := false, fbPrev := some u.fb, osat := false, isat := false }, flts := flts,
      err := sat32 (u.diff u.sp u.fb) }
  else
    let (vEst, load, l) := if p.obs != 0 then observe p l0 u.pos u.kpv else (0, 0, l0)
    let fb := if p.obs == 1 then vEst else u.fb
    let ePos := sat32 (u.diff u.sp fb)
    let ffSum := scaled (p.ffa * u.ffa + p.ffb * u.ffb) (p.ffShift - 31)
    -- R194: PIV forms v* first
    let piv := p.law == 4
    let e := if piv then sat32 (sat32 (scaled (p.kp * ePos) (-31) + ffSum) - u.vel) else ePos
    let d := if p.law == 3 then scaled (p.dpole * l.d - (2 ^ 31 - p.dpole) * u.diff fb (l.fbPrev.getD fb)) (-31) else l.d
    let prop := if piv then p.kd * e else p.kp * e + (if p.law == 3 then p.kd * d else 0)
    let want := l.law - prop / 2 ^ 31
    let i0 := if l.transfer && hasI p.law then clampI (-p.ilim) p.ilim want else l.i
    let bump := l.transfer && hasI p.law && i0 != want
    let sum := prop + (if hasI p.law then i0 * 2 ^ 31 else 0)
    let lawOut := scaled sum (p.shift - 31)
    let x := sat32 (lawOut + (if piv then 0 else ffSum))
    let atLim (i : Int) : Bool := hasI p.law && (i == p.ilim || i == -p.ilim)
    if u.manual then
      let out := if u.manVal < l.out - u.manSlew then l.out - u.manSlew
        else if l.out + u.manSlew < u.manVal then l.out + u.manSlew else u.manVal
      let (_, f1) := chain lvl (List.range 8) flts out
      let inv := if 0 ≤ p.shift then out / 2 ^ p.shift.toNat else out * 2 ^ (-p.shift).toNat
      let i := clampI (-p.ilim) p.ilim (inv - prop / 2 ^ 31)
      { lvl := { l with
          i := i, d := d, out := out, pend := true, law := inv, fbPrev := some fb, transfer := false, osat := false, isat := atLim i },
        flts := f1, err := e }
    else
      let (y0, f1) := chain lvl (List.range 8) flts x
      let y := if p.obs == 2 then sat32 (y0 + load) else y0
      let out := clampI (-p.olim) p.olim y
      let hold := out != y && (decide (0 < e) == decide (0 < y)) && (decide (e < 0) == decide (y < 0))
      let i1 := if hasI p.law && !hold then clampI (-p.ilim) p.ilim (i0 + scaled (p.ki * e) (-31)) else i0
      { lvl := { l with
          i := i1, d := d, out := out, pend := true, law := sum / 2 ^ 31, fbPrev := some fb, transfer := false, osat := out != y,
          isat := atLim i1 },
        flts := f1, bump := bump, err := if piv then ePos else e }

/-! ### The loops of an axis in one release -/

/-- R247, R248: the current feedback of a LOCAL axis: the channels of its three legs and the bus voltage of its connector are
enabled and not lost. -/
def Dev.currentOk (d : Dev) (r : AxisRec) : Bool :=
  let c := r.conn
  let f := r.leg - 12 * c
  ([f, f + 1, f + 2, 12].all (fun j => d.bit (R.SD_CFG c j) F.SD_CFG.EN && !d.bit (R.SD_CFG c j) F.SD_CFG.LOSS))

/-- R183, R206: the feedback of every level of an axis: its channel is valid, the currents of a LOCAL axis are, and its
endpoint does not carry STALE. -/
def Dev.fbNow (d : Dev) (a : Nat) : Bool :=
  match d.axisRec a with
  | none => false
  | some r =>
    let stale := r.kind != 0 && (match d.slotOfEp r.ep with
      | some s => d.bit (R.LINE_SLOT_STAT s.port s.slot) F.LINE_SLOT_STAT.STALE
      | none => true)
    (d.chanSt r.fb).valid && !stale && (r.kind != 0 || d.currentOk r)

/-- R205: the delay of a level's output is reported. -/
def Dev.reportDelay (d : Dev) (a lvl ns : Nat) : Dev :=
  let d1 := match lvl with
    | 0 => d.setReg (R.AXIS_DLY_P a) (wN ns)
    | 1 => d.setReg (R.AXIS_DLY_V a) (wN ns)
    | _ => d.setReg (R.AXIS_DLY_C a) (wN ns)
  if d.classA a lvl then d1.maxReg (R.AXIS_DLYMAX a) ns else d1

/-- R193: the set-point of a level: the axis's own for the outermost one, else the output of the level above: as its destination holds it on a
LOCAL axis (R202, R204), and as the same instance computed it on a JOINT or LINE axis (R192). -/
def Dev.levelSp (d : Dev) (r : AxisRec) (lvl : Nat) (x : AxisSt) : Int :=
  let a := r.axis
  if lvl == 0 then wrapI 32 x.sp
  else if !(d.levels a).contains (lvl - 1) then x.spVel
  else
    let up := x.level (lvl - 1)
    if r.kind != 0 then up.out else if d.classA a (lvl - 1) then up.stored else up.applied

/-- R29: the start of the period of code `k` that this base tick lies in. -/
def Dev.periodStart (d : Dev) (k : Nat) : Nat := d.time.tick / 2 ^ k * 2 ^ k * 31250

/-- R205: a level takes up the class A output of the level above: the delay of that output is reported, from its period start to
this release. -/
def Dev.takeAbove (d : Dev) (r : AxisRec) (lvl : Nat) : Dev :=
  let a := r.axis
  if lvl == 0 || !(d.levels a).contains (lvl - 1) || !d.classA a (lvl - 1) then d
  else
    let x := d.axSt a
    let l := x.level (lvl - 1)
    let shown (d : Dev) : Dev := d.reportDelay a (lvl - 1) (d.time.tick * 31250 - l.sampleNs.getD 0)
    if r.kind != 0 then shown d
    else if l.fresh then shown (d.setAxSt a (x.setLevel (lvl - 1) { l with fresh := false }))
    else d

/-- R211: the change of the innermost output in a period of `ns` while a stop ramp is applied open loop: the rate of AXIS_QDEC, and for CSTOP the
deceleration limit of the axis's profile where it has one (R291). -/
def Dev.openRamp (d : Dev) (a ns : Nat) : Int :=
  let dmax := (d.reg (R.AXIS_MOT_DMAX a)).toNat
  if d.fld (R.AXIS_STAT a) F.AXIS_STAT.REACT == 3 && dmax != 0 then
    toFs ((dmax * ns : Nat) / 1000000000 : Nat) (Config.fullScale a 0)
  else d.regI (R.AXIS_QDEC a) * ns / 1000000

/-- R205: the sample instant of a level's output: the cycle start of the slot that carried the feedback of a remote output, else the start of the
level's period. -/
def Dev.sampleInstant (d : Dev) (r : AxisRec) (lvl : Nat) : Nat :=
  match (if r.kind != 0 && d.innermost r.axis == lvl then d.slotOfEp r.ep else none) with
  | some s => (d.slot s.port s.slot).sampleNs
  | none => d.periodStart (r.levelK lvl)

/-- One level of an axis runs in this release. Its output stands in the fabric when the instance ends (R173, Dev.levelStored). -/
def Dev.runLevel (d0 : Dev) (r : AxisRec) (lvl : Nat) : Dev :=
  let a := r.axis
  let d := d0.takeAbove r lvl
  let x := d.axSt a
  let l := x.level lvl
  let p := d.levelPar a lvl
  let inner := d.innermost a == lvl
  let u : LevelIn := {
    sp := d.levelSp r lvl x, fb := (match lvl with | 0 => l.sPos | 1 => l.sVel | _ => l.sCur),
    ffa := (match lvl with | 0 => x.spVel | 1 => x.spAcc | _ => l.sVel),
    ffb := if lvl == 1 then x.torqueFf else 0, posFs := if lvl == 0 then some (Config.fullScale a 3) else none, vel := l.sVel,
    manual := inner && x.manual, manVal := d.regI (R.AXIS_MANVAL a), manSlew := d.regI (R.AXIS_MANSLEW a),
    pos := l.sPos, kpv := Config.fullScale a 2 }
  let o := levelSample p lvl l x.flts u
  -- R211: with invalid feedback the stop ramp is applied open loop to the innermost output
  let openLoop := inner && !d.fbValid a && d.axState a == 4
  let step := d.openRamp a (periodNs (r.levelK lvl))
  let out := if openLoop then (if l.out < 0 then min 0 (l.out + step) else max 0 (l.out - step)) else o.lvl.out
  let l1 := { o.lvl with out := out, sampleNs := some (d.sampleInstant r lvl), aborted := false }
  let x1 := x.setLevel lvl l1
  let x2 := if d.fld (R.PCFG a) F.PCFG.SIG == lvl then { x1 with flts := o.flts, uSum := x.uSum + out, uN := x.uN + 1 }
    else { x1 with flts := o.flts }
  let d1 := d.setAxSt a x2
  let d2 := if o.bump then (d1.setW1c (R.AXIS_STAT a) F.AXIS_STAT.BUMP).evObj 0x6009 3 a else d1
  if lvl == 0 then d2.maxReg (R.AXIS_FEMAX a) o.err.natAbs else d2

/-- R220: OSAT and ISAT after the levels `ran` of an axis ran in one release: an output was limited in it, an integrator stands at its limit. -/
def Dev.showLimits (d : Dev) (a : Nat) (ran : List Nat) : Dev :=
  let st := R.AXIS_STAT a
  let x := d.axSt a
  let o := ran.any (fun l => (x.level l).osat)
  let i := (d.levels a).any (fun l => (x.level l).isat)
  (d.setFld st F.AXIS_STAT.OSAT (if o then 1 else 0)).setFld st F.AXIS_STAT.ISAT (if i then 1 else 0)

/-- R193, R207: the position error of an axis as a fraction of its full scale. -/
def Dev.posError (d : Dev) (a : Nat) : Int :=
  let x := d.axSt a
  sat32 (toFs (wrapI 32 (wrapI 32 x.sp - x.pos)) (Config.fullScale a 3))

/-- R207: whether the position error exceeds AXIS_FELIM. -/
def Dev.follows (d : Dev) (a : Nat) : Bool :=
  let lim := (d.reg (R.AXIS_FELIM a)).toNat
  lim != 0 && decide (lim < (d.posError a).natAbs)

/-- R206, R207: the supervision of one sample: the causes that arise in it. Invalid feedback is acted on once until it is valid again. -/
def Dev.supervise (d : Dev) (a : Nat) (fbIs posRan : Bool) : Dev :=
  let x := d.axSt a
  let react := R.AXIS_REACT a
  let lost := !fbIs && !x.lost
  let d0 := d.setAxSt a { x with lost := !fbIs }
  let d1 := if lost then d0.evObj 0x6003 5 a else d0
  let follow := posRan && fbIs && d.follows a
  let d2 := if follow then (d1.setFld (R.AXIS_STAT a) F.AXIS_STAT.FEFLT 1).evObj 0x6005 5 a [wI (d.posError a)] else d1
  d2.reactAll a ((if lost then [(d.fld react F.AXIS_REACT.FBREACT, 1)] else []) ++
    (if follow then [(d.fld react F.AXIS_REACT.FEREACT, 3)] else []))

/-- R212: a position-level sample of a stopping axis counts standstill. -/
def Dev.countStill (d : Dev) (a : Nat) : Dev :=
  if d.axState a == 4 then
    let still := decide ((d.axSt a).vel.natAbs ≤ (d.reg (R.AXIS_STBY a)).toNat)
    d.updAxSt a (fun x => { x with still := if still then x.still + 1 else 0 })
  else d

/-! ### Samples (R31 stage 1) -/

/-- R265: the actual velocity that comes with a position channel: the speed of the same local channel or remote encoder, as a Q31 fraction. -/
def Dev.fbVelocity (d : Dev) (r : AxisRec) : Option Int :=
  match d.chanRec r.fb with
  | none => none
  | some c =>
    if c.kind != 0 then none
    else match c.src / 2 ^ 24 with
      | 3 => some (d.regI (R.FBK_ENC_SPD (c.src % 32)))
      | 6 => some (d.regI (R.FBK_REM_SPD (c.src % 256)))
      | _ => none

/-- The current of a LOCAL axis, from the sigma-delta results of its three legs. -/
def Dev.fbCurrent (d : Dev) (r : AxisRec) (pos : Int) : Int :=
  if r.kind != 0 then 0
  else
    let j := r.leg - 12 * r.conn
    Config.axisCurrent r.axis [d.regI (R.SD_VAL r.conn j), d.regI (R.SD_VAL r.conn (j + 1)), d.regI (R.SD_VAL r.conn (j + 2))] pos

/-- R31, R33, R192: the feedback of the levels `lvls` of an axis is sampled; the position channel's last value stands while it is invalid. `vel` is the
velocity where no channel gives it. The actual values of the axis follow the outermost level's sample. -/
def Dev.sampleLevels (d : Dev) (r : AxisRec) (lvls : List Nat) (vel : Option Int) : Dev :=
  let x := d.axSt r.axis
  let pos := if d.fbNow r.axis then d.chanI r.fb else x.pos
  let v := (d.fbVelocity r).getD (vel.getD x.vel)
  let cur := d.fbCurrent r pos
  let y := lvls.foldl (fun (x : AxisSt) l => x.setLevel l { x.level l with sPos := pos, sVel := v, sCur := cur }) x
  if lvls.contains (d.outermost r.axis) then d.setAxSt r.axis { y with pos := pos, vel := v, cur := cur } else d.setAxSt r.axis y

/-- R331: a joint's set-point of the last arm period is that of the period which begins. -/
def AxisSt.takeSp (x : AxisSt) : AxisSt :=
  match x.spNext with
  | some (p, v, a) => { x with sp := p, spVel := v, spAcc := a, spNext := none }
  | none => x

/-- R31, R32, R192: stage 1 of a base tick for an axis: the position of the period that ends is the last completed one, the levels of an axis with local
feedback whose period begins are sampled, and a joint's position for Gorse (R391). -/
def Dev.sampleAxis (d : Dev) (r : AxisRec) : Dev :=
  let due := (d.levels r.axis).filter (fun l => isBoundary d.time.tick (r.levelK l))
  let d0 := if isBoundary d.time.tick (r.levelK 0) then d.updAxSt r.axis (fun x => { x with donePos := x.pos }) else d
  let d1 := if r.kind == 1 && isBoundary d.time.tick 4 then d0.updAxSt r.axis (fun x => { x with tickPos := d.chanI r.fb }) else d0
  let d1 := if r.kind == 1 && isBoundary d.time.tick 2 then d1.updAxSt r.axis AxisSt.takeSp else d1
  if r.kind == 0 && !due.isEmpty then d1.sampleLevels r due none else d1

/-- What a release reads for an axis beside its channels: the actual velocity as a Q31 fraction, used where no channel gives it, and the value of the torque
feedforward channel (R193, R197). -/
structure AxMeas where
  axis : Nat
  vel : Int
  torqueFf : Int
  deriving DecidableEq, Repr

/-- R30, R192: whether a level is due in this release of the LAWTASK: with a periodic task in the base tick of the task's phase in the level's period, else in
the first release in the level's period; `last` is the release before this one. -/
def Dev.levelDue (d : Dev) (r : AxisRec) (last : Option Nat) (lvl : Nat) : Bool :=
  let n := 2 ^ r.levelK lvl
  match d.taskRec r.law with
  | none => false
  | some t =>
    if t.trig == 0 then d.time.tick % n == t.phase % n
    else match last with
      | none => true
      | some l => decide (l / 31250 / n < d.time.tick / n)

/-- R208: the histories of the plausibility model are preset to the present values: at enable, and when feedback is valid again. -/
def Dev.primeModel (d : Dev) (a : Nat) : Dev :=
  let sig := d.fld (R.PCFG a) F.PCFG.SIG
  d.updAxSt a (fun x =>
    let l := x.level sig
    let y := match sig with | 0 => l.sPos | 1 => l.sVel | _ => l.sCur
    { x with primed := true, primedNs := d.ns, y1 := y, y2 := y, u1 := l.out, u2 := l.out, uSum := 0, uN := 0 })

/-- R206, R208: FBVALID at a release, and the plausibility model, which stops while the feedback is invalid. -/
def Dev.showFeedback (d : Dev) (a : Nat) (fbIs : Bool) : Dev :=
  let d1 := d.setFld (R.AXIS_STAT a) F.AXIS_STAT.FBVALID (if fbIs then 1 else 0)
  if !fbIs then d1.updAxSt a (fun x => { x with primed := false })
  else if d1.axEnabled a && !(d1.axSt a).primed then d1.primeModel a
  else d1

/-- R216: manual operation of the innermost level begins or ends: it begins with the last output in AXIS_MANVAL. -/
def Dev.manualTurn (d : Dev) (a : Nat) : Dev :=
  let man := d.bit (R.AXIS_CTL a) F.AXIS_CTL.MAN
  let x := d.axSt a
  let st := d.axState a
  if man && !x.manual && st != 4 && st != 5 then
    ((d.setReg (R.AXIS_MANVAL a) (wI (x.level (d.innermost a)).out)).updAxSt a (fun y => { y with manual := true })).setFld (R.AXIS_STAT a)
      F.AXIS_STAT.STATE 3
  else if !man && x.manual then
    (d.updAxSt a (fun y => { y with manual := false })).setFld (R.AXIS_STAT a) F.AXIS_STAT.STATE 2
  else d

/-- R192, R195, R206 to R218: the loops of one axis in a release of its LAWTASK. The levels of a LOCAL axis that are due
run innermost first, each on what the level above has delivered; those of a JOINT or LINE axis run in one instance,
outermost first, on the last completed slots. `last` is the release before this one. -/
def Dev.axisRelease (d : Dev) (ms : List AxMeas) (last : Option Nat) (a : Nat) : Dev :=
  match d.axisRec a with
  | none => d
  | some r =>
    let m := ms.find? (fun q => q.axis == a)
    let fbIs := d.fbNow a
    let due := (d.levels a).filter (d.levelDue r last)
    let d1 := d.updAxSt a (fun x => { x with
      flts := x.flts.map (fun e => (e.1, e.2.take)), torqueFf := (match m with | some q => q.torqueFf | none => x.torqueFf) })
    let d2 := if r.kind != 0 then d1.sampleLevels r due (m.map (·.vel)) else d1
    let d3 := d2.showFeedback a fbIs
    let posDue := d.levelDue r last 0
    let d4 := if d.sys.pfAxes.contains a && posDue then
        ({ d3 with sys := { d3.sys with pfAxes := d3.sys.pfAxes.filter (· != a) } } : Dev).react a 3 0 true
      else d3
    let state := d4.axState a
    if state == 0 || state == 6 then d4
    else
      let d5 := if state == 1 then d4.setFld (R.AXIS_STAT a) F.AXIS_STAT.STATE 2 else d4
      let d6 := (d5.manualTurn a).supervise a fbIs (due.contains 0)
      if d6.axState a == 6 then d6
      else
        let d7 := (d6.each (if r.kind == 0 then due.reverse else due) (fun d l => d.runLevel r l)).showLimits a due
        if due.contains (d.outermost a) then d7.countStill a else d7

/-! ### The release of a task -/

/-- R145: the shadow copies of a task's PARAMS regions are committed in the clock before its release. -/
def Dev.commitParams (d : Dev) (t : Nat) : Dev :=
  let mine (s : Nat × Nat × Nat × Word) : Bool := d.img.params.any (fun p =>
    p.task == t && p.engine == s.1 && p.mem == s.2.1 && decide (p.addr ≤ s.2.2.1) && decide (s.2.2.1 < p.addr + p.len / 4))
  let d1 := (d.loader.pendingParams.filter mine).foldl (fun d s =>
    let x := d.eng s.1
    d.setEng s.1 (if s.2.1 == 0 then { x with xmem := tset x.xmem s.2.2.1 s.2.2.2 }
      else { x with ymem := tset x.ymem s.2.2.1 s.2.2.2 })) d
  { d1 with loader := { d1.loader with pendingParams := d1.loader.pendingParams.filter (fun s => !mine s) } }

/-- R172: the words that the fabric delivers into the channel-in window of engine `e` with the releases of period `k`, as the keys of their latches: of
consumers that name one word, the last in section order stands, whatever its period. -/
def Dev.chanWords (d : Dev) (e k : Nat) : List (Nat × Nat) :=
  let all := d.img.chans.flatMap (fun c => (c.dst.zipIdx).filterMap (fun wi =>
    if consKind wi.1 == 0 && (wi.1 / 2 ^ 24) % 16 == e then some (wi.1 % 4096, (wi.1 / 2 ^ 21) % 8, 16 * c.chan + wi.2) else none))
  (all.zipIdx.filter (fun q => q.1.2.1 == k && !(all.drop (q.2 + 1)).any (fun z => z.1 == q.1.1))).map (fun q => (q.1.1, q.1.2.2))

/-- R172: before the release of a task of engine `e` and period `k` the fabric delivers every consumer word of that engine
and period into the channel-in window. The words stand while another cyclic instance of that period has not ended. -/
def Dev.deliver (d : Dev) (e k : Nat) : Dev :=
  let x := d.eng e
  let held := x.insts.any (fun i => i.ctx == 1 && (match d.taskRec i.task with | some t => t.k == k | none => false))
  if held then d
  else
    let put (m : Tab Word) (w : Nat × Nat) : Tab Word :=
      match tget? d.engs.latch w.2 with
      | some (_, v) => tset m (0xF000 + w.1) v
      | none => m
    d.setEng e { x with xmem := (d.chanWords e k).foldl put x.xmem }

/-- R126, R138, R175: whether a task is due for release now. -/
def Dev.releaseDue (d : Dev) (r : TaskRec) : Bool :=
  let st := d.tstat r.task
  let after (dep : Nat) : Bool := dep == 0xFFFF || (match (d.tstat dep).doneNs, st.lastRel with
    | some n, some l => decide (l < n)
    | some _, none => true
    | none, _ => false)
  match r.trig with
  | 0 => d.time.tick % 2 ^ r.k == r.phase && (match st.lastRel with
      | some l => decide (l < d.time.tick * 31250) || decide (d.time.tick * 31250 + 31250 ≤ l)
      | none => true)
  | 1 => after r.dep0 && after r.dep1 && !(r.dep0 == 0xFFFF && r.dep1 == 0xFFFF)
  | _ => d.engs.starts.contains r.task

/-- R126: a triggered task is not released again before its least interval. -/
def Dev.tooSoon (d : Dev) (r : TaskRec) : Bool :=
  decide (2 ≤ r.trig) && (match (d.tstat r.task).lastRel with
    | some l => decide (d.ns < l + periodNs r.k)
    | none => false)

/-- R175, R177, R183, R190: the release of a task: it is dropped and counted if the engine is halted or an instance of the
task is pending; else PARAMS are committed, the channels delivered, the instance joins those pending and the loops of its
axes run. A suspended task and a fault-context task are not released (R180, R181), nor a task of an engine that is off, gated or retained (R189), and none
between T and T + 4 ms (R140). -/
def Dev.releaseTask (d : Dev) (t : Nat) (ms : List AxMeas) : Dev :=
  match d.taskRec t with
  | none => d
  | some r =>
    let e := r.engine
    let x := d.eng e
    let last := (d.tstat t).lastRel
    if !d.running || d.engineOff e || r.ctx == 2 || (d.tstat t).suspended || !d.releaseDue r then d
    else
      let d0 : Dev := { d with engs := { d.engs with starts := d.engs.starts.filter (· != t) } }
      if x.halted || x.insts.any (fun i => i.task == t) || d.tooSoon r then d0.dropRelease e t
      else
        let d1 := (d0.commitParams t).deliver e r.k
        let y := d1.eng e
        let i : Inst := { task := t, ctx := r.ctx, order := r.order, release := d.ns }
        let d2 := (d1.setEng e { y with insts := y.insts ++ [i] }).updStat t (fun s => { s with lastRel := some d.ns })
        d2.each (d.axesOfTask t) (fun d a => d.axisRelease ms last a)

/-- A request to start a triggered task (R54, R102). -/
def Dev.startTask (d : Dev) (t : Nat) : Dev :=
  if d.engs.starts.contains t then
    match d.taskRec t with
    | some r => d.dropRelease r.engine t
    | none => d
  else { d with engs := { d.engs with starts := d.engs.starts ++ [t] } }

/-! ### Timing classes -/

/-- R202, R203: at the period start plus OUTPH the destination takes a class F output; without one of this period it keeps the
previous output for the whole period. An output that an engine fault took away, and a level that has not run since the enable, are not late (R218). -/
def Dev.classFTake (d : Dev) (a lvl : Nat) : Dev :=
  match d.axisRec a with
  | none => d
  | some r =>
    let start := d.periodStart (r.levelK lvl)
    let ph := 2 * d.fld (R.LVL_CFG a lvl) F.LVL_CFG.OUTPH
    let x := d.axSt a
    let l := x.level lvl
    if d.classA a lvl || !(d.levels a).contains lvl || !d.axEnabled a || decide (d.ns < start + ph) || l.takeNs == some start then d
    else
      let set (l : LevelSt) : Dev := d.setAxSt a (x.setLevel lvl { l with takeNs := some start, fresh := false })
      if l.fresh && l.sampleNs == some start then (set { l with applied := l.stored, late := 0 }).reportDelay a lvl ph
      else if l.aborted || l.sampleNs == none then set { l with aborted := false }
      else
        let n := l.late + 1
        let d1 := ((set { l with late := n }).bump (R.AXIS_STAT a) F.AXIS_STAT.FLATE 1).evObj 0x6006 4 a
        if d.fld (R.AXIS_REACT a) F.AXIS_REACT.FLATEN ≤ n then
          d1.react a (d.fld (R.AXIS_REACT a) F.AXIS_REACT.ENGREACT) 5
        else d1

/-! ### Plausibility -/

/-- R208: the model period's code. -/
def Dev.modelK (d : Dev) (r : AxisRec) : Nat :=
  let k := r.levelK (if (d.levels r.axis).contains 0 then 0 else 1)
  if k ≤ 5 then 5 else k

/-- R208: the signal of SIG at the last sample, and the mean of the level's outputs since the last model sample. -/
def Dev.modelInputs (d : Dev) (a : Nat) : Int × Int :=
  let x := d.axSt a
  let sig := d.fld (R.PCFG a) F.PCFG.SIG
  let l := x.level sig
  (match sig with | 0 => l.sPos | 1 => l.sVel | _ => l.sCur, if x.uN = 0 then x.u1 else x.uSum / x.uN)

/-- R208: the residual: the signal less its prediction from the histories. -/
def Dev.residual (d : Dev) (a : Nat) : Int :=
  let x := d.axSt a
  let two := d.fld (R.PCFG a) F.PCFG.MODEL == 2
  let (y, u) := d.modelInputs a
  sat32 (y - scaled (d.regI (R.AXIS_PA1 a) * x.y1 + (if two then d.regI (R.AXIS_PA2 a) * x.y2 else 0) +
    d.regI (R.AXIS_PB1 a) * u + (if two then d.regI (R.AXIS_PB2 a) * x.u1 else 0)) (d.fldI (R.PCFG a) F.PCFG.PSHIFT - 31))

/-- R208, R209: a sample of the plausibility model; the first residual is taken one model period after the preset. -/
def Dev.plausible (d : Dev) (a : Nat) : Dev :=
  match d.axisRec a with
  | none => d
  | some r =>
    let cfg := R.PCFG a
    let model := d.fld cfg F.PCFG.MODEL
    let st := d.axState a
    let x := d.axSt a
    if model == 0 || st == 0 || st == 6 || !x.primed || !d.fbValid a || !isBoundary d.time.tick (d.modelK r) then d
    else
      let (y, u) := d.modelInputs a
      let next := { x with y2 := x.y1, y1 := y, u2 := x.u1, u1 := u, uSum := 0, uN := 0 }
      if d.ns < x.primedNs + periodNs (d.modelK r) then d.setAxSt a next
      else
        let res := d.residual a
        let n := if decide ((d.reg (R.AXIS_PLIM a)).toNat < res.natAbs) then x.bad + 1 else 0
        let fires := n != 0 && decide (d.fld cfg F.PCFG.PCOUNT ≤ n)
        let d1 := ((d.setAxSt a { next with bad := if fires then 0 else n }).setReg (R.AXIS_PRES a) (wI res)).maxReg
          (R.AXIS_PRESMAX a) res.natAbs
        if fires then
          ((d1.setFld (R.AXIS_STAT a) F.AXIS_STAT.IMPL 1).evObj 0x6004 5 a [wI res]).react a
            (d.fld (R.AXIS_REACT a) F.AXIS_REACT.PREACT) 2
        else d1

/-! ### Filter coefficients (R198) -/

/-- Fixed-point one: 60 fraction bits. -/
def fx : Int := 2 ^ 60

/-- The product of two fixed-point numbers. -/
def fxMul (a b : Int) : Int := a * b / fx

/-- π in 60 fraction bits. -/
def fxPi : Int := 3622009729038561421

/-- The Taylor series of the sine or cosine of a fixed-point angle: `n` terms, from the term `t` of degree `k` on. -/
def fxTaylor : Nat → Int → Int → Nat → Int
  | 0, _, _, _ => 0
  | n + 1, t, x2, k => t + fxTaylor n (-(fxMul t x2) / (((k + 1) * (k + 2) : Nat) : Int)) x2 (k + 2)

/-- The tangent of a fixed-point angle below π/2. -/
def fxTan (x : Int) : Int :=
  let x2 := fxMul x x
  let s := fxTaylor 20 x x2 1
  let c := fxTaylor 20 fx x2 0
  if c = 0 then Config.divByZero s else s * fx / c

/-- 10^(-1/20) in 60 fraction bits: the factor of 1 dB. -/
def fxDb : Int := 1027542372575421786

/-- 10^(-n/20). -/
def fxAtt : Nat → Int
  | 0 => fx
  | n + 1 => fxMul (fxAtt n) fxDb

/-- The prewarped tangent K = tan(π f T) for a frequency in Hz and a period in ns (R198). -/
def prewarp (freq ns : Nat) : Int := fxTan (fxPi * freq * ns / 1000000000)

/-- A coefficient n / d halved, in Q31, truncated (R160, R198). -/
def halved (n d : Int) : Int := if d = 0 then Config.divByZero n else sat32 (n * 2 ^ 30 / d)

/-- R198: the stored coefficients of a notch at FREQ, -3 dB width in percent of FREQ and depth in dB, by the bilinear
transform prewarped at FREQ. -/
def notchCoeffs (freq width depth ns : Nat) : List Int :=
  let k := prewarp freq ns
  let bk := k * width / 100
  let dk := fxMul (fxAtt depth) bk
  let k2 := fxMul k k
  let a0 := fx + bk + k2
  [halved (fx + dk + k2) a0, halved (2 * (k2 - fx)) a0, halved (fx - dk + k2) a0, halved (2 * (k2 - fx)) a0,
   halved (fx - bk + k2) a0]

/-- R198: the stored coefficients of a second-order low-pass at FREQ with damping WIDTH / 100. -/
def lowPassCoeffs (freq width ns : Nat) : List Int :=
  let k := prewarp freq ns
  let zk := 2 * k * width / 100
  let k2 := fxMul k k
  let a0 := fx + zk + k2
  [halved k2 a0, halved (2 * k2) a0, halved k2 a0, halved (2 * (k2 - fx)) a0, halved (fx - zk + k2) a0]

/-- R199: the check and the coefficients of a commit of filter slot `s`: kind, level, FLT_PAR and B0 to A2 as they stand. -/
def Dev.filterCheck (d : Dev) (a s : Nat) (cfg : Word) : Status × List Int :=
  let kind := getF cfg F.FLT_CFG.KIND
  let lvl := getF cfg F.FLT_CFG.LEVEL
  let par := R.FLT_PAR a s
  let freq := d.fld par F.FLT_PAR.FREQ
  let width := d.fld par F.FLT_PAR.WIDTH
  let depth := d.fld par F.FLT_PAR.DEPTH
  let ns := match d.axisRec a with
    | some r => periodNs (r.levelK lvl)
    | none => 31250
  let b (r : Nat → Nat → Reg) : Int := d.regI (r a s)
  let freqBad := freq == 0 || decide (1000000000 ≤ 2 * freq * ns)
  if !(d.levels a).contains lvl then (.badArg, [])
  else
    match kind with
    | 0 => (.ok, [])
    | 1 =>
      let a1 := b R.FLT_A1
      let a2 := b R.FLT_A2
      if decide ((a2.natAbs : Int) < 2 ^ 30) && decide ((a1.natAbs : Int) < 2 ^ 30 + a2) then
        (.ok, [b R.FLT_B0, b R.FLT_B1, b R.FLT_B2, a1, a2])
      else (.badArg, [])
    | 2 =>
      if freqBad || width == 0 || depth == 0 || decide (80 < depth) then (.badArg, [])
      else (.ok, notchCoeffs freq width depth ns)
    | _ =>
      if freqBad || width == 0 || depth != 0 then (.badArg, []) else (.ok, lowPassCoeffs freq width ns)

/-- R199: a commit of a filter slot: applied at the next release of the LAWTASK; the coefficients of KIND 2 and 3 can be
read back. -/
def Dev.filterCommit (d : Dev) (a s : Nat) (cfg : Word) : Dev × Status :=
  let (st, cs) := d.filterCheck a s cfg
  if st != .ok then (d, st)
  else
    let kind := getF cfg F.FLT_CFG.KIND
    let lvl := getF cfg F.FLT_CFG.LEVEL
    let d1 := d.setReg (R.FLT_CFG a s) (putF (putF 0 F.FLT_CFG.KIND kind) F.FLT_CFG.LEVEL lvl)
    let d2 := if 2 ≤ kind then
        ((((d1.setRegI (R.FLT_B0 a s) (cs.getD 0 0)).setRegI (R.FLT_B1 a s) (cs.getD 1 0)).setRegI (R.FLT_B2 a s)
          (cs.getD 2 0)).setRegI (R.FLT_A1 a s) (cs.getD 3 0)).setRegI (R.FLT_A2 a s) (cs.getD 4 0)
      else d1
    let x := d2.axSt a
    let f := tget x.flts s {}
    (d2.setAxSt a { x with flts := tset x.flts s { f with next := some (kind, lvl, cs) } }, .ok)

/-! ### Commands -/

/-- PLAUSIBILITY_SAMPLE (R208). -/
def execPlausibilitySample (a : Nat) (s : State) : Host.Outcome State Fault Refusal :=
  s.runIf (decide (a < 8192)) (fun d => d.plausible a)

end Sys2Proof.Machine
end

