-- ==== Sys2Proof/Machine/Profile.lean ====
section
/-! DEFINITION. The profile generator (spec/09_gearing_and_profiles.md, R291 to R294): time-optimal motion under limits of
velocity, acceleration, deceleration and jerk, in fixed-point numbers of 128 fraction bits. -/

namespace Sys2Proof.Machine

open Sys2Proof

/-- One in 2^-128 units. -/
def px : Int := 2 ^ 128

/-- The product of two numbers in 2^-128 units. -/
def pxMul (a b : Int) : Int := a * b / px

/-- The quotient of two numbers in 2^-128 units. -/
def pxDiv (a b : Int) : Int := if b = 0 then Config.divByZero a else a * px / b

/-- The integer square root, bit by bit from bit `n` of the root down. -/
def isqrtBits : Nat → Nat → Nat → Nat
  | 0, _, r => r
  | n + 1, x, r =>
    let t := r + 2 ^ n
    isqrtBits n x (if t * t ≤ x then t else r)

/-- The integer square root. -/
def isqrt (x : Nat) : Nat := isqrtBits (Nat.log2 x / 2 + 1) x 0

/-- The square root in 2^-128 units; 0 of a negative number. -/
def pxSqrt (a : Int) : Int := isqrt (a.toNat * 2 ^ 128)

/-- A number of 2^-32 units from one of 2^-128, truncated; the guard of 2^-64 keeps a value that is exact in real arithmetic. -/
def pxTrunc (x : Int) : Int := (x + 2 ^ 64) / 2 ^ 96

/-- A number of 2^-128 units from one of 2^-32. -/
def pxOf (x : Int) : Int := x * 2 ^ 96

/-- An integer from a number of 2^-128 units, truncated. -/
def pxInt (x : Int) : Int := (x + 2 ^ 64) / px

/-- The limits of a plan in 2^-128 units: velocity, acceleration, deceleration, and jerk; a jerk of 0 is none (R291, R292). -/
structure Limits where
  v : Int
  a : Int
  d : Int
  j : Int
  deriving DecidableEq, Repr

/-- The point at time `t` of a phase. -/
def Kin.run (k : Kin) (s : Phase) (t : Int) : Kin :=
  let t2 := pxMul t t
  { p := k.p + pxMul k.v t + pxMul s.acc t2 / 2 + pxMul s.jerk (pxMul t2 t) / 6,
    v := k.v + pxMul s.acc t + pxMul s.jerk t2 / 2,
    a := s.acc + pxMul s.jerk t }

/-- The point at the end of phases. -/
def Kin.through (k : Kin) (l : List Phase) : Kin := l.foldl (fun k s => k.run s s.dur) k

/-- A rise of velocity from `v0` to `v1` with accelerations `a0` and `a1` at its ends, none negative, under the cap `c` of
acceleration and the jerk `j`. -/
def climb (c j v0 a0 v1 a1 : Int) : List Phase :=
  if j = 0 then [{ dur := pxDiv (v1 - v0) c, acc := c }]
  else
    let ovr := decide (c < a0)
    let pre : List Phase := if ovr then [{ dur := pxDiv (a0 - c) j, acc := a0, jerk := -j }] else []
    let v := if ovr then v0 + pxDiv (pxMul a0 a0 - pxMul c c) (2 * j) else v0
    let b := if ovr then c else a0
    let peak := pxSqrt (pxMul j (v1 - v) + (pxMul b b + pxMul a1 a1) / 2)
    if peak ≤ c then
      pre ++ [{ dur := max 0 (pxDiv (peak - b) j), acc := b, jerk := j }, { dur := max 0 (pxDiv (peak - a1) j), acc := peak, jerk := -j }]
    else
      let rest := v1 - v - pxDiv (pxMul c c - pxMul b b) (2 * j) - pxDiv (pxMul c c - pxMul a1 a1) (2 * j)
      pre ++ [{ dur := pxDiv (c - b) j, acc := b, jerk := j }, { dur := max 0 (pxDiv rest c), acc := c },
        { dur := max 0 (pxDiv (c - a1) j), acc := c, jerk := -j }]

/-- A rise of velocity to `v1` with no acceleration at its end. R292: deceleration bounds it while the velocity is negative and
acceleration while it is positive; at the zero crossing of an S-curve the smaller of the two does. -/
def rise (l : Limits) (v0 a0 v1 : Int) : List Phase :=
  if 0 ≤ v0 then climb l.a l.j v0 a0 v1 0
  else if v1 ≤ 0 then climb l.d l.j v0 a0 v1 0
  else if l.j = 0 then climb l.d 0 v0 0 0 0 ++ climb l.a 0 0 0 v1 0
  else
    let m := min l.a l.d
    let w0 := pxMul a0 a0 / 2
    let w := max (w0 + pxMul l.j v0) (min (pxMul m m / 2) (min (w0 - pxMul l.j v0) (pxMul l.j v1)))
    let ac := pxSqrt (2 * w)
    climb l.d l.j v0 a0 0 ac ++ climb l.a l.j 0 ac v1 0

/-- The mirror image of phases. -/
def mirror (l : List Phase) : List Phase := l.map (fun s => { s with acc := -s.acc, jerk := -s.jerk })

/-- The time-optimal change of velocity from (`v0`, `a0`) to (`v1`, 0). -/
def ramp (l : Limits) (v0 a0 v1 : Int) : List Phase :=
  if l.j = 0 then
    if v0 ≤ v1 then rise l v0 0 v1 else mirror (rise l (-v0) 0 (-v1))
  else
    let vn := v0 + pxDiv (pxMul a0 (a0.natAbs : Int)) (2 * l.j)
    if vn ≤ v1 then
      if a0 < 0 then { dur := pxDiv (-a0) l.j, acc := a0, jerk := l.j } :: rise l vn 0 v1 else rise l v0 a0 v1
    else
      if 0 < a0 then { dur := pxDiv a0 l.j, acc := a0, jerk := -l.j } :: mirror (rise l (-vn) 0 (-v1))
      else mirror (rise l (-v0) (-a0) (-v1))

/-- The phases of a stop. -/
def stopPhases (l : Limits) (k : Kin) : List Phase := ramp l k.v k.a 0

/-- Where a stop comes to rest. -/
def stopAt (l : Limits) (k : Kin) : Int := (k.through (stopPhases l k)).p

/-- The time within a phase from which a stop comes to rest at the target, by bisection. -/
def bisect (l : Limits) (k : Kin) (s : Phase) (sign target : Int) : Nat → Int → Int → Int
  | 0, lo, _ => lo
  | n + 1, lo, hi =>
    let m := (lo + hi) / 2
    if 0 ≤ sign * (stopAt l (k.run s m) - target) then bisect l k s sign target n lo m
    else bisect l k s sign target n m hi

/-- R292: the ramp towards full speed is followed as long as a stop can still end at the target; at full speed it cruises. -/
def toward (l : Limits) (sign target : Int) : List Phase → Kin → List Phase
  | [], k =>
    let e := stopAt l k
    { dur := max 0 (pxDiv (sign * (target - e)) l.v), acc := 0 } :: stopPhases l k
  | s :: rest, k =>
    let k1 := k.run s s.dur
    if 0 ≤ sign * (stopAt l k1 - target) then
      let t := bisect l k s sign target 200 0 s.dur
      { s with dur := t } :: stopPhases l (k.run s t)
    else s :: toward l sign target rest k1

/-- R292, R294: the time-optimal phases from a point to rest at a target. -/
def planPhases (l : Limits) (k : Kin) (target : Int) : List Phase :=
  let e := stopAt l k
  if (e - target).natAbs ≤ 2 ^ 64 then stopPhases l k
  else
    let sign : Int := if e < target then 1 else -1
    toward l sign target (ramp l k.v k.a (sign * l.v)) k

/-- The point of phases at time `t`; after the last phase the velocity stays as it is, with no acceleration. -/
def at_ : List Phase → Kin → Int → Kin
  | [], k, t => { p := k.p + pxMul k.v t, v := k.v, a := 0 }
  | s :: rest, k, t => if t < s.dur then k.run s t else at_ rest (k.run s s.dur) (t - s.dur)

/-- The duration of phases. -/
def total (l : List Phase) : Int := (l.map (·.dur)).foldl (· + ·) 0

/-- The plan has ended. -/
def Plan.ended (p : Plan) : Bool := decide (total p.phases ≤ p.t + 2 ^ 64)

/-- The set-point of a plan now: position in 2^-32 counts, velocity and acceleration. When the plan has ended at rest, the
position is exactly its goal (R292). -/
def Plan.now (p : Plan) : Int × Int × Int :=
  let k := at_ p.phases p.start p.t
  let pos := match p.goal with
    | some g => if p.ended then g else pxTrunc k.p
    | none => pxTrunc k.p
  let rest := p.ended && p.kind != 1
  (pos, if rest then 0 else k.v, if rest then 0 else k.a)

/-- A plan to rest at a target in 2^-32 counts. -/
def Plan.toward (l : Limits) (k : Kin) (target : Int) (kind : Nat) : Plan :=
  { start := k, phases := planPhases l k (pxOf target), kind := kind, goal := some target }

/-- R293, R294: a plan to a constant velocity, held within VMAX. -/
def Plan.vel (l : Limits) (k : Kin) (v : Int) : Plan :=
  { start := k, phases := ramp l k.v k.a (max (-l.v) (min l.v v)), kind := 1, tvel := v }

/-- R296: a VEL move has reached TVEL; the other plans have come to their end. -/
def Plan.done (p : Plan) : Bool :=
  p.ended && (p.kind != 1 || decide (((p.start.through p.phases).v - p.tvel).natAbs ≤ 2 ^ 64))

/-- A plan to rest as soon as the limits let it. -/
def Plan.stop (l : Limits) (k : Kin) (kind : Nat) : Plan :=
  let e := k.through (stopPhases l k)
  { start := k, phases := stopPhases l k, kind := kind, goal := some (pxTrunc e.p) }

end Sys2Proof.Machine
end

