-- ==== Sys2Proof/Machine/Geometry.lean ====
section
/-! DEFINITION. Geometry of the arms (spec/10_arms_and_paths.md): trigonometry, vectors, rotations, forward kinematics and the
damped least squares of R343, in fixed-point numbers of 60 fraction bits. -/

namespace Sys2Proof.Machine

open Sys2Proof

/-! ### Numbers -/

/-- The quotient of two fixed-point numbers. -/
def fxDiv (a b : Int) : Int := if b = 0 then Config.divByZero a else a * fx / b

/-- The square root of a fixed-point number. -/
def fxSqrt (a : Int) : Int := isqrt (a.toNat * 2 ^ 60)

/-- An angle reduced into (−π, π]. -/
def fxWrap (x : Int) : Int :=
  let r := x % (2 * fxPi)
  if fxPi < r then r - 2 * fxPi else r

/-- The sine of an angle. -/
def fxSin (x : Int) : Int := let y := fxWrap x; fxTaylor 24 y (fxMul y y) 1

/-- The cosine of an angle. -/
def fxCos (x : Int) : Int := let y := fxWrap x; fxTaylor 24 fx (fxMul y y) 0

/-- The series of the arctangent of a small number: `t` is the power of degree `k`. -/
def fxAtanSeries : Nat → Int → Int → Nat → Int
  | 0, _, _, _ => 0
  | n + 1, t, z2, k => t / (k : Int) + fxAtanSeries n (-(fxMul t z2)) z2 (k + 2)

/-- Halving of an arctangent's argument: atan z = 2 atan (z / (1 + √(1 + z²))). -/
def fxAtanHalf (z : Int) : Int := fxDiv z (fx + fxSqrt (fx + fxMul z z))

/-- The arctangent of a number in [−1, 1]. -/
def fxAtan (z : Int) : Int :=
  let y := fxAtanHalf (fxAtanHalf (fxAtanHalf z))
  8 * fxAtanSeries 20 y (fxMul y y) 1

/-- The angle of the point (x, y), in (−π, π]; 0 at the origin. -/
def fxAtan2 (y x : Int) : Int :=
  if x = 0 && y = 0 then 0
  else if x.natAbs < y.natAbs then
    let r := fxPi / 2 - fxAtan (fxDiv x y)
    if y < 0 then r - fxPi else r
  else
    let r := fxAtan (fxDiv y x)
    if 0 ≤ x then r else if y < 0 then r - fxPi else r + fxPi

/-- The angle of a Q31 half-turn value. -/
def fxOfTurn (q : Int) : Int := q * fxPi / 2 ^ 31

/-- The Q31 half-turn value of an angle. -/
def turnOf (x : Int) : Int := x * 2 ^ 31 / fxPi

/-! ### Vectors and rotations -/

/-- The sum of two vectors. -/
def V3.add (u v : V3) : V3 := ⟨u.x + v.x, u.y + v.y, u.z + v.z⟩
/-- The difference of two vectors. -/
def V3.sub (u v : V3) : V3 := ⟨u.x - v.x, u.y - v.y, u.z - v.z⟩
/-- A vector times a number. -/
def V3.scale (k : Int) (v : V3) : V3 := ⟨fxMul k v.x, fxMul k v.y, fxMul k v.z⟩
/-- The inner product. -/
def V3.dot (u v : V3) : Int := (u.x * v.x + u.y * v.y + u.z * v.z) / fx
/-- The cross product. -/
def V3.cross (u v : V3) : V3 :=
  ⟨fxMul u.y v.z - fxMul u.z v.y, fxMul u.z v.x - fxMul u.x v.z, fxMul u.x v.y - fxMul u.y v.x⟩
/-- The length of a vector. -/
def V3.norm (v : V3) : Int := fxSqrt (v.dot v)
/-- The unit vector of a vector. -/
def V3.unit (v : V3) : V3 := let n := v.norm; ⟨fxDiv v.x n, fxDiv v.y n, fxDiv v.z n⟩
/-- The components of a vector. -/
def V3.list (v : V3) : List Int := [v.x, v.y, v.z]

/-- The vector of three integers. -/
def V3.ofInts (l : List Int) : V3 := ⟨l.getD 0 0 * fx, l.getD 1 0 * fx, l.getD 2 0 * fx⟩

/-- The transpose of a matrix. -/
def M3.transpose (m : M3) : M3 := ⟨⟨m.a.x, m.b.x, m.c.x⟩, ⟨m.a.y, m.b.y, m.c.y⟩, ⟨m.a.z, m.b.z, m.c.z⟩⟩
/-- A matrix applied to a vector. -/
def M3.app (m : M3) (v : V3) : V3 := ⟨m.a.dot v, m.b.dot v, m.c.dot v⟩
/-- The product of two matrices. -/
def M3.mul (m n : M3) : M3 :=
  let t := n.transpose
  ⟨⟨m.a.dot t.a, m.a.dot t.b, m.a.dot t.c⟩, ⟨m.b.dot t.a, m.b.dot t.b, m.b.dot t.c⟩, ⟨m.c.dot t.a, m.c.dot t.b, m.c.dot t.c⟩⟩

/-- The rotation about x. -/
def rotX (x : Int) : M3 := ⟨⟨fx, 0, 0⟩, ⟨0, fxCos x, -fxSin x⟩, ⟨0, fxSin x, fxCos x⟩⟩
/-- The rotation about y. -/
def rotY (x : Int) : M3 := ⟨⟨fxCos x, 0, fxSin x⟩, ⟨0, fx, 0⟩, ⟨-fxSin x, 0, fxCos x⟩⟩
/-- The rotation about z. -/
def rotZ (x : Int) : M3 := ⟨⟨fxCos x, -fxSin x, 0⟩, ⟨fxSin x, fxCos x, 0⟩, ⟨0, 0, fx⟩⟩

/-- The rotation by an angle about a unit vector. -/
def rotAbout (n : V3) (x : Int) : M3 :=
  let c := fxCos x
  let s := fxSin x
  let k := fx - c
  let e (i j : Int) : Int := fxMul k (fxMul i j)
  ⟨⟨c + e n.x n.x, e n.x n.y - fxMul s n.z, e n.x n.z + fxMul s n.y⟩,
   ⟨e n.y n.x + fxMul s n.z, c + e n.y n.y, e n.y n.z - fxMul s n.x⟩,
   ⟨e n.z n.x - fxMul s n.y, e n.z n.y + fxMul s n.x, c + e n.z n.z⟩⟩

/-- The axis and the angle, 0 to π, of a rotation. -/
def axisAngle (m : M3) : V3 × Int :=
  let w : V3 := ⟨m.c.y - m.b.z, m.a.z - m.c.x, m.b.x - m.a.y⟩
  let tr := m.a.x + m.b.y + m.c.z - fx
  let s := w.norm
  let th := fxAtan2 s tr
  if s ≤ 2 ^ 20 then
    if 0 ≤ tr then (⟨fx, 0, 0⟩, 0)
    else
      -- half a turn: the axis is a column of (R + 1) / 2
      let u : V3 := if m.b.y ≤ m.a.x && m.c.z ≤ m.a.x then ⟨m.a.x + fx, m.b.x, m.c.x⟩
        else if m.c.z ≤ m.b.y then ⟨m.a.y, m.b.y + fx, m.c.y⟩ else ⟨m.a.z, m.b.z, m.c.z + fx⟩
      (u.unit, th)
  else (⟨fxDiv w.x s, fxDiv w.y s, fxDiv w.z s⟩, th)

/-- R332: a pose from its six numbers: the rotation is Rz · Ry · Rx. -/
def poseOf (l : List Int) : PoseM :=
  { p := V3.ofInts l,
    r := ((rotZ (fxOfTurn (l.getD 5 0))).mul (rotY (fxOfTurn (l.getD 4 0)))).mul (rotX (fxOfTurn (l.getD 3 0))) }

/-- R332: the six numbers of a pose. -/
def poseNums (m : PoseM) : List Int :=
  let r := m.r
  [m.p.x / fx, m.p.y / fx, m.p.z / fx, turnOf (fxAtan2 r.c.y r.c.z), turnOf (fxAtan2 (-r.c.x) (fxSqrt (fxMul r.a.x r.a.x + fxMul r.b.x r.b.x))),
   turnOf (fxAtan2 r.b.x r.a.x)]

/-- Two frames in a row. -/
def PoseM.mul (m n : PoseM) : PoseM := { p := m.p.add (m.r.app n.p), r := m.r.mul n.r }

/-! ### Forward kinematics -/

/-- A joint's variable: an angle in rad for a revolute joint, a length in µm for a prismatic one, from 2^-32 joint units. -/
def jointVar (j : JointRec) (q : Int) : Int :=
  if j.jtype == 0 then q * fxPi / 2 ^ 63 else q * 2 ^ 28

/-- The joint position in 2^-32 units of a joint variable. -/
def jointUnits (j : JointRec) (x : Int) : Int :=
  if j.jtype == 0 then x * 2 ^ 63 / fxPi else x / 2 ^ 28

/-- R130: the transform of one joint: Denavit–Hartenberg, or the exponential of its screw. -/
def jointFrame (model : Nat) (j : JointRec) (x : Int) : PoseM :=
  let g (i : Nat) : Int := j.geom.getD i 0
  if model == 0 then
    let th := fxOfTurn (g 3) + (if j.jtype == 0 then x else 0)
    let dz := g 2 * fx + (if j.jtype == 0 then 0 else x)
    let r := rotZ th
    let ax : V3 := r.app ⟨g 0 * fx, 0, 0⟩
    { p := ⟨ax.x, ax.y, dz⟩, r := r.mul (rotX (fxOfTurn (g 1))) }
  else
    let w : V3 := ⟨g 0 * 2 ^ 29, g 1 * 2 ^ 29, g 2 * 2 ^ 29⟩
    let v : V3 := ⟨g 3 * fx, g 4 * fx, g 5 * fx⟩
    if j.jtype == 0 then
      let wv := w.cross v
      { p := ((V3.scale x v).add (V3.scale (fx - fxCos x) wv)).add (V3.scale (x - fxSin x) (w.cross wv)), r := rotAbout w x }
    else { p := V3.scale x v }
/-- The frames before each joint, and the flange's at the end, from the base on. -/
def frames (model : Nat) : PoseM → List (JointRec × Int) → List PoseM
  | m, [] => [m]
  | m, (j, x) :: rest => m :: frames model (m.mul (jointFrame model j x)) rest

/-- The pose of the TCP in the plant frame (R332). -/
def fkVars (r : ArmRec) (xs : List Int) : PoseM :=
  (((frames r.model (poseOf r.base) (r.joints.zip xs)).getLast?).getD {}).mul (poseOf r.tool)

/-- The pose of the TCP for joint positions in 2^-32 units. -/
def fk (r : ArmRec) (q : List Int) : PoseM := fkVars r ((r.joints.zip q).map (fun e => jointVar e.1 e.2))

/-! ### Inverse kinematics (R343) -/

/-- The velocity of the TCP and the rotation rate that joint `j` gives: lengths in mm, joint variables in rad or mm. -/
def jacCol (model : Nat) (tcp : V3) (m : PoseM) (j : JointRec) : List Int :=
  let g (i : Nat) : Int := j.geom.getD i 0
  let mm (v : V3) : V3 := ⟨v.x / 1000, v.y / 1000, v.z / 1000⟩
  if model == 0 then
    let z := m.r.app ⟨0, 0, fx⟩
    if j.jtype == 0 then (mm (z.cross (tcp.sub m.p))).list ++ z.list else z.list ++ [0, 0, 0]
  else
    let v : V3 := ⟨g 3 * fx, g 4 * fx, g 5 * fx⟩
    if j.jtype == 0 then
      let w := m.r.app ⟨g 0 * 2 ^ 29, g 1 * 2 ^ 29, g 2 * 2 ^ 29⟩
      (mm ((m.r.app v).add (w.cross (tcp.sub m.p)))).list ++ w.list
    else (m.r.app v).list ++ [0, 0, 0]

/-- The inner product of two rows. -/
def dotRow (u v : List Int) : Int := ((u.zip v).map (fun e => e.1 * e.2)).foldl (· + ·) 0 / fx

/-- A row with a multiple of another subtracted. -/
def rowSub (u : List Int) (k : Int) (v : List Int) : List Int := (u.zip v).map (fun e => e.1 - fxMul k e.2)

/-- The row whose first entry is largest, and the others. -/
def pivotRow : List (List Int) → Option (List Int × List (List Int))
  | [] => none
  | r :: rest =>
    match pivotRow rest with
    | none => some (r, [])
    | some (b, others) =>
      if (b.headD 0).natAbs ≤ (r.headD 0).natAbs then some (r, rest) else some (b, r :: others)

/-- The solution of a system of linear equations, each row with its right-hand side at its end, by elimination. -/
def solve : Nat → List (List Int) → List Int
  | 0, _ => []
  | n + 1, rows =>
    match pivotRow rows with
    | none => []
    | some (p, others) =>
      let h := p.headD 0
      let reduced := others.map (fun r => rowSub r.tail (fxDiv (r.headD 0) h) p.tail)
      let rest := solve n reduced
      let rhs := p.getLastD 0
      let known := dotRow (p.tail.take rest.length) rest
      fxDiv (rhs - known) h :: rest

/-- How many eigenvalues of a symmetric matrix lie below 0, from the signs of the pivots of its elimination. -/
def negPivots : Nat → List (List Int) → Nat
  | 0, _ => 0
  | n + 1, rows =>
    match rows with
    | [] => 0
    | r :: rest =>
      let h := if r.headD 0 = 0 then 1 else r.headD 0
      negPivots n (rest.map (fun u => rowSub u.tail (fxDiv (u.headD 0) h) r.tail)) + (if h < 0 then 1 else 0)

/-- A matrix with a number subtracted from its diagonal. -/
def shiftDiag (rows : List (List Int)) (x : Int) : List (List Int) :=
  (rows.zipIdx).map (fun e => (e.1.zipIdx).map (fun f => if f.2 = e.2 then f.1 - x else f.1))

/-- The smallest eigenvalue of a positive semidefinite matrix, by bisection between two bounds. -/
def minEigen (rows : List (List Int)) : Nat → Int → Int → Int
  | 0, lo, _ => lo
  | n + 1, lo, hi =>
    let m := (lo + hi) / 2
    if negPivots rows.length (shiftDiag rows m) = 0 then minEigen rows n m hi else minEigen rows n lo m

/-- What the IK task needs: the arm's geometry, MASK, the weight of rotation, LAMBDA0, SIGSING, NSGAIN and QHOME. -/
structure IkPar where
  arm : ArmRec
  mask : Nat
  rw : Int
  lambda0 : Int
  sigSing : Int
  nsGain : Int
  home : List Int
  deriving DecidableEq, Repr

/-- The rows of a list that MASK sets. -/
def maskRows {α : Type} (mask : Nat) (l : List α) : List α := (l.zipIdx).filterMap (fun e => if bitAt mask e.2 then some e.1 else none)

/-- The pose error: position in mm, rotation as the axis-angle error times the weight. -/
def poseError (rw : Int) (target cur : PoseM) : List Int :=
  let dp := target.p.sub cur.p
  let (n, th) := axisAngle (target.r.mul cur.r.transpose)
  [dp.x / 1000, dp.y / 1000, dp.z / 1000, rw * fxMul th n.x, rw * fxMul th n.y, rw * fxMul th n.z]

/-- A joint variable of the Jacobian, in rad or mm, from one in rad or µm. -/
def ikVar (j : JointRec) (x : Int) : Int := if j.jtype == 0 then x else x / 1000

/-- One iteration of R343 on joint variables in rad or µm; the answer has σ beside them. -/
def ikIter (p : IkPar) (target : PoseM) (last : Bool) (xs : List Int) : List Int × Int :=
  let fr := frames p.arm.model (poseOf p.arm.base) (p.arm.joints.zip xs)
  let cur := ((fr.getLast?).getD {}).mul (poseOf p.arm.tool)
  let e := maskRows p.mask (poseError p.rw target cur)
  let cols := (fr.zip p.arm.joints).map (fun c =>
    let l := jacCol p.arm.model cur.p c.1 c.2
    maskRows p.mask (l.take 3 ++ (l.drop 3).map (fun v => p.rw * v)))
  let m := e.length
  let rows := (List.range m).map (fun i => cols.map (fun c => c.getD i 0))
  let jjt := rows.map (fun r => rows.map (fun q => dotRow r q))
  let bound := ((jjt.zipIdx).map (fun r => r.1.getD r.2 0)).foldl (· + ·) 0 + fx
  let sigma := fxSqrt (minEigen jjt 160 0 bound)
  let ratio := fxDiv sigma (p.sigSing * fx)
  let lam2 := if p.sigSing * fx ≤ sigma then 0 else fxMul (p.lambda0 * p.lambda0 * fx) (fx - fxMul ratio ratio)
  let a := shiftDiag jjt (-lam2)
  let y := solve m ((a.zip e).map (fun r => r.1 ++ [r.2]))
  let dq := cols.map (fun c => dotRow c y)
  let null : List Int :=
    if last && p.nsGain != 0 && decide (m < p.arm.joints.length) then
      let want := ((p.arm.joints.zip (p.home.zip xs))).map (fun c => ikVar c.1 (jointVar c.1 (c.2.1 * 2 ^ 32) - c.2.2))
      let jw := rows.map (fun r => dotRow r want)
      let z := solve m ((a.zip jw).map (fun r => r.1 ++ [r.2]))
      (want.zip cols).map (fun c => p.nsGain * (c.1 - dotRow c.2 z) / 2 ^ 31)
    else cols.map (fun _ => 0)
  (((p.arm.joints.zip xs).zip (dq.zip null)).map (fun c =>
    let s := c.2.1 + c.2.2
    c.1.2 + (if c.1.1.jtype == 0 then s else s * 1000)), sigma)

/-- R343: the 4 iterations from the seed, and the last σ. -/
def ikSolve (p : IkPar) (target : PoseM) (seed : List Int) : List Int × Int :=
  let x1 := (ikIter p target false seed).1
  let x2 := (ikIter p target false x1).1
  let x3 := (ikIter p target false x2).1
  ikIter p target true x3

/-- R344: the residuals after the last iteration: position in µm, rotation in µrad, of the rows in MASK. -/
def ikResiduals (p : IkPar) (target : PoseM) (xs : List Int) : Nat × Nat :=
  let e := poseError 1 target (fkVars p.arm xs)
  let part (o : Nat) : Int :=
    let l := (List.range 3).map (fun i => if bitAt p.mask (o + i) then e.getD (o + i) 0 else 0)
    fxSqrt (dotRow l l)
  ((part 0 * 1000 / fx).toNat, (part 3 * 1000000 / fx).toNat)

end Sys2Proof.Machine
end

