-- ==== Sys2Proof/Machine/Frames.lean ====
section
/-! DEFINITION. The wire forms of the line layer (R68, R75 to R80): what the Q9648 sends byte for byte, and what it reads from the frames and
slots that arrive. -/

namespace Sys2Proof.Machine

open Sys2Proof

/-- R68: K27.7 starts every frame and slot. A control symbol stands as the octet that its name spells in 8b/10b (DEDUCED,
notes/assumptions/402.md). -/
def symStart : Byte := 0xFB#8

/-- R68: K29.7 ends a frame or slot. -/
def symEnd : Byte := 0xFD#8

/-- R68: K28.5 is the idle symbol. -/
def symIdle : Byte := 0xBC#8

/-- R75, R77, R79: a body with its CRC-32 between the start and the end symbol. -/
def framed (body : List Byte) : List Byte := symStart :: body ++ le 4 (crc32 body).toNat ++ [symEnd]

/-- The body of a frame whose symbols stand in their places and whose CRC-32 is good. -/
def unframe (w : List Byte) : Option (List Byte) :=
  let body := (w.drop 1).take (w.length - 6)
  if decide (6 ≤ w.length) && framed body == w then some body else none

/-! ### The cycle-start frame (R75) -/

/-- R75: the 24 bytes of a cycle-start frame. -/
def cycFrameBytes (f : CycFrame) : List Byte :=
  framed ([0x01#8] ++ le 1 f.flags ++ le 1 f.k ++ le 4 f.cycle ++ le 8 f.time ++ le 2 f.unit) ++ [symIdle]

/-- R75: the cycle-start frame that 24 bytes spell, if they are a valid one. -/
def cycFrameOf (w : List Byte) : Option CycFrame :=
  match unframe (w.take 23) with
  | some b =>
    if w.length == 24 && b.length == 17 && uAt b 0 1 == 1 then
      some { flags := uAt b 1 1, k := uAt b 2 1 % 8, cycle := uAt b 3 4, time := uAt b 7 8, unit := uAt b 15 2 }
    else none
  | none => none

/-! ### The downstream train (R76) -/

/-- R76: a block: VALID, SEQ, 12 bytes of payload and their CRC-16. -/
def blockBytes (valid : Bool) (seq : Nat) (payload : List Byte) : List Byte :=
  let b := le 1 (if valid then 128 else 0) ++ le 1 (seq % 256) ++ slice payload 0 12
  b ++ le 2 (crc16 b).toNat

/-- R76: the train of a cycle: COUNT and the blocks. -/
def trainBytes (blocks : List (List Byte)) : List Byte :=
  [symStart, 0x02#8] ++ le 2 blocks.length ++ blocks.flatten ++ [symEnd]

/-! ### The upstream slot (R77) -/

/-- What an upstream slot with a good CRC carries. -/
structure SlotBody where
  index : Nat
  feed : Nat
  synced : Bool
  loopBack : Bool
  status : Nat
  seq : Nat
  payload : List Byte
  deriving DecidableEq, Repr

/-- R77: the slot that 40 bytes spell: 6 bytes of guard, then the framed body. None where the symbols or the CRC are bad. -/
def slotBodyOf (w : List Byte) : Option SlotBody :=
  match unframe (w.drop 6) with
  | some b =>
    if b.length == 28 then
      let h := uAt b 0 2
      some { index := h % 8192, feed := if bitAt h 13 then 1 else 0, synced := bitAt h 14, loopBack := bitAt h 15, status := uAt b 2 1,
             seq := uAt b 3 1, payload := slice b 4 24 }
    else none
  | none => none

/-! ### The cycle-end marker (R78) -/

/-- R78: the 16 bytes of a cycle-end marker. -/
def markerBytes (cyc16 hops : Nat) : List Byte :=
  let b := [0x0F#8] ++ le 2 cyc16 ++ le 2 hops
  [symStart] ++ b ++ le 2 (crc16 b).toNat ++ [symEnd] ++ List.replicate 7 symIdle

/-- R78: CYC16 and HOPS of a marker whose check is good. -/
def markerOf (w : List Byte) : Option (Nat × Nat) :=
  let c := uAt w 2 2
  let h := uAt w 4 2
  if w == markerBytes c h then some (c, h) else none

/-! ### Acyclic frames (R79) -/

/-- R79: the bytes of an acyclic frame. -/
def acyclicBytes (typ adr : Nat) (payload : List Byte) : List Byte :=
  framed (le 1 typ ++ le 2 adr ++ le 2 payload.length ++ payload)

/-- R79: ADDR and payload of an acyclic frame of type `typ`. A frame with LEN above 240 or a bad CRC is discarded. -/
def acyclicOf (typ : Nat) (w : List Byte) : Option (Nat × List Byte) :=
  match unframe w with
  | some b =>
    let n := uAt b 3 2
    if uAt b 0 1 == typ && decide (n ≤ 240) && b.length == 5 + n then some (uAt b 1 2, b.drop 5) else none
  | none => none

/-- R79, R80: a payload that has at least the `n` bytes of the fields of its type. -/
def acyclicIn (typ n : Nat) (w : List Byte) : Option (Nat × List Byte) :=
  match acyclicOf typ w with
  | some (adr, b) => if n ≤ b.length then some (adr, b) else none
  | none => none

end Sys2Proof.Machine
end

