-- ==== Sys2Proof/Machine/SafeLayer.lean ====
section
/-! DEFINITION. The safety layer's carrier units (R435 to R442, R445): records of the SAFETY section, fragments that arrive and fragments
that are sent. -/

namespace Sys2Proof.Machine

open Sys2Proof

/-- R445: the records of the SAFETY section of one kind. -/
def Dev.safeRecs (d : Dev) (kind : Nat) : List (List Byte) := d.img.safety.filter (fun r => uAt r 0 1 == kind)

/-- A connection's record. -/
def Dev.sconn (d : Dev) (c : Nat) : Option (List Byte) := (d.safeRecs 4).find? (fun r => uAt r 1 1 == c)

/-- A connection's state. -/
def Dev.conn (d : Dev) (c : Nat) : SafeConn := tget d.safe.conns c {}

/-- The device with a connection's state set. -/
def Dev.setConn (d : Dev) (c : Nat) (x : SafeConn) : Dev := { d with safe := { d.safe with conns := tset d.safe.conns c x } }

/-- R436, R437: what a line's slot brings to the connections whose area lies in it: the area's bytes, or, of a slot that is missing or
discarded, nothing. -/
def Dev.safeSlot (d : Dev) (p i : Nat) (payload : List Byte) : Dev :=
  d.each ((d.safeRecs 4).filter (fun r => uAt r 3 1 == 0 && uAt r 4 1 == p && uAt r 5 2 == i)) (fun d r =>
    let c := uAt r 1 1
    let x := d.conn c
    d.setConn c { x with inbox := x.inbox ++ [(if payload.isEmpty then [] else slice payload (uAt r 9 1) (uAt r 10 1), 0)] })

/-- R437, R483: a CAN frame of a connection. -/
def Dev.safeFrame (d : Dev) (c : Nat) (bytes : List Byte) (stamp : Word) : Dev :=
  let x := d.conn c
  d.setConn c { x with inbox := x.inbox ++ [(bytes, stamp)] }

/-- R437: the message bytes per fragment of a connection. -/
def fragBytes (r : List Byte) : Nat := if uAt r 3 1 == 0 then uAt r 12 1 - 1 else 63

/-- R436: a message cut into fragments: the header, START on the first, and the message bytes. -/
def fragmentsOf (b : Nat) : Nat → Bool → List Byte → List (List Byte)
  | 0, _, _ => []
  | n + 1, first, m =>
    if m.isEmpty then []
    else
      let part := m.take b
      (BitVec.ofNat 8 ((if first then 128 else 0) + part.length) :: part) :: fragmentsOf b n false (m.drop b)

/-- A safe axis's state. -/
def Dev.sax (d : Dev) (k : Nat) : SafeAxis := tget d.safe.axes k {}

/-- The device with a safe axis's state set. -/
def Dev.setSax (d : Dev) (k : Nat) (x : SafeAxis) : Dev := { d with safe := { d.safe with axes := tset d.safe.axes k x } }

/-- The safe axes that a drive connection serves (R420). -/
def Dev.saxesOfConn (d : Dev) (c : Nat) : List Nat :=
  ((d.safeRecs 2).filter (fun r => uAt r 4 1 == 1 && uAt r 5 1 == c)).map (fun r => uAt r 1 1)

/-- R441, R422: the next fragment of a connection leaves; with the last one of a message of PERMIT = 0 the drive's time begins. -/
def Dev.fragmentOut (d : Dev) (c : Nat) : Dev × Option (List Byte) :=
  let x := d.conn c
  match x.frags with
  | [] => (d, none)
  | f :: rest =>
    let d1 := (d.setConn c { x with frags := rest }).emit (.fragment c f)
    let d2 := if rest.isEmpty && !x.permit then d1.each (d1.saxesOfConn c) (fun d k =>
        d.setSax k { d.sax k with offNs := some ((d.sax k).offNs.getD d.ns) })
      else d1
    (d2, some f)

/-- R437, R441: the block of a slot takes the next fragment of each connection in it, or an idle one. -/
def Dev.safeBlock (d : Dev) (p i : Nat) (block : List Byte) : Dev × List Byte :=
  ((d.safeRecs 4).filter (fun r => uAt r 3 1 == 0 && uAt r 4 1 == p && uAt r 5 2 == i && uAt r 2 1 == 0)).foldl (fun acc r =>
    let x := acc.1.fragmentOut (uAt r 1 1)
    (x.1, splice acc.2 (uAt r 11 1) ((x.2.getD [] ++ List.replicate 12 0).take (uAt r 12 1)))) (d, block)

end Sys2Proof.Machine
end

