-- ==== Sys2Proof/Machine/Time.lean ====
section
/-! DEFINITION. The time base (spec/02_time_base.md): the reference, the step window and the step, the PTP slave and the
time comparators. -/

namespace Sys2Proof.Machine

open Sys2Proof

/-! ### Roles that the time base reads -/

/-- R67: the source that governs step and rate: PAIR on the standby, before its image is active as well, and on a new active unit until its
next Sync. -/
def Dev.timeSrc (d : Dev) : Nat :=
  if d.isStandby || (d.roleStandby && d.duo.peer.any (fun h => h.role == 1)) || d.time.pairSrc then 3 else d.fld R.TIME_CTL F.TIME_CTL.SRC

/-! ### The external reference (R40) -/

/-- R40: the external reference is lost: the PLL moves to the TCXO and REFLOSS is set. No external reference is present until
EXT_REF_RESTORED has reported one, and the loss of an absent one is no loss (DESIGN CHOICE, notes/assumptions/301.md). -/
def Dev.refLost (d : Dev) : Dev :=
  if d.time.ext.isNone then d
  else
    let sel := d.fld R.CLK_CTL F.CLK_CTL.REFSEL
    let d1 := (({ d with time := { d.time with ext := none, refHold := sel == 2 } }).setFld R.CLK_STAT F.CLK_STAT.EXTACT 0).setW1c
      R.CLK_STAT F.CLK_STAT.REFLOSS
    match sel with
    | 0 => d1.ev 0x0101 3
    | 2 => d1.ev 0x0101 5
    | _ => d1

/-- R40: the external reference has been present and in range for 1 s: with REFSEL = AUTO the PLL returns to it. -/
def Dev.refRestored (d : Dev) : Dev :=
  let d1 : Dev := { d with time := { d.time with ext := some (d.time.ext.getD (d.clk - fabHz)) } }
  if d1.fld R.CLK_CTL F.CLK_CTL.REFSEL == 0 then d1.setFld R.CLK_STAT F.CLK_STAT.EXTACT 1 else d1

/-- R38: REFSEL = 0b11 is answered with BADARG. -/
def clkCtlCheck (w : Word) : List Status := [need (getF w F.CLK_CTL.REFSEL != 3) .badArg]

/-- R40: what a write of CLK_CTL starts: with REFSEL = external the PLL goes, or after a loss returns, to the external
reference; with REFSEL = internal it runs from the TCXO. -/
def Dev.refsel (d : Dev) : Dev :=
  let present := d.time.ext.isSome
  let long := match d.time.ext with
    | some c => d.since c fabHz
    | none => false
  let act := match d.fld R.CLK_CTL F.CLK_CTL.REFSEL with
    | 0 => d.bit R.CLK_STAT F.CLK_STAT.EXTACT || long
    | 2 => present
    | _ => false
  ({ d with time := { d.time with refHold := false } }).setFld R.CLK_STAT F.CLK_STAT.EXTACT (if act then 1 else 0)

/-! ### The step window and the step (R45 to R47) -/

/-- R45: after a reset the step window opens; STEPWIN = 0 means no window. -/
def Dev.openWindow (d : Dev) : Dev :=
  ({ d with time := { d.time with winClk := d.clk } }).setFld R.TIME_STAT F.TIME_STAT.WINOPEN
    (if d.fld R.TIME_CTL F.TIME_CTL.STEPWIN = 0 then 0 else 1)

/-- R45: the step window is open. -/
def Dev.winOpen (d : Dev) : Bool := d.bit R.TIME_STAT F.TIME_STAT.WINOPEN

/-- R45: the step window closes. -/
def Dev.closeWindow (d : Dev) : Dev := d.setFld R.TIME_STAT F.TIME_STAT.WINOPEN 0

/-- R45: STEPWIN has elapsed since the window's opening. -/
def Dev.winElapsed (d : Dev) : Bool := d.since d.time.winClk (d.fld R.TIME_CTL F.TIME_CTL.STEPWIN * clksOfMs 100)

/-- A comparator is armed (R54). -/
def Dev.cmpArmed (d : Dev) (k : Nat) : Bool := d.bit (R.TIME_CMP_CTL k) F.TIME_CMP_CTL.ARMED

/-- R47: some time comparator is armed. -/
def Dev.anyCmpArmed (d : Dev) : Bool := (List.range 64).any (fun k => d.cmpArmed k)

/-- TIME_NS after a step by `ofs`. -/
def Dev.nsAfter (d : Dev) (ofs : Int) : Int := (d.ns : Int) + ofs

/-- R46, R64: the step: TIME_NS moves by the offset in one clock, STEPPED is set, the window closes and TIME_STEPPED is
logged with the offset. Base ticks follow TIME_NS (R43). -/
def Dev.makeStep (d : Dev) (ofs : Int) : Dev :=
  let tns := ((d.time.tns : Int) + ofs * 2 ^ 32).toNat
  let d1 : Dev := { d with time := { d.time with tns := tns, tick := tns / 2 ^ 32 / 31250 } }
  ((d1.setFld R.TIME_STAT F.TIME_STAT.STEPPED 1).closeWindow).ev 0x2001 2 (words64 ofs)

/-- R45, R47: the checks that hold for a step whatever its source. -/
def Dev.stepChecks (d : Dev) (ofs : Int) : List Status :=
  [need (decide (0 ≤ d.nsAfter ofs)) .badArg, need d.winOpen .denied, need (!d.anyCmpArmed) .conflict]

/-- R46: a step that a servo's measurement calls for, made if nothing forbids it. -/
def Dev.tryStep (d : Dev) (ofs : Int) : Dev := if lowest (d.stepChecks ofs) = .ok then d.makeStep ofs else d

/-- R46, R47: the checks of a host's step request. -/
def Dev.hostStepCheck (d : Dev) (ofs : Int) : List Status := d.stepChecks ofs ++ [need (d.timeSrc == 1) .conflict]

/-- R48: the checks of a host write of TIME_RATE. -/
def Dev.rateCheck (d : Dev) (w : Word) : List Status :=
  [need (decide (-2147483 ≤ w.toInt) && decide (w.toInt ≤ 2147483)) .badArg, need (decide (d.timeSrc < 2)) .conflict]

/-- R45: what a write of TIME_CTL starts: CLOSE closes the window, and so does a STEPWIN that has already elapsed. -/
def Dev.timeCtlDo (d : Dev) (w : Word) : Dev :=
  if getF w F.TIME_CTL.CLOSE == 1 || (d.winOpen && d.winElapsed) then d.closeWindow else d

/-- R52: the checks of a write of TIME_PTP_CFG. -/
def ptpCfgCheck (w : Word) : List Status :=
  let c := getF w F.TIME_PTP_CFG.CLAMP
  [need (getF w F.TIME_PTP_CFG.PORT != 3) .badArg, need (getF w F.TIME_PTP_CFG.TRANS != 3) .badArg,
   need (decide (1 ≤ c) && decide (c ≤ 50)) .badArg, need (getF w F.TIME_PTP_CFG.LOCKTHR != 0) .badArg]

/-! ### The PTP slave (R49 to R51) -/

/-- R50: a change of the servo's state is logged. -/
def Dev.setPtpState (d : Dev) (st : Nat) : Dev :=
  if d.fld R.TIME_STAT F.TIME_STAT.PTPST == st then d
  else (d.setFld R.TIME_STAT F.TIME_STAT.PTPST st).ev 0x2002 (if st == 3 then 3 else 2) [wN st]

/-- Clocks of CK_FAB in an interval of 2^n seconds. -/
def logClks (n : Int) : Nat := if 0 ≤ n then fabHz * 2 ^ n.toNat else fabHz / 2 ^ (-n).toNat

/-- A foreign master was heard within announceReceiptTimeout (3) of its Announce intervals. -/
def Dev.heardOf (d : Dev) (m : PtpMaster) : Bool :=
  match m.seen.head? with
  | some c => !d.since c (3 * logClks m.logInt)
  | none => false

/-- Foreign-master qualification: two Announce messages within 4 Announce intervals. -/
def Dev.qualified (d : Dev) (m : PtpMaster) : Bool :=
  decide (2 ≤ (m.seen.filter (fun c => !d.since c (4 * logClks m.logInt + 1))).length) && d.heardOf m

/-- R52: the host port that the slave uses: as configured, or X2, or X3 while X2 hears no Announce. -/
def Dev.ptpPort (d : Dev) : Nat :=
  match d.fld R.TIME_PTP_CFG F.TIME_PTP_CFG.PORT with
  | 0 => 0
  | 1 => 1
  | _ => if d.time.masters.any (fun m => m.2.port == 0 && d.heardOf m.2) then 0 else 1

/-- R52: the host ports on which the slave listens to Announce messages: the one configured, or both. -/
def Dev.ptpHears (d : Dev) (p : Nat) : Bool :=
  match d.fld R.TIME_PTP_CFG F.TIME_PTP_CFG.PORT with
  | 0 => p == 0
  | 1 => p == 1
  | _ => decide (p < 2)

/-- R49, R52: a PTP message is of the slave's transport, domain and majorSdoId. -/
def Dev.ptpTakes (d : Dev) (m : PtpHdr) : Bool :=
  m.trans == d.fld R.TIME_PTP_CFG F.TIME_PTP_CFG.TRANS && m.domain == d.fld R.TIME_PTP_CFG F.TIME_PTP_CFG.DOMAIN &&
  m.sdoId == d.fld R.TIME_PTP_CFG F.TIME_PTP_CFG.SDOID

/-- The data sets in comparison order: the first difference decides. -/
def listLt : List Nat → List Nat → Bool
  | [], [] => false
  | [], _ => true
  | _, [] => false
  | a :: as, b :: bs => a < b || (a == b && listLt as bs)

/-- The best of the qualified masters heard on the slave's port. -/
def Dev.bestMaster (d : Dev) : Option Nat :=
  (d.time.masters.foldl (fun (best : Option (Nat × PtpMaster)) e =>
    if e.2.port == d.ptpPort && d.qualified e.2 then
      match best with
      | none => some e
      | some b => if listLt e.2.data b.2.data then some e else some b
    else best) none).map (·.1)

/-- R49, R52: a message of the selected grandmaster on the slave's one port. -/
def Dev.ptpFromGm (d : Dev) (m : PtpHdr) : Bool := d.ptpTakes m && d.time.gm == some m.src && m.port == d.ptpPort

/-- R50: the grandmaster selected is lost: from LOCKED the servo holds the mean of its last 16 outputs, from ACQUIRING its last one. -/
def Dev.loseGm (d : Dev) (g : Nat) : Dev :=
  let d1 : Dev := { d with time := { d.time with
    gm := none, masters := tdel d.time.masters g, meas := 0, inLock := 0, dly := none, syncSeq := none, dreq := none } }
  if d1.fld R.TIME_STAT F.TIME_STAT.PTPST == 2 then
    let o := d1.time.outs
    let mean := if o.length = 0 then d1.rate else o.foldl (· + ·) 0 / (o.length : Int)
    let d2 := if d1.timeSrc == 2 then d1.setReg R.TIME_RATE (wI mean) else d1
    d2.setPtpState 3
  else d1.setPtpState 0

/-- R50, R52: no Announce of the grandmaster for announceReceiptTimeout intervals, or it is no longer on the slave's port. -/
def Dev.gmCheck (d : Dev) : Dev :=
  match d.time.gm with
  | none => d
  | some g =>
    let m := tget d.time.masters g {}
    if d.heardOf m && m.port == d.ptpPort then d else d.loseGm g

/-- The slave's grandmaster is `g`: a newly selected one begins its measurements anew, and the servo is ACQUIRING. -/
def Dev.selectGm (d : Dev) (g : Nat) : Dev :=
  if d.time.gm = some g then d
  else ({ d with time := { d.time with gm := some g, meas := 0, inLock := 0, dly := none, syncSeq := none, dreq := none } }).setPtpState 1

/-- R49, R50: an Announce message. -/
def Dev.ptpAnnounce (d : Dev) (m : PtpHdr) (data : List Nat) (logInt utc : Int) : Dev :=
  if !d.ptpTakes m || !d.ptpHears m.port then d
  else
    let old := tget d.time.masters m.src {}
    let new : PtpMaster :=
      { data := data, port := m.port, logInt := logInt, utc := utc,
        seen := (d.clk :: (if old.port == m.port then old.seen else [])).take 4 }
    let d1 : Dev := { d with time := { d.time with masters := tset d.time.masters m.src new } }
    match d1.bestMaster with
    | some g => (d1.selectGm g).setReg R.TIME_PTP_UTC (wI (tget d1.time.masters g {}).utc)
    | none => d1.gmCheck

/-- R50: one Sync message of the grandmaster has been measured: LOCKED after 16 in a row within the threshold. -/
def Dev.lockTest (d : Dev) (near : Bool) : Dev :=
  let k := if near then d.time.inLock + 1 else 0
  let d1 : Dev := { d with time := { d.time with inLock := k } }
  if decide (16 ≤ k) && d1.fld R.TIME_STAT F.TIME_STAT.PTPST == 1 then d1.setPtpState 2 else d1

/-- R50: an offset lies within LOCKTHR. -/
def Dev.nearLock (d : Dev) (ofs : Int) : Bool := decide (ofs.natAbs ≤ 10 * d.fld R.TIME_PTP_CFG F.TIME_PTP_CFG.LOCKTHR)

/-- R50: a Sync that no Delay_Resp has completed before the next one came counts with the last mean path delay; without that, or without its
origin time, it ends the run (DEDUCED, notes/assumptions/303.md). -/
def Dev.syncPassed (d : Dev) : Dev :=
  match d.time.syncSeq with
  | none => d
  | some (_, t2, t1) => d.lockTest (match t1, d.time.dly with
    | some t, some y => d.nearLock (t2 - t - y)
    | _, _ => false)

/-- R49: a Sync is stamped on receipt. The first Sync after a takeover ends SRC = PAIR (R67). -/
def Dev.ptpSync (d : Dev) (m : PtpHdr) (logInt : Int) (twoStep : Bool) (t1 : Int) : Dev :=
  if !d.ptpFromGm m || decide (logInt < -4) || decide (1 < logInt) then d
  else
    let d1 := d.syncPassed
    { d1 with time := { d1.time with
      syncSeq := some (m.seq, (d.ns : Int), if twoStep then none else some t1), dreq := none, pairSrc := false } }

/-- R49: a Follow_Up gives the origin time of its Sync. -/
def Dev.ptpFollowUp (d : Dev) (m : PtpHdr) (t1 : Int) : Dev :=
  if !d.ptpFromGm m then d
  else match d.time.syncSeq with
    | some (q, t2, none) =>
      if q == m.seq then { d with time := { d.time with syncSeq := some (q, t2, some t1) } } else d
    | _ => d

/-- R49: a Delay_Req is sent and stamped, once a Sync with its origin time is there. -/
def Dev.delayReq (d : Dev) : Dev :=
  match d.time.gm, d.time.syncSeq with
  | some g, some (_, _, some _) =>
    let port := (tget d.time.masters g {}).port
    { d with time := { d.time with dreq := some (d.time.dseq, (d.ns : Int)), dseq := (d.time.dseq + 1) % 65536 },
             out := d.out ++ [.net port 1 (le 2 d.time.dseq)] }
  | _, _ => d

/-- R50: the clamp of the servo in units of 2^-32 ns/ns. -/
def Dev.servoClamp (d : Dev) : Int := (d.fld R.TIME_PTP_CFG F.TIME_PTP_CFG.CLAMP : Int) * 10 * 2 ^ 32 / 1000000

/-- R50: one output of the servo, clamped; with SRC = PTP it is the rate. -/
def Dev.servoOut (d : Dev) : Dev :=
  let c := d.servoClamp
  let o := clampI (-c) c (Config.servo d.fresh)
  let d1 : Dev := { d with fresh := d.fresh + 1, time := { d.time with outs := (o :: d.time.outs).take 16 } }
  if d1.timeSrc == 2 then d1.setReg R.TIME_RATE (wI o) else d1

/-- R46, R48, R67: the rate of the standby comes from the pair servo, within the range of TIME_RATE. -/
def Dev.pairServo (d : Dev) : Dev :=
  if d.timeSrc == 3 && (!d.time.pairSrc || d.isStandby) then
    ({ d with fresh := d.fresh + 1 } : Dev).setReg R.TIME_RATE (wI (clampI (-2147483) 2147483 (Config.servo d.fresh)))
  else d

/-- R46, R50, R51: a complete offset measurement. The slave measures, moves through its states and logs TIME_FAR whatever SRC holds; only with
SRC = PTP does it step and set the rate (DESIGN CHOICE, notes/assumptions/302.md). -/
def Dev.ptpMeasured (d : Dev) (ofs dly : Int) : Dev :=
  let d1 := (d.setReg R.TIME_PTP_OFS (wI (sat32 ofs))).setReg R.TIME_PTP_DLY (wI dly)
  let n := d1.time.meas + 1
  let d2 : Dev := { d1 with time := { d1.time with meas := n, dly := some dly, syncSeq := none, dreq := none } }
  let steps := n == 2 && d2.timeSrc == 2 && lowest (d2.stepChecks (-ofs)) = .ok
  let d3 := (d2.servoOut).lockTest (d2.nearLock ofs)
  if steps then d3.makeStep (-ofs)
  else if !d3.winOpen && decide (1000000 < ofs.natAbs) then d3.ev 0x2003 3
  else d3

/-- R49: the port identity of the slave on a host port: the EUI-64 of its MAC address and port number 1 (PRESUMED, IEEE 1588,
notes/assumptions/304.md). -/
def portIdentity (p : Nat) : Nat :=
  let m := (Config.mac p).toNat
  ((m / 2 ^ 24 * 2 ^ 16 + 0xFFFE) * 2 ^ 24 + m % 2 ^ 24) * 2 ^ 16 + 1

/-- R49, R50: a Delay_Resp to the slave's own port identity `req` completes a measurement: offset ((t2 − t1) − (t4 − t3)) / 2, delay
((t2 − t1) + (t4 − t3)) / 2. -/
def Dev.ptpDelayResp (d : Dev) (m : PtpHdr) (req : Nat) (t4 : Int) : Dev :=
  if !d.ptpFromGm m || req != portIdentity m.port then d
  else match d.time.syncSeq, d.time.dreq with
    | some (_, t2, some t1), some (q, t3) =>
      if q == m.seq then d.ptpMeasured (((t2 - t1) - (t4 - t3)) / 2) (((t2 - t1) + (t4 - t3)) / 2) else d
    | _, _ => d

/-! ### Time comparators (R53 to R58) -/

/-- R53: the active image uses the comparator and owns it. -/
def Dev.cmpOwned (d : Dev) (k : Nat) : Bool := d.img.cmps.any (fun r => r.comp == k)

/-- R53, R58: the checks of a write of TIME_CMP_TGT or TIME_CMP_PER. -/
def Dev.cmpValCheck (d : Dev) (k : Nat) : List Status := [need (!d.cmpOwned k) .denied, need (!d.cmpArmed k) .busy]

/-- R56: an accepted period. -/
def cmpPerOk (p : Nat) : Bool := p == 0 || (decide (1000 ≤ p) && decide (p ≤ 2100000000))

/-- R138: a host comparator may start only a task with TRIG = 2 and HOSTOK = 1. -/
def Dev.hostMayStart (d : Dev) (task : Nat) : Bool := d.img.tasks.any (fun t => t.task == task && t.trig == 2 && t.hostOk)

/-- R53, R54, R56, R58, R138: the checks of a write of TIME_CMP_CTL; `w` is the written word. -/
def Dev.cmpCtlCheck (d : Dev) (k : Nat) (w : Word) : List Status :=
  let arm := getF w F.TIME_CMP_CTL.ARM == 1 && getF w F.TIME_CMP_CTL.DISARM == 0
  let act := getF w F.TIME_CMP_CTL.ACT
  let fire := fireAtCheck d.ts (d.reg (R.TIME_CMP_TGT k))
  [need (!d.cmpOwned k) .denied] ++
  (if arm then
    [need (decide (1 ≤ act) && decide (act ≤ 5)) .badArg, need (cmpPerOk (d.reg (R.TIME_CMP_PER k)).toNat) .badArg,
     need (act != 4 || d.hostMayStart (getF w F.TIME_CMP_CTL.OBJ)) .denied,
     need (!d.cmpArmed k) .busy, (if fire = .late && getF w F.TIME_CMP_CTL.LATEPOL == 1 then .ok else fire)]
   else [])

/-- A comparator is armed with its target and period as they stand (R56). -/
def Dev.cmpArm (d : Dev) (k : Nat) : Dev :=
  let tgt := d.reg (R.TIME_CMP_TGT k)
  let d1 := ({ d with time := { d.time with cmpTgt := tset d.time.cmpTgt k tgt } }).setFld (R.TIME_CMP_CTL k)
    F.TIME_CMP_CTL.ARMED 1
  if tsDiff tgt d.ts < 0 then (d1.setW1c (R.TIME_CMP_STAT k) F.TIME_CMP_STAT.LATE).evObj 0x2005 2 k else d1

/-- A comparator is disarmed. -/
def Dev.cmpDisarm (d : Dev) (k : Nat) : Dev :=
  ({ d with time := { d.time with cmpTgt := tdel d.time.cmpTgt k } }).setFld (R.TIME_CMP_CTL k) F.TIME_CMP_CTL.ARMED 0

/-- R57: the next target of a periodic comparator and the periods skipped. -/
def cmpNext (now tgt : Word) (per : Nat) : Word × Nat :=
  let t := tgt + wN per
  let late := tsDiff now t
  if late ≤ 0 then (t, 0)
  else
    let k := late.toNat / per + 1
    (t + wN (k * per), k)

/-- R54, R57: the action of a firing. Capture windows are gates of Sward (R506); a task starts as a triggered task. ACT can be rewritten while
the comparator is armed: a firing with an ACT other than 1 to 4 raises CMP_EVENT (DESIGN CHOICE, notes/assumptions/305.md). -/
def Dev.cmpAction (d : Dev) (k : Nat) (tgt : Word) : Dev :=
  let c := R.TIME_CMP_CTL k
  let obj := d.fld c F.TIME_CMP_CTL.OBJ
  match d.fld c F.TIME_CMP_CTL.ACT with
  | 1 => d.emit (.action k 1 obj)
  | 2 => { d with cap := { d.cap with gates := if d.cap.gates.contains (obj % 32) then d.cap.gates else (obj % 32) :: d.cap.gates } }
  | 3 => { d with cap := { d.cap with gates := d.cap.gates.filter (· != obj % 32), shut := d.cap.shut ++ d.cap.gates.filter (· == obj % 32) } }
  | 4 => d.startTask obj
  | _ => d.evObj 0x2006 1 k [tgt, wN (d.fld (R.TIME_CMP_STAT k) F.TIME_CMP_STAT.FIRED)]

/-- R57: one comparator fires if TIME_NS has reached its target. TIME_CMP_TGT goes on reading the target that was written; the next target of a
periodic one stands beside it (DESIGN CHOICE, notes/assumptions/306.md). -/
def Dev.cmpFire (d : Dev) (k : Nat) : Dev :=
  match tget? d.time.cmpTgt k with
  | none => d
  | some tgt =>
    if !d.cmpArmed k || decide (tsDiff d.ts tgt < 0) then d
    else
      let st := R.TIME_CMP_STAT k
      let per := (d.reg (R.TIME_CMP_PER k)).toNat
      let d1 := (d.setFld st F.TIME_CMP_STAT.FIRED (d.fld st F.TIME_CMP_STAT.FIRED + 1)).cmpAction k tgt
      if per = 0 then d1.cmpDisarm k
      else
        let (t, n) := cmpNext d.ts tgt per
        ({ d1 with time := { d1.time with cmpTgt := tset d1.time.cmpTgt k t } }).bump st F.TIME_CMP_STAT.MISSED n

/-- R58: what a write of TIME_CMP_CTL starts; DISARM prevails over ARM, and a firing of the clock of a DISARM takes place first. -/
def Dev.cmpCtlDo (d : Dev) (k : Nat) (w : Word) : Dev :=
  if getF w F.TIME_CMP_CTL.DISARM == 1 then (d.cmpFire k).cmpDisarm k
  else if getF w F.TIME_CMP_CTL.ARM == 1 then d.cmpArm k
  else d

/-- R58: every comparator that has reached its target fires, in index order. -/
def Dev.cmpFireAll (d : Dev) : Dev := d.each (List.range 64) Dev.cmpFire

/-- R66: all comparators are disarmed on entry to P3 or P4; the armed ones of the host are counted in CMP_CANCELLED. Their registers are class V
and are lost with the rest. -/
def Dev.cmpLoseAll (d : Dev) : Dev :=
  let n := ((List.range 64).filter (fun k => d.cmpArmed k && !d.cmpOwned k)).length
  let d1 := d.each (List.range 64) (fun d k => if d.cmpArmed k then d.cmpDisarm k else d)
  if n != 0 then d1.ev 0x2004 3 [wN n] else d1

/-- R53, R133: the registers of a comparator as a TIMECMP record of the image gives them, with a target in ns of TIME_NS. -/
def Dev.cmpFromImage (d : Dev) (r : CmpRec) (t : Nat) : Dev :=
  let c := R.TIME_CMP_CTL r.comp
  ((((d.setReg (R.TIME_CMP_TGT r.comp) (wN t)).setReg (R.TIME_CMP_PER r.comp) (wN r.per)).setFld c
    F.TIME_CMP_CTL.OWNIMG 1).setFld c F.TIME_CMP_CTL.ACT r.act).setFld c F.TIME_CMP_CTL.OBJ r.obj

/-- R53, R133: the comparators of the image are armed; their targets count from the first release of its schedule, `base` in ns of TIME_NS. -/
def Dev.cmpArmImage (d : Dev) (base : Nat) : Dev :=
  d.each d.img.cmps (fun d r => (d.cmpFromImage r (base + r.target)).cmpArm r.comp)

/-- R66: the comparators of the image are armed again on the return from P3 or P4, with targets that count from the first release of its
schedule: one that lies in the past moves on by whole periods, and a one-shot comparator whose target lies in the past stays disarmed (DESIGN
CHOICE, notes/assumptions/307.md). -/
def Dev.cmpRearmImage (d : Dev) (base : Nat) : Dev :=
  d.each d.img.cmps (fun d r =>
    let t := base + r.target
    let t1 := if r.per = 0 || decide (d.ns < t) then t else t + ((d.ns - t) / r.per + 1) * r.per
    let d1 := d.cmpFromImage r t1
    if d.ns < t1 then d1.cmpArm r.comp else d1)

/-! ### Commands -/

/-- EXT_REF_LOST (R40). -/
def execExtRefLost (s : State) : Host.Outcome State Fault Refusal := s.run Dev.refLost

/-- EXT_REF_RESTORED (R40). -/
def execExtRefRestored (s : State) : Host.Outcome State Fault Refusal := s.run Dev.refRestored

/-- STEP_WINDOW_EXPIRY (R45). -/
def execStepWindowExpiry (s : State) : Host.Outcome State Fault Refusal :=
  s.run (fun d => if d.winOpen && d.winElapsed then d.closeWindow else d)

/-- PTP_ANNOUNCE (R50). -/
def execPtpAnnounce (m : PtpHdr) (data : List Nat) (logInt utc : Int) (s : State) : Host.Outcome State Fault Refusal :=
  s.run (fun d => d.ptpAnnounce m data logInt utc)

/-- PTP_SYNC (R49). -/
def execPtpSync (m : PtpHdr) (logInt : Int) (twoStep : Bool) (t1 : Int) (s : State) : Host.Outcome State Fault Refusal :=
  s.run (fun d => d.ptpSync m logInt twoStep t1)

/-- PTP_FOLLOW_UP (R49). -/
def execPtpFollowUp (m : PtpHdr) (t1 : Int) (s : State) : Host.Outcome State Fault Refusal :=
  s.run (fun d => d.ptpFollowUp m t1)

/-- DELAY_REQ_SEND (R49). -/
def execDelayReqSend (s : State) : Host.Outcome State Fault Refusal := s.run Dev.delayReq

/-- PTP_DELAY_RESP (R50). -/
def execPtpDelayResp (m : PtpHdr) (resp : Nat × Int) (s : State) : Host.Outcome State Fault Refusal :=
  s.run (fun d => d.ptpDelayResp m resp.1 resp.2)

/-- ANNOUNCE_TIMEOUT (R50). -/
def execAnnounceTimeout (s : State) : Host.Outcome State Fault Refusal := s.run Dev.gmCheck

/-- CMP_FIRE (R57). -/
def execCmpFire (s : State) : Host.Outcome State Fault Refusal := s.run Dev.cmpFireAll

end Sys2Proof.Machine
end

