-- ==== Sys2Proof/Machine/Line.lean ====
section
/-! DEFINITION. The line rings (spec/03_line_rings.md): ports and their roles, the cycle, slots, joining, delay measurement,
breaks and healing, relay, cycle marks and staged group changes. -/

namespace Sys2Proof.Machine

open Sys2Proof

/-! ### Ports and slots -/

/-- The state of a port beside its registers. -/
def Dev.port (d : Dev) (p : Nat) : PortSt := tget d.line.ports p {}

/-- The device with a port's state set. -/
def Dev.setPort (d : Dev) (p : Nat) (x : PortSt) : Dev := { d with line := { d.line with ports := tset d.line.ports p x } }

/-- The device with a port's state changed. -/
def Dev.updPort (d : Dev) (p : Nat) (f : PortSt → PortSt) : Dev := d.setPort p (f (d.port p))

/-- The device with a slot's state set. -/
def Dev.setSlot (d : Dev) (p i : Nat) (x : SlotSt) : Dev :=
  { d with line := { d.line with slots := tset d.line.slots (slotKey p i) x } }

/-- LINE_SLOT_STAT.STATE (R110): 0 EMPTY, 1 JOINING, 2 ACTIVE, 3 MUTED. -/
def Dev.slotState (d : Dev) (p i : Nat) : Nat := d.fld (R.LINE_SLOT_STAT p i) F.LINE_SLOT_STAT.STATE

/-- A slot's STATE changes, and with it the counts of LINE_NODES (R109). -/
def Dev.setSlotState (d : Dev) (p i st : Nat) : Dev :=
  let old := d.slotState p i
  let n (d : Dev) (was is : Nat) (f : Fld) : Dev :=
    let c := d.fld (R.LINE_NODES p) f
    if old == was && st != is then d.setFld (R.LINE_NODES p) f (c - 1)
    else if old != was && st == is then d.setFld (R.LINE_NODES p) f (c + 1)
    else d
  (n (n d 2 2 F.LINE_NODES.JOINED) 3 3 F.LINE_NODES.MUTED).setFld (R.LINE_SLOT_STAT p i) F.LINE_SLOT_STAT.STATE st

/-- LINE_STAT.STATE (R108). -/
def Dev.portState (d : Dev) (p : Nat) : Nat := d.fld (R.LINE_STAT p) F.LINE_STAT.STATE

/-- The device with LINE_STAT.STATE of a port set. -/
def Dev.setPortState (d : Dev) (p st : Nat) : Dev := d.setFld (R.LINE_STAT p) F.LINE_STAT.STATE st

/-- LINE_STAT.STATE as it stands outside keep-alive (R108, R116): a line held in keep-alive goes back to it. -/
def Dev.phase (d : Dev) (p : Nat) : Nat := if d.portState p == 6 then (d.port p).resume else d.portState p

/-- The device with that state set. -/
def Dev.setPhase (d : Dev) (p st : Nat) : Dev :=
  if d.portState p == 6 then d.updPort p (fun x => { x with resume := st }) else d.setPortState p st

/-- R70: LINE_CFG.TOPO: 0 OPEN, 1 RING, 2 PAIR. -/
def Dev.topo (d : Dev) (p : Nat) : Nat := d.fld (R.LINE_CFG p) F.LINE_CFG.TOPO

/-- R106: N of a port. -/
def Dev.nodes (d : Dev) (p : Nat) : Nat := d.fld (R.LINE_CFG p) F.LINE_CFG.NODES

/-- R106: the period code of a port. -/
def Dev.portK (d : Dev) (p : Nat) : Nat := d.fld (R.LINE_CFG p) F.LINE_CFG.PERIOD

/-- R70: the port that sends for a port: LP2k for the second port of a ring. -/
def Dev.basePort (d : Dev) (p : Nat) : Nat := if p % 2 == 1 && d.topo (p - 1) == 1 then p - 1 else p

/-- R73: the period in ns; keep-alive cycles run at 4 ms (R116). -/
def Dev.portNs (d : Dev) (p : Nat) : Nat := if (d.port p).keepAlive then periodNs 7 else periodNs (d.portK p)

/-- R73: U0 for N slots. -/
def slotsStart (n : Nat) : Nat := 192 + 8 * (16 * n + 5) + 192

/-- R73: UE for N slots. -/
def slotsEnd (n : Nat) : Nat := slotsStart n + 320 * n

/-- R108: a port that sends cycle starts of its own. -/
def sendingState (st : Nat) : Bool := decide (2 ≤ st) && decide (st ≤ 6)

/-- Whether a port sends at present: as its own sender, as the second end of a healed ring, or as a relay (R96, R100). -/
def Dev.sends (d : Dev) (p : Nat) : Bool :=
  let b := d.basePort p
  if b == p then sendingState (d.portState p) || (d.port p).relaying else d.phase b == 4

/-- The slots of a port that nodes hold. -/
def Dev.heldSlots (d : Dev) (p : Nat) : List Nat := (List.range (d.nodes p)).filter (fun i => d.slotState p i == 2)

/-- No node holds a slot on the port (R72). -/
def Dev.noneHeld (d : Dev) (p : Nat) : Bool := d.fld (R.LINE_NODES p) F.LINE_NODES.JOINED == 0

/-- A slot put in its place by descending H. -/
def physInsert (h : Nat → Nat) (i : Nat) : List Nat → List Nat
  | [] => [i]
  | x :: rest => if h i ≤ h x then x :: physInsert h i rest else i :: x :: rest

/-- R93: the slots in physical order from the sending end: by descending H from that end; behind them, nearest last, those that only the
other end has measured. -/
def Dev.physOrder (d : Dev) (p : Nat) : List Nat :=
  let held := d.heldSlots p
  let order (h : Nat → Option Nat) (l : List Nat) : List Nat :=
    (l.filter (fun i => (h i).isSome)).foldl (fun acc i => physInsert (fun j => (h j).getD 0) i acc) []
  order (fun i => (d.slot p i).h0) held ++
    (order (fun i => (d.slot p i).h1) (held.filter (fun i => (d.slot p i).h0.isNone))).reverse

/-- The place of a slot in physical order. -/
def Dev.physIndex (d : Dev) (p i : Nat) : Option Nat := (d.physOrder p).findIdx? (· == i)

/-- R96, R100: a slot lies in the far segment of a healed or relayed line: beyond the break, or heard there where its place is not known. -/
def Dev.isFar (d : Dev) (p i : Nat) : Bool :=
  (d.phase p == 4 || d.phase p == 5) &&
  (match d.physIndex p i, (d.port p).brkIx with
    | some k, some n => decide (n ≤ k)
    | _, _ => (d.slot p i).far)

/-- R118: a line event that carries the port. -/
def Dev.lineEv (d : Dev) (code sev p : Nat) (data : List Word := []) : Dev := d.evObj code sev p data

/-- R118: a line event that carries port and slot. -/
def Dev.slotEv (d : Dev) (code sev p : Nat) (i : Option Nat) (data : List Word := []) : Dev := d.evAt code sev p i data

/-- R80: the rank of a frame type in the fallow window. -/
def acyclicPrio (typ : Nat) : Nat :=
  match typ with
  | 0x14 => 1
  | 0x17 => 2 | 0x19 => 2
  | 0x20 => 3 | 0x22 => 3 | 0x23 => 3
  | 0x38 => 5
  | _ => 4

/-- A frame joins those that wait for the fallow window of a port, at its rank (R80). -/
def Dev.acyclic (d : Dev) (p typ adr : Nat) (body : List Byte) : Dev :=
  d.updPort p (fun x => { x with queue := x.queue ++ [⟨acyclicPrio typ, typ, adr, body⟩] })

/-- R96: the ports on which a frame for a slot of the line leaves: on a healed ring that of its segment, and both for all nodes. -/
def Dev.endsOf (d : Dev) (p adr : Nat) : List Nat :=
  if d.topo p == 1 && d.phase p == 4 then (if adr == 0xFFFF then [p, p + 1] else if d.isFar p adr then [p + 1] else [p]) else [p]

/-- A frame for a slot of a line, or for all its nodes, joins those that wait. -/
def Dev.send (d : Dev) (p typ adr : Nat) (body : List Byte) : Dev := d.each (d.endsOf p adr) (fun d q => d.acyclic q typ adr body)

/-- R79, R80: an acyclic frame leaves a port. -/
def Dev.sendNow (d : Dev) (p typ adr : Nat) (body : List Byte) : Dev := d.emit (.line p typ (acyclicBytes typ adr body))

/-! ### The pair's state (R544, R545, R561) -/

/-- The device with the pair's state set. -/
def Dev.setDuo (d : Dev) (x : PairSt) : Dev := { d with duo := x }

/-- PAIR_STAT.MSTATE: 0 NONE, 1 SYNCING, 2 READY, 3 LOST. -/
def Dev.mstate (d : Dev) : Nat := d.fld R.PAIR_STAT F.PAIR_STAT.MSTATE

/-- The device with MSTATE set. -/
def Dev.setMstate (d : Dev) (st : Nat) : Dev := d.setFld R.PAIR_STAT F.PAIR_STAT.MSTATE st

/-- R544: the mirror point. -/
def Dev.mpoint (d : Dev) : Nat := d.pair R.PAIR_MPOINT_LO R.PAIR_MPOINT_HI

/-- The device with the mirror point set. -/
def Dev.setMpoint (d : Dev) (n : Nat) : Dev := d.setPair R.PAIR_MPOINT_LO R.PAIR_MPOINT_HI n

/-- R540, R545, R560: a standby asks for a full copy. -/
def Dev.askCopy (d : Dev) : Dev :=
  (((d.setDuo { d.duo with copyWait := true, copying := false, early := [], gapTick := none }).setMstate 1).inc R.PAIR_CNT_RESYNC).linkSend 7 []

/-! ### Roles (R85 to R88) -/

/-- R115: cycle starts may be sent: an image is active, or the null image, and the step window has closed. -/
def Dev.mayCycle (d : Dev) : Bool := d.running && !d.winOpen

/-- R88, R470: the unit takes a role. A standby unit holds its outputs at SAFE. -/
def Dev.roleIs (d : Dev) (role : Nat) : Dev := (d.setFld R.LINE_GSTAT F.LINE_GSTAT.ROLE role).dioAllSafe (role == 2)

/-- R88: the port that decides the unit's role. -/
def Dev.setRole (d : Dev) (p role : Nat) : Dev :=
  if d.fld R.LINE_GSTAT F.LINE_GSTAT.ROLE == role then d else (d.roleIs role).lineEv 0xA00F 2 p

/-- R88: the first port that decides the unit's role decides it for the unit. -/
def Dev.decideRole (d : Dev) (p role : Nat) : Dev :=
  if d.fld R.LINE_GSTAT F.LINE_GSTAT.ROLE != 0 then d else d.setRole p role

/-- A port falls silent. A marker in flight is still measured when it returns (R72). -/
def Dev.silencePort (d : Dev) (p : Nat) : Dev :=
  if d.portState p == 0 then d
  else (d.setPortState p 7).updPort p (fun x => { x with
    listening := false, queue := [], healPending := false, relayPending := false, restorePending := false, keepAlive := false,
    relaying := false })

/-- The ports in their order. -/
def allPorts : List Nat := List.range 24

/-- R107: a write of START: a port in OFF enters LISTEN. -/
def Dev.portStart (d : Dev) (p : Nat) : Dev :=
  let d1 := ((d.setPortState p 1).setFld (R.LINE_STAT p) F.LINE_STAT.CLASHES 0).setReg (R.LINE_LOOPDLY p) 0xFFFFFFFF#32
  d1.updPort p (fun x => { x with
    listening := d.mayCycle, listenClk := d.clk, heardNs := none, stopAsked := false, goodLast := false, markerNs := none,
    backoffEnd := none, keepAlive := false })

/-- R115: the listening of R85 begins once the image is active and the step window has closed. -/
def Dev.beginListening (d : Dev) : Dev :=
  d.each allPorts (fun d p => if d.portState p == 1 && !(d.port p).listening && d.mayCycle then
    d.updPort p (fun x => { x with listening := true, listenClk := d.clk }) else d)

/-- The port leaves sending altogether. A marker in flight is still measured when it returns (R72). -/
def Dev.portOff (d : Dev) (p : Nat) : Dev :=
  (d.setPortState p 0).updPort p (fun x => { x with
    listening := false, stopAsked := false, queue := [], keepAlive := false, relaying := false, backoffEnd := none,
    healPending := false, restorePending := false, relayPending := false })

/-- R107: a write of STOP ends sending after the current cycle. -/
def Dev.portStop (d : Dev) (p : Nat) : Dev :=
  if sendingState (d.portState p) then d.updPort p (fun x => { x with stopAsked := true }) else d.portOff p

/-- R106: the checks of a write of LINE_CFG; the words before and after. -/
def Dev.lineCfgCheck (d : Dev) (p : Nat) (old new : Word) : List Status :=
  let ch (f : Fld) : Bool := getF old f != getF new f
  let k := getF new F.LINE_CFG.PERIOD
  [need (!ch F.LINE_CFG.MISSLIM || getF new F.LINE_CFG.MISSLIM != 0) .badLen,
   need (!ch F.LINE_CFG.PERIOD || decide (2 ≤ k)) .badArg,
   need (!ch F.LINE_CFG.TOPO || getF new F.LINE_CFG.TOPO != 3) .badArg,
   need (!ch F.LINE_CFG.NODES || decide (getF new F.LINE_CFG.NODES ≤ 6144)) .badArg,
   need (!(ch F.LINE_CFG.PERIOD || ch F.LINE_CFG.TOPO || ch F.LINE_CFG.NODES) || d.portState p == 0) .conflict]

/-- R107: the checks of a write of LINE_CTL. START is answered with CONFLICT in FAULT as well, which a STOP ends (R87; DESIGN CHOICE,
notes/assumptions/401.md). -/
def Dev.lineCtlCheck (d : Dev) (p : Nat) (w : Word) : List Status :=
  let stop := getF w F.LINE_CTL.STOP == 1
  let start := getF w F.LINE_CTL.START == 1 && !stop
  [need (!start || d.nodes p == 0 || decide (2 ≤ d.portK p)) .notReady,
   need (!start || d.portState p == 0) .conflict,
   need (!stop || !((d.axesOfPort p).any (fun a => d.axEnabled a))) .conflict]

/-- R107: what a write of LINE_CTL starts. -/
def Dev.lineCtlDo (d : Dev) (p : Nat) (w : Word) : Dev :=
  let d1 := if getF w F.LINE_CTL.REDISC == 1 then d.updPort p (fun x => { x with
    restorePending := x.restorePending || d.phase p == 4 || d.phase p == 5, remeasure := true }) else d
  if getF w F.LINE_CTL.STOP == 1 then d1.portStop p
  else if getF w F.LINE_CTL.START == 1 then d1.portStart p
  else d1

/-- R111: the checks of a write of LINE_MARK_OFS and LINE_MARK_CTL; the mark registers of LP2k+1 of a ring do not
exist (R102). -/
def Dev.markCheck (d : Dev) (p : Nat) (ofs : Option Nat) (act : Option Nat) : List Status :=
  [need (match ofs with | some o => decide (o < periodNs (d.portK p)) | none => true) .badArg,
   need (match act with | some a => a != 3 | none => true) .badArg, need (d.basePort p == p) .notReady]

/-- R85, R88: the port has listened for 2 of its cycle periods and heard no other unit: it begins to send. -/
def Dev.listenExpiry (d : Dev) (p : Nat) : Dev :=
  let x := d.port p
  if d.portState p != 1 || !x.listening || !d.mayCycle || d.nodes p == 0 ||
      !d.since x.listenClk (clksOfNs (2 * periodNs (d.portK p))) then d
  else
    let role := d.fld R.LINE_GSTAT F.LINE_GSTAT.ROLE
    if role == 2 || role == 3 then d.silencePort p
    else
      ((d.setRole p 1).setPortState p 2).updPort p (fun y => { y with
        listening := false, goodLast := false, markerNs := none })

/-- The longest configured period of the unit's started ports, in ns (R87). -/
def Dev.longestNs (d : Dev) : Nat :=
  allPorts.foldl (fun m p => if d.portState p != 0 && d.nodes p != 0 then max m (periodNs (d.portK p)) else m) 0

/-- R67, R86: the unit falls silent on all its ports, its time base follows the pair again, and it listens for one full cycle, the longest of its started ports (notes/assumptions/403.md). -/
def Dev.demote (d : Dev) (p : Nat) : Dev :=
  let was := d.fld R.LINE_GSTAT F.LINE_GSTAT.ROLE == 1
  let d0 : Dev := { d with time := { d.time with pairSrc := false } }
  let d1 := (d0.each allPorts Dev.silencePort).roleIs 3
  { d1 with line := { d1.line with demote := some (p, d.clk + clksOfNs d.longestNs, was) } }

/-- R86, R555: after that cycle the unit takes the standby role; one that was ACTIVE enters SYNCING. -/
def Dev.demoteExpiry (d : Dev) : Dev :=
  match d.line.demote with
  | none => d
  | some (p, c, was) =>
    if d.clk < c then d
    else
      let d0 : Dev := { d with line := { d.line with demote := none } }
      let d1 := d0.setRole p 2
      if was && d.bit R.PAIR_CFG F.PAIR_CFG.EN then (d1.ev 0xF00B 5).askCopy else d1

/-- R87: equal ranks: all ports fall silent and back off for a random 1 to 16 of the longest configured periods; after 8
clashes since the last START the unit stays in FAULT. `p` is the port of the clash; none where the pairing link decides (R540). -/
def Dev.rankClash (d : Dev) (p : Option Nat) : Dev :=
  let (r, d0) := d.free
  let endClk := d0.clk + clksOfNs ((r % 16 + 1) * d0.longestNs)
  let d1 := d0.setW1c R.LINE_GSTAT F.LINE_GSTAT.RANKCLASH
  let d2 := match p with
    | some q => (d1.lineEv 0xA00E 5 q).setRole q 3
    | none => (d1.ev 0xA00E 5).roleIs 3
  let d3 := d2.each (allPorts.filter (fun q => d.portState q != 0)) (fun d q =>
    (d.silencePort q).bump (R.LINE_STAT q) F.LINE_STAT.CLASHES 1)
  if allPorts.any (fun q => decide (8 ≤ d3.fld (R.LINE_STAT q) F.LINE_STAT.CLASHES)) then
    d3.each (allPorts.filter (fun q => d.portState q != 0)) (fun d q => d.setPortState q 8)
  else
    d3.each (allPorts.filter (fun q => d.portState q != 0)) (fun d q =>
      d.updPort q (fun x => { x with backoffEnd := some endClk }))

/-- R548, R550: a line is heard. While the pairing link is lost, the standby's time follows it. A line on which the active unit is heard again is
whole, and its relay ends (R100; DESIGN CHOICE, notes/assumptions/404.md). -/
def Dev.hearCycle (d : Dev) (p : Nat) (f : CycFrame) : Dev :=
  let d1 := (d.updPort p (fun x => { x with
    heardNs := some d.ns, heardK := if bitAt f.flags 2 then 7 else f.k, heardKa := bitAt f.flags 2, relaying := false })).setReg (R.LINE_CYCLE p) (wN f.cycle)
  let d2 := if d.duo.lineLost then d1 else d1.setFld R.PAIR_STAT F.PAIR_STAT.LINESUP 1
  if d.duo.linkLost then d2.pairServo else d2

/-- R71, R85 to R88, R555: a valid cycle-start frame whose UNIT is not the unit's own arrives. A unit recognises its own frames
by UNIT. An unconfigured port shows SILENT for what it hears (DESIGN CHOICE, notes/assumptions/404.md). -/
def Dev.foreignCycle (d : Dev) (p : Nat) (f : CycFrame) : Dev :=
  let st := d.portState p
  if f.unit == Config.serial.toNat % 65536 || st == 8 then d
  else if d.nodes p == 0 then (if d.basePort p == p then d.setPortState p 7 else d)
  else if st == 0 then d
  else if sendingState st then
    let own := d.fld R.LINE_GCFG F.LINE_GCFG.RANK
    let rank := f.flags / 16 % 16
    let d1 := if d.bit R.PAIR_CFG F.PAIR_CFG.EN then (d.setW1c R.PAIR_STAT F.PAIR_STAT.DUAL).ev 0xF006 7 else d
    if rank < own then d1.demote p
    else if own < rank then d1
    else d1.rankClash (some p)
  else
    let d1 := d.hearCycle p f
    if st == 1 && (d.port p).listening then
      -- R563: a unit that has restarted finds the lines running
      let d2 := if d.fld R.LINE_GSTAT F.LINE_GSTAT.ROLE == 0 && d.bit R.PAIR_CFG F.PAIR_CFG.EN then d1.ev 0xF00B 5 else d1
      ((d2.decideRole p 2).silencePort p)
    else d1

/-- A cycle-start frame arrives at a port; one that is not valid is no frame (R75). -/
def Dev.hearFrame (d : Dev) (p : Nat) (w : List Byte) : Dev :=
  match cycFrameOf w with
  | some f => d.foreignCycle p f
  | none => d

/-- R87: after the back-off the unit listens again under R85, its role undecided. -/
def Dev.clashExpiry (d : Dev) : Dev :=
  let due := allPorts.filter (fun p => d.portState p == 7 && (match (d.port p).backoffEnd with
    | some c => decide (c ≤ d.clk)
    | none => false))
  if due.isEmpty then d
  else
    (d.setFld R.LINE_GSTAT F.LINE_GSTAT.ROLE 0).each due (fun d p =>
      (d.setPortState p 1).updPort p (fun x => { x with
        backoffEnd := none, listening := d.mayCycle, listenClk := d.clk, heardNs := none }))

/-! ### Breaks (R92, R95 to R101, R664) -/

/-- CYCLE[15:0] of the port's next cycle. -/
def Dev.nextCyc16 (d : Dev) (p : Nat) : Nat := ((d.reg (R.LINE_CYCLE p)).toNat + 1) % 65536

/-- R95, R98: a break is declared on a port: the number of nodes before it, if known, and the slots on its two sides. On a line that is whole
but for one break any sign that does not name another place is a sign of that one; once the ring is healed, or the segment relayed, a sign that
does not name its place is a second break. -/
def Dev.declareBreak (d : Dev) (p : Nat) (ix before after : Option Nat) : Dev :=
  let b := d.basePort p
  let x := d.port b
  let inDiscover := d.phase b == 2 && d.noneHeld b
  let healed := d.phase b == 4 || d.phase b == 5
  let further := x.brk &&
    (if healed then x.brk2 || (ix.isSome && ix == x.brkIx) else ix.isNone || x.brkIx.isNone || ix == x.brkIx)
  if inDiscover || further || !sendingState (d.portState b) then d
  else
    let d1 := ((d.lineEv 0xA009 4 b).setW1c (R.LINE_STAT b) F.LINE_STAT.BREAK).setReg (R.LINE_BREAKPOS b)
      (putF (putF 0 F.LINE_BREAKPOS.LAST (before.getD 0x1FFF)) F.LINE_BREAKPOS.FIRST (after.getD 0x1FFF))
    let phys := d.physOrder b
    let island : List Nat := match healed, x.brkIx, ix with
      | true, some a, some c => if a ≤ c then (phys.drop a).take (c - a) else (phys.drop c).take (a - c)
      | _, _, _ => []
    let d2 := if healed then d1.lineEv 0xA00D 5 b (wordsList island) else d1
    let pairUp := d.bit R.PAIR_STAT F.PAIR_STAT.LINKUP
    d2.updPort b (fun y => { y with
      brk := true, brk2 := y.brk2 || healed, brkIx := if healed then y.brkIx else ix, joinSusp := true, validCyc := 0,
      suspCyc := d.nextCyc16 b, healPending := y.healPending || (d.topo b == 1 && !healed),
      relayPending := y.relayPending || (d.topo b == 2 && pairUp && !healed) })

/-- R95: the break at a known place: `n` nodes stand before it. -/
def Dev.breakAt (d : Dev) (p n : Nat) : Dev :=
  let phys := d.physOrder (d.basePort p)
  d.declareBreak p (some n) (if n = 0 then none else phys[n - 1]?) phys[n]?

/-- R69: a port's receive link comes up. -/
def Dev.lineLinkUp (d : Dev) (p : Nat) : Dev :=
  if (d.port p).linkUp then d
  else ((d.updPort p (fun x => { x with linkUp := true, upClk := d.clk })).setFld (R.LINE_STAT p) F.LINE_STAT.LOS 0).lineEv
    0xA001 2 p

/-- R69, R95: a port's link goes down. -/
def Dev.lineLinkDown (d : Dev) (p : Nat) : Dev :=
  let b := d.basePort p
  let d1 := ((d.updPort p (fun x => { x with linkUp := false })).setFld (R.LINE_STAT p) F.LINE_STAT.LOS 1).lineEv 0xA002 4 p
  d1.breakAt p (if b == p then 0 else (d.physOrder b).length)

/-- R95: a LINK_DOWN frame from the node of slot `i`: its far port is down, so the break lies beyond it. -/
def Dev.linkDownAt (d : Dev) (p i : Nat) : Dev :=
  let b := d.basePort p
  match d.physIndex b i with
  | some k => d.breakAt p (if b == p then k + 1 else k)
  | none => d.declareBreak p none (if b == p then some i else none) (if b == p then none else some i)

/-- R80, R95: a LINK_DOWN frame: PORT and ALIAS. A node without a slot index is known by its ALIAS. -/
def Dev.linkDownFrame (d : Dev) (p : Nat) (w : List Byte) : Dev :=
  match acyclicIn 0x1A 3 w with
  | some (adr, b) =>
    let base := d.basePort p
    let slot := if adr != 0xFFFF then some adr
      else (d.heldSlots base).find? (fun i => d.fld (R.LINE_SLOT_STAT base i) F.LINE_SLOT_STAT.ALIAS == uAt b 1 2)
    (match slot with
      | some i => d.linkDownAt p i
      | none => d.declareBreak p none none none)
  | none => d

/-- R97, R99: the port goes back to normal operation at a cycle start. -/
def Dev.restoreRing (d : Dev) (p : Nat) : Dev :=
  if d.phase p == 4 || d.phase p == 5 then
    ((d.setPhase p 3).updPort p (fun x => { x with
      brk := false, brk2 := false, brkIx := none, restorePending := false, healPending := false, relayPending := false, grace := 3,
      joinSusp := true, validCyc := 0, suspCyc := d.nextCyc16 p })).lineEv 0xA00C 2 p
  else d.updPort p (fun x => { x with restorePending := false })

/-- R99: every link of the ring has been up for 1 s: the port's own ends and both links of every node that holds a
slot. -/
def Dev.allLinksUp (d : Dev) (p : Nat) : Bool :=
  let own (q : Nat) : Bool := (d.port q).linkUp && d.since (d.port q).upClk fabHz
  own p && (d.topo p != 1 || own (p + 1)) &&
  (d.heldSlots p).all (fun i => (d.slot p i).links == 3 && d.since (d.slot p i).linksClk fabHz)

/-- R99: with AUTORST = 1 the ring is restored, at the next cycle start. -/
def Dev.ringRestore (d : Dev) (p : Nat) : Dev :=
  if (d.phase p == 4 || d.phase p == 5) && d.bit (R.LINE_CFG p) F.LINE_CFG.AUTORST && d.allLinksUp p then
    d.updPort p (fun x => { x with restorePending := true })
  else d

/-! ### The cycle (R73 to R78) -/

/-- R116: the missing-slot rules are suspended in keep-alive. -/
def Dev.countsSlots (d : Dev) (p i : Nat) : Bool :=
  let st := d.slotState p i
  let x := d.slot p i
  !(d.port p).keepAlive && (st == 2 || st == 3 || (st == 1 && (match x.firstCyc with
    | some c => decide (0 ≤ tsDiff (d.reg (R.LINE_CYCLE p)) (wN c))
    | none => false)))

/-- R84: the account of the cycle that ends: a slot that did not arrive is counted, and the runs without a usable slot and
without any slot go on or end. -/
def Dev.closeSlots (d : Dev) (p : Nat) : Dev :=
  d.each ((List.range (d.nodes p)).filter (fun i => d.countsSlots p i)) (fun d i =>
    let x := d.slot p i
    let d0 := if x.any then d else d.inc (R.LINE_CNT_MISS p)
    let d1 := if !x.any || d.slotState p i == 3 then d0.safeSlot p i [] else d0
    d1.setSlot p i { x with
      any := false, usable := false, sdAt := none, noUse := if x.usable then 0 else x.noUse + 1,
                            absent := if x.any then 0 else x.absent + 1 })

/-- R75: FLAGS of a cycle start. -/
def Dev.cycleFlags (d : Dev) (p : Nat) : Nat :=
  let x := d.port p
  (if d.phase p == 4 then 1 else 0) + (if x.relaying then 2 else 0) + (if x.keepAlive then 4 else 0) +
  (if d.bit (R.LINE_CTL p) F.LINE_CTL.JOINEN && !x.joinSusp then 8 else 0) + 16 * d.fld R.LINE_GCFG F.LINE_GCFG.RANK

/-- R140: T is reached and T + 4 ms is not. -/
def Dev.switching (d : Dev) : Bool :=
  match d.loader.job with
  | .switching _ _ _ => true
  | _ => false

/-- R76, R140: block `i` of a port's train: VALID = 0 for an empty slot, a muted node and a block without a fresh command. Between T and T + 4 ms
of an activation each block repeats its last payload as a fresh command. -/
def Dev.slotBlock (d : Dev) (p i seq : Nat) : List Byte :=
  let x := d.port p
  let body := tget x.blocks i []
  blockBytes (d.slotState p i == 2 && (x.fresh.contains i || (d.switching && !body.isEmpty))) seq body

/-- R76, R100: the blocks of a train; on a relay those that the active unit has delivered, and VALID = 0 for the rest. -/
def Dev.trainBlocks (d : Dev) (p : Nat) : List (List Byte) :=
  let x := d.port p
  let seq := (d.reg (R.LINE_CYCLE p)).toNat
  (List.range (d.nodes p)).map (fun i =>
    if x.relaying then (tget? x.relayed i).getD (blockBytes false seq []) else d.slotBlock p i seq)

/-- R73, R75, R76: the cycle-start frame and the train leave a port. -/
def Dev.sendCycle (d : Dev) (p q : Nat) : Dev :=
  let f : CycFrame := { flags := d.cycleFlags p, k := if (d.port p).keepAlive then 7 else d.portK p,
                        cycle := (d.reg (R.LINE_CYCLE p)).toNat, time := d.ns, unit := Config.serial.toNat % 65536 }
  let d1 := d.emit (.line q 0x01 (cycFrameBytes f))
  if (d.port p).keepAlive then d1 else d1.emit (.line q 0x02 (trainBytes (d.trainBlocks p)))

/-- R43, R73: the number of the port's present period and whether its cycle start is due. -/
def Dev.cycleDue (d : Dev) (p : Nat) : Option Nat :=
  let n := d.ns / d.portNs p
  if (d.port p).lastTick == some n then none else some n

/-- R93: the one-way delay of a slot from the end whose loop delay is `loop`. -/
def oneWay (loop h : Nat) : Nat := (loop - h) / 2

/-- R93: NODE_TIMING of a slot: the delays from both ends and the transmit offsets, each for the node port it is fed on
from that end; 0xFFFF_FFFF is not known. -/
def Dev.nodeTiming (d : Dev) (p i : Nat) : Dev :=
  let x := d.slot p i
  let none_ : Nat := 0xFFFFFFFF
  let nominal := slotsStart (d.nodes p) + 320 * i + 48
  let v (y : Option Nat) : Nat := y.getD none_
  let tx (y : Option Nat) : Nat := match y with
    | some t => nominal - t
    | none => none_
  -- FEED names the port of the end that feeds the node at present
  let near := (x.feed == 0) == !d.isFar p i
  let (a, b) := if near then (x.dly0, x.dly1) else (x.dly1, x.dly0)
  d.send p 0x16 i (le 4 (v a) ++ le 4 (v b) ++ le 4 (tx a) ++ le 4 (tx b))

/-- R92, R96, R97: the ring heals, or the segment beyond the break is relayed, from this cycle on: joins are suspended, the grace runs, the nodes
beyond the break are sent their timing in the first fallow window, and all delays are measured again. -/
def Dev.healTurn (d : Dev) (p st code : Nat) : Dev :=
  let d1 := (((d.setPhase p st).updPort p (fun y => { y with
    healPending := false, relayPending := false, remeasure := true, grace := 3, validCyc := 0, suspCyc := d.nextCyc16 p })).lineEv code
      (if st == 4 then 3 else 4) p).inc (R.LINE_CNT_HEAL p)
  d1.each ((d1.heldSlots p).filter (fun i => d1.isFar p i)) (fun d i => d.nodeTiming p i)

/-- R72, R96, R99, R100: what the port takes up at a cycle start, before it sends. -/
def Dev.cycleTurn (d : Dev) (p : Nat) : Dev :=
  let x := d.port p
  let d1 := if x.restorePending then d.restoreRing p else d
  let d2 := if (d1.port p).healPending then d1.healTurn p 4 0xA00A
    else if (d1.port p).relayPending then d1.healTurn p 5 0xA00B
    else d1
  if d2.phase p == 2 && x.goodLast then d2.setPhase p 3 else d2

/-- R100: the standby's relay: blocks that have not arrived 10 µs before the cycle start go with VALID = 0. -/
def Dev.relayTurn (d : Dev) (p start : Nat) : Dev :=
  let x := d.port p
  if x.relayed.isEmpty || decide (start < x.relayNs + 10000) then
    (d.updPort p (fun y => { y with relayed := [] })).lineEv 0xA013 3 p
  else d

/-- R73: a cycle start of a port. A relay takes CYCLE from the blocks delivered, and counts on without them (R100). -/
def Dev.cycleStart (d : Dev) (p : Nat) : Dev :=
  match d.cycleDue p with
  | none => d
  | some n =>
    let b := d.basePort p
    if b != p || !d.sends p then d
    else if (d.port p).stopAsked then d.portOff p
    else
      let d1 := ((d.closeSlots p).updPort p (fun x => { x with grace := x.grace - 1 })).cycleTurn p
      let start := n * d1.portNs p
      let x := d1.port p
      let cyc := if x.relaying && !x.relayed.isEmpty then wN x.relayCyc else d1.reg (R.LINE_CYCLE p) + 1
      let d2 := (if x.relaying then d1.relayTurn p start else d1).setReg (R.LINE_CYCLE p) cyc
      let d3 := d2.updPort p (fun x => { x with cycleNs := start, lastTick := some n, marks := [] })
      let d4 := d3.sendCycle p p
      let d5 := if d4.phase p == 4 then
          (d4.sendCycle p (p + 1)).updPort (p + 1) (fun x => { x with cycleNs := start })
        else d4
      d5.updPort p (fun x => { x with fresh := [], relayed := [] })

/-- R78: at P − 256 ns the cycle-end marker leaves. A marker that has not returned by then is missing (R95). -/
def Dev.markerSend (d : Dev) (p : Nat) : Dev :=
  let b := d.basePort p
  let x := d.port p
  if !d.sends p || decide (d.ns < x.cycleNs + d.portNs b - 256) then d
  else
    let d1 := if x.markerNs.isSome then
        (d.updPort p (fun y => { y with goodLast := false, validCyc := 0 })).declareBreak p none none none
      else d
    let cyc := (d.reg (R.LINE_CYCLE b)).toNat % 65536
    (d1.updPort p (fun y => { y with markerNs := some d.ns, markerCyc := cyc })).emit (.line p 0x0F (markerBytes cyc 0))

/-- R72, R95, R664: a cycle-end marker returns. Its loop delay is measured in every state of the port; the rest is judged while the port
sends. The count of R92 begins again at a cycle that is not full and valid (DESIGN CHOICE, notes/assumptions/408.md). -/
def Dev.markerReturn (d : Dev) (p : Nat) (w : List Byte) : Dev :=
  let x := d.port p
  match x.markerNs with
  | none => d
  | some t0 =>
    let b := d.basePort p
    let dly := d.ns - t0
    let long := decide (d.portNs b < 2 * dly)
    let hops? := match markerOf w with
      | some (c, h) => if c == x.markerCyc then some h else none
      | none => none
    let good := hops?.isSome
    let was := d.bit (R.LINE_STAT p) F.LINE_STAT.LOOPLONG
    let d1 := (d.setReg (R.LINE_LOOPDLY p) (wN dly)).setFld (R.LINE_STAT p) F.LINE_STAT.LOOPLONG (if long then 1 else 0)
    let d2 := if long && !was then d1.lineEv 0xA010 5 p else d1
    let d3 := d2.updPort p (fun y => { y with
      markerNs := none, goodLast := good && !long, validCyc := if !good then 0
        else if (x.markerCyc + 65536 - (d.port b).suspCyc) % 65536 < 32768 then y.validCyc + 1 else y.validCyc })
    let held := (d.heldSlots b).length
    let split := d.phase b == 4 || d.phase b == 5
    let expect := if split then
        (match (d.port b).brkIx with
          | some k => if b == p then k else held - k
          | none => 0)
      else held
    if !d.sends p then d3
    else match hops? with
      | none => d3.declareBreak p none none none
      | some hops =>
        if hops < expect then d3.breakAt p (if b == p then hops else held - hops)
        else if d.topo b == 0 && (d.port b).brk && hops == held then
          (d3.updPort b (fun y => { y with brk := false, brkIx := none })).lineEv 0xA00C 2 b
        else d3

/-! ### Slots (R81 to R84) -/

/-- The bits of a payload field as a number (R132). -/
def fieldBits (payload : List Byte) (byte bit width : Nat) : Nat := (unle payload / 2 ^ (8 * byte + bit)) % 2 ^ width

/-- R127, R132: an upstream field in its fabric form: fractions stand left-justified, a signed field is sign-extended, a bit
field stands as it is. -/
def fieldIn (fmt width v : Nat) : Word :=
  match fmt with
  | 0 => wN (v * 2 ^ (32 - width))
  | 1 => wN (v * 2 ^ (32 - width)) &&& 0xFFFF0000#32
  | 2 => wI (signed width v)
  | _ => wN v

/-- R127, R132: a fabric value as the bits of a downstream field. -/
def fieldOut (fmt width : Nat) (w : Word) : Nat :=
  match fmt with
  | 0 => w.toNat / 2 ^ (32 - width)
  | 1 => w.toNat / 2 ^ (32 - width)
  | _ => w.toNat % 2 ^ width

/-- R31, R132: the upstream fields of a node feed their channels. -/
def Dev.takeUpstream (d : Dev) (p i : Nat) (payload : List Byte) : Dev :=
  match d.slotRec p i with
  | none => d
  | some r =>
    d.each (d.img.io.filter (fun m => m.dir == 1 && decide (r.firstEp ≤ m.ep) && decide (m.ep < r.firstEp + r.epCount)))
      (fun d m => d.chanStore m.chan (fieldIn m.fmt m.width (fieldBits payload m.byte m.bit m.width)))

/-- R105: a member node that is muted or has lost its slot has not staged, and does not count as applied. -/
def Dev.grpForget (d : Dev) (p i : Nat) : Dev :=
  { d with line := { d.line with groups := d.line.groups.map (fun e =>
    (e.1, { e.2 with staged := e.2.staged.filter (· != (p, i)), applied := e.2.applied.filter (· != (p, i)) })) } }

/-- R81: the trim of a slot: −e, an even number of ns. -/
def Dev.sendTrim (d : Dev) (p i : Nat) (e : Int) : Dev :=
  d.send p 0x17 i (le 1 (d.slot p i).feed ++ le 2 (modN 16 (-(e / 2) * 2)))

/-- R81, R83: a placement discard is charged to a slot; the third in a row mutes it, but not in the grace of R97. -/
def Dev.chargeSlot (d : Dev) (p i : Nat) (e : Int) : Dev :=
  let st := R.LINE_SLOT_STAT p i
  let n := d.fld st F.LINE_SLOT_STAT.CONSEC + 1
  let d1 := (d.setFld st F.LINE_SLOT_STAT.CONSEC (min n 3)).sendTrim p i e
  if decide (3 ≤ n) && (d.port p).grace == 0 then
    ((((d1.send p 0x19 i (le 1 1)).setSlotState p i 3).inc (R.LINE_CNT_MUTE p)).grpForget p i).slotEv 0xA005 4 p (some i)
  else d1

/-- R90: the first usable slot of a granted node. -/
def Dev.slotJoined (d : Dev) (p i : Nat) : Dev :=
  if d.slotState p i == 1 then
    let x := d.slot p i
    ((d.setSlotState p i 2).setSlot p i { x with join := none }).slotEv 0xA006 1 p (some i)
  else d

/-- R81 to R84: an upstream slot is received at position `i` of a port; `far` says that it came in at LP2k+1 or through the
standby. `p` is the port that sends. A slot whose SLOTHDR names another index counts as one that fails its CRC (DESIGN CHOICE,
notes/assumptions/407.md). -/
def Dev.slotArrival (d : Dev) (p i : Nat) (far : Bool) (f : SlotFrame) : Dev :=
  let st := d.slotState p i
  let r := R.LINE_SLOT_STAT p i
  let x := d.slot p i
  let due := st == 2 || (st == 1 && d.countsSlots p i)
  if st == 3 then d.setSlot p i { x with any := true }
  else if !due || (d.port p).keepAlive then d
  else
    let prev := if i = 0 then none else (d.slot p (i - 1)).sdAt
    let ovr := (match f.nextE with | some e' => decide (48 < f.e - e') | none => false) ||
      (match prev with | some e' => decide (48 < e' - f.e) | none => false)
    let y := { x with any := true, sdAt := some f.e, far := far }
    let z := match slotBodyOf f.wire with
      | some b => if b.index == i then some b else none
      | none => none
    let base (y : SlotSt) : Dev :=
      ((d.setSlot p i y).setFld r F.LINE_SLOT_STAT.OFS (modN 8 (clampI (-128) 127 (f.e / 2)))).setFld r F.LINE_SLOT_STAT.FAR
        (if far then 1 else 0)
    match z with
    | none => (((base y).inc (R.LINE_CNT_CRC p)).slotEv 0xA004 3 p (some i)).safeSlot p i []
    | some b =>
      let links := b.status % 4
      let y1 := { y with
        feed := b.feed, links := links, linksClk := if links == 3 && x.links != 3 then d.clk else x.linksClk, status := b.status,
        synced := b.synced, loopBack := b.loopBack }
      let d1 := base y1
      let ae := f.e.natAbs
      if b.seq != (d.reg (R.LINE_CYCLE p)).toNat % 256 then
        ((d1.inc (R.LINE_CNT_MISS p)).slotEv 0xA004 3 p (some i)).safeSlot p i []
      else if ovr || decide (40 < ae) then
        let d2 := ((d1.safeSlot p i []).inc (R.LINE_CNT_DISC p)).slotEv 0xA004 3 p (some i)
        if 24 < ae then d2.chargeSlot p i f.e else d2
      else
        let d2 := if 24 < ae then
            ((d1.inc (R.LINE_CNT_DRIFT p)).slotEv 0xA003 3 p (some i)).sendTrim p i f.e
          else d1
        let d3 := ((d2.setFld r F.LINE_SLOT_STAT.CONSEC 0).setFld r F.LINE_SLOT_STAT.STALE 0).setSlot p i
          { y1 with usable := true, noUse := 0, payload := b.payload, sampleNs := (d.port p).cycleNs }
        ((d3.slotJoined p i).takeUpstream p i b.payload).safeSlot p i b.payload

/-- R84: MISSLIM cycles in a row without a usable slot: the endpoints of the node carry STALE. -/
def Dev.slotStale (d : Dev) (p i : Nat) : Dev :=
  let x := d.slot p i
  let now := if x.usable then 0 else x.noUse
  if !(d.port p).keepAlive && d.slotState p i != 0 && d.slotState p i != 1 &&
      decide (d.fld (R.LINE_CFG p) F.LINE_CFG.MISSLIM ≤ now) then
    d.setFld (R.LINE_SLOT_STAT p i) F.LINE_SLOT_STAT.STALE 1
  else d

/-- R84: 16 cycles in a row without any slot: the slot is EMPTY and the node has lost it. -/
def Dev.nodeLost (d : Dev) (p i : Nat) : Dev :=
  let x := d.slot p i
  if !(d.port p).keepAlive && d.slotState p i != 0 && !x.any && decide (16 ≤ x.absent) then
    let d1 := ((d.setSlotState p i 0).setSlot p i {}).setReg (R.LINE_SLOT_STAT p i)
      (putF 0 F.LINE_SLOT_STAT.STALE 1)
    ((d1.grpForget p i).slotEv 0xA007 4 p (some i)).send p 0x19 i (le 1 5)
  else d

/-! ### The fallow window (R80, R90) -/

/-- The time of an acyclic frame on the wire in ns (R79). -/
def Acyclic.ns (a : Acyclic) : Nat := 8 * (11 + a.body.length)

/-- R80: the frames in order of priority, first come first of equals. -/
def acyclicInsert (a : Acyclic) : List Acyclic → List Acyclic
  | [] => [a]
  | x :: rest => if x.prio ≤ a.prio then x :: acyclicInsert a rest else a :: x :: rest

/-- R80: a frame that starts at `t` and lasts `n` is put off past the wire marks that it would meet. Each mark puts it off at most once, so as
many passes as there are marks leave none that it meets. -/
def pastMarks (marks : List Nat) (t n : Nat) : Nat :=
  marks.foldl (fun t _ => marks.foldl (fun t m => if t < m + 96 && m < t + n then m + 96 else t) t) t

/-- Sending of frames from time `t` to `stop`: those sent and those left. -/
def fitFrames (marks : List Nat) (stop : Nat) : Nat → List Acyclic → List Acyclic × List Acyclic × Nat
  | t, [] => ([], [], t)
  | t, a :: rest =>
    let t0 := pastMarks marks t a.ns
    if t0 + a.ns ≤ stop then
      let (s, l, e) := fitFrames marks stop (t0 + a.ns) rest
      (a :: s, l, e)
    else
      let (s, l, e) := fitFrames marks stop t rest
      (s, a :: l, e)

/-- The offsets of the enabled wire marks of a port. -/
def Dev.wireMarks (d : Dev) (p : Nat) : List Nat :=
  ((List.range 16).filter (fun m => d.bit (R.LINE_MARK_CTL p m) F.LINE_MARK_CTL.EN &&
    d.bit (R.LINE_MARK_CTL p m) F.LINE_MARK_CTL.WIRE)).map (fun m => d.fld (R.LINE_MARK_OFS p m) F.LINE_MARK_OFS.OFS)

/-- R90: WIN: the largest number of whole µs, at most 64, after which a JOIN_REQ still ends inside the window. -/
def joinWin (t stop : Nat) : Nat := min 64 ((stop - (t + 176)) / 1000)

/-- R140: the LINES records of a port. -/
def Image.portRecs (i : Image) (p : Nat) : List PortRec × List SlotRec :=
  (i.ports.filter (fun r => r.port == p), i.slots.filter (fun r => r.port == p))

/-- R140: the LINES records of a port differ between two images. -/
def portChanged (old new : Image) (p : Nat) : Bool := !(old.portRecs p == new.portRecs p)

/-- R140: the port's present cycle ends at the instant T of an armed activation that changes its records: a MUTE with REASON 4 is due in its
fallow window. With KEEPITEMS the last 125 µs before T decide whether the activation takes place (R141). -/
def Dev.muteDue (d : Dev) (p : Nat) : Bool :=
  match d.loader.job, d.loader.nextImage with
  | .armed t keep, some i =>
    portChanged d.img i (d.basePort p) && !(d.port p).changed && decide (t ≤ (d.port p).cycleNs + d.portNs (d.basePort p)) &&
      (!keep || decide (t ≤ d.ns + 125000))
  | _, _ => false

/-- R140: the MUTE of a port whose records change. -/
def Dev.muteAll (d : Dev) (p : Nat) : Dev :=
  (d.updPort p (fun x => { x with changed := true })).sendNow p 0x19 0xFFFF (le 1 4)

/-- R90: JOIN_GRANT leaves with FIRSTCYC 2 cycles after the cycle it is sent in. -/
def Dev.stampGrant (d : Dev) (p : Nat) (a : Acyclic) : Dev × Acyclic :=
  if a.typ == 0x12 then
    let first := ((d.reg (R.LINE_CYCLE p)).toNat + 2) % 2 ^ 32
    (d.setSlot p a.adr { d.slot p a.adr with firstCyc := some first },
      { a with body := a.body.take 4 ++ le 4 first ++ a.body.drop 8 })
  else (d, a)

/-- R663: the 2 cycles that a join waits for an answer begin with the cycle in which its DELAY_PROBE or PLACE_TEST is
sent. -/
def Dev.stampJoin (d : Dev) (p : Nat) (a : Acyclic) : Dev :=
  let cyc := (d.reg (R.LINE_CYCLE p)).toNat
  d.each ((List.range (d.nodes p)).filter (fun i => (a.typ == 0x14 || (a.typ == 0x18 && a.adr == i)))) (fun d i =>
    let x := d.slot p i
    match x.join with
    | some j =>
      if !j.sent && ((a.typ == 0x14 && j.step == 3) || (a.typ == 0x18 && j.step == 4)) then
        d.setSlot p i { x with join := some { j with cycle := cyc, sent := true } }
      else d
    | none => d)

/-- R91: a JOIN_REQ is refused, or a join given up, with a reason; 0 is abandoned without a JOIN_NAK. -/
def Dev.joinReject (d : Dev) (p : Nat) (slot : Option Nat) (alias_ reason : Nat) : Dev :=
  let d1 := if reason = 0 then d else d.send p 0x13 0xFFFF (le 2 alias_ ++ le 1 reason)
  d1.slotEv 0xA008 4 p slot [wN reason]

/-- A join ends without success: the slot is EMPTY again. -/
def Dev.joinDrop (d : Dev) (p i reason : Nat) : Dev :=
  let al := d.fld (R.LINE_SLOT_STAT p i) F.LINE_SLOT_STAT.ALIAS
  ((((d.setSlotState p i 0).setFld (R.LINE_SLOT_STAT p i) F.LINE_SLOT_STAT.ALIAS 0).setSlot p i {}).joinReject p (some i) al
    reason)

/-- The start of the present cycle at an end of a line: of the port's own cycle, of the ring that it ends, or of the line that a standby hears. -/
def Dev.endCycleNs (d : Dev) (p : Nat) : Nat :=
  let b := d.basePort p
  if d.sends p then (d.port p).cycleNs else if b != p then (d.port b).cycleNs else d.ns / d.portNs p * d.portNs p

/-- R93: a port is an end of a line without sending cycle starts: LP2k+1 of a ring that LP2k serves, or a standby's end of a PAIR line that it
hears. Delay probes alone leave it. -/
def Dev.probeEnd (d : Dev) (p : Nat) : Bool :=
  let b := d.basePort p
  !d.sends p && (if b != p then sendingState (d.portState b)
    else d.isStandby && d.topo p == 2 && d.portState p == 7 && (match (d.port p).heardNs with
      | some t => decide (d.ns ≤ t + 8000000)
      | none => false))

/-- A join has a frame of its next step among those that wait. -/
def Dev.stepWaits (d : Dev) (p i : Nat) : Bool :=
  (((d.port p).queue ++ (d.port (p + 1)).queue).any (fun a => a.adr == i && (a.typ == 0x16 || a.typ == 0x18 || a.typ == 0x12)))

/-- R663: while joins are suspended a join's next step is a JOIN_NAK with reason BUSY in place of its frames. -/
def Dev.joinsBusy (d : Dev) (p : Nat) : Dev :=
  if !(d.port p).joinSusp then d
  else d.each ((List.range (d.nodes p)).filter (fun i => d.slotState p i == 1 && d.stepWaits p i)) (fun d i =>
    let drop (d : Dev) (q : Nat) : Dev := d.updPort q (fun x => { x with
      queue := x.queue.filter (fun a => !(a.adr == i && (a.typ == 0x16 || a.typ == 0x18 || a.typ == 0x12 || a.typ == 0x17))) })
    ((drop d p).when (d.topo p == 1) (fun d => drop d (p + 1))).joinDrop p i 5)

/-- R80: frames leave a port, at the instants that the order of priority gives them. -/
def Dev.sendAll (d : Dev) (b p : Nat) (l : List Acyclic) : Dev :=
  d.each l (fun d a =>
    let (d2, c) := (d.stampJoin b a).stampGrant b a
    d2.sendNow p c.typ c.adr c.body)

/-- R80, R90: the frames of a fallow window. DISCOVER stands among the join traffic, before MBX. In keep-alive, and at an end that sends no cycle
starts, only delay probes leave. -/
def Dev.fallow (d : Dev) (p : Nat) : Dev :=
  let b := d.basePort p
  let ka := (d.port b).keepAlive
  let start := d.endCycleNs p
  let ue := if ka then 192 else slotsEnd (d.nodes b)
  let stop := d.portNs b - 256
  if !(d.sends p || d.probeEnd p) || (d.port p).fallowNs == some start || decide (d.ns < start + ue) || decide (start + stop ≤ d.ns) then d
  else
    let probes := ka || !d.sends p
    let d0 := ((if d.sends p && d.muteDue p then d.muteAll p else d).when (!probes) (fun d => d.joinsBusy b)).updPort p (fun y => { y with
      fallowNs := some start })
    let q := (d0.port p).queue
    let sorted := (if probes then q.filter (fun a => a.typ == 0x14) else q).foldl (fun acc a => acyclicInsert a acc) []
    let marks := d.wireMarks b
    let (sent, left, t) := fitFrames marks stop ue (sorted.filter (fun a => decide (a.prio ≤ 4)))
    let disc := Acyclic.mk 4 0x10 0xFFFF [0]
    let t1 := pastMarks marks t disc.ns + disc.ns
    let win := joinWin t1 stop
    let discover := !probes && d0.bit (R.LINE_CTL b) F.LINE_CTL.JOINEN && !(d0.port b).joinSusp && decide (t1 + 176 < stop) && decide (1 ≤ win)
    let (sent5, left5, _) := fitFrames marks stop (if discover then t1 else t) (sorted.filter (fun a => decide (4 < a.prio)))
    let d1 := (d0.updPort p (fun y => { y with
      queue := (if probes then q.filter (fun a => a.typ != 0x14) else []) ++ left ++ left5 })).sendAll b p sent
    (if discover then d1.sendNow p 0x10 0xFFFF (le 1 win) else d1).sendAll b p sent5

/-! ### Joining (R89 to R93, R663) -/

/-- The slot record of a port that carries a node alias number. -/
def Dev.slotOfAlias (d : Dev) (p al : Nat) : Option SlotRec := d.img.slots.find? (fun r => r.port == p && r.nodeAlias == al)

/-- R93: a delay probe leaves each end that exists; its ID is even from the sending end and odd from the other. The far end of a PAIR line is the
standby's, which sends its own (DESIGN CHOICE, notes/assumptions/409.md). -/
def Dev.delayProbe (d : Dev) (p : Nat) : Dev :=
  let id := 2 * ((d.reg (R.LINE_CYCLE p)).toNat % 32768)
  if d.isStandby then d.acyclic p 0x14 0xFFFF (le 2 (id + 1))
  else
    let d1 := d.acyclic p 0x14 0xFFFF (le 2 id)
    if d.topo p == 1 then d1.acyclic (p + 1) 0x14 0xFFFF (le 2 (id + 1)) else d1

/-- R116: joins are held while the line runs keep-alive cycles. -/
def Dev.joinsHeld (d : Dev) (p : Nat) : Bool := (d.port p).keepAlive

/-- R90, R91: a JOIN_REQ, with ALIAS, TYPECODE, SERIAL and EPCOUNT, that arrives at port `q` of a line. A second one of the node whose join is in
progress is ignored, and another node's is a DUPLICATE (DESIGN CHOICE, notes/assumptions/406.md). -/
def Dev.joinReq (d : Dev) (q alias_ typeCode serial epCount : Nat) : Dev :=
  let p := d.basePort q
  let rec_ := d.slotOfAlias p alias_
  let x := d.port p
  let slot := rec_.map (·.slot)
  if !sendingState (d.portState p) || d.joinsHeld p then d
  else if x.joinSusp || !d.bit (R.LINE_CTL p) F.LINE_CTL.JOINEN then d.joinReject p slot alias_ 5
  else match rec_ with
    | none => d.joinReject p none alias_ 1
    | some r =>
      let st := d.slotState p r.slot
      if r.typeCode != typeCode || r.epCount != epCount then d.joinReject p slot alias_ 2
      else if st == 2 || (st == 1 && (match (d.slot p r.slot).join with | some j => j.serial != serial | none => true)) then
        d.joinReject p slot alias_ 3
      else if st == 1 then d
      else
        let d1 := ((d.setSlotState p r.slot 1).setFld (R.LINE_SLOT_STAT p r.slot) F.LINE_SLOT_STAT.ALIAS alias_).setSlot p r.slot
          { far := p != q, join := some { step := 3, serial := serial, cycle := (d.reg (R.LINE_CYCLE p)).toNat } }
        (d1.setFld (R.LINE_SLOT_STAT p r.slot) F.LINE_SLOT_STAT.CONSEC 0).delayProbe p

/-- R80: the JOIN_REQ that bytes spell. A frame that collides fails its CRC and is none. -/
def Dev.joinReqFrame (d : Dev) (q : Nat) (w : List Byte) : Dev :=
  match acyclicIn 0x11 11 w with
  | some (_, b) => d.joinReq q (uAt b 0 2) (uAt b 2 4) (uAt b 6 4) (uAt b 10 1)
  | none => d

/-- R90: the offset from the cycle start at which a test slot is to arrive: the middle of the fallow window. -/
def Dev.testAt (d : Dev) (p : Nat) : Nat := (slotsEnd (d.nodes p) + (periodNs (d.portK p) - 256)) / 2

/-- R663: a join at its next step while joins are suspended is refused with BUSY. -/
def Dev.joinStep (d : Dev) (p i : Nat) (f : Dev → Dev) : Dev :=
  if (d.port p).joinSusp then d.joinDrop p i 5 else f d

/-- R93: L as measured from an end. While the line is whole its loop is the same path from either end (DEDUCED, notes/assumptions/409.md);
from the standby's end of a relayed segment the active unit does not know it. -/
def Dev.loopFrom (d : Dev) (p : Nat) (far : Bool) : Option Nat :=
  let v (q : Nat) : Option Nat := let l := (d.reg (R.LINE_LOOPDLY q)).toNat; if l == 0xFFFFFFFF then none else some l
  if !far then v p else if d.phase p == 5 then none else if d.phase p == 4 then v (p + 1) else v p

/-- R90, R93: the reports that a join waits for have come: from both ends of a whole ring, else from the end that reaches the node. -/
def Dev.allRpts (d : Dev) (p : Nat) (j : JoinSt) : Bool :=
  if d.topo p == 1 && d.phase p != 4 then j.rpt0 && j.rpt1 else j.rpt0 || j.rpt1

/-- R90 steps 3 and 4, R93: a DELAY_RPT for the probe `id`, from the node of slot `i`, or of the join that waits for it. The node port that a
joining node is fed on is taken to be N0 (DESIGN CHOICE, notes/assumptions/405.md). -/
def Dev.delayRpt (d : Dev) (p i id h : Nat) : Dev :=
  let st := d.slotState p i
  let x := d.slot p i
  if st == 0 || st == 3 then d
  else
    let far := id % 2 == 1
    let dly := (d.loopFrom p far).map (fun l => oneWay l h)
    let y := if far then { x with h1 := some h, dly1 := dly } else { x with h0 := some h, dly0 := dly }
    match st, x.join with
    | 1, some j =>
      if j.step != 3 || d.joinsHeld p then d
      else
        let j1 := if far then { j with rpt1 := true } else { j with rpt0 := true }
        let d1 := d.setSlot p i { y with join := some j1 }
        if !d.allRpts p j1 then d1
        else d1.joinStep p i (fun d =>
          let d2 := (d.setSlot p i { y with join := some { j1 with
            step := 4, cycle := (d.reg (R.LINE_CYCLE p)).toNat, sent := false } }).nodeTiming p i
          d2.send p 0x18 i (le 1 y.feed ++ le 4 (d2.testAt p)))
    | _, _ => (d.setSlot p i y).nodeTiming p i

/-- R80: a DELAY_RPT: ID and H. A node without a slot sends ADDR 0xFFFF; the operand says which join it belongs to. -/
def Dev.delayRptFrame (d : Dev) (p i : Nat) (w : List Byte) : Dev :=
  match acyclicIn 0x15 6 w with
  | some (adr, b) => if adr == i || adr == 0xFFFF then d.delayRpt p i (uAt b 0 2) (uAt b 2 4) else d
  | none => d

/-- R90: JOIN_GRANT: per endpoint its group and the group's fallback mode; FIRSTCYC is set as the frame leaves. An endpoint that serves no axis
is in no group, and FALLBACK is 0xF0 without one (DESIGN CHOICE, notes/assumptions/201.md and 410.md). -/
def Dev.joinGrant (d : Dev) (p i : Nat) (j : JoinSt) : Dev :=
  let x := d.slot p i
  let eps : List Byte := match d.slotRec p i with
    | some r => (List.range r.epCount).flatMap (fun k =>
        match d.img.axes.find? (fun a => a.kind != 0 && a.ep == r.firstEp + k) with
        | some a => if a.group == 0xFFFF then le 2 0xFFFF ++ le 1 0xF0
            else le 2 a.group ++ le 1 (d.fld (R.GRP_CFG a.group) F.GRP_CFG.FALLBACK)
        | none => le 2 0xFFFF ++ le 1 0xF0)
    | none => []
  let al := d.fld (R.LINE_SLOT_STAT p i) F.LINE_SLOT_STAT.ALIAS
  (d.setSlot p i { x with firstCyc := none, join := some { j with step := 6 } }).send p 0x12 i
    (le 2 al ++ le 2 i ++ le 4 0 ++ eps)

/-- R90 steps 5 and 6: the test slot of a join is measured. One that fails its CRC is none. -/
def Dev.testSlot (d : Dev) (p i : Nat) (f : SlotFrame) : Dev :=
  let x := d.slot p i
  match d.slotState p i, x.join, slotBodyOf f.wire with
  | 1, some j, some b =>
    if j.step == 4 && j.sent && !d.joinsHeld p then
      d.joinStep p i (fun d =>
        let d0 := d.setSlot p i { x with feed := b.feed }
        if f.e.natAbs ≤ 24 then d0.joinGrant p i j
        else if 4 ≤ j.tests + 1 then d0.joinDrop p i 4
        else
          let j1 := { j with tests := j.tests + 1, cycle := (d.reg (R.LINE_CYCLE p)).toNat, sent := false }
          ((d0.setSlot p i { x with feed := b.feed, join := some j1 }).sendTrim p i f.e).send p 0x18 i
            (le 1 b.feed ++ le 4 (d.testAt p)))
    else d
  | _, _, _ => d

/-- R663: no DELAY_RPT or test slot within 2 cycles of the frame: the join is abandoned. A frame that has not left yet is not waited for. -/
def Dev.joinTimeout (d : Dev) (p i : Nat) : Dev :=
  match d.slotState p i, (d.slot p i).join with
  | 1, some j =>
    if decide (j.step ≤ 4) && j.sent && !d.joinsHeld p && decide (2 < tsDiff (d.reg (R.LINE_CYCLE p)) (wN j.cycle)) then d.joinDrop p i 0
    else d
  | _, _ => d

/-- R92: joins resume after 3 full valid cycles in the new configuration. -/
def Dev.joinSuspendEnd (d : Dev) (p : Nat) : Dev :=
  let x := d.port p
  if x.joinSusp && decide (3 ≤ x.validCyc) then d.setPort p { x with joinSusp := false } else d

/-- R93: every 2^DLYPER cycles, and when a remeasurement is asked for, a delay probe leaves each end. -/
def Dev.delayProbeCycle (d : Dev) (p : Nat) : Dev :=
  let cyc := (d.reg (R.LINE_CYCLE p)).toNat
  if d.basePort p == p && (sendingState (d.portState p) || d.probeEnd p) &&
      ((d.port p).remeasure || cyc % 2 ^ d.fld (R.LINE_CFG p) F.LINE_CFG.DLYPER == 0) then
    (d.updPort p (fun x => { x with remeasure := false })).delayProbe p
  else d

/-! ### Relay (R100) -/

/-- R100: a RELAY_BLK frame gives the standby the blocks of a relayed segment for the cycle `cycle`, 16 bytes each. -/
def Dev.relayBlk (d : Dev) (p cycle : Nat) (blocks : List (Nat × List Byte)) : Dev :=
  if !d.isStandby then d
  else d.updPort p (fun x => { x with
    relaying := true, relayed := tabNorm (blocks.map (fun e => (e.1, slice e.2 0 16))), relayNs := d.ns, relayCyc := cycle })

/-- R81, R100: a slot arrives at a port: on the second end of a healed ring it belongs to the sending port's table; on a
standby that relays it is forwarded over the pairing link. -/
def Dev.portSlot (d : Dev) (p i : Nat) (f : SlotFrame) : Dev :=
  let b := d.basePort p
  if (d.port p).relaying then d.linkSend 4 ((p : Int) :: (i : Int) :: f.e :: f.wire.map (fun c => (c.toNat : Int)))
  else d.slotArrival b i (b != p) f

/-- R79, R80: an MBX frame passes FUNC and its bytes on to the host unchanged. -/
def Dev.mbxUp (d : Dev) (p : Nat) (w : List Byte) : Dev :=
  match acyclicIn 0x38 1 w with
  | some (adr, b) => d.emit (.mbx p adr (uAt b 0 1) (b.drop 1))
  | none => d

/-! ### Cycle marks (R102) -/

/-- R102: a mark of a port fires at its offset. -/
def Dev.markFires (d : Dev) (p m : Nat) : Dev :=
  let c := R.LINE_MARK_CTL p m
  let ofs := d.fld (R.LINE_MARK_OFS p m) F.LINE_MARK_OFS.OFS
  let x := d.port p
  let wire := d.bit c F.LINE_MARK_CTL.WIRE
  if d.basePort p != p || !sendingState (d.portState p) || !d.bit c F.LINE_MARK_CTL.EN || x.marks.contains m ||
      decide (d.ns < x.cycleNs + ofs) || decide (d.portNs p ≤ ofs) || (x.keepAlive && wire) then d
  else
    let act := d.fld c F.LINE_MARK_CTL.ACT
    let d1 := d.setPort p { x with marks := x.marks ++ [m] }
    let d2 := if act == 0 || act == 2 then d1.emit (.signal "cycle mark" (16 * p + m) d.ts.toNat) else d1
    let d3 := if act == 1 || act == 2 then d2.startTask (d.fld c F.LINE_MARK_CTL.TASK) else d2
    if wire then
      let d4 := d3.sendNow p 0x30 0xFFFF (le 1 m)
      if d.phase p == 4 then d4.sendNow (p + 1) 0x30 0xFFFF (le 1 m) else d4
    else d3

/-- R102: a mark fires, after the marks of the port that fire in the same clock and have a lower index. -/
def Dev.cycleMark (d : Dev) (p m : Nat) : Dev :=
  let ofs (k : Nat) : Nat := d.fld (R.LINE_MARK_OFS p k) F.LINE_MARK_OFS.OFS
  d.each ((List.range (m + 1)).filter (fun k => ofs k == ofs m)) (fun d k => d.markFires p k)

/-! ### Groups (R103 to R105) -/

/-- The axes of a group. -/
def Dev.grpAxes (d : Dev) (g : Nat) : List AxisRec := d.img.axes.filter (fun a => a.group == g)

/-- The member nodes of a group: port, slot and the mask of the member endpoints. -/
def Dev.grpNodes (d : Dev) (g : Nat) : List (Nat × Nat × Nat) :=
  d.img.slots.filterMap (fun r =>
    let eps := (d.grpAxes g).filter (fun a => a.kind != 0 && decide (r.firstEp ≤ a.ep) && decide (a.ep < r.firstEp + r.epCount))
    if eps.isEmpty then none else some (r.port, r.slot, eps.foldl (fun m a => setBit m (a.ep - r.firstEp)) 0))

/-- P_G as a period code: the longest period of the member lines; a local axis counts as 125 µs. -/
def Dev.grpK (d : Dev) (g : Nat) : Nat := (d.grpNodes g).foldl (fun k m => max k (d.portK m.1)) 2

/-- The number of the present period of a group. -/
def Dev.grpIdx (d : Dev) (g : Nat) : Nat := d.ns / periodNs (d.grpK g)

/-- The state of a group's change. -/
def Dev.grp (d : Dev) (g : Nat) : GroupSt := tget d.line.groups g {}

/-- The device with the state of a group's change set. -/
def Dev.setGrp (d : Dev) (g : Nat) (x : GroupSt) : Dev := { d with line := { d.line with groups := tset d.line.groups g x } }

/-- GRP_STAT.STATE (R113). -/
def Dev.grpState (d : Dev) (g : Nat) : Nat := d.fld (R.GRP_STAT g) F.GRP_STAT.STATE

/-- The device with GRP_STAT.STATE set. -/
def Dev.setGrpState (d : Dev) (g st : Nat) : Dev := d.setFld (R.GRP_STAT g) F.GRP_STAT.STATE st

/-- R103, R105, R113: the checks of a write of GRP_REQ. -/
def Dev.grpReqCheck (d : Dev) (g : Nat) (w : Word) : List Status :=
  let st := d.grpState g
  let req := getF w F.GRP_REQ.REQ == 1
  [need (decide (getF w F.GRP_REQ.MODE < 0xF2)) .badArg, need (!req || (st != 1 && st != 2)) .busy]

/-- R104: AT of a GRP_APPLY for the period `n`: TS32 of its start. -/
def Dev.grpAt (d : Dev) (g n : Nat) : Nat := (n * periodNs (d.grpK g)) % 2 ^ 32

/-- R104: GRP_APPLY to the members listed. -/
def Dev.sendApply (d : Dev) (g n mode token : Nat) (ms : List (Nat × Nat × Nat)) : Dev :=
  d.each ms (fun d m => d.send m.1 0x23 m.2.1 (le 1 g ++ le 2 token ++ le 4 (d.grpAt g n) ++ le 1 mode))

/-- R104: every member has staged: N is the second P_G boundary after it. -/
def Dev.grpAllStaged (d : Dev) (g : Nat) : Dev :=
  let x := d.grp g
  let n := d.grpIdx g + 2
  let mode := d.fld (R.GRP_STAT g) F.GRP_STAT.STAGED
  ((d.setGrp g { x with n := some n }).setGrpState g 2).sendApply g n mode x.token (d.grpNodes g)

/-- R104: a request is taken: a new TOKEN, GRP_STAGE to every member node. A group of local axes alone is staged at once. -/
def Dev.grpStart (d : Dev) (g : Nat) : Dev :=
  let mode := d.fld (R.GRP_REQ g) F.GRP_REQ.MODE
  let token := d.line.nextToken
  let d0 : Dev := { d with line := { d.line with nextToken := (token + 1) % 65536 } }
  let d1 := ((d0.setGrp g { token := token, s := d.grpIdx g, fallbackDue := (d.grp g).fallbackDue }).setGrpState g 1).setFld (R.GRP_STAT g) F.GRP_STAT.STAGED mode
  let d2 := (d1.setFld (R.GRP_STAT g) F.GRP_STAT.RETRY 0).each (d.grpNodes g) (fun d m =>
    d.send m.1 0x20 m.2.1 (le 1 g ++ le 1 mode ++ le 2 token ++ le 2 m.2.2))
  if (d.grpNodes g).isEmpty then d2.grpAllStaged g else d2

/-- R104: a GRP_STAGED of the member at a slot. -/
def Dev.grpStaged (d : Dev) (p i g token mask : Nat) : Dev :=
  let x := d.grp g
  if d.grpState g != 1 || token != x.token || !((d.grpNodes g).contains (p, i, mask)) || x.staged.contains (p, i) then d
  else
    let d1 := d.setGrp g { x with staged := x.staged ++ [(p, i)] }
    if (d.grpNodes g).all (fun m => (x.staged ++ [(p, i)]).contains (m.1, m.2.1)) then d1.grpAllStaged g else d1

/-- R118: a group event carries a port as SOURCE: the lowest that carries members (DESIGN CHOICE, notes/assumptions/411.md). -/
def Dev.grpEv (d : Dev) (code sev g : Nat) (data : List Word := []) : Dev :=
  match (d.grpNodes g).map (·.1) with
  | [] => d.ev code sev data
  | p :: rest => d.lineEv code sev (rest.foldl min p) data

/-- R104: a change is ABORTED. -/
def Dev.grpAbort (d : Dev) (g : Nat) : Dev :=
  let x := d.grp g
  ((d.each (d.grpNodes g) (fun d m => d.send m.1 0x22 m.2.1 (le 1 g ++ le 2 x.token))).setGrpState g 4).grpEv 0xA011 3 g

/-- R104: at S + STAGEDL with a member unanswered. -/
def Dev.grpDeadline (d : Dev) (g : Nat) : Dev :=
  if d.grpState g == 1 && decide ((d.grp g).s + d.fld (R.GRP_CFG g) F.GRP_CFG.STAGEDL ≤ d.grpIdx g) then d.grpAbort g else d

/-- R103, R211: a mode takes effect on the group's axes: CSTOP and QSTOP start the reaction with cause group. -/
def Dev.grpMode (d : Dev) (g mode : Nat) : Dev :=
  let d1 := d.setFld (R.GRP_STAT g) F.GRP_STAT.CURRENT mode
  if mode == 0xF0 then d1.each (d.grpAxes g) (fun d a => d.react a.axis 3 6)
  else if mode == 0xF1 then d1.each (d.grpAxes g) (fun d a => d.react a.axis 2 6)
  else d1

/-- The mode that GRP_APPLY of a group carries: the staged one, or CSTOP for the stop of R624. -/
def Dev.grpSent (d : Dev) (g : Nat) : Nat := if (d.grp g).stop != 0 then 0xF0 else d.fld (R.GRP_STAT g) F.GRP_STAT.STAGED

/-- R624: on a power-fail warning a staging or apply is ABORTED, and every member gets GRP_APPLY of CSTOP for the group's next boundary
without staging. -/
def Dev.grpPfStop (d : Dev) (g : Nat) : Dev :=
  let st := d.grpState g
  let d0 := if st == 1 || st == 2 then d.grpAbort g else d
  let token := d0.line.nextToken
  let n := d0.grpIdx g + 1
  let d1 : Dev := { d0 with line := { d0.line with nextToken := (token + 1) % 65536 } }
  (d1.setGrp g { token := token, s := d0.grpIdx g, n := some n, stop := 1 }).sendApply g n 0xF0 token (d1.grpNodes g)

/-- R104: at the start of N, and at the boundary of a FALLBACK, the mode takes effect. -/
def Dev.grpBoundary (d : Dev) (g : Nat) : Dev :=
  let x := d.grp g
  let d1 := match x.fallbackDue with
    | some b => if b ≤ d.grpIdx g then
        (d.setGrp g { x with fallbackDue := none }).grpMode g (d.fld (R.GRP_CFG g) F.GRP_CFG.FALLBACK)
      else d
    | none => d
  match x.n with
  | some n =>
    if (d1.grpState g == 2 || x.stop != 0) && !x.boundaryDone && decide (n ≤ d.grpIdx g) then
      (d1.setGrp g { d1.grp g with boundaryDone := true }).grpMode g (d.grpSent g)
    else d1
  | none => d1

/-- R104: a GRP_APPLY_RPT: the member counts as applied if all its endpoints do. -/
def Dev.grpApplyRpt (d : Dev) (p i g token mask : Nat) : Dev :=
  let x := d.grp g
  if (d.grpState g != 2 && x.stop == 0) || token != x.token || x.applied.contains (p, i) then d
  else if (d.grpNodes g).contains (p, i, mask) then d.setGrp g { x with applied := x.applied ++ [(p, i)] }
  else d

/-- R80: a GRP_STAGED or a GRP_APPLY_RPT: GROUP, TOKEN and EPMASK from the node at ADDR. -/
def Dev.grpFrame (d : Dev) (p typ : Nat) (w : List Byte) : Dev :=
  match acyclicIn typ 5 w with
  | some (adr, b) =>
    if typ == 0x21 then d.grpStaged p adr (uAt b 0 1) (uAt b 1 2) (uAt b 3 2)
    else d.grpApplyRpt p adr (uAt b 0 1) (uAt b 1 2) (uAt b 3 2)
  | none => d

/-- The members not reported as applied. -/
def Dev.grpOpen (d : Dev) (g : Nat) : List (Nat × Nat × Nat) :=
  (d.grpNodes g).filter (fun m => !((d.grp g).applied.contains (m.1, m.2.1)))

/-- R104: in N + 1 to N + 4 GRP_APPLY goes again to each member not reported. -/
def Dev.grpRetry (d : Dev) (g : Nat) : Dev :=
  let x := d.grp g
  match x.n with
  | some n =>
    let k := d.grpIdx g - n
    if (d.grpState g == 2 || x.stop != 0) && decide (n < d.grpIdx g) && decide (k ≤ 4) && decide (x.retries < k) && !(d.grpOpen g).isEmpty then
      ((d.setGrp g { x with retries := k }).setFld (R.GRP_STAT g) F.GRP_STAT.RETRY k).sendApply g (n + k) (d.grpSent g) x.token
        (d.grpOpen g)
    else d
  | none => d

/-- R104: at the end of N + 4 the change has converged, or every member goes to FALLBACK. -/
def Dev.grpConverge (d : Dev) (g : Nat) : Dev :=
  let x := d.grp g
  match x.n with
  | some n =>
    if x.stop != 0 then (if decide (n + 5 ≤ d.grpIdx g) then d.setGrp g { x with stop := 0 } else d)
    else if d.grpState g == 2 && decide (n + 5 ≤ d.grpIdx g) then
      let left := d.grpOpen g
      if left.isEmpty then d.setGrpState g 3
      else
        let next := d.grpIdx g + 1
        let d1 := ((d.setGrp g { x with fallbackDue := some next }).setGrpState g 5).setReg (R.GRP_SPLIT g) (wN left.length)
        (d1.grpEv 0xA012 5 g (wordsList (left.map (fun m => m.1 * 65536 + m.2.1)))).sendApply g next
          (d.fld (R.GRP_CFG g) F.GRP_CFG.FALLBACK) x.token (d.grpNodes g)
    else d
  | none => d

/-! ### Keep-alive (R116) -/

/-- R116: a line is unused: no enabled axis, no group in a mode other than STOP, no armed action on its endpoints. `acts`
are the endpoints with armed Tallboy actions. -/
def Dev.lineUnused (d : Dev) (p : Nat) (acts : List Nat) : Bool :=
  !((d.axesOfPort p).any (fun a => d.axEnabled a)) &&
  !(d.img.axes.any (fun a => a.kind != 0 && a.group != 0xFFFF && (d.axesOfPort p).contains a.axis &&
      d.fld (R.GRP_STAT a.group) F.GRP_STAT.CURRENT != 0)) &&
  !(acts.any (fun ep => match d.slotOfEp ep with | some r => r.port == p | none => false))

/-- R116: a line goes into keep-alive cycles. -/
def Dev.holdLine (d : Dev) (p : Nat) : Dev :=
  let st := d.portState p
  if sendingState st && st != 6 then
    (d.setPortState p 6).updPort p (fun x => { x with keepAlive := true, resume := st })
  else d

/-- R116: a line resumes its own period; R84 applies again from that cycle, and the joins that were held go on from it. -/
def Dev.resumeLine (d : Dev) (p : Nat) : Dev :=
  let x := d.port p
  if x.keepAlive then
    let d1 := (d.setPortState p x.resume).setPort p { x with keepAlive := false }
    d1.each ((List.range (d1.nodes p)).filter (fun i => (d1.slot p i).join.isSome)) (fun d i =>
      let y := d.slot p i
      d.setSlot p i { y with join := y.join.map (fun j => { j with cycle := (d.reg (R.LINE_CYCLE p)).toNat }) })
  else d

/-! ### Commands -/

/-- LINK_UP (R69). -/
def execLinkUp (p : Nat) (s : State) : Host.Outcome State Fault Refusal :=
  s.runIf (decide (p < 24)) (fun d => d.lineLinkUp p)

/-- LINK_DOWN (R69). -/
def execLinkDown (p : Nat) (s : State) : Host.Outcome State Fault Refusal :=
  s.runIf (decide (p < 24)) (fun d => d.lineLinkDown p)

/-- LISTEN_EXPIRY (R85, R86). -/
def execListenExpiry (s : State) : Host.Outcome State Fault Refusal := s.run (fun d => (d.each allPorts Dev.listenExpiry).demoteExpiry)

/-- FOREIGN_CYCLE_START (R86). -/
def execForeignCycleStart (p : Nat) (w : List (BitVec 8)) (s : State) : Host.Outcome State Fault Refusal :=
  s.runIf (decide (p < 24)) (fun d => d.hearFrame p w)

/-- CLASH_BACKOFF_EXPIRY (R87). -/
def execClashBackoffExpiry (s : State) : Host.Outcome State Fault Refusal := s.run Dev.clashExpiry

/-- CYCLE_START (R73). -/
def execCycleStart (p : Nat) (s : State) : Host.Outcome State Fault Refusal :=
  s.runIf (decide (p < 24)) (fun d => d.cycleStart p)

/-- CYCLE_END_MARKER_SEND (R78). -/
def execCycleEndMarkerSend (p : Nat) (s : State) : Host.Outcome State Fault Refusal :=
  s.runIf (decide (p < 24)) (fun d => d.markerSend p)

/-- MARKER_RETURN (R72). -/
def execMarkerReturn (p : Nat) (head crc tail : List (BitVec 8)) (s : State) : Host.Outcome State Fault Refusal :=
  s.runIf (decide (p < 24)) (fun d => d.markerReturn p (head ++ crc ++ tail))

/-- LINK_DOWN_FRAME (R95). -/
def execLinkDownFrame (p : Nat) (w : List (BitVec 8)) (s : State) : Host.Outcome State Fault Refusal :=
  s.runIf (decide (p < 24)) (fun d => d.linkDownFrame p w)

/-- SLOT_ARRIVAL (R81). -/
def execSlotArrival (p i : Nat) (f : SlotFrame) (s : State) : Host.Outcome State Fault Refusal :=
  s.runIf (decide (p < 24) && decide (i < 6144)) (fun d => d.portSlot p i f)

/-- SLOT_STALE (R84). -/
def execSlotStale (p i : Nat) (s : State) : Host.Outcome State Fault Refusal :=
  s.runIf (decide (p < 24) && decide (i < 6144)) (fun d => d.slotStale p i)

/-- NODE_LOST (R84). -/
def execNodeLost (p i : Nat) (s : State) : Host.Outcome State Fault Refusal :=
  s.runIf (decide (p < 24) && decide (i < 6144)) (fun d => d.nodeLost p i)

/-- FALLOW_WINDOW (R80). -/
def execFallowWindow (p : Nat) (s : State) : Host.Outcome State Fault Refusal :=
  s.runIf (decide (p < 24)) (fun d => d.fallow p)

/-- DELAY_PROBE_CYCLE (R93). -/
def execDelayProbeCycle (p : Nat) (s : State) : Host.Outcome State Fault Refusal :=
  s.runIf (decide (p < 24)) (fun d => d.delayProbeCycle p)

/-- DELAY_RPT (R93). -/
def execDelayRpt (p i : Nat) (head tail : List (BitVec 8)) (s : State) : Host.Outcome State Fault Refusal :=
  s.runIf (decide (p < 24) && decide (i < 6144)) (fun d => d.delayRptFrame (d.basePort p) i (head ++ tail))

/-- JOIN_REQ (R90). -/
def execJoinReq (p : Nat) (head body crc tail : List (BitVec 8)) (s : State) : Host.Outcome State Fault Refusal :=
  s.runIf (decide (p < 24)) (fun d => d.joinReqFrame p (head ++ body ++ crc ++ tail))

/-- TEST_SLOT (R90). -/
def execTestSlot (p i : Nat) (err : Int) (w : List (BitVec 8)) (s : State) : Host.Outcome State Fault Refusal :=
  s.runIf (decide (p < 24) && decide (i < 6144)) (fun d => d.testSlot (d.basePort p) i { e := err, nextE := none, wire := w })

/-- JOIN_TIMEOUT (R663). -/
def execJoinTimeout (p i : Nat) (s : State) : Host.Outcome State Fault Refusal :=
  s.runIf (decide (p < 24) && decide (i < 6144)) (fun d => d.joinTimeout p i)

/-- JOIN_SUSPEND_END (R92). -/
def execJoinSuspendEnd (s : State) : Host.Outcome State Fault Refusal := s.run (fun d => d.each allPorts Dev.joinSuspendEnd)

/-- RING_RESTORE (R99). -/
def execRingRestore (p : Nat) (s : State) : Host.Outcome State Fault Refusal :=
  s.runIf (decide (p < 24)) (fun d => d.ringRestore p)

/-- RELAY_BLK (R100). -/
def execRelayBlk (p cycle : Nat) (blocks : List (Nat × List (BitVec 8))) (s : State) : Host.Outcome State Fault Refusal :=
  s.runIf (decide (p < 24)) (fun d => d.relayBlk p cycle blocks)

/-- RELAY_SLOT (R100). -/
def execRelaySlot (p i : Nat) (f : SlotFrame) (s : State) : Host.Outcome State Fault Refusal :=
  s.runIf (decide (p < 24) && decide (i < 6144)) (fun d => if d.phase p == 5 then d.slotArrival p i true f else d)

/-- MBX_UP (R80). -/
def execMbxUp (p : Nat) (head body tail : List (BitVec 8)) (s : State) : Host.Outcome State Fault Refusal :=
  s.runIf (decide (p < 24)) (fun d => d.mbxUp p (head ++ body ++ tail))

/-- CYCLE_MARK (R102). -/
def execCycleMark (p m : Nat) (s : State) : Host.Outcome State Fault Refusal :=
  s.runIf (decide (p < 24) && decide (m < 16)) (fun d => d.cycleMark p m)

/-- GRP_STAGED (R104). -/
def execGrpStaged (p : Nat) (head body crc tail : List (BitVec 8)) (s : State) : Host.Outcome State Fault Refusal :=
  s.runIf (decide (p < 24)) (fun d => d.grpFrame (d.basePort p) 0x21 (head ++ body ++ crc ++ tail))

/-- GRP_STAGE_DEADLINE (R104). -/
def execGrpStageDeadline (g : Nat) (s : State) : Host.Outcome State Fault Refusal :=
  s.runIf (decide (g < 256)) (fun d => d.grpDeadline g)

/-- GRP_APPLY_BOUNDARY (R104). -/
def execGrpApplyBoundary (g : Nat) (s : State) : Host.Outcome State Fault Refusal :=
  s.runIf (decide (g < 256)) (fun d => d.grpBoundary g)

/-- GRP_APPLY_RPT (R104). -/
def execGrpApplyRpt (p : Nat) (head body crc tail : List (BitVec 8)) (s : State) : Host.Outcome State Fault Refusal :=
  s.runIf (decide (p < 24)) (fun d => d.grpFrame (d.basePort p) 0x24 (head ++ body ++ crc ++ tail))

/-- GRP_RETRY (R104). -/
def execGrpRetry (g : Nat) (s : State) : Host.Outcome State Fault Refusal :=
  s.runIf (decide (g < 256)) (fun d => d.grpRetry g)

/-- GRP_CONVERGE (R104). -/
def execGrpConverge (g : Nat) (s : State) : Host.Outcome State Fault Refusal :=
  s.runIf (decide (g < 256)) (fun d => d.grpConverge g)

end Sys2Proof.Machine
end

