-- ==== Sys2Proof/Machine/Pwm.lean ====
section
/-! DEFINITION. PWM legs and drive connectors (spec/07_pwm_and_drive_connectors.md). -/

namespace Sys2Proof.Machine

open Sys2Proof

/-! ### Legs and carriers -/

/-- The state of a carrier beside its registers. -/
def Dev.car (d : Dev) (c : Nat) : CarSt := tget d.pwm.cars c {}

/-- The device with a carrier's state set. -/
def Dev.setCar (d : Dev) (c : Nat) (x : CarSt) : Dev := { d with pwm := { d.pwm with cars := tset d.pwm.cars c x } }

/-- R231: the period of a carrier in taps. -/
def Dev.perTaps (d : Dev) (c : Nat) : Nat := 500000 * 2 ^ d.fld (R.PWM_DRV_CFG c) F.PWM_DRV_CFG.PERIOD

/-- R231: the period of a carrier in ns. -/
def Dev.pwmNs (d : Dev) (c : Nat) : Nat := 15625 * 2 ^ d.fld (R.PWM_DRV_CFG c) F.PWM_DRV_CFG.PERIOD

/-- The LOCAL axis on the legs 3i to 3i + 2 of a connector (R257). -/
def Dev.axisOfDrive (d : Dev) (c i : Nat) : Option Nat := d.axisOfLeg (12 * c + 3 * i)

/-- R239: DTFLOOR in units of 2 ns, rounded up. -/
def Dev.dtFloor (d : Dev) (c : Nat) : Nat := (d.fld (R.PWM_DRV_DTFLOOR c) ⟨15, 0⟩ + 1) / 2

/-- R239: max(DTMAX, DTFLOOR) of a leg in units of 2 ns. -/
def Dev.dtTop (d : Dev) (l : Nat) : Nat := max (d.fld (legReg R.PWM_LEG_DT l) F.PWM_LEG_DT.DTMAX) (d.dtFloor (l / 12))

/-- R252: FSEL toggles on a unit that holds the ACTIVE role of a redundant pair; it is static while a BSDRIVE instruction holds the pins
(R605), and from T of a handover on the former active unit (R557). -/
def Dev.fselOut (d : Dev) (c : Nat) : Bool :=
  d.bit (R.PWM_DRV_CFG c) F.PWM_DRV_CFG.FSELEN && d.bit R.PAIR_CFG F.PAIR_CFG.EN &&
  d.fld R.LINE_GSTAT F.LINE_GSTAT.ROLE == 1 && !d.handedOver && !d.sec.pins

/-- R261: PWM_LEG_STAT.STATE: 0 OFF, 1 RUN, 2 TRIP. -/
def Dev.legState (d : Dev) (l : Nat) : Nat := if (d.leg l).trip then 2 else if d.legRuns l then 1 else 0

/-! ### Commits and the reload sample (R234 to R236) -/

/-- R235: both compares of a leg are committed in one clock. -/
def LegSt.commit (x : LegSt) (clk : Nat) (pair : Nat × Nat) : LegSt :=
  { x with prev := if x.commClk < clk then x.comm else x.prev, comm := pair, commClk := clk }

/-- R234: the compares of an on-time h in a period of `per` taps. -/
def dutyPair (per : Nat) (edge : Bool) (h : Nat) : Nat × Nat :=
  if edge then (0, h) else ((per - h) / 2, (per - h) / 2 + h)

/-- R234: the on-time of a Q31 duty. -/
def dutyTaps (per : Nat) (duty : Int) : Nat := ((per : Int) * (2 ^ 31 + duty) / 2 ^ 32).toNat

/-- R230, R234: the duty channels that feed a leg. -/
def Dev.dutyChan (d : Dev) (l : Nat) : Option Nat :=
  (d.img.chans.find? (fun r => r.dst.any (fun w => consKind w == 2 && w % 128 == l))).map (·.chan)

/-- R236: a pair is committed: one that lands in the clock of the reload sample is taken at the next, and LATE counts once for that clock. -/
def Dev.commitPair (d : Dev) (l : Nat) (pair : Nat × Nat) : Dev :=
  let x := d.leg l
  let late := (d.car (l / 12)).reloadClk == some d.clk && decide (x.commClk < d.clk)
  (d.setLeg l (x.commit d.clk pair)).when late (fun d => d.bump (legReg R.PWM_LEG_CNT l) F.PWM_LEG_CNT.LATE 1)

/-- R234, R235: the modulator takes the duty channel of a FABRIC leg and commits both compares. -/
def Dev.takeDuty (d : Dev) (l : Nat) : Dev :=
  if d.bit (legReg R.PWM_LEG_CFG l) F.PWM_LEG_CFG.SRC then d
  else match d.dutyChan l with
    | none => d
    | some c =>
      let per := d.perTaps (l / 12)
      d.commitPair l (dutyPair per (d.bit (R.PWM_DRV_CFG (l / 12)) F.PWM_DRV_CFG.MOD) (dutyTaps per (d.chanI c)))

/-- R202, R234: the take of a class F output; a current level's goes to the modulators of the axis's three legs. -/
def Dev.outputTake (d : Dev) (a lvl : Nat) : Dev :=
  let fresh := ((d.axSt a).level lvl).fresh
  let d1 := d.classFTake a lvl
  let l := (d1.axSt a).level lvl
  match d.axisRec a with
  | some r =>
    if lvl == 2 && r.kind == 0 && fresh && !l.fresh && l.late == 0 then d1.each [r.leg, r.leg + 1, r.leg + 2] Dev.takeDuty
    else d1
  | none => d1

/-- R234, R235: the checks of a DIRECT commit of a pair. -/
def Dev.directCheck (d : Dev) (l : Nat) (pair : Nat × Nat) : List Status :=
  [need (decide (pair.1 ≤ pair.2) && decide (pair.2 ≤ d.perTaps (l / 12))) .badArg,
   need (d.bit (legReg R.PWM_LEG_CFG l) F.PWM_LEG_CFG.SRC) .conflict]

/-- R235: a DIRECT commit. -/
def Dev.directCommit (d : Dev) (l : Nat) (pair : Nat × Nat) : Dev := d.commitPair l pair

/-- R236: the reload sample of one leg: it takes the last pair committed in an earlier clock. After a takeover the leg starts with it (R252). -/
def Dev.reloadLeg (d : Dev) (l : Nat) : Dev :=
  let x := { d.leg l with wait := false }
  if x.commClk < d.clk then d.setLeg l { x with next := x.comm }
  else (d.setLeg l { x with next := x.prev }).bump (legReg R.PWM_LEG_CNT l) F.PWM_LEG_CNT.LATE 1

/-- The legs of a carrier. -/
def legsOf (c : Nat) : List Nat := (List.range 12).map (fun j => 12 * c + j)

/-- R236: the reload sample of a carrier: 2,048 ns before the start of a period. -/
def Dev.reloadSample (d : Dev) (c : Nat) : Dev :=
  let m := (d.ns + 2048) / d.pwmNs c
  if (d.car c).lastReload == some m then d
  else (d.setCar c { d.car c with lastReload := some m, reloadClk := some d.clk }).each (legsOf c) Dev.reloadLeg

/-! ### Dead time and the period (R238 to R243) -/

/-- The largest of the transitions measured, if any. -/
def maxOpt (l : List (Option Nat)) : Option Nat :=
  l.foldl (fun a b => match a, b with
    | none, x => x
    | x, none => x
    | some x, some y => some (max x y)) none

/-- A value limited to a range of natural numbers. -/
def clampN (lo hi x : Nat) : Nat := if x < lo then lo else if hi < x then hi else x

/-- R239: the dead time of one direction, from the transitions of the last 16 periods; it stays where there is none. -/
def Dev.deadTime (d : Dev) (l : Nat) (hist : List (Option Nat)) (old : Nat) : Nat :=
  let dt := legReg R.PWM_LEG_DT l
  let top := d.dtTop l
  if d.bit (legReg R.PWM_LEG_CFG l) F.PWM_LEG_CFG.DTMODE || d.bit (legReg R.PWM_LEG_STAT l) F.PWM_LEG_STAT.SWNFIX then top
  else match maxOpt hist with
    | some n => clampN (max (d.fld dt F.PWM_LEG_DT.DTMIN) (d.dtFloor (l / 12))) top (n + d.fld dt F.PWM_LEG_DT.MARGIN)
    | none => clampN (max (d.fld dt F.PWM_LEG_DT.DTMIN) (d.dtFloor (l / 12))) top old

/-- What the minimum-pulse rule answers: on-time applied, accumulator, and whether the period was held, stretched or
suppressed. -/
structure Pulse where
  hApp : Int
  acc : Int
  h : Int
  held : Bool := false
  stretch : Bool := false
  supp : Bool := false
  deriving DecidableEq, Repr

/-- R241: the applied on-time in taps. -/
def minPulse (per minp dts hCmd acc : Int) : Pulse :=
  let h := clampI 0 per (hCmd + acc)
  let (h1, st, su) : Int × Bool × Bool :=
    if 2 * h < minp then (0, false, true) else if h < minp then (minp, true, false) else (h, false, false)
  let l := per - h1 - dts
  let (h2, held, lst) : Int × Bool × Bool :=
    if 0 < h1 then
      (if 2 * l < minp then (per, true, false) else if l < minp then (per - minp - dts, false, true) else (h1, false, false))
    else (h1, false, false)
  { hApp := h2, acc := clampI (-4 * minp) (4 * minp) (h - h2), h := h, held := held, stretch := st || lst, supp := su }

/-- R242: the edges of a changed on-time. -/
def placePulse (per : Nat) (centre : Bool) (a b : Nat) (hApp : Nat) : Nat × Nat :=
  if hApp = b - a then (a, b)
  else if centre then ((per - hApp) / 2, (per - hApp) / 2 + hApp)
  else if per < a + hApp then (per - hApp, per)
  else (a, a + hApp)

/-- R233: without a working delay line the edges stand on whole clocks of 2 ns. -/
def Dev.placeTap (d : Dev) (c : Nat) (v : Int) : Int := if d.bit (R.PWM_DRV_STAT c) F.PWM_DRV_STAT.DLFAIL then v / 64 * 64 else v

/-- What the gates of a leg do in a period: its edges, and what they do at its end (LegSt.gate, LegSt.lowAt). -/
structure GatePlan where
  edges : List (Int × Nat)
  gate : Nat
  lowAt : Option Int
  deriving DecidableEq, Repr

/-- R236, R238: the taps of the 2,048 ns before a period: a low side that would turn on there waits for the pair of the next period. -/
def reloadTaps : Int := 65536

/-- R238: the low side turns on at `t`, off again at `o` if that comes after, else it stays off. -/
def lowPulse (t o : Int) : List (Int × Nat) := if t < o then [(t, 3), (o, 2)] else []

/-- R238, R241: the edges of a period of `per` taps whose high side is on from `a` to `b`; `hl` and `lh` are the dead times. A change from one switch to
the other passes a whole dead time, across the start of the period too. -/
def gatePlan (gate : Nat) (lowAt : Option Int) (per a b hl lh : Int) : GatePlan :=
  let pend : List (Int × Nat) := match lowAt with
    | some t => [(t, 3)]
    | none => []
  if b ≤ a then
    { edges := (if gate == 2 then [(0, 0), (hl, 3)] else if gate == 1 then pend else [(0, 3)]), gate := 1, lowAt := none }
  else
    let held := a == 0 && b == per
    -- the low side before the high side turns on, and the tap at which that turns on
    let before : List (Int × Nat) :=
      if gate == 2 then (if a == 0 then [] else [(0, 0)] ++ lowPulse hl (a - lh) ++ [(a, 1)])
      else if held then
        (if gate == 0 then [(0, 1)] else match lowAt with
          | some t => if 0 ≤ t then [(0, 1)] else [(t, 3), (0, 2), (lh, 1)]
          | none => [(0, 2), (lh, 1)])
      else if gate == 0 then lowPulse 0 (a - lh) ++ [(a, 1)]
      else (match lowAt with
        | some t => lowPulse t (a - lh)
        | none => [(a - lh, 2)]) ++ [(a, 1)]
    if b == per then { edges := before, gate := 2, lowAt := none }
    else if b + hl ≤ per - reloadTaps then { edges := before ++ [(b, 0), (b + hl, 3)], gate := 1, lowAt := none }
    else { edges := before ++ [(b, 0)], gate := 1, lowAt := some (b + hl - per) }

/-- R238, R241, R242: the pulse of the present period of a leg is formed from the pair in use, the dead times in force and the accumulator as it stood at the
start of the period, and its edges are put out. -/
def Dev.legForm (d : Dev) (l : Nat) : Dev :=
  let c := l / 12
  let x := d.leg l
  let st := legReg R.PWM_LEG_STAT l
  let hl : Int := 64 * d.fld st F.PWM_LEG_STAT.DTHL
  let lh : Int := 64 * d.fld st F.PWM_LEG_STAT.DTLH
  let per := d.perTaps c
  let u := minPulse per (64 * d.fld (legReg R.PWM_LEG_CFG l) F.PWM_LEG_CFG.MINP) (hl + lh) ((x.use.2 : Int) - x.use.1) x.accIn
  let centre := !d.bit (R.PWM_DRV_CFG c) F.PWM_DRV_CFG.MOD && !d.bit (legReg R.PWM_LEG_CFG l) F.PWM_LEG_CFG.SRC
  let (a, b) := placePulse per centre x.use.1 x.use.2 u.hApp.toNat
  let g := gatePlan x.gateIn x.lowIn per a b hl lh
  let skip := u.hApp != u.h
  let cnt := legReg R.PWM_LEG_CNT l
  let d1 := d.setLeg l { x with gate := g.gate, lowAt := g.lowAt, skipped := skip }
  let d2 := if skip == x.skipped then d1 else if skip then d1.bump cnt F.PWM_LEG_CNT.PSKIP 1
    else d1.setFld cnt F.PWM_LEG_CNT.PSKIP (d1.fld cnt F.PWM_LEG_CNT.PSKIP - 1)
  let d3 := (((d2.setFld st F.PWM_LEG_STAT.HELD (if u.held then 1 else 0)).setFld st F.PWM_LEG_STAT.STRETCH
    (if u.stretch then 1 else 0)).setFld st F.PWM_LEG_STAT.SUPP (if u.supp then 1 else 0)).setReg (legReg R.PWM_LEG_ACC l) (wI u.acc)
  d3.emit (.leg l (g.edges.map (fun e => (d.placeTap c e.1, e.2))))

/-- R239, R241: one leg at the start of a period. -/
def Dev.legPeriod (d : Dev) (l : Nat) : Dev :=
  let x := d.leg l
  let st := legReg R.PWM_LEG_STAT l
  let hl := (x.curHL :: x.natHL).take 16
  let lh := (x.curLH :: x.natLH).take 16
  let y := { x with natHL := hl, natLH := lh, curHL := none, curLH := none, use := x.next, accIn := d.regI (legReg R.PWM_LEG_ACC l), gateIn := x.gate,
                    lowIn := x.lowAt, skipped := false }
  let d1 := ((d.setLeg l y).setFld st F.PWM_LEG_STAT.DTHL (d.deadTime l hl (d.fld st F.PWM_LEG_STAT.DTHL))).setFld st F.PWM_LEG_STAT.DTLH
    (d.deadTime l lh (d.fld st F.PWM_LEG_STAT.DTLH))
  let nat := legReg R.PWM_LEG_NAT l
  let d2 := (d1.setFld nat F.PWM_LEG_NAT.NATHL ((maxOpt hl).getD 0)).setFld nat F.PWM_LEG_NAT.NATLH ((maxOpt lh).getD 0)
  let d3 := (d2.setReg (legReg R.PWM_CMP_LO l) (wN x.next.1)).setReg (legReg R.PWM_CMP_HI l) (wN x.next.2)
  if d.legRuns l then d3.legForm l else d3

/-- R253: whether a leg's present period has begun in this clock. -/
def Dev.legStarts (d : Dev) (l : Nat) : Bool := (d.car (l / 12)).startClk == some d.clk && d.legRuns l && (d.leg l).gate != 0

/-- R231, R233, R241: the start of a PWM period of a carrier. -/
def Dev.pwmPeriod (d : Dev) (c : Nat) : Dev :=
  let m := d.ns / d.pwmNs c
  let x := d.car c
  if x.lastStart == some m then d
  else (d.setCar c { x with lastStart := some m, startClk := some d.clk, tap := x.tapNext.getD x.tap, tapNext := none }).each (legsOf c) Dev.legPeriod

/-- R242, R253: the accumulator of a leg is cleared; in the clock in which its period starts it is 0 for that period. -/
def Dev.clearAcc (d : Dev) (l : Nat) : Dev :=
  let d1 := d.setReg (legReg R.PWM_LEG_ACC l) 0
  if d.legStarts l then (d1.setLeg l { d1.leg l with accIn := 0 }).legForm l else d1

/-- R233, R253: a measurement of the replica line; `map` is the tap map derived from it, none if the line cannot span a clock. What it changes holds
from the next period start, or from that of this clock. -/
def Dev.delayCal (d : Dev) (c : Nat) (map : Option Nat) : Dev :=
  let x := d.car c
  let st := R.PWM_DRV_STAT c
  if x.calClk != 0 && !d.since x.calClk 2000 then d
  else
    let now := x.startClk == some d.clk
    let y := { x with calClk := d.clk, tap := if now then map.getD x.tap else x.tap, tapNext := if now then none else map.orElse (fun _ => x.tapNext) }
    let d1 := (d.setCar c y).setFld st F.PWM_DRV_STAT.DLFAIL (if map.isSome then 0 else 1)
    let d2 := d1.each ((legsOf c).filter d1.legStarts) Dev.legForm
    if map.isSome || d.bit st F.PWM_DRV_STAT.DLFAIL then d2 else d2.evAt 0x5003 4 c none

/-- R245: the trip inputs of a connector whose latch holds the legs of drive `i` off, and the loss of the carrier (R246). -/
def Dev.driveTripped (d : Dev) (c i : Nat) : Bool :=
  !d.bit (R.PWM_DRV_STAT c) F.PWM_DRV_STAT.PRESENT ||
  (List.range 4).any (fun t => bitAt (d.fld (R.PWM_DRV_STAT c) F.PWM_DRV_STAT.TRIPLAT) t && bitAt (d.fld (R.PWM_TRIP_CFG c t) F.PWM_TRIP_CFG.AXMASK) i)

/-- R239: the dead times of a leg start at max(DTMAX, DTFLOOR), its histories, counts and accumulator anew. -/
def Dev.legAnew (d : Dev) (l : Nat) : Dev :=
  let st := legReg R.PWM_LEG_STAT l
  let top := d.dtTop l
  ((((d.setLeg l { d.leg l with natHL := [], natLH := [], curHL := none, curLH := none, miss := 0 }).setFld st
    F.PWM_LEG_STAT.DTHL top).setFld st F.PWM_LEG_STAT.DTLH top).setFld st F.PWM_LEG_STAT.SWNFIX 0).clearAcc l

/-- R239, R242, R245: the legs of an axis at its enable start anew. A trip whose latch is clear no longer holds them off. -/
def Dev.legsEnable (d : Dev) (l0 : Nat) : Dev :=
  d.each [l0, l0 + 1, l0 + 2] (fun d l =>
    (d.setLeg l { d.leg l with trip := (d.leg l).trip && d.driveTripped (l / 12) (l % 12 / 3) }).legAnew l)

/-- R252, R263: at a takeover the dead times of the legs that the image uses restart as at enable and the accumulators at 0; each leg emits from its first
reload sample on, a FABRIC leg with the pair of the duty as it stands. -/
def Dev.legsTakeover (d : Dev) : Dev :=
  let ls := ((d.img.axes.filter (fun r => r.kind == 0)).map (fun r => [r.leg, r.leg + 1, r.leg + 2])).flatten
  d.each ls (fun d l => ((d.setLeg l { trip := (d.leg l).trip, wait := true }).legAnew l).takeDuty l)

/-- R239: an SWN edge of a leg `ns` after the gate edge of the switch that turned off; `low` says that it goes to the low
rail. Before the dead time expires it is a natural transition. Only a leg with DTMODE ADAPTIVE watches. -/
def Dev.swnEdge (d : Dev) (l : Nat) (low : Bool) (ns : Nat) : Dev :=
  let x := d.leg l
  let st := legReg R.PWM_LEG_STAT l
  let n := (ns + 1) / 2
  if !d.legRuns l || d.bit (legReg R.PWM_LEG_CFG l) F.PWM_LEG_CFG.DTMODE then d
  else if low then
    if ns < 2 * d.fld st F.PWM_LEG_STAT.DTHL then
      d.setLeg l { x with curHL := some (max n (x.curHL.getD 0)), miss := 0 }
    else d.setLeg l { x with miss := 0 }
  else
    if ns < 2 * d.fld st F.PWM_LEG_STAT.DTLH then
      d.setLeg l { x with curLH := some (max n (x.curLH.getD 0)), miss := 0 }
    else d.setLeg l { x with miss := 0 }

/-- R240: no SWN edge within 2 µs of the second switch's turning on: a missed transition; the 16th in a row fixes the dead
times until the axis is next enabled. -/
def Dev.swnMiss (d : Dev) (l : Nat) : Dev :=
  let x := d.leg l
  let st := legReg R.PWM_LEG_STAT l
  if !d.legRuns l || d.bit (legReg R.PWM_LEG_CFG l) F.PWM_LEG_CFG.DTMODE then d
  else
    let n := x.miss + 1
    let d1 := d.setLeg l { x with miss := n }
    if decide (16 ≤ n) && !d.bit st F.PWM_LEG_STAT.SWNFIX then
      (((d1.setFld st F.PWM_LEG_STAT.SWNFIX 1).setFld st F.PWM_LEG_STAT.DTHL (d.dtTop l)).setFld st F.PWM_LEG_STAT.DTLH
        (d.dtTop l)).evAt 0x5004 3 (l / 12) (some (l % 12))
    else d1

/-! ### Trips and carriers (R244 to R246, R251) -/

/-- R244, R245: the axis on drive `i` of a connector is tripped: its legs are off in hardware, their accumulators 0, and it
takes STO with cause safety. -/
def Dev.tripDrive (d : Dev) (c i : Nat) : Dev :=
  let d1 := d.each [12 * c + 3 * i, 12 * c + 3 * i + 1, 12 * c + 3 * i + 2] (fun d l =>
    ((d.setLeg l { d.leg l with trip := true }).setReg (legReg R.PWM_LEG_ACC l) 0).gateFollows l)
  match d.axisOfDrive c i with
  | some a => d1.react a 4 7
  | none => d1

/-- The filter of an input line. -/
def Dev.filOf (d : Dev) (key : Nat) : FilSt := tget d.fil key {}

/-- R244, R257: a trip input is active: the filtered level at the polarity of POL. An input that nothing has driven is not. -/
def Dev.tripActive (d : Dev) (c t : Nat) : Bool :=
  match tget? d.fil (4 * c + t) with
  | some x => x.out == d.bit (R.PWM_TRIP_CFG c t) F.PWM_TRIP_CFG.POL
  | none => false

/-- R255: TRIPIN of a carrier. -/
def Dev.tripIn (d : Dev) (c : Nat) : Nat := (List.range 4).foldl (fun m t => if d.tripActive c t then setBit m t else m) 0

/-- R244, R245: a trip input is looked at after its level, POL or EN may have changed: one that becomes active with EN = 1 latches and trips its axes. -/
def Dev.tripInput (d : Dev) (c t : Nat) : Dev :=
  let x := d.car c
  let on := d.tripActive c t && d.bit (R.PWM_TRIP_CFG c t) F.PWM_TRIP_CFG.EN
  if on == bitAt x.tripOn t then d
  else
    let d1 := d.setCar c { x with tripOn := if on then setBit x.tripOn t else clrBit x.tripOn t }
    if !on then d1
    else
      ((d1.setW1c (R.PWM_DRV_STAT c) F.PWM_DRV_STAT.TRIPLAT (2 ^ t)).evAt 0x5001 5 c (some t)).each
        ((List.range 4).filter (fun i => bitAt (d.fld (R.PWM_TRIP_CFG c t) F.PWM_TRIP_CFG.AXMASK) i)) (fun d i => d.tripDrive c i)

/-- R11, R245: the latches that a W1C write clears stay set where the input is still active. -/
def Dev.tripStillLatched (d : Dev) (c : Nat) : Nat :=
  (List.range 4).foldl (fun m t =>
    if d.tripActive c t && d.bit (R.PWM_TRIP_CFG c t) F.PWM_TRIP_CFG.EN &&
      bitAt (d.fld (R.PWM_DRV_STAT c) F.PWM_DRV_STAT.TRIPLAT) t then setBit m t else m) 0

/-- R251: TYPEOK of a carrier as its identification and the registers stand: 0 if all checks pass, else the number of the
failed check: 1 CRC, 2 TYPE, 3 FMAX, 4 DTFLOOR. -/
def Dev.typeCheck (d : Dev) (c : Nat) : Nat :=
  let typ := d.reg (R.PWM_DRV_TYPE c)
  if !(d.car c).crcOk then 1
  else if typ != d.reg (R.PWM_DRV_EXPTYPE c) || typ == 0 then 2
  else if (d.car c).fmax < 64 / 2 ^ d.fld (R.PWM_DRV_CFG c) F.PWM_DRV_CFG.PERIOD then 3
  else if 2000 < d.fld (R.PWM_DRV_DTFLOOR c) ⟨15, 0⟩ then 4
  else 0

/-- R251: TYPEOK follows the identification, EXPTYPE and PERIOD. -/
def Dev.typeOkNow (d : Dev) (c : Nat) : Dev :=
  let ok := d.bit (R.PWM_DRV_STAT c) F.PWM_DRV_STAT.PRESENT && !(d.car c).reading && d.typeCheck c == 0
  d.setFld (R.PWM_DRV_STAT c) F.PWM_DRV_STAT.TYPEOK (if ok then 1 else 0)

/-- R251: the reading of a carrier's identification starts. -/
def Dev.carIdStart (d : Dev) (c : Nat) : Dev :=
  (d.setCar c { d.car c with reading := true, crcOk := false }).setFld (R.PWM_DRV_STAT c) F.PWM_DRV_STAT.TYPEOK 0

/-- R251: PRES becomes active. -/
def Dev.carInserted (d : Dev) (c : Nat) : Dev :=
  if d.bit (R.PWM_DRV_STAT c) F.PWM_DRV_STAT.PRESENT then d
  else (d.setFld (R.PWM_DRV_STAT c) F.PWM_DRV_STAT.PRESENT 1).carIdStart c

/-- R246: PRES is lost: an active trip on all four axes of the connector. -/
def Dev.carRemoved (d : Dev) (c : Nat) : Dev :=
  if !d.bit (R.PWM_DRV_STAT c) F.PWM_DRV_STAT.PRESENT then d
  else
    let d1 := ((d.setFld (R.PWM_DRV_STAT c) F.PWM_DRV_STAT.PRESENT 0).setFld (R.PWM_DRV_STAT c) F.PWM_DRV_STAT.TYPEOK 0).setCar c
      { d.car c with reading := false, crcOk := false }
    (d1.evAt 0x5002 5 c none [0]).each [0, 1, 2, 3] (fun d i => d.tripDrive c i)

/-- R251: the 64 bytes of identification have been read. -/
def Dev.carIdDone (d : Dev) (c : Nat) (b : List Byte) : Dev :=
  if !(d.car c).reading then d
  else
    let ok := decide ((crc32 (slice b 0 60)).toNat = uAt b 60 4)
    let d1 := (((d.setCar c { d.car c with reading := false, crcOk := ok, fmax := uAt b 10 2 }).setReg (R.PWM_DRV_TYPE c)
      (wN (uAt b 0 4))).setReg (R.PWM_DRV_SERIAL c) (wN (uAt b 4 4))).setReg (R.PWM_DRV_DTFLOOR c) (wN (uAt b 8 2))
    let d2 := d1.typeOkNow c
    if d2.bit (R.PWM_DRV_STAT c) F.PWM_DRV_STAT.TYPEOK then d2 else d2.evAt 0x5002 5 c none [wN (d2.typeCheck c)]

/-! ### Sigma-delta inputs (R247, R248) -/

/-- R247: the oversampling ratio of a data input. -/
def Dev.osr (d : Dev) (c j : Nat) : Nat := 16 * 2 ^ d.fld (R.SD_CFG c j) F.SD_CFG.OSR

/-- The sums of each `r` consecutive numbers of a list, `s` the sum of the `r` before the first of `new`, `old` those that leave. -/
def boxSums (s : Nat) : List Nat → List Nat → List Nat
  | x :: new, y :: old => (s + x - y) :: boxSums (s + x - y) new old
  | _, _ => []

/-- The sums of each `r` consecutive numbers of a list. -/
def boxes (r : Nat) (l : List Nat) : List Nat := (l.take r).sum :: boxSums (l.take r).sum (l.drop r) l

/-- R247: the sinc3 sum of an input over its last 3 × OSR modulator bits: three sums over OSR, one on the other. -/
def sincSum (osr : Nat) (bits : List Bool) : Nat :=
  let l := (bits.drop (bits.length - 3 * osr)).map (fun b => if b then 1 else 0)
  ((boxes osr (boxes osr (boxes osr (List.replicate (3 * osr - l.length) 0 ++ l)))).getLast?).getD 0

/-- R247: the result of a sinc3 sum: (2S / OSR³ − 1) in Q31, saturated. -/
def sincResult (osr s : Nat) : Int := sat32 ((2 * (s : Int) * 2 ^ 31) / (osr ^ 3 : Nat) - 2 ^ 31)

/-- R229, R230: the SRC of the channel that a data input feeds: current channel of a leg, or the bus voltage. -/
def sdSrc (c j : Nat) : Nat := if j = 12 then 0x02000000 + c else 0x01000000 + 12 * c + j

/-- R247: the modulator bits that an input has given since the last base tick, oldest first, join those it keeps. -/
def Dev.sdBits (d : Dev) (c j : Nat) (bits : List Bool) : Dev :=
  let l := tget d.pwm.bits (13 * c + j) [] ++ bits
  { d with pwm := { d.pwm with bits := tset d.pwm.bits (13 * c + j) (l.drop (l.length - 768)) } }

/-- R31, R247: a data input's result is latched at tick phase 0 and feeds its channel. -/
def Dev.sdLatch (d : Dev) (c j : Nat) : Dev :=
  let v := sincResult (d.osr c j) (sincSum (d.osr c j) (tget d.pwm.bits (13 * c + j) []))
  if d.bit (R.SD_CFG c j) F.SD_CFG.EN then
    (d.setReg (R.SD_VAL c j) (wI v)).feed 0 (sdSrc c j) (wI v) (!d.bit (R.SD_CFG c j) F.SD_CFG.LOSS)
  else d

/-- R248: a data input shows no transition for 64 modulator clocks. -/
def Dev.sdLoss (d : Dev) (c j : Nat) : Dev :=
  if d.bit (R.SD_CFG c j) F.SD_CFG.LOSS then d
  else
    ((d.setFld (R.SD_CFG c j) F.SD_CFG.LOSS 1).each (d.chansOf 0 (sdSrc c j)) (fun d k => d.chanValid k false)).evAt 0x5005 5 c
      (some j)

/-- R248: LOSS clears itself 3 × OSR modulator clocks after transitions return. -/
def Dev.sdLossClear (d : Dev) (c j : Nat) : Dev :=
  (d.setFld (R.SD_CFG c j) F.SD_CFG.LOSS 0).each (d.chansOf 0 (sdSrc c j)) (fun d k => d.chanValid k true)

/-- R263: the results of a connector's inputs are valid again 3 × OSR modulator clocks after SDCLK restarted. -/
def Dev.sdReady (d : Dev) (c : Nat) : Bool :=
  (List.range 13).all (fun j => !d.bit (R.SD_CFG c j) F.SD_CFG.EN || d.since d.pwm.sdFrom (3 * d.osr c j * 25))

/-! ### Checks of register writes -/

/-- R243: the sum 2 × MINP + 2 × DTMAX, in units of 2 ns, must not exceed half the period. -/
def dtSumOk (minp dtmax perNs : Nat) : Bool := decide (8 * (minp + dtmax) ≤ perNs)

/-- R231: PERIOD holds one of the codes. -/
def drvPeriodRange (new : Word) : Bool := decide (getF new F.PWM_DRV_CFG.PERIOD ≤ 4)

/-- R231, R243, R253: the checks of a write of PWM_DRV_CFG that changes PERIOD. -/
def Dev.drvCfgCheck (d : Dev) (c : Nat) (old new : Word) : List Status :=
  let p := getF new F.PWM_DRV_CFG.PERIOD
  if getF old F.PWM_DRV_CFG.PERIOD == p then []
  else
    [need (drvPeriodRange new) .badArg,
     need ((legsOf c).all (fun l => dtSumOk (d.fld (legReg R.PWM_LEG_CFG l) F.PWM_LEG_CFG.MINP)
       (d.fld (legReg R.PWM_LEG_DT l) F.PWM_LEG_DT.DTMAX) (15625 * 2 ^ p))) .badArg,
     need ((List.range 4).all (fun i => match d.axisOfDrive c i with
       | some a => !d.axEnabled a
       | none => true)) .conflict]

/-- R235, R243, R259: the checks of a write of PWM_LEG_CFG. -/
def Dev.legCfgCheck (d : Dev) (l : Nat) (old new : Word) : List Status :=
  let m := getF new F.PWM_LEG_CFG.MINP
  [need (getF old F.PWM_LEG_CFG.MINP == m || (decide (25 ≤ m) && decide (m ≤ 2500) &&
     dtSumOk m (d.fld (legReg R.PWM_LEG_DT l) F.PWM_LEG_DT.DTMAX) (d.pwmNs (l / 12)))) .badArg,
   need (getF old F.PWM_LEG_CFG.SRC == getF new F.PWM_LEG_CFG.SRC || (match d.axisOfLeg l with
     | some a => !d.axEnabled a
     | none => true)) .conflict]

/-- R240: the ranges of the fields of PWM_LEG_DT. -/
def legDtRange (new : Word) : Bool :=
  let lo := getF new F.PWM_LEG_DT.DTMIN
  let hi := getF new F.PWM_LEG_DT.DTMAX
  decide (10 ≤ lo) && decide (lo ≤ hi) && decide (hi ≤ 1000) && decide (getF new F.PWM_LEG_DT.MARGIN ≤ 500)

/-- R240, R243, R259: the checks of a write of PWM_LEG_DT. -/
def Dev.legDtCheck (d : Dev) (l : Nat) (new : Word) : List Status :=
  let hi := getF new F.PWM_LEG_DT.DTMAX
  [need (legDtRange new && dtSumOk (d.fld (legReg R.PWM_LEG_CFG l) F.PWM_LEG_CFG.MINP) hi (d.pwmNs (l / 12))) .badArg]

/-- R235, R239, R242: what a write of PWM_LEG_CTL starts: COMMIT commits the pair as it stands, CLRACC clears the
accumulator; a DIRECT leg that DEN turns on starts as at an enable. -/
def Dev.legCtlDo (d : Dev) (l : Nat) (old w : Word) : Dev :=
  let d1 := if getF w F.PWM_LEG_CTL.CLRACC == 1 then d.clearAcc l else d
  let starts := getF old F.PWM_LEG_CTL.DEN == 0 && getF w F.PWM_LEG_CTL.DEN == 1 && d.bit (legReg R.PWM_LEG_CFG l) F.PWM_LEG_CFG.SRC
  let d2 := d1.when starts (fun d => d.legAnew l)
  if getF w F.PWM_LEG_CTL.COMMIT == 1 then d2.directCommit l (d.leg l).comm else d2

/-- R242: what a write of PWM_LEG_CFG starts: the accumulator is 0 after a change of SRC. -/
def Dev.legCfgDo (d : Dev) (l : Nat) (old : Word) : Dev :=
  if getF old F.PWM_LEG_CFG.SRC == d.fld (legReg R.PWM_LEG_CFG l) F.PWM_LEG_CFG.SRC then d else d.clearAcc l

/-- R234, R235: the checks of a write of PWM_LEG_CTL: a commit of the pair as it stands must be one that a DIRECT commit may make. -/
def Dev.legCtlCheck (d : Dev) (l : Nat) (w : Word) : List Status :=
  if getF w F.PWM_LEG_CTL.COMMIT == 0 then [] else d.directCheck l (d.leg l).comm

/-! ### Commands -/

/-- CLASS_F_OUTPUT_TAKE (R202). -/
def execClassFOutputTake (a lvl : Nat) (s : State) : Host.Outcome State Fault Refusal :=
  s.runIf (decide (a < 8192) && decide (lvl < 3)) (fun d => d.outputTake a lvl)

/-- RELOAD_SAMPLE (R236). -/
def execReloadSample (c : Nat) (s : State) : Host.Outcome State Fault Refusal :=
  s.runIf (decide (c < 8)) (fun d => d.reloadSample c)

/-- PWM_PERIOD_START (R241). -/
def execPwmPeriodStart (c : Nat) (s : State) : Host.Outcome State Fault Refusal :=
  s.runIf (decide (c < 8)) (fun d => d.pwmPeriod c)

/-- DELAY_LINE_CAL (R233). -/
def execDelayLineCal (c : Nat) (map : Option Nat) (s : State) : Host.Outcome State Fault Refusal :=
  s.runIf (decide (c < 8)) (fun d => d.delayCal c map)

/-- SWN_EDGE (R239). -/
def execSwnEdge (l : Nat) (low : Bool) (ns : Nat) (s : State) : Host.Outcome State Fault Refusal :=
  s.runIf (decide (l < 96)) (fun d => d.swnEdge l low ns)

/-- SWN_MISS (R240). -/
def execSwnMiss (l : Nat) (s : State) : Host.Outcome State Fault Refusal :=
  s.runIf (decide (l < 96)) (fun d => d.swnMiss l)

/-- CARRIER_REMOVED (R246). -/
def execCarrierRemoved (c : Nat) (s : State) : Host.Outcome State Fault Refusal :=
  s.runIf (decide (c < 8)) (fun d => d.carRemoved c)

/-- CARRIER_INSERTED (R251). -/
def execCarrierInserted (c : Nat) (s : State) : Host.Outcome State Fault Refusal :=
  s.runIf (decide (c < 8)) (fun d => d.carInserted c)

/-- CARRIER_ID_READ_DONE (R251). -/
def execCarrierIdReadDone (c : Nat) (bytes : List (BitVec 8)) (s : State) : Host.Outcome State Fault Refusal :=
  s.runIf (decide (c < 8)) (fun d => d.carIdDone c bytes)

/-- SD_LOSS (R248). -/
def execSdLoss (c j : Nat) (s : State) : Host.Outcome State Fault Refusal :=
  s.runIf (decide (c < 8) && decide (j < 13)) (fun d => d.sdLoss c j)

/-- SD_LOSS_CLEAR (R248). -/
def execSdLossClear (c j : Nat) (s : State) : Host.Outcome State Fault Refusal :=
  s.runIf (decide (c < 8) && decide (j < 13)) (fun d => d.sdLossClear c j)

end Sys2Proof.Machine
end

