-- ==== Sys2Proof/Machine/Feedback.lean ====
section
/-! DEFINITION. Position and speed feedback (spec/08_feedback.md): quadrature, SSI, Hall, speed estimation, probes, remote
encoders and the encoder supply. -/

namespace Sys2Proof.Machine

open Sys2Proof

/-! ### Channels -/

/-- The state of a local channel. -/
def Dev.enc (d : Dev) (k : Nat) : EncSt := tget d.fbk.enc k {}

/-- The device with a channel's state set. -/
def Dev.setEnc (d : Dev) (k : Nat) (x : EncSt) : Dev := { d with fbk := { d.fbk with enc := tset d.fbk.enc k x } }

/-- FBK_ENC_CFG.MODE: 0 OFF, 1 QUAD, 2 SSI, 3 HALL. -/
def Dev.encMode (d : Dev) (k : Nat) : Nat := d.fld (R.FBK_ENC_CFG k) F.FBK_ENC_CFG.MODE

/-- R265: the SRC of a local channel's position. -/
def encPosSrc (k : Nat) : Nat := 0x03000000 + k

/-- R265: the SRC of a local channel's speed. -/
def encSpdSrc (k : Nat) : Nat := 0x04000000 + k

/-- R279: the cause that shows: the lowest of those that hold; 0 if the channel is valid. -/
def Dev.encCause (d : Dev) (k : Nat) : Nat :=
  let x := d.enc k
  if x.c1 then 1 else if x.c2 then 2 else if x.c3 then 3 else if d.encMode k == 0 then 4 else 0

/-- R265, R279, R286: VALID and CAUSE follow; becoming invalid is logged, and the channel's sources lose their validity. -/
def Dev.encValidity (d : Dev) (k : Nat) : Dev :=
  let st := R.FBK_ENC_STAT k
  let was := d.bit st F.FBK_ENC_STAT.VALID
  let c := d.encCause k
  let d1 := (d.setFld st F.FBK_ENC_STAT.CAUSE c).setFld st F.FBK_ENC_STAT.VALID (if c == 0 then 1 else 0)
  let d2 := d1.each (d.chansOf 0 (encPosSrc k) ++ d.chansOf 0 (encSpdSrc k)) (fun d ch => d.chanValid ch (c == 0))
  if was && c != 0 then d2.evObj 0x5011 5 k [wN c] else d2

/-- R268: the position that follows the count. -/
def EncSt.follow (x : EncSt) (hyst : Bool) : EncSt :=
  if !hyst then { x with p := x.q }
  else
    let gap := wrapI 32 (x.q - x.p)
    if x.up then
      if 0 < gap then { x with p := x.q }
      else if gap ≤ -2 then { x with up := false, p := wrapI 32 (x.q + 1) }
      else x
    else
      if gap + 1 < 0 then { x with p := wrapI 32 (x.q + 1) }
      else if 1 ≤ gap then { x with up := true, p := x.q }
      else x

/-- R266: the stamp of an edge that passes the input filter now. -/
def Dev.edgeStamp (d : Dev) (filt : Nat) : Nat := d.ns - 2 * filt

/-- R276: the probes that latched channel `k` in this clock. -/
def Dev.prbNow (d : Dev) (k : Nat) : List Nat :=
  (d.fbk.prbClk.filter (fun e => e.2 == d.clk && d.fld (R.FBK_PRB_CFG e.1) F.FBK_PRB_CFG.SRC == k)).map (·.1)

/-- R267: a legal transition by ±1. A probe that latched in this clock holds the count after it (R280). -/
def Dev.encCount (d : Dev) (k : Nat) (delta : Int) : Dev :=
  let cfg := R.FBK_ENC_CFG k
  let s := if d.bit cfg F.FBK_ENC_CFG.DIR then -delta else delta
  let x := d.enc k
  let before := match x.moved with
    | some (c, n) => if c == d.clk then n else 0
    | none => 0
  let y := { x with q := wrapI 32 (x.q + s), moved := some (d.clk, before + s) }.follow (d.bit cfg F.FBK_ENC_CFG.HYST)
  let stamp := d.edgeStamp (d.fld cfg F.FBK_ENC_CFG.FILT)
  let d1 := d.setEnc k (if y.p == x.p then y else { y with te := stamp })
  let d2 := d1.setReg (R.FBK_ENC_POS k) (wI y.p)
  let d3 := if y.p == x.p then d2 else d2.setReg (R.FBK_ENC_TLAST k) (wN stamp)
  d3.each (d.prbNow k) (fun d p => d.setReg (R.FBK_PRB_POS p) (wI y.p))

/-- R267: an illegal transition; the fourth within 1 ms of the first of the last four makes the channel invalid. It undoes a CLRINV of this clock, and a probe
that latched in this clock holds it in its QERR (R280). -/
def Dev.encIllegal (d : Dev) (k : Nat) : Dev :=
  let st := R.FBK_ENC_STAT k
  let x := d.enc k
  let l := (d.clk :: x.illegal).take 4
  let four := l.length == 4 && decide (d.clk ≤ (l.getLast?.getD 0) + clksOfMs 1)
  let (b1, b2, b3) := match x.cleared with
    | some (c, b) => if c == d.clk then b else (false, false, false)
    | none => (false, false, false)
  let y := { x with illegal := l, errClk := some d.clk, c1 := x.c1 || four || b1, c2 := x.c2 || b2, c3 := x.c3 || b3 }
  let d1 := (((d.setEnc k y).setW1c st F.FBK_ENC_STAT.QERR).bump st F.FBK_ENC_STAT.ERRCNT 1).evObj 0x5010 3 k
  let d2 := if four || b1 || b2 || b3 then d1.encValidity k else d1
  d2.each (d.prbNow k) (fun d p => d.setFld (R.FBK_PRB_STAT p) F.FBK_PRB_STAT.QERR 1)

/-- R267: a change of the filtered lines A (bit 0) and B (bit 1) of a quadrature channel. With A leading B the count goes up. -/
def Dev.quad (d : Dev) (k old new : Nat) : Dev :=
  if d.encMode k != 1 || old == new then d
  else
    match old, new with
    | 0, 1 => d.encCount k 1
    | 1, 3 => d.encCount k 1
    | 3, 2 => d.encCount k 1
    | 2, 0 => d.encCount k 1
    | 1, 0 => d.encCount k (-1)
    | 3, 1 => d.encCount k (-1)
    | 2, 3 => d.encCount k (-1)
    | 0, 2 => d.encCount k (-1)
    | _, _ => d.encIllegal k

/-- R273: the place of a Hall code in its sequence. -/
def hallPlace (code : Nat) : Option Nat := [1, 3, 2, 6, 4, 5].findIdx? (· == code)

/-- R273: a change of a Hall code. -/
def Dev.hall (d : Dev) (k old new : Nat) : Dev :=
  if d.encMode k != 3 || old == new then d
  else match hallPlace old, hallPlace new with
    | some a, some b =>
      if b == (a + 1) % 6 then d.encCount k 1 else if a == (b + 1) % 6 then d.encCount k (-1) else d.encIllegal k
    | none, some _ => d
    | _, none => d.encIllegal k

/-! ### SSI (R269 to R272) -/

/-- R269: SSILEAD in ns, rounded up to 2 ns. -/
def Dev.ssiLead (d : Dev) (k : Nat) : Nat :=
  let s := R.FBK_ENC_SSI k
  (d.fld s F.FBK_ENC_SSI.BITS + 3) * 2 * d.fld s F.FBK_ENC_SSI.CLKDIV + 2000

/-- R269: a frame starts SSILEAD before its period; the encoder latches at its first falling clock edge. -/
def Dev.ssiStart (d : Dev) (k : Nat) : Dev :=
  let per := periodNs (d.fld (R.FBK_ENC_CFG k) F.FBK_ENC_CFG.PER)
  let n := (d.ns + d.ssiLead k) / per
  let x := d.enc k
  if d.encMode k != 2 || x.frameNo == some n || x.frame.isSome then d
  else d.setEnc k { x with frame := some d.ns, frameNo := some n }

/-- R269: a Gray-coded number of `n` bits as a binary one. -/
def ofGray : Nat → Nat → Nat
  | 0, g => g
  | n + 1, g => g ^^^ ofGray n (g / 2)

/-- R271: what is wrong with a frame: 0 nothing, 1 no data transition within 2 µs, 2 parity, 3 error bit, 4 the line is
not high at the end of MONO. -/
def Dev.ssiError (d : Dev) (k : Nat) (td : Option Nat) (data : Nat) (err par high : Bool) : Nat :=
  let s := R.FBK_ENC_SSI k
  let ones := popBits data 24 + (if d.bit s F.FBK_ENC_SSI.ERRBIT && err then 1 else 0) + (if par then 1 else 0)
  if (match td with | none => true | some t => decide (1000 < t)) then 1
  else if d.bit s F.FBK_ENC_SSI.PAR && ones % 2 == 1 then 2
  else if d.bit s F.FBK_ENC_SSI.ERRBIT && err then 3
  else if !high then 4
  else 0

/-- R274: the output of the speed estimation: the mean of the last 2^SPAVG estimates over SPFS, in Q31, saturated. -/
def speedOut (ests : List Int) (avg : Nat) (spfs : Nat) : Int :=
  let l := ests.take (2 ^ avg)
  if l.isEmpty || spfs = 0 then 0 else sat32 ((l.foldl (· + ·) 0 / (l.length : Int)) * 2 ^ 31 / (spfs * 2 ^ 32))

/-- R274: an estimate joins the last ones, and the speed is shown. -/
def Dev.encSpeed (d : Dev) (k : Nat) (v : Int) : Dev :=
  let x := d.enc k
  let l := (v :: x.ests).take 8
  (d.setEnc k { x with ests := l }).setReg (R.FBK_ENC_SPD k)
    (wI (speedOut l (d.fld (R.FBK_ENC_CFG k) F.FBK_ENC_CFG.SPAVG) (d.reg (R.FBK_ENC_SPFS k)).toNat))

/-- The speed of `n` counts in `ns`, in units of 2^-32 counts/s. -/
def speedOf (n : Int) (ns : Nat) : Int := if ns = 0 then Config.divByZero n else n * 1000000000 * 2 ^ 32 / ns

/-- The travel at a speed over a time in ns, truncated (R160). -/
def travel (v ns : Int) : Int := v * ns / (1000000000 * 2 ^ 32)

/-- R272: the position of an SSI channel at an instant. -/
def Dev.ssiAt (d : Dev) (k : Nat) (t : Int) : Int :=
  let x := d.enc k
  match x.valNs with
  | some tl => wrapI 32 (x.val + travel (x.ests.head?.getD 0) (t - tl))
  | none => x.val

/-- R271, R274: the end of a frame: `td` is the line delay in 2 ns units, `data` the data bits, then the error bit, the
parity bit and the level of the line at the end of MONO. -/
def Dev.ssiEnd (d : Dev) (k : Nat) (td : Option Nat) (data : Nat) (err par high : Bool) : Dev :=
  let x := d.enc k
  let st := R.FBK_ENC_STAT k
  let s := R.FBK_ENC_SSI k
  match x.frame with
  | none => d
  | some tl =>
    let bad := d.ssiError k td data err par high
    if bad != 0 then
      let n := x.errRun + 1
      let lost := decide (d.fld s F.FBK_ENC_SSI.ERRLIM ≤ n)
      let d1 := ((d.setEnc k { x with
        frame := none, errRun := n, errClk := some d.clk, c2 := x.c2 || lost, good := x.good && !lost }).bump st
        F.FBK_ENC_STAT.ERRCNT 1).evObj 0x5012 3 k [wN bad]
      if lost then d1.encValidity k else d1
    else
      let bits := d.fld s F.FBK_ENC_SSI.BITS
      let raw := data % 2 ^ bits
      let bin := if d.bit s F.FBK_ENC_SSI.GRAY then ofGray bits raw else raw
      let val := wrapI 32 ((bin * 2 ^ (32 - bits) : Nat) : Int)
      let y := { x with frame := none, errRun := 0, good := true, val := val, valNs := some tl, p := val, q := val, te := tl }
      let d1 := (((d.setEnc k y).setFld st F.FBK_ENC_STAT.TD (td.getD 0)).setReg (R.FBK_ENC_TLAST k) (wN tl)).setReg
        (R.FBK_ENC_POS k) (wI val)
      match x.valNs with
      | some t0 => if t0 < tl then d1.encSpeed k (speedOf (wrapI 32 (val - x.val)) (tl - t0)) else d1
      | none => d1

/-! ### Speed windows and the base tick (R274, R31) -/

/-- R274: the end of a speed window of a QUAD or HALL channel. -/
def Dev.speedWindow (d : Dev) (k : Nat) : Dev :=
  let m := d.encMode k
  let per := d.fld (R.FBK_ENC_CFG k) F.FBK_ENC_CFG.PER
  let x := d.enc k
  let w := d.time.tick / 2 ^ per
  if (m != 1 && m != 3) || x.win == some w || d.time.tick % 2 ^ per != 0 then d
  else
    let tw := d.time.tick * 31250
    let n := wrapI 32 (x.p - x.pTp)
    let v0 := x.ests.head?.getD 0
    if n != 0 then
      (d.setEnc k { x with win := some w, tp := x.te, pTp := x.p }).encSpeed k (speedOf n (x.te - x.tp))
    else
      let v := if decide (x.tp + 100000000 ≤ tw) then 0
        else
          let lim := speedOf 1 (tw - x.tp)
          if v0 < 0 then -(min (-v0) lim) else min v0 lim
      (d.setEnc k { x with win := some w }).encSpeed k v

/-- R31, R265, R272: stage 1 latches a local channel's position and speed into the fabric; those of a channel that is off are not valid. -/
def Dev.encLatch (d : Dev) (k : Nat) : Dev :=
  if d.encMode k == 0 then d.each (d.chansOf 0 (encPosSrc k) ++ d.chansOf 0 (encSpdSrc k)) (fun d c => d.chanValid c false)
  else
    let x := d.enc k
    let ok := d.encCause k == 0
    let p := if d.encMode k == 2 && d.bit (R.FBK_ENC_CFG k) F.FBK_ENC_CFG.EXTRAP then d.ssiAt k (d.ns : Int) else x.p
    let d0 := d.setEnc k { x with lat := x.lat + wrapI 32 (p - x.lat) }
    ((d0.setReg (R.FBK_ENC_POS k) (wI p)).feed 0 (encPosSrc k) (wI p) ok).feed 0 (encSpdSrc k) (d.reg (R.FBK_ENC_SPD k)) ok

/-- R31, R265: stage 1 latches the last latched position of a probe into the fabric. -/
def Dev.probeSample (d : Dev) (p : Nat) : Dev :=
  d.feed 0 (0x05000000 + p) (d.reg (R.FBK_PRB_POS p)) ((tget? d.fbk.prbClk p).isSome && !d.bit (R.FBK_PRB_STAT p) F.FBK_PRB_STAT.INVAL)

/-! ### Writes of channel registers (R279, R281 to R283) -/

/-- R264: the connector of a local channel. -/
def encConn (k : Nat) : Nat := k / 4

/-- R278: the encoder supply of a connector is on. -/
def Dev.encSupply (d : Dev) (c : Nat) : Bool := bitAt (d.reg R.SYS_ENV_ENC).toNat c

/-- R279: CLRINV clears the latched causes if their conditions hold. -/
def Dev.clrInv (d : Dev) (k : Nat) : Dev :=
  let x := d.enc k
  let quiet := match x.errClk with
    | some c => decide (c + clksOfMs 1 < d.clk)
    | none => true
  if quiet && (d.encMode k != 2 || x.good) && d.encSupply (encConn k) then
    (d.setEnc k { x with c1 := false, c2 := false, c3 := false, cleared := some (d.clk, x.c1, x.c2, x.c3) }).encValidity k
  else d

/-- The LOCAL axis whose position feedback is a local channel. -/
def Dev.axisOfEnc (d : Dev) (k : Nat) : List Nat :=
  (d.img.axes.filter (fun r => (d.chansOf 0 (encPosSrc k)).contains r.fb)).map (·.axis)

/-- R283: the checks of a write of FBK_ENC_PRESET. -/
def Dev.presetCheck (d : Dev) (k : Nat) : List Status :=
  [need (!((d.axisOfEnc k).any (fun a => d.axEnabled a))) .conflict, need (d.encMode k != 2) .unsupported]

/-- R280, R283: a preset sets q and p; a count change of this clock counts on top of it. -/
def Dev.encPreset (d : Dev) (k : Nat) (w : Word) : Dev :=
  let x := d.enc k
  let n := match x.moved with
    | some (c, n) => if c == d.clk then n else 0
    | none => 0
  let p := wrapI 32 (w.toInt + n)
  (d.setEnc k { x with q := p, p := p, up := decide (0 ≤ n), pTp := wrapI 32 (x.pTp + (p - x.p)) }).setReg (R.FBK_ENC_POS k) (wI p)

/-- R270: the period must hold SSILEAD and MONO. -/
def ssiFits (per bits div mono : Nat) : Bool := decide ((bits + 3) * 2 * div + 2000 + 1000 * mono ≤ periodNs per)

/-- R270, R281: the checks of a write of FBK_ENC_CFG. -/
def Dev.encCfgCheck (d : Dev) (k : Nat) (new : Word) : List Status :=
  let m := getF new F.FBK_ENC_CFG.MODE
  let s := R.FBK_ENC_SSI k
  [need (m != 2 || d.fld s F.FBK_ENC_SSI.BITS != 0) .badLen,
   need (decide (m ≤ 3)) .badArg,
   need (m != 2 || ssiFits (getF new F.FBK_ENC_CFG.PER) (d.fld s F.FBK_ENC_SSI.BITS) (d.fld s F.FBK_ENC_SSI.CLKDIV)
     (d.fld s F.FBK_ENC_SSI.MONO)) .badArg]

/-- R270, R282: the checks of a write of FBK_ENC_SSI. -/
def Dev.encSsiCheck (d : Dev) (k : Nat) (new : Word) : List Status :=
  let b := getF new F.FBK_ENC_SSI.BITS
  let c := getF new F.FBK_ENC_SSI.CLKDIV
  let m := getF new F.FBK_ENC_SSI.MONO
  [need (d.encMode k != 2 || b != 0) .badLen, need (m != 0) .badLen, need (getF new F.FBK_ENC_SSI.ERRLIM != 0) .badLen,
   need (decide (b ≤ 24)) .badArg, need (decide (50 ≤ c) && decide (c ≤ 250)) .badArg,
   need (d.encMode k != 2 || ssiFits (d.fld (R.FBK_ENC_CFG k) F.FBK_ENC_CFG.PER) b c m) .badArg]

/-! ### Probes (R275, R276) -/

/-- R284: the checks of a write of FBK_PRB_CTL. -/
def Dev.probeCheck (d : Dev) (p : Nat) (w : Word) : List Status :=
  let arm := getF w F.FBK_PRB_CTL.ARM == 1 && getF w F.FBK_PRB_CTL.DISARM == 0
  [need (!arm || d.encMode (d.fld (R.FBK_PRB_CFG p) F.FBK_PRB_CFG.SRC) != 0) .notReady]

/-- R280: what a write of FBK_PRB_CTL starts; DISARM prevails. -/
def Dev.probeCtl (d : Dev) (p : Nat) (w : Word) : Dev :=
  let st := R.FBK_PRB_STAT p
  if getF w F.FBK_PRB_CTL.DISARM == 1 then d.setFld st F.FBK_PRB_STAT.ARMED 0
  else if getF w F.FBK_PRB_CTL.ARM == 1 then d.setFld st F.FBK_PRB_STAT.ARMED 1
  else d

/-- R505: the trigger conditions of KIND PROBE that a latch of probe `p` meets, with its instant. -/
def Dev.capProbe (d : Dev) (p : Nat) (stamp : Word) : Dev :=
  let ts := (List.range 32).filter (fun t => d.bit (R.CAP_TRIG_CFG t) F.CAP_TRIG_CFG.EN && d.fld (R.CAP_TRIG_CFG t) F.CAP_TRIG_CFG.KIND == 6 &&
    d.fld (R.CAP_TRIG_CFG t) F.CAP_TRIG_CFG.SRC == p && d.capOpen t)
  { d with cap := { d.cap with met := ts.foldl (fun m t => tset m t stamp) d.cap.met } }

/-- R275, R276, R280: an edge at a probe. -/
def Dev.probeEdge (d : Dev) (p : Nat) (rising : Bool) : Dev :=
  let cfg := R.FBK_PRB_CFG p
  let st := R.FBK_PRB_STAT p
  let sel := d.fld cfg F.FBK_PRB_CFG.EDGE
  let hit := if rising then sel % 2 == 1 else decide (2 ≤ sel)
  if !d.bit cfg F.FBK_PRB_CFG.EN || !d.bit st F.FBK_PRB_STAT.ARMED || !hit then d
  else
    let d1 := if d.bit cfg F.FBK_PRB_CFG.ONESHOT then d.setFld st F.FBK_PRB_STAT.ARMED 0 else d
    if d.bit st F.FBK_PRB_STAT.LATCHED then d1.setFld st F.FBK_PRB_STAT.OVR 1
    else
      let k := d.fld cfg F.FBK_PRB_CFG.SRC
      let x := d.enc k
      let stamp := d.edgeStamp (d.fld cfg F.FBK_PRB_CFG.FILT)
      let pos := if d.encMode k == 2 then d.ssiAt k (stamp : Int) else x.p
      let ok := d.encCause k == 0
      let qerr := x.illegal.head? == some d.clk
      let d2 := ((d1.setReg (R.FBK_PRB_POS p) (wI pos)).setReg (R.FBK_PRB_TIME p) (wN stamp)).setFld st F.FBK_PRB_STAT.LATCHED 1
      let d3 := (d2.setFld st F.FBK_PRB_STAT.INVAL (if ok then 0 else 1)).setFld st F.FBK_PRB_STAT.QERR (if qerr then 1 else 0)
      ({ d3 with fbk := { d3.fbk with prbClk := tset d3.fbk.prbClk p d.clk } } : Dev).capProbe p (wN stamp)

/-- R60, R275: a read of FBK_PRB_POS counts the capture as read. -/
def Dev.probeRead (d : Dev) (p : Nat) : Dev :=
  (d.setFld (R.FBK_PRB_STAT p) F.FBK_PRB_STAT.LATCHED 0).setFld (R.FBK_PRB_STAT p) F.FBK_PRB_STAT.OVR 0

/-! ### Remote encoders (R277) -/

/-- The state of a remote encoder. -/
def Dev.rem (d : Dev) (r : Nat) : RemSt := tget d.fbk.rem r {}

/-- The device with a remote encoder's state set. -/
def Dev.setRem (d : Dev) (r : Nat) (x : RemSt) : Dev := { d with fbk := { d.fbk with rem := tset d.fbk.rem r x } }

/-- The slot whose upstream field feeds a channel. -/
def Dev.slotOfChan (d : Dev) (c : Nat) : Option SlotRec :=
  match d.img.io.find? (fun m => m.dir == 1 && m.chan == c) with
  | some m => d.slotOfEp m.ep
  | none => none

/-- R279: a remote encoder's VALID and CAUSE are set; becoming invalid is logged. -/
def Dev.remValidity (d : Dev) (r cause : Nat) : Dev :=
  let st := R.FBK_REM_STAT r
  let was := d.bit st F.FBK_REM_STAT.VALID
  let d1 := (d.setFld st F.FBK_REM_STAT.CAUSE cause).setFld st F.FBK_REM_STAT.VALID (if cause == 0 then 1 else 0)
  let d2 := d1.each (d.chansOf 0 (0x06000000 + r) ++ d.chansOf 0 (0x07000000 + r)) (fun d c => d.chanValid c (cause == 0))
  if was && cause != 0 then d2.evObj 0x5011 5 r [wN cause] else d2

/-- R31, R265, R277: one cycle of a remote encoder, in stage 1 of the base tick in which the cycle starts. -/
def Dev.remCycle (d : Dev) (r : Nat) : Dev :=
  let cfg := R.FBK_REM_CFG r
  let chan := d.fld cfg F.FBK_REM_CFG.POSCHAN
  if !d.bit cfg F.FBK_REM_CFG.EN then d
  else match d.slotOfChan chan with
    | none => d
    | some s =>
      let cyc := (d.reg (R.LINE_CYCLE s.port)).toNat
      let x := d.rem r
      if x.cyc == some cyc then d
      else
        let d0 := d.setRem r { x with cyc := some cyc }
        if d.bit (R.LINE_SLOT_STAT s.port s.slot) F.LINE_SLOT_STAT.STALE || (d.port s.port).keepAlive then d0.remValidity r 5
        else
          let per := periodNs (d.portK s.port)
          let stamp := signed 16 ((d.chanSt (d.fld cfg F.FBK_REM_CFG.STAMPCHAN)).val.toNat % 65536)
          let ofs : Int := if d.bit cfg F.FBK_REM_CFG.NOSTAMP then 0 else 8 * stamp
          let none_ := !d.bit cfg F.FBK_REM_CFG.NOSTAMP && stamp == -32768
          if none_ || decide (per < 2 * ofs.natAbs) then
            let n := x.bad + 1
            let d1 := ((d0.setRem r { x with cyc := some cyc, bad := n }).bump (R.FBK_REM_STAT r) F.FBK_REM_STAT.ERRCNT 1).evObj
              0x5014 3 r
            if 3 ≤ n then d1.remValidity r 6 else d1
          else
            let pos := wrapI 32 (d.chanI chan + travel (-x.v) ofs)
            let v := if x.has then speedOf (wrapI 32 (pos - d.regI (R.FBK_REM_POS r))) per else 0
            let spd := speedOut [v] 0 (d.reg (R.FBK_REM_SPFS r)).toNat
            let y : RemSt := { has := true, v := v, bad := 0, cyc := some cyc, csNs := (d.port s.port).cycleNs,
                               u := x.u + wrapI 32 (pos - x.u) }
            let d1 := ((d0.setRem r y).setReg (R.FBK_REM_POS r) (wI pos)).setReg (R.FBK_REM_SPD r) (wI spd)
            ((d1.remValidity r 0).feed 0 (0x06000000 + r) (wI pos)).feed 0 (0x07000000 + r) (wI spd)

/-! ### Encoder supply (R278) -/

/-- R278: an overcurrent: the supply of a connector is switched off and its channels are invalid. -/
def Dev.encOvercurrent (d : Dev) (c : Nat) : Dev :=
  let d1 := (d.setReg R.SYS_ENV_ENC (wN (clrBit (d.reg R.SYS_ENV_ENC).toNat c))).setW1c R.FBK_SUP F.FBK_SUP.SUPFLT (2 ^ c)
  (d1.evObj 0x5013 5 c).each [4 * c, 4 * c + 1, 4 * c + 2, 4 * c + 3] (fun d k =>
    (d.setEnc k { d.enc k with c3 := true }).encValidity k)

/-- R278: RESTORE switches the supply of each named connector on again. -/
def Dev.encRestore (d : Dev) (mask : Nat) : Dev :=
  d.setReg R.SYS_ENV_ENC (wN ((d.reg R.SYS_ENV_ENC).toNat ||| (mask % 256)))

/-! ### Input filters (R244, R266, R275) -/

/-- The length of the filter of a line in clocks. -/
def Dev.filLen (d : Dev) (key : Nat) : Nat :=
  if key < 32 then d.fld (R.PWM_TRIP_CFG (key / 4) (key % 4)) F.PWM_TRIP_CFG.FILT
  else if key < 160 then d.fld (R.FBK_ENC_CFG ((key - 32) / 4)) F.FBK_ENC_CFG.FILT
  else d.fld (R.FBK_PRB_CFG (key - 160)) F.FBK_PRB_CFG.FILT

/-- The clock in which the filter of a line passes its new level on; none if it has none to pass on. -/
def Dev.filAt (d : Dev) (key : Nat) : Option Nat :=
  let x := d.filOf key
  if x.raw == x.out then none else some (max d.clk (x.clk + d.filLen key))

/-- The lines whose filters pass a level on in this clock. -/
def Dev.filDue (d : Dev) : List Nat := (d.fil.map (·.1)).filter (fun k => d.filAt k == some d.clk)

/-- The filtered lines of a local channel as a code: line i is bit i. -/
def Dev.encCode (d : Dev) (k : Nat) : Nat :=
  (List.range 3).foldl (fun m i => if (d.filOf (32 + 4 * k + i)).out then setBit m i else m) 0

/-- R244, R266, R275: the filters pass on what is due in this clock. The lines of a channel that change together make one transition, and counts come before
the edges of probes (R280). The block is off in P4. -/
def Dev.filClock (d : Dev) : Dev :=
  let due := d.filDue
  let d1 := d.each due (fun d k => { d with fil := tset d.fil k { d.filOf k with out := (d.filOf k).raw } })
  if due.isEmpty || d.pstate == 4 then d1
  else
    let d2 := d1.each (due.filter (fun k => decide (k < 32))) (fun d k => d.tripInput (k / 4) (k % 4))
    let encs := (List.range 32).filter (fun k => due.any (fun q => decide (32 ≤ q) && decide (q < 160) && (q - 32) / 4 == k))
    let d3 := d2.each encs (fun e k => (e.quad k (d.encCode k % 4) (e.encCode k % 4)).hall k (d.encCode k) (e.encCode k))
    d3.each (due.filter (fun k => decide (160 ≤ k))) (fun e k => e.probeEdge (k - 160) (e.filOf k).out)

/-- A line takes a level. A trip input that nothing has driven yet stood at its inactive level, any other line low. -/
def Dev.setLine (d : Dev) (key : Nat) (lvl : Bool) : Dev :=
  let idle := decide (key < 32) && !d.bit (R.PWM_TRIP_CFG (key / 4) (key % 4)) F.PWM_TRIP_CFG.POL
  let x := tget d.fil key { raw := idle, out := idle }
  if x.raw == lvl then { d with fil := tset d.fil key x } else { d with fil := tset d.fil key { x with raw := lvl, clk := d.clk } }

/-- `n` clocks pass; the filters act in the clock in which each is due. `fuel` bounds the clocks in which some are. -/
def Dev.passFil : Nat → Dev → Nat → Dev
  | 0, d, n => d.pass n
  | fuel + 1, d, n =>
    match ((d.fil.filterMap (fun e => d.filAt e.1)).filter (fun c => decide (c < d.clk + n))).min? with
    | none => d.pass n
    | some c => ((d.pass (c - d.clk)).filClock).gatesFollow.passFil fuel (n - (c - d.clk))

/-! ### Commands -/

/-- TRIP_ACTIVE (R244): a trip input takes a level. -/
def execTripActive (c t : Nat) (high : Bool) (s : State) : Host.Outcome State Fault Refusal :=
  s.runIf (decide (c < 8) && decide (t < 4)) (fun d => (d.setLine (4 * c + t) high).filClock)

/-- QUAD_TRANSITION (R266, R267): the lines A and B of a channel take their levels. -/
def execQuadTransition (k : Nat) (a b : Bool) (s : State) : Host.Outcome State Fault Refusal :=
  s.runIf (decide (k < 32)) (fun d => ((d.setLine (32 + 4 * k) a).setLine (32 + 4 * k + 1) b).filClock)

/-- HALL_CHANGE (R266, R273): the lines A, B and C of a channel take their levels. -/
def execHallChange (k : Nat) (a : Bool) (bc : Bool × Bool) (s : State) : Host.Outcome State Fault Refusal :=
  s.runIf (decide (k < 32)) (fun d =>
    (((d.setLine (32 + 4 * k) a).setLine (32 + 4 * k + 1) bc.1).setLine (32 + 4 * k + 2) bc.2).filClock)

/-- SSI_FRAME_START (R269). -/
def execSsiFrameStart (k : Nat) (s : State) : Host.Outcome State Fault Refusal :=
  s.runIf (decide (k < 32)) (fun d => d.ssiStart k)

/-- SSI_FRAME_END (R271). -/
def execSsiFrameEnd (k : Nat) (td : Option Nat) (data : Nat) (err par high : Bool) (s : State) :
    Host.Outcome State Fault Refusal :=
  s.runIf (decide (k < 32)) (fun d => d.ssiEnd k td data err par high)

/-- SPEED_WINDOW (R274). -/
def execSpeedWindow (k : Nat) (s : State) : Host.Outcome State Fault Refusal :=
  s.runIf (decide (k < 32)) (fun d => d.speedWindow k)

/-- PROBE_EDGE (R275): a probe's line takes a level. -/
def execProbeEdge (p : Nat) (high : Bool) (s : State) : Host.Outcome State Fault Refusal :=
  s.runIf (decide (p < 16)) (fun d => (d.setLine (160 + p) high).filClock)

/-- REMOTE_ENCODER_CYCLE (R277). -/
def execRemoteEncoderCycle (r : Nat) (s : State) : Host.Outcome State Fault Refusal :=
  s.runIf (decide (r < 256)) (fun d => d.remCycle r)

/-- ENC_OVERCURRENT (R278). -/
def execEncOvercurrent (c : Nat) (s : State) : Host.Outcome State Fault Refusal :=
  s.runIf (decide (c < 8)) (fun d => d.encOvercurrent c)

end Sys2Proof.Machine
end

