-- ==== Sys2Proof/Machine/Motion.lean ====
section
/-! DEFINITION. Gearing, tracks and profiles (spec/09_gearing_and_profiles.md): set-point sources, moves, electronic gearing,
virtual limits, tracks and virtual masters. -/

namespace Sys2Proof.Machine

open Sys2Proof

/-! ### State -/

/-- The motion state of an axis. -/
def Dev.ms (d : Dev) (a : Nat) : MotSt := tget d.mot.axes a {}

/-- The device with the motion state of an axis set. -/
def Dev.setMs (d : Dev) (a : Nat) (x : MotSt) : Dev := { d with mot := { d.mot with axes := tset d.mot.axes a x } }

/-- The state of a track. -/
def Dev.trk (d : Dev) (t : Nat) : TrackSt := tget d.mot.tracks t {}

/-- The device with the state of a track set. -/
def Dev.setTrk (d : Dev) (t : Nat) (x : TrackSt) : Dev :=
  { d with mot := { d.mot with tracks := tset d.mot.tracks t x } }

/-- The state of a virtual master. -/
def Dev.vm (d : Dev) (v : Nat) : VmSt := tget d.mot.vms v {}

/-- The device with the state of a virtual master set. -/
def Dev.setVm (d : Dev) (v : Nat) (x : VmSt) : Dev := { d with mot := { d.mot with vms := tset d.mot.vms v x } }

/-- R288: AXIS_MOT_STAT.SRC: 0 HOLD, 1 PROFILE, 2 GEAR, 3 PATH, 4 RAMP. -/
def Dev.motSrc (d : Dev) (a : Nat) : Nat := d.fld (R.AXIS_MOT_STAT a) F.AXIS_MOT_STAT.SRC

/-- The device with an axis's source set. -/
def Dev.setSrc (d : Dev) (a src : Nat) : Dev := d.setFld (R.AXIS_MOT_STAT a) F.AXIS_MOT_STAT.SRC src

/-- GEARST: 0 OFF, 1 ENGAGED, 2 ARMED, 3 BLENDING. -/
def Dev.setGearSt (d : Dev) (a st : Nat) : Dev := d.setFld (R.AXIS_MOT_STAT a) F.AXIS_MOT_STAT.GEARST st

/-- 2^32, the units of a position with a 32-bit fraction. -/
def p32 : Int := 2 ^ 32

/-- A number of counts/s or µm/s with 32 fraction bits in 2^-128 units. -/
def pxOf32 (x : Int) : Int := x * 2 ^ 96

/-- A time in ns in 2^-128 s. -/
def pxNs (n : Int) : Int := n * px / 1000000000

/-! ### Limits of an axis -/

/-- R291: the deceleration of a CSTOP and of a DECEL stop: DMAX, or AXIS_QDEC where DMAX is 0. R223 gives AXIS_QDEC as a
fraction of the velocity full scale per ms. -/
def Dev.qdec (d : Dev) (a : Nat) : Int :=
  (d.reg (R.AXIS_QDEC a)).toInt * (Config.fullScale a 0 : Int) * 1000 * px / 2 ^ 31

/-- R319: JMAX in 2^-128 counts/s³, 0 with SHAPE = TRAP. -/
def Dev.jmax (d : Dev) (a : Nat) : Int :=
  if d.bit (R.AXIS_MOT_CTL a) F.AXIS_MOT_CTL.SHAPE then ((d.reg (R.AXIS_MOT_JMAX a)).toNat : Int) * 256 * px else 0

/-- The profile limits of an axis (R292). -/
def Dev.limits (d : Dev) (a : Nat) : Limits :=
  { v := ((d.reg (R.AXIS_MOT_VMAX a)).toNat : Int) * px, a := ((d.reg (R.AXIS_MOT_AMAX a)).toNat : Int) * px,
    d := ((d.reg (R.AXIS_MOT_DMAX a)).toNat : Int) * px, j := d.jmax a }

/-- The limits of a stop (R291): with DMAX = 0 the rate is AXIS_QDEC. -/
def Dev.stopLimits (d : Dev) (a : Nat) : Limits :=
  let l := d.limits a
  let dec := if l.d = 0 then d.qdec a else l.d
  { l with a := if l.a = 0 then dec else l.a, d := dec }

/-- R295: with SHAPE = SCURVE the jerk limit is not 0. -/
def Dev.jerkOk (d : Dev) (a : Nat) : Bool := !d.bit (R.AXIS_MOT_CTL a) F.AXIS_MOT_CTL.SHAPE || (d.limits a).j != 0

/-- R295: the limits that GO and a new plan need. -/
def Dev.limitsOk (d : Dev) (a : Nat) : Bool :=
  let l := d.limits a
  l.v != 0 && l.a != 0 && l.d != 0 && d.jerkOk a

/-- The virtual limits of an axis in 2^-32 counts, if enabled (R306). -/
def Dev.virtLimits (d : Dev) (a : Nat) : Option (Int × Int) :=
  if d.bit (R.AXIS_VL_CFG a) F.AXIS_VL_CFG.EN then
    some (d.pairI (R.AXIS_VL_MIN_LO a) (R.AXIS_VL_MIN_HI a) * p32, d.pairI (R.AXIS_VL_MAX_LO a) (R.AXIS_VL_MAX_HI a) * p32)
  else none

/-! ### Masters (R297) -/

/-- A master as a follower or a track sees it: whether the image configures it, whether it is valid, its position in 2^-32 units,
its velocity in 2^-32 units/s, its acceleration in units/s², and the modulus in 2^-32 units of a modulo track. -/
structure Master where
  conf : Bool := false
  valid : Bool := false
  pos : Int := 0
  vel : Int := 0
  acc : Int := 0
  modulus : Option Int := none
  deriving DecidableEq, Repr

/-- The speed of a speed channel in 2^-32 counts/s: SPD is a Q31 fraction of SPFS counts/s. -/
def spdCounts (spd : Int) (spfs : Nat) : Int := spd * spfs * 2

/-- R310: the modulus of a track in 2^-32 µm. -/
def Dev.trackMod (d : Dev) (t : Nat) : Option Int :=
  match d.trackRec t with
  | some r => if r.mode == 1 then some ((r.modulus : Int) * p32) else none
  | none => none

/-- R297: the master of kind `k` and number `n`, as it stands for this base tick. -/
def Dev.master (d : Dev) (k n : Nat) : Master :=
  match k with
  | 0 => if 32 ≤ n then {} else
      { conf := d.encMode n != 0, valid := d.bit (R.FBK_ENC_STAT n) F.FBK_ENC_STAT.VALID, pos := (d.enc n).lat * p32,
        vel := spdCounts (d.regI (R.FBK_ENC_SPD n)) (d.reg (R.FBK_ENC_SPFS n)).toNat }
  | 1 => if 256 ≤ n then {} else
      { conf := d.bit (R.FBK_REM_CFG n) F.FBK_REM_CFG.EN, valid := d.bit (R.FBK_REM_STAT n) F.FBK_REM_STAT.VALID,
        pos := (d.rem n).u * p32, vel := (d.rem n).v }
  | 2 => if 64 ≤ n then {} else
      { conf := true, valid := true, pos := (d.vm n).p, vel := (d.vm n).v, acc := (d.vm n).acc }
  | 3 =>
      { conf := (d.trackRec n).isSome, valid := d.bit (R.TRACK_STAT n) F.TRACK_STAT.VALID, pos := (d.trk n).p,
        vel := d.regI (R.TRACK_VEL n) * p32, acc := d.regI (R.TRACK_ACC n), modulus := d.trackMod n }
  | _ =>
      { conf := (d.axisRec n).isSome, valid := d.bit (R.AXIS_STAT n) F.AXIS_STAT.FBVALID, pos := (d.axSt n).donePos * p32 }

/-- The master of a geared axis. -/
def Dev.gearMaster (d : Dev) (a : Nat) : Master :=
  d.master (d.fld (R.AXIS_GEAR_CFG a) F.AXIS_GEAR_CFG.MKIND) (d.fld (R.AXIS_GEAR_CFG a) F.AXIS_GEAR_CFG.MASTER)

/-- A difference of positions, reduced into (−M/2, M/2] on a modulo track. -/
def reduce (m : Option Int) (x : Int) : Int :=
  match m with
  | none => x
  | some k =>
    if k ≤ 0 then x
    else
      let r := x % k
      if k < 2 * r then r - k else r

/-- R301: whether a position q is passed, seen from the position p with the velocity v. -/
def passed (m : Option Int) (q p v : Int) : Bool :=
  v != 0 && decide (reduce m (q - p) * v < 0)

/-- R301: whether a step from `p` by `dp` reaches or crosses q, in either direction. -/
def crosses (m : Option Int) (q p dp : Int) : Bool :=
  let g := reduce m (q - p)
  if 0 ≤ dp then decide (0 ≤ g) && decide (g ≤ dp) else decide (dp ≤ g) && decide (g ≤ 0)

/-! ### Gearing (R298 to R305) -/

/-- A fraction in lowest terms, with a positive denominator. -/
def lowestTerms (n : Int) (k : Nat) : Int × Nat :=
  let g := Nat.gcd n.natAbs k
  if g = 0 then (n, k) else (n / g, k / g)

/-- The sum of two fractions. -/
def addFrac (x : Int × Nat) (y : Int × Nat) : Int × Nat := lowestTerms (x.1 * y.2 + y.1 * x.2) (x.2 * y.2)

/-- A fraction truncated. -/
def floorFrac (x : Int × Nat) : Int := if x.2 = 0 then Config.divByZero x.1 else x.1 / x.2

/-- R298, R300: the follower's position as a fraction, at the travel `x` since the anchor. -/
def Dev.gearPos (d : Dev) (a : Nat) (s : MotSt) : Int × Nat :=
  let num := d.regI (R.AXIS_GEAR_CUR_NUM a)
  let den := (d.reg (R.AXIS_GEAR_CUR_DEN a)).toNat
  let base := addFrac (s.yn, s.yd) (num * s.x, den)
  match s.change with
  | some c =>
    if c.blending && decide (0 ≤ s.x) then
      let b := (c.blend : Int) * p32
      -- (r_n − r_o) x² / (2B)
      addFrac base ((c.num * den - num * c.den) * s.x * s.x, (c.den * den) * (2 * b).toNat)
    else base
  | none => base

/-- The ratio in force at the present travel, as a fraction; it changes linearly over a blend. -/
def Dev.gearRatio (d : Dev) (a : Nat) (s : MotSt) : Int × Nat :=
  let num := d.regI (R.AXIS_GEAR_CUR_NUM a)
  let den := (d.reg (R.AXIS_GEAR_CUR_DEN a)).toNat
  match s.change with
  | some c =>
    if c.blending && decide (0 < s.x) then
      let b := (c.blend : Int) * p32
      addFrac (num, den) ((c.num * den - num * c.den) * s.x, (c.den * den) * b.toNat)
    else (num, den)
  | none => (num, den)

/-- R303: the pending change of an axis is withdrawn and logged. -/
def Dev.cancelChange (d : Dev) (a : Nat) : Dev :=
  match (d.ms a).change with
  | none => d
  | some c =>
    let d1 := (d.setMs a { d.ms a with change := none }).setGearSt a 1
    if c.blending then d1 else d1.evObj 0x6026 2 a

/-- R295, R305: gearing ends; a pending armed change is cancelled and logged. -/
def Dev.gearOff (d : Dev) (a : Nat) : Dev := (d.cancelChange a).setGearSt a 0

/-- R300: a ratio change that has completed: the new ratio is in force and the anchor is the point at x = B. -/
def Dev.gearComplete (d : Dev) (a : Nat) (c : Change) : Dev :=
  let s := d.ms a
  let num := d.regI (R.AXIS_GEAR_CUR_NUM a)
  let den := (d.reg (R.AXIS_GEAR_CUR_DEN a)).toNat
  let b := (c.blend : Int) * p32
  let y := addFrac (addFrac (s.yn, s.yd) (num * b, 2 * den)) (c.num * b, 2 * c.den)
  (((d.setMs a { s with x := s.x - b, yn := y.1, yd := y.2, change := none }).setReg (R.AXIS_GEAR_CUR_NUM a) (wI c.num)).setReg
    (R.AXIS_GEAR_CUR_DEN a) (wN c.den)).setGearSt a 1

/-- R300, R302: a ratio change takes effect at q, at the travel `xq` since the anchor. -/
def Dev.gearFire (d : Dev) (a : Nat) (c : Change) (xq : Int) : Dev :=
  let s := d.ms a
  let y := addFrac (s.yn, s.yd) (d.regI (R.AXIS_GEAR_CUR_NUM a) * xq, (d.reg (R.AXIS_GEAR_CUR_DEN a)).toNat)
  let c1 := { c with blending := true }
  let d1 := (d.setMs a { s with yn := y.1, yd := y.2, x := s.x - xq, change := some c1 }).setPair (R.AXIS_GEAR_FIRED_LO a)
    (R.AXIS_GEAR_FIRED_HI a) (c.q / p32)
  let d2 := (if c.late = 0 then d1.setFld (R.AXIS_MOT_STAT a) F.AXIS_MOT_STAT.LATE 0 else d1.setW1c (R.AXIS_MOT_STAT a) F.AXIS_MOT_STAT.LATE).evObj 0x6024 1 a
    (words64 (c.q / p32))
  let d3 := if c.late = 0 then d2
    else d2.evObj 0x6025 3 a (wN c.late :: words64 (c.q / p32) ++ words64 ((c.q + s.x - xq) / p32))
  if c.blend = 0 then d3.gearComplete a c1 else d3.setGearSt a 3

/-- R298, R300: the master's step of this period is taken up, a change whose position is reached is fired, and a blend that
reaches its end is completed. -/
def Dev.gearStep (d : Dev) (a : Nat) : Dev :=
  let ma := d.gearMaster a
  let s := d.ms a
  let dp := reduce ma.modulus (ma.pos - s.m)
  let d1 := d.setMs a { s with x := s.x + dp, m := ma.pos }
  let d2 := match s.change with
    | some c =>
      if c.blending then d1
      else if c.now then d1.gearFire a c (s.x + reduce ma.modulus (c.q - s.m))
      else if crosses ma.modulus c.q c.last (reduce ma.modulus (ma.pos - c.last)) &&
          (c.late != 3 || c.fwd == decide (0 ≤ reduce ma.modulus (ma.pos - c.last))) then
        d1.gearFire a c (s.x + dp - reduce ma.modulus (ma.pos - c.q))
      else d1.setMs a { d1.ms a with change := some { c with last := ma.pos } }
    | none => d1
  match (d2.ms a).change with
  | some c => if c.blending && decide ((c.blend : Int) * p32 ≤ (d2.ms a).x) then d2.gearComplete a c else d2
  | none => d2

/-- The geared candidate: position, velocity and acceleration (R298). -/
def Dev.gearCand (d : Dev) (a : Nat) : Int × Int × Int :=
  let ma := d.gearMaster a
  let s := d.ms a
  let r := d.gearRatio a s
  let mul (x : Int) : Int := if r.2 = 0 then Config.divByZero x else x * r.1 / r.2
  (floorFrac (d.gearPos a s), mul (pxOf32 ma.vel), mul (ma.acc * px))

/-- R299: the anchor is set at the present set-point and master position. -/
def Dev.gearEngage (d : Dev) (a : Nat) : Dev :=
  let ma := d.gearMaster a
  let s := d.ms a
  ((((d.setMs a { s with m := ma.pos, x := 0, yn := s.sp, yd := 1, change := none, plan := none }).setReg (R.AXIS_GEAR_CUR_NUM a)
    (d.reg (R.AXIS_GEAR_NUM a))).setReg (R.AXIS_GEAR_CUR_DEN a) (d.reg (R.AXIS_GEAR_DEN a))).setSrc a 2).setGearSt a 1

/-! ### Host writes of motion registers (R293, R295, R299 to R304) -/

/-- R289: an axis that takes set-points of this chapter: configured and not a JOINT axis. -/
def Dev.isJoint (d : Dev) (a : Nat) : Bool :=
  match d.axisRec a with
  | some r => r.kind == 1
  | none => false

/-- R295: the answer that the axis's state gives to a move. -/
def Dev.goState (d : Dev) (a : Nat) : Status :=
  match d.axState a with
  | 2 => if d.fld (R.AXIS_STAT a) F.AXIS_STAT.REACT != 0 then .conflict else .ok
  | 3 => .conflict
  | 4 => .conflict
  | _ => .notReady

/-- R307: with the set-point beyond a virtual limit only a move that goes inward is accepted. `dir` is the sign of the move. -/
def Dev.inward (d : Dev) (a : Nat) (dir : Int) : Bool :=
  match d.virtLimits a with
  | none => true
  | some (lo, hi) =>
    let sp := (d.ms a).sp
    (!decide (hi < sp) || decide (dir < 0)) && (!decide (sp < lo) || decide (0 < dir))

/-- R293: the target of an ABS or REL move in 2^-32 counts: REL counts from the previous target, or from the present set-point
where there is none. -/
def Dev.moveTarget (d : Dev) (a kind : Nat) : Int :=
  let t := d.pairI (R.AXIS_MOT_TGT_LO a) (R.AXIS_MOT_TGT_HI a) * p32
  if kind == 0 then t else (d.ms a).target.getD (d.ms a).sp + t

/-- R295, R307, R319: the checks of a move of kind 0 ABS, 1 REL, 2 VEL, 3 HALT, to a target or velocity. -/
def Dev.moveCheck (d : Dev) (a kind : Nat) (val : Int) : List Status :=
  let state := lowest [need (!d.isJoint a) .conflict, d.goState a]
  if kind == 3 then [state, need ((d.limits a).d != 0 && d.jerkOk a) .badLen]
  else
    [state, need (d.limitsOk a) .badLen, need (kind != 2 || decide (val.natAbs ≤ (d.reg (R.AXIS_MOT_VMAX a)).toNat)) .badArg,
     need (d.inward a (if kind == 2 then val else val - (d.ms a).sp)) .badArg]

/-- R293, R318: the checks of a write of AXIS_MOT_CTL with GO or HALT; the fields MOVE and SHAPE are those of the word. -/
def Dev.motCtlCheck (d : Dev) (a : Nat) (w : Word) : List Status :=
  let d1 := d.setFld (R.AXIS_MOT_CTL a) F.AXIS_MOT_CTL.SHAPE (getF w F.AXIS_MOT_CTL.SHAPE)
  let kind := getF w F.AXIS_MOT_CTL.MOVE
  need (kind != 3) .badArg ::
  (if getF w F.AXIS_MOT_CTL.HALT == 1 then d1.moveCheck a 3 0
   else if getF w F.AXIS_MOT_CTL.GO == 1 then
     d1.moveCheck a kind (if kind == 2 then d.regI (R.AXIS_MOT_TVEL a) else d1.moveTarget a kind)
   else [])

/-- R290: GO or HALT waits for stage 3 of the next period; GO clears DONE (R296). -/
def Dev.motCtlDo (d : Dev) (a : Nat) (w : Word) : Dev :=
  let s := d.ms a
  if getF w F.AXIS_MOT_CTL.HALT == 1 then d.setMs a { s with move := some 3 }
  else if getF w F.AXIS_MOT_CTL.GO == 1 then
    (d.setMs a { s with move := some (getF w F.AXIS_MOT_CTL.MOVE) }).setFld (R.AXIS_MOT_STAT a) F.AXIS_MOT_STAT.DONE 0
  else d

/-- R294: a limit change while a move runs replans at the next period. -/
def Dev.motReplan (d : Dev) (a : Nat) : Dev := d.setMs a { d.ms a with replan := true }

/-- R302: the late policy in force for a change: 1 FIRE_LATE, 2 DISCARD, 3 WAIT_WRAP. -/
def Dev.latePolicy (d : Dev) (mkind mnum pol : Nat) : Nat :=
  if pol != 0 then pol else if mkind == 3 then d.fld (R.TRACK_CFG mnum) F.TRACK_CFG.DEFLATE else 2

/-- R299 to R304: the checks of a write of AXIS_GEAR_CTL. -/
def Dev.gearCtlCheck (d : Dev) (a : Nat) (w : Word) : List Status :=
  let engage := getF w F.AXIS_GEAR_CTL.ENGAGE
  let arm := getF w F.AXIS_GEAR_CTL.ARM
  let cancel := getF w F.AXIS_GEAR_CTL.CANCEL
  let diseng := getF w F.AXIS_GEAR_CTL.DISENGAGE
  let pol := getF w F.AXIS_GEAR_CTL.LATEPOL
  let src := d.motSrc a
  let st := R.AXIS_MOT_STAT a
  let s := d.ms a
  let ma := d.gearMaster a
  let mk := d.fld (R.AXIS_GEAR_CFG a) F.AXIS_GEAR_CFG.MKIND
  let mn := d.fld (R.AXIS_GEAR_CFG a) F.AXIS_GEAR_CFG.MASTER
  let q := d.pairI (R.AXIS_GEAR_AT_LO a) (R.AXIS_GEAR_AT_HI a) * p32
  let denOk := need (d.reg (R.AXIS_GEAR_DEN a) != 0) .badLen
  if 2 ≤ engage + arm + cancel + diseng then [.conflict]
  else if engage == 1 then
    [need (!d.isJoint a) .conflict, d.goState a, need ma.conf .notReady, denOk,
     need (src == 0 || (src == 1 && d.bit st F.AXIS_MOT_STAT.DONE && (match s.plan with | some p => p.kind != 1 | none => true)))
       .conflict]
  else if arm == 1 then
    [need (src == 2) .notReady, need ma.conf .notReady, denOk, need s.change.isNone .busy,
     need (match s.change with
       | some c => !c.blending || decide (reduce ma.modulus (q - ma.pos) + s.x < 0) || decide ((c.blend : Int) * p32 < reduce ma.modulus (q - ma.pos) + s.x)
       | none => true) .conflict,
     need (match ma.modulus with | some m => decide (0 ≤ q) && decide (q < m) | none => true) .badArg,
     need (pol != 3 || ma.modulus.isSome) .badArg,
     need (!(passed ma.modulus q ma.pos ma.vel && d.latePolicy mk mn pol == 2)) .late]
  else if cancel == 1 then
    match s.change with
    | none => [.notReady]
    | some c => [need (!c.blending) .conflict]
  else if diseng == 1 then [need (src == 2) .notReady, need (s.v == 0) .conflict]
  else []

/-- R299 to R304: what a write of AXIS_GEAR_CTL does. ARM is judged and armed at once (R301); the others wait for stage 3 of the
next period (R290, R317). -/
def Dev.gearCtlDo (d : Dev) (a : Nat) (w : Word) : Dev :=
  let s := d.ms a
  if getF w F.AXIS_GEAR_CTL.ENGAGE == 1 then d.setMs a { s with engage := true }
  else if getF w F.AXIS_GEAR_CTL.ARM == 1 then
    let ma := d.gearMaster a
    let q := d.pairI (R.AXIS_GEAR_AT_LO a) (R.AXIS_GEAR_AT_HI a) * p32
    let pol := d.latePolicy (d.fld (R.AXIS_GEAR_CFG a) F.AXIS_GEAR_CFG.MKIND) (d.fld (R.AXIS_GEAR_CFG a) F.AXIS_GEAR_CFG.MASTER)
      (getF w F.AXIS_GEAR_CTL.LATEPOL)
    let late := passed ma.modulus q ma.pos ma.vel
    let c : Change := { q := if late && pol == 1 then ma.pos else q, num := d.regI (R.AXIS_GEAR_NUM a),
                        den := (d.reg (R.AXIS_GEAR_DEN a)).toNat, blend := (d.reg (R.AXIS_GEAR_BLEND a)).toNat,
                        late := if late then pol else 0, now := late && pol == 1, last := ma.pos, fwd := decide (0 ≤ ma.vel) }
    (d.setMs a { s with change := some c }).setGearSt a 2
  else if getF w F.AXIS_GEAR_CTL.CANCEL == 1 then d.setMs a { s with cancel := true }
  else if getF w F.AXIS_GEAR_CTL.DISENGAGE == 1 then d.setMs a { s with disengage := true }
  else d

/-! ### The set-point of a period (R290) -/

/-- The present set-point as a point of a plan. -/
def MotSt.kin (s : MotSt) : Kin := { p := pxOf s.sp, v := s.v, a := s.a }

/-- A move begins: 0 ABS, 1 REL, 2 VEL, 3 HALT, from a point, with the time that has passed since that point. -/
def Dev.startMove (d : Dev) (a kind : Nat) (val : Int) (k : Kin) (dt : Int) : Dev :=
  let l := if kind == 3 then d.stopLimits a else d.limits a
  let p := match kind with
    | 0 => Plan.toward l k val 0
    | 1 => Plan.toward l k val 0
    | 2 => Plan.vel l k (val * px)
    | _ => Plan.stop l k 2
  let d1 := d.gearOff a
  ((d1.setMs a { d1.ms a with plan := some { p with t := dt }, target := if kind == 0 || kind == 1 then some val else none }).setSrc
    a 1).setFld (R.AXIS_MOT_STAT a) F.AXIS_MOT_STAT.VLIM 0

/-- R373: the point that the present source gives for an instant `dt` before the end of the last period. -/
def MotSt.before (s : MotSt) (src : Nat) (dt : Int) : Kin :=
  match src, s.plan with
  | 1, some p =>
    let k := at_ p.phases p.start (p.t - dt)
    if p.kind != 1 && p.ended && decide (total p.phases ≤ p.t - dt) then { s.kin with v := 0, a := 0 } else k
  | 2, _ =>
    -- the geared set-point stands for the start of the last period
    { p := pxOf s.sp, v := s.v, a := s.a }
  | _, _ => s.kin

/-- R373: the move of a fired action. -/
def Dev.actionMove (d : Dev) (a : Nat) (r : MoveReq) : Dev :=
  let s := d.ms a
  let src := d.motSrc a
  let start := d.time.tick * 31250
  let dt := pxNs ((start : Int) - r.ns)
  let k := s.before src dt
  let d1 := d.setFld (R.AXIS_MOT_STAT a) F.AXIS_MOT_STAT.DONE 0
  match r.kind with
  | 1 => d1.startMove a 1 (pxTrunc k.p + r.val * p32) k dt
  | 2 => d1.startMove a 2 r.val k dt
  | _ => d1.startMove a 3 0 k dt

/-- R290: what was written since the last period is committed: the moves of actions first, then the host's (R374); CANCEL after
a change that this period reached (R317). -/
def Dev.motCommit (d : Dev) (a : Nat) : Dev :=
  let s := d.ms a
  let d1 := d.setMs a { s with cmds := [], move := none, engage := false, disengage := false, cancel := false, replan := false }
  let d2 := if s.cancel && (match s.change with | some c => !c.blending | none => false) then d1.cancelChange a else d1
  let d3 := d2.each s.cmds (fun d r => d.actionMove a r)
  let d4 := if s.engage then d3.gearEngage a else d3
  let d5 := if s.disengage && d4.motSrc a == 2 then (d4.gearOff a).setSrc a 0 else d4
  match s.move with
  | some 3 => if d5.motSrc a == 0 then
      -- R293: at rest HALT sets PROFILE with the present set-point as the rest position
      (d5.startMove a 3 0 { (d5.ms a).kin with v := 0, a := 0 } 0).setFld (R.AXIS_MOT_STAT a) F.AXIS_MOT_STAT.DONE 1
    else d5.startMove a 3 0 (d5.ms a).kin 0
  | some k =>
    d5.startMove a k (if k == 2 then d5.regI (R.AXIS_MOT_TVEL a) else d5.moveTarget a k) (d5.ms a).kin 0
  | none =>
    let halts := match (d5.ms a).plan with | some p => p.kind == 2 | none => false
    if s.replan && d5.motSrc a == 1 && (if halts then (d5.limits a).d != 0 && d5.jerkOk a else d5.limitsOk a) then
      let t := d5.ms a
      let l := d5.limits a
      match t.plan with
      | some p =>
        if p.ended && p.kind != 1 then d5
        else
          let q := match p.kind, p.goal with
            | 0, some g => Plan.toward l t.kin g 0
            | 1, _ => Plan.vel l t.kin p.tvel
            | k, _ => { Plan.stop (d5.stopLimits a) t.kin k with hold := p.hold }
          d5.setMs a { t with plan := some q }
      | none => d5
    else d5

/-- R211, R291: the ramp of a QSTOP or CSTOP: from the actual velocity to zero. -/
def Dev.rampPlan (d : Dev) (a code : Nat) (k : Kin) : Plan :=
  let q := d.qdec a
  let l : Limits := if code == 2 then { v := 0, a := q, d := q, j := 0 } else
    let s := d.stopLimits a
    { s with a := s.d }
  Plan.stop l k (code + 1)

/-- The actual velocity of an axis in 2^-128 counts/s. -/
def Dev.actualVel (d : Dev) (a : Nat) : Int := (d.axSt a).vel * (Config.fullScale a 0 : Int) * px / 2 ^ 31

/-- The plan of an axis advances by one period. -/
def MotSt.advance (s : MotSt) (dt : Int) : MotSt :=
  match s.plan with
  | none => s
  | some p => { s with plan := some { p with t := p.t + dt } }

/-- The candidate of the present source (R288). -/
def Dev.candidate (d : Dev) (a : Nat) : Int × Int × Int :=
  let s := d.ms a
  match d.motSrc a with
  | 0 => (s.sp, 0, 0)
  | 2 => d.gearCand a
  | _ =>
    match s.plan with
    | some p =>
      let (x, v, acc) := p.now
      match p.hold with
      | some h =>
        -- R307: a stop plan that cannot end at the limit holds the set-point there
        if (decide (s.sp ≤ h) && decide (h < x)) || (decide (h ≤ s.sp) && decide (x < h)) then (h, 0, 0) else (x, v, acc)
      | none => (x, v, acc)
    | none => (s.sp, 0, 0)

/-- R307: VLIM and the log of a limit reached. -/
def Dev.vlimit (d : Dev) (a which lreact : Nat) : Dev :=
  (d.setFld (R.AXIS_MOT_STAT a) F.AXIS_MOT_STAT.VLIM which).evObj 0x6027 4 a [wN which, wN lreact]

/-- R306 to R308: the virtual limits act on a candidate. The answer is the device and the set-point that results. -/
def Dev.applyLimits (d : Dev) (a : Nat) (c : Int × Int × Int) : Dev × (Int × Int × Int) :=
  match d.virtLimits a with
  | none => (d, c)
  | some (lo, hi) =>
    let s := d.ms a
    let st := R.AXIS_MOT_STAT a
    let was := d.fld st F.AXIS_MOT_STAT.VLIM
    match d.fld (R.AXIS_VL_CFG a) F.AXIS_VL_CFG.LREACT with
    | 1 =>
      -- CLAMP; R308: a set-point already beyond a limit is not moved back
      let hi1 := max hi s.sp
      let lo1 := min lo s.sp
      if hi1 < c.1 || (decide (hi < s.sp) && decide (s.sp ≤ c.1)) then
        ((if was == 2 then d else d.vlimit a 2 1), (hi1, 0, 0))
      else if c.1 < lo1 || (decide (s.sp < lo) && decide (c.1 ≤ s.sp)) then
        ((if was == 1 then d else d.vlimit a 1 1), (lo1, 0, 0))
      else ((if was == 0 then d else d.setFld st F.AXIS_MOT_STAT.VLIM 0), c)
    | 2 =>
      -- FAULT
      if decide (hi ≤ c.1) || decide (c.1 ≤ lo) then
        let which := if hi ≤ c.1 then 2 else 1
        (((d.setFld st F.AXIS_MOT_STAT.VLFLT 1).vlimit a which 2).react a (d.fld (R.AXIS_VL_CFG a) F.AXIS_VL_CFG.FREACT) 0, c)
      else (d, c)
    | _ =>
      -- DECEL
      let settled := d.motSrc a == 1 && (match s.plan with
        | some p => p.kind == 2 && (decide (hi < s.sp) || decide (s.sp < lo) || p.hold == some lo || p.hold == some hi ||
            (match p.goal with | some g => decide (lo ≤ g) && decide (g ≤ hi) | none => false))
        | none => false)
      if d.motSrc a == 0 || d.motSrc a == 4 || settled then (d, c)
      else
        let l := d.stopLimits a
        let e := pxTrunc (stopAt l { p := pxOf c.1, v := c.2.1, a := c.2.2 } + 2 ^ 95)
        let beyond := if hi < s.sp then (if s.sp ≤ c.1 then 2 else 0) else if s.sp < lo then (if c.1 ≤ s.sp then 1 else 0)
          else if hi < e then 2 else if e < lo then 1 else 0
        if beyond == 0 then (d, c)
        else
          let lim := if beyond == 2 then hi else lo
          let rest := pxTrunc (stopAt l s.kin)
          let past := decide (hi < s.sp) || decide (s.sp < lo)
          let can := !past && (if beyond == 2 then decide (rest ≤ lim) else decide (lim ≤ rest))
          let v1 := max (d.limits a).v (s.v.natAbs : Int)
          let p := if can && v1 != 0 then { Plan.toward { l with v := v1 } s.kin lim 2 with goal := some lim }
            else { Plan.stop l s.kin 2 with hold := if past then none else some lim }
          let dt := match d.axisRec a with | some r => pxNs (periodNs r.period) | none => 0
          let d1 := ((d.gearOff a).vlimit a beyond 0).setSrc a 1
          let d2 := (d1.setMs a { d1.ms a with plan := some { p with t := dt }, target := none }).setFld st F.AXIS_MOT_STAT.DONE 0
          (d2, d2.candidate a)

/-- The set-point of the period is stored: registers, position channel and the inputs of the loops (R290, R298); a joint's serve the next arm
period (R331). -/
def Dev.storeSp (d : Dev) (a : Nat) (c : Int × Int × Int) : Dev :=
  let s := d.ms a
  let n := c.1 / p32
  let d1 := (d.setMs a { s with sp := c.1, v := c.2.1, a := c.2.2 }).setPair (R.AXIS_MOT_POS_LO a) (R.AXIS_MOT_POS_HI a) n
  let v := pxInt c.2.1
  let acc := pxInt c.2.2
  let fv := d1.fit32 v
  let fa := fv.2.fit32 acc
  let d2 := (fa.2.setRegI (R.AXIS_MOT_VEL a) fv.1).setRegI (R.AXIS_MOT_ACC a) fa.1
  let next := (n, toFs v (Config.fullScale a 0), toFs acc (Config.fullScale a 1))
  let d3 := d2.updAxSt a (fun x => let y := { x with spNext := some next }; if d.isJoint a then y else y.takeSp)
  match d3.axisRec a with
  | some r => d3.chanStore r.sp (wI n)
  | none => d3

/-- R296: DONE and INPOS after a period. -/
def Dev.motDone (d : Dev) (a : Nat) : Dev :=
  let st := R.AXIS_MOT_STAT a
  let s := d.ms a
  let src := d.motSrc a
  let fin := src == 1 && (match s.plan with | some p => p.done | none => false)
  let d1 := if fin then d.setFld st F.AXIS_MOT_STAT.DONE 1 else d
  let win := d1.fld (R.AXIS_MOT_INPOS a) F.AXIS_MOT_INPOS.WIN
  let n := d1.fld (R.AXIS_MOT_INPOS a) F.AXIS_MOT_INPOS.N
  let near := decide ((wrapI 32 (s.sp / p32 - (d.axSt a).pos)).natAbs ≤ win)
  let ok := d1.bit st F.AXIS_MOT_STAT.DONE && near
  let k := if ok then s.inN + 1 else 0
  (d1.setMs a { s with inN := k }).setFld st F.AXIS_MOT_STAT.INPOS (if ok && decide (n ≤ k) then 1 else 0)

/-- R289, R307: what a reaction in progress does to the source: a stop ramp, or nothing after STO. -/
def Dev.stopSource (d : Dev) (a : Nat) (dt : Int) : Dev :=
  let code := d.fld (R.AXIS_STAT a) F.AXIS_STAT.REACT
  let s := d.ms a
  let d0 := (d.gearOff a).setMs a { (d.gearOff a).ms a with
    cmds := [], move := none, engage := false, disengage := false, cancel := false, replan := false }
  let d1 :=
    if d.motSrc a != 4 then
      let k : Kin := { p := pxOf s.sp, v := d.actualVel a, a := 0 }
      (d0.setMs a { d0.ms a with plan := some (d.rampPlan a code k) }).setSrc a 4
    else
      match s.plan with
      | some p => if p.kind == code + 1 then d0 else d0.setMs a { d0.ms a with plan := some (d.rampPlan a code s.kin) }
      | none => d0
  let d2 := d1.setMs a ((d1.ms a).advance dt)
  if d2.fbValid a then d2.storeSp a (d2.candidate a) else d2.storeSp a (s.sp, 0, 0)

/-- R305: a geared axis whose master is invalid. -/
def Dev.masterLost (d : Dev) (a : Nat) : Dev :=
  if d.motSrc a == 2 && !(d.gearMaster a).valid then
    ((((d.cancelChange a).setW1c (R.AXIS_MOT_STAT a) F.AXIS_MOT_STAT.MLOST).evObj 0x6028 5 a).react a
      (d.fld (R.AXIS_VL_CFG a) F.AXIS_VL_CFG.MLREACT) 0)
  else d

/-- R288 to R308: stage 3 of an axis, once in the base tick at which its position-level period begins. -/
def Dev.setpoint (d : Dev) (a : Nat) : Dev :=
  match d.axisRec a with
  | none => d
  | some r =>
    let s := d.ms a
    if r.kind == 1 || !isBoundary d.time.tick r.period || s.tick == some d.time.tick || !d.axEnabled a then d
    else
      let dt := pxNs (periodNs r.period)
      let d0 := d.setMs a { s with tick := some d.time.tick }
      let d1 := if d0.axState a == 2 || d0.axState a == 3 then d0.masterLost a else d0
      match d1.axState a with
      | 4 => d1.stopSource a dt
      | 5 => d1
      | 6 => (d1.gearOff a).setSrc a 0
      | _ =>
        let d2 := if d1.motSrc a == 2 then d1.gearStep a else d1
        let d3 := d2.motCommit a
        let d4 := if d3.motSrc a == 1 then d3.setMs a ((d3.ms a).advance dt) else d3
        let (d5, c) := d4.applyLimits a (d4.candidate a)
        if d5.axState a == 4 then d5.stopSource a dt
        else if d5.axState a == 6 then (d5.gearOff a).setSrc a 0
        else (d5.storeSp a c).motDone a

/-- R214, R289: the source of an axis at enable: HOLD at its actual position, PATH for a JOINT axis. -/
def Dev.motEnable (d : Dev) (a : Nat) : Dev :=
  let x := d.axSt a
  let d1 := (d.setMs a { sp := x.pos * p32 }).setReg (R.AXIS_MOT_STAT a) 0
  ((d1.setSrc a (if d.isJoint a then 3 else 0)).storeSp a (x.pos * p32, 0, 0)).updAxSt a AxisSt.takeSp

/-- An axis that is disabled takes no set-point: gearing, plans and armed changes are gone. -/
def Dev.motDisable (d : Dev) (a : Nat) : Dev :=
  let d1 := d.gearOff a
  (d1.setMs a { sp := (d1.ms a).sp }).setSrc a 0

/-- R212, R289: a QSTOP or CSTOP ends after 8 consecutive samples at standstill. -/
def Dev.stopComplete (d : Dev) (a : Nat) : Dev :=
  if d.axState a == 4 && decide (8 ≤ (d.axSt a).still) then
    let d1 := (d.setFld (R.AXIS_STAT a) F.AXIS_STAT.STATE 5).updAxSt a (fun x => { x with ramp := none })
    let d2 := if d1.isJoint a then d1
      else ((d1.setMs a { d1.ms a with plan := none, target := none }).setSrc a 0).storeSp a ((d1.ms a).sp, 0, 0)
    d2.evObj 0x6008 2 a
  else d

/-! ### Tracks (R309 to R315) -/

/-- The depth of a track in its chain of masters (R24). -/
def Dev.trackDepth (d : Dev) : Nat → Nat → Nat
  | 0, _ => 0
  | n + 1, t =>
    match d.trackRec t with
    | some r => if r.mkind == 3 then d.trackDepth n r.master + 1 else 0
    | none => 0

/-- R327: whether a track's chain of masters ends in a local encoder. -/
def Dev.trackRoot0 (d : Dev) : Nat → Nat → Bool
  | 0, _ => false
  | n + 1, t =>
    match d.trackRec t with
    | some r => if r.mkind == 3 then d.trackRoot0 n r.master else r.mkind == 0
    | none => false

/-- R310: the value of a track's master at the sample instant, in 2^-32 master units: a remote encoder's position is extrapolated
from its cycle start. -/
def Dev.trackMaster (d : Dev) (r : TrackRec) : Master :=
  let m := d.master r.mkind r.master
  if r.mkind == 1 then
    let x := d.rem r.master
    { m with pos := x.u * p32 + x.v * ((d.time.tick * 31250 : Nat) - (x.csNs : Int)) / 1000000000 }
  else m

/-- The position `k` updates ago, from a history newest first. -/
def ago (l : List Int) (k : Nat) : Int := (l[k]?).getD (l.getLast?.getD 0)

/-- R315: a track freezes: velocity 0, VALID = 0, logged. -/
def Dev.trackFreeze (d : Dev) (t : Nat) : Dev :=
  let x := d.trk t
  let st := R.TRACK_STAT t
  (((((d.setTrk t { x with frozen := true, clr := false, coast := 0 }).setFld st F.TRACK_STAT.VALID 0).setFld st
    F.TRACK_STAT.COAST 0).setReg (R.TRACK_VEL t) 0).setReg (R.TRACK_ACC t) 0).evObj 0x6020 5 t

/-- R315: whether a track is due to freeze: its master is invalid and no update of coasting is left. -/
def Dev.freezeDue (d : Dev) (t : Nat) : Bool :=
  match d.trackRec t with
  | none => false
  | some r =>
    let x := d.trk t
    !(d.trackMaster r).valid && !x.frozen && d.bit (R.TRACK_STAT t) F.TRACK_STAT.VALID &&
      (r.mkind == 3 || decide (d.fld (R.TRACK_CFG t) F.TRACK_CFG.COAST ≤ x.coast))

/-- R309 to R311, R314: a track's new position, before its reduction, is taken: the correction is added, a modulo track wraps, and
velocity, acceleration, STILL and DIR follow. -/
def Dev.trackPublish (d : Dev) (t : Nat) (p rem : Int) (corr moving : Bool) : Dev :=
  let x := d.trk t
  let st := R.TRACK_STAT t
  let left := d.regI (R.TRACK_CORRREM t)
  let slew : Int := (d.reg (R.TRACK_CORRSLEW t)).toNat
  let step := if corr then clampI (-slew) slew left else 0
  let p1 := p + step * p32
  let md := d.trackMod t
  let p2 := match md with | some m => p1 % m | none => p1
  let turns : Int := match md with | some m => p1 / m | none => 0
  let hist := (p2 :: x.hist).take 18
  let vk := 2 ^ d.fld (R.TRACK_CFG t) F.TRACK_CFG.VAVG
  let ak := 2 ^ d.fld (R.TRACK_CFG t) F.TRACK_CFG.AAVG
  let dp := reduce md (p2 - ago hist vk)
  let fv := d.fit32 (if moving then dp * 8000 / ((vk : Int) * p32) else 0)
  let v := fv.1
  let vh := (v :: x.vhist).take 18
  let fa := fv.2.fit32 (if moving then (v - ago vh ak) * 8000 / (ak : Int) else 0)
  let acc := fa.1
  let n := d.time.tick * 31250
  let d1 := fa.2.setTrk t { x with p := p2, rem := rem, hist := hist, vhist := vh, tns := n }
  let d2 := (((((d1.setPair (R.TRACK_POS_LO t) (R.TRACK_POS_HI t) (p2 / p32)).setRegI (R.TRACK_VEL t) v).setRegI (R.TRACK_ACC t) acc).setReg
    (R.TRACK_REV t) (d1.reg (R.TRACK_REV t) + wI turns)).setReg (R.TRACK_TIME t) (wN n)).setRegI (R.TRACK_CORRREM t) (left - step)
  let d3 := ((d2.setFld st F.TRACK_STAT.STILL (if dp = 0 then 1 else 0)).setFld st F.TRACK_STAT.CORRACT
    (if left - step = 0 then 0 else 1)).setFld st F.TRACK_STAT.HELD 0
  if v = 0 then d3 else d3.setFld st F.TRACK_STAT.DIR (if v < 0 then 1 else 0)

/-- R310, R313, R315, R327: the update of one track. -/
def Dev.trackOne (d : Dev) (t : Nat) : Dev :=
  match d.trackRec t with
  | none => d
  | some r =>
    let x := d.trk t
    let st := R.TRACK_STAT t
    let m := d.trackMaster r
    let held := d.bit st F.TRACK_STAT.HELD
    match x.preset with
    | some v =>
      let d1 := (d.setTrk t { x with preset := none, m := some m.pos }).setReg (R.TRACK_CORRREM t) 0
      let d2 := if x.frozen then d1 else d1.setFld st F.TRACK_STAT.VALID (if m.valid then 1 else d1.fld st F.TRACK_STAT.VALID)
      (d2.trackPublish t (v * p32) 0 false (!x.frozen)).evObj 0x6022 2 t (words64 (x.p / p32) ++ words64 v)
    | none =>
      if x.frozen then
        if m.valid && x.clr then
          ((d.setTrk t { x with frozen := false, clr := false, m := some m.pos }).setFld st F.TRACK_STAT.VALID 1).trackPublish t x.p
            x.rem true true
        else (if m.valid then d else d.setTrk t { x with clr := false }).trackPublish t x.p x.rem false false
      else if m.valid then
        let keep := !held || d.trackRoot0 9 t
        let dm := match x.m with
          | some old =>
            if x.coast != 0 || !keep then 0
            else if r.mkind == 4 then wrapI 32 ((m.pos - old) / p32) * p32
            else reduce m.modulus (m.pos - old)
          | none => 0
        let n := dm * r.num + x.rem
        let dp := if r.den = 0 then Config.divByZero n else n / r.den
        let rem := if r.den = 0 then 0 else n % r.den
        let d1 := (((d.setTrk t { x with m := some m.pos, coast := 0 }).setFld st F.TRACK_STAT.VALID 1).setFld st
          F.TRACK_STAT.COAST 0).trackPublish t (x.p + dp) rem true true
        if held && keep then d1.evObj 0x6023 2 t (words64 (dp / p32)) else d1
      else if !d.bit st F.TRACK_STAT.VALID then d.trackPublish t x.p x.rem false false
      else if d.freezeDue t then (d.trackFreeze t).trackPublish t x.p x.rem false false
      else
        let v := if x.coast = 0 then d.regI (R.TRACK_VEL t) else x.vLast
        let d1 := (d.setTrk t { x with coast := x.coast + 1, vLast := v }).setFld st F.TRACK_STAT.COAST 1
        let d2 := if x.coast = 0 then d1.evObj 0x6021 4 t else d1
        d2.trackPublish t (x.p + v * p32 / 8000) x.rem true true

/-- R310: the tracks are updated in chain order, once in a base tick n with n mod 4 = 0; in P3 and P4 they are held (R327). -/
def Dev.trackUpdate (d : Dev) : Dev :=
  if d.time.tick % 4 != 0 || d.mot.trackTick == some d.time.tick || decide (3 ≤ d.pstate) || !d.running then d
  else
    let d1 := { d with mot := { d.mot with trackTick := some d.time.tick } }
    d1.each (List.range 9) (fun d k => d.each ((d.img.tracks.filter (fun r => d.trackDepth 9 r.track == k)).map (·.track))
      (fun d t => d.trackOne t))

/-- TRK_MASTER_LOST: the track freezes where that is due (R315). -/
def Dev.trackLost (d : Dev) (t : Nat) : Dev := if d.freezeDue t then d.trackFreeze t else d

/-- R321, R313: a follower's ratio change is armed on a track. -/
def Dev.followerArmed (d : Dev) (t : Nat) : Bool :=
  d.img.axes.any (fun r => (d.ms r.axis).change.isSome && d.fld (R.AXIS_GEAR_CFG r.axis) F.AXIS_GEAR_CFG.MKIND == 3 &&
    d.fld (R.AXIS_GEAR_CFG r.axis) F.AXIS_GEAR_CFG.MASTER == t)

/-- R314: the checks of a correction. -/
def Dev.trackCorrCheck (d : Dev) (t : Nat) (w : Word) : List Status :=
  let n := d.regI (R.TRACK_CORRREM t) + w.toInt
  [need (decide (-(2 ^ 31) ≤ n) && decide (n < 2 ^ 31)) .badArg]

/-- R314: a correction is added to the remainder. -/
def Dev.trackCorr (d : Dev) (t : Nat) (w : Word) : Dev :=
  let n := d.regI (R.TRACK_CORRREM t) + w.toInt
  (d.setRegI (R.TRACK_CORRREM t) n).setFld (R.TRACK_STAT t) F.TRACK_STAT.CORRACT (if n = 0 then 0 else 1)

/-- R315: CLRINV; it has no effect while the master is invalid. -/
def Dev.trackClrinv (d : Dev) (t : Nat) : Dev :=
  match d.trackRec t with
  | none => d
  | some r => if (d.trackMaster r).valid && (d.trk t).frozen then d.setTrk t { d.trk t with clr := true } else d

/-- R327: entry to P3: tracks hold, and moving virtual masters stop at once. -/
def Dev.motionHold (d : Dev) : Dev :=
  let d1 := d.each d.img.tracks (fun d r => d.setFld (R.TRACK_STAT r.track) F.TRACK_STAT.HELD 1)
  d1.each (List.range 64) (fun d v =>
    let x := d.vm v
    if x.v = 0 then d else ((d.setVm v { x with v := 0, acc := 0 }).setReg (R.VM_CURVEL v) 0).evObj 0x6029 3 v)

/-! ### Virtual masters (R316) -/

/-- One update of a virtual master: a linear ramp of its velocity over 125 µs. -/
def Dev.vmOne (d : Dev) (v : Nat) : Dev :=
  let x := d.vm v
  let run := d.bit (R.VM_CTL v) F.VM_CTL.RUN
  if !run && x.v == 0 && x.acc == 0 then d
  else
    let goal := if run then d.regI (R.VM_VEL v) * p32 else 0
    let acc : Int := (d.reg (R.VM_ACC v)).toNat
    let dv := acc * p32 / 8000
    let gap := goal - x.v
    let full := decide (dv < gap.natAbs)
    let v1 := if full then (if 0 < gap then x.v + dv else x.v - dv) else goal
    let dp := if full then (x.v + v1) / 16000
      else if acc = 0 then goal / 8000
      else goal / 8000 - gap * gap.natAbs / (2 * acc * p32)
    let a1 := if gap = 0 then 0 else if 0 < gap then acc else -acc
    let d1 := d.setVm v { p := signed 96 (modN 96 (x.p + dp)), v := v1, acc := if v1 == goal then 0 else a1 }
    (d1.setPair (R.VM_POS_LO v) (R.VM_POS_HI v) ((d1.vm v).p / p32)).setRegI (R.VM_CURVEL v) (v1 / p32)

/-- R316: the virtual masters are updated before any track, once in a base tick n with n mod 4 = 0. -/
def Dev.vmUpdate (d : Dev) : Dev :=
  if d.time.tick % 4 != 0 || d.mot.vmTick == some d.time.tick || decide (3 ≤ d.pstate) then d
  else ({ d with mot := { d.mot with vmTick := some d.time.tick } } : Dev).each (List.range 64) (fun d v => d.vmOne v)

/-- R316: a preset is accepted only at velocity 0. -/
def Dev.vmSetCheck (d : Dev) (v : Nat) : List Status := [need ((d.vm v).v == 0) .conflict]

/-- R316: a virtual master takes a preset position. -/
def Dev.vmSet (d : Dev) (v : Nat) (x : Int) : Dev :=
  (d.setVm v { d.vm v with p := x * p32 }).setPair (R.VM_POS_LO v) (R.VM_POS_HI v) x

/-- R321, R306: the checks of a write of the virtual limits, with the new values. -/
def vlOk (en : Bool) (lo hi : Int) : Status := need (!en || decide (lo < hi)) .badArg

/-! ### Commands -/

/-- STOP_COMPLETE (R212). -/
def execStopComplete (a : Nat) (s : State) : Host.Outcome State Fault Refusal :=
  s.runIf (decide (a < 8192)) (fun d => d.stopComplete a)

/-- SETPOINT_UPDATE (R290). -/
def execSetpointUpdate (a : Nat) (s : State) : Host.Outcome State Fault Refusal :=
  s.runIf (decide (a < 8192)) (fun d => d.setpoint a)

/-- TRK_MASTER_LOST (R315). -/
def execTrkMasterLost (t : Nat) (s : State) : Host.Outcome State Fault Refusal :=
  s.runIf (decide (t < 256)) (fun d => d.trackLost t)

/-- VM_UPDATE (R316). -/
def execVmUpdate (s : State) : Host.Outcome State Fault Refusal := s.run (fun d => d.vmUpdate)

end Sys2Proof.Machine
end

