-- ==== Sys2Proof/Machine/Arms.lean ====
section
/-! DEFINITION. Arms and paths (spec/10_arms_and_paths.md): segments, path time and the speed scale, blends, inverse kinematics,
limits, stops. -/

namespace Sys2Proof.Machine

open Sys2Proof

/-! ### State and registers -/

/-- The state of an arm's path engine. -/
def Dev.arm (d : Dev) (m : Nat) : ArmSt := tget d.arms m {}

/-- The device with the state of an arm's path engine set. -/
def Dev.setArm (d : Dev) (m : Nat) (x : ArmSt) : Dev := { d with arms := tset d.arms m x }

/-- ARM_STAT.STATE (R347): 0 DISABLED, 1 IDLE, 2 RUNNING, 3 HOLDING, 4 HELD, 5 STOPPING, 6 STOPPED. -/
def Dev.armState (d : Dev) (m : Nat) : Nat := d.fld (R.ARM_STAT m) F.ARM_STAT.STATE

/-- The device with an arm's STATE set. -/
def Dev.setArmState (d : Dev) (m st : Nat) : Dev := d.setFld (R.ARM_STAT m) F.ARM_STAT.STATE st

/-- R662: an activation is between T and T + 4 ms. -/
def Dev.inSwitch (d : Dev) : Bool :=
  match d.loader.job with
  | .switching _ _ _ => true
  | _ => false

/-- The axes of an arm's joints. -/
def ArmRec.axes (r : ArmRec) : List Nat := r.joints.map (·.axis)

/-- R328: a Q15 scale; 0x7FFF is exactly 1. -/
def q15 (v : Nat) : Nat := if v == 0x7FFF then 32768 else v

/-- The Q15 value that shows a scale. -/
def showQ15 (v : Nat) : Nat := min v 0x7FFF

/-- 1 of the hold factor. -/
def hOne : Int := 2 ^ 40

/-- The arm period of 125 µs in 2^-128 s. -/
def armT : Int := px / 8000

/-- The tolerance with which a path time has been reached. -/
def tauTol : Int := 2 ^ 88

/-- R330: the hold factor ramps linearly from its present value to a goal over a time in ms. -/
def ArmSt.rampH (s : ArmSt) (goal : Int) (ms : Nat) : ArmSt :=
  let n : Int := 8 * (ms : Int)
  let gap := goal - s.h
  { s with hGoal := goal, hStep := if n = 0 then gap else if 0 ≤ gap then (gap + n - 1) / n else -((-gap + n - 1) / n) }

/-- The hold factor after one period. -/
def ArmSt.stepH (s : ArmSt) : ArmSt :=
  let x := s.h + s.hStep
  { s with h := if 0 ≤ s.hStep then min s.hGoal x else max s.hGoal x }

/-! ### Profiles of the path coordinate (R337 to R339) -/

/-- R337: the symmetric jerk-limited profile over a length with a speed, an acceleration and a jerk phase of `tj`. -/
def pathProfile (len v a tj : Int) : List Phase :=
  let lenAt (u : Int) : Int := pxMul u (pxDiv u a + min tj (pxDiv u a))
  let vp := if lenAt v ≤ len then v
    else if tj = 0 then pxSqrt (pxMul len a)
    else
      let va := pxMul a (pxSqrt (pxMul tj tj + 4 * pxDiv len a) - tj) / 2
      if tj ≤ pxDiv va a then va else pxSqrt (pxMul len a / 2)
  let t := pxDiv vp a
  let t1 := min tj t
  let cruise := max 0 (pxDiv (len - pxMul vp (t + t1)) vp)
  if t1 = 0 then [{ dur := t, acc := a }, { dur := cruise, acc := 0 }, { dur := t, acc := -a }]
  else
    let j := pxDiv a t1
    [{ dur := t1, acc := 0, jerk := j }, { dur := t - t1, acc := a }, { dur := t1, acc := a, jerk := -j },
     { dur := cruise, acc := 0 },
     { dur := t1, acc := 0, jerk := -j }, { dur := t - t1, acc := -a }, { dur := t1, acc := -a, jerk := j }]

/-- A profile stretched uniformly in time by a factor. -/
def stretch (k : Int) (l : List Phase) : List Phase :=
  l.map (fun s => { dur := pxMul s.dur k, acc := pxDiv s.acc (pxMul k k), jerk := pxDiv s.jerk (pxMul k (pxMul k k)) })

/-- The duration of the deceleration phase of a profile. -/
def decTime (l : List Phase) : Int := total (l.drop (if l.length ≤ 3 then 2 else 4))

/-- The path coordinate at a path time, in 2^-128. -/
def SegRun.coord (r : SegRun) : Int :=
  if r.dur ≤ r.tau + tauTol then r.len else min r.len (at_ r.phases {} r.tau).p

/-- R340: the path time at which the remaining path equals `eff`, in the deceleration phase or at its start. -/
def SegRun.blendPoint (r : SegRun) (eff : Int) : Int :=
  let d0 := r.dur - decTime r.phases
  let rest (t : Int) : Int := r.len - (at_ r.phases {} t).p
  let rec find : Nat → Int → Int → Int
    | 0, lo, _ => lo
    | n + 1, lo, hi =>
      let m := (lo + hi) / 2
      if rest m ≤ eff then find n lo m else find n m hi
  if rest d0 ≤ eff then d0 else find 150 d0 r.dur

/-! ### Geometry of a segment (R333, R338, R339) -/

/-- The parameters with which an arm plans: TJ in 2^-128 s and WCART in rad/s of 60 fraction bits. -/
def Dev.armTj (d : Dev) (m : Nat) : Int := ((d.reg (R.ARM_TJ m)).toNat : Int) * px / 1000000

/-- A fixed-point number of 60 fraction bits in 2^-128 units. -/
def pxOfFx (x : Int) : Int := x * 2 ^ 68

/-- A number of 2^-128 units in 60 fraction bits. -/
def fxOfPx (x : Int) : Int := x / 2 ^ 68

/-- R333: the position of a spline at the parameter u. -/
def splineAt (c : List V3) (u : Int) : V3 := c.reverse.foldl (fun acc k => (V3.scale u acc).add k) {}

/-- The derivative of a spline at u. -/
def splineDer (c : List V3) (u : Int) : V3 :=
  splineAt (((c.zipIdx).map (fun e => V3.scale ((e.2 : Int) * fx) e.1)).drop 1) u

/-- The intervals of the arc-length table of a spline. -/
def splineN : Nat := 64

/-- The lengths of a spline at its nodes, by Simpson's rule in each interval. -/
def splineNodes (c : List V3) : List Int :=
  let sp (k : Nat) : Int := (splineDer c ((k : Int) * fx / (2 * splineN))).norm
  ((List.range splineN).foldl (fun (acc : List Int × Int) i =>
    let l := acc.2 + (sp (2 * i) + 4 * sp (2 * i + 1) + sp (2 * i + 2)) / (6 * splineN)
    (acc.1 ++ [l], l)) ([0], 0)).1

/-- The parameter of a spline at an arc length. -/
def splineParam (nodes : List Int) (s : Int) : Int :=
  let i := min (splineN - 1) ((nodes.filter (fun n => decide (n ≤ s))).length - 1)
  let a := nodes.getD i 0
  let b := nodes.getD (i + 1) 0
  ((i : Int) * fx + (if b ≤ a then 0 else fxDiv (s - a) (b - a))) / splineN

/-- R333: the quintic of a spline from its ends, tangents and start curvature; the speed at both ends is the chord's length. -/
def splineCoef (s t tan0 curv tan1 : V3) : List V3 :=
  let l := (t.sub s).norm
  let d0 := V3.scale l tan0
  let d1 := V3.scale l tan1
  let c2 := V3.scale (fxMul l l) (V3.scale (fx / 2) curv)
  let r := ((t.sub s).sub d0).sub c2
  let r1 := (d1.sub d0).sub (V3.scale (2 * fx) c2)
  let r2 := V3.scale (-2 * fx) c2
  let k (n : Int) (v : V3) : V3 := V3.scale (n * fx) v
  [s, d0, c2, ((k 10 r).sub (k 4 r1)).add (V3.scale (fx / 2) r2), ((k (-15) r).add (k 7 r1)).sub r2,
   ((k 6 r).sub (k 3 r1)).add (V3.scale (fx / 2) r2)]

/-- Whether three points of an arc do not give a circle. -/
def circleBad (s v t : V3) : Bool :=
  let u1 := v.sub s
  let u2 := t.sub s
  (u1.cross u2).norm == 0 || v == t || s == t || s == v

/-- R333: the circle through three points: centre, two orthogonal radius vectors and the angle from start through VIA to target. -/
def circleOf (s v t : V3) : V3 × V3 × V3 × Int :=
  let u1 := v.sub s
  let u2 := t.sub s
  let n := u1.cross u2
  let n2 := n.dot n
  let w := (V3.scale (u2.dot u2) (n.cross u1)).add (V3.scale (u1.dot u1) (u2.cross n))
  let c : V3 := s.add ⟨fxDiv w.x (2 * n2), fxDiv w.y (2 * n2), fxDiv w.z (2 * n2)⟩
  let e1 := s.sub c
  let e2 := n.unit.cross e1
  let f := t.sub c
  let ang := fxAtan2 (f.dot e2) (f.dot e1)
  (c, e1, e2, if ang ≤ 0 then ang + 2 * fxPi else ang)

/-- A segment begins: its start is the given joints and pose; the tangent and curvature are those of the segment before it. None if
its geometry is degenerate (R336). -/
def Dev.mkRun (d : Dev) (m : Nat) (g : Seg) (q : List Int) (pose : PoseM) (tan : Option V3) (curv : V3) : Option SegRun :=
  match d.armRec m with
  | none => none
  | some r =>
    let tj := d.armTj m
    match g.kind with
    | 0 =>
      let endQ := (r.joints.zip g.target).map (fun e => e.2 * p32)
      let prof (e : JointRec × Int × Int) : List Phase × Int :=
        let dist : Int := ((e.2.2 - e.2.1).natAbs : Int) * 2 ^ 96
        if dist = 0 then ([], 0)
        else (pathProfile dist ((g.vel : Int) * e.1.vmax * px / 32768) ((g.acc : Int) * e.1.amax * px / 32768) tj, dist)
      let all := (r.joints.zip (q.zip endQ)).map prof
      let best := all.foldl (fun (b : List Phase × Int) x => if total b.1 < total x.1 then x else b) ([], 0)
      some { seg := g, dur := total best.1, phases := best.1, len := best.2, startQ := q, endQ := endQ, start := pose,
             finish := fk r endQ }
    | 4 => some { seg := g, dur := (g.dur : Int) * px / 1000000, startQ := q, endQ := q, start := pose, finish := pose }
    | k =>
      let fin := poseOf g.target
      let (n, th) := axisAngle (fin.r.mul pose.r.transpose)
      let base : SegRun := { seg := g, startQ := q, start := pose, finish := fin, axis := n, theta := th }
      let aux := V3.ofInts g.aux
      let made : Option (SegRun × Int) :=
        match k with
        | 1 => some ({ base with disp := fin.p.sub pose.p }, (fin.p.sub pose.p).norm)
        | 2 =>
          if circleBad pose.p aux fin.p then none
          else
            let (c, e1, e2, ang) := circleOf pose.p aux fin.p
            some ({ base with centre := c, e1 := e1, e2 := e2, angle := ang }, fxMul ang e1.norm)
        | _ =>
          if pose.p == fin.p then none
          else
            let t1 : V3 := ⟨g.aux.getD 0 0 * 2 ^ 29, g.aux.getD 1 0 * 2 ^ 29, g.aux.getD 2 0 * 2 ^ 29⟩
            let co := splineCoef pose.p fin.p (tan.getD (fin.p.sub pose.p).unit) curv t1
            let nodes := splineNodes co
            some ({ base with coef := co, nodes := nodes }, nodes.getLastD 0)
      match made with
      | none => none
      | some (b, lenFx) =>
        let v := (g.vel : Int) * px
        let a := (g.acc : Int) * px
        let w := ((d.reg (R.ARM_WCART m)).toNat : Int) * px / 1000
        if lenFx = 0 then
          -- R339: WCART alone sets the duration; the profile has the shape of a path without a cruise
          let t := if th = 0 then 0 else 2 * pxDiv (pxOfFx th) w
          let ph := if t = 0 then [] else
            let unitLen := px
            let p0 := pathProfile unitLen (1000000 * px) (2 * px) px
            stretch (pxDiv t (total p0)) p0
          some { b with dur := total ph, phases := ph, len := if t = 0 then 0 else px }
        else
          let len := pxOfFx lenFx
          let p0 := pathProfile len v a tj
          let peak := (p0.map (fun s => pxMul s.acc s.dur + pxMul s.jerk (pxMul s.dur s.dur) / 2)).foldl
            (fun (acc : Int × Int) x => (acc.1 + x, max acc.2 (acc.1 + x))) (0, 0)
          let k := pxDiv (pxMul (pxOfFx th) (pxDiv peak.2 len)) w
          let ph := if px < k then stretch k p0 else p0
          some { b with dur := total ph, phases := ph, len := len }

/-- The fraction of the path that a segment has covered, in 60 fraction bits. -/
def SegRun.frac (r : SegRun) : Int :=
  if r.len = 0 then (if r.dur ≤ r.tau + tauTol then fx else 0) else r.coord * fx / r.len

/-- A PTP's joints at its path time, in 2^-32 units. -/
def SegRun.joints (r : SegRun) : List Int :=
  if r.seg.kind == 4 then r.startQ
  else if r.dur ≤ r.tau + tauTol then r.endQ
  else (r.startQ.zip r.endQ).map (fun e => if r.len = 0 then e.2 else e.1 + (e.2 - e.1) * r.coord / r.len)

/-- A Cartesian segment's pose at its path time. -/
def SegRun.poseAt (r : SegRun) : PoseM :=
  let f := r.frac
  let done := decide (r.dur ≤ r.tau + tauTol)
  let s := fxOfPx r.coord
  let p := match r.seg.kind with
    | 1 => if done then r.finish.p else r.start.p.add (V3.scale f r.disp)
    | 2 => if done then r.finish.p else
        let a := fxMul f r.angle
        r.centre.add ((V3.scale (fxCos a) r.e1).add (V3.scale (fxSin a) r.e2))
    | 3 => if done then r.finish.p else splineAt r.coef (splineParam r.nodes s)
    | _ => r.start.p
  { p := p, r := if r.seg.kind == 4 then r.start.r else if done then r.finish.r else (rotAbout r.axis (fxMul f r.theta)).mul r.start.r }

/-- The tangent and curvature with which a segment ends (R333). -/
def SegRun.endShape (r : SegRun) : Option V3 × V3 :=
  match r.seg.kind with
  | 1 => (if r.disp == {} then none else some r.disp.unit, {})
  | 2 =>
    let radial := (V3.scale (fxCos r.angle) r.e1).add (V3.scale (fxSin r.angle) r.e2)
    let t := ((V3.scale (-fxSin r.angle) r.e1).add (V3.scale (fxCos r.angle) r.e2)).unit
    let n2 := radial.dot radial
    (some t, ⟨fxDiv (-radial.x) n2, fxDiv (-radial.y) n2, fxDiv (-radial.z) n2⟩)
  | 3 => (some ⟨r.seg.aux.getD 0 0 * 2 ^ 29, r.seg.aux.getD 1 0 * 2 ^ 29, r.seg.aux.getD 2 0 * 2 ^ 29⟩, {})
  | _ => (none, {})

/-! ### Joints and stops (R347, R348) -/

/-- The set-points of the joints as they stand, in 2^-32 units. -/
def Dev.jointSps (d : Dev) (r : ArmRec) : List Int := r.axes.map (fun a => (d.ms a).sp)

/-- Free queue places (R352). -/
def ArmSt.qfree (s : ArmSt) : Nat := 256 - (s.queue.length + s.runs.length)

/-- QFREE, BLEND and TAU follow the queue and the segments in execution; SEGCUR shows the first. -/
def Dev.armShow (d : Dev) (m : Nat) : Dev :=
  let s := d.arm m
  let d1 := (d.setFld (R.ARM_STAT m) F.ARM_STAT.QFREE s.qfree).setFld (R.ARM_STAT m) F.ARM_STAT.BLEND
    (if 2 ≤ s.runs.length then 1 else 0)
  match s.runs with
  | [] => (d1.setReg (R.ARM_SEGCUR m) 0xFFFFFFFF).setReg (R.ARM_TAU m) 0
  | r :: _ => (d1.setReg (R.ARM_SEGCUR m) (wN r.seg.segId)).setReg (R.ARM_TAU m) (wN (r.tau * 1000000 / px).toNat)

/-- The commanded pose is shown (R356). -/
def Dev.armPose (d : Dev) (m : Nat) (p : PoseM) : Dev :=
  ((poseNums p).zipIdx).foldl (fun d e => d.setRegI (R.ARM_POSE m e.2) e.1) (d.setArm m { d.arm m with pose := p })

/-- R348: an arm stop: 2 QSTOP, 3 controlled. Every joint takes the reaction, the queue is emptied, and the path is left on a
QSTOP. -/
def Dev.armStop (d : Dev) (m code cause axCause : Nat) : Dev :=
  match d.armRec m with
  | none => d
  | some r =>
    let s := d.arm m
    if reactRank code ≤ reactRank s.stop || d.armState m == 0 || d.armState m == 6 then d
    else
      let d1 := ((d.setArmState m 5).setFld (R.ARM_STAT m) F.ARM_STAT.CAUSE cause)
      let s1 : ArmSt := { s with queue := [], stop := code, stopCause := cause, ikPose := none, ends := [], lastBlend := false }
      let s2 := if code == 2 then { s1 with runs := [] }
        else s1.rampH 0 (d.fld (R.ARM_THOLD m) F.ARM_THOLD.TCSTOP)
      let d2 := (d1.setArm m s2).each r.axes (fun d a =>
        if d.axState a == 6 || d.axState a == 5 || d.axState a == 0 then d
        else if reactRank (d.fld (R.AXIS_STAT a) F.AXIS_STAT.REACT) < reactRank code then d.react a code axCause else d)
      let d3 := if code == 2 then d2.each r.axes (fun d a =>
          d.setMs a { d.ms a with plan := some (d.rampPlan a 2 { p := pxOf (d.ms a).sp, v := d.actualVel a, a := 0 }) })
        else d2
      ({ d3 with axs := { d3.axs with armReq := tdel d3.axs.armReq m } } : Dev).armShow m

/-- R348: what the reactions of the joints ask of the arm: the reaction, ARM_STAT.CAUSE and the axis cause. -/
def Dev.armAsked (d : Dev) (m : Nat) (r : ArmRec) : Option (Nat × Nat × Nat) :=
  let sto := r.axes.any (fun a => d.axState a == 6)
  match tget? d.axs.armReq m with
  | some (code, c) => some (if sto then 2 else code, if c == 6 then 2 else 1, c)
  | none => if sto then some (2, 1, 0) else none

/-- A QSTOP ramp of one joint advances by one period. A joint of a DISABLED arm ramps on its own, from its actual velocity (R211). -/
def Dev.jointRamp (d : Dev) (a : Nat) : Dev :=
  if d.axState a == 4 && d.fbValid a then
    let s0 := d.ms a
    let s := match s0.plan with
      | some _ => s0
      | none => { s0 with plan := some (d.rampPlan a (d.fld (R.AXIS_STAT a) F.AXIS_STAT.REACT) { p := pxOf s0.sp, v := d.actualVel a, a := 0 }) }
    let s1 := s.advance armT
    match s1.plan with
    | some p => (d.setMs a s1).storeSp a p.now
    | none => d
  else d

/-! ### Issuing set-points (R331, R345, R346) -/

/-- The words at IKBASE that the path engine and the IK task exchange; the spec does not state their layout, so they are free
values. `mem` is 0 for X and 1 for Y memory. -/
def Dev.ikWords (d : Dev) (m mem : Nat) : Dev :=
  let e := d.fld (R.ARM_CFG m) F.ARM_CFG.IKENG
  let base := d.fld (R.ARM_CFG m) F.ARM_CFG.IKBASE
  let x := d.eng e
  let ws := (List.range 64).map (fun i => (base + i, wN (Config.freeBits (d.fresh + i)).toNat))
  let put (t : Tab Word) : Tab Word := ws.foldl (fun t e => tset t e.1 e.2) t
  { d.setEng e (if mem == 0 then { x with xmem := put x.xmem } else { x with ymem := put x.ymem }) with fresh := d.fresh + 64 }

/-- R346: the checks of one joint's set-point: the position issued, and whether its speed and its limit hold. -/
def jointCheck (j : JointRec) (q v : Int) : Int × Bool × Bool :=
  let speed := decide ((j.vmax : Int) * 9 * p32 < 8 * v.natAbs)
  let dist := if j.amax ≤ 0 then 0 else v * v.natAbs / (2 * j.amax * p32)
  let lo := j.qmin * p32
  let hi := j.qmax * p32
  let out := decide (q < lo) || decide (hi < q)
  let would := (decide (0 < v) && decide (hi < q + dist)) || (decide (v < 0) && decide (q + dist < lo))
  (clampI lo hi q, speed, out || would)

/-- R342, R350: the segments that ended in a period without a stop are complete; a queue that ran out after a blend was asked for is counted. -/
def Dev.armEnds (d : Dev) (m : Nat) : Dev :=
  let s := d.arm m
  (d.setArm m { s with ends := [] }).each s.ends (fun d e =>
    let d1 := d.setReg (R.ARM_SEGDONE m) (wN e.1.segId)
    let d2 := if e.1.evEnd then d1.evObj 0x7002 1 m [wN e.1.segId] else d1
    if e.2 then (d2.bump (R.ARM_CNT m) F.ARM_CNT.STARVE 1).evObj 0x7003 3 m [wN e.1.segId] else d2)

/-- R331, R346: a period's joint positions are issued; `ikBad` that the residuals have been in excess for IKCOUNT periods. -/
def Dev.armIssue (d : Dev) (m : Nat) (r : ArmRec) (q : List Int) (pose : PoseM) (ikBad : Bool) : Dev :=
  let s := d.arm m
  let vels := (q.zip s.q).map (fun e => (e.1 - e.2) * 8000)
  let checks := (r.joints.zip (q.zip vels)).map (fun e => jointCheck e.1 e.2.1 e.2.2)
  let q1 := checks.map (·.1)
  let moved := decide (0 < s.dtau)
  let rate := if moved then (q1.zip s.q).map (fun e => (e.1 - e.2) * px / s.dtau) else s.rate
  let tr := if moved then ((pose.p.sub s.pose.p).norm * px / s.dtau) else s.tcpRate
  let d1 := d.setArm m { s with q := q1, qPrev := s.q, vel := vels, rate := rate, ratePrev := if moved then s.rate else s.ratePrev,
                                tcpRate := tr, tcpRatePrev := if moved then s.tcpRate else s.tcpRatePrev, ikPose := none }
  let d2 := ((r.axes.zip (q1.zip vels)).zip (s.vel ++ List.replicate (q1.length - s.vel.length) 0)).foldl (fun d e =>
    let v := e.1.2.2
    d.storeSp e.1.1 (e.1.2.1, pxOf32 v, pxOf32 ((v - e.2) * 8000))) d1
  let d3 := d2.armPose m pose
  let slow := (checks.zipIdx).filter (fun e => e.1.2.2)
  let fast := (checks.zipIdx).filter (fun e => e.1.2.1)
  let d4 := d3.each slow (fun d e => d.evObj 0x7005 5 m [wN e.2])
  let d5 := d4.each fast (fun d e => d.evObj 0x7006 5 m [wN e.2])
  if ikBad then d5.armStop m 2 3 0
  else if !slow.isEmpty then d5.armStop m 2 4 0
  else if !fast.isEmpty then d5.armStop m 2 5 0
  else d5.armEnds m

/-- R345: the path time of this period: the largest value at or below f × 125 µs under the joint and TCP limits. -/
def Dev.limitTau (d : Dev) (m : Nat) (r : ArmRec) (want : Int) : Int :=
  let s := d.arm m
  let est := (s.rate.zip s.ratePrev).map (fun e => (2 * e.1 - e.2).natAbs)
  let caps := ((r.joints.zip (est.zip s.vel)).map (fun e =>
    let g : Int := e.2.1
    if g = 0 then want
    else
      let v := e.1.vmax * p32 * px / (8000 * g)
      let a := (e.1.amax * p32 / 8000 + e.2.2.natAbs) * px / (8000 * g)
      min v a))
  let tcp : Int := (2 * s.tcpRate - s.tcpRatePrev).natAbs
  let cart := if tcp = 0 then want else ((d.reg (R.ARM_VCART m)).toNat : Int) * fx * px / (8000 * tcp)
  caps.foldl min (min want cart)

/-! ### Advancing along the path -/

/-- A segment is logged and shown as it begins. -/
def Dev.segBegin (d : Dev) (m : Nat) (run : SegRun) : Dev :=
  let s := d.arm m
  let (t, c) := run.endShape
  let d1 := d.setArm m { s with runs := s.runs ++ [run], queue := s.queue.drop 1, endTan := t, endCurv := c }
  if run.seg.evStart then d1.evObj 0x7001 1 m [wN run.seg.segId] else d1

/-- R340: whether a segment may follow another in a blend: both are motion segments in one space. -/
def sameSpace (a b : Seg) : Bool := a.kind != 4 && b.kind != 4 && ((a.kind == 0) == (b.kind == 0))

/-- R340 to R342: the newest segment in execution reaches its blend point. -/
def Dev.tryBlend (d : Dev) (m : Nat) : Dev :=
  let s := d.arm m
  match s.runs.getLast? with
  | none => d
  | some r =>
    if !r.seg.blendEn || r.seg.blend == 0 || r.decided || r.seg.kind == 4 || s.stop != 0 then d
    else
      let decide_ (s : ArmSt) : ArmSt := { s with runs := s.runs.dropLast ++ [{ r with decided := true }] }
      let own := if r.seg.kind == 0 then min ((r.seg.blend : Int) * r.len / 32768) (r.len / 2)
        else min ((r.seg.blend : Int) * px) (r.len / 2)
      let next := match s.queue with
        | g :: _ => if sameSpace r.seg g then d.mkRun m g r.endQ r.finish s.endTan s.endCurv else none
        | [] => none
      match next with
      | some n =>
        let eff := if r.seg.kind == 0 then own else min own (n.len / 2)
        let bp := r.blendPoint eff
        if bp ≤ r.tau + tauTol && d.armState m == 2 then
          (d.setArm m (decide_ s)).segBegin m { n with tau := max 0 (r.tau - bp) }
        else if bp ≤ r.tau + tauTol then d.setArm m (decide_ s)
        else d
      | none =>
        if r.blendPoint own ≤ r.tau + tauTol then
          let d1 := d.setArm m (decide_ s)
          if s.queue.isEmpty then (d1.bump (R.ARM_CNT m) F.ARM_CNT.BLENDLOST 1).evObj 0x7008 2 m [wN r.seg.segId] else d1
        else d

/-- R341, R342: segments that have run their path time complete, and the next one starts; `fuel` bounds the segments of one
period. -/
def Dev.finishRuns (d : Dev) (m : Nat) : Nat → Dev
  | 0 => d
  | n + 1 =>
    let s := d.arm m
    match s.runs with
    | [] =>
      match s.queue with
      | [] => if s.stop != 0 then d else (d.setArmState m 1).setArm m { s with lastBlend := false }
      | g :: _ =>
        if s.stop != 0 then d
        else
          let d0 := d.setArmState m (if d.armState m == 1 then 2 else d.armState m)
          match d0.mkRun m g s.q s.pose s.endTan s.endCurv with
          | some r => if r.dur ≤ tauTol then (d0.segBegin m r).finishRuns m n else d0.segBegin m r
          | none => d0.armStop m 2 3 0
    | r :: rest =>
      if r.tau + tauTol < r.dur then d
      else
        let s1 := { s with runs := rest, lastBlend := r.seg.blendEn && r.seg.blend != 0 }
        if s.stop != 0 then d.setArm m s1
        else
          let ran := rest.isEmpty && s.queue.isEmpty
          let d2 := d.setArm m { s1 with ends := s.ends ++ [(r.seg, ran && s1.lastBlend)], lastBlend := s1.lastBlend && !ran }
          match rest, s.queue with
          | [], [] => d2.setArmState m 1
          | [], g :: _ =>
            if sameSpace r.seg g then
              -- path time goes on into the next segment of the same space
              match d2.mkRun m g r.endQ r.finish s.endTan s.endCurv with
              | some k => (d2.segBegin m { k with tau := max 0 (r.tau - r.dur) }).finishRuns m n
              | none => d2.armStop m 2 3 0
            else d2
          | _, _ => d2.finishRuns m n

/-- The commanded state of the segments in execution (R341): joints, or a pose. -/
def ArmSt.command (s : ArmSt) (runs : List SegRun) : List Int ⊕ PoseM :=
  match runs with
  | [] => .inl s.q
  | r :: rest =>
    if r.seg.kind == 0 || r.seg.kind == 4 then
      .inl (rest.foldl (fun q n => (q.zip (n.joints.zip n.startQ)).map (fun e => e.1 + e.2.1 - e.2.2)) r.joints)
    else
      .inr (rest.foldl (fun p n =>
        let e := n.poseAt
        { p := p.p.add (e.p.sub n.start.p), r := (e.r.mul n.start.r.transpose).mul p.r }) r.poseAt)

/-- R351: the IK registers as they are committed for the period. -/
def Dev.ikRegs (d : Dev) (m : Nat) (r : ArmRec) : List Word :=
  d.reg (R.ARM_IKCFG m) :: d.reg (R.ARM_IKLAM m) :: d.reg (R.ARM_IKTOL m) :: d.reg (R.ARM_NSGAIN m) ::
    (List.range r.joints.length).map (fun j => d.reg (R.ARM_QHOME m j))

/-- One period along the path: path time advances, segments begin and end, and the commanded state goes to the joints, or to the IK
task. -/
def Dev.armAdvance (d : Dev) (m : Nat) (r : ArmRec) : Dev :=
  let s0 := (d.arm m).stepH
  let want := armT * s0.fs * s0.h / (2 ^ 15 * hOne)
  let dt := d.limitTau m r want
  let red := decide (dt + 2 ^ 60 < want)
  let d1 := (d.setArm m { s0 with dtau := dt, runs := s0.runs.map (fun x => { x with tau := x.tau + dt }) }).setFld (R.ARM_STAT m)
    F.ARM_STAT.LIMRED (if red then 1 else 0)
  let d2 := if red then d1.bump (R.ARM_CNT m) F.ARM_CNT.LIMRED 1 else d1
  let d3 := d2.tryBlend m
  -- a segment that ends in this period gives its end state
  let ending := (d3.arm m).command (d3.arm m).runs
  let d4 := d3.finishRuns m 300
  if d4.armState m == 5 && (d4.arm m).stop == 2 then d4
  else
    let s := d4.arm m
    let cmd := if s.runs.isEmpty then ending else s.command s.runs
    match cmd with
    | .inl q => (d4.setArm m { s with excess := 0 }).armIssue m r q (if (s.runs.head?.map (·.seg.kind)) == some 4 then s.pose else fk r q) false
    | .inr p => (d4.setArm m { s with ikPose := some p, ikRegs := d4.ikRegs m r }).ikWords m 0

/-- R329: f_s moves towards the product of the override and the Gorse scale; a Gorse value takes effect in the first period that begins after its
delivery (R35). -/
def Dev.armScale (d : Dev) (m : Nat) : Dev :=
  let s := d.arm m
  let start := d.periodStart 2
  let d0 := match (s.gorse.filter (fun g => decide (g.2 < start))).getLast? with
    | some g => d.setFld (R.ARM_SCALE m) F.ARM_SCALE.GORSE g.1
    | none => d
  let goal := q15 (d0.fld (R.ARM_SCALE m) F.ARM_SCALE.OVR) * q15 (d0.fld (R.ARM_SCALE m) F.ARM_SCALE.GORSE) / 32768
  let up := d0.fld (R.ARM_SSLEW m) F.ARM_SSLEW.SUP
  let dn := d0.fld (R.ARM_SSLEW m) F.ARM_SSLEW.SDN
  let fs := if s.fs ≤ goal then min goal (s.fs + up) else max goal (s.fs - dn)
  ((d0.setArm m { s with fs := fs, gorse := s.gorse.filter (fun g => decide (start ≤ g.2)) }).setFld (R.ARM_STAT m) F.ARM_STAT.SCALED
    (if fs < 32768 then 1 else 0)).setFld (R.ARM_KEFF m) F.ARM_KEFF.FS (showQ15 fs)

/-- R349: what the host asked for takes effect at the start of the period. -/
def Dev.armCommit (d : Dev) (m : Nat) : Dev :=
  let s := d.arm m
  let th := d.fld (R.ARM_THOLD m) F.ARM_THOLD.THOLD
  let st := d.armState m
  let d1 := d.setArm m { s with hold := false, resume := false, flush := false }
  if s.flush && (st == 4 || st == 1) then
    ((d1.setArm m { d1.arm m with runs := [], queue := [], h := hOne, hGoal := hOne, hStep := 0, endTan := none, endCurv := {},
                                  ikPose := none }).setArmState m 1).armShow m
  else if s.hold && (st == 2 || st == 3) then (d1.setArm m ((d1.arm m).rampH 0 th)).setArmState m 3
  else if s.resume && (st == 3 || st == 4) then (d1.setArm m ((d1.arm m).rampH hOne th)).setArmState m 2
  else d1

/-- R347: an arm that is no longer ready drops its path. -/
def Dev.armDisable (d : Dev) (m : Nat) : Dev :=
  (((d.setArm m { fs := (d.arm m).fs, tick := (d.arm m).tick, gorse := (d.arm m).gorse }).setArmState m 0).setFld (R.ARM_STAT m)
    F.ARM_STAT.CAUSE 0).armShow m

/-- R328 to R350: stage 4 of an arm, once in a base tick n with n mod 4 = 0. -/
def Dev.pathPeriod (d : Dev) (m : Nat) : Dev :=
  match d.armRec m with
  | none => d
  | some r =>
    if d.time.tick % 4 != 0 || (d.arm m).tick == some d.time.tick || decide (3 ≤ d.pstate) || !d.running then d
    else
      let d0 := ((d.setArm m { d.arm m with tick := some d.time.tick }).armScale m).armCommit m
      let allAuto := r.axes.all (fun a => d0.axState a == 2)
      let d1 := match d0.armAsked m r with
        | some (code, cause, ax) =>
          let e := d0.armStop m code cause ax
          { e with axs := { e.axs with armReq := tdel e.axs.armReq m } }
        | none => d0
      let d2 := match d1.armState m with
        | 0 =>
          if allAuto then
            let q := d1.jointSps r
            ((d1.setArm m { d1.arm m with q := q, qPrev := q, vel := q.map (fun _ => 0), rate := q.map (fun _ => 0),
                                          ratePrev := q.map (fun _ => 0), h := hOne, hGoal := hOne, hStep := 0 }).setArmState m 1).armPose
              m (fk r q)
          else d1.each r.axes (fun d a => d.jointRamp a)
        | 5 =>
          let s := d1.arm m
          let e := if s.stop == 2 then d1.each r.axes (fun d a => d.jointRamp a) else d1.armAdvance m r
          if r.axes.all (fun a => e.axState a == 5 || e.axState a == 6) then
            ((e.setArm m { e.arm m with runs := [] }).setArmState m 6).evObj 0x700A 4 m [wN (e.arm m).stopCause]
          else e
        | 6 => if r.axes.all (fun a => d1.axState a == 0) then d1.armDisable m else d1
        | st =>
          if !allAuto then d1.armDisable m
          else if st == 4 then d1
          else if st == 1 && (d1.arm m).queue.isEmpty then d1
          else
            let e := d1.armAdvance m r
            if e.armState m == 3 && (e.arm m).h == 0 then (e.setArmState m 4).evObj 0x7009 2 m else e
      (d2.setFld (R.ARM_KEFF m) F.ARM_KEFF.H (showQ15 (((d2.arm m).h * 32768) / hOne).toNat)).armShow m

/-! ### The IK task (R343, R344) -/

/-- The parameters of an arm's IK, from the registers committed for the period. -/
def ikPar (r : ArmRec) (l : List Word) : IkPar :=
  let w (i : Nat) : Word := l.getD i 0
  { arm := r, mask := getF (w 0) F.ARM_IKCFG.MASK, rw := getF (w 0) F.ARM_IKCFG.IKRW, lambda0 := getF (w 1) F.ARM_IKLAM.LAMBDA0,
    sigSing := getF (w 1) F.ARM_IKLAM.SIGSING, nsGain := (w 3).toInt, home := (l.drop 4).map (·.toInt) }

/-- R343, R344: the IK task of an arm runs on the pose that waits for it, and the solution is issued. -/
def Dev.ikRun (d : Dev) (m : Nat) : Dev :=
  match d.armRec m, (d.arm m).ikPose with
  | some r, some pose =>
    let s := d.arm m
    let p := ikPar r s.ikRegs
    let seed := (r.joints.zip (s.q.zip s.qPrev)).map (fun e => jointVar e.1 (2 * e.2.1 - e.2.2))
    let (xs, sigma) := ikSolve p pose seed
    let (rp, rr) := ikResiduals p pose xs
    let tol := s.ikRegs.getD 2 0
    let bad := decide (getF tol F.ARM_IKTOL.TOLP < rp) || decide (getF tol F.ARM_IKTOL.TOLR < rr)
    let n := if bad then s.excess + 1 else 0
    let sing := decide (sigma < p.sigSing * fx)
    let st := R.ARM_STAT m
    let d0 := (d.setArm m { s with excess := n }).ikWords m 1
    let d1 := ((d0.setFld (R.ARM_IKRES m) F.ARM_IKRES.RESP (min rp 65535)).setFld (R.ARM_IKRES m) F.ARM_IKRES.RESR (min rr 65535)).setReg
      (R.ARM_SIGMA m) (wN (sigma / fx).toNat)
    let d2 := if sing && !d1.bit st F.ARM_STAT.SINGULAR then d1.evObj 0x7007 3 m [wN (sigma / fx).toNat] else d1
    let d3 := d2.setFld st F.ARM_STAT.SINGULAR (if sing then 1 else 0)
    let d4 := if bad then d3.bump (R.ARM_CNT m) F.ARM_CNT.IKFAIL 1 else d3
    let stop := bad && decide (getF (s.ikRegs.getD 0 0) F.ARM_IKCFG.IKCOUNT ≤ n)
    let d5 := if stop then d4.evObj 0x7004 5 m [wN rp, wN rr] else d4
    d5.armIssue m r ((r.joints.zip xs).map (fun e => jointUnits e.1 e.2)) pose stop
  | _, _ => d

/-- The arms whose IK task a task is. -/
def Dev.armsOfTask (d : Dev) (t : Nat) : List Nat :=
  (d.img.arms.filter (fun r => d.fld (R.ARM_CFG r.arm) F.ARM_CFG.IKTASK == t)).map (·.arm)

/-! ### Host writes and messages -/

/-- R349: the checks of a write of ARM_CTL. -/
def Dev.armCtlCheck (d : Dev) (m : Nat) (w : Word) : List Status :=
  let st := d.armState m
  [need (getF w F.ARM_CTL.HOLD == 0 || (decide (1 ≤ st) && decide (st ≤ 4))) .conflict,
   need (getF w F.ARM_CTL.HOLD == 1 || getF w F.ARM_CTL.RESUME == 0 || (decide (2 ≤ st) && decide (st ≤ 4))) .conflict,
   need (getF w F.ARM_CTL.FLUSH == 0 || st == 4 || st == 1) .conflict]

/-- R349, R350: HOLD, RESUME and FLUSH wait for the next arm period; HOLD prevails over RESUME. -/
def Dev.armCtlDo (d : Dev) (m : Nat) (w : Word) : Dev :=
  let s := d.arm m
  let hold := getF w F.ARM_CTL.HOLD == 1
  d.setArm m { s with hold := s.hold || hold, resume := !hold && (s.resume || getF w F.ARM_CTL.RESUME == 1),
                      flush := s.flush || getF w F.ARM_CTL.FLUSH == 1 }

/-- The pose from which the next segment of an arm will start, where it is known (R336). -/
def Dev.armEnd (d : Dev) (m : Nat) (r : ArmRec) : PoseM :=
  let s := d.arm m
  let segs := (s.runs.map (·.seg) ++ s.queue).filter (fun g => g.kind != 4)
  match segs.getLast? with
  | none => s.pose
  | some g => if g.kind == 0 then fk r (g.target.map (· * p32)) else poseOf g.target

/-- Whether bytes are all 0. -/
def allZero (l : List Byte) : Bool := l.all (· == 0)

/-- R334: the segment of an ARM_SEG message. -/
def segOf (m : List Byte) : Seg :=
  let kind := uAt m 17 1
  let fl := uAt m 18 1
  { kind := kind, blendEn := bitAt fl 0, evStart := bitAt fl 1, evEnd := bitAt fl 2, segId := uAt m 20 4,
    vel := if kind == 0 then uAt m 24 2 else uAt m 24 4, acc := if kind == 0 then uAt m 28 2 else uAt m 28 4,
    blend := if kind == 0 then uAt m 32 2 else uAt m 32 4,
    target := (List.range (if kind == 0 then 9 else 6)).map (fun i => sAt m (40 + 4 * i) 4),
    aux := (List.range 3).map (fun i => sAt m (76 + 4 * i) 4), dur := uAt m 88 4 }

/-- R336: the checks of an ARM_SEG message. -/
def Dev.segCheck (d : Dev) (m : List Byte) : List Status :=
  let a := uAt m 16 1
  let g := segOf m
  let motion := decide (g.kind ≤ 3)
  let cart := decide (1 ≤ g.kind) && decide (g.kind ≤ 3)
  let s := d.arm a
  let zeros := uAt m 18 1 < 8 && uAt m 19 1 == 0 && uAt m 36 4 == 0 && allZero ((m.drop 92).take 36) &&
    (g.kind != 0 || (uAt m 26 2 == 0 && uAt m 30 2 == 0 && uAt m 34 2 == 0)) &&
    (!cart || allZero ((m.drop 64).take 12)) && (g.kind == 2 || g.kind == 3 || allZero ((m.drop 76).take 12)) &&
    (g.kind == 4 || g.dur == 0) && (g.kind != 4 || (uAt m 24 4 == 0 && uAt m 28 4 == 0 && allZero ((m.drop 40).take 36)))
  let common := [need (!motion || (g.vel != 0 && g.acc != 0)) .badLen, need (g.kind != 4 || g.dur != 0) .badLen,
    need (decide (a ≤ 11)) .badArg, need (decide (g.kind ≤ 4)) .badArg, need zeros .badArg, need (g.segId != 0xFFFFFFFF) .badArg,
    need (decide (g.dur ≤ 60000000)) .badArg, need (!d.inSwitch) .busy,
    need (!d.bit R.SYS_PF_STAT F.SYS_PF_STAT.PFW) .notReady]
  match d.armRec a with
  | none => .notReady :: common
  | some r =>
    let n := r.joints.length
    let tanOk :=
      let k := isqrt ((g.aux.map (fun x => x.natAbs * x.natAbs)).foldl (· + ·) 0)
      decide (k ≤ 2147516416) && decide (2147483648 ≤ k + 32768)
    common ++ [
      need (g.kind != 0 || ((g.target.drop n).all (· == 0) &&
        (r.joints.zip g.target).all (fun e => decide (e.1.qmin ≤ e.2) && decide (e.2 ≤ e.1.qmax)))) .badArg,
      need (!cart || decide (g.vel ≤ (d.reg (R.ARM_VCART a)).toNat)) .badArg,
      need (g.kind != 2 || !circleBad (d.armEnd a r).p (V3.ofInts g.aux) (V3.ofInts g.target)) .badArg,
      need (g.kind != 3 || tanOk) .badArg,
      need (d.armState a != 0) .notReady, need (d.armState a != 5 && d.armState a != 6) .conflict, need (s.qfree != 0) .noSpace]

/-- R335, R336: an ARM_SEG message: the device, the status and the body of ARM_SEG_RSP from byte 16 on. -/
def Dev.armSegMsg (d : Dev) (m : List Byte) : Dev × Status × List Byte :=
  let a := uAt m 16 1
  let st := lowest (d.segCheck m)
  let d1 := if st = .ok then (d.setArm a { d.arm a with queue := (d.arm a).queue ++ [segOf m] }).armShow a else d
  (d1, st, le 1 a ++ le 1 0 ++ le 2 (if a ≤ 11 then (d1.arm a).qfree else 0) ++ le 4 (segOf m).segId)

/-! ### Commands -/

/-- What a release reads for the axes of a task, as the operand of TASK_RELEASE gives it: axis, velocity, torque feedforward. -/
def measures (l : List (Nat × Int × Int)) : List AxMeas := l.map (fun e => { axis := e.1, vel := e.2.1, torqueFf := e.2.2 })

/-- TASK_RELEASE (R175, R343): the release of a task; the IK task of an arm solves the pose that waits for it. -/
def execTaskRelease (t : Nat) (ms : List (Nat × Int × Int)) (s : State) : Host.Outcome State Fault Refusal :=
  s.runIf (decide (t < 4096)) (fun d =>
    let before := (d.tstat t).lastRel
    let d1 := d.releaseTask t (measures ms)
    if (d1.tstat t).lastRel == before then d1 else d1.each (d1.armsOfTask t) (fun d m => d.ikRun m))

/-- PATH_PERIOD (R331). -/
def execPathPeriod (m : Nat) (s : State) : Host.Outcome State Fault Refusal :=
  s.runIf (decide (m < 12)) (fun d => d.pathPeriod m)

end Sys2Proof.Machine
end

