-- ==== Sys2Proof/Machine/Queue.lean ====
section
/-! DEFINITION. Messages that the unit places in a host's queues (R567, R576, R578). -/

namespace Sys2Proof.Machine

open Sys2Proof

/-- An open queue. -/
def Dev.queue? (d : Dev) (q : Nat) : Option Queue := tget? d.host.queues q

/-- The device with a queue set. -/
def Dev.setQueue (d : Dev) (q : Nat) (x : Queue) : Dev := { d with host := { d.host with queues := tset d.host.queues q x } }

/-- The SESSID of the session that owns a queue. -/
def Dev.sessIdOf (d : Dev) (x : Queue) : Nat :=
  match tget? d.host.sess x.slot with
  | some s => s.sessId
  | none => 0

/-- A whole message in 64-byte units from its header fields and the bytes from offset 16 on. -/
def message (typ queue sessId status flags qpos ref : Nat) (body : List Byte) : List Byte :=
  let n := (16 + body.length + 63) / 64
  padTo 64 (header typ n queue sessId status flags qpos ref ++ body)

/-- A message takes its place in a response queue and leaves. -/
def Dev.placeMsg (d : Dev) (q typ status flags ref : Nat) (body : List Byte) : Dev :=
  match d.queue? q with
  | none => d
  | some x =>
    let m := message typ q (d.sessIdOf x) status flags x.pos ref body
    ((d.setQueue q (x.place d.clk m)).emit (.placed q x.pos m)).countTx [.placed q x.pos m]

/-- R578, R484: a message that the unit starts is placed only if more than RESV entries are free. -/
def Dev.hasRoom (d : Dev) (q : Nat) : Bool :=
  match d.queue? q with
  | some x => decide (x.resv < x.freeEntries)
  | none => false

end Sys2Proof.Machine
end

