-- ==== Sys2Proof/Machine/Can.lean ====
section
/-! DEFINITION. The CAN channels (spec/15_can_channels.md): reception and its filters, transmit buffers, error counters, the lone-node
and clash rules and rate detection. The error counters follow ISO 11898-1, which R476 names. -/

namespace Sys2Proof.Machine

open Sys2Proof

/-- A channel's state. -/
def Dev.canCh (d : Dev) (c : Nat) : CanSt := tget d.can c {}

/-- The device with a channel's state set. -/
def Dev.setCan (d : Dev) (c : Nat) (x : CanSt) : Dev := { d with can := tset d.can c x }

/-- CAN_STAT.STATE: 0 OFF, 1 INTEGRATING, 2 ACTIVE, 3 PASSIVE, 4 BUSOFF, 5 DETECT (R496). -/
def Dev.canState (d : Dev) (c : Nat) : Nat := d.fld (R.CAN_STAT c) F.CAN_STAT.STATE

/-- The mode of a channel: 0 OFF, 1 NORMAL, 2 LISTEN. A standby runs its channels in LISTEN (R500). -/
def Dev.canMode (d : Dev) (c : Nat) : Nat :=
  let m := d.fld (R.CAN_CFG c) F.CAN_CFG.MODE
  if m == 1 && d.isStandby then 2 else m

/-- R477: the data bytes of a DLC. -/
def dlcBytes (fd : Bool) (dlc : Nat) : Nat :=
  if dlc ≤ 8 then dlc else if fd then [12, 16, 20, 24, 32, 48, 64].getD (dlc - 9) 64 else 8

/-- The least DLC of an FD frame that holds `n` bytes. -/
def dlcOf (n : Nat) : Nat := ((List.range 16).find? (fun k => decide (n ≤ dlcBytes true k))).getD 15

/-- An identifier with its format, as one number; of a base frame only bits [28:18] are the identifier (R482). -/
def canKey (flags id : Nat) : Nat := if bitAt flags 0 then id + 2 ^ 29 else id / 2 ^ 18 * 2 ^ 18

/-- R487: one frame wins arbitration over another: base identifier, base before extended, extended bits. -/
def canBeats (a b : Nat × Nat) : Bool :=
  let base (x : Nat × Nat) : Nat := x.2 / 2 ^ 18
  let ext (x : Nat × Nat) : Bool := bitAt x.1 0
  decide (base a < base b) || (base a == base b &&
    ((!ext a && ext b) || (ext a == ext b && decide (a.2 % 2 ^ 18 < b.2 % 2 ^ 18))))

/-- R487: the first of the frames that wins. -/
def canPick : List (CanSrc × CanFrame) → Option (CanSrc × CanFrame)
  | [] => none
  | x :: rest =>
    match canPick rest with
    | none => some x
    | some y => some (if canBeats (y.2.flags, y.2.id) (x.2.flags, x.2.id) then y else x)

/-- R491: an identifier is suspended. -/
def Dev.suspended (d : Dev) (c key : Nat) : Bool :=
  (List.range 8).any (fun i =>
    let r := R.CAN_CLASH_ID c i
    d.bit r F.CAN_CLASH_ID.VALID && canKey (d.fld r F.CAN_CLASH_ID.IDE) (d.fld r F.CAN_CLASH_ID.ID) == key)

/-- R437: the safety connections on a channel: connection and its identifier with FLAGS. -/
def Dev.canConns (d : Dev) (c : Nat) : List (Nat × Nat × Nat) :=
  ((d.safeRecs 4).filter (fun r => uAt r 3 1 == 1 && uAt r 4 1 == c)).map (fun r =>
    (uAt r 1 1, (if bitAt (uAt r 5 4) 31 then 1 else 0) + 2, uAt r 5 4 % 2 ^ 29))

/-- The safety connection on an identifier. -/
def Dev.connOfId (d : Dev) (c key : Nat) : Option Nat :=
  ((d.canConns c).find? (fun e => canKey e.2.1 e.2.2 == key)).map (·.1)

/-- The pending frames of a channel whose identifiers are not suspended. -/
def Dev.canPending (d : Dev) (c : Nat) : List (CanSrc × CanFrame) :=
  let own := ((d.canCh c).bufs.filter (fun e => d.fld (R.CAN_TXB_STAT c e.1) F.CAN_TXB_STAT.STATE == 1)).map (fun e => (CanSrc.buffer e.1, e.2))
  let saf := (d.canConns c).filterMap (fun e => match (d.conn e.1).frags with
    | f :: _ => some (CanSrc.safety e.1, ({ flags := e.2.1, dlc := dlcOf f.length, id := e.2.2, data := f } : CanFrame))
    | [] => none)
  (own ++ saf).filter (fun e => !d.suspended c (canKey e.2.flags e.2.id))

/-- An attempt begins: the SOF of the frame that R487 selects is driven. -/
def Dev.canStart (d : Dev) (c : Nat) : Dev :=
  match canPick (d.canPending c) with
  | none => d
  | some (src, f) =>
    let n := dlcBytes (bitAt f.flags 1) f.dlc
    let d1 := (d.setCan c { d.canCh c with cur := some src }).emit (.can c f.id f.flags ((f.data ++ List.replicate 64 0).take n))
    match src with
    | .buffer b => d1.setFld (R.CAN_TXB_STAT c b) F.CAN_TXB_STAT.STATE 2
    | .safety _ => d1

/-- A channel that may send and sends nothing starts its next frame. -/
def Dev.canBegin (d : Dev) (c : Nat) : Dev :=
  let r := R.CAN_STAT c
  if (d.canState c == 2 || d.canState c == 3) && d.canMode c == 1 && (d.canCh c).cur.isNone && !d.bit r F.CAN_STAT.LONE &&
      !d.bit r F.CAN_STAT.CLASHFULL then d.canStart c
  else d

/-- Every channel's next frame. -/
def Dev.canBeginAll (d : Dev) : Dev := d.each (List.range 8) (fun d c => d.canBegin c)

/-! ### Error counters (R476, R489, R499) -/

/-- The error state that the counters give. -/
def Dev.canErrState (d : Dev) (c tec rec : Nat) : Dev :=
  let r := R.CAN_STAT c
  let st := d.canState c
  let d1 := (d.setFld r F.CAN_STAT.TEC (min tec 511)).setFld r F.CAN_STAT.REC (min rec 255)
  if st != 2 && st != 3 then d1
  else if 256 ≤ tec then
    let e := ((d1.setFld r F.CAN_STAT.STATE 4).setCan c { d.canCh c with cur := none, recovering := d.bit (R.CAN_CFG c) F.CAN_CFG.AUTOREC })
    (e.each ((d.canCh c).bufs.map (·.1)) (fun d b => d.setFld (R.CAN_TXB_STAT c b) F.CAN_TXB_STAT.STATE 1)).evObj 0xB001 4 c
  else if 128 ≤ tec || 128 ≤ rec then
    if st == 2 then (d1.setFld r F.CAN_STAT.STATE 3).evObj 0xB003 3 c else d1
  else d1.setFld r F.CAN_STAT.STATE 2

/-- The transmit error counter of a channel. -/
def Dev.canTec (d : Dev) (c : Nat) : Nat := d.fld (R.CAN_STAT c) F.CAN_STAT.TEC

/-- The receive error counter of a channel. -/
def Dev.canRec (d : Dev) (c : Nat) : Nat := d.fld (R.CAN_STAT c) F.CAN_STAT.REC

/-- A frame received without error: REC falls by 1; from above 127 the standard sets it to a value from 119 to 127. -/
def Dev.canRecOk (d : Dev) (c : Nat) : Dev :=
  let n := d.canRec c
  if n = 0 then d
  else if n ≤ 127 then d.canErrState c (d.canTec c) (n - 1)
  else let x := d.free; x.2.canErrState c (d.canTec c) (119 + x.1 % 9)

/-! ### Receiving (R481 to R484) -/

/-- R498: MATCH and MASK of a pair as they stood at an instant in TIME_NS: a write takes effect from the next frame's SOF. -/
def Dev.canPair (d : Dev) (c i sof : Nat) : Word × Word :=
  match (d.canCh c).fltOld.find? (fun e => decide (sof ≤ e.1) && e.2.1 == i) with
  | some (_, _, m, k) => (m, k)
  | none => (d.reg (R.CAN_FLT_MATCH c i), d.reg (R.CAN_FLT_MASK c i))

/-- R498: a pair is written, with what stood in it. -/
def Dev.canPairSet (d : Dev) (c i : Nat) (m k : Word) : Dev :=
  let x := d.canCh c
  d.setCan c { x with fltOld := x.fltOld.filter (fun e => decide (d.ns ≤ e.1 + 100000000)) ++ [(d.ns, i, m, k)] }

/-- R482: the lowest-numbered pair that matches a frame with its SOF at `sof`, and whether its queue is RXB. -/
def Dev.canMatch (d : Dev) (c flags id sof : Nat) : Option (Nat × Bool) :=
  let ide := bitAt flags 0
  let x := if ide then id else id / 2 ^ 18 * 2 ^ 18
  ((List.range 64).find? (fun i =>
    let p := d.canPair c i sof
    getF p.1 F.CAN_FLT_MATCH.EN == 1 && ((x ^^^ getF p.1 F.CAN_FLT_MATCH.MATCH) &&& getF p.2 F.CAN_FLT_MASK.MASK) == 0 &&
      (getF p.2 F.CAN_FLT_MASK.MIDE == 0 || ide == (getF p.1 F.CAN_FLT_MATCH.IDE == 1)))).map
    (fun i => (i, getF (d.canPair c i sof).1 F.CAN_FLT_MATCH.DEST == 1))

/-- R485: the body of a CAN_RX message, from offset 16. -/
def canBody (c idx flags dlc id : Nat) (time : Word) (data : List Byte) : List Byte :=
  let n := dlcBytes (bitAt flags 1) dlc
  le 1 c ++ le 1 idx ++ le 1 flags ++ le 1 dlc ++ le 4 id ++ le 4 time.toNat ++ le 4 0 ++
    (data.take n ++ List.replicate 64 0).take 64 ++ List.replicate 32 0

/-- R484: a frame goes to RXA or RXB, or is discarded where that is full. -/
def Dev.canStore (d : Dev) (c idx flags dlc id : Nat) (time : Word) (data : List Byte) (toB : Bool) : Dev :=
  let x := d.canCh c
  if decide (128 ≤ (if toB then x.rxb else x.rxa).length) then (d.inc (R.CAN_CNT_RXOVF c)).evObj 0xB006 3 c [wN id]
  else
    let body := canBody c idx (flags % 32 + (if toB then 128 else 0)) dlc id time data
    d.setCan c (if toB then { x with rxb := x.rxb ++ [body] } else { x with rxa := x.rxa ++ [body] })

/-- R481: the candidate rate whose bit time lies within 2 % of an interval in ns. -/
def canCandidate (edge : Nat) : Option Nat :=
  [10000, 20000, 50000, 100000, 125000, 250000, 500000, 800000, 1000000].find? (fun r =>
    let bit := 1000000000 / r
    decide (50 * ((edge : Int) - bit).natAbs ≤ bit))

/-- R481: detection of the rate starts again. -/
def Dev.canDetect (d : Dev) (c : Nat) : Dev :=
  ((d.setCan c { d.canCh c with detClk := d.clk, detRate := 0, detN := 0, detFailed := false }).setFld (R.CAN_STAT c) F.CAN_STAT.STATE
    5).setFld (R.CAN_STAT c) F.CAN_STAT.RATEOK 0

/-- R481: a frame without error during detection, with the shortest interval between edges; the answer says whether it is received. -/
def Dev.canDetFrame (d : Dev) (c edge : Nat) : Dev × Bool :=
  let x := d.canCh c
  match canCandidate edge with
  | none => (d, false)
  | some rate =>
    if x.detFailed then (d, false)
    else
      let n := if rate = x.detRate then x.detN + 1 else 1
      let d1 := d.setCan c { x with detRate := rate, detN := n }
      if n < 2 then (d1, true)
      else ((((((d1.setFld (R.CAN_STAT c) F.CAN_STAT.RATEOK 1).setFld (R.CAN_STAT c) F.CAN_STAT.STATE 2).setReg (R.CAN_RATE c) (wN rate)).setReg
        (R.CAN_NBT c) (Config.canTiming rate)).evObj 0xB007 2 c [wN rate]), true)

/-- An error in a received frame: 0 stuff, 1 form, 2 CRC, 3 bit; 4 is a protocol exception (R476). `heavy` says that the standard counts
it by 8. -/
def Dev.canRxError (d : Dev) (c kind : Nat) (heavy : Bool) : Dev :=
  let st := d.canState c
  let x := d.canCh c
  if st == 5 then
    if kind == 4 then d else d.setCan c { x with detRate := 0, detN := 0 }
  else if st != 2 && st != 3 then d
  else if kind == 4 then d.setFld (R.CAN_STAT c) F.CAN_STAT.STATE 1
  else
    let d1 := match kind with
      | 0 => d.inc (R.CAN_CNT_STUFF c)
      | 1 => d.inc (R.CAN_CNT_FORM c)
      | 2 => d.inc (R.CAN_CNT_CRC c)
      | _ => d.inc (R.CAN_CNT_BITERR c)
    d1.canErrState c (d.canTec c) (d.canRec c + (if heavy then 8 else 1))

/-- R482, R483: a valid frame is received, whose SOF edge lay `ago` CK_PER clocks back: it is stamped at that edge, to 5 ns (R59). -/
def Dev.canFrame (d : Dev) (c flags dlc id : Nat) (data : List Byte) (ago edge : Nat) : Dev :=
  let sof := (d.ns - 5 * ago) / 5 * 5
  let time := wN sof
  let st := d.canState c
  let fd := bitAt flags 1
  if st != 2 && st != 3 && st != 5 then d
  else if fd && !d.bit (R.CAN_CFG c) F.CAN_CFG.FDEN then d
  else if d.bit (R.CAN_CFG c) F.CAN_CFG.AUTOBAUD && bitAt flags 2 && !(d.canCh c).dbt then d.canRxError c 1 false
  else
    let x := if st == 5 then d.canDetFrame c edge else (d, true)
    if !x.2 then x.1
    else
      let d1 := x.1.canRecOk c
      let d2 := if d1.canMode c == 1 then
          (d1.setFld (R.CAN_STAT c) F.CAN_STAT.LONE 0).setCan c { d1.canCh c with ackRun := none }
        else d1
      let bytes := (data ++ List.replicate 64 0).take (dlcBytes fd dlc)
      match d2.connOfId c (canKey flags id) with
      | some k => d2.safeFrame k bytes time
      | none =>
        match d2.canMatch c flags id sof with
        | some i => d2.canStore c i.1 flags dlc id time data i.2
        | none =>
          if d2.bit (R.CAN_CFG c) F.CAN_CFG.ACCEPTALL then d2.canStore c 0xFF flags dlc id time data true
          else d2.inc (R.CAN_CNT_NOMATCH c)

/-- R484, R486: the next message of a channel is delivered to HOSTQ where there is room: completions, RXA, RXB. -/
def Dev.canDeliver (d : Dev) (c : Nat) : Dev :=
  let q := d.fld (R.CAN_CFG c) F.CAN_CFG.HOSTQ
  let x := d.canCh c
  if !d.hasRoom q then d
  else
    match x.done, x.rxa, x.rxb with
    | m :: rest, _, _ => (d.setCan c { x with done := rest }).placeMsg q 0x0B84 0 0 0 m
    | [], m :: rest, _ => (d.setCan c { x with rxa := rest }).placeMsg q 0x0B83 0 0 0 m
    | [], [], m :: rest => (d.setCan c { x with rxb := rest }).placeMsg q 0x0B83 0 0 0 m
    | [], [], [] => d

/-! ### Sending (R486 to R492) -/

/-- R486: a buffer is freed with its final status. -/
def Dev.canFree (d : Dev) (c b : Nat) (final : Status) : Dev :=
  let x := d.canCh c
  match tget? x.bufs b with
  | none => d
  | some f =>
    let d1 := (d.setCan c { x with bufs := tdel x.bufs b, cur := if x.cur = some (.buffer b) then none else x.cur }).setReg
      (R.CAN_TXB_STAT c b) 0
    if bitAt f.flags 5 then
      let m := le 1 c ++ le 1 b ++ le 2 0 ++ le 4 f.id ++ le 4 d.ts.toNat ++ le 1 final.code
      (d1.setCan c { d1.canCh c with done := (d1.canCh c).done ++ [m] }).canDeliver c
    else d1

/-- R491: an identifier stands suspended in a place of CAN_CLASH_ID. -/
def Dev.canSuspend (d : Dev) (c i : Nat) (f : CanFrame) : Dev :=
  let r := R.CAN_CLASH_ID c i
  ((d.setFld r F.CAN_CLASH_ID.VALID 1).setFld r F.CAN_CLASH_ID.IDE (if bitAt f.flags 0 then 1 else 0)).setFld r F.CAN_CLASH_ID.ID f.id

/-- R491: an identifier is suspended, and every pending buffer with it is freed. -/
def Dev.canClash (d : Dev) (c : Nat) (f : CanFrame) : Dev :=
  let key := canKey f.flags f.id
  let place := (List.range 8).find? (fun i => !d.bit (R.CAN_CLASH_ID c i) F.CAN_CLASH_ID.VALID)
  let d0 := (d.setCan c { d.canCh c with clash := tdel (d.canCh c).clash key, newClash := some (d.perClk, place.getD 0, f) }).evObj 0xB005 4 c
    [wN f.id]
  let d1 := match place with
    | some i => d0.canSuspend c i f
    | none => d0.setFld (R.CAN_STAT c) F.CAN_STAT.CLASHFULL 1
  d1.each (((d.canCh c).bufs.filter (fun e => canKey e.2.flags e.2.id == key)).map (·.1)) (fun d b => d.canFree c b .conflict)

/-- R491, R492: CLASHCLR; an identifier suspended in the same clock stays suspended. -/
def Dev.canClashClr (d : Dev) (c : Nat) : Dev :=
  let d1 := (d.each (List.range 8) (fun d i => d.setReg (R.CAN_CLASH_ID c i) 0)).setFld (R.CAN_STAT c) F.CAN_STAT.CLASHFULL 0
  match (d.canCh c).newClash with
  | some (k, i, f) => if k == d.perClk then d1.canSuspend c i f else d1
  | none => d1

/-- R487, R488, R490: after an attempt that did not complete: a cancelled frame is freed, and so is one of a single attempt unless `keep`
holds it through LONE; any other waits again. -/
def canRetry (d : Dev) (c : Nat) (src : CanSrc) (lost keep : Bool) (f : CanFrame) : Dev :=
  let d0 := d.setCan c { d.canCh c with cur := none }
  match src with
  | .safety _ => d0
  | .buffer b =>
    let r := R.CAN_TXB_STAT c b
    if d.bit r F.CAN_TXB_STAT.CANREQ then d0.canFree c b .aborted
    else if bitAt f.flags 6 && !keep then d0.canFree c b (if lost then .aborted else .timeout)
    else d0.setFld r F.CAN_TXB_STAT.STATE 1

/-- R487 to R492: the end of an attempt: `r` is 0 completed, 1 arbitration lost, 2 no acknowledgement, 3 a bit error, 4 a bit error in the
data field after arbitration, 5 a stuff error, 6 a form error; `tdc` the delay measured (R480); `quiet` that the standard counts no
acknowledgement error because a passive flag met no dominant bit. -/
def Dev.canTxEnd (d : Dev) (c r0 : Nat) (tdc : Option Nat) (quiet : Bool) : Dev :=
  let x := d.canCh c
  match x.cur with
  | none => d
  | some src =>
    let frame : Option CanFrame := match src with
      | .buffer b => tget? x.bufs b
      | .safety k => ((d.canConns c).find? (fun e => e.1 == k)).map (fun e => { flags := e.2.1, dlc := 0, id := e.2.2 })
    match frame with
    | none => d.setCan c { x with cur := none }
    | some f =>
      let key := canKey f.flags f.id
      let d0 := match tdc with
        | some n => if bitAt f.flags 2 then d.setFld (R.CAN_TDCV c) F.CAN_TDCV.V (min n 255) else d
        | none => d
      let r := match tdc with
        | some n => if bitAt f.flags 2 && decide (255 < n) then 3 else r0
        | none => r0
      let lone := d.bit (R.CAN_STAT c) F.CAN_STAT.LONE
      let run := if r == 2 && !lone then (match x.ackRun with
        | some (s, n) => if s = src then n + 1 else 1
        | none => 1) else 0
      let clash := if r == 4 then tget x.clash key 0 + 1 else 0
      let d1 := d0.setCan c { x with
        ackRun := if r == 1 then x.ackRun else if r == 2 && !lone then some (src, run) else none,
        clash := if clash = 0 then tdel x.clash key else tset x.clash key clash }
      let d2 := match r with
        | 2 => d1.inc (R.CAN_CNT_ACKERR c)
        | 3 => d1.inc (R.CAN_CNT_BITERR c)
        | 4 => d1.inc (R.CAN_CNT_BITERR c)
        | 5 => d1.inc (R.CAN_CNT_STUFF c)
        | 6 => d1.inc (R.CAN_CNT_FORM c)
        | _ => d1
      if r == 0 then
        let e := (d2.setFld (R.CAN_STAT c) F.CAN_STAT.LONE 0).canErrState c (d.canTec c - 1) (d.canRec c)
        match src with
        | .buffer b => e.canFree c b .ok
        | .safety k => ((e.setCan c { e.canCh c with cur := none }).fragmentOut k).1
      else
        let d3 := if r == 1 || (r == 2 && (quiet || lone)) then d2 else d2.canErrState c (d.canTec c + 8) (d.canRec c)
        if r == 4 && decide (8 ≤ clash) then (d3.setCan c { d3.canCh c with cur := none }).canClash c f
        else if r == 2 && decide (128 ≤ run) then
          let e := ((d3.setFld (R.CAN_STAT c) F.CAN_STAT.LONE 1).setCan c { d3.canCh c with ackRun := none, loneClk := d.clk, cur := none }).evObj
            0xB004 4 c [wN f.id]
          match src with
          | .buffer b => e.canFree c b .timeout
          | .safety k => e.setConn k { e.conn k with frags := (e.conn k).frags.drop 1 }
        else canRetry d3 c src (r == 1) (r == 2 && lone) f

/-- R489: the recovery sequence is complete. -/
def Dev.canRecovered (d : Dev) (c : Nat) : Dev :=
  if d.canState c == 4 && (d.canCh c).recovering then
    ((((d.setCan c { d.canCh c with recovering := false }).setFld (R.CAN_STAT c) F.CAN_STAT.LONE 0).setFld (R.CAN_STAT c) F.CAN_STAT.STATE
      2).canErrState c 0 0).evObj 0xB002 2 c
  else d

/-- R490: the attempt of every 100 ms during LONE. -/
def Dev.canLoneRetry (d : Dev) (c : Nat) : Dev :=
  let x := d.canCh c
  if d.bit (R.CAN_STAT c) F.CAN_STAT.LONE && d.canMode c == 1 && (d.canState c == 2 || d.canState c == 3) && x.cur.isNone &&
      !d.bit (R.CAN_STAT c) F.CAN_STAT.CLASHFULL && d.since x.loneClk (clksOfMs 100) then
    (d.setCan c { x with loneClk := d.clk }).canStart c
  else d

/-- R481: no rate within 10 s. -/
def Dev.canRateFail (d : Dev) (c : Nat) : Dev :=
  let x := d.canCh c
  if d.canState c == 5 && !x.detFailed && d.since x.detClk (clksOfMs 10000) then
    (d.setCan c { x with detFailed := true }).evObj 0xB008 3 c
  else d

/-- R476: bus integration is complete. -/
def Dev.canIntegrated (d : Dev) (c : Nat) : Dev :=
  if d.canState c == 1 then
    (d.setFld (R.CAN_STAT c) F.CAN_STAT.STATE 2).canErrState c (d.canTec c) (d.canRec c)
  else d

/-! ### Messages (R486, R488) -/

/-- The lowest free transmit buffer of a channel (R486). -/
def Dev.canFreeBuf (d : Dev) (c : Nat) : Option Nat := (List.range 32).find? (fun b => d.fld (R.CAN_TXB_STAT c b) F.CAN_TXB_STAT.STATE == 0)

/-- R486, R487: the checks of a CAN_TX. -/
def Dev.canTxChecks (d : Dev) (m : List Byte) : List Status :=
  let c := uAt m 16 1
  let idx := uAt m 17 1
  let fl := uAt m 18 1
  let dlc := uAt m 19 1
  let id := uAt m 20 4
  let key := canKey fl id
  [need (decide (c < 8) && decide (dlc ≤ 15) && decide (id < 2 ^ 29) && (decide (idx < 32) || idx == 0xFF)) .badArg,
    need (!(bitAt fl 4 && bitAt fl 1)) .badArg, need (!(bitAt fl 2 && !bitAt fl 1)) .badArg,
    need (!bitAt fl 1 || d.bit (R.CAN_CFG c) F.CAN_CFG.FDEN) .badArg,
    need (!d.inSwitch) .busy,
    need (idx == 0xFF || d.fld (R.CAN_TXB_STAT c idx) F.CAN_TXB_STAT.STATE == 0) .busy,
    need (idx != 0xFF || (d.canFreeBuf c).isSome) .noSpace,
    need (d.canMode c == 1) .notReady,
    need (!d.suspended c key) .conflict, need (d.connOfId c key).isNone .conflict]

/-- CAN_TX. -/
def Dev.canTxMsg (d : Dev) (m : List Byte) : Dev × Status × List Byte :=
  let c := uAt m 16 1
  let idx := uAt m 17 1
  let id := uAt m 20 4
  let b := if idx = 0xFF then (d.canFreeBuf c).getD 0 else idx
  let st := lowest (d.canTxChecks m)
  if st = .ok then
    let f : CanFrame := { flags := uAt m 18 1, dlc := uAt m 19 1, id := id, data := slice m 32 64 }
    let d1 := (d.setCan c { d.canCh c with bufs := tset (d.canCh c).bufs b f }).setReg (R.CAN_TXB_STAT c b)
      (putF (putF 0 F.CAN_TXB_STAT.STATE 1) F.CAN_TXB_STAT.ID id)
    (d1, st, le 1 c ++ le 1 b)
  else (d, st, le 1 c ++ le 1 idx)

/-- CAN_CANCEL. -/
def Dev.canCancelMsg (d : Dev) (m : List Byte) : Dev × Status × List Byte :=
  let c := uAt m 16 1
  let b := uAt m 17 1
  let r := R.CAN_TXB_STAT c b
  let state := d.fld r F.CAN_TXB_STAT.STATE
  let st := lowest [need (decide (c < 8) && decide (b < 32)) .badArg, need (!d.inSwitch) .busy, need (state != 2) .busy,
    need (state != 0) .notReady]
  let body := le 1 c ++ le 1 b
  if decide (8 ≤ c) || decide (32 ≤ b) || d.inSwitch then (d, st, body)
  else if state = 2 then (d.setFld r F.CAN_TXB_STAT.CANREQ 1, st, body)
  else if state = 1 then (d.canFree c b .aborted, st, body)
  else (d, st, body)

/-! ### Registers (R478 to R496) -/

/-- R494, R481: a write of CAN_CFG. -/
def canCfgCheck (c : Nat) (new : Word) : List Status :=
  let mode := getF new F.CAN_CFG.MODE
  let ab := getF new F.CAN_CFG.AUTOBAUD == 1
  [need (mode != 3) .badArg, need (decide (64 ≤ getF new F.CAN_CFG.HOSTQ) && decide (getF new F.CAN_CFG.HOSTQ ≤ 127)) .badArg,
   need (!ab || decide (6 ≤ c)) .unsupported, need (!(ab && decide (6 ≤ c) && mode == 1)) .conflict]

/-- R476, R481: a channel's mode or rate detection changes; the new word stands in CAN_CFG. -/
def Dev.canModeSet (d : Dev) (c : Nat) (old : Word) : Dev :=
  let new := d.reg (R.CAN_CFG c)
  let same := getF old F.CAN_CFG.MODE == getF new F.CAN_CFG.MODE && getF old F.CAN_CFG.AUTOBAUD == getF new F.CAN_CFG.AUTOBAUD
  if same then d
  else
    let d0 := (d.each ((d.canCh c).bufs.map (·.1)) (fun d b => d.setFld (R.CAN_TXB_STAT c b) F.CAN_TXB_STAT.STATE 1)).setCan c
      { d.canCh c with cur := none }
    let d1 := d0.setFld (R.CAN_STAT c) F.CAN_STAT.RATEOK 0
    match getF new F.CAN_CFG.MODE with
    | 0 => d1.setFld (R.CAN_STAT c) F.CAN_STAT.STATE 0
    | 2 => if getF new F.CAN_CFG.AUTOBAUD == 1 then d1.canDetect c else d1.setFld (R.CAN_STAT c) F.CAN_STAT.STATE 1
    | _ => d1.setFld (R.CAN_STAT c) F.CAN_STAT.STATE 1

/-- R478, R479: a word of CAN_NBT. -/
def canNbtCheck (w : Word) : List Status :=
  let brp := getF w F.CAN_NBT.NBRP
  let t1 := getF w F.CAN_NBT.NTSEG1
  let t2 := getF w F.CAN_NBT.NTSEG2
  let sjw := getF w F.CAN_NBT.NSJW
  let clks := brp * (1 + t1 + t2)
  [need (brp != 0 && t1 != 0 && t2 != 0 && sjw != 0) .badLen,
   need (decide (brp ≤ 256) && decide (2 ≤ t1) && decide (t1 ≤ 256) && decide (t2 ≤ 127)) .badArg,
   need (decide (200 ≤ clks) && decide (clks ≤ 20000) && decide (sjw ≤ t2)) .badArg,
   need (decide (clks < 1600) || decide (4 ≤ t1)) .badArg]

/-- R478: a word of CAN_DBT. -/
def canDbtCheck (w : Word) : List Status :=
  let brp := getF w F.CAN_DBT.DBRP
  let t1 := getF w F.CAN_DBT.DTSEG1
  let t2 := getF w F.CAN_DBT.DTSEG2
  let sjw := getF w F.CAN_DBT.DSJW
  [need (brp != 0 && t1 != 0 && t2 != 0 && sjw != 0 && getF w F.CAN_DBT.TDCO != 0) .badLen,
   need (decide (brp ≤ 32) && decide (t1 ≤ 32) && decide (t2 ≤ 16) && decide (sjw ≤ 16)) .badArg,
   need (decide (25 ≤ brp * (1 + t1 + t2)) && decide (sjw ≤ t2)) .badArg]

/-- R478: the bit timing changes only while the channel is OFF. -/
def Dev.canOffCheck (d : Dev) (c : Nat) : List Status := [need (d.fld (R.CAN_CFG c) F.CAN_CFG.MODE == 0) .conflict]

/-- CAN_DBT has been written (R481). -/
def Dev.canDbtSet (d : Dev) (c : Nat) : Dev := d.setCan c { d.canCh c with dbt := true }

/-- R481, R489, R491: a write of CAN_CTL. -/
def Dev.canCtlDo (d : Dev) (c : Nat) (w : Word) : Dev :=
  let d1 := if getF w F.CAN_CTL.RATERESTART == 1 && d.bit (R.CAN_CFG c) F.CAN_CFG.AUTOBAUD && d.fld (R.CAN_CFG c) F.CAN_CFG.MODE == 2 then
      d.canDetect c else d
  let d2 := if getF w F.CAN_CTL.RECOVER == 1 && d1.canState c == 4 then d1.setCan c { d1.canCh c with recovering := true } else d1
  if getF w F.CAN_CTL.CLASHCLR == 1 then d2.canClashClr c else d2

/-- R493, R500: the channels take the image's records; each configured channel integrates onto its bus. -/
def Dev.canLoad (d : Dev) : Dev :=
  let d1 := d.each (d.img.periph.filter (fun r => uAt r 0 1 == 0x10)) (fun d r =>
    let c := uAt r 1 1
    let fl := uAt r 3 1
    let b (i : Nat) : Nat := if bitAt fl i then 1 else 0
    let cfg := R.CAN_CFG c
    let old := d.reg cfg
    let e := ((((((d.setFld cfg F.CAN_CFG.MODE (uAt r 2 1)).setFld cfg F.CAN_CFG.FDEN (b 0)).setFld cfg F.CAN_CFG.AUTOBAUD (b 1)).setFld cfg
      F.CAN_CFG.AUTOREC (b 2)).setFld cfg F.CAN_CFG.ACCEPTALL (b 3)).setFld cfg F.CAN_CFG.HOSTQ (uAt r 4 1))
    (((e.setReg (R.CAN_NBT c) (wN (uAt r 5 4))).setReg (R.CAN_DBT c) (wN (uAt r 9 4))).canDbtSet c).canModeSet c old)
  d1.each (d.img.periph.filter (fun r => uAt r 0 1 == 0x11)) (fun d r =>
    (d.setReg (R.CAN_FLT_MATCH (uAt r 1 1) (uAt r 2 1)) (wN (uAt r 3 4))).setReg (R.CAN_FLT_MASK (uAt r 1 1) (uAt r 2 1)) (wN (uAt r 7 4)))

/-- R500: the channels go OFF and lose everything but their class W values; on a return they integrate. -/
def Dev.canOff (d : Dev) : Dev :=
  (d.each (List.range 8) (fun d c => ((d.clearReg (R.CAN_STAT c)).each (List.range 8) (fun d i => d.clearReg (R.CAN_CLASH_ID c i))).each
    (List.range 32) (fun d b => d.clearReg (R.CAN_TXB_STAT c b)))) |> fun (e : Dev) => { e with can := [] }

/-- R500: the channels whose MODE is not OFF integrate onto their buses. -/
def Dev.canOn (d : Dev) : Dev :=
  d.each (List.range 8) (fun d c =>
    if d.canState c != 0 then d else d.canModeSet c 0)

/-! ### Commands -/

/-- CAN_FRAME_RECEIVED (R483). -/
def execCanFrameReceived (c flags dlc id : Nat) (data : List Byte) (ago edge : Nat) (s : State) :
    Host.Outcome State Fault Refusal :=
  s.runIf (decide (c < 8)) (fun d => d.canFrame c flags (min dlc 15) (id % 2 ^ 29) data ago edge)

/-- CAN_RX (R484). -/
def execCanRx (c : Nat) (s : State) : Host.Outcome State Fault Refusal := s.runIf (decide (c < 8)) (fun d => d.canDeliver c)

/-- CAN_TX_END (R487). -/
def execCanTxEnd (c r : Nat) (tdc : Option Nat) (quiet : Bool) (s : State) : Host.Outcome State Fault Refusal :=
  s.runIf (decide (c < 8)) (fun d => d.canTxEnd c r tdc quiet)

/-- CAN_RECOVERED (R489). -/
def execCanRecovered (c : Nat) (s : State) : Host.Outcome State Fault Refusal := s.runIf (decide (c < 8)) (fun d => d.canRecovered c)

/-- CAN_LONE_RETRY (R490). -/
def execCanLoneRetry (c : Nat) (s : State) : Host.Outcome State Fault Refusal := s.runIf (decide (c < 8)) (fun d => d.canLoneRetry c)

/-- CAN_RATE_FAIL (R481). -/
def execCanRateFail (c : Nat) (s : State) : Host.Outcome State Fault Refusal := s.runIf (decide (c < 8)) (fun d => d.canRateFail c)

/-- CAN_BUS_INTEGRATION (R476). -/
def execCanBusIntegration (c : Nat) (s : State) : Host.Outcome State Fault Refusal := s.runIf (decide (c < 8)) (fun d => d.canIntegrated c)

/-- CAN_RX_FRAME_ERROR (R481). -/
def execCanRxFrameError (c kind : Nat) (heavy : Bool) (s : State) : Host.Outcome State Fault Refusal :=
  s.runIf (decide (c < 8)) (fun d => d.canRxError c kind heavy)

end Sys2Proof.Machine
end

