-- ==== Sys2Proof/Machine/Capture.lean ====
section
/-! DEFINITION. Sward, the capture of signals (spec/16_capture.md): arming, trigger conditions, samples and their decimation, records, masks
and measurements. -/

namespace Sys2Proof.Machine

open Sys2Proof

/-- The device with Sward's state set. -/
def Dev.setCap (d : Dev) (x : CapSt) : Dev := { d with cap := x }

/-- CAP_STAT.STATE: 0 IDLE, 1 PRETRIG, 2 WAIT, 3 POST, 4 DONE, 5 MASKSTOP, 6 STOPPED, 7 STREAM (R515). -/
def Dev.capState (d : Dev) : Nat := d.fld R.CAP_STAT F.CAP_STAT.STATE

/-- The device with Sward's STATE set. -/
def Dev.setCapState (d : Dev) (st : Nat) : Dev := d.setFld R.CAP_STAT F.CAP_STAT.STATE st

/-- A capture is running. -/
def Dev.capRuns (d : Dev) : Bool := [1, 2, 3, 7].contains d.capState

/-- MODE, NFAB, NRAW, LEN and PRE. -/
def Dev.capMode (d : Dev) : Nat := d.fld R.CAP_CFG F.CAP_CFG.MODE
/-- NFAB. -/
def Dev.capNFab (d : Dev) : Nat := d.fld R.CAP_CFG F.CAP_CFG.NFAB
/-- NRAW. -/
def Dev.capNRaw (d : Dev) : Nat := d.fld R.CAP_CFG F.CAP_CFG.NRAW
/-- LEN. -/
def Dev.capLen (d : Dev) : Nat := d.fld R.CAP_LEN F.CAP_LEN.V
/-- PRE. -/
def Dev.capPre (d : Dev) : Nat := d.fld R.CAP_PRE F.CAP_PRE.V
/-- The captured fabric channel of index `i`. -/
def Dev.capChan (d : Dev) (i : Nat) : Nat := d.fld (R.CAP_CH i) F.CAP_CH.CHAN

/-- The fabric sample period in ns. -/
def Dev.capNs (d : Dev) : Nat := periodNs (d.fld R.CAP_CFG F.CAP_CFG.KPER)

/-- R502: the raw sample period in ns. -/
def Dev.capRawNs (d : Dev) : Nat := 100 * 2 ^ d.fld R.CAP_CFG F.CAP_CFG.RAWDIV

/-- A size padded to 64 bytes (R512). -/
def pad64 (n : Nat) : Nat := (n + 63) / 64 * 64

/-- R512: the bytes that a record takes. -/
def Dev.capSize (d : Dev) : Nat :=
  let nf := d.capNFab
  let nr := d.capNRaw
  let rawLen := d.capLen * d.capNs / d.capRawNs
  128 + pad64 (2 * (nf + nr)) + pad64 (16 * nf) + pad64 (4 * nf * d.capLen) + pad64 (2 * nr * rawLen)

/-- The records that fit in the capture area. -/
def Dev.capFit (d : Dev) : Nat := d.fld R.CAP_MEMSIZE F.CAP_MEMSIZE.V * 1048576 / d.capSize

/-- R504: a raw channel's source is configured by the image. -/
def Dev.rawOk (d : Dev) (j : Nat) : Bool :=
  let src := d.fld (R.CAP_RAW j) F.CAP_RAW.SRC
  match d.fld (R.CAP_RAW j) F.CAP_RAW.KIND with
  | 0 => (d.axisOfLeg src).isSome
  | 1 => d.encMode src != 0
  | 3 => d.bit (R.FBK_PRB_CFG src) F.FBK_PRB_CFG.EN
  | 4 => (d.axisOfLeg src).isSome
  | _ => decide (src < 8)

/-- R504, R509: the checks of ARM. -/
def Dev.armCaptureChecks (d : Dev) : List Status :=
  let nf := d.capNFab
  let nr := d.capNRaw
  let mode := d.capMode
  let div := d.fld R.CAP_CFG F.CAP_CFG.RAWDIV
  let nrec := d.fld R.CAP_NREC F.CAP_NREC.V
  let chans := List.range (min nf 128)
  let raws := List.range (min nr 16)
  let sd := raws.any (fun j => d.fld (R.CAP_RAW j) F.CAP_RAW.KIND == 4 || d.fld (R.CAP_RAW j) F.CAP_RAW.KIND == 5)
  let trigOk := (List.range 32).all (fun t =>
    let r := R.CAP_TRIG_CFG t
    let k := d.fld r F.CAP_TRIG_CFG.KIND
    !d.bit r F.CAP_TRIG_CFG.EN || k == 0 || decide (3 < k) ||
      decide (d.fld r F.CAP_TRIG_CFG.SRC < (if d.bit r F.CAP_TRIG_CFG.RAW then nr else nf)))
  let st := d.capState
  [need (d.capLen != 0 && nf + nr != 0 && (mode != 1 || nrec != 0)) .badLen,
   need (decide (d.capPre < d.capLen) && decide (nf ≤ 128) && decide (nr ≤ 16) && decide (div ≤ 10) &&
     (!sd || (decide (3 ≤ div) && decide (div ≤ 7))) && trigOk) .badArg,
   need (st == 0 || st == 4 || st == 6) .busy,
   need (decide ((match mode with | 1 => nrec | 2 => 2 | _ => 1) ≤ d.capFit)) .noSpace,
   need (d.fld R.CAP_MEMSIZE F.CAP_MEMSIZE.V != 0 && chans.all (fun i => (d.chanRec (d.capChan i)).isSome) && raws.all (fun j => d.rawOk j) &&
     chans.all (fun i => !d.bit (R.CAP_CH i) F.CAP_CH.MASKEN || (tget? d.cap.masks (d.fld (R.CAP_CH i) F.CAP_CH.MSLOT)).isSome)) .notReady]

/-- R511: the instant of the source sample of a channel's value, where the sample tick begins at `tickNs`. -/
def Dev.capSrcNs (d : Dev) (c tickNs : Nat) : Int :=
  match d.chanRec c with
  | none => tickNs
  | some r =>
    let x := (d.chanSt c).ns
    match r.kind with
    | 0 =>
      let s := r.src
      if s / 2 ^ 24 == 1 then (tickNs : Int) - 75 * d.osr ((s % 2 ^ 24) / 12) (s % 12)
      else if s / 2 ^ 24 == 2 then (tickNs : Int) - 75 * d.osr (s % 2 ^ 24) 12
      else if s / 2 ^ 24 == 6 || s / 2 ^ 24 == 7 then ((d.rem (s % 256)).csNs : Int)
      else tickNs
    | 1 => match d.slotOfEp (r.src % 131072) with
      | some sl => let p := periodNs (d.fld (R.LINE_CFG sl.port) F.LINE_CFG.PERIOD); ((x / p * p : Nat) : Int)
      | none => x
    | 2 => let p := periodNs (d.producerK r); ((x / p * p : Nat) : Int)
    | 3 => tickNs
    | _ => x

/-- R511: a skew in 1/256 sample. -/
def Dev.capSkew (d : Dev) (tickNs i : Nat) : Int :=
  ((d.capSrcNs (d.capChan i) tickNs - tickNs + d.fldI (R.CAP_CH i) F.CAP_CH.SKEWTRIM) * 256) / d.capNs

/-- A new record. -/
def Dev.newCap (d : Dev) : CapRec :=
  { recNo := d.cap.recNo, pre := d.capPre, kper := d.fld R.CAP_CFG F.CAP_CFG.KPER, rawDiv := d.fld R.CAP_CFG F.CAP_CFG.RAWDIV,
    nFab := d.capNFab, nRaw := d.capNRaw, flags := if d.bit R.CAP_CFG F.CAP_CFG.CAL then 8 else 0 }

/-- R503, R506: a record begins: STREAM, PRETRIG, or, where no samples come before the trigger, WAIT. -/
def Dev.beginRecord (d : Dev) : Dev :=
  let d1 := (d.setCap { d.cap with
    cur := some d.newCap, recNo := d.cap.recNo + 1, force := false, autoDue := false, phase := 0, rawN := 0, bits := 0, waitClk := d.clk }).setFld R.CAP_STAT
      F.CAP_STAT.DEC 0
  let d2 := d1.setFld R.CAP_STAT F.CAP_STAT.GAP 0
  d2.setCapState (if d.capMode = 2 then 7 else if d.capPre = 0 then 2 else 1)

/-- R504: an accepted ARM. -/
def Dev.armCapture (d : Dev) : Dev :=
  ((d.setCap { gates := d.cap.gates, masks := d.cap.masks, latch := d.cap.latch }).setFld R.CAP_STAT F.CAP_STAT.RECDONE 0).beginRecord

/-! ### Trigger conditions (R505) -/

/-- The state of a condition: whether it may cross rising and falling, and whether it held at the last sample. -/
structure CondSt where
  rise : Bool
  fall : Bool
  held : Option Bool
  deriving DecidableEq, Repr

/-- R505: one sample of the source of an EDGE, WINDOW or BITS condition; the answer says whether it is met. -/
def condStep (kind pol : Nat) (l l2 : Word) (x : CondSt) (v : Int) : CondSt × Bool :=
  match kind with
  | 1 =>
    let hit := (x.rise && decide (l.toInt ≤ v) && pol != 1) || (x.fall && decide (v ≤ l.toInt) && pol != 0)
    let rise := if l.toInt ≤ v then false else x.rise || decide (v ≤ l.toInt - l2.toInt)
    let fall := if v ≤ l.toInt then false else x.fall || decide (l.toInt + l2.toInt ≤ v)
    ({ x with rise := rise, fall := fall }, hit)
  | 2 =>
    let now := decide (l.toInt ≤ v) && decide (v ≤ l2.toInt)
    let hit := match x.held with
      | some was => (pol != 1 && now && !was) || (pol != 0 && !now && was)
      | none => false
    ({ x with held := some now }, hit)
  | _ =>
    let now := (wI v &&& l) == l2
    ({ x with held := some now }, x.held == some false && now)

/-- The samples of a condition's source, until one meets it. -/
def condRun (kind pol : Nat) (l l2 : Word) : CondSt → List (Int × Nat) → CondSt × Option Nat
  | x, [] => (x, none)
  | x, (v, t) :: rest =>
    let y := condStep kind pol l l2 x v
    let z := condRun kind pol l l2 y.1 rest
    (z.1, if y.2 then some t else z.2)

/-- R505, R506: every condition in a period; those met, with their instants. -/
def Dev.capConds (d : Dev) (row : List Int) (raws : List (List Int)) (tickNs : Nat) : Dev × Tab Word :=
  let res := (List.range 32).foldl (fun (acc : CapSt × Tab Word) t =>
    let r := R.CAP_TRIG_CFG t
    let k := d.fld r F.CAP_TRIG_CFG.KIND
    if !d.bit r F.CAP_TRIG_CFG.EN || !d.capOpen t || k == 0 then acc
    else if 4 ≤ k then (match tget? d.cap.met t with
      | some w => (acc.1, tset acc.2 t w)
      | none => acc)
    else
      let src := d.fld r F.CAP_TRIG_CFG.SRC
      let xs := if d.bit r F.CAP_TRIG_CFG.RAW then ((raws.getD src []).zipIdx).map (fun e => (e.1, tickNs + e.2 * d.capRawNs))
        else match row[src]? with
          | some v => [(v, tickNs)]
          | none => []
      let x : CondSt := { rise := acc.1.armed.contains (2 * t), fall := acc.1.armed.contains (2 * t + 1), held := tget? acc.1.held t }
      let y := condRun k (d.fld r F.CAP_TRIG_CFG.POL) (d.reg (R.CAP_TRIG_LEVEL t)) (d.reg (R.CAP_TRIG_LEVEL2 t)) x xs
      let armed := (acc.1.armed.filter (fun n => n != 2 * t && n != 2 * t + 1)) ++ (if y.1.rise then [2 * t] else []) ++
        (if y.1.fall then [2 * t + 1] else [])
      ({ acc.1 with armed := armed, held := match y.1.held with | some b => tset acc.1.held t b | none => acc.1.held },
        match y.2 with | some n => tset acc.2 t (wN n) | none => acc.2)) (d.cap, [])
  let d1 := (d.setCap { res.1 with met := [], shut := [] }).each res.2 (fun d e => d.setReg (R.CAP_TRIG_STAMP e.1) e.2)
  (d1, res.2)

/-! ### Complete records (R509 to R512) -/

/-- R511: samples aligned to their own instants by linear interpolation: sample `j` was taken `s` / 256 spacings of `unit` after `at_[j]`, and a value
is due at each `at_[i]`. -/
def alignSamples (s unit : Int) (at_ : Array Int) (xs : Array Int) : List Int :=
  let w : Int := s.natAbs / 256 + 1
  let last : Int := (xs.size : Int) - 1
  let own (j : Int) : Int := 256 * at_.getD j.toNat 0 + s * unit
  let val (j : Int) : Int := xs.getD j.toNat 0
  (List.range xs.size).map (fun (i : Nat) =>
    let t := 256 * at_.getD i 0
    -- the last sample of its own instant at or before t, among those within the skew of sample i
    let before := ((List.range (2 * w.toNat + 1)).map (fun (n : Nat) => clampI 0 last ((i : Int) + w - n))).find? (fun j => decide (own j ≤ t))
    match before with
    | some j => if j = last then val j else val j + (val (j + 1) - val j) * (t - own j) / (own (j + 1) - own j)
    | none => val 0)

/-- Rows of samples as columns. -/
def columns (n : Nat) (rows : List (List Int)) : List (List Int) := (List.range n).map (fun i => rows.map (fun r => r.getD i 0))

/-- Columns of samples as rows. -/
def rowsOf (n : Nat) (cols : List (List Int)) : List (List Int) :=
  let arrs := cols.map List.toArray
  (List.range n).map (fun k => arrs.map (fun a => a.getD k 0))

/-- The mean of samples, truncated. -/
def meanOf (xs : List Int) : Int := if xs.length = 0 then 0 else (xs.foldl (· + ·) 0).tdiv xs.length

/-- R510: the instants of the rising crossings of `sum` / 2 with a hysteresis of `ampl` / 16. -/
def crossings (sum ampl : Int) : Bool → List (Int × Nat) → List Nat
  | _, [] => []
  | low, (v, t) :: rest =>
    if low && decide (8 * sum + ampl ≤ 16 * v) then t :: crossings sum ampl false rest
    else crossings sum ampl (low || (decide (16 * v + ampl ≤ 8 * sum) && decide (16 * v < 8 * sum))) rest

/-- The instant of the first sample after which every sample lies within a band; none where the last lies outside. -/
def settleAt (lo hi : Int) : List (Int × Nat) → Option Nat
  | [] => none
  | (v, t) :: rest =>
    match settleAt lo hi rest with
    | some s => some (if decide (lo ≤ v) && decide (v ≤ hi) && (match rest with | (_, t1) :: _ => s == t1 | [] => true) then t else s)
    | none => if rest.isEmpty && decide (lo ≤ v) && decide (v ≤ hi) then some t else none

/-- R510: PERIOD, AMPL, OVER, STATUS and SETTLE of a channel. -/
def measure (xs : List Int) (times : List Nat) (pre stol : Nat) (trig : Int) : Nat × Nat × Nat × Nat × Nat :=
  let hi := xs.foldl max (xs.headD 0)
  let lo := xs.foldl min (xs.headD 0)
  let ampl := hi - lo
  let ts := xs.zip times
  let cr := crossings (hi + lo) ampl false ts
  let period := if cr.length < 2 then 0 else (cr.getLastD 0 - cr.headD 0) / (cr.length - 1)
  let initial := if pre = 0 then xs.headD 0 else meanOf (xs.take pre)
  let final := meanOf (xs.drop (xs.length - max 1 (xs.length / 8)))
  let step := final - initial
  let noStep := decide (step.natAbs < 2097152)
  let beyond := if 0 ≤ step then hi - final else final - lo
  let ovr := if noStep then 0 else min 65535 (max 0 beyond * 1000 / step.natAbs).toNat
  let band := (stol * step.natAbs : Int) / 1000
  let set := if noStep then some 0 else (settleAt (final - band) (final + band) ts).map (fun t => (max 0 ((t : Int) - trig)).toNat)
  (period, ampl.toNat, ovr, (if cr.length < 2 then 1 else 0) + (if set.isNone then 2 else 0) + (if noStep then 4 else 0), set.getD 0xFFFFFFFF)

/-- R509: the first sample of a channel that violates a mask. -/
def maskFail (mask : List Int × List Int) (xs : List Int) : Option Nat :=
  let u := mask.1.toArray
  let l := mask.2.toArray
  ((xs.zipIdx).find? (fun e =>
    let k := e.2 * 1024 / xs.length
    decide (u.getD k 0 < e.1) || decide (e.1 < l.getD k 0))).map (·.2)

/-- R509 to R511: a record as it is kept: aligned, tested and measured. -/
def Dev.closeCap (d : Dev) (r : CapRec) (trunc : Bool) : CapRec :=
  let cal := bitAt r.flags 3
  let times := r.times.reverse
  let cols := ((columns r.nFab r.fab.reverse).zip (r.skew ++ List.replicate 128 0)).map (fun e =>
    if cal then alignSamples e.2 (periodNs r.kper) (times.map Int.ofNat).toArray e.1.toArray else e.1)
  -- the instants of the raw samples in raw periods: they keep the spacing of their fabric samples (R508)
  let rawAt := (((r.raw.reverse.zipIdx).map (fun c => ((c.1.headD []).map (fun _ =>
    (2 ^ ((r.dec.find? (fun e => decide (e.1 ≤ c.2))).map (·.2)).getD 0 : Int))))).flatten.foldl (fun (acc : Array Int × Int) n =>
      (acc.1.push acc.2, acc.2 + n)) (#[], 0)).1
  let rawCols := (List.range r.nRaw).map (fun j =>
    let xs := (r.raw.reverse.map (fun c => c.getD j [])).flatten
    let k := d.fld (R.CAP_RAW j) F.CAP_RAW.KIND
    if cal && (k == 4 || k == 5) then alignSamples (-384) 1 rawAt xs.toArray else xs)
  let t0 := times.headD 0
  let fails := ((List.range r.nFab).filterMap (fun i =>
    if d.bit (R.CAP_CH i) F.CAP_CH.MASKEN then
      match tget? d.cap.masks (d.fld (R.CAP_CH i) F.CAP_CH.MSLOT) with
      | some m => (maskFail m (cols.getD i [])).map (fun k => (i, k))
      | none => none
    else none))
  let first := fails.foldl (fun (acc : Option (Nat × Nat)) e => match acc with
    | some a => if e.2 < a.2 then some e else acc
    | none => some e) none
  let trigNs : Int := t0 + tsDiff r.tTrig (wN t0)
  let mea := (List.range r.nFab).map (fun i =>
    if d.bit (R.CAP_CH i) F.CAP_CH.MEAS && !d.bit (R.CAP_CH i) F.CAP_CH.MASKEN then
      measure (cols.getD i []) times r.pre (d.fld R.CAP_STOL F.CAP_STOL.V) trigNs
    else (0, 0, 0, 0, 0))
  { r with times := times, fab := rowsOf times.length cols, raw := [rawCols], mea := mea, dec := r.dec.reverse,
           flags := r.flags + (if trunc then 16 else 0) + (if first.isSome then 4 else 0),
           mFailCh := (first.map (·.1)).getD 255, mFailIx := (first.map (·.2)).getD 0 }

/-- The unread records of a STREAM. -/
def Dev.capUnread (d : Dev) : Nat := (d.cap.recs.filter (fun r => !d.cap.read.contains r.recNo)).length

/-- R503, R508: a complete record is kept; in STREAM, where the ring is full, it takes the place of the oldest that has been read. -/
def Dev.keepRecord (d : Dev) (r : CapRec) : Dev :=
  let recs := if d.capMode = 2 && decide (d.capFit ≤ d.cap.recs.length + 1) then d.cap.recs.eraseP (fun x => d.cap.read.contains x.recNo)
    else d.cap.recs
  ((d.setCap { d.cap with recs := recs ++ [r], cur := none }).setFld R.CAP_STAT F.CAP_STAT.RECDONE
    (min 65535 (d.fld R.CAP_STAT F.CAP_STAT.RECDONE + 1))).setReg R.CAP_TRIGMAP (wN r.trigMap)

/-- R503, R509: the record in hand is complete. -/
def Dev.finishRecord (d : Dev) (r0 : CapRec) : Dev :=
  let r := d.closeCap r0 false
  let d1 := d.keepRecord r
  if r.mFailCh != 255 then (d1.setCapState 5).evObj 0xE005 3 r.mFailCh [wN r.mFailIx]
  else match d.capMode with
    | 2 => d1.beginRecord
    | 1 =>
      if d.fld R.CAP_NREC F.CAP_NREC.V ≤ d1.cap.recs.length then (d1.setCapState 4).ev 0xE002 1
      else d1.beginRecord
    | _ => (d1.setCapState 4).ev 0xE002 1

/-- R513, R519: a capture in progress is closed with TRUNC. -/
def Dev.stopCapture (d : Dev) : Dev :=
  if !d.capRuns then d
  else
    let d1 := match d.cap.cur with
      | some r => if r.fab.isEmpty && r.raw.isEmpty then d.setCap { d.cap with cur := none } else d.keepRecord (d.closeCap r true)
      | none => d
    d1.setCapState 6

/-! ### Samples (R501, R508) -/

/-- R508: the record's rate is halved from this sample on. -/
def Dev.halve (d : Dev) (r : CapRec) : Dev × CapRec :=
  let n := r.dec.length + 1
  if 15 < n then (d, r)
  else (((((d.setCap { d.cap with phase := 0, rawN := 0 }).inc R.CAP_CNT_HALF).setFld R.CAP_STAT F.CAP_STAT.DEC n).ev 0xE003 3 [wN n]),
    { r with dec := (r.fab.length, n) :: r.dec })

/-- The oldest samples of a record beyond the newest `n` are given up. -/
def CapRec.trim (r : CapRec) (n : Nat) : CapRec :=
  let k := r.fab.length - n
  if k = 0 then r
  else { r with fab := r.fab.take n, times := r.times.take n, raw := r.raw.take n, dec := r.dec.map (fun e => (e.1 - k, e.2)) }

/-- R502, R508: the raw samples of a period, thinned by the decimation, go with the newest fabric sample. -/
def CapRec.addRaw (r : CapRec) (raws : List (List Int)) (from_ : Nat) (fresh : Bool) : CapRec :=
  let step := 2 ^ r.dec.length
  let chunk := (List.range r.nRaw).map (fun j =>
    ((raws.getD j []).zipIdx).filterMap (fun e => if (from_ + e.2) % step = 0 then some e.1 else none))
  match fresh, r.raw with
  | false, c :: rest => { r with raw := ((List.range r.nRaw).map (fun j => c.getD j [] ++ chunk.getD j [])) :: rest }
  | _, l => { r with raw := chunk :: l }

/-- R508: a sample that cannot be stored. -/
def Dev.capDrop (d : Dev) (r : CapRec) : Dev × CapRec :=
  let d1 := (d.inc R.CAP_CNT_DROP).setFld R.CAP_STAT F.CAP_STAT.GAP 1
  if bitAt r.flags 1 then (d1, r) else (d1.ev 0xE004 3, { r with flags := r.flags + 2 })

/-- R507: the record is triggered. -/
def Dev.triggerCap (d : Dev) (r : CapRec) (met : Tab Word) (tickNs : Nat) : Dev × CapRec :=
  let map := met.foldl (fun n e => setBit n e.1) 0
  let r1 := r.trim r.pre
  let r2 := match met with
    | (t, w) :: _ => { r1 with trigMap := map, primary := t, tTrig := w }
    | [] => { r1 with flags := r1.flags + 1, tTrig := wN tickNs }
  ((((d.setCap { d.cap with force := false, autoDue := false }).setCapState 3).setReg R.CAP_TRIGMAP (wN map)).ev 0xE001 1 [wN map], r2)

/-- R502: the results of Sward's own sinc3 filter in Q15 for the modulator bits of a period, of which `n` came before since the record began;
`hist` are the bits before them. -/
def swardSinc (osr n : Nat) (hist bits : List Bool) : List Int :=
  ((List.range bits.length).filter (fun i => (n + i + 1) % osr == 0)).map (fun i =>
    sincResult osr (sincSum osr (hist ++ bits.take (i + 1))) / 65536)

/-- R502: the samples of a raw channel from what its source showed in the period: the lines that KIND names, or for KIND 4 and 5 the
modulator bits. -/
def Dev.capRaw (d : Dev) (j : Nat) (raw : List Int) : List Int :=
  let r := R.CAP_RAW j
  let src := d.fld r F.CAP_RAW.SRC
  let sinc (key : Nat) : List Int :=
    swardSinc (2 ^ (d.fld R.CAP_CFG F.CAP_CFG.RAWDIV + 1)) d.cap.bits (tget d.pwm.bits key []) (raw.map (fun v => v % 2 == 1))
  match d.fld r F.CAP_RAW.KIND with
  | 0 | 1 => raw.map (fun v => v % 8)
  | 2 => raw.map (fun v => v % 16)
  | 3 => raw.map (fun v => v % 2)
  | 4 => sinc (13 * (src / 12) + src % 12)
  | _ => sinc (13 * src + 12)

/-- R33, R501: the value of a captured channel for the sample period. -/
def Dev.capValue (d : Dev) (c : Nat) : Int := (tget d.cap.latch c (d.chanSt c).val).toInt

/-- R501 to R508: the sample of a period of KPER, once in the period; `raws0` is what the raw channels' sources showed in it, `fill` how full
the staging buffer is in percent, `lost` that this sample does not fit in it. -/
def Dev.captureSample (d : Dev) (raws0 : List (List Int)) (fill : Nat) (lost : Bool) : Dev :=
  let n := d.time.tick / 2 ^ d.fld R.CAP_CFG F.CAP_CFG.KPER * 2 ^ d.fld R.CAP_CFG F.CAP_CFG.KPER
  if !d.capRuns || d.cap.tick == some n then d
  else
    match d.cap.cur with
    | none => d
    | some r0 =>
      let tickNs := n * 31250
      let row := (List.range r0.nFab).map (fun i => d.capValue (d.capChan i))
      let raws := (List.range r0.nRaw).map (fun j => d.capRaw j (raws0.getD j []))
      let nBits := ((List.range r0.nRaw).map (fun j => if 4 ≤ d.fld (R.CAP_RAW j) F.CAP_RAW.KIND then (raws0.getD j []).length else 0)).foldl max 0
      let c := (d.setCap { d.cap with tick := some n }).capConds row raws tickNs
      let d1 := c.1
      let met := c.2
      let r1 := if r0.skew.isEmpty then { r0 with
          skew := (List.range r0.nFab).map (fun i => d.capSkew tickNs i) ++ (List.range r0.nRaw).map (fun j =>
            let k := d.fld (R.CAP_RAW j) F.CAP_RAW.KIND
            if k == 4 || k == 5 then -384 else 0) } else r0
      let full := d.capMode = 2 && decide (3 * d.capFit < 4 * d.capUnread)
      let h := if decide (75 < fill) || full then d1.halve r1 else (d1, r1)
      let st := d.capState
      let stream := st == 7
      let t := if st == 2 && (!met.isEmpty || d.cap.force || d.cap.autoDue) then h.1.triggerCap h.2 met tickNs
        else if stream then (h.1, { h.2 with trigMap := met.foldl (fun m e => setBit m e.1) h.2.trigMap })
        else (h.1, h.2)
      let keep := t.1.cap.phase % 2 ^ t.2.dec.length = 0
      let noRoom := lost || (stream && decide (d.capFit ≤ d.capUnread + 1))
      let a := if keep && noRoom then t.1.capDrop t.2 else (t.1, t.2)
      let stored := keep && !noRoom
      let r2 := if stored then { a.2 with fab := row :: a.2.fab, times := tickNs :: a.2.times } else a.2
      let r3 := if noRoom then r2 else r2.addRaw raws a.1.cap.rawN stored
      let d2 := a.1.setCap { a.1.cap with phase := a.1.cap.phase + 1, rawN := a.1.cap.rawN + (raws.headD []).length, bits := a.1.cap.bits + nBits }
      let now := d2.capState
      if now == 1 then
        let d3 := d2.setCap { d2.cap with cur := some r3 }
        if r3.pre ≤ r3.fab.length then (d3.setCap { d3.cap with waitClk := d.clk }).setCapState 2 else d3
      else if now == 2 then d2.setCap { d2.cap with cur := some (r3.trim r3.pre) }
      else if d.capLen ≤ r3.fab.length then d2.finishRecord r3
      else d2.setCap { d2.cap with cur := some r3 }

/-- R506: AUTOTO ms after the record holds PRE samples. -/
def Dev.autoTrigger (d : Dev) : Dev :=
  let n := d.fld R.CAP_AUTO F.CAP_AUTO.AUTOTO
  if d.capState == 2 && n != 0 && d.since d.cap.waitClk (clksOfMs n) then d.setCap { d.cap with autoDue := true } else d

/-! ### Register writes -/

/-- R504: the configuration registers change only where no capture runs. -/
def Dev.capIdle (d : Dev) : List Status := [need (let st := d.capState; st == 0 || st == 4 || st == 6) .conflict]

/-- R504, R513, R514: a write of CAP_CTL. -/
def Dev.capCtl (d : Dev) (w : Word) : Dev × Status :=
  let arm := getF w F.CAP_CTL.ARM == 1
  let clr := getF w F.CAP_CTL.CLR == 1
  let stop := getF w F.CAP_CTL.STOP == 1
  let force := getF w F.CAP_CTL.FORCE == 1
  let st := d.capState
  if arm then
    let s := lowest d.armCaptureChecks
    if s = .ok then
      let d1 := d.armCapture
      let d2 := if force && d1.capState != 7 then d1.setCap { d1.cap with force := true } else d1
      (if stop then d2.stopCapture else d2, if clr then .conflict else .ok)
    else (d, lowest (s :: if clr then [.conflict] else []))
  else if clr && [1, 2, 3, 7].contains st then (d, .conflict)
  else
    let d1 := if clr then ((d.setCap { gates := d.cap.gates, masks := d.cap.masks, latch := d.cap.latch }).setCapState 0).setFld R.CAP_STAT F.CAP_STAT.RECDONE 0 else d
    let d2 := if force && (st == 1 || st == 2) then d1.setCap { d1.cap with force := true } else d1
    (if stop then d2.stopCapture else d2, .ok)

/-! ### The bulk window (R509, R512) -/

/-- R509: a mask slot is loaded: 1,024 upper values, then 1,024 lower values. -/
def Dev.loadMask (d : Dev) (k : Nat) (b : List Byte) : Dev :=
  let u := (List.range 1024).map (fun i => sAt b (4 * i) 4)
  let l := (List.range 1024).map (fun i => sAt b (4096 + 4 * i) 4)
  d.setCap { d.cap with masks := tset d.cap.masks k (u, l) }

/-- R512: the record that can be read under a number. -/
def Dev.readable (d : Dev) (n : Nat) : Option CapRec :=
  let st := d.capState
  if st == 4 || st == 5 || st == 6 || d.capMode == 2 then d.cap.recs.find? (fun r => r.recNo == n) else none

/-- R512: a record's bytes. -/
def CapRec.bytes (r : CapRec) : List Byte :=
  let len := r.fab.length
  let raws := r.raw.headD []
  let rawLen := (raws.headD []).length
  let t0 := r.times.headD 0
  let head := le 4 0x53575244 ++ le 4 r.recNo ++ le 4 r.trigMap ++ le 1 r.primary ++ le 1 r.flags ++ le 1 r.nFab ++ le 1 r.nRaw ++ le 8 t0 ++
    le 4 r.tTrig.toNat ++ le 4 len ++ le 4 r.pre ++ le 4 rawLen ++ le 1 r.kper ++ le 1 r.rawDiv ++ le 1 r.dec.length ++ le 1 r.mFailCh ++
    le 4 r.mFailIx ++ List.replicate 16 0
  let decs := ((r.dec.map (fun (e : Nat × Nat) => le 4 (e.1 * 256 + e.2))).flatten ++ List.replicate 64 0).take 64
  head ++ decs ++ padTo 64 ((r.skew.map (fun s => le 2 (modN 16 s))).flatten) ++
    padTo 64 ((r.mea.map (fun m => le 4 m.1 ++ le 4 m.2.1 ++ le 2 m.2.2.1 ++ le 2 m.2.2.2.1 ++ le 4 m.2.2.2.2)).flatten) ++
    padTo 64 ((r.fab.map (fun row => (row.map (fun v => le 4 (modN 32 v))).flatten)).flatten) ++
    padTo 64 (((rowsOf rawLen raws).map (fun row => (row.map (fun v => le 2 (modN 16 v))).flatten)).flatten)

/-! ### Resets, power states and activation (R519) -/

/-- R519: a capture in progress ends with TRUNC and CAP_ABORTED, whose cause is that of P3 (1) or of an activation (2). -/
def Dev.abortCapture (d : Dev) (why : Nat) : Dev :=
  if d.capRuns then d.stopCapture.ev 0xE006 3 [Config.capAbortCause why] else d

/-- R519: an activation discards the records. -/
def Dev.capActivate (d : Dev) : Dev :=
  let d1 := d.abortCapture 2
  d1.setCap { d1.cap with recs := [], cur := none, latch := [] }

/-! ### Commands -/

/-- CAPTURE_SAMPLE (R501). -/
def execCaptureSample (raws : List (List Int)) (fill : Nat) (lost : Bool) (s : State) : Host.Outcome State Fault Refusal :=
  s.run (fun d => d.captureSample raws fill lost)

/-- AUTO_TRIGGER (R506). -/
def execAutoTrigger (s : State) : Host.Outcome State Fault Refusal := s.run (fun d => d.autoTrigger)

end Sys2Proof.Machine
end

