-- ==== Sys2Proof/Machine/Dio.lean ====
section
/-! DEFINITION. Field inputs and outputs (spec/14_field_io.md): samples, filters, readback, thermal shutdown, test pulses, field supply and
the field-side watchdog. -/

namespace Sys2Proof.Machine

open Sys2Proof

/-- R460, R468, R470: QUAL of an input. -/
def Dev.dioQual (d : Dev) (k : Nat) : Bool :=
  let st := R.DIO_BANK_STAT (k / 16)
  !d.bit st F.DIO_BANK_STAT.FIELDLOW && !d.bit st F.DIO_BANK_STAT.BANKOFF && d.fld R.PWR_STAT F.PWR_STAT.STATE != 4 &&
    decide (d.fld (R.DIO_CH_CFG k) F.DIO_CH_CFG.FILT + 1 ≤ (d.dioCh k).qualN)

/-- The filtered state of an input. -/
def Dev.dioIn (d : Dev) (k : Nat) : Bool := bitAt (d.reg (R.DIO_IN (k / 16))).toNat (k % 16)

/-- R459: one sample of an input. -/
def Dev.dioInput (d : Dev) (k : Nat) (contact : Bool) (stamp : Nat) : Dev :=
  if d.dioDir k != 0 then d
  else
    let cfg := R.DIO_CH_CFG k
    let filt := d.fld cfg F.DIO_CH_CFG.FILT
    let s := contact != d.bit cfg F.DIO_CH_CFG.INV
    let x := d.dioCh k
    let c := if s then min (x.c + 1) filt else x.c - 1
    let was := d.dioIn k
    let now := if filt = 0 then s else if c = filt then true else if c = 0 then false else was
    let r := R.DIO_IN (k / 16)
    let w := (d.reg r).toNat
    let d1 := (d.setDioCh k { x with c := c, qualN := x.qualN + 1 }).setReg r
      (wN (if now then setBit w (k % 16) else clrBit w (k % 16)))
    let cs := R.DIO_CAP_STAT k
    let d2 := if now == was then d1
      else if x.captured then d1.setFld cs F.DIO_CAP_STAT.OVR 1
      else ((d1.setDioCh k { d1.dioCh k with captured := true }).setReg (R.DIO_CAP_TIME k) (wN stamp)).setFld cs F.DIO_CAP_STAT.STATE
        (if now then 1 else 0)
    -- R610: a change of an input whose bit is set in PWR_WAKEIO wakes the unit
    let wake := now != was && bitAt (d.reg (R.PWR_WAKEIO (k / 32))).toNat (k % 32) && decide (d.fld R.PWR_STAT F.PWR_STAT.STATE ≤ 3)
    let d2 := if wake then d2.setFld R.PWR_STAT F.PWR_STAT.WOKE 1 else d2
    d2.feed 6 k (wN ((if now then 1 else 0) + (if d2.dioQual k then 2 else 0)))

/-- R466: the series disconnect of a bank opens. -/
def Dev.dioDisconnect (d : Dev) (b : Nat) : Dev :=
  let st := R.DIO_BANK_STAT b
  if d.bit st F.DIO_BANK_STAT.DISC then d
  else ((d.setFld st F.DIO_BANK_STAT.DISC 1).evAt 0xC008 6 b none).dioDriveBank b

/-- R463, R465: FHIGH of an output; on a safety output the safety processor opens the disconnect (R466). -/
def Dev.dioForcedHigh (d : Dev) (k : Nat) : Dev :=
  let b := k / 16
  let r := R.DIO_FLT_A b
  let was := bitAt (d.fld r F.DIO_FLT_A.FHIGH) (k % 16)
  let d1 := d.setW1c r F.DIO_FLT_A.FHIGH (2 ^ (k % 16))
  let d2 := if was then d1 else d1.evAt 0xC004 (if d.dioSafety k then 6 else 5) b (some k)
  if d.dioSafety k then d2.dioDisconnect b else d2

/-- R463: the readback of an output against its command. -/
def Dev.dioReadback (d : Dev) (k : Nat) (high : Bool) : Dev :=
  if d.dioDir k != 1 then d
  else
    let x := d.dioCh k
    let n := if high && !d.dioCmd k && decide (x.cmdNs + 500000 ≤ d.ns) then x.highRun + 1 else 0
    let d1 := d.setDioCh k { x with highRun := n }
    if 3 ≤ n then d1.dioForcedHigh k else d1

/-- R466: a cross fault on a channel keeps the input pair it belongs to in demand until an acknowledgement. -/
def Dev.dioCrossPair (d : Dev) (k : Nat) : Dev :=
  if k % 16 < 8 then
    let p := 4 * (k / 16) + k % 16 / 2
    { d with safe := { d.safe with pairs := tset d.safe.pairs p { tget d.safe.pairs p {} with owes := true } } }
  else d

/-- R465: the results of the dark test pulse, once the sample after it is in: the pulsed output must read low at +150 µs and +250 µs,
and another channel that reads low there and high before and after shows a cross fault. -/
def Dev.dioJudgePulse (d : Dev) (k : Nat) : Dev :=
  let rbAt (j n : Nat) : Bool := bitAt (((d.dioBank (j / 16)).rb[n]?).getD 0) (j % 16)
  let d1 := if !rbAt k 1 && !rbAt k 2 then d else d.dioForcedHigh k
  d1.each (List.range 64) (fun d j =>
    if j != k && d.dioDir j != 2 && rbAt j 0 && !rbAt j 1 && !rbAt j 2 && rbAt j 4 then
      let mark (d : Dev) (c : Nat) : Dev :=
        (d.setW1c (R.DIO_FLT_B (c / 16)) F.DIO_FLT_B.CROSS (2 ^ (c % 16))).dioCrossPair c
      let e := ((mark (mark d k) j).evAt 0xC006 6 (k / 16) (some k) [wN k, wN j]).dioDisconnect (k / 16)
      if d.dioSafety j then e.dioDisconnect (j / 16) else e
    else d)

/-- R467, R468: L+ of a bank at a sample, in 0.1 V. -/
def Dev.dioSupply (d : Dev) (b lplus : Nat) : Dev :=
  let st := R.DIO_BANK_STAT b
  let x := d.dioBank b
  let low := if lplus < 192 then x.low + 1 else 0
  let ok := if 192 ≤ lplus then x.ok + 1 else 0
  let re := if 204 ≤ lplus then x.rearm + 1 else 0
  let d1 := ((d.setDioBank b { x with low := low, ok := ok, rearm := re }).setFld st F.DIO_BANK_STAT.LPLUS (min lplus 511)).setFld st
    F.DIO_BANK_STAT.REARMOK (if 1000 ≤ re then 1 else 0)
  if 20 ≤ low && !d.bit st F.DIO_BANK_STAT.FIELDLOW then (d1.setFld st F.DIO_BANK_STAT.FIELDLOW 1).evAt 0xC001 3 b none
  else if 200 ≤ ok then d1.setFld st F.DIO_BANK_STAT.FIELDLOW 0
  else d1

/-- R469: whether the logic side sends refreshes: an image is active. -/
def Dev.dioRefreshing (d : Dev) : Bool := d.loader.image.isSome

/-- R469: a refresh reaches the field side of a bank: SAFE and WDT are written, and an expiry is reported. -/
def Dev.dioRefresh (d : Dev) (b : Nat) : Dev :=
  if !d.dioRefreshing then d
  else
    let x := d.dioBank b
    let d1 := d.setDioBank b { x with refresh := some d.clk, wdt := d.fld (R.DIO_BANK_CFG b) F.DIO_BANK_CFG.WDT, report := false, holding := false }
    let d2 := d1.each (List.range 16) (fun d i =>
      let k := 16 * b + i
      d.setDioCh k { d.dioCh k with safe := d.fld (R.DIO_CH_CFG k) F.DIO_CH_CFG.SAFE, fout := d.dioDir k == 1 && !d.dioSafety k })
    let d3 := if x.holding then d2.dioDriveBank b else d2
    if x.report then d3.evAt 0xC007 5 b none else d3

/-- R459, R463, R467: a field sample: contacts, readback and current limit by channel (bit masks of 64), and L+ of each bank. Once
in each 100 µs of TIME_NS; not in P4 (R470). -/
def Dev.fieldSample (d : Dev) (contacts rb limit : Nat) (lplus : List Nat) : Dev :=
  let n := d.ns / 100000
  if d.dio.sample == some n || d.fld R.PWR_STAT F.PWR_STAT.STATE == 4 then d
  else
    let d0 : Dev := { d with dio := { d.dio with sample := some n } }
    let d1 := d0.each [0, 1, 2, 3] (fun d b =>
      let x := d.dioBank b
      let w := (rb / 2 ^ (16 * b)) % 65536
      (((d.setDioBank b { x with rb := (w :: x.rb).take 6 }).setReg (R.DIO_RB b) (wN w)).setFld (R.DIO_FLT_B b) F.DIO_FLT_B.LIMIT
        ((limit / 2 ^ (16 * b)) % 65536)).dioSupply b (lplus.getD b 0))
    -- the dark test pulse ends 300 µs after its start, before the sample at +350 µs
    let d2 := match d1.dio.pulse with
      | some (k, t) =>
        if t + 300000 ≤ d.ns then (({ d1 with dio := { d1.dio with pulse := none } } : Dev).dioDrive k).dioJudgePulse k else d1
      | none => d1
    let d3 := d2.each (List.range 64) (fun d k => (d.dioInput k (bitAt contacts k) (n * 100000)).dioReadback k (bitAt rb k))
    d3.each [0, 1, 2, 3] (fun d b => d.dioRefresh b)

/-- R468: L+ of a bank below 16 V. -/
def Dev.bankOff (d : Dev) (b : Nat) : Dev :=
  let st := R.DIO_BANK_STAT b
  if d.bit st F.DIO_BANK_STAT.BANKOFF then d
  else
    let out := (d.reg (R.DIO_OUT b)).toNat
    let d1 := ((d.setFld st F.DIO_BANK_STAT.BANKOFF 1).setFld st F.DIO_BANK_STAT.REARMOK 0).setReg (R.DIO_OUT b) 0
    let d2 := d1.setDioBank b { d1.dioBank b with rearm := 0 }
    let d3 := d2.each (List.range 16) (fun d i => d.setDioCh (16 * b + i) { d.dioCh (16 * b + i) with
      pulseEnd := none, cmdNs := if bitAt out i then d.ns else (d.dioCh (16 * b + i)).cmdNs })
    (d3.evAt 0xC002 5 b none).dioDriveBank b

/-- The inputs of a bank begin to qualify anew (R460). -/
def Dev.dioRequal (d : Dev) (b : Nat) : Dev :=
  d.each (List.range 16) (fun d i => d.setDioCh (16 * b + i) { d.dioCh (16 * b + i) with qualN := 0 })

/-- R468, R469: the checks of a write of DIO_BANK_CTL. -/
def Dev.dioCtlCheck (d : Dev) (b : Nat) (w : Word) : List Status :=
  let fresh := match (d.dioBank b).refresh with
    | some c => d.dioRefreshing && decide (d.clk ≤ c + clksOfNs 200000)
    | none => false
  [need (getF w F.DIO_BANK_CTL.REARM == 0 || d.bit (R.DIO_BANK_STAT b) F.DIO_BANK_STAT.REARMOK) .notReady,
   need (getF w F.DIO_BANK_CTL.WDRESUME == 0 || fresh) .notReady]

/-- R468, R469: REARM and WDRESUME. -/
def Dev.dioCtlDo (d : Dev) (b : Nat) (w : Word) : Dev :=
  let st := R.DIO_BANK_STAT b
  let d1 := if getF w F.DIO_BANK_CTL.REARM == 1 && d.bit st F.DIO_BANK_STAT.BANKOFF then
      ((d.setFld st F.DIO_BANK_STAT.BANKOFF 0).dioRequal b).evAt 0xC003 2 b none
    else d
  let d2 := if getF w F.DIO_BANK_CTL.WDRESUME == 1 && d1.bit st F.DIO_BANK_STAT.WDEXP then
      (d1.setFld st F.DIO_BANK_STAT.WDEXP 0).dioRequal b
    else d1
  d2.dioDriveBank b

/-- R469: the outputs of a bank go to SAFE. -/
def Dev.dioToSafe (d : Dev) (b : Nat) : Dev :=
  let d1 := d.each (List.range 16) (fun d i =>
    let k := 16 * b + i
    d.setDioCh k { d.dioCh k with held := d.dioCmd k })
  (d1.setFld (R.DIO_BANK_STAT b) F.DIO_BANK_STAT.WDEXP 1).dioDriveBank b

/-- R469: no refresh for WDT ms. -/
def Dev.fieldWdExpiry (d : Dev) (b : Nat) : Dev :=
  let x := d.dioBank b
  match x.refresh with
  | some c =>
    if !d.since c (clksOfMs x.wdt) then d
    else if x.holding then (d.setDioBank b { x with report := true, holding := false }).dioDriveBank b
    else if !d.bit (R.DIO_BANK_STAT b) F.DIO_BANK_STAT.WDEXP then (d.setDioBank b { x with report := true }).dioToSafe b
    else d
  | none => d

/-- R464: a thermal shutdown of an output. -/
def Dev.thermalOff (d : Dev) (k : Nat) : Dev :=
  if d.dioDir k != 1 || !(d.dioCh k).level then d
  else
    let x := d.dioCh k
    let clks := (d.clk :: x.thermClks).take 8
    let many := decide (8 ≤ clks.length) && decide (d.clk ≤ (clks.getLastD 0) + fabHz)
    let r := R.DIO_FLT_A (k / 16)
    (((d.setDioCh k { x with hot := true, latched := x.latched || many, thermClks := clks }).setW1c r F.DIO_FLT_A.THERM
      (2 ^ (k % 16))).evAt 0xC005 4 (k / 16) (some k)).dioDrive k

/-- R464: an output has cooled; it restarts unless eight shutdowns in 1 s hold it off. -/
def Dev.thermalCool (d : Dev) (k : Nat) : Dev := (d.setDioCh k { d.dioCh k with hot := false }).dioDrive k

/-- R464: CLRTHERM, by the channels that the word names; it has no effect on a channel that is still too hot. -/
def Dev.dioClrTherm (d : Dev) (b : Nat) (w : Word) : Dev :=
  d.each (List.range 16) (fun d i =>
    let k := 16 * b + i
    if bitAt w.toNat i && !(d.dioCh k).hot then (d.setDioCh k { d.dioCh k with latched := false, thermClks := [] }).dioDrive k else d)

/-- R465: a dark test pulse begins on an energised safety output, 50 µs after a sample instant, once every TPPER, and never
beside another. -/
def Dev.testPulse (d : Dev) (k : Nat) : Dev :=
  let x := d.dioCh k
  let per := d.fld (R.DIO_BANK_CFG (k / 16)) F.DIO_BANK_CFG.TPPER * 1000000
  if d.dioSafety k && x.level && d.dio.pulse.isNone && decide (50000 ≤ d.ns % 100000) && decide (x.lastPulse + per ≤ d.ns || x.lastPulse = 0) then
    let t := d.ns / 100000 * 100000 + 50000
    let d1 := d.setDioCh k { x with lastPulse := t }
    ({ d1 with dio := { d1.dio with pulse := some (k, t) } } : Dev).dioDrive k
  else d

/-- R457, R462, R468: the checks of host commands: `set` and `clr` are the channels of bank `b` that the write switches. -/
def Dev.dioOutCheck (d : Dev) (b set clr : Nat) : List Status :=
  let touch (i : Nat) : Bool := bitAt set i || bitAt clr i
  let outs := (List.range 16).filter (fun i => d.dioDir (16 * b + i) == 1 && touch i)
  let fab (i : Nat) : Bool := d.fld (R.DIO_CH_CFG (16 * b + i)) F.DIO_CH_CFG.SRC == 1
  [need (!(outs.any (fun i => fab i && d.dioCmd (16 * b + i) != bitAt set i))) .denied,
   need (outs.all fab || !d.bit (R.DIO_BANK_STAT b) F.DIO_BANK_STAT.BANKOFF) .notReady]

/-- R462: host commands of HOST-sourced outputs. -/
def Dev.dioOutDo (d : Dev) (b set clr : Nat) : Dev :=
  let host (d : Dev) (i : Nat) : Bool := d.dioDir (16 * b + i) == 1 && d.fld (R.DIO_CH_CFG (16 * b + i)) F.DIO_CH_CFG.SRC == 0
  let d1 := d.each (List.range 16) (fun d i => if bitAt clr i && host d i then d.dioCommand (16 * b + i) false else d)
  d1.each (List.range 16) (fun d i => if bitAt set i && host d i then d.dioCommand (16 * b + i) true else d)

/-- R466, R11: faults that the host clears come back if their cause still holds. -/
def Dev.dioFltAgain (d : Dev) (b : Nat) : Dev :=
  d.each (List.range 16) (fun d i =>
    let k := 16 * b + i
    let x := d.dioCh k
    let r := R.DIO_FLT_A b
    let d1 := if x.hot then d.setFld r F.DIO_FLT_A.THERM (setBit (d.fld r F.DIO_FLT_A.THERM) i) else d
    if 3 ≤ x.highRun then d1.setFld r F.DIO_FLT_A.FHIGH (setBit (d1.fld r F.DIO_FLT_A.FHIGH) i) else d1)

/-- R466: at an acknowledgement with the safety processor in RUN the disconnect of a bank closes, once its FHIGH and CROSS are cleared. -/
def Dev.dioReclose (d : Dev) (b : Nat) : Dev :=
  if d.bit (R.DIO_BANK_STAT b) F.DIO_BANK_STAT.DISC && d.fld (R.DIO_FLT_A b) F.DIO_FLT_A.FHIGH == 0 &&
      d.fld (R.DIO_FLT_B b) F.DIO_FLT_B.CROSS == 0 then
    (d.setFld (R.DIO_BANK_STAT b) F.DIO_BANK_STAT.DISC 0).dioDriveBank b
  else d

/-- R60, R474: a read of DIO_CAP_STAT releases the capture and clears OVR. -/
def Dev.dioCapRead (d : Dev) (k : Nat) : Dev :=
  (d.setDioCh k { d.dioCh k with captured := false }).setFld (R.DIO_CAP_STAT k) F.DIO_CAP_STAT.OVR 0

/-- R470: every bank whose outputs are not at SAFE already goes there, until WDRESUME. -/
def Dev.dioPark (d : Dev) : Dev :=
  d.each [0, 1, 2, 3] (fun d b => if d.bit (R.DIO_BANK_STAT b) F.DIO_BANK_STAT.WDEXP then d else d.dioToSafe b)

/-- R470: after a reset other than a cold one the outputs hold their last state until the field side's watchdog expires; a safety
output is de-energised, because the safety processor has left RUN (R434, R461). -/
def Dev.dioHold (d : Dev) : Dev :=
  let d1 := d.each [0, 1, 2, 3] (fun d b => d.setDioBank b { d.dioBank b with
    holding := (d.dioBank b).holding || !d.bit (R.DIO_BANK_STAT b) F.DIO_BANK_STAT.WDEXP })
  d1.each (List.range 64) (fun d k => if (d.dioBank (k / 16)).holding then
    (d.setDioCh k { d.dioCh k with held := (d.dioCh k).level && (d.dioCh k).fout }).dioDrive k else d)

/-! ### Commands -/

/-- FIELD_SAMPLE (R459). -/
def execFieldSample (contacts rb limit : Nat) (lplus : List Nat) (s : State) : Host.Outcome State Fault Refusal :=
  s.run (fun d => d.fieldSample contacts rb limit lplus)

/-- BANK_OFF (R468). -/
def execBankOff (b : Nat) (s : State) : Host.Outcome State Fault Refusal := s.runIf (decide (b < 4)) (fun d => d.bankOff b)

/-- FIELD_WD_EXPIRY (R469). -/
def execFieldWdExpiry (b : Nat) (s : State) : Host.Outcome State Fault Refusal := s.runIf (decide (b < 4)) (fun d => d.fieldWdExpiry b)

/-- THERMAL_SHUTDOWN (R464). -/
def execThermalShutdown (k : Nat) (s : State) : Host.Outcome State Fault Refusal := s.runIf (decide (k < 64)) (fun d => d.thermalOff k)

/-- THERMAL_RESTART (R464). -/
def execThermalRestart (k : Nat) (s : State) : Host.Outcome State Fault Refusal := s.runIf (decide (k < 64)) (fun d => d.thermalCool k)

/-- TEST_PULSE (R465). -/
def execTestPulse (k : Nat) (s : State) : Host.Outcome State Fault Refusal := s.runIf (decide (k < 64)) (fun d => d.testPulse k)

end Sys2Proof.Machine
end

