-- ==== Sys2Proof/Machine/Gorse.lean ====
section
/-! DEFINITION. Gorse, the separation monitoring (spec/12_separation_monitoring.md): capsules, distances, the protective separation
distance, margins, scales, stop requests and the checks on an evaluation. -/

namespace Sys2Proof.Machine

open Sys2Proof

/-- A sensor's state. -/
def Dev.sensor (d : Dev) (k : Nat) : SensorSt := tget d.gorse.sens k {}

/-- The device with a sensor's state set. -/
def Dev.setSensor (d : Dev) (k : Nat) (x : SensorSt) : Dev := { d with gorse := { d.gorse with sens := tset d.gorse.sens k x } }

/-- A monitored arm's state in Gorse. -/
def Dev.garm (d : Dev) (m : Nat) : GorseArm := tget d.gorse.arms m {}

/-- The device with a monitored arm's state set. -/
def Dev.setGarm (d : Dev) (m : Nat) (x : GorseArm) : Dev := { d with gorse := { d.gorse with arms := tset d.gorse.arms m x } }

/-- GORSE_STAT.STATE: 0 OFF, 1 RETAINED, 2 WARMUP, 3 RUN, 4 FAILED (R409). -/
def Dev.gorseState (d : Dev) : Nat := d.fld R.GORSE_STAT F.GORSE_STAT.STATE

/-- R408: the records of the GORSE section of one kind. -/
def Dev.gorseRecs (d : Dev) (kind : Nat) : List (List Byte) := d.img.gorse.filter (fun r => uAt r 0 1 == kind)

/-- The monitored arms (R392). -/
def Dev.monitored (d : Dev) : List Nat := (List.range 12).filter (fun m => d.bit (R.GORSE_ARM_CFG m) F.GORSE_ARM_CFG.MON)

/-- R413: no monitored arm has an enabled joint. -/
def Dev.gorseIdle (d : Dev) : Bool :=
  d.monitored.all (fun m => match d.armRec m with
    | some r => r.axes.all (fun a => !d.axEnabled a)
    | none => true)

/-! ### Rounding (R398) -/

/-- The whole µm at or below a length, with a guard of 2^-30 µm for the arithmetic. -/
def umDown (x : Int) : Int := (x + 2 ^ 30) / fx

/-- The whole µm at or above a length, with the same guard. -/
def umUp (x : Int) : Int := -((2 ^ 30 - x) / fx)

/-! ### Capsules in the plant frame -/

/-- A capsule or box as a pair test takes it: index, end points, velocities of the end points in µm/s and radius; a box has its centre
and half sizes in place of the end points, and its rotation. -/
structure GCap where
  ix : Nat
  p1 : V3
  p2 : V3
  v1 : V3 := {}
  v2 : V3 := {}
  rad : Int
  box : Option Int := none
  deriving DecidableEq, Repr

/-- A point of a record in 2^-60 µm. -/
def ptAt (r : List Byte) (o : Nat) : V3 := V3.ofInts [sAt r o 4, sAt r (o + 4) 4, sAt r (o + 8) 4]

/-- R393: the end points of an arm's capsules by the forward kinematics. -/
def Dev.placeCaps (d : Dev) (m : Nat) (r : ArmRec) (q : List Int) : List (Nat × V3 × V3) :=
  let vars := (r.joints.zip q).map (fun e => jointVar e.1 (e.2 * 2 ^ 32))
  let fs := frames r.model (poseOf r.base) (r.joints.zip vars)
  let tcp := (fs.getLast?.getD {}).mul (poseOf r.tool)
  ((d.gorseRecs 3).filter (fun b => uAt b 1 1 == m)).map (fun b =>
    let l := uAt b 3 1
    let f := if l == 10 then tcp else fs.getD l {}
    (uAt b 2 1, f.p.add (f.r.app (ptAt b 5)), f.p.add (f.r.app (ptAt b 17))))

/-- The radius of a robot capsule. -/
def Dev.capRad (d : Dev) (m ix : Nat) : Int :=
  match (d.gorseRecs 3).find? (fun b => uAt b 1 1 == m && uAt b 2 1 == ix) with
  | some b => sAt b 29 4
  | none => 0

/-- R396: the velocity of a point in µm/s from its displacement since the previous evaluation. -/
def endVel (now before : V3) : V3 := let u := now.sub before; ⟨u.x * 2000, u.y * 2000, u.z * 2000⟩

/-! ### Distances -/

/-- A fixed-point number held within [0, 1]. -/
def unit01 (x : Int) : Int := clampI 0 fx x

/-- The parameters of the closest points of two segments. -/
def segClosest (p1 q1 p2 q2 : V3) : Int × Int :=
  let d1 := q1.sub p1
  let d2 := q2.sub p2
  let r := p1.sub p2
  let a := d1.dot d1
  let e := d2.dot d2
  let f := d2.dot r
  let c := d1.dot r
  if a = 0 && e = 0 then (0, 0)
  else if a = 0 then (0, unit01 (fxDiv f e))
  else if e = 0 then (unit01 (fxDiv (-c) a), 0)
  else
    let b := d1.dot d2
    let den := fxMul a e - fxMul b b
    let s := if den ≤ 0 then 0 else unit01 (fxDiv (fxMul b f - fxMul c e) den)
    let t := fxDiv (fxMul b s + f) e
    if t < 0 then (unit01 (fxDiv (-c) a), 0)
    else if fx < t then (unit01 (fxDiv (b - c) a), fx)
    else (s, t)

/-- A point of a segment. -/
def along (p q : V3) (s : Int) : V3 := p.add (V3.scale s (q.sub p))

/-- A number held within ±h, and what lies beyond. -/
def beyond (h x : Int) : Int := x - clampI (-h) h x

/-- The slope of the squared distance of a segment's point from a box about the origin. -/
def boxSlope (p q h : V3) (s : Int) : Int :=
  let x := along p q s
  let u := q.sub p
  fxMul (beyond h.x x.x) u.x + fxMul (beyond h.y x.y) u.y + fxMul (beyond h.z x.z) u.z

/-- The place on a segment that is closest to a box, by bisection: the squared distance is convex along the segment. -/
def boxBisect (p q h : V3) : Nat → Int → Int → Int
  | 0, lo, hi => (lo + hi) / 2
  | n + 1, lo, hi =>
    let mid := (lo + hi) / 2
    if boxSlope p q h mid < 0 then boxBisect p q h n mid hi else boxBisect p q h n lo mid

/-- The closest points of an arm's capsule and another capsule or box, as the place on the arm's capsule, its point, the other's point
and the place on the other. -/
def closest (c o : GCap) : Int × V3 × V3 × Int :=
  match o.box with
  | none =>
    let st := segClosest c.p1 c.p2 o.p1 o.p2
    (st.1, along c.p1 c.p2 st.1, along o.p1 o.p2 st.2, st.2)
  | some rz =>
    let back := rotZ (-(fxOfTurn rz))
    let p := back.app (c.p1.sub o.p1)
    let q := back.app (c.p2.sub o.p1)
    let s := if 0 ≤ boxSlope p q o.p2 0 then 0 else if boxSlope p q o.p2 fx ≤ 0 then fx else boxBisect p q o.p2 64 0 fx
    let x := along p q s
    let near : V3 := ⟨clampI (-o.p2.x) o.p2.x x.x, clampI (-o.p2.y) o.p2.y x.y, clampI (-o.p2.z) o.p2.z x.z⟩
    (s, along c.p1 c.p2 s, o.p1.add (back.transpose.app near), 0)

/-- R398: the distance of a pair, rounded down to 1 µm. -/
def pairDist (c o : GCap) (x y : V3) : Int := umDown ((y.sub x).norm - (c.rad + o.rad) * fx)

/-- R396: the speed in µm/s of a capsule's closest point towards the other; a negative component counts as 0. Where the two points
coincide there is no direction, and the spec states no component. -/
def towards (c : GCap) (s : Int) (x y : V3) : Int :=
  let u := y.sub x
  let n := u.norm
  let v := along c.v1 c.v2 s
  if n = 0 then ((Config.gorseNoDirection v.x v.y v.z : Nat) : Int) else max 0 (fxDiv (v.dot u) n)

/-! ### The stopping table (R397) -/

/-- The stopping table of an arm: V, TS and SS by index. -/
def Dev.stopTable (d : Dev) (m : Nat) : List (Nat × Nat × Nat) :=
  let l := (d.gorseRecs 4).filter (fun b => uAt b 1 1 == m)
  (List.range 16).filterMap (fun i => (l.find? (fun b => uAt b 2 1 == i)).map (fun b => (uAt b 3 4, uAt b 7 4, uAt b 11 4)))

/-- R397: T_s in 2^-60 µs and S_s in 2^-60 µm at a speed in 2^-60 mm/s, and whether the speed exceeds the last V. -/
def stopTerms (v : Int) : List (Nat × Nat × Nat) → Int × Int × Bool
  | [] => (0, 0, false)
  | [e] => ((e.2.1 : Int) * fx, (e.2.2 : Int) * fx, decide ((e.1 : Int) * fx < v))
  | e :: f :: rest =>
    if v < (f.1 : Int) * fx then
      let k := fxDiv (v - e.1 * fx) (((f.1 : Int) - e.1) * fx)
      ((e.2.1 : Int) * fx + k * ((f.2.1 : Int) - e.2.1), (e.2.2 : Int) * fx + k * ((f.2.2 : Int) - e.2.2), false)
    else stopTerms v (f :: rest)

/-! ### An evaluation -/

/-- An arm in an evaluation: its enabled capsules, whether R396 takes the speed of the last entry, that speed in mm/s, v_a in 2^-60 mm/s,
T_s, S_s, OVERSPEED, Z_r in µm, T_ra in ns and whether its joints' feedback is valid. -/
structure GEval where
  arm : Nat
  caps : List GCap
  first : Bool
  last : Nat
  va : Int
  ts : Int
  ss : Int
  ovr : Bool
  zr : Int
  tra : Nat
  fb : Bool
  deriving DecidableEq, Repr

/-- A pair's result: kind (0 dynamic, 1 static, 2 arm), own capsule, other index, distance and required distance. -/
structure GPair where
  kind : Nat
  own : Nat
  other : Nat
  d : Int
  s : Int
  deriving DecidableEq, Repr

/-- R398: the margin. -/
def GPair.m (p : GPair) : Int := p.d - p.s

/-- R399: the pair that decides: the lesser margin, then a dynamic before a static before an arm pair, then the lower indices. -/
def GPair.before (a b : GPair) : Bool :=
  decide (a.m < b.m) || (a.m == b.m && (decide (a.kind < b.kind) || (a.kind == b.kind &&
    (decide (a.own < b.own) || (a.own == b.own && decide (a.other ≤ b.other))))))

/-- The deciding pair of a list. -/
def deciding : List GPair → Option GPair
  | [] => none
  | p :: rest =>
    match deciding rest with
    | none => some p
    | some q => some (if p.before q then p else q)

/-- GORSE_ARM_PAIR's layout (R410). -/
def pairWord (kind own other : Nat) : Word := wN (kind * 2 ^ 30 + (own % 32) * 2 ^ 24 + other % 1024)

/-- Whether every joint of an arm has valid feedback (R401, cause 5). -/
def Dev.armFb (d : Dev) (r : ArmRec) : Bool := r.axes.all (fun a => d.fbValid a)

/-- R391, R407: what an evaluation takes is frozen at its sample tick: the reports handed over before it, the capsules that are enabled, and the validity
of the joints' feedback. -/
def Dev.gorseSample (d : Dev) : Dev :=
  let d1 : Dev := { d with gorse := { d.gorse with sens := d.gorse.sens.map (fun e => (e.1, match e.2.next with
    | some n => { e.2 with cur := some n, next := none, new := true, lost := false }
    | none => e.2)) } }
  d1.each d1.monitored (fun d m => match d.armRec m with
    | some r => d.setGarm m { d.garm m with en := (d.reg (R.GORSE_ARM_CAPEN m)).toNat, fb := d.armFb r }
    | none => d)

/-- The positions of an arm's joints as stage 1 of the evaluation's sample tick provides them (R31, R33, R391). -/
def Dev.armJoints (d : Dev) (r : ArmRec) : List Int := r.axes.map (fun a => (d.axSt a).tickPos)

/-- One arm is prepared for an evaluation; its positions and end points are kept for the next. -/
def Dev.prepArm (d : Dev) (m : Nat) (r : ArmRec) : Dev × GEval :=
  let g := d.garm m
  let fb := g.fb
  let q := if fb || g.q.isEmpty then d.armJoints r else g.q
  let ends := d.placeCaps m r q
  let first := g.ends.isEmpty || !fb
  let tbl := d.stopTable m
  let last := (tbl.getLast?.map (·.1)).getD 0
  let caps : List GCap := (ends.filter (fun e => bitAt g.en e.1)).map (fun e =>
    match g.ends.find? (fun b => b.1 == e.1) with
    | some b => { ix := e.1, p1 := e.2.1, p2 := e.2.2, v1 := endVel e.2.1 b.2.1, v2 := endVel e.2.2 b.2.2, rad := d.capRad m e.1 }
    | none => { ix := e.1, p1 := e.2.1, p2 := e.2.2, rad := d.capRad m e.1 })
  let va := if first then (last : Int) * fx else (caps.foldl (fun x c => max x (max c.v1.norm c.v2.norm)) 0) / 1000
  let st := stopTerms va tbl
  let d1 := d.setGarm m { g with q := q, ends := if fb then ends else [] }
  (d1, { arm := m, caps := caps, first := first, last := last, va := va, ts := st.1, ss := st.2.1, ovr := st.2.2,
         zr := 1000 * (d.fld (R.GORSE_ARM_ZONE m) F.GORSE_ARM_ZONE.ZR : Int),
         tra := 500000 + 1000 * d.fld (R.GORSE_ARM_CFG m) F.GORSE_ARM_CFG.TREACT, fb := fb })

/-- The speed in µm/s of an arm's closest point towards another (R396). -/
def GEval.vr (g : GEval) (c : GCap) (s : Int) (x y : V3) : Int := if g.first then (g.last : Int) * 1000 * fx else towards c s x y

/-- A speed in 2^-60 µm/s over a time in ns, rounded up to 1 µm. -/
def speedTerm (v : Int) (ns : Int) : Int := umUp (v * ns / 1000000000)

/-- R398: a pair of a robot capsule and a dynamic capsule, whose sensor gives T_r in ns and C + Z_d in µm. -/
def Dev.dynPair (d : Dev) (g : GEval) (tr : Int) (czd : Int) (c o : GCap) : GPair :=
  let k := closest c o
  let vh : Int := d.fld R.GORSE_GCFG F.GORSE_GCFG.VH
  let human := umUp (vh * (tr * fx / 1000 + g.ts) / 1000)
  { kind := 0, own := c.ix, other := o.ix, d := pairDist c o k.2.1 k.2.2.1,
    s := human + speedTerm (g.vr c k.1 k.2.1 k.2.2.1) tr + umUp g.ss + czd + g.zr }

/-- R398: a pair of a robot capsule and a static object. -/
def statPair (g : GEval) (c o : GCap) : GPair :=
  let k := closest c o
  { kind := 1, own := c.ix, other := o.ix, d := pairDist c o k.2.1 k.2.2.1,
    s := speedTerm (g.vr c k.1 k.2.1 k.2.2.1) g.tra + umUp g.ss + g.zr }

/-- R398: a pair of robot capsules of two arms. -/
def armPair (g h : GEval) (c o : GCap) : GPair :=
  let k := closest c o
  { kind := 2, own := c.ix, other := 24 * h.arm + o.ix, d := pairDist c o k.2.1 k.2.2.1,
    s := speedTerm (g.vr c k.1 k.2.1 k.2.2.1) g.tra + umUp g.ss + g.zr + speedTerm (h.vr o k.2.2.2 k.2.2.1 k.2.1) h.tra + umUp h.ss + h.zr }

/-- R394, R403: the valid dynamic capsules of a sensor, numbered from DYNBASE. -/
def Dev.dynCaps (d : Dev) (b : List Byte) : List GCap :=
  let k := uAt b 1 1
  if d.fld (R.GORSE_SEN_STAT k) F.GORSE_SEN_STAT.STATE == 1 || d.fld (R.GORSE_SEN_STAT k) F.GORSE_SEN_STAT.STATE == 2 then
    match (d.sensor k).cur with
    | some r => (r.caps.zipIdx).map (fun e =>
        { ix := uAt b 2 2 + e.2, p1 := V3.ofInts e.1.1, p2 := V3.ofInts e.1.2.1, rad := e.1.2.2 })
    | none => []
  else []

/-- A static object (R395, R408). -/
def staticCap (b : List Byte) : GCap :=
  if uAt b 3 1 == 0 then { ix := uAt b 1 2, p1 := ptAt b 6, p2 := ptAt b 18, rad := sAt b 30 4 }
  else { ix := uAt b 1 2, p1 := ptAt b 6, p2 := ptAt b 18, rad := 0, box := some (sAt b 30 4) }

/-- R392: every pair of an arm. -/
def Dev.armPairs (d : Dev) (tickNs : Nat) (all : List GEval) (g : GEval) : List GPair :=
  let dyn := (d.gorseRecs 5).filter (fun b => bitAt (uAt b 5 2) g.arm) |>.flatMap (fun b =>
    let tm := match (d.sensor (uAt b 1 1)).cur with
      | some r => r.tmeas
      | none => 0
    let tr := tsDiff (wN tickNs) tm + 1000 * uAt b 7 4 + g.tra
    let czd := (uAt b 11 4 : Int) + uAt b 15 4
    (d.dynCaps b).flatMap (fun o => g.caps.map (fun c => d.dynPair g tr czd c o)))
  let stat := (d.gorseRecs 6).filter (fun b => bitAt (uAt b 4 2) g.arm) |>.flatMap (fun b =>
    g.caps.map (fun c => statPair g c (staticCap b)))
  let arms := (all.filter (fun h => h.arm != g.arm)).flatMap (fun h =>
    h.caps.flatMap (fun o => g.caps.map (fun c => armPair g h c o)))
  dyn ++ stat ++ arms

/-! ### Scale and stop requests -/

/-- R35, R400, R408: an arm's scale, for the fabric and for the path engine's first period that begins after its delivery. -/
def Dev.gorseScale (d : Dev) (m v : Nat) : Dev :=
  ((d.setFld (R.GORSE_ARM_STAT m) F.GORSE_ARM_STAT.SCALE v).setArm m { d.arm m with
    gorse := (d.arm m).gorse ++ [(v, max d.ns d.gorse.done)] }).feed 5 (0x01000000 + m) (wN v)

/-- R401: an arm takes a stop request. One in force keeps its cause (R407). -/
def Dev.stopRequest (d : Dev) (m cause : Nat) (pair : Word) : Dev :=
  let r := R.GORSE_ARM_STAT m
  let d1 := d.setFld r F.GORSE_ARM_STAT.RELCNT 0
  if d.bit r F.GORSE_ARM_STAT.STOPREQ then d1
  else ((((d1.setFld r F.GORSE_ARM_STAT.STOPREQ 1).setFld r F.GORSE_ARM_STAT.CAUSE cause).evObj 0x9001 6 m [wN cause, pair]).gorseScale m
    0).feed 5 (0x03000000 + m) 1

/-- A sensor of an arm is LOST (R401, cause 6). -/
def Dev.armSensorLost (d : Dev) (m : Nat) : Bool :=
  (d.gorseRecs 5).any (fun b => bitAt (uAt b 5 2) m && d.fld (R.GORSE_SEN_STAT (uAt b 1 1)) F.GORSE_SEN_STAT.STATE == 3)

/-- R404, R405, R406: a failed evaluation. Of the causes of R401 that hold without it the lowest is recorded. -/
def Dev.evalFail (d : Dev) (cause : Nat) : Dev :=
  let d1 := ((d.inc R.GORSE_CNT_FAIL).setFld R.GORSE_STAT F.GORSE_STAT.LASTCAUSE cause).ev 0x9003 6 [wN cause]
  let fails := d.ns :: (d.gorse.fails.filter (fun t => decide (d.ns ≤ t + 1000000000)))
  let d2 : Dev := { d1 with gorse := { d1.gorse with
    failed := true, fails := fails.take 3, arms := d1.gorse.arms.map (fun (e : Nat × GorseArm) => (e.1, { e.2 with ends := [] })) } }
  let d3 := d2.each d2.monitored (fun d m =>
    d.stopRequest m (if !(d.garm m).fb then 5 else if d.armSensorLost m then 6 else 7) (d.reg (R.GORSE_ARM_PAIR m)))
  if decide (3 ≤ fails.length) && d3.gorseState != 4 then (d3.setFld R.GORSE_STAT F.GORSE_STAT.STATE 4).ev 0x9006 7 else d3

/-- R403: a sensor changes to LOST. -/
def Dev.sensorLost (d : Dev) (k : Nat) : Dev :=
  ((d.setFld (R.GORSE_SEN_STAT k) F.GORSE_SEN_STAT.STATE 3).setFld (R.GORSE_SEN_STAT k) F.GORSE_SEN_STAT.COUNT 0).evObj 0x9007 5 k

/-- R403: the safety layer has lost a sensor's connection, or the sensor reports safe values: its arms take a stop request. -/
def Dev.sensorDrop (d : Dev) (k : Nat) : Dev :=
  let d1 := d.setSensor k { d.sensor k with next := none, lost := true }
  let st := d.fld (R.GORSE_SEN_STAT k) F.GORSE_SEN_STAT.STATE
  let mask := match (d.gorseRecs 5).find? (fun b => uAt b 1 1 == k) with
    | some b => uAt b 5 2
    | none => 0
  if st == 1 || st == 2 then
    (d1.sensorLost k).each (d.monitored.filter (fun m => bitAt mask m)) (fun d m => d.stopRequest m 6 (d.reg (R.GORSE_ARM_PAIR m)))
  else d1

/-- R394, R403: a valid report of a sensor, for the next evaluation (R407). One with a wrong COUNT or SENSOR is discarded. -/
def Dev.capsuleReport (d : Dev) (k : Nat) (m : List Byte) (stamp : Option Word) : Dev :=
  match (d.gorseRecs 5).find? (fun b => uAt b 1 1 == k) with
  | none => d
  | some b =>
    let n := uAt m 1 1
    if uAt m 0 1 != k || decide (uAt b 4 1 < n) || decide (m.length < 8 + 16 * n) then d
    else
      let ref := (List.range 3).map (fun i => sAt b (19 + 4 * i) 4)
      let pt (o : Nat) : List Int := (List.range 3).map (fun i => 1000 * sAt m (o + 2 * i) 2 + ref.getD i 0)
      let caps := (List.range n).map (fun j => (pt (8 + 16 * j), pt (14 + 16 * j), 1000 * (uAt m (20 + 16 * j) 2 : Int)))
      let tm := match stamp with
        | some w => w
        | none => wN (uAt m 4 4)
      d.setSensor k { d.sensor k with next := some { tmeas := tm, status := uAt m 2 1, caps := caps } }

/-- R403: a sensor's state at the sample tick at `tickNs`. -/
def Dev.sensorEval (d : Dev) (tickNs k : Nat) : Dev :=
  let r := R.GORSE_SEN_STAT k
  if !(d.gorseRecs 5).any (fun b => uAt b 1 1 == k) then d.setFld r F.GORSE_SEN_STAT.STATE 0
  else
    let x1 := d.sensor k
    let was := d.fld r F.GORSE_SEN_STAT.STATE
    let d1 := d.setSensor k { x1 with new := false }
    match x1.cur with
    | none => d1.setFld r F.GORSE_SEN_STAT.STATE 3
    | some rep =>
      let age := tsDiff (wN tickNs) rep.tmeas
      let d2 := (d1.setFld r F.GORSE_SEN_STAT.AGE (min 0xFFFF (age / 100000).toNat)).setReg (R.GORSE_SEN_TMEAS k) rep.tmeas
      if x1.lost || rep.status != 0 || decide (age < 0) || decide (100000 * (d.fld R.GORSE_GCFG F.GORSE_GCFG.AGEMAX : Int) < age) then
        if was == 3 then d2 else d2.sensorLost k
      else (d2.setFld r F.GORSE_SEN_STAT.STATE (if x1.new then 1 else 2)).setFld r F.GORSE_SEN_STAT.COUNT rep.caps.length

/-- R399 to R402: the results of an arm; `hit` that another arm's pair with it has a negative margin (R401, cause 3). -/
def Dev.armResult (d : Dev) (g : GEval) (ps : List GPair) (hit : Bool) : Dev :=
  let m := g.arm
  let r := R.GORSE_ARM_STAT m
  let best := deciding ps
  let word := match best with
    | some p => pairWord p.kind p.own p.other
    | none => d.reg (R.GORSE_ARM_PAIR m)
  let d1 := match best with
    | some p =>
      let fm := d.fit32 p.m
      let fd := fm.2.fit32 p.d
      let fs := fd.2.fit32 p.s
      (((((fs.2.setRegI (R.GORSE_ARM_MARGIN m) fm.1).setRegI (R.GORSE_ARM_DIST m) fd.1).setRegI (R.GORSE_ARM_SP m)
        fs.1).setReg (R.GORSE_ARM_PAIR m) word).setGarm m { d.garm m with d := p.d, m := p.m, paired := true }).feed 5 (0x02000000 + m) (wI fm.1)
    | none => d.setGarm m { d.garm m with paired := false }
  let fv := d1.fit32 (g.va / fx)
  let d2 := fv.2.setRegI (R.GORSE_ARM_SPEED m) fv.1
  let neg (k : Nat) : Bool := ps.any (fun p => p.kind == k && decide (p.m < 0))
  let causes := [(neg 0, 1), (neg 1, 2), (neg 2 || hit, 3), (g.ovr, 4), (!g.fb, 5), (d.armSensorLost m, 6), (d.gorseState == 4, 7)].filterMap
    (fun (e : Bool × Nat) => if e.1 then some e.2 else none)
  let mrel : Int := 1000 * (d.fld (R.GORSE_ARM_ZONE m) F.GORSE_ARM_ZONE.MREL : Int)
  let d3 := match causes with
    | c :: _ => d2.stopRequest m c word
    | [] =>
      let n := if ps.all (fun p => decide (mrel ≤ p.m)) then min 8 (d2.fld r F.GORSE_ARM_STAT.RELCNT + 1) else 0
      let e := d2.setFld r F.GORSE_ARM_STAT.RELCNT n
      if n == 8 && e.bit r F.GORSE_ARM_STAT.STOPREQ then
        (((e.setFld r F.GORSE_ARM_STAT.STOPREQ 0).setFld r F.GORSE_ARM_STAT.CAUSE 0).evObj 0x9002 2 m).feed 5 (0x03000000 + m) 0
      else e
  let smin : Int := d.fld (R.GORSE_ARM_SLOW m) F.GORSE_ARM_SLOW.SMIN
  let low : Int := 1000 * (d.fld (R.GORSE_ARM_SLOW m) F.GORSE_ARM_SLOW.MSLOW : Int)
  let scale : Int :=
    if d3.bit r F.GORSE_ARM_STAT.STOPREQ then 0
    else match deciding (ps.filter (fun p => p.kind == 0)) with
      | some p => if low ≤ p.m then 0x7FFF else if low = 0 then Config.divByZero p.m else smin + (0x7FFF - smin) * p.m / low
      | none => 0x7FFF
  d3.gorseScale m scale.toNat

/-- The sample tick of the evaluation that the present base tick lies in (R391). -/
def Dev.gorseTick (d : Dev) : Nat := d.time.tick / 16 * 16

/-- Gorse evaluates at this power state (R413). -/
def Dev.gorseOn (d : Dev) : Bool :=
  d.loader.image.isSome && decide (d.fld R.PWR_STAT F.PWR_STAT.STATE ≤ 2) && d.gorseState != 1

/-- R391 to R406: an evaluation. `us` is the time to its delivery in µs; `dup` a pair whose two runs disagree beyond DIAGTOL (arm, kind,
own and other index), `kat` that a known-answer pair did not match, `ecc` a read beyond correction. -/
def Dev.evaluate (d : Dev) (us : Nat) (dup : Option (Nat × Nat × Nat × Nat)) (kat ecc : Bool) : Dev :=
  let n := d.gorseTick
  let tickNs := n * 31250
  if !d.gorseOn || d.gorse.tick == some n || decide (400 < us) then d
  else
    let d0 := if d.gorseState == 0 then d.setFld R.GORSE_STAT F.GORSE_STAT.STATE 2 else d
    let d1 := ((({ d0 with gorse := { d0.gorse with tick := some n, failed := false, done := tickNs + 1000 * us } } : Dev).inc R.GORSE_CNT_EVAL).setFld R.GORSE_EVTIME
      F.GORSE_EVTIME.LAST us).setFld R.GORSE_EVTIME F.GORSE_EVTIME.MAX (max us (d.fld R.GORSE_EVTIME F.GORSE_EVTIME.MAX))
    let d2 := match dup with
      | some (m, k, o, t) => (d1.inc R.GORSE_CNT_DUP).evObj 0x9004 5 m [pairWord k o t]
      | none => d1
    let d3 := if kat then d2.inc R.GORSE_CNT_KAT else d2
    let d4 := d3.each (List.range 64) (fun d k => d.sensorEval tickNs k)
    if dup.isSome then d4.evalFail 2
    else if kat then d4.evalFail 3
    else if ecc then d4.evalFail 4
    else
      let prep := d4.monitored.foldl (fun (acc : Dev × List GEval) m =>
        match acc.1.armRec m with
        | some r => let x := acc.1.prepArm m r; (x.1, acc.2 ++ [x.2])
        | none => acc) (d4, [])
      let all := prep.2.map (fun g => (g, d4.armPairs tickNs prep.2 g))
      let d5 := all.foldl (fun d e => d.armResult e.1 e.2
        (all.any (fun o => o.2.any (fun p => p.kind == 2 && p.other / 24 == e.1.arm && decide (p.m < 0))))) prep.1
      if d5.gorseState == 2 then d5.setFld R.GORSE_STAT F.GORSE_STAT.STATE 3 else d5

/-- R391, R404: an evaluation that has not been delivered 400 µs after its sample tick. -/
def Dev.evalDeadline (d : Dev) : Dev :=
  let n := d.gorseTick
  if !d.gorseOn || d.gorse.tick == some n || decide (d.ns < n * 31250 + 400000) then d
  else (({ d with gorse := { d.gorse with tick := some n } } : Dev).inc R.GORSE_CNT_EVAL).evalFail 1

/-- R406, R409: a write of GORSE_CTL. -/
def Dev.gorseCtlCheck (d : Dev) (w : Word) : List Status :=
  [need (!(getF w F.GORSE_CTL.CLRFAIL == 1 && d.gorseState == 4 && d.gorse.failed)) .conflict]

/-- The effect of a write of GORSE_CTL. -/
def Dev.gorseCtlDo (d : Dev) (w : Word) : Dev :=
  let d1 := if getF w F.GORSE_CTL.CLRFAIL == 1 && d.gorseState == 4 then d.setFld R.GORSE_STAT F.GORSE_STAT.STATE 3 else d
  if getF w F.GORSE_CTL.CLRMAX == 1 then d1.setFld R.GORSE_EVTIME F.GORSE_EVTIME.MAX 0 else d1

/-- R393: a write of GORSE_ARM_CAPEN may clear only the bits of optional capsules. -/
def Dev.capenCheck (d : Dev) (m : Nat) (w : Word) : List Status :=
  let old := (d.reg (R.GORSE_ARM_CAPEN m)).toNat
  let optional (i : Nat) : Bool := (d.gorseRecs 3).any (fun b => uAt b 1 1 == m && uAt b 2 1 == i && bitAt (uAt b 4 1) 0)
  [need ((List.range 24).all (fun i => !(bitAt old i && !bitAt w.toNat i) || optional i)) .denied]

/-- R393: the new word stands in GORSE_ARM_CAPEN. -/
def Dev.capenDo (d : Dev) (m : Nat) (old : Word) : Dev :=
  let w := d.reg (R.GORSE_ARM_CAPEN m)
  if w = old then d else d.evObj 0x9008 2 m [w]

/-- R413: what any reset, an activation and a return from P3 or P4 leave: no history, no reports, WARMUP. -/
def Dev.gorseStart (d : Dev) (st : Nat) : Dev :=
  ({ d with gorse := { tick := d.gorse.tick, done := d.gorse.done } } : Dev).setFld R.GORSE_STAT F.GORSE_STAT.STATE st

/-- R413: a Gorse retained in P2 wakes with its history: WARMUP until an evaluation has passed. -/
def Dev.gorseWake (d : Dev) : Dev := d.setFld R.GORSE_STAT F.GORSE_STAT.STATE 2

/-- R408, R410: the registers that the image fixes. -/
def Dev.gorseLoad (d : Dev) : Dev :=
  let d1 := match d.gorseRecs 1 with
    | g :: _ =>
      let e := ((d.setFld R.GORSE_GCFG F.GORSE_GCFG.VH (uAt g 1 2)).setFld R.GORSE_GCFG F.GORSE_GCFG.AGEMAX (uAt g 3 2)).setFld R.GORSE_TOL
        F.GORSE_TOL.RCTOL (uAt g 5 2)
      (e.setFld R.GORSE_TOL F.GORSE_TOL.DIAGTOL (uAt g 7 2)).each (List.range 12) (fun d m =>
        d.setFld (R.GORSE_ARM_CFG m) F.GORSE_ARM_CFG.MON (if bitAt (uAt g 9 2) m then 1 else 0))
    | [] => d.each (List.range 12) (fun d m => d.setFld (R.GORSE_ARM_CFG m) F.GORSE_ARM_CFG.MON 0)
  let d2 := d1.each (d.gorseRecs 2) (fun d b =>
    let m := uAt b 1 1
    ((((d.setFld (R.GORSE_ARM_CFG m) F.GORSE_ARM_CFG.TREACT (uAt b 2 4)).setFld (R.GORSE_ARM_ZONE m) F.GORSE_ARM_ZONE.ZR (uAt b 6 2)).setFld
      (R.GORSE_ARM_ZONE m) F.GORSE_ARM_ZONE.MREL (uAt b 8 2)).setFld (R.GORSE_ARM_SLOW m) F.GORSE_ARM_SLOW.SMIN (uAt b 10 2)).setFld
      (R.GORSE_ARM_SLOW m) F.GORSE_ARM_SLOW.MSLOW (uAt b 12 2))
  let d3 := d2.each (List.range 64) (fun d k => d.setFld (R.GORSE_SEN_STAT k) F.GORSE_SEN_STAT.STATE
    (if (d.gorseRecs 5).any (fun b => uAt b 1 1 == k) then 3 else 0))
  d3.each (List.range 12) (fun d m =>
    d.setReg (R.GORSE_ARM_CAPEN m) (wN (((d.gorseRecs 3).filter (fun b => uAt b 1 1 == m && bitAt (uAt b 4 1) 1)).foldl
      (fun n b => setBit n (uAt b 2 1)) 0)))

/-- R405: the safety processor's results for the pairs that it recomputes: arm, its d and m, and Gorse's results for the pair; none stands for the arm's
deciding pair, whose results Gorse has delivered. A deviation beyond RCTOL or opposite signs of m fail the evaluation. -/
def Dev.crossCheck (d : Dev) (l : List (Nat × Int × Int × Option (Int × Int))) : Dev :=
  let tol : Int := d.fld R.GORSE_TOL F.GORSE_TOL.RCTOL
  let pairs : List (Nat × Int × Int × Int × Int) := l.filterMap (fun e => match e.2.2.2 with
    | some (dg, mg) => some (e.1, e.2.1, e.2.2.1, dg, mg)
    | none => if (d.garm e.1).paired then some (e.1, e.2.1, e.2.2.1, (d.garm e.1).d, (d.garm e.1).m) else none)
  let bad := pairs.filter (fun e => decide (tol < (e.2.1 - e.2.2.2.1).natAbs) || decide (tol < (e.2.2.1 - e.2.2.2.2).natAbs) ||
    (decide (e.2.2.1 < 0) != decide (e.2.2.2.2 < 0)))
  if bad.isEmpty || !d.gorseOn then d
  else
    let d1 := d.each bad (fun d e => (d.inc R.GORSE_CNT_XCHK).evObj 0x9005 6 e.1 [wI e.2.2.2.1, wI e.2.2.2.2, wI e.2.1, wI e.2.2.1])
    d1.evalFail 5

/-! ### Commands -/

/-- GORSE_EVALUATION (R391). -/
def execGorseEvaluation (us : Nat) (dup : Option (Nat × Nat × Nat × Nat)) (kat ecc : Bool) (s : State) : Host.Outcome State Fault Refusal :=
  s.run (fun d => d.evaluate us dup kat ecc)

/-- EVAL_DEADLINE (R391). -/
def execEvalDeadline (s : State) : Host.Outcome State Fault Refusal := s.run (fun d => d.evalDeadline)

end Sys2Proof.Machine
end

