-- ==== Sys2Proof/Machine/SafeProc.lean ====
section
/-! DEFINITION. The safety processor (spec/13_safety.md): safe axes and permits, safety functions, dual-contact inputs, safety connections,
acknowledgement and diagnostics. -/

namespace Sys2Proof.Machine

open Sys2Proof

/-! ### Records and registers -/

/-- A safe axis's record. -/
def Dev.saxis (d : Dev) (k : Nat) : Option (List Byte) := (d.safeRecs 2).find? (fun r => uAt r 1 1 == k)

/-- The safe axis of an axis (R419). -/
def Dev.saxisOf (d : Dev) (a : Nat) : Option Nat := ((d.safeRecs 2).find? (fun r => uAt r 2 2 == a)).map (fun r => uAt r 1 1)

/-- The numbers of the safe axes. -/
def Dev.saxes (d : Dev) : List Nat := (d.safeRecs 2).map (fun r => uAt r 1 1)

/-- The axis of a safe axis. -/
def Dev.axisOfSa (d : Dev) (k : Nat) : Option AxisRec :=
  match d.saxis k with
  | some r => d.axisRec (uAt r 2 2)
  | none => none

/-- SAFE_STAT.STATE: 0 BOOT, 1 CHECK, 2 RUN, 3 FAULT (R447). -/
def Dev.safeState (d : Dev) : Nat := d.fld R.SAFE_STAT F.SAFE_STAT.STATE

/-- A safe axis's PERMIT. -/
def Dev.permit (d : Dev) (k : Nat) : Bool := d.bit (R.SAFE_SA_STAT k) F.SAFE_SA_STAT.PERMIT

/-- A safe axis's REACT: 0 none, 1 SS1, 2 STO. -/
def Dev.saReact (d : Dev) (k : Nat) : Nat := d.fld (R.SAFE_SA_STAT k) F.SAFE_SA_STAT.REACT

/-- SAFE_CONN_STAT.STATE: 0 UNUSED, 1 OK, 2 STARTING, 3 LOST (R451). -/
def Dev.connState (d : Dev) (c : Nat) : Nat := d.fld (R.SAFE_CONN_STAT c) F.SAFE_CONN_STAT.STATE

/-- R416, R439: a connection delivers what it received: it is OK and the last message carried no FAILSAFE. -/
def Dev.connGood (d : Dev) (c : Nat) : Bool := d.connState c == 1 && !d.bit (R.SAFE_CONN_STAT c) F.SAFE_CONN_STAT.FAILSAFE

/-- The safe axes in the scope of a function (R425). -/
def Dev.scopeOf (d : Dev) (r : List Byte) : List Nat :=
  let n := uAt r 7 2
  d.saxes.filter (fun k => match d.axisOfSa k with
    | none => false
    | some a =>
      match uAt r 6 1 with
      | 0 => k == n
      | 1 => a.kind == 1 && a.arm == n
      | 2 => a.group == n
      | _ => true)

/-- Whether a function is in demand (R452). -/
def Dev.fnDemand (d : Dev) (f : Nat) : Bool := d.bit (R.SAFE_FN f) F.SAFE_FN.DEMAND

/-- Whether a function whose scope holds a safe axis is in demand. -/
def Dev.inDemand (d : Dev) (k : Nat) : Bool :=
  (d.safeRecs 5).any (fun r => d.fnDemand (uAt r 1 1) && (d.scopeOf r).contains k)

/-! ### Outgoing messages (R435, R440, R441) -/

/-- R435: a safety message of connection `r` with sequence number, flags and payload. -/
def safeMsg (r : List Byte) (seq flags : Nat) (payload : List Byte) : List Byte :=
  let b := le 4 (uAt r 17 4) ++ le 2 seq ++ le 2 (uAt r 21 2) ++ le 1 flags ++ le 1 0 ++ le 2 payload.length ++ payload
  b ++ le 4 (crc32c b).toNat

/-- R440, R442: a drive connection starts a message; `now` abandons what is still to be sent (R436). Of a connection that serves several
safe axes PERMIT is 1 only while each of them has its permit (R430). -/
def Dev.startMsg (d : Dev) (c : Nat) (now : Bool) : Dev :=
  match d.sconn c with
  | none => d
  | some r =>
    if uAt r 2 1 != 0 || d.safe.monitor then d
    else
      let x := d.conn c
      let ks := d.saxesOfConn c
      let run := d.safeState == 2
      let on := run && !ks.isEmpty && ks.all (fun k => d.permit k)
      let fack := run && ks.any (fun k => (d.sax k).fack)
      let flags := (if run then 0 else 1) + (if x.started then 0 else 2)
      let m := safeMsg r x.seq flags (le 4 ((if on then 1 else 0) + (if fack then 2 else 0)))
      let fs := fragmentsOf (fragBytes r) 64 true m
      let d1 := d.setConn c { x with
        seq := (x.seq + 1) % 65536, started := true, permit := on, frags := if now then fs else x.frags ++ fs }
      d1.each ks (fun d k => d.setSax k { d.sax k with fack := false, offNs := if on then none else (d.sax k).offNs })

/-- R440: the outgoing message of a connection, once in 2^SENDK base ticks. -/
def Dev.safetySend (d : Dev) (c : Nat) : Dev :=
  match d.sconn c with
  | none => d
  | some r =>
    if d.time.tick % 2 ^ uAt r 23 1 != 0 || (d.conn c).sentTick == some d.time.tick then d
    else (d.setConn c { d.conn c with sentTick := some d.time.tick }).startMsg c false

/-! ### Permits (R420, R430, R431) -/

/-- R420, R436: the permit of a safe axis: the square wave on STOEN, or PERMIT of the drive connection, whose change to 0 goes out at once. -/
def Dev.setPermit (d : Dev) (k : Nat) (on : Bool) : Dev :=
  if d.permit k == on then d
  else
    let d1 := (d.setFld (R.SAFE_SA_STAT k) F.SAFE_SA_STAT.PERMIT (if on then 1 else 0)).setSax k { d.sax k with misN := 0 }
    match d.saxis k with
    | none => d1
    | some r =>
      if uAt r 4 1 == 0 then d1.emit (.signal "STOEN" k (if on then 1 else 0))
      else if on || !(d.conn (uAt r 5 1)).permit then d1 else d1.startMsg (uAt r 5 1) true

/-- R426, R430: STO on a safe axis: torque off, the axis's own STO, the latch. `fn` is the function that started it, 0xFF for none. -/
def Dev.saSto (d : Dev) (k fn : Nat) : Dev :=
  let r := R.SAFE_SA_STAT k
  let d1 := ((d.setFld r F.SAFE_SA_STAT.REACT 2).setFld r F.SAFE_SA_STAT.LATCH 1).setFld r F.SAFE_SA_STAT.FN fn
  let d2 := ((d1.setSax k { d1.sax k with ss1 := none, standN := 0 }).setPermit k false).evObj 0xD003 6 k
  match d2.axisOfSa k with
  | some a =>
    let e := d2.react a.axis 4 7
    { e with axs := { e.axs with testPermit := e.axs.testPermit.filter (· != a.axis), stoReq := e.axs.stoReq.filter (· != a.axis) } }
  | none => d2

/-- R424: a safe-axis fault. -/
def Dev.saFault (d : Dev) (k kind : Nat) : Dev :=
  let r := R.SAFE_SA_STAT k
  if d.bit r F.SAFE_SA_STAT.SFAULT then d
  else
    let d1 := ((d.setFld r F.SAFE_SA_STAT.SFAULT 1).setSax k { d.sax k with cause := kind }).evObj 0xD009 6 k [Config.saFaultCause kind]
    if d.saReact k == 2 then d1 else d1.saSto k 0xFF

/-- R426: SS1 with a QSTOP (2) or CSTOP (3) ramp; a CSTOP in progress gives way to a QSTOP (R19, R444). -/
def Dev.saSs1 (d : Dev) (k fn code : Nat) : Dev :=
  let r := R.SAFE_SA_STAT k
  let x := d.sax k
  let ax := match d.axisOfSa k with
    | some a => d.react a.axis code 7
    | none => d
  match x.ss1 with
  | some (old, v0, t0) => if reactRank old < reactRank code then ax.setSax k { ax.sax k with ss1 := some (code, v0, t0) } else d
  | none =>
    let d1 := ((ax.setFld r F.SAFE_SA_STAT.REACT 1).setFld r F.SAFE_SA_STAT.LATCH 1).setFld r F.SAFE_SA_STAT.FN fn
    d1.setSax k { d1.sax k with ss1 := some (code, d.regI (R.SAFE_SA_VEL k), d.ns), standN := 0 }

/-- R425, R426, R444: a function in demand takes its reaction on a safe axis, where that is more than the one in force. -/
def Dev.takeReaction (d : Dev) (k fn kind react : Nat) : Dev :=
  let sto := kind == 0 || react == 0
  if sto then
    if d.saReact k == 2 then d else (d.evObj 0xD002 6 k [wN fn, 2]).saSto k fn
  else if d.saReact k == 2 then d
  else if d.saReact k == 1 then d.saSs1 k fn (if react == 1 then 2 else 3)
  else (d.evObj 0xD002 6 k [wN fn, 1]).saSs1 k fn (if react == 1 then 2 else 3)

/-- R430: whether the operating permit can be granted to the safe axis of an axis; an axis without one needs none (R419). -/
def Dev.permitOk (d : Dev) (a : Nat) : Bool :=
  match d.saxisOf a with
  | none => true
  | some k =>
    d.safeState == 2 && d.saReact k == 0 && !d.bit (R.SAFE_SA_STAT k) F.SAFE_SA_STAT.LATCH &&
      !d.bit (R.SAFE_SA_STAT k) F.SAFE_SA_STAT.SFAULT && !d.inDemand k

/-- R421: STOFB of a safe axis on a STOEN path is active before STOEN starts. -/
def Dev.stofbEarly (d : Dev) (a : Nat) : Bool :=
  match d.saxisOf a with
  | none => false
  | some k => (match d.saxis k with
    | some r => uAt r 4 1 == 0 && d.safe.stofb.contains k
    | none => false)

/-- R430: the operating permit of an axis that is enabled. -/
def Dev.grantPermit (d : Dev) (a : Nat) : Dev :=
  match d.saxisOf a with
  | some k => d.setPermit k true
  | none => d

/-- R430: the operating permit ends when the axis is disabled. -/
def Dev.dropPermit (d : Dev) (a : Nat) : Dev :=
  match d.saxisOf a with
  | some k => d.setPermit k false
  | none => d

/-- R431: whether a disabled LOCAL safe axis may hold the test permit. -/
def Dev.testOk (d : Dev) (k : Nat) (a : AxisRec) : Bool :=
  let legs := [a.leg, a.leg + 1, a.leg + 2]
  a.kind == 0 && !d.axEnabled a.axis && d.safeState == 2 && d.saReact k == 0 && !d.bit (R.SAFE_SA_STAT k) F.SAFE_SA_STAT.LATCH &&
    !d.bit (R.SAFE_SA_STAT k) F.SAFE_SA_STAT.SFAULT && !d.inDemand k &&
    legs.all (fun l => d.bit (legReg R.PWM_LEG_CFG l) F.PWM_LEG_CFG.SRC) && legs.any (fun l => d.bit (legReg R.PWM_LEG_CTL l) F.PWM_LEG_CTL.DEN)

/-- R430, R431: the permits of a safe axis in a cycle. -/
def Dev.permitCycle (d : Dev) (k : Nat) : Dev :=
  match d.axisOfSa k with
  | none => d
  | some a =>
    let test := d.axs.testPermit.contains a.axis
    if d.testOk k a then
      if test then d
      else if d.stofbEarly a.axis then d.saFault k 2
      else ({ d with axs := { d.axs with testPermit := d.axs.testPermit ++ [a.axis] } } : Dev).setPermit k true
    else
      let d1 := if test then { d with axs := { d.axs with testPermit := d.axs.testPermit.filter (· != a.axis) } } else d
      if !d1.axEnabled a.axis || d1.axState a.axis == 6 then d1.setPermit k false else d1

/-! ### Inputs (R432, R433) -/

/-- R432, R460: a contact in its demand state; QUAL = 0 counts as in demand. -/
def Dev.contactDemand (d : Dev) (ch : Nat) (closedIsDemand : Bool) : Bool := !d.dioQual ch || (d.dioIn ch == closedIsDemand)

/-- R433: the bank of an input pair is latched off or carries FIELD_LOW. -/
def Dev.pairBankLost (d : Dev) (ch : Nat) : Bool :=
  let st := R.DIO_BANK_STAT (ch / 16)
  d.bit st F.DIO_BANK_STAT.BANKOFF || d.bit st F.DIO_BANK_STAT.FIELDLOW

/-- R432, R433, R466: an input pair in a cycle. A contact that follows the other later than DISC has not followed within DISC. -/
def Dev.pairCycle (d : Dev) (rec_ : List Byte) : Dev :=
  let p := uAt rec_ 1 1
  let ch := 16 * (p / 4) + 2 * (p % 4)
  let r := R.SAFE_IN p
  let a := d.contactDemand ch false
  let b := d.contactDemand (ch + 1) (uAt rec_ 2 1 == 1)
  let x : SafePair := tget d.safe.pairs p {}
  let discf := d.bit r F.SAFE_IN.DISCF
  let late := !discf && (match x.since with
    | some t => decide (t + uAt rec_ 3 2 * 1000000 < d.ns)
    | none => false)
  let y : SafePair := {
    since := if a == b then none else some (x.since.getD d.ns)
    both := (x.both || (a && b)) && !late
    owes := x.owes || d.pairBankLost ch }
  let d1 := ({ d with safe := { d.safe with pairs := tset d.safe.pairs p y } } : Dev).setFld r F.SAFE_IN.CONTACT
    ((if d.dioIn ch then 1 else 0) + (if d.dioIn (ch + 1) then 2 else 0))
  if late then (((d1.setFld r F.SAFE_IN.DISCF 1).setFld r F.SAFE_IN.DEMAND 1).inc R.SAFE_CNT_DISC).evObj 0xD005 5 p
  else d1.setFld r F.SAFE_IN.DEMAND (if a || b || discf || y.owes then 1 else 0)

/-! ### Safe position and speed (R423) -/

/-- The safe position of a safe axis, where its source gives one. -/
def Dev.safePos (d : Dev) (r : List Byte) : Option Int :=
  match uAt r 6 1 with
  | 1 => some (wrapI 32 (d.enc (uAt r 7 1)).p)
  | 2 => if d.connGood (uAt r 5 1) then some (sAt (d.conn (uAt r 5 1)).data 4 4) else none
  | _ => none

/-- R423: safe position, safe speed and deviation in a cycle. A speed or a position of the axis that has no value in its register is free. -/
def Dev.posCycle (d : Dev) (r : List Byte) : Dev :=
  let k := uAt r 1 1
  match d.safePos r with
  | none => d.setSax k { d.sax k with pos := [], devN := 0 }
  | some p =>
    let x := d.sax k
    let pos := (p :: x.pos).take 9
    let d1 := d.setRegI (R.SAFE_SA_POS k) p
    let v := d1.fit32 (wrapI 32 (p - pos.getD 8 0) * 1000)
    let d2 := if pos.length = 9 then v.2.setRegI (R.SAFE_SA_VEL k) v.1 else d1
    let dev := match d.axisOfSa k with
      | some a => wrapI 32 (p - d.chanI a.fb)
      | none => 0
    let n := if decide ((uAt r 8 4 : Int) < dev.natAbs) then x.devN + 1 else 0
    let d3 := (d2.setRegI (R.SAFE_SA_DEV k) dev).setSax k { x with pos := pos, devN := n }
    if 8 ≤ n then d3.saFault k 5 else d3

/-- TORQUE of a safe axis: STOFB, or what the drive reports; a lost connection counts as torque present (R416, R449). -/
def Dev.torque (d : Dev) (r : List Byte) : Bool :=
  if uAt r 4 1 == 0 then d.safe.stofb.contains (uAt r 1 1)
  else !d.connGood (uAt r 5 1) || bitAt (uAt (d.conn (uAt r 5 1)).data 0 1) 0

/-- R421, R422, R439: the permit path of a safe axis is checked. -/
def Dev.pathCycle (d : Dev) (r : List Byte) : Dev :=
  let k := uAt r 1 1
  let c := uAt r 5 1
  let t := d.torque r
  let d1 := d.setFld (R.SAFE_SA_STAT k) F.SAFE_SA_STAT.TORQUE (if t then 1 else 0)
  if uAt r 4 1 == 0 then
    let n := if t == d.permit k then 0 else (d.sax k).misN + 1
    let d2 := d1.setSax k { d1.sax k with misN := n }
    if 8 ≤ n then d2.saFault k 1 else d2
  else if !d.connGood c then
    if d.permit k && d.saReact k != 2 then d1.saSto k 0xFF else d1
  else if bitAt (uAt (d.conn c).data 0 1) 1 then d1.saFault k 4
  else
    match (d.sax k).offNs with
    | some n => if t && !d.permit k && decide (n + 3500000 ≤ d.ns) then d1.saFault k 3 else d1
    | none => d1

/-! ### Functions (R425 to R428) -/

/-- The trigger of a function in demand. -/
def Dev.trigger (d : Dev) (r : List Byte) : Bool :=
  let n := uAt r 4 2
  match uAt r 3 1 with
  | 0 => true
  | 1 => d.bit (R.SAFE_IN n) F.SAFE_IN.DEMAND
  | 2 =>
    let t := Config.remoteTrigger n
    !d.connGood t.1 || !bitAt (uAt (d.conn t.1).data 0 2) t.2
  | _ => d.bit (R.GORSE_ARM_STAT n) F.GORSE_ARM_STAT.STOPREQ

/-- R425: the demand of a function on one safe axis, and the function's state after. A safe position that the drive's connection does not
deliver has the safe value "demand" (R416, R439): SLS, SLP and SDI are in demand. -/
def Dev.fnOnAxis (d : Dev) (r : List Byte) (active was : Bool) (x : SafeFn) (k : Nat) : SafeFn × Bool :=
  let pos := d.regI (R.SAFE_SA_POS k)
  let lost := match d.saxis k with
    | some a => uAt a 6 1 == 2 && !d.connGood (uAt a 5 1)
    | none => false
  let lim1 := sAt r 10 4
  let lim2 := sAt r 14 4
  if !active then ({ ovr := [], ref := [] }, false)
  else if lost && decide (2 ≤ uAt r 2 1) && decide (uAt r 2 1 ≤ 4) then ({ ovr := tset x.ovr k 0, ref := x.ref.filter (fun e => e.1 != k) }, true)
  else match uAt r 2 1 with
    | 2 =>
      let n := if decide ((uAt r 10 4 : Int) < (d.regI (R.SAFE_SA_VEL k)).natAbs) then tget x.ovr k 0 + 1 else 0
      ({ x with ovr := tset x.ovr k n }, decide (2 ≤ n))
    | 3 => (x, decide (pos < lim1) || decide (lim2 < pos))
    | 4 =>
      let ref := if was then tget x.ref k pos else pos
      ({ x with ref := tset x.ref k ref }, decide (lim2 < -(lim1 * wrapI 32 (pos - ref))))
    | _ => (x, true)

/-- R425 to R428: a function in a cycle. -/
def Dev.fnCycle (d : Dev) (r : List Byte) : Dev :=
  let f := uAt r 1 1
  let kind := uAt r 2 1
  let reg := R.SAFE_FN f
  let trig := d.trigger r
  let active := kind == 5 || trig
  let was := d.bit reg F.SAFE_FN.ACTIVE
  let scope := d.scopeOf r
  let x : SafeFn := tget d.safe.fns f {}
  let res := scope.foldl (fun (acc : SafeFn × Bool) k => let y := d.fnOnAxis r active was acc.1 k; (y.1, acc.2 || y.2)) (x, false)
  let demand := if decide (kind < 2) || kind == 5 then trig else res.2
  let d1 := (({ d with safe := { d.safe with fns := tset d.safe.fns f res.1 } } : Dev).setFld reg F.SAFE_FN.ACTIVE
    (if active then 1 else 0)).setFld reg F.SAFE_FN.DEMAND (if demand then 1 else 0)
  let d2 := if demand && !d.bit reg F.SAFE_FN.DEMAND then
      (if decide (2 ≤ kind) && decide (kind ≤ 4) then d1.setFld reg F.SAFE_FN.VIOL 1 else d1).evObj 0xD001 6 f
    else d1
  if demand then d2.each scope (fun d k => d.takeReaction k f kind (uAt r 9 1)) else d2

/-- R426: the envelope, standstill and the end of SS1. -/
def Dev.ss1Cycle (d : Dev) (r : List Byte) : Dev :=
  let k := uAt r 1 1
  let x := d.sax k
  match x.ss1 with
  | none => d
  | some (_, v0, t0) =>
    let fn := d.fld (R.SAFE_SA_STAT k) F.SAFE_SA_STAT.FN
    let v : Int := (d.regI (R.SAFE_SA_VEL k)).natAbs
    let t : Int := d.ns - t0
    let ovr := decide ((uAt r 12 2 : Int) * 1000000 ≤ t)
    if uAt r 6 1 == 0 then if ovr then d.saSto k fn else d
    else
      let n := if v ≤ uAt r 14 4 then x.standN + 1 else 0
      let bad := decide (((v0.natAbs : Int) + uAt r 22 4 - v) * 1000000000 < (uAt r 18 4 : Int) * t)
      let d1 := d.setSax k { x with standN := n }
      if bad then (d1.evObj 0xD00A 6 k).saSto k fn
      else if decide (8 ≤ n) || ovr then d1.saSto k fn
      else d1

/-! ### Acknowledgement (R429) -/

/-- The cause of SFAULT of a safe axis still holds. -/
def Dev.faultHolds (d : Dev) (r : List Byte) : Bool :=
  let k := uAt r 1 1
  let x := d.sax k
  match x.cause with
  | 1 => decide (0 < x.misN)
  | 2 => d.safe.stofb.contains k
  | 3 => d.torque r
  | 4 => !d.connGood (uAt r 5 1) || bitAt (uAt (d.conn (uAt r 5 1)).data 0 1) 1
  | 5 => decide (0 < x.devN)
  | _ => false

/-- R429: the latches of a safe axis; the answer counts those cleared. -/
def Dev.ackAxis (d : Dev) (r : List Byte) : Dev × Nat :=
  let k := uAt r 1 1
  let st := R.SAFE_SA_STAT k
  let sf := d.bit st F.SAFE_SA_STAT.SFAULT
  let d0 := if sf && (d.sax k).cause == 4 then d.setSax k { d.sax k with fack := true } else d
  let clrF := sf && !d.faultHolds r
  let d1 := if clrF then (d0.setFld st F.SAFE_SA_STAT.SFAULT 0).setSax k { d0.sax k with cause := 0 } else d0
  let hold := d1.bit st F.SAFE_SA_STAT.SFAULT || d1.inDemand k || (d1.sax k).ss1.isSome || (uAt r 4 1 == 1 && !d1.connGood (uAt r 5 1))
  if d1.bit st F.SAFE_SA_STAT.LATCH && !hold then
    (((d1.setFld st F.SAFE_SA_STAT.LATCH 0).setFld st F.SAFE_SA_STAT.REACT 0).setFld st F.SAFE_SA_STAT.FN 0xFF, if clrF then 2 else 1)
  else (d1, if clrF then 1 else 0)

/-- R466, R468: an acknowledgement ends what keeps an input pair in demand, once its bank is no longer lost. -/
def Dev.safePairAck (d : Dev) (r : List Byte) : Dev :=
  let p := uAt r 1 1
  let x : SafePair := tget d.safe.pairs p {}
  { d with safe := { d.safe with pairs := tset d.safe.pairs p { x with owes := x.owes && d.pairBankLost (16 * (p / 4)) } } }

/-- R429, R433, R466: an acknowledgement. -/
def Dev.acknowledge (d : Dev) : Dev :=
  let d0 := { d with safe := { d.safe with ack := false } }
  let x1 := (d0.safeRecs 3).foldl (fun (acc : Dev × Nat) r =>
    let p := uAt r 1 1
    if acc.1.bit (R.SAFE_IN p) F.SAFE_IN.DISCF && (tget acc.1.safe.pairs p {}).both then
      (acc.1.setFld (R.SAFE_IN p) F.SAFE_IN.DISCF 0, acc.2 + 1)
    else acc) ((d0.each (d0.safeRecs 3) Dev.safePairAck).each [0, 1, 2, 3] Dev.dioReclose, 0)
  let x2 := (d0.safeRecs 5).foldl (fun (acc : Dev × Nat) r =>
    let reg := R.SAFE_FN (uAt r 1 1)
    if acc.1.bit reg F.SAFE_FN.VIOL && !acc.1.bit reg F.SAFE_FN.DEMAND then (acc.1.setFld reg F.SAFE_FN.VIOL 0, acc.2 + 1) else acc) x1
  let x3 := (d0.safeRecs 2).foldl (fun (acc : Dev × Nat) r => let y := acc.1.ackAxis r; (y.1, acc.2 + y.2)) x2
  x3.1.ev 0xD004 2 [wN x3.2]

/-- R445: ACKIN and ACKHOST of GLOBAL. -/
def Dev.safeGlobal (d : Dev) : Nat × Bool :=
  match d.safeRecs 1 with
  | g :: _ => (uAt g 1 1, uAt g 2 1 == 1)
  | [] => (0xFF, false)

/-- R429: a falling edge of the acknowledgement input asks for an acknowledgement. -/
def Dev.ackInput (d : Dev) : Dev :=
  let ch := d.safeGlobal.1
  if 64 ≤ ch then d
  else
    let l := d.dioIn ch
    { d with safe := { d.safe with ackLvl := l, ack := d.safe.ack || (d.safe.ackLvl && !l && d.safeState == 2) } }

/-! ### Outputs and the cycle (R415, R434) -/

/-- R434: the safety outputs. -/
def Dev.soutCycle (d : Dev) : Dev :=
  d.each (d.safeRecs 6) (fun d r =>
    let ch := uAt r 1 1
    let on := d.safeState == 2 && (uAt r 2 1 == 0xFF || !d.fnDemand (uAt r 2 1))
    if (d.dioCh ch).permit == on then d else (d.setDioCh ch { d.dioCh ch with permit := on }).dioDrive ch)

/-- R447: DEMAND and ACKREQ. -/
def Dev.safeShow (d : Dev) : Dev :=
  let demand := (d.safeRecs 5).any (fun r => d.fnDemand (uAt r 1 1))
  let latch := d.saxes.any (fun k => d.bit (R.SAFE_SA_STAT k) F.SAFE_SA_STAT.LATCH || d.bit (R.SAFE_SA_STAT k) F.SAFE_SA_STAT.SFAULT) ||
    (d.safeRecs 5).any (fun r => d.bit (R.SAFE_FN (uAt r 1 1)) F.SAFE_FN.VIOL) ||
    (d.safeRecs 3).any (fun r => d.bit (R.SAFE_IN (uAt r 1 1)) F.SAFE_IN.DISCF)
  (d.setFld R.SAFE_STAT F.SAFE_STAT.DEMAND (if demand then 1 else 0)).setFld R.SAFE_STAT F.SAFE_STAT.ACKREQ (if latch then 1 else 0)

/-- R211, R430: the STO reactions of axes that the safety processor is asked to carry out: the permit is withdrawn. -/
def Dev.stoCycle (d : Dev) : Dev :=
  let d1 := d.each d.axs.stoReq (fun d a => match d.saxisOf a with
    | some k => if d.permit k then (d.setPermit k false).evObj 0xD003 6 k else d
    | none => d)
  { d1 with axs := { d1.axs with stoReq := [] } }

/-- R415: a safety cycle, at each base tick n with n mod 4 = 0: `stofb` are the safe axes whose STOFB is active, `xc` the results of the
cross-check (R405). An engine whose halt waited for the withdrawal of a permit halts here (R606). -/
def Dev.safetyCycle (d : Dev) (stofb : List Nat) (xc : List (Nat × Int × Int × Option (Int × Int))) : Dev :=
  let n := d.time.tick
  if n % 4 != 0 || d.safe.tick == some n then d
  else
    let dh := d.each d.sec.haltAsk (fun d e => d.haltEngine e)
    let d0 : Dev := { dh with safe := { dh.safe with tick := some n, stofb := stofb }, sec := { dh.sec with haltAsk := [] } }
    match d0.safeState with
    | 1 =>
      if d0.running then
        ((d0.setFld R.SAFE_STAT F.SAFE_STAT.STATE 2).setFld R.SAFE_STAT F.SAFE_STAT.ARMED 1).soutCycle
      else d0
    | 2 =>
      let d1 := (d0.crossCheck xc).each (d0.safeRecs 3) (fun d r => d.pairCycle r)
      let d2 := d1.each (d1.safeRecs 2) (fun d r => (d.posCycle r).pathCycle r)
      let d3 := d2.each (d2.safeRecs 5) (fun d r => d.fnCycle r)
      let d4 := (d3.each (d3.safeRecs 2) (fun d r => d.ss1Cycle r)).stoCycle.ackInput
      let d5 := if d4.safe.ack then d4.acknowledge else d4
      ((d5.each d5.saxes (fun d k => d.permitCycle k)).soutCycle).safeShow
    | _ => d0

/-! ### Processor faults (R416 to R418) -/

/-- R418: a processor fault; with causes 1, 5 and 7 the safety monitor of R416 acts. -/
def Dev.procFault (d : Dev) (cause : Nat) : Dev :=
  if d.safeState == 3 then d
  else
    let d1 := ((((d.setFld R.SAFE_STAT F.SAFE_STAT.STATE 3).setFld R.SAFE_STAT F.SAFE_STAT.ARMED 0).setFld R.SAFE_STAT F.SAFE_STAT.FCAUSE
      cause).ev 0xD008 7 [wN cause])
    let mon := cause == 1 || cause == 5 || cause == 7
    let d2 : Dev := { d1 with safe := { d1.safe with monitor := mon, conns := if mon then d1.safe.conns.map (fun e => (e.1, { e.2 with frags := [] }))
                                                                    else d1.safe.conns } }
    let d3 := (d2.each d2.saxes (fun d k => if d.saReact k == 2 then d else d.saSto k 0xFF)).soutCycle
    if mon then
      d3.each [0, 1, 2, 3] (fun d b => if (d.safeRecs 6).any (fun r => uAt r 1 1 / 16 == b) then d.dioDisconnect b else d)
    else d3

/-- R417, R446: the CRC of the SAFETY section. -/
def Image.safetyCrc (i : Image) : Word := crc32c i.safety.flatten

/-- R417: the check of firmware and of the SAFETY section, every 10 s. -/
def Dev.romCheck (d : Dev) (fwOk : Bool) : Dev :=
  if d.safeState == 3 || !d.since d.safe.romClk (clksOfMs 10000) then d
  else
    let d1 : Dev := { d with safe := { d.safe with romClk := d.clk } }
    if fwOk && (d.loader.image.isNone || d.img.safetyCrc = d.reg R.SAFE_SECTCRC) then d1 else d1.procFault 3

/-- R417: the self-test, every 100 ms. -/
def Dev.cpuTest (d : Dev) (ok : Bool) : Dev :=
  if d.safeState == 3 || !d.since d.safe.testClk (clksOfMs 100) then d
  else
    let d1 : Dev := { d with safe := { d.safe with testClk := d.clk } }
    if ok then d1 else d1.procFault 4

/-- R454: the diagnostics that run in BOOT are complete. -/
def Dev.diagComplete (d : Dev) (cause : Nat) : Dev :=
  if d.safeState != 0 then d
  else if cause = 0 then d.setFld R.SAFE_STAT F.SAFE_STAT.STATE 1
  else d.procFault cause

/-! ### Connections (R436 to R439) -/

/-- R439: a connection becomes LOST. -/
def Dev.connLost (d : Dev) (c : Nat) : Dev :=
  if d.connState c == 3 then d
  else
    let d1 := ((d.setFld (R.SAFE_CONN_STAT c) F.SAFE_CONN_STAT.STATE 3).setConn c { d.conn c with seqN := 0, data := [], discs := [] }).evObj
      0xD006 5 c
    match d.sconn c with
    | some r => if uAt r 2 1 == 1 then d1.sensorDrop c else d1
    | none => d1

/-- R436: one carrier unit is taken: its fragment is appended to the partial message or starts one; a complete message waits for its
check. -/
def Dev.safetyFragment (d : Dev) (c : Nat) : Dev :=
  let x := d.conn c
  match x.inbox with
  | [] => d
  | (f, stamp) :: rest =>
    let y := { x with inbox := rest }
    match f with
    | [] => d.setConn c { y with part := none }
    | h :: bytes =>
      let n := h.toNat % 64
      let part := if n = 0 then x.part
        else if 128 ≤ h.toNat then some (slice bytes 0 n)
        else x.part.map (fun p => p ++ slice bytes 0 n)
      match part with
      | none => d.setConn c { y with part := none }
      | some p =>
        let len := uAt p 10 2
        if decide (12 ≤ p.length) && (decide (520 < len) || decide (16 + len ≤ p.length)) then
          d.setConn c { y with part := none, full := y.full ++ [(p, stamp, d.ns)] }
        else d.setConn c { y with part := some p }

/-- A discarded message is counted. -/
def Dev.connErr (d : Dev) (c : Nat) (cnt : Reg) : Dev := (d.inc cnt).bump (R.SAFE_CONN_CNT c) F.SAFE_CONN_CNT.ERR 1

/-- R438, R439: the time within which the next accepted message must arrive, in ns. -/
def connWdNs (r : List Byte) (x : SafeConn) : Nat := min x.wdt (uAt r 21 2) * 100000

/-- R438, R439, R442: an accepted message. `base` says that it gives a new baseline. -/
def Dev.accept (d : Dev) (c : Nat) (r m : List Byte) (stamp : Word) (at_ : Nat) (base : Bool) : Dev :=
  let st := R.SAFE_CONN_STAT c
  let fs := bitAt (uAt m 8 1) 0
  let payload := slice m 12 (uAt m 10 2)
  let x := d.conn c
  let n := if base then 0 else x.seqN + 1
  let now := d.connState c
  let d1 := (((d.setConn c { x with seqN := n, wdt := uAt m 6 2, arr := at_, data := payload }).setFld st F.SAFE_CONN_STAT.LASTSEQ
    (uAt m 4 2)).setFld st F.SAFE_CONN_STAT.FAILSAFE (if fs then 1 else 0)).setReg (R.SAFE_CONN_TIME c) (wN at_)
  let d2 := if base then d1.setFld st F.SAFE_CONN_STAT.STATE 2
    else if now == 2 && decide (2 ≤ n) then (d1.setFld st F.SAFE_CONN_STAT.STATE 1).evObj 0xD007 2 c
    else d1
  if d2.connState c == 1 && uAt r 2 1 == 1 then
    if fs then d2.sensorDrop c else d2.capsuleReport c payload (if uAt r 3 1 == 1 then some stamp else none)
  else d2

/-- R438: the checks on a complete message, in order. -/
def Dev.safetyMessage (d : Dev) (c : Nat) : Dev :=
  let x := d.conn c
  match x.full, d.sconn c with
  | (m, stamp, at_) :: rest, some r =>
    let d0 := d.setConn c { x with full := rest }
    let len := uAt m 10 2
    if decide (520 < len) || m.length != 16 + len then d0.connErr c R.SAFE_CNT_REASM
    else if uAt m (12 + len) 4 != (crc32c (slice m 0 (12 + len))).toNat then d0.connErr c R.SAFE_CNT_CRC
    else if uAt m 0 4 != uAt r 13 4 then (d0.bump (R.SAFE_CONN_CNT c) F.SAFE_CONN_CNT.ERR 1).connLost c
    else
      let d1 := if (d0.connState c == 1 || d0.connState c == 2) && decide (x.arr + connWdNs r x < at_) then d0.connLost c else d0
      if d1.connState c == 3 then d1.accept c r m stamp at_ true
      else
        let k := (uAt m 4 2 + 65536 - d1.fld (R.SAFE_CONN_STAT c) F.SAFE_CONN_STAT.LASTSEQ) % 65536
        if k = 0 then d1
        else if k ≤ 4 then (d1.bump (R.SAFE_CONN_CNT c) F.SAFE_CONN_CNT.LOST (k - 1)).accept c r m stamp at_ false
        else
          let y := d1.conn c
          let ds := at_ :: (y.discs.filter (fun t => decide (at_ ≤ t + 1000000000)))
          let d2 := (d1.connErr c R.SAFE_CNT_SEQ).setConn c { y with discs := ds.take 3 }
          if 3 ≤ ds.length then d2.connLost c else d2
  | _, _ => d

/-- R438: the watchdog of a connection. -/
def Dev.connWatch (d : Dev) (c : Nat) : Dev :=
  match d.sconn c with
  | none => d
  | some r =>
    let x := d.conn c
    if (d.connState c == 1 || d.connState c == 2) && decide (x.arr + connWdNs r x < d.ns) then d.connLost c else d

/-! ### Start (R454) -/

/-- R454: what any reset leaves of the safety processor: every permit off, the state in BOOT. Registers are reset by their class. -/
def Dev.safeBoot (d : Dev) : Dev :=
  { d with safe := { romClk := d.clk, testClk := d.clk }, axs := { d.axs with testPermit := [], stoReq := [] } }

/-- R446, R454: the safety processor takes the section of a new image and starts again in CHECK. -/
def Dev.safeTake (d : Dev) : Dev :=
  if d.safeState == 3 then d
  else
    let d1 := ((({ d with safe := { romClk := d.safe.romClk, testClk := d.safe.testClk, tick := d.safe.tick } } : Dev).setFld R.SAFE_STAT
      F.SAFE_STAT.STATE (if d.safeState == 0 then 0 else 1)).setFld R.SAFE_STAT F.SAFE_STAT.ARMED 0).setReg R.SAFE_SECTCRC d.img.safetyCrc
    let d2 := d1.each (List.range 256) (fun d c =>
      let e := (d.clearReg (R.SAFE_SA_STAT c)).clearReg (R.SAFE_CONN_STAT c)
      if (d.sconn c).isSome then e else e.setReg (R.SAFE_CONN_STAT c) 0)
    let d3 := (d2.each (List.range 128) (fun d f => d.clearReg (R.SAFE_FN f))).each (List.range 16) (fun d p => d.clearReg (R.SAFE_IN p))
    d3.soutCycle.safeShow

/-- R454: P4 loses the connections on the lines. -/
def Dev.lineConnsLost (d : Dev) : Dev :=
  d.each ((d.safeRecs 4).filter (fun r => uAt r 3 1 == 0)) (fun d r => d.connLost (uAt r 1 1))

/-- R455: the safe axes that a task serves: those of the axes whose LAWTASK it is, of the arms whose IK task it is, and those whose
channels it produces. -/
def Dev.saxesOfTask (d : Dev) (t : Nat) : List Nat :=
  d.saxes.filter (fun k => match d.axisOfSa k with
    | none => false
    | some a => a.law == t || (a.kind == 1 && (d.armsOfTask t).contains a.arm) ||
      (match d.chanRec a.fb with
        | some c => c.kind == 2 && c.producer == t
        | none => false))

/-- R455: a debug halt of a safety-relevant task applies STO before the halt. -/
def Dev.debugSto (d : Dev) (t : Nat) : Dev :=
  let ks := d.saxesOfTask t
  if !d.bit R.SAFE_STAT F.SAFE_STAT.ARMED || ks.isEmpty then d
  else (d.each ks (fun d k => if d.saReact k == 2 then d else d.saSto k 0xFF)).evObj 0xD00B 6 t (wordsList ks)

/-! ### Commands -/

/-- SAFETY_CYCLE (R415). -/
def execSafetyCycle (stofb : List Nat) (xc : List (Nat × Int × Int × Option (Int × Int))) (s : State) : Host.Outcome State Fault Refusal :=
  s.run (fun d => d.safetyCycle stofb xc)

/-- ACK_INPUT_EDGE (R429). -/
def execAckInputEdge (s : State) : Host.Outcome State Fault Refusal := s.run (fun d => d.ackInput)

/-- PROCESSOR_FAULT (R418). -/
def execProcessorFault (cause : Nat) (s : State) : Host.Outcome State Fault Refusal :=
  s.runIf (decide (1 ≤ cause) && decide (cause ≤ 7)) (fun d => d.procFault cause)

/-- ROM_CHECK (R417). -/
def execRomCheck (fwOk : Bool) (s : State) : Host.Outcome State Fault Refusal := s.run (fun d => d.romCheck fwOk)

/-- CPU_SELF_TEST (R417). -/
def execCpuSelfTest (ok : Bool) (s : State) : Host.Outcome State Fault Refusal := s.run (fun d => d.cpuTest ok)

/-- SAFETY_FRAGMENT (R436). -/
def execSafetyFragment (c : Nat) (s : State) : Host.Outcome State Fault Refusal :=
  s.runIf (decide (c < 256)) (fun d => d.safetyFragment c)

/-- SAFETY_MESSAGE (R438). -/
def execSafetyMessage (c : Nat) (s : State) : Host.Outcome State Fault Refusal :=
  s.runIf (decide (c < 256)) (fun d => d.safetyMessage c)

/-- SAFETY_WATCHDOG (R438). -/
def execSafetyWatchdog (c : Nat) (s : State) : Host.Outcome State Fault Refusal :=
  s.runIf (decide (c < 256)) (fun d => d.connWatch c)

/-- SAFETY_SEND (R440). -/
def execSafetySend (c : Nat) (s : State) : Host.Outcome State Fault Refusal :=
  s.runIf (decide (c < 256)) (fun d => d.safetySend c)

/-- SAFE_DIAG_COMPLETE (R454). -/
def execSafeDiagComplete (cause : Nat) (s : State) : Host.Outcome State Fault Refusal :=
  s.runIf (decide (cause ≤ 7)) (fun d => d.diagComplete cause)

end Sys2Proof.Machine
end

