-- ==== Sys2Proof/Machine/AxisCtl.lean ====
section
/-! DEFINITION. Writes of AXIS_CTL: enable and disable (R214, R215), manual operation (R216), law transfers (R217) and CLRFLT (R212). -/

namespace Sys2Proof.Machine

open Sys2Proof

/-- R243, R248, R251, R263: whether the carrier and the inputs of a LOCAL axis let it be enabled. -/
def Dev.localReady (d : Dev) (r : AxisRec) : Bool :=
  let c := r.conn
  let floor := d.dtFloor c
  d.bit (R.PWM_DRV_STAT c) F.PWM_DRV_STAT.PRESENT && d.bit (R.PWM_DRV_STAT c) F.PWM_DRV_STAT.TYPEOK && d.sdReady c &&
  ([r.leg, r.leg + 1, r.leg + 2].all (fun l =>
    decide (floor ≤ d.fld (legReg R.PWM_LEG_DT l) F.PWM_LEG_DT.DTMAX) ||
    dtSumOk (d.fld (legReg R.PWM_LEG_CFG l) F.PWM_LEG_CFG.MINP) floor (d.pwmNs c)))

/-- R413: a JOINT axis of a monitored arm waits for Gorse. -/
def Dev.gorseGates (d : Dev) (r : AxisRec) : Bool := r.kind == 1 && d.monitored.contains r.arm

/-- R613: a halt asked for in the present safety cycle, of an engine that runs the axis's LAWTASK. -/
def Dev.haltPending (d : Dev) (r : AxisRec) : Bool :=
  match d.taskRec r.law with
  | some t => d.sec.haltAsk.contains t.engine
  | none => false

/-- R36, R212, R214, R251, R413, R430, R613, R624: whether an axis can be enabled, apart from the check of STOFB (R421). -/
def Dev.enableOk (d : Dev) (a : Nat) : Bool :=
  match d.axisRec a with
  | none => false
  | some r =>
    d.running && d.settled && decide (d.pstate ≤ 2) && d.fbNow a && d.axState a == 0 &&
    d.fld (R.AXIS_STAT a) F.AXIS_STAT.REACT == 0 && !(d.axs.stoReq.contains a) && !d.bit R.SYS_PF_STAT F.SYS_PF_STAT.PFW &&
    (r.kind != 0 || d.localReady r) && (!d.gorseGates r || d.gorseState == 3) && !d.haltPending r && d.permitOk a

/-- R214 to R218, R431: the checks of a write of AXIS_CTL. -/
def Dev.axCtlCheck (d : Dev) (a : Nat) (old new : Word) : List Status :=
  let en := getF new F.AXIS_CTL.EN == 1
  let enCh := getF old F.AXIS_CTL.EN != getF new F.AXIS_CTL.EN
  let manCh := getF old F.AXIS_CTL.MAN != getF new F.AXIS_CTL.MAN
  let st := d.axState a
  let fast := (st == 2 || st == 3) && decide ((d.reg (R.AXIS_STBY a)).toNat < (d.axSt a).vel.natAbs)
  [need (!(enCh && en) || (d.enableOk a && !d.stofbEarly a)) .notReady,
   need (!(enCh && en) || !d.axs.testPermit.contains a) .conflict,
   need (!enCh || st != 4) .conflict,
   need (!(enCh && !en) || !fast) .conflict,
   need (!manCh || d.fld (R.AXIS_STAT a) F.AXIS_STAT.REACT == 0) .conflict]

/-- What a refused enable leaves: with STOFB active a safe-axis fault (R421); a retained Gorse wakes (R413). -/
def Dev.enableRefused (d : Dev) (a : Nat) : Dev :=
  match d.axisRec a with
  | none => d
  | some r =>
    if d.enableOk a && d.stofbEarly a then (match d.saxisOf a with | some k => d.saFault k 2 | none => d)
    else if d.gorseGates r && d.gorseState == 1 then d.gorseWake
    else d

/-- R214: an axis is enabled: states and histories at zero, the set-point at the actual position, the permit granted; the plausibility model starts from the
present values (R208). -/
def Dev.enableAxis (d : Dev) (a : Nat) : Dev :=
  let pos := match d.axisRec a with
    | some r => d.chanI r.fb
    | none => (d.axSt a).pos
  let d1 := (d.updAxSt a (fun x => { x.zeroed with
    pos := pos, rampPos := pos, manual := false, bad := 0, lost := false, reactTick := none })).primeModel a
  let d2 := match d1.axisRec a with
    | some r => if r.kind == 0 then d1.legsEnable r.leg else d1
    | none => d1
  let d3 := ((d2.setFld (R.AXIS_STAT a) F.AXIS_STAT.STATE 1).motEnable a).grantPermit a
  d3.evObj 0x6001 1 a

/-- R215: an axis is disabled: outputs at zero, legs off, no permit. -/
def Dev.disableAxis (d : Dev) (a : Nat) : Dev :=
  let d1 := ((d.outputsZero a).updAxSt a (fun x => { x with manual := false })).setFld (R.AXIS_STAT a) F.AXIS_STAT.STATE 0
  ((d1.motDisable a).dropPermit a).evObj 0x6002 1 a

/-- R212, R307: CLRFLT clears VLFLT, and FEFLT and IMPL if their causes no longer hold; on a disabled axis it ends the reaction. -/
def Dev.clrFlt (d : Dev) (a : Nat) : Dev :=
  let st := R.AXIS_STAT a
  let on := d.axEnabled a
  let follows := on && d.follows a
  let implausible := on && d.fld (R.PCFG a) F.PCFG.MODEL != 0 && decide ((d.reg (R.AXIS_PLIM a)).toNat < (d.regI (R.AXIS_PRES a)).natAbs)
  let d1 := d.setFld (R.AXIS_MOT_STAT a) F.AXIS_MOT_STAT.VLFLT 0
  let d2 := if follows then d1 else d1.setFld st F.AXIS_STAT.FEFLT 0
  let d3 := if implausible then d2 else d2.setFld st F.AXIS_STAT.IMPL 0
  if on then d3
  else ((d3.setFld st F.AXIS_STAT.REACT 0).setFld st F.AXIS_STAT.CAUSE 0).setFld st F.AXIS_STAT.PFSTOP 0

/-- R217: the levels of an axis transfer at the next release. -/
def Dev.transferLaw (d : Dev) (a : Nat) (lvls : List Nat) : Dev :=
  d.updAxSt a (fun x => lvls.foldl (fun y l => y.setLevel l { y.level l with transfer := true }) x)

/-- R214 to R217: what a write of AXIS_CTL does; `w` is the written word. -/
def Dev.axCtlDo (d : Dev) (a : Nat) (old new w : Word) : Dev :=
  let d1 := if getF old F.AXIS_CTL.EN != getF new F.AXIS_CTL.EN then
      (if getF new F.AXIS_CTL.EN == 1 then d.enableAxis a else d.disableAxis a)
    else d
  let d2 := if getF old F.AXIS_CTL.BANK != getF new F.AXIS_CTL.BANK then d1.transferLaw a (d.levels a) else d1
  if getF w F.AXIS_CTL.CLRFLT == 1 then d2.clrFlt a else d2

/-! ### Registers of an axis (R206, R209, R221 to R226) -/

/-- R206, R210, R222: the checks of a write of AXIS_REACT. -/
def axReactCheck (old new : Word) : List Status :=
  let ch (f : Fld) : Bool := getF old f != getF new f
  let stop (f : Fld) : Status := need (!ch f || (decide (2 ≤ getF new f) && decide (getF new f ≤ 4))) .badArg
  let any (f : Fld) : Status := need (!ch f || decide (getF new f ≤ 4)) .badArg
  [need (!ch F.AXIS_REACT.FLATEN || getF new F.AXIS_REACT.FLATEN != 0) .badLen, stop F.AXIS_REACT.FBREACT, any F.AXIS_REACT.PREACT,
   any F.AXIS_REACT.FEREACT, stop F.AXIS_REACT.ENGREACT]

/-- R194, R200, R224: the checks of a write of LVL_CFG of level `lvl`. -/
def Dev.lvlCfgCheck (d : Dev) (a lvl : Nat) (old new : Word) : List Status :=
  let law := getF new F.LVL_CFG.LAW
  let obs := getF new F.LVL_CFG.OBS
  [need (getF old F.LVL_CFG.LAW == law || decide (law ≤ 3) || (law == 4 && lvl == 0 && (d.levels a).contains 1 &&
     d.fld (R.LVL_CFG a 1) F.LVL_CFG.LAW == 0)) .badArg,
   need (lvl != 1 || law == 0 || d.fld (R.LVL_CFG a 0) F.LVL_CFG.LAW != 4) .badArg,
   need (getF old F.LVL_CFG.OBS == obs || (obs != 3 && (obs == 0 || lvl == 1))) .badArg]

/-- R209, R226: the checks of a write of PCFG. -/
def Dev.pcfgCheck (d : Dev) (a : Nat) (old new : Word) : List Status :=
  let ch (f : Fld) : Bool := getF old f != getF new f
  let m := getF new F.PCFG.MODEL
  [need (m == 0 || (getF new F.PCFG.PCOUNT != 0 && d.reg (R.AXIS_PLIM a) != 0)) .badLen,
   need (!ch F.PCFG.MODEL || m != 3) .badArg,
   need (!ch F.PCFG.SIG || (getF new F.PCFG.SIG != 3 && (d.levels a).contains (getF new F.PCFG.SIG))) .badArg]

end Sys2Proof.Machine
end

