-- ==== Sys2Proof/Machine/PairCtl.lean ====
section
/-! DEFINITION. The redundant pair (spec/18_redundant_pair.md): the state that its registers show, and the writes of PAIR_CTL. -/

namespace Sys2Proof.Machine

open Sys2Proof

/-- R561: LAG, from the mirror point to the last base tick that has ended. -/
def Dev.lag (d : Dev) : Nat := min (d.time.tick - 1 - d.mpoint) 255

/-- R550: the lines heard: a valid cycle start of the active unit within the last 8 ms, and not relayed; with their period codes. -/
def Dev.heardLines (d : Dev) : List (Nat × Nat × Nat) :=
  allPorts.filterMap (fun p =>
    let x := d.port p
    match x.heardNs with
    | some t => if d.ns ≤ t + 8000000 && !x.relaying then some (p, t, x.heardK) else none
    | none => none)

/-- R550: the period code of P_h. -/
def Dev.phk (d : Dev) : Nat :=
  match d.heardLines.map (fun e => e.2.2) with
  | [] => 0
  | k :: rest => rest.foldl min k

/-- R550, R557: the line path is alive. The standby judges it by what it hears; on the active unit it is alive while some line that runs to
the standby returns its cycle-end markers. -/
def Dev.linesUp (d : Dev) : Bool :=
  if d.fld R.LINE_GSTAT F.LINE_GSTAT.ROLE == 1 then allPorts.any (fun p => d.topo p == 2 && d.sends p && (d.port p).goodLast)
  else d.bit R.PAIR_STAT F.PAIR_STAT.LINESUP

/-- R557: the active unit takes no host commands from T − 125 µs on. -/
def Dev.handingOver (d : Dev) : Bool :=
  match d.duo.switchT with
  | some t => decide (t ≤ d.ns + 125000)
  | none => false

/-- R557, R560: the checks of a write of PAIR_CTL. -/
def Dev.pairCtlCheck (d : Dev) (w : Word) : List Status :=
  if getF w F.PAIR_CTL.SWITCH == 0 then []
  else
    [need (!d.isStandby) .denied,
     need (d.fld R.LINE_GSTAT F.LINE_GSTAT.ROLE == 1 && d.mstate == 2 && d.bit R.PAIR_STAT F.PAIR_STAT.LINKUP &&
       d.linesUp && d.lag == 0) .notReady,
     need (!((List.range 256).any (fun g => d.grpState g == 1 || d.grpState g == 2))) .conflict,
     need (d.loader.job == .idle) .conflict, need d.duo.switchT.isNone .conflict]

/-- R557, R560: what a write of PAIR_CTL starts. -/
def Dev.pairCtlDo (d : Dev) (w : Word) : Dev :=
  let d1 := if getF w F.PAIR_CTL.SWITCH == 1 then
      d.setDuo { d.duo with switchT := some (boundaryAfter d.ns), handSent := false, handAcked := false }
    else d
  if getF w F.PAIR_CTL.RESYNC == 1 && d.isStandby then d1.askCopy else d1

end Sys2Proof.Machine
end

