-- ==== Sys2Proof/Machine/Security.lean ====
section
/-! DEFINITION. Measurement slots, security states and the debug port (spec/20_security_debug_power.md). -/

namespace Sys2Proof.Machine

open Sys2Proof

/-- The device with the security state set. -/
def Dev.setSec (d : Dev) (x : SecSt) : Dev := { d with sec := x }

/-- Words of bytes, four each, least significant first. -/
def bytesWords (n : Nat) (b : List Byte) : List Word := (List.range n).map (fun k => wN (uAt b (4 * k) 4))

/-- A run of registers set to words. -/
def Dev.setWords (d : Dev) (f : Nat → Reg) (ws : List Word) : Dev := d.each ws.zipIdx (fun d e => d.setReg (f e.2) e.1)

/-- The bytes of a run of `n` registers. -/
def Dev.regBytes (d : Dev) (f : Nat → Reg) (n : Nat) : List Byte := (List.range n).flatMap (fun k => le 4 (d.reg (f k)).toNat)

/-- 48 zero bytes. -/
def zeros48 : List Byte := List.replicate 48 0

/-! ### Measurement (R592 to R595) -/

/-- The 48 bytes of a measurement slot. -/
def Dev.msBytes (d : Dev) (i : Nat) : List Byte := d.regBytes (R.SEC_MS i) 12

/-- R592, R594: an extend of slot `i` with a digest; `op` is the OP of the log's entry. -/
def Dev.extend (d : Dev) (i op : Nat) (dg : List Byte) : Dev :=
  let d1 := (d.setWords (R.SEC_MS i) (bytesWords 12 (sha384 (d.msBytes i ++ dg)))).bump (R.SEC_EXTCNT i) F.SEC_EXTCNT.V 1
  let r : MeasRec := { slot := i, op := op, cnt := d1.fld (R.SEC_EXTCNT i) F.SEC_EXTCNT.V, d := dg, ts := d.ts,
                       boot := (d.reg R.EVT_BOOTNO).toNat }
  let d2 := if d.sec.log.length < 4096 then d1.setSec { d1.sec with log := d1.sec.log ++ [r] }
    else d1.setFld R.SEC_STAT F.SEC_STAT.MLOGFULL 1
  d2.ev 0x1007 1 [wN i]

/-- R594: the 64 bytes of a log entry. -/
def MeasRec.bytes (r : MeasRec) : List Byte :=
  le 1 r.slot ++ le 1 r.op ++ le 2 0 ++ le 4 r.cnt ++ slice r.d 0 48 ++ le 4 r.ts.toNat ++ le 2 r.boot ++ le 2 0

/-- R593: the extend of MS3 at a security event. -/
def Dev.extendEvent (d : Dev) (op new : Nat) (td : List Byte) : Dev := d.extend 3 op (sha384 (le 1 op ++ le 1 new ++ td))

/-! ### Debug sessions (R603 to R607, R612) -/

/-- SEC_STAT.STATE: 0 OPEN, 1 FIELD, 2 SERVICE. -/
def Dev.secState (d : Dev) : Nat := d.fld R.SEC_STAT F.SEC_STAT.STATE

/-- R614: DBG and SCOPE as they stand. -/
def Dev.showDebug (d : Dev) : Dev :=
  let dbg := if d.sec.open_.isSome then 2 else if d.sec.dbgEnd.isSome then 1 else 0
  let scope := if d.sec.open_.isSome && d.secState == 0 then 15 else if d.sec.dbgEnd.isSome then d.sec.dbgScope % 16 else 0
  (d.setFld R.SEC_STAT F.SEC_STAT.DBG dbg).setFld R.SEC_STAT F.SEC_STAT.SCOPE scope

/-- R603: the end of a debug session: halted engines resume, breakpoints go, the TAP returns to IDCODE and BYPASS. A standby that had an
engine halted asks for a full copy (R607). -/
def Dev.endDebug (d : Dev) : Dev :=
  if d.sec.open_.isNone then d
  else
    let halted := (List.range 16).any (fun e => (d.eng e).halted)
    let d1 := d.each (List.range 16) (fun d e =>
      let d1 := d.resumeEngine e
      if (d1.eng e).breaks.isEmpty then d1 else d1.setEng e { d1.eng e with breaks := [] })
    let d2 := ((d1.setSec { d1.sec with open_ := none, denied := [], haltAsk := [] }).ev 0x1005 3).showDebug
    if halted && d.isStandby then d2.askCopy else d2

/-- R604, R612: an operation or a request that is refused. -/
def Dev.debugDenied (d : Dev) (code : Nat) : Dev := (d.inc R.SEC_CNT_DBGDENY).ev 0x1006 4 [Config.debugCode code]

/-- R603, R612: with a request present a session opens in P1 or P0 if the state permits it; a request that is not admitted is ignored, and
DBG_DENIED is logged once for it. -/
def Dev.tryDebug (d : Dev) : Dev :=
  if !d.bit R.SEC_STAT F.SEC_STAT.ATTACH || d.sec.open_.isSome then d
  else if !d.debugAdmitted then
    if d.sec.reqDenied then d else (d.setSec { d.sec with reqDenied := true }).debugDenied 0
  else if 1 < d.pstate || d.bit R.PWR_STAT F.PWR_STAT.TRANS then d
  else
    let src := d.secState
    let scope := if src == 0 then 15 else d.sec.dbgScope % 16
    let td := if src == 0 then zeros48 else d.sec.dbgTd
    let d1 := (d.setSec { d.sec with open_ := some src, denied := [] }).extend 7 0 (sha384 (le 2 scope ++ le 1 src ++ td))
    (d1.ev 0x1004 5 [wN scope, wN src]).showDebug

/-- R604: the scope of the session; none outside a session. -/
def Dev.debugScope (d : Dev) : Nat := if d.sec.open_.isSome then d.fld R.SEC_STAT F.SEC_STAT.SCOPE else 0

/-- R604: an operation outside the scope is refused, once per session and operation. -/
def Dev.refuseDebug (d : Dev) (code : Nat) : Dev :=
  if d.sec.denied.contains code then d else (d.setSec { d.sec with denied := code :: d.sec.denied }).debugDenied code

/-! ### Changes of the security state (R599 to R601) -/

/-- R599: a change of the security state extends MS3 and logs SEC_STATE. -/
def Dev.setSecState (d : Dev) (new op : Nat) (td : List Byte) : Dev :=
  let old := d.secState
  ((d.setFld R.SEC_STAT F.SEC_STAT.STATE new).extendEvent op new td).ev 0x1001 4 [wN old, wN new]

/-- The debug permission ends. -/
def Dev.disarmDebug (d : Dev) : Dev := (d.setSec { d.sec with dbgEnd := none, dbgScope := 0, dbgTd := [] }).showDebug

/-- R599, R603: SERVICE ends: FIELD follows, with the session and the permission of the SERVICE token. -/
def Dev.endService (d : Dev) : Dev :=
  if d.secState != 2 then d
  else
    let d1 := d.endDebug.disarmDebug
    ((d1.setSec { d1.sec with svcEnd := none, svcScope := 0, svcTd := [] }).setSecState 1 6 zeros48).showDebug

/-- R599: the check of a write of SEC_CTL. -/
def Dev.secCtlCheck (d : Dev) (w : Word) : List Status :=
  [need (getF w F.SEC_CTL.LOCK == 0 || d.secState != 0 || d.bit R.SEC_STAT F.SEC_STAT.OWNERSET) .notReady]

/-- R599, R603: what a write of SEC_CTL starts: LOCK, ENDSVC, DBGCLOSE. -/
def Dev.secCtlDo (d : Dev) (w : Word) : Dev :=
  let d1 := if getF w F.SEC_CTL.LOCK == 1 && d.secState == 0 then (d.endDebug.setSecState 1 1 zeros48).showDebug else d
  let d2 := if getF w F.SEC_CTL.ENDSVC == 1 then d1.endService else d1
  if getF w F.SEC_CTL.DBGCLOSE == 1 then d2.endDebug.disarmDebug else d2

/-- R598: the checks of an OWNER_SET. -/
def Dev.ownerSetChecks (d : Dev) (m : List Byte) : List Status :=
  [need ((slice m 16 48).any (· != 0)) .badArg, need (d.secState == 0) .denied, need (!d.bit R.SEC_STAT F.SEC_STAT.OWNERSET) .conflict]

/-- R598: OWNER_SET. -/
def Dev.ownerSetMsg (d : Dev) (m : List Byte) : Dev × Status × List Byte :=
  let h := slice m 16 48
  let st := lowest (d.ownerSetChecks m)
  if st != .ok then (d, st, [])
  else
    let d1 := (d.setWords R.SEC_OWNER_HASH (bytesWords 12 h)).setFld R.SEC_STAT F.SEC_STAT.OWNERSET 1
    ((d1.extendEvent 2 0 h).ev 0x1002 5, .ok, [])

/-- R600: SEC_CHAL: a new challenge replaces the outstanding one. -/
def Dev.secChalMsg (d : Dev) : Dev × Status × List Byte :=
  let (ws, d1) := (List.range 4).foldl (fun (acc : List Byte × Dev) _ => let (v, e) := acc.2.free; (acc.1 ++ le 8 v, e)) ([], d)
  (d1.setSec { d1.sec with chal := some (ws, d.clk) }, .ok, ws ++ le 4 Config.serial.toNat)

/-- R601: the checks of a token; `ctl` that the session that sends it is controlling. -/
def Dev.tokenCheck (d : Dev) (ctl : Bool) (m : List Byte) : Status :=
  let kind := uAt m 16 1
  let dur := uAt m 24 2
  let scope := uAt m 26 2
  let key := slice m 64 97
  let zero (o n : Nat) : Bool := (slice m o n).all (· == 0)
  let field := d.secState == 1
  let fresh := match d.sec.chal with
    | some (c, t) => c == slice m 32 32 && !d.since t (60 * fabHz + 1)
    | none => false
  lowest
    [need (!(kind == 1 || kind == 2) || (dur != 0 && scope != 0)) .badLen,
     need (decide (1 ≤ kind) && decide (kind ≤ 3) && uAt m 20 4 == Config.serial.toNat && (kind == 3 || decide (dur ≤ 1440)) &&
       (kind != 3 || uAt m 24 4 == 0) && zero 17 3 && zero 28 4 && zero 161 31 && zero 288 32) .badArg,
     need (sha384 key == d.regBytes R.SEC_OWNER_HASH 12 && field && ctl) .denied,
     need (d.bit R.SEC_STAT F.SEC_STAT.OWNERSET) .notReady,
     need (ecdsaVerify key (sha384 (slice m 16 48)) (slice m 192 96)) .checksum, need fresh .stale]

/-- R600, R601: SEC_TOKEN. Accepted or refused, it spends the challenge. A SERVICE token takes the place of the permission of a DEBUG token, and the
session that rested on it ends; a further DEBUG token gives an open session its scope (DESIGN CHOICE, notes/assumptions/2104.md). -/
def Dev.secTokenMsg (d0 : Dev) (ctl : Bool) (m : List Byte) : Dev × Status × List Byte :=
  let st := d0.tokenCheck ctl m
  let d := d0.setSec { d0.sec with chal := none }
  if st != .ok then ((d.inc R.SEC_CNT_TOKFAIL).ev 0x1003 4 [wN st.code], st, [])
  else
    let td := sha384 (slice m 16 48)
    let until_ := d.ns + uAt m 24 2 * 60000000000
    let scope := uAt m 26 2 % 16
    match uAt m 16 1 with
    | 1 =>
      let d1 := (d.setSec { d.sec with dbgEnd := some until_, dbgScope := scope, dbgTd := td, reqDenied := false }).extendEvent 5 1 td
      (d1.showDebug.tryDebug, .ok, [])
    | 2 =>
      let d1 := d.endDebug
      let d2 := d1.setSec { d1.sec with svcEnd := some until_, svcScope := scope, svcTd := td, dbgEnd := some until_, dbgScope := scope,
                                        dbgTd := td, reqDenied := false }
      ((d2.setSecState 2 3 td).showDebug.tryDebug, .ok, [])
    | _ =>
      let d1 := d.endDebug.disarmDebug
      (((d1.setSec { d1.sec with reqDenied := false }).setSecState 0 4 td).showDebug.tryDebug, .ok, [])

/-- R595: MS_EXTEND. -/
def Dev.msExtendMsg (d : Dev) (m : List Byte) : Dev × Status × List Byte :=
  if uAt m 16 1 != 6 then (d, .denied, [])
  else
    let d1 := d.extend 6 0 (slice m 64 48)
    (d1, .ok, le 1 6 ++ le 3 0 ++ le 4 (d1.fld (R.SEC_EXTCNT 6) F.SEC_EXTCNT.V))

/-- R596: the bytes of a quote from offset 16 on. -/
def Dev.quoteBody (d : Dev) (nonce : List Byte) : List Byte :=
  let b (c : Bool) (v : Nat) : Nat := if c then v else 0
  let stat := R.SEC_STAT
  let fields := le 2 1 ++ le 1 d.secState ++ le 1 (d.fld stat F.SEC_STAT.DBG + 16 * d.fld stat F.SEC_STAT.SCOPE) ++ le 1 d.pstate ++
    le 1 (d.fld R.LINE_GSTAT F.LINE_GSTAT.ROLE) ++ le 1 (b (d.bit stat F.SEC_STAT.MLOGFULL) 1 + b (d.bit stat F.SEC_STAT.OWNERSET) 2) ++
    le 1 0 ++ le 4 Config.serial.toNat ++ le 2 (d.reg R.EVT_BOOTNO).toNat ++ le 2 0 ++ le 4 d.ts.toNat ++ le 4 d.uptime ++ le 8 0 ++
    slice nonce 0 32 ++ (List.range 8).flatMap d.msBytes ++ (List.range 8).flatMap (fun i => le 2 (d.fld (R.SEC_EXTCNT i) F.SEC_EXTCNT.V)) ++
    d.regBytes R.SEC_OWNER_HASH 12
  fields ++ slice (Config.attestSign d.fresh (sha384 fields)) 0 96 ++ le 8 0 ++ le 8 0

/-! ### Debug operations (R604 to R606) -/

/-- R604, R605: the TAP instructions: 0 IDCODE, 1 BYPASS, 2 SAMPLE/PRELOAD, 3 EXTEST, 4 CLAMP, 5 INTEST; others are unknown to the part
and take no effect. -/
def Dev.tapInstruction (d : Dev) (ins : Nat) : Dev :=
  let scope := d.debugScope
  if ins ≤ 1 then d.emit (.signal "tap" 0 ins)
  else if 6 ≤ ins then d
  else if ins == 2 then
    if bitAt scope 0 then d.emit (.signal "tap" 0 ins) else d.refuseDebug (16 + ins)
  else if !bitAt scope 1 then d.refuseDebug (16 + ins)
  else if d.bit R.SAFE_STAT F.SAFE_STAT.ARMED || d.anyEnabled then d.debugDenied (16 + ins)
  else
    let d1 := (d.setSec { d.sec with pins := true }).emit (.signal "tap" 0 ins)
    ({ d1 with safe := { d1.safe with monitor := true } } : Dev).each [0, 1, 2, 3] (fun d b => d.dioDisconnect b)

/-- R455: the safety-relevant tasks of an engine. -/
def Dev.safeTasksOf (d : Dev) (e : Nat) : List Nat :=
  (d.img.tasks.filter (fun t => t.engine == e && !(d.saxesOfTask t.task).isEmpty)).map (·.task)

/-- R190, R606: a halt asked for by the probe. -/
def Dev.debugHalt (d : Dev) (e : Nat) : Dev :=
  if !bitAt d.debugScope 3 then d.refuseDebug 1
  else if d.engineOff e then d.debugDenied 1
  else
    let ts := d.safeTasksOf e
    if d.bit R.SAFE_STAT F.SAFE_STAT.ARMED && !ts.isEmpty then
      let d1 := d.each ts (fun d t => d.debugSto t)
      d1.setSec { d1.sec with haltAsk := if d1.sec.haltAsk.contains e then d1.sec.haltAsk else d1.sec.haltAsk ++ [e] }
    else d.haltEngine e

/-- R190: a halted engine steps by one bundle. -/
def Dev.debugStep (d : Dev) (e : Nat) (err : Option (Nat × Nat × Bool)) : Dev :=
  if !bitAt d.debugScope 3 then d.refuseDebug 2
  else if !(d.eng e).halted then d
  else
    let d1 := (d.setEng e { d.eng e with halted := false }).issue e err
    (d1.setEng e { d1.eng e with halted := true }).evObj 0x4006 3 e [1]

/-- R190, R607: a halted engine resumes. -/
def Dev.debugResume (d : Dev) (e : Nat) : Dev :=
  if !bitAt d.debugScope 3 then d.refuseDebug 3
  else if !(d.eng e).halted then d
  else
    let d1 := d.resumeEngine e
    if d.isStandby then d1.askCopy else d1

/-- R604, R606: a breakpoint. -/
def Dev.debugBreak (d : Dev) (e pc : Nat) : Dev :=
  if !bitAt d.debugScope 3 then d.refuseDebug 4
  else if d.bit R.SAFE_STAT F.SAFE_STAT.ARMED && !(d.safeTasksOf e).isEmpty then d.debugDenied 4
  else
    let x := d.eng e
    d.setEng e { x with breaks := if x.breaks.contains pc then x.breaks else pc :: x.breaks }

/-! ### Commands -/

/-- SERVICE_EXPIRY (R599): TIME_NS has reached the end of SERVICE. -/
def execServiceExpiry (s : State) : Host.Outcome State Fault Refusal :=
  s.run (fun d => match d.sec.svcEnd with
    | some t => if t ≤ d.ns then d.endService else d
    | none => d)

/-- DEBUG_PERMIT_EXPIRY (R603): TIME_NS has reached the end of the permission. -/
def execDebugPermitExpiry (s : State) : Host.Outcome State Fault Refusal :=
  s.run (fun d => match d.sec.dbgEnd with
    | some t => if t ≤ d.ns && d.secState == 1 then d.endDebug.disarmDebug else d
    | none => d)

/-- DEBUG_REQUEST (R653): PRESN has been low for 100 ms. -/
def execDebugRequest (s : State) : Host.Outcome State Fault Refusal :=
  s.run (fun d =>
    if d.bit R.SEC_STAT F.SEC_STAT.ATTACH then d
    else ((d.setFld R.SEC_STAT F.SEC_STAT.ATTACH 1).setSec { d.sec with reqDenied := false }).tryDebug)

/-- DEBUG_REQUEST_END (R653): PRESN has been high for 100 ms. -/
def execDebugRequestEnd (s : State) : Host.Outcome State Fault Refusal :=
  s.run (fun d => (d.setFld R.SEC_STAT F.SEC_STAT.ATTACH 0).endDebug)

/-- TAP_INSTRUCTION (R604). -/
def execTapInstruction (ins : Nat) (s : State) : Host.Outcome State Fault Refusal := s.run (fun d => d.tapInstruction ins)

/-- ENGINE_HALT (R190, R606). -/
def execEngineHalt (e : Nat) (s : State) : Host.Outcome State Fault Refusal := s.runIf (decide (e < 16)) (fun d => d.debugHalt e)

/-- ENGINE_STEP (R190): `err` as in BUNDLE_ISSUE. -/
def execEngineStep (e : Nat) (err : Option (Nat × Nat × Bool)) (s : State) : Host.Outcome State Fault Refusal :=
  s.runIf (decide (e < 16)) (fun d => d.debugStep e err)

/-- ENGINE_RESUME (R190). -/
def execEngineResume (e : Nat) (s : State) : Host.Outcome State Fault Refusal := s.runIf (decide (e < 16)) (fun d => d.debugResume e)

/-- BREAKPOINT_SET (R604): a bundle address of the engine. -/
def execBreakpointSet (e pc : Nat) (s : State) : Host.Outcome State Fault Refusal :=
  s.runIf (decide (e < 16) && decide (pc < 32768)) (fun d => d.debugBreak e pc)

end Sys2Proof.Machine
end

