-- ==== Sys2Proof/Machine/Image.lean ====
section
/-! DEFINITION. Structure images as bytes (spec/04_structure_image.md R119 to R133): the flash slots, the header, the directory and the records
of the sections. -/

namespace Sys2Proof.Machine

open Sys2Proof

/-! ### Slots and the header -/

/-- The bytes written to an image slot. -/
def Dev.slotBytes (d : Dev) (slot : Nat) : List Byte := tget d.loader.flash slot []

/-- IMGLEN of the header (R121). -/
def imgLen (b : List Byte) : Nat := uAt b 8 4

/-- IMGHASH of the header (R121). -/
def imgHash (b : List Byte) : List Byte := slice b 48 48

/-- R122: directory entry `i`. -/
def dirAt (b : List Byte) (i : Nat) : DirRec :=
  let o := 256 + 32 * i
  { typ := uAt b o 2, inst := uAt b (o + 2) 2, count := uAt b (o + 4) 4, offset := uAt b (o + 8) 4, len := uAt b (o + 12) 4,
    crc := uAt b (o + 16) 4 }

/-- The directory. -/
def dirOf (b : List Byte) : List DirRec := (List.range (min (uAt b 12 4) 64)).map (dirAt b)

/-- The bytes of a section. -/
def secBytes (b : List Byte) (r : DirRec) : List Byte := slice b r.offset r.len

/-- The present section of a type: R122 makes a section of COUNT 0 absent. -/
def secOf (b : List Byte) (typ : Nat) : Option DirRec := (dirOf b).find? (fun r => r.typ == typ && r.count != 0)

/-- The bytes of the section of a type, none where it is absent. -/
def secRaw (b : List Byte) (typ : Nat) : List Byte :=
  match secOf b typ with
  | some r => secBytes b r
  | none => []

/-- The records of a section of a type whose records have `n` bytes. -/
def secRecs (b : List Byte) (typ n : Nat) : List (List Byte) :=
  match secOf b typ with
  | some r => (List.range r.count).map (fun i => slice (secBytes b r) (n * i) n)
  | none => []

/-! ### Records -/

/-- R125: lengths rounded up to a multiple of 64. -/
def round64 (n : Nat) : Nat := (n + 63) / 64 * 64

/-- R125: the ENGPROG records of a section. -/
def engRecs : Nat → List Byte → List EngRec
  | 0, _ => []
  | fuel + 1, b =>
    let p := uAt b 4 4
    let x := uAt b 8 4
    let y := uAt b 12 4
    { engine := uAt b 0 1, prog := slice b 16 p, xmem := slice b (16 + round64 p) x, ymem := slice b (16 + round64 p + round64 x) y } ::
      engRecs fuel (b.drop (16 + round64 p + round64 x + round64 y))

/-- R126: a SCHED record. -/
def taskOf (r : List Byte) : TaskRec :=
  { task := uAt r 0 2, engine := uAt r 2 1, k := uAt r 3 1, phase := uAt r 4 1, trig := uAt r 5 1, order := uAt r 6 2, entry := uAt r 8 4,
    wcet := uAt r 12 4, deadline := uAt r 16 4, dep0 := uAt r 20 2, dep1 := uAt r 22 2, ctx := uAt r 24 1,
    hostOk := bitAt (uAt r 25 1) 0 }

/-- R127: a FABRIC record with its consumer words, from the section's bytes. -/
def chanOf (sec r : List Byte) : ChanRec :=
  { chan := uAt r 0 2, kind := uAt r 2 1, fmt := uAt r 3 1, src := uAt r 4 4, producer := uAt r 8 2,
    dst := (List.range (uAt r 10 2)).map (fun i => uAt sec (uAt r 12 4 + 4 * i) 4) }

/-- R128: an AXES record. -/
def axisOf (r : List Byte) : AxisRec :=
  { axis := uAt r 0 2, kind := uAt r 2 1, k := uAt r 3 1, bind := uAt r 4 4, group := uAt r 8 2, arm := uAt r 10 1, joint := uAt r 11 1,
    fb := uAt r 12 2, sp := uAt r 14 2, law := uAt r 16 2 }

/-- R129: a TRACKS record. -/
def trackOf (r : List Byte) : TrackRec :=
  { track := uAt r 0 1, mode := uAt r 1 1, mkind := uAt r 2 1, master := uAt r 4 4, modulus := uAt r 8 8, num := sAt r 16 4,
    den := sAt r 20 4 }

/-- R130: a joint block. -/
def jointOf (r : List Byte) : JointRec :=
  { axis := uAt r 0 2, jtype := uAt r 2 1, geom := (List.range 6).map (fun i => sAt r (4 + 4 * i) 4), qmin := sAt r 28 4,
    qmax := sAt r 32 4, vmax := sAt r 36 4, amax := sAt r 40 4 }

/-- R130: the ARMS records of a section. -/
def armRecs : Nat → List Byte → List ArmRec
  | 0, _ => []
  | fuel + 1, b =>
    let n := uAt b 2 1
    { arm := uAt b 0 1, model := uAt b 1 1, port := uAt b 3 1, base := (List.range 6).map (fun i => sAt b (8 + 4 * i) 4),
      tool := (List.range 6).map (fun i => sAt b (32 + 4 * i) 4),
      joints := (List.range n).map (fun i => jointOf (slice b (64 + 64 * i) 64)) } :: armRecs fuel (b.drop (64 + 64 * n))

/-- R131: a port record. -/
def portOf (r : List Byte) : PortRec := { port := uAt r 1 1, nodes := uAt r 2 2, k := uAt r 4 1, topo := uAt r 5 1 }

/-- R131: a slot record. -/
def slotOf (r : List Byte) : SlotRec :=
  { port := uAt r 1 1, slot := uAt r 2 2, epCount := uAt r 4 1, nodeAlias := uAt r 6 2, typeCode := uAt r 8 4, firstEp := uAt r 12 4 }

/-- R132: an IOMAP record. -/
def ioOf (r : List Byte) : IoRec :=
  { ep := uAt r 0 4 % 131072, fn := uAt r 0 4 / 131072 % 16, dir := uAt r 4 1, byte := uAt r 5 1, bit := uAt r 6 1, width := uAt r 7 1,
    chan := uAt r 8 2, fmt := uAt r 10 1 }

/-- R133: a GROUPS record. -/
def groupOf (r : List Byte) : GroupRec := { group := uAt r 0 1, stageDl := uAt r 1 1, fallback := uAt r 2 1 }

/-- R133: a PARAMS record. -/
def paramOf (r : List Byte) : ParamRec :=
  { engine := uAt r 0 1, mem := uAt r 1 1, task := uAt r 2 2, addr := uAt r 4 4, len := uAt r 8 4 }

/-- R133: a TIMECMP record. -/
def cmpOf (r : List Byte) : CmpRec := { comp := uAt r 0 1, act := uAt r 1 1, obj := uAt r 2 2, target := uAt r 4 4, per := uAt r 8 4 }

/-- The image in a slot's bytes (R121 to R133). -/
def imageOf (slot : Nat) (b : List Byte) : Image :=
  let lines := secRecs b 7 16
  let fab := secRaw b 3
  let engs := (dirOf b).filter (fun r => r.typ == 1 && r.count != 0)
  { slot := slot, id := uAt b 16 4, ver := uAt b 20 4, pairFlag := bitAt (uAt b 28 2) 0, hash := imgHash b,
    pubKey := slice b (imgLen b - 256 + 4) 97,
    eng := (engs.map (fun r => engRecs r.count (secBytes b r))).flatten,
    tasks := (secRecs b 2 32).map taskOf, chans := (secRecs b 3 16).map (chanOf fab), axes := (secRecs b 4 32).map axisOf,
    tracks := (secRecs b 5 32).map trackOf,
    arms := (match secOf b 6 with | some r => armRecs r.count (secBytes b r) | none => []),
    ports := (lines.filter (fun r => uAt r 0 1 == 0)).map portOf, slots := (lines.filter (fun r => uAt r 0 1 == 1)).map slotOf,
    io := (secRecs b 8 16).map ioOf, groups := (secRecs b 9 16).map groupOf, params := (secRecs b 10 16).map paramOf,
    regInit := (secRecs b 11 8).map (fun r => (uAt r 0 4, wN (uAt r 4 4))), cmps := (secRecs b 14 16).map cmpOf,
    safety := secRecs b 12 32, gorse := secRecs b 13 64, periph := secRecs b 15 16, tracksRaw := secRaw b 5,
    groupsRaw := secRaw b 9 }

/-- The null image (R119): it configures nothing. -/
def nullImage : Image :=
  { slot := 2, id := Config.nullImage.1.toNat, ver := Config.nullImage.2.1.toNat, hash := Config.nullImage.2.2.1,
    pubKey := Config.nullImage.2.2.2 }

/-! ### FAB_IMG_CTL (R119, R139, R141, R146) -/

/-- R311: a track is at rest. -/
def Dev.trackStill (d : Dev) (t : Nat) : Bool := d.bit (R.TRACK_STAT t) F.TRACK_STAT.STILL

/-- R141: the first track that is not at rest. -/
def Dev.movingTrack (d : Dev) : Option Nat := (d.img.tracks.find? (fun r => !d.trackStill r.track)).map (·.track)

/-- R139: in a pair the standby has checked an image with this IMGHASH. -/
def Dev.standbyChecked (d : Dev) (hash : List Byte) : Bool :=
  !d.bit R.PAIR_CFG F.PAIR_CFG.EN || d.roleStandby ||
  (match d.duo.peer with
   | some h => h.checked == hash && !hash.isEmpty
   | none => false)

/-- The slot that the loader's job concerns. -/
def Dev.jobSlot (d : Dev) : Option Nat :=
  match d.loader.job with
  | .idle => none
  | .checking s _ _ => some s
  | _ => d.loader.nextImage.map (·.slot)

/-- R119: the active image stands in the slot. -/
def Dev.slotActive (d : Dev) (slot : Nat) : Bool := d.loader.image.any (fun i => i.slot == slot)

/-- R134, R139, R141, R146, R624: the checks of a write of FAB_IMG_CTL. -/
def Dev.imgCtlCheck (d : Dev) (old w : Word) : List Status :=
  let act := getF w F.FAB_IMG_CTL.ACTIVATE
  let chk := getF w F.FAB_IMG_CTL.CHECK
  let era := getF w F.FAB_IMG_CTL.ERASE
  let slot := getF w F.FAB_IMG_CTL.SLOT
  let b := d.slotBytes slot
  let keep := getF w F.FAB_IMG_CTL.KEEPITEMS == 1
  let idle := d.loader.job == .idle && (d.loader.bootDone || d.loader.image.isSome)
  [need (getF w F.FAB_IMG_CTL.BOOT == getF old F.FAB_IMG_CTL.BOOT || getF w F.FAB_IMG_CTL.BOOT != 3) .badArg,
   need (decide (act + chk + era ≤ 1)) .conflict, need (act + chk == 0 || idle) .busy,
   need (act == 0 || !d.anyEnabled) .conflict, need (act == 0 || d.standbyChecked (imgHash b)) .conflict,
   need (act == 0 || !keep || (secRaw b 5 == d.img.tracksRaw && d.movingTrack.isNone)) .conflict,
   need (act == 0 || (!d.bit R.SYS_PF_STAT F.SYS_PF_STAT.PFW && decide (d.pstate ≤ 2))) .notReady,
   need (era == 0 || !d.slotActive slot) .denied, need (era == 0 || d.jobSlot != some slot) .busy]

/-- FAB_IMG_STAT.STATE: 0 IDLE, 1 CHECKING, 2 ARMED, 3 SWITCHING, 4 ACTIVE. -/
def Dev.setImgState (d : Dev) (st : Nat) : Dev := d.setFld R.FAB_IMG_STAT F.FAB_IMG_STAT.STATE st

/-- The device with the loader's state set. -/
def Dev.setLoader (d : Dev) (x : LoaderSt) : Dev := { d with loader := x }

/-- R147: STATE when the loader has nothing to do. -/
def Dev.restState (d : Dev) : Dev := d.setImgState (if d.loader.image.isSome then 4 else 0)

/-- R147: the VALID bit of a slot. -/
def Dev.setValid (d : Dev) (slot : Nat) (ok : Bool) : Dev :=
  d.setFld R.FAB_IMG_STAT (if slot == 0 then F.FAB_IMG_STAT.VALID0 else F.FAB_IMG_STAT.VALID1) (if ok then 1 else 0)

/-- R119, R120: a slot's bytes are replaced: it is not valid, and no longer the last good one. -/
def Dev.putSlot (d : Dev) (slot : Nat) (b : List Byte) : Dev :=
  (d.setLoader { d.loader with flash := if b.isEmpty then tdel d.loader.flash slot else tset d.loader.flash slot b,
                               lastGood := if d.loader.lastGood == some slot then none else d.loader.lastGood }).setValid slot false

/-- R134: a check of a slot begins. -/
def Dev.startCheck (d : Dev) (slot : Nat) (act keep : Bool) : Dev :=
  (d.setLoader { d.loader with job := .checking slot act keep }).setImgState 1

/-- R139, R146: what a write of FAB_IMG_CTL starts. -/
def Dev.imgCtlDo (d : Dev) (w : Word) : Dev :=
  let slot := getF w F.FAB_IMG_CTL.SLOT
  if getF w F.FAB_IMG_CTL.ACTIVATE == 1 then d.startCheck slot true (getF w F.FAB_IMG_CTL.KEEPITEMS == 1)
  else if getF w F.FAB_IMG_CTL.CHECK == 1 then d.startCheck slot false false
  else if getF w F.FAB_IMG_CTL.ERASE == 1 then d.putSlot slot []
  else d

end Sys2Proof.Machine
end

