-- ==== Sys2Proof/Machine/Tallboy.lean ====
section
/-! DEFINITION. Item tracking (spec/11_item_tracking.md): items, actions, comparing and firing, timed outputs and their projection, and
the take of a port's downstream channels (R204). -/

namespace Sys2Proof.Machine

open Sys2Proof

/-! ### State -/

/-- The Tallboy with its state changed. -/
def Dev.setTall (d : Dev) (x : TallSt) : Dev := { d with tall := x }

/-- An item, if its handle is in use. -/
def Dev.item? (d : Dev) (h : Nat) : Option ItemSt := tget? d.tall.items h

/-- The device with an item's record set. -/
def Dev.setItem (d : Dev) (h : Nat) (x : ItemSt) : Dev := d.setTall { d.tall with items := tset d.tall.items h x }

/-- An action, if its index is in use. -/
def Dev.act? (d : Dev) (i : Nat) : Option ActSt := tget? d.tall.acts i

/-- The device with an action's entry set. -/
def Dev.setAct (d : Dev) (i : Nat) (x : ActSt) : Dev := d.setTall { d.tall with acts := tset d.tall.acts i x }

/-- A timed output's state. -/
def Dev.toState (d : Dev) (o : Nat) : ToSt := tget d.tall.tos o {}

/-- The device with a timed output's state set. -/
def Dev.setTo (d : Dev) (o : Nat) (x : ToSt) : Dev := d.setTall { d.tall with tos := tset d.tall.tos o x }

/-- EP_CMD is the only remote kind (R361). -/
def ActSt.remote (x : ActSt) : Bool := x.kind == 4

/-- R362: an action is live while its item is on its track. An action whose item is gone stays live until its measurement (R369). -/
def Dev.live (d : Dev) (x : ActSt) : Bool :=
  match d.item? x.item with
  | some i => i.gen != x.gen || i.trk == x.trk
  | none => true

/-- The lowest number not in a table, from `k` on. -/
def lowestFree {α : Type} : Tab α → Nat → Nat
  | [], k => k
  | (n, _) :: rest, k => if n = k then lowestFree rest (k + 1) else if n < k then lowestFree rest k else k

/-! ### Positions -/

/-- R312: the position of a track at an instant, by its last publication, in 2^-32 µm, not reduced. -/
def Dev.posAt (d : Dev) (t ns : Nat) : Int :=
  let x := d.trk t
  x.p + d.regI (R.TRACK_VEL t) * p32 * ((ns : Int) - x.tns) / 1000000000

/-- A position reduced on a modulo track. -/
def Dev.onTrack (d : Dev) (t : Nat) (p : Int) : Int :=
  match d.trackMod t with
  | some m => if 0 < m then p % m else p
  | none => p

/-- The position now. -/
def Dev.posNow (d : Dev) (t : Nat) : Int := d.onTrack t (d.posAt t d.ns)

/-- R366: the position of a track at a past instant: between the two publications around it, or from the latest one. -/
def Dev.posPast (d : Dev) (t ns : Nat) : Option Int :=
  let l := tget d.tall.pubs t []
  match l.head? with
  | none => some (d.posNow t)
  | some (t0, _) =>
    if t0 ≤ ns then some (d.onTrack t (d.posAt t ns))
    else
      match (l.zip l.tail).find? (fun e => decide (e.2.1 ≤ ns)) with
      | none => none
      | some ((tb, pb, _), (ta, pa, _)) =>
        let dp := reduce (d.trackMod t) (pb - pa)
        some (d.onTrack t (pa + (if tb = ta then 0 else dp * ((ns : Int) - ta) / ((tb : Int) - ta))))

/-- R312: the position P of a track at an instant that has passed, from the publication in force at it. -/
def Dev.posThen (d : Dev) (t ns : Nat) : Int :=
  match (tget d.tall.pubs t []).find? (fun e => decide (e.1 ≤ ns)) with
  | some (tn, p, v) => d.onTrack t (p + v * p32 * ((ns : Int) - tn) / 1000000000)
  | none => d.posNow t

/-- R362: the position q of an action, from its item's REF. -/
def Dev.actQ (d : Dev) (trk : Nat) (ref ofs : Int) : Int := d.onTrack trk ((ref + ofs) * p32)

/-! ### Freeing -/

/-- A PROJECTED action gives its timed output back, and CANCEL goes out at the next take (R369, R370). -/
def Dev.toRelease (d : Dev) (i : Nat) (x : ActSt) : Dev :=
  if x.remote && x.state == 3 && (d.toState x.toIx).act == some i then
    d.setTo x.toIx { d.toState x.toIx with act := none, cancel := some x.token }
  else if x.remote && (d.toState x.toIx).act == some i then d.setTo x.toIx { d.toState x.toIx with act := none }
  else d

/-- An action is freed, and NACT of its item decreases (R373). -/
def Dev.freeAct (d : Dev) (i : Nat) : Dev :=
  match d.act? i with
  | none => d
  | some x =>
    let d1 := d.toRelease i x
    let d2 := d1.setTall { d1.tall with acts := tdel d1.tall.acts i, fires := d1.tall.fires.filter (fun f => f.act != i) }
    match d2.item? x.item with
    | some it => if it.gen == x.gen then d2.setItem x.item { it with acts := it.acts.map (fun a => if a == some i then none else a) } else d2
    | none => d2

/-- The actions of an item by index. -/
def ItemSt.held (x : ItemSt) : List Nat := x.acts.filterMap id

/-- A crossing of the action waits to be issued (R372). -/
def Dev.queued (d : Dev) (i : Nat) : Bool := d.tall.fires.any (fun f => f.act == i)

/-- R369: an item is freed with every action of it that is not COMMITTED. What has been crossed still fires (R372, R374). -/
def Dev.removeItem (d : Dev) (h : Nat) : Dev :=
  match d.item? h with
  | none => d
  | some it =>
    let d1 := d.each it.held (fun d i => match d.act? i with
      | some x => if x.state == 4 || d.queued i then d else d.freeAct i
      | none => d)
    d1.setTall { d1.tall with items := tdel d1.tall.items h }

/-! ### Events (R389) -/

/-- A Tallboy event of an action: the handle as SOURCE, the action slot, then further items. -/
def Dev.actEv (d : Dev) (code sev : Nat) (x : ActSt) (data : List Word) : Dev := d.evObj code sev x.item (wN x.slot :: data)

/-- A position of 2^-32 µm in whole µm. -/
def um (p : Int) : Int := p / p32

/-! ### Comparing (R371) -/

/-- R371: whether a step from `p` by `dp` crosses q: the start is exclusive, the end inclusive. -/
def steps (m : Option Int) (q p dp : Int) : Bool :=
  let g := reduce m (q - p)
  if 0 < dp then decide (0 < g) && decide (g ≤ dp) else decide (dp ≤ g) && decide (g < 0)

/-- R371: the crossings of one step of a track that begins at `p0` and runs by `dp` from the instant `t0` to `t1`: action, instant,
position, signed distance from the start. A step of no duration is that of a publication. -/
def Dev.stepCross (d : Dev) (t : Nat) (p0 dp : Int) (t0 t1 : Nat) : List (Nat × Nat × Int) :=
  if dp = 0 then []
  else
    let md := d.trackMod t
    let v := d.regI (R.TRACK_VEL t)
    (d.tall.acts.filter (fun e => e.2.trk == t && d.live e.2 && e.2.state != 1 && !e.2.waits && e.2.cross.isNone &&
        !d.queued e.1 && steps md e.2.q p0 dp &&
        (match e.2.wrap with | some f => f == decide (0 < dp) | none => true))).map (fun e =>
      let g := reduce md (e.2.q - p0)
      let n := if t1 ≤ t0 || v = 0 then t1
        else
          let w := (g.natAbs * 1000000000 + v.natAbs * 2 ^ 32 - 1) / (v.natAbs * 2 ^ 32)
          min t1 (t0 + (w + 1) / 2 * 2)
      (e.1, n, d.onTrack t (p0 + (if t1 ≤ t0 then dp else v * p32 * ((n : Int) - t0) / 1000000000))))

/-- R372: a crossing's place in the order: instant, then track, then position in the direction of motion, then action index, and a
TRANSFER last within its item. -/
def fireBefore (d : Dev) (a b : FireSt) : Bool :=
  if a.ns != b.ns then decide (a.ns < b.ns)
  else
    match d.act? a.act, d.act? b.act with
    | some x, some y =>
      if x.item == y.item && x.gen == y.gen && (x.kind == 6) != (y.kind == 6) then y.kind == 6
      else if x.trk != y.trk then decide (x.trk < y.trk)
      else
        let g := reduce (d.trackMod x.trk) (y.q - x.q)
        let back := decide (d.regI (R.TRACK_VEL x.trk) < 0)
        if g = 0 then decide (a.act < b.act) else (decide (0 < g)) != back
    | _, _ => decide (a.act < b.act)

/-- A crossing put in its place in the queue. -/
def fireInsert (d : Dev) (f : FireSt) : List FireSt → List FireSt
  | [] => [f]
  | x :: rest => if fireBefore d x f then x :: fireInsert d f rest else f :: x :: rest

/-- R302, R389: an action that waited for the wrap fires late; `pos` is the position at which it does. -/
def Dev.lateWrap (d : Dev) (x : ActSt) (pos : Int) : Dev :=
  if x.wrap.isSome then (d.inc R.TALL_CNT_LATE).actEv 0x8002 3 x (wN 3 :: words64 (um x.q) ++ words64 (um pos)) else d

/-- A crossing is detected: a local action joins the queue of firings; a remote one records it (R380, R382). -/
def Dev.crossed (d : Dev) (i ns : Nat) (pos : Int) : Dev :=
  match d.act? i with
  | none => d
  | some x =>
    if x.remote then (d.setAct i { x with cross := some (ns, pos) }).lateWrap x pos
    else
      let f : FireSt := { act := i, clk := d.clk - (d.ns - ns) / 2, ns := ns, pos := pos, tag := ((d.item? x.item).map (·.tag)).getD 0 }
      -- R390: what has been crossed since the mirror point fires with REPLAY
      let d1 := if d.tall.replay then d.setAct i { x with replay := true } else d
      d1.setTall { d1.tall with fires := fireInsert d1 f d1.tall.fires }

/-- R371: a track is compared up to now: the step since the last comparison. In P3 tracks are held and nothing is crossed, and a new active
unit compares from its first track update on (R390). -/
def Dev.scan (d : Dev) (t : Nat) : Dev :=
  if decide (3 ≤ d.pstate) || d.tall.replay then d
  else
    let x := d.trk t
    let now := d.posNow t
    match tget? d.tall.seen t with
    | none => d.setTall { d.tall with seen := tset d.tall.seen t now }
    | some p0 =>
      let dp := reduce (d.trackMod t) (now - p0)
      let v := d.regI (R.TRACK_VEL t)
      -- the step starts where the track stood at p0 by the present law, not before the publication
      let t0 := if v = 0 then d.ns else max x.tns (d.ns - dp.natAbs * 1000000000 / (v.natAbs * 2 ^ 32))
      let cs := d.stepCross t p0 dp t0 d.ns
      let d1 := d.setTall { d.tall with seen := tset d.tall.seen t now }
      d1.each cs (fun d c => d.crossed c.1 c.2.1 c.2.2)

/-- R371: the step of a publication, from the position compared last to the one published. -/
def Dev.scanJump (d : Dev) (t : Nat) : Dev :=
  let now := d.posNow t
  match tget? d.tall.seen t with
  | none => d.setTall { d.tall with seen := tset d.tall.seen t now }
  | some p0 =>
    let dp := reduce (d.trackMod t) (now - p0)
    let cs := d.stepCross t p0 dp d.ns d.ns
    (d.setTall { d.tall with seen := tset d.tall.seen t now }).each cs (fun d c => d.crossed c.1 c.2.1 c.2.2)

/-- The tracks of the image. -/
def Dev.tracks (d : Dev) : List Nat := d.img.tracks.map (·.track)

/-- Every track is compared up to now. -/
def Dev.scanAll (d : Dev) : Dev := d.each d.tracks (fun d t => d.scan t)

/-! ### Arming (R368) -/

/-- The late policy of an action: 1 FIRE_LATE, 2 DISCARD, 3 WAIT_WRAP. -/
def Dev.actPolicy (d : Dev) (x : ActSt) : Nat := if x.pol == 0 then d.fld (R.TRACK_CFG x.trk) F.TRACK_CFG.DEFLATE else x.pol

/-- R301, R368: whether a live action's position is passed now. -/
def Dev.actPassed (d : Dev) (x : ActSt) : Bool :=
  passed (d.trackMod x.trk) x.q (d.posNow x.trk) (d.regI (R.TRACK_VEL x.trk))

/-- R301, R302, R368: a live action is tested as it is armed. None: it is discarded. -/
def Dev.armAct (d : Dev) (i : Nat) (x : ActSt) : Option Dev :=
  let p := d.posNow x.trk
  let fwd := decide (0 ≤ d.regI (R.TRACK_VEL x.trk))
  let base := { x with state := if x.state == 3 then 3 else 2, wrap := none, cross := none }
  if d.actPassed x then
    let pol := d.actPolicy x
    let log (d : Dev) : Dev := (d.inc R.TALL_CNT_LATE).actEv 0x8002 3 x (wN pol :: words64 (um x.q) ++ words64 (um p))
    match pol with
    | 1 =>
      if x.remote then some (log (d.setAct i { base with q := p, late := true, cross := some (d.ns, p) }))
      else some ((log (d.setAct i { base with q := p })).crossed i d.ns p)
    | 3 => some (d.setAct i { base with wrap := some fwd })
    | _ => none
  else
    let d1 := d.setAct i base
    -- a position that is reached fires at once
    some (if x.q = p then d1.crossed i d.ns p else d1)

/-- R302: an action is discarded: counted and logged. -/
def Dev.discard (d : Dev) (x : ActSt) : Dev := (d.inc R.TALL_CNT_DISC).actEv 0x8003 3 x []

/-- R368, R369: a live action is tested as if armed; one that is discarded is freed. -/
def Dev.retestAct (d : Dev) (i : Nat) : Dev :=
  match d.act? i with
  | none => d
  | some x =>
    match d.armAct i x with
    | some e => e
    | none => (d.discard x).freeAct i

/-- R370: what a TRANSFER brought to a track that was not valid is tested once the track updates again. -/
def Dev.endWait (d : Dev) (t : Nat) : Dev :=
  if !d.bit (R.TRACK_STAT t) F.TRACK_STAT.VALID then d
  else d.each d.tall.acts (fun d e =>
    if e.2.waits && e.2.trk == t then (d.setAct e.1 { e.2 with waits := false }).retestAct e.1 else d)

/-- R312, R366: after a track update the publications are kept, the last 8,192 of each track, and the step of each is compared. -/
def Dev.publish (d : Dev) : Dev :=
  let d1 := d.each d.tracks (fun d t =>
    let x := d.trk t
    let l := tget d.tall.pubs t []
    ((d.setTall { d.tall with pubs := tset d.tall.pubs t (((x.tns, x.p, d.regI (R.TRACK_VEL t)) :: l).take 8192) }).scanJump t).endWait t)
  d1.setTall { d1.tall with replay := false }

/-! ### Firing (R370, R372 to R374) -/

/-- R370: a TRANSFER to another track, or the removal of the item. -/
def Dev.transfer (d : Dev) (x : ActSt) (ns : Nat) : Dev :=
  match d.item? x.item with
  | none => d
  | some it =>
    if it.gen != x.gen then d
    else if x.target == 0xFF then d.removeItem x.item
    else
      let k := x.target
      let ref := um (d.onTrack k (d.posAt k ns - signed 32 x.arg0 * p32))
      let d1 := d.setItem x.item { it with trk := k, ref := ref, xfrTime := ns % 2 ^ 32 }
      let d2 := d1.each it.held (fun d i => match d.act? i with
        | some y =>
          if y.trk == it.trk && k != it.trk && y.state != 4 then
            ((d.inc R.TALL_CNT_DROP).actEv 0x8005 3 y [1]).freeAct i
          else d
        | none => d)
      let ok := d.bit (R.TRACK_STAT k) F.TRACK_STAT.VALID
      d2.each it.held (fun d i => match d.act? i with
        | some y =>
          if y.trk == k && y.state != 4 && !d.queued i then
            let y1 := { y with q := d.actQ k ref y.ofs, state := if y.state == 3 then 3 else 2, waits := !ok }
            if ok then (d.setAct i y1).retestAct i else d.setAct i y1
          else d
        | none => d)

/-- A local action's effect (R361, R373) at its crossing. -/
def Dev.fireEffect (d : Dev) (x : ActSt) (f : FireSt) : Dev :=
  let fail (st : Status) : Dev := d.actEv 0x8006 4 x [wN st.code]
  let k := x.target
  match x.kind with
  | 5 =>
    let op := x.arg1 % 4
    let kind := op + 1
    let val := signed 32 x.arg0
    let st := lowest (d.moveCheck k kind (if kind == 1 then (d.ms k).sp + val * p32 else val))
    if st = .ok then d.setMs k { d.ms k with cmds := (d.ms k).cmds ++ [{ kind := kind, val := val, ns := f.ns }] } else fail st
  | 6 => d.transfer x f.ns
  | 7 =>
    if d.bit (R.CAP_TRIG_CFG k) F.CAP_TRIG_CFG.EN && d.fld (R.CAP_TRIG_CFG k) F.CAP_TRIG_CFG.KIND == 5 && d.capOpen k then
      { d with cap := { d.cap with met := tset d.cap.met k (wN f.ns) } }
    else d
  | 8 =>
    d.actEv 0x800A 1 x (wN f.tag :: wN x.arg0 :: words64 (um f.pos) ++ [wN f.ns])
  | _ =>
    if d.dioDir k != 1 || d.bit (R.DIO_BANK_STAT (k / 16)) F.DIO_BANK_STAT.BANKOFF then fail .notReady
    else if d.fld (R.DIO_CH_CFG k) F.DIO_CH_CFG.SRC == 1 then fail .conflict
    else
      match x.kind with
      | 2 => d.dioCommand k false
      | 1 => d.dioCommand k true
      | _ =>
        let running := (d.dioCh k).pulseEnd
        let stop := d.clk + clksOfNs (1000 * x.arg0)
        let d1 := d.dioCommand k true
        if d1.dioCmd k then
          d1.setDioCh k { d1.dioCh k with pulseEnd := some (match running with | some e => max e stop | none => stop) }
        else d1

/-- R372: whether a firing may be issued in this clock: one per clock, 256 in any 1 µs. -/
def Dev.mayFire (d : Dev) : Bool :=
  let l := d.tall.fireClks
  (match l.head? with | some c => decide (c < d.clk) | none => true) &&
    (decide (l.length < 256) || decide (l.getLastD 0 + 500 ≤ d.clk))

/-- R372, R373: the first of the crossings that wait is issued. -/
def Dev.fireNext (d : Dev) : Dev :=
  match d.tall.fires with
  | [] => d
  | f :: rest =>
    match d.act? f.act with
    | none => d.setTall { d.tall with fires := rest }
    | some x =>
      let d1 := d.setTall { d.tall with fires := rest, fireClks := (d.clk :: d.tall.fireClks).take 256 }
      let late := d.clk - f.clk
      let d2 := if 500 < late then (d1.inc R.TALL_CNT_DELAY).actEv 0x8004 3 x [wN (2 * late)] else d1
      let d3 := (if x.replay then d2.actEv 0x800C 3 x [] else d2).lateWrap x f.pos
      let d4 := (d3.freeAct f.act).inc R.TALL_CNT_FIRED
      let d5 := if d4.bit R.TALL_CTL F.TALL_CTL.TRACEFIRE then d4.actEv 0x8001 0 x (words64 (um f.pos)) else d4
      d5.fireEffect x f

/-- R361: the end of a pulse. -/
def Dev.pulseEnd (d : Dev) (k : Nat) : Dev :=
  match (d.dioCh k).pulseEnd with
  | some c => if c ≤ d.clk then d.dioCommand k false else d
  | none => d

/-! ### Timed outputs (R375 to R382) -/

/-- The channel of a timed output: `which` is 1 for TFIRE, 2 for TCMD. -/
def Dev.toChan (d : Dev) (which o : Nat) : Option Nat := (d.chansOf 4 (which * 2 ^ 24 + o)).head?

/-- The timed outputs that the image makes, with the endpoint and function of each: number, endpoint, function index. -/
def Dev.timedOutputs (d : Dev) : List (Nat × Nat × Nat) :=
  d.img.io.filterMap (fun m =>
    match d.chanRec m.chan with
    | some c => if m.dir == 0 && c.kind == 4 && c.src / 2 ^ 24 == 1 then some (c.src % 8192, m.ep, m.fn) else none
    | none => none)

/-- The timed output of an endpoint and function. -/
def Dev.toOf (d : Dev) (ep fn : Nat) : Option Nat := ((d.timedOutputs).find? (fun e => e.2.1 == ep && e.2.2 == fn)).map (·.1)

/-- The slot that carries a timed output. -/
def Dev.toSlot (d : Dev) (o : Nat) : Option SlotRec :=
  match (d.timedOutputs).find? (fun e => e.1 == o) with
  | some e => d.slotOfEp e.2.1
  | none => none

/-- Whether a slot lies in a segment that the standby relays (R100). -/
def Dev.slotRelayed (d : Dev) (p i : Nat) : Bool := d.phase p == 5 && d.isFar p i

/-- R204: the lead of the take before the cycle start. -/
def takeLead (relayed : Bool) : Nat := if relayed then 12000 else 1000

/-- R93: the one-way delay of a slot from its feeding end; 0 where it is not measured. -/
def Dev.feedDelay (d : Dev) (p i : Nat) : Nat := ((if d.isFar p i then (d.slot p i).dly1 else (d.slot p i).dly0)).getD 0

/-- R378: L_path of a slot. -/
def Dev.toPath (d : Dev) (p i : Nat) : Nat := takeLead (d.slotRelayed p i) + 192 + 8 * (4 + 16 * (i + 1)) + d.feedDelay p i

/-- R378: the commit horizon H. -/
def Dev.toHorizon (d : Dev) (p i : Nat) : Nat := d.portNs p + d.toPath p i

/-- R377: the least positive root of D = v τ + a τ² / 2, in ns, truncated; D in 2^-32 µm. -/
def leastRoot (dq v a : Int) : Option Nat :=
  let ns (t : Int) : Nat := ((t * 1000000000 + 2 ^ 64) / px).toNat
  let dx := pxOf dq
  if a = 0 then (if v = 0 then none else
    let t := dx / v
    if 0 < t then some (ns t) else none)
  else
    let disc := v * v * px + 2 * a * dx
    if disc < 0 then none
    else
      let s := pxSqrt disc
      let root (den : Int) : List Int := if den = 0 then [] else
        let t := pxDiv (2 * dx) den
        if 0 < t then [t] else []
      match root (v * px + s) ++ root (v * px - s) with
      | [] => none
      | t :: rest => some (ns (rest.foldl min t))

/-- R377: the projected time of a live remote action at the take at `take`. D is measured in the direction of motion, which is that of the acceleration
where the velocity is 0. -/
def Dev.project (d : Dev) (x : ActSt) (take : Nat) : Option Nat :=
  let t := d.trk x.trk
  let v := d.regI (R.TRACK_VEL x.trk)
  let a := d.regI (R.TRACK_ACC x.trk)
  let s : Int := if v < 0 || (v = 0 && a < 0) then -1 else 1
  match leastRoot (d.onTrack x.trk (s * (x.q - t.p))) (s * v) (s * a) with
  | some n => if t.tns + n ≤ take + 2100000000 then some (t.tns + n) else none
  | none => none

/-- R376: TCMD of an action with its flags. -/
def tcmdWord (x : ActSt) (token : Nat) (final cancel : Bool) : Nat :=
  2 ^ 31 + (if final then 2 ^ 30 else 0) + (if cancel then 2 ^ 29 else 0) + (x.arg1 % 4) * 2 ^ 27 + (token / 128) * 2 ^ 23 +
    (token % 128) * 2 ^ 16 + x.arg0 % 65536

/-- R381: whether a slot's block will go out with VALID = 1, the channels of timed outputs apart. -/
def Dev.blockValid (d : Dev) (p i : Nat) : Bool :=
  match d.slotRec p i with
  | none => false
  | some r =>
    d.slotState p i == 2 && (d.img.io.filter (fun m => m.dir == 0 && decide (r.firstEp ≤ m.ep) && decide (m.ep < r.firstEp + r.epCount))).all
      (fun m => match d.chanRec m.chan with
        | some c => c.kind == 4 || c.kind == 3 || (d.chanSt m.chan).fresh
        | none => true)

/-- R379, R380: an action is sent by its timed output with the fire time `tf`. -/
def Dev.toSend (d : Dev) (o i : Nat) (x : ActSt) (tf take hor path : Nat) (valid final : Bool) : Dev :=
  let s := d.toState o
  let same := x.state == 3 && s.act == some i
  let token := if same then x.token else (s.last + 1) % 256
  let commits := final && valid
  let late := final && (x.late || x.cross.isSome || decide (tf < take + path))
  let y := { x with state := if commits then 4 else 3, tfire := tf % 2 ^ 32, token := token, tc := if commits then some tf else none,
                    toIx := o }
  let d1 := (d.setAct i y).setTo o { s with
    act := some i, last := token, tfire := tf % 2 ^ 32, tcmd := tcmdWord x token final false,
    final := if commits then some (tf + hor) else none, fired := false }
  if late && (commits || !same) then
    ((d1.inc R.TALL_CNT_TOLATE).bump (R.TALL_TO_CNT o) F.TALL_TO_CNT.LATE 1).actEv 0x8008 3 x [wN o]
  else d1

/-- R379: the least fire time among candidates: action, entry, fire time. -/
def earliest : List (Nat × ActSt × Nat) → Option (Nat × ActSt × Nat)
  | [] => none
  | e :: rest =>
    match earliest rest with
    | none => some e
    | some b => if e.2.2 ≤ b.2.2 then some e else some b

/-- R379: an ARMED action that is due while its timed output carries another waits; TO_BUSY is logged once. -/
def Dev.toWait (d : Dev) (o a : Nat) : Dev :=
  match d.act? a with
  | some x =>
    if x.state != 2 then d
    else if x.busy then d.setAct a { x with state := 5 }
    else (((d.setAct a { x with state := 5, busy := true }).inc R.TALL_CNT_TOBUSY).bump (R.TALL_TO_CNT o) F.TALL_TO_CNT.BUSY 1).actEv
      0x8009 2 x [wN o]
  | none => d

/-- R377 to R381: what one timed output sends at the take at `take`. -/
def Dev.toTake (d : Dev) (o p i take : Nat) : Dev :=
  let hor := d.toHorizon p i
  let path := d.toPath p i
  let valid := d.blockValid p i
  let mine := d.tall.acts.filter (fun e => e.2.remote && e.2.toIx == o && e.2.state != 4 && e.2.state != 1 && !e.2.waits && d.live e.2)
  let cands := mine.filterMap (fun e =>
    match e.2.cross with
    | some (ns, _) => some (e.1, e.2, ns)
    | none => (d.project e.2 take).map (fun t => (e.1, e.2, t)))
  let due (e : Nat × ActSt × Nat) : Bool :=
    e.2.1.cross.isSome || e.2.1.state == 3 || decide (e.2.2 ≤ take + d.fld R.TALL_PROJ_CFG F.TALL_PROJ_CFG.LEADCYC * d.portNs p + hor)
  let s := d.toState o
  let occupied := match s.act with
    | some a => (match d.act? a with
      | some x => x.state == 4 && (match x.tc with | some c => decide (take ≤ c) | none => false)
      | none => false)
    | none => false
  let idle : ToSt := { s with tcmd := 0 }
  -- R379: the FINAL command is repeated until FIRED is seen or TFIRE + H has passed
  let repeated : ToSt := match s.final with
    | some e => if s.fired || decide (e < take) then { idle with final := none } else s
    | none => idle
  if occupied then
    let d1 := d.setTo o repeated
    d1.each (cands.filter due) (fun d e => d.toWait o e.1)
  else
    let d0 := match s.act with
      | some a => (match d.act? a with
        | some x => if x.state == 3 && !(cands.any (fun e => e.1 == a)) then
            -- R380: no projection: CANCEL, and the action is ARMED again
            (d.setAct a { x with state := 2 }).setTo o { s with act := none, cancel := some x.token }
          else d
        | none => d.setTo o { s with act := none })
      | none => d
    match earliest (cands.filter due) with
    | some (a, x, tf) =>
      let d1 := match (d0.toState o).act with
        | some b => if b == a then d0 else (match d0.act? b with
          | some y => if y.state == 3 then d0.setAct b { y with state := 2 } else d0
          | none => d0)
        | none => d0
      let d2 := d1.each (cands.filter (fun e => due e && e.1 != a && e.2.1.state == 2)) (fun d e => d.toWait o e.1)
      let final := x.cross.isSome || decide (tf < take + hor)
      (d2.setTo o { d2.toState o with cancel := none }).toSend o a x tf take hor path valid final
    | none =>
      match (d0.toState o).cancel with
      | some tok => d0.setTo o { d0.toState o with
          cancel := none, tcmd := 2 ^ 31 + 2 ^ 29 + (tok / 128) * 2 ^ 23 + (tok % 128) * 2 ^ 16 }
      | none => d0.setTo o (if s.final.isSome then repeated else { d0.toState o with tcmd := 0 })

/-- R204, R174, R375: the take of a port's downstream channels for its next cycle: the timed outputs are projected and stored, each
slot's payload is formed, a block all of whose channels were stored since the last take is a fresh command, and a remote output that
misses its take is counted. -/
def Dev.downstreamTake (d : Dev) (p : Nat) (relayed : Bool) : Dev :=
  let per := d.portNs p
  let cs := (d.ns / per + 1) * per
  let take := cs - takeLead relayed
  let key := 2 * p + (if relayed then 1 else 0)
  if d.basePort p != p || !d.sends p || decide (d.ns < take) || tget? d.tall.takes key == some cs then d
  else
    let slots := (List.range (d.nodes p)).filter (fun i => d.slotRelayed p i == relayed)
    let d0 := (d.setTall { d.tall with takes := tset d.tall.takes key cs }).scanAll
    let d1 := d0.each (d0.timedOutputs) (fun d e =>
      match d.slotOfEp e.2.1 with
      | some r =>
        if r.port == p && slots.contains r.slot then
          let d2 := d.toTake e.1 p r.slot take
          let s := d2.toState e.1
          let put (d : Dev) (w : Nat) (v : Nat) : Dev := match d.toChan w e.1 with
            | some c => d.chanStore c (wN v)
            | none => d
          (put (put d2 1 s.tfire) 2 s.tcmd).setReg (R.TALL_TO_TFIRE e.1) (wN s.tfire)
        else d
      | none => d)
    let d2 := d1.each slots (fun d i =>
      match d.slotRec p i with
      | none => d
      | some r =>
        let ms := d.img.io.filter (fun m => m.dir == 0 && decide (r.firstEp ≤ m.ep) && decide (m.ep < r.firstEp + r.epCount))
        let word := (ms.map (fun m => fieldOut m.fmt m.width (d.chanSt m.chan).val * 2 ^ (8 * m.byte + m.bit))).foldl (· + ·) 0
        let ok := !ms.isEmpty && d.blockValid p i
        let late := d.img.axes.filter (fun a => a.kind != 0 && decide (r.firstEp ≤ a.ep) && decide (a.ep < r.firstEp + r.epCount) &&
          d.axEnabled a.axis)
        let e := d.each late (fun d a =>
          let fresh := (d.outChans a).all (fun c => (d.chanSt c).fresh) && !(d.outChans a).isEmpty
          if fresh then (match ((d.axSt a.axis).level (d.innermost a.axis)).sampleNs with
            | some t => d.reportDelay a.axis (d.innermost a.axis) (cs - t)
            | none => d)
          else d.bump (R.AXIS_DLYCYC a.axis) F.AXIS_DLYCYC.V 1)
        let sb := e.safeBlock p i (le 12 word)
        let e1 := sb.1.updPort p (fun x => { x with
          blocks := tset x.blocks i sb.2, fresh := if ok then x.fresh.filter (· != i) ++ [i] else x.fresh.filter (· != i) })
        e1.each ms (fun d m => { d with engs := { d.engs with
          chan := tset d.engs.chan m.chan { d.chanSt m.chan with fresh := false } } }))
    if relayed then
      d2.linkSend 3 ((p : Int) :: (((d2.reg (R.LINE_CYCLE p)).toNat + 1 : Nat) : Int) :: slots.flatMap (fun (i : Nat) =>
        [(i : Int), (unle (d2.slotBlock p i ((d2.reg (R.LINE_CYCLE p)).toNat + 1)) : Int)]))
    else d2

/-- R376: a TACK field from a timed output. -/
def Dev.tack (d : Dev) (o : Nat) (w : Word) : Dev :=
  let s := d.toState o
  let tok := (w.toNat / 2 ^ 24) % 256
  let d1 := d.setReg (R.TALL_TO_ACK o) w
  if tok == s.last && bitAt w.toNat 23 then d1.setTo o { s with fired := true } else d1

/-! ### Measurement (R382) -/

/-- R382: a COMMITTED action is measured and freed. -/
def Dev.measureEnd (d : Dev) (i : Nat) (x : ActSt) (et : Option Int) : Dev :=
  let ep := x.ep.getD 0
  let tol := d.fld (R.TALL_TRK_CFG x.trk) F.TALL_TRK_CFG.TOLP
  let d1 := match et with
    | some e => (d.setRegI (R.TALL_TRK_LASTERR x.trk) (sat32 e)).maxReg (R.TALL_TRK_ERRMAX x.trk) e.natAbs
    | none => d
  let miss := et.isNone || (tol != 0 && decide ((tol : Int) * p32 < ep.natAbs))
  let d2 := if miss then (d1.inc R.TALL_CNT_MISS).actEv 0x8007 4 x [wI (sat32 (um ep)), wI (sat32 (et.getD 0x7FFFFFFF))] else d1
  d2.freeAct i

/-- The horizon H of an action's timed output. -/
def Dev.actHorizon (d : Dev) (x : ActSt) : Nat :=
  match d.toSlot x.toIx with
  | some r => d.toHorizon r.port r.slot
  | none => 0

/-- R382: the crossing of a COMMITTED action as e_t, if it falls in its window. -/
def Dev.crossErr (d : Dev) (x : ActSt) : Option Int :=
  match x.cross, x.tc with
  | some (ns, _), some c => let e := (ns : Int) - c; if e.natAbs ≤ d.actHorizon x then some e else none
  | _, _ => none

/-- R382: at t_c the position error is taken; a crossing that has come before it ends the measurement. -/
def Dev.commitMeasure (d : Dev) (i : Nat) : Dev :=
  match d.act? i with
  | none => d
  | some x =>
    match x.state, x.tc, x.ep with
    | 4, some c, none =>
      if d.ns < c then d
      else
        let p := d.posThen x.trk c
        let e := reduce (d.trackMod x.trk) (p - x.q)
        let y := { x with ep := some (if d.regI (R.TRACK_VEL x.trk) < 0 then -e else e) }
        let d1 := d.setAct i y
        if (d.crossErr y).isSome then d1.measureEnd i y (d.crossErr y) else d1
    | _, _, _ => d

/-- R380, R382: the crossing of a live remote action: recorded, and of a COMMITTED one measured past t_c that ends it. -/
def Dev.remoteCross (d : Dev) (i : Nat) : Dev :=
  let d1 := d.scanAll
  match d1.act? i with
  | none => d1
  | some x => if x.state == 4 && x.ep.isSome && (d1.crossErr x).isSome then d1.measureEnd i x (d1.crossErr x) else d1

/-- R382: at t_c + H no crossing has fallen in the window. -/
def Dev.windowExpiry (d : Dev) (i : Nat) : Dev :=
  let d1 := d.scanAll.commitMeasure i
  match d1.act? i with
  | none => d1
  | some x =>
    match x.state, x.tc with
    | 4, some c => if c + d1.actHorizon x ≤ d1.ns then d1.measureEnd i x (d1.crossErr x) else d1
    | _, _ => d1

/-! ### Host messages (R363 to R369) -/

/-- A HANDLE word. -/
def handleWord (h gen : Nat) : Nat := h + gen * 2 ^ 17

/-- R367: the handle and the item that a HANDLE names. -/
def Dev.handleCheck (d : Dev) (w : Nat) : Status × Nat :=
  let h := w % 2 ^ 17
  match d.item? h with
  | some it => (need (it.gen == w / 2 ^ 17) .stale, h)
  | none => (.stale, h)

/-- R365: an action spec at an offset of a message. -/
def specAct (m : List Byte) (o : Nat) : ActSt :=
  { kind := uAt m o 1, trk := uAt m (o + 1) 1, pol := uAt m (o + 2) 1, state := 1, item := 0, gen := 0, slot := 0, ofs := sAt m (o + 4) 4,
    target := uAt m (o + 8) 4, arg0 := uAt m (o + 12) 4, arg1 := uAt m (o + 16) 4 }

/-- R361, R367: the checks of an action spec. -/
def Dev.specCheck (d : Dev) (m : List Byte) (o : Nat) : List Status :=
  let x := specAct m o
  let md := d.trackMod x.trk
  let zeros := uAt m (o + 3) 1 == 0 && allZero ((m.drop (o + 20)).take 12)
  let common := [need (decide (x.pol ≤ 3)) .badArg, need zeros .badArg, need (d.trackRec x.trk).isSome .notReady,
    need (x.pol != 3 || md.isSome || (d.trackRec x.trk).isNone) .badArg]
  let ep := x.target % 2 ^ 17
  let fn := (x.target / 2 ^ 17) % 16
  common ++ match x.kind with
  | 1 => [need (decide (x.target ≤ 63)) .badArg, need (x.arg0 == 0 && x.arg1 == 0) .badArg]
  | 2 => [need (decide (x.target ≤ 63)) .badArg, need (x.arg0 == 0 && x.arg1 == 0) .badArg]
  | 3 => [need (decide (x.target ≤ 63)) .badArg, need (x.arg1 == 0) .badArg, need (x.arg0 != 0) .badLen, need (decide (x.arg0 ≤ 10000000)) .badArg]
  | 4 => [need (decide (x.target < 2 ^ 21)) .badArg, need (decide (x.arg0 < 65536)) .badArg, need (decide (x.arg1 ≤ 2)) .badArg,
          need (x.arg1 == 0 || x.arg0 % 65536 != 0) .badLen, need (d.slotOfEp ep).isSome .notReady,
          need ((d.slotOfEp ep).isNone || (d.toOf ep fn).isSome) .badArg]
  | 5 => [need (decide (x.target < 8192)) .badArg, need (decide (x.arg1 ≤ 2)) .badArg, need (x.arg1 != 2 || x.arg0 == 0) .badArg,
          need (d.axisRec x.target).isSome .notReady, need (!d.isJoint x.target) .badArg]
  | 6 => [need (decide (x.target ≤ 255)) .badArg, need (x.arg1 == 0) .badArg,
          need (x.target == 255 || (d.trackRec x.target).isSome) .notReady]
  | 7 => [need (decide (x.target ≤ 31)) .badArg, need (x.arg0 == 0 && x.arg1 == 0) .badArg]
  | 8 => [need (x.target == 0) .badArg, need (x.arg1 == 0) .badArg]
  | _ => [.badArg]

/-- R367, R368: every check of a spec at offset `o` for an item on track `trk` with the REF given (none: not known), the `j`th new action of its request. -/
def Dev.specFails (d : Dev) (m : List Byte) (o trk : Nat) (ref : Option Int) (j : Nat) : List Status :=
  let x := specAct m o
  let late := match ref with
    | some r =>
      let y := { x with q := d.actQ x.trk r x.ofs }
      x.trk == trk && (d.trackRec trk).isSome && d.actPassed y && d.actPolicy y != 1 && d.actPolicy y != 3
    | none => false
  d.specCheck m o ++ [need (!late) .late, need (decide (d.tall.acts.length + j < 262144)) .noSpace]

/-- R302, R389: what a spec that is refused logs: a discard, or the table that is full. -/
def Dev.specRefused (d : Dev) (m : List Byte) (o h slot : Nat) (st : Status) : Dev :=
  match st with
  | .late => d.discard { specAct m o with item := h, slot := slot }
  | .noSpace => if decide (262144 ≤ d.tall.acts.length) then d.evObj 0x800B 4 h [1] else d
  | _ => d

/-- R368: a spec that passed every check is armed on an item in its slot: the action index. -/
def Dev.placeAct (d : Dev) (h : Nat) (it : ItemSt) (slot : Nat) (x : ActSt) : Dev × Nat :=
  let i := lowestFree d.tall.acts 0
  let toIx := if x.kind == 4 then (d.toOf (x.target % 2 ^ 17) ((x.target / 2 ^ 17) % 16)).getD 0 else 0
  let y := { x with item := h, gen := it.gen, slot := slot, toIx := toIx, q := d.actQ x.trk it.ref x.ofs }
  let d1 := d.setItem h { it with acts := (it.acts.zipIdx).map (fun e => if e.2 == slot then some i else e.1) }
  if y.trk != it.trk then (d1.setAct i { y with state := 1 }, i)
  else (((d1.setAct i { y with state := 2 }).armAct i { y with state := 2 }).getD d1, i)

/-- R366: the REF that an ITEM_ADD gives, or the status that refuses it. -/
def Dev.itemRef (d : Dev) (m : List Byte) (t : Nat) : Status × Int :=
  if uAt m 17 1 == 0 then (.ok, um (d.onTrack t (sAt m 24 8 * p32)))
  else
    let ago := tsDiff d.ts (wN (uAt m 24 4))
    if ago < 0 then (.badArg, 0)
    else
      match d.posPast t (d.ns - ago.toNat) with
      | some p => (.ok, um (d.onTrack t (p - sAt m 28 4 * p32)))
      | none => (.stale, 0)

/-- The specs of an ITEM_ADD are armed one by one: the device and the indices. -/
def Dev.placeAll (d : Dev) (h : Nat) (m : List Byte) : List Nat → Dev × List Nat
  | [] => (d, [])
  | j :: rest =>
    match d.item? h with
    | none => (d, [])
    | some it =>
      let (d1, i) := d.placeAct h it j (specAct m (64 + 32 * j))
      let (d2, is) := d1.placeAll h m rest
      (d2, i :: is)

/-- R364, R366, R367: the checks that an ITEM_ADD makes for the item itself. -/
def Dev.itemChecks (d : Dev) (m : List Byte) : List Status :=
  let t := uAt m 16 1
  let n := uAt m 18 1
  let zeros := uAt m 19 1 == 0 && allZero ((m.drop 36).take 12) && allZero ((m.drop (64 + 32 * min n 4)).take (128 - 32 * min n 4))
  [need (!d.inSwitch) .busy, need (decide (n ≤ 4)) .badLen, need zeros .badArg, need (decide (uAt m 17 1 ≤ 1)) .badArg,
    need (d.trackRec t).isSome .notReady, (d.itemRef m t).1, need (decide (lowestFree d.tall.items 0 < 131072)) .noSpace]

/-- R367: what each action spec of an ITEM_ADD would be answered. -/
def Dev.itemSpecs (d : Dev) (m : List Byte) : List Status :=
  let t := uAt m 16 1
  let (refSt, ref) := d.itemRef m t
  (List.range (min (uAt m 18 1) 4)).map (fun j => lowest (d.specFails m (64 + 32 * j) t (if refSt = .ok then some ref else none) j))

/-- R364, R367: ITEM_ADD. The answer's body runs from byte 16 on. -/
def Dev.itemAddMsg (d0 : Dev) (m : List Byte) : Dev × Status × List Byte :=
  let d := d0.scanAll
  let t := uAt m 16 1
  let n := uAt m 18 1
  let h := lowestFree d.tall.items 0
  let ref := (d.itemRef m t).2
  let base := lowest (d.itemChecks m)
  let specs := d.itemSpecs m
  let st := lowest (base :: specs)
  let none4 := (List.range 4).flatMap (fun _ => le 4 0xFFFFFFFF)
  if st != .ok then
    -- atomic: nothing is added; the status of the first spec that fails with the code answered, if the item itself does not
    let k := if base = st then 4 else specs.findIdx (· == st)
    let codes := (List.range 4).map (fun j => BitVec.ofNat 8 (if j == k then st.code else if j < min n 4 then 9 else 0))
    let d1 := if base != st then d.specRefused m (64 + 32 * k) h k st
      else if st = .noSpace then d.ev 0x800B 4 [0] else d
    (d1, st, le 4 0 ++ none4 ++ codes ++ le 8 0)
  else
    let gen := (tget d.tall.gens h 0 + 1) % 32768
    let it : ItemSt := { trk := t, gen := gen, tag := uAt m 20 4, ref := ref, len := uAt m 32 4, addTime := d.ts.toNat, xfrTime := d.ts.toNat,
                         user := slice m 48 16 }
    let (d1, is) := (d.setItem h it).placeAll h m (List.range n)
    let d2 := d1.setTall { d1.tall with gens := tset d1.tall.gens h gen }
    (d2, .ok, le 4 (handleWord h gen) ++ (List.range 4).flatMap (fun j => le 4 (is.getD j 0xFFFFFFFF)) ++ le 4 0 ++
      le 8 (modN 64 ref))

/-- The lowest free action slot of an item (R368). -/
def ItemSt.freeSlot (x : ItemSt) : Option Nat := x.acts.findIdx? (fun (a : Option Nat) => a.isNone)

/-- R367, R368: the checks of an ACT_ARM. -/
def Dev.actArmChecks (d : Dev) (m : List Byte) : List Status :=
  let (hs, h) := d.handleCheck (uAt m 16 4)
  let it := d.item? h
  need (!d.inSwitch) .busy :: hs :: need (allZero ((m.drop 20).take 12)) .badArg :: need (it.all (fun x => x.freeSlot.isSome)) .noSpace ::
    d.specFails m 32 ((it.map (·.trk)).getD 0) (if hs = .ok then it.map (·.ref) else none) 0

/-- ACT_ARM (R363, R368). -/
def Dev.actArmMsg (d0 : Dev) (m : List Byte) : Dev × Status × List Byte :=
  let d := d0.scanAll
  let w := uAt m 16 4
  let h := (d.handleCheck w).2
  let it := d.item? h
  let slot := match it with | some x => x.freeSlot | none => some 0
  let st := lowest (d.actArmChecks m)
  match it with
  | some x =>
    if st != .ok then (d.specRefused m 32 h (slot.getD 0) st, st, le 4 w)
    else
      let (d1, i) := d.placeAct h x (slot.getD 0) (specAct m 32)
      (d1, .ok, le 4 w ++ le 4 i ++ le 1 (slot.getD 0))
  | none => (d, if st = .ok then .stale else st, le 4 w)

/-- The action in a slot of an item that has not been crossed (R369, R372). -/
def Dev.slotAct (d : Dev) (h slot : Nat) : Option Nat :=
  match (d.item? h).bind (fun x => (x.acts[slot]?).getD none) with
  | some k => if d.queued k || (d.act? k).isNone then none else some k
  | none => none

/-- R369: the checks of an ACT_CANCEL. -/
def Dev.actCancelChecks (d : Dev) (m : List Byte) : List Status :=
  let (hs, h) := d.handleCheck (uAt m 16 4)
  let slot := uAt m 20 1
  let x := (d.slotAct h slot).bind d.act?
  [need (!d.inSwitch) .busy, hs, need (decide (slot ≤ 3) && allZero ((m.drop 21).take 43)) .badArg, need (hs != .ok || x.isSome) .notReady,
    need (match x with | some a => a.state != 4 | none => true) .late]

/-- ACT_CANCEL (R369). -/
def Dev.actCancelMsg (d0 : Dev) (m : List Byte) : Dev × Status × List Byte :=
  let d := d0.scanAll
  let w := uAt m 16 4
  let st := lowest (d.actCancelChecks m)
  (if st = .ok then d.freeAct ((d.slotAct (d.handleCheck w).2 (uAt m 20 1)).getD 0) else d, st, le 4 w)

/-- R369: the checks of an ITEM_REMOVE. -/
def Dev.itemRemoveChecks (d : Dev) (m : List Byte) : List Status :=
  [need (!d.inSwitch) .busy, (d.handleCheck (uAt m 16 4)).1, need (allZero ((m.drop 20).take 44)) .badArg]

/-- ITEM_REMOVE (R369). -/
def Dev.itemRemoveMsg (d0 : Dev) (m : List Byte) : Dev × Status × List Byte :=
  let d := d0.scanAll
  let w := uAt m 16 4
  let st := lowest (d.itemRemoveChecks m)
  (if st = .ok then d.removeItem (d.handleCheck w).2 else d, st, le 4 w)

/-- R369: the checks of an ITEM_SHIFT. -/
def Dev.itemShiftChecks (d : Dev) (m : List Byte) : List Status :=
  [need (!d.inSwitch) .busy, (d.handleCheck (uAt m 16 4)).1, need (allZero ((m.drop 24).take 40)) .badArg]

/-- ITEM_SHIFT (R369). -/
def Dev.itemShiftMsg (d0 : Dev) (m : List Byte) : Dev × Status × List Byte :=
  let d := d0.scanAll
  let w := uAt m 16 4
  let h := (d.handleCheck w).2
  let st := lowest (d.itemShiftChecks m)
  match d.item? h with
  | some it =>
    if st != .ok then (d, st, le 4 w)
    else
      let ref := um (d.onTrack it.trk ((it.ref + sAt m 20 4) * p32))
      let d1 := d.setItem h { it with ref := ref }
      let d2 := d1.each it.held (fun d i => match d.act? i with
        | some x =>
          if x.state == 4 || d.queued i then d
          else
            let y := { x with q := d.actQ x.trk ref x.ofs }
            if x.trk == it.trk then (d.setAct i y).retestAct i else d.setAct i y
        | none => d)
      (d2, st, le 4 w ++ le 4 0 ++ le 8 (modN 64 ref))
  | none => (d, if st = .ok then .stale else st, le 4 w)

/-- R359: the 64 bytes of an item record. -/
def Dev.itemBytes (d : Dev) (h : Nat) : List Byte :=
  match d.item? h with
  | some x =>
    le 1 x.trk ++ le 1 1 ++ le 2 x.gen ++ le 4 x.tag ++ le 8 (modN 64 x.ref) ++ le 4 x.len ++ le 4 x.addTime ++ le 4 x.xfrTime ++
      le 1 x.held.length ++ le 3 0 ++ x.acts.flatMap (fun a => le 4 (a.getD 0xFFFFFFFF)) ++ slice x.user 0 16
  | none => le 2 0 ++ le 2 (tget d.tall.gens h 0) ++ le 28 0 ++ (List.range 4).flatMap (fun _ => le 4 0xFFFFFFFF) ++ le 16 0

/-- R360: the 32 bytes of an action entry. -/
def Dev.actBytes (d : Dev) (i : Nat) : List Byte :=
  match d.act? i with
  | some x =>
    le 1 x.kind ++ le 1 x.trk ++ le 1 (x.pol % 4 + (if x.wrap.isSome then 4 else 0) + (if x.replay then 8 else 0)) ++ le 1 x.state ++
      le 4 (handleWord x.item x.gen) ++ le 4 (modN 32 x.ofs) ++ le 4 x.target ++ le 4 x.arg0 ++ le 4 x.arg1 ++
      le 4 (if x.remote then x.tfire else 0) ++ le 2 (if x.remote then x.toIx else 0) ++ le 1 (if x.remote then x.token else 0) ++ le 1 x.slot
  | none => le 32 0

/-- R363: the checks of an ITEM_READ. -/
def Dev.itemReadChecks (d : Dev) (m : List Byte) : List Status :=
  [(d.handleCheck (uAt m 16 4)).1, need (allZero ((m.drop 20).take 44)) .badArg]

/-- ITEM_READ (R363). It is answered during an activation too. -/
def Dev.itemReadMsg (d : Dev) (m : List Byte) : Dev × Status × List Byte :=
  let w := uAt m 16 4
  let st := lowest (d.itemReadChecks m)
  (d, st, le 4 w ++ le 44 0 ++ (if st = .ok then d.itemBytes (d.handleCheck w).2 else le 64 0))

/-! ### Registers -/

/-- R385: FLUSH removes every item, CLRMAX clears every TALL_TRK_ERRMAX. -/
def Dev.tallCtlDo (d : Dev) (w : Word) : Dev :=
  let d1 := if getF w F.TALL_CTL.FLUSH == 1 then d.scanAll.each (d.tall.items.map (·.1)) (fun d h => d.removeItem h) else d
  if getF w F.TALL_CTL.CLRMAX == 1 then d1.each (List.range 256) (fun d t => d.setReg (R.TALL_TRK_ERRMAX t) 0) else d1

/-- R386: a read of TALL_ITEM_WIN(0) copies the record of the selected handle. -/
def Dev.itemWin (d : Dev) (k : Nat) : Dev × Word :=
  let d1 := if k = 0 then
      let b := d.itemBytes (d.fld R.TALL_ITEM_SEL F.TALL_ITEM_SEL.V)
      d.setTall { d.tall with win := (List.range 16).map (fun i => wN (uAt b (4 * i) 4)) }
    else d
  (d1, d1.tall.win.getD k 0)

/-- R386, R387, R388: registers that show counts and states. -/
def Dev.tallLive (d : Dev) (t : Nat) : Nat := (d.tall.acts.filter (fun e => e.2.trk == t && e.2.state != 1 && d.live e.2)).length

/-- R388: TALL_TO_STAT. -/
def Dev.toStat (d : Dev) (o : Nat) : Word :=
  let s := d.toState o
  let st := match s.act with
    | some a => (match d.act? a with | some x => if x.state == 4 then 2 else if x.state == 3 then 1 else 0 | none => 0)
    | none => 0
  let waiting := (d.tall.acts.filter (fun e => e.2.remote && e.2.toIx == o && e.2.state == 5)).length
  wN (st * 2 ^ 30 + s.last * 2 ^ 16 + min waiting 65535)

/-! ### Resets and power states (R390) -/

/-- R390: items, actions and timed outputs are lost. -/
def Dev.tallClear (d : Dev) : Dev := d.setTall { gens := d.tall.gens }

/-- R390: entry to P3: PROJECTED actions return to ARMED. -/
def Dev.tallHold (d : Dev) : Dev :=
  d.each (d.tall.acts.map (·.1)) (fun d i => match d.act? i with
    | some x => if x.state == 3 then (d.toRelease i x).setAct i { x with state := 2 } else d
    | none => d)

/-- R374: a double-symbol error in an item (`isItem`) or action entry. -/
def Dev.tallEcc (d : Dev) (isItem : Bool) (k : Nat) : Dev :=
  if isItem then
    match d.item? k with
    | some it =>
      let d1 := d.each it.held (fun d i => match d.act? i with
        | some x => (d.inc R.TALL_CNT_DROP).actEv 0x8005 3 x [2]
        | none => d)
      (d1.removeItem k).evObj 0x800D 5 k [wN (64 * k)]
    | none => d
  else
    match d.act? k with
    | some x => (((d.inc R.TALL_CNT_DROP).actEv 0x8005 3 x [2]).freeAct k).actEv 0x800D 5 x [wN (8388608 + 32 * k)]
    | none => d

/-! ### Commands -/

/-- TRACK_UPDATE (R310, R312): the tracks are compared up to now, updated and published to the Tallboy. -/
def execTrackUpdate (s : State) : Host.Outcome State Fault Refusal :=
  s.run (fun d =>
    let before := d.mot.trackTick
    let d1 := d.scanAll.trackUpdate
    if d1.mot.trackTick == before then d1 else d1.publish)

/-- ACTION_FIRING (R372). -/
def execActionFiring (s : State) : Host.Outcome State Fault Refusal :=
  s.run (fun d =>
    let d1 := d.scanAll
    if d1.mayFire then d1.fireNext else d1)

/-- PULSE_END (R361). -/
def execPulseEnd (k : Nat) (s : State) : Host.Outcome State Fault Refusal := s.runIf (decide (k < 64)) (fun d => d.pulseEnd k)

/-- COMMIT_MEASURE (R382). -/
def execCommitMeasure (i : Nat) (s : State) : Host.Outcome State Fault Refusal :=
  s.runIf (decide (i < 262144)) (fun d => d.scanAll.commitMeasure i)

/-- TACK_RECEIVED (R376). -/
def execTackReceived (o : Nat) (w : Word) (s : State) : Host.Outcome State Fault Refusal :=
  s.runIf (decide (o < 8192)) (fun d => d.tack o w)

/-- TALL_ECC (R374). -/
def execTallEcc (isItem : Bool) (k : Nat) (s : State) : Host.Outcome State Fault Refusal :=
  s.runIf (decide (k < 262144)) (fun d => d.tallEcc isItem k)

/-- REMOTE_ACTION_CROSSING (R382). -/
def execRemoteActionCrossing (i : Nat) (s : State) : Host.Outcome State Fault Refusal :=
  s.runIf (decide (i < 262144)) (fun d => d.remoteCross i)

/-- COMMIT_WINDOW_EXPIRY (R382). -/
def execCommitWindowExpiry (i : Nat) (s : State) : Host.Outcome State Fault Refusal :=
  s.runIf (decide (i < 262144)) (fun d => d.windowExpiry i)

/-- DOWNSTREAM_TAKE (R204). -/
def execDownstreamTake (p : Nat) (relayed : Bool) (s : State) : Host.Outcome State Fault Refusal :=
  s.runIf (decide (p < 24)) (fun d => d.downstreamTake p relayed)

end Sys2Proof.Machine
end

