-- ==== Sys2Proof/Machine/RegSpace.lean ====
section
/-! DEFINITION. The register space (R7, R10, R21): which register stands at an address, whether it exists and is reachable, and what a read
of it returns (R8, R9, R579). -/

namespace Sys2Proof.Machine

open Sys2Proof

/-! ### Addresses -/

/-- R7: the register blocks; AXIS_MOT and VM are parts of the blocks AXIS and TRACK. -/
inductive Blk
  | sys | clk | pwr | sec | time | fab | ce | pwm | fbk | axis | track | arm | tall | gorse | line | can | dio | safe | cap | evt | pair
  | host
  deriving DecidableEq, Repr

/-- R7: the first addresses of the blocks after SYS, highest first. -/
def blkBases : List (Nat × Blk) :=
  [(0x0E000000, .host), (0x0D000000, .pair), (0x0C800000, .evt), (0x0C000000, .cap), (0x0B000000, .safe), (0x0A800000, .dio),
   (0x0A000000, .can), (0x08000000, .line), (0x07000000, .gorse), (0x06000000, .tall), (0x05000000, .arm), (0x04800000, .track),
   (0x04000000, .axis), (0x03100000, .fbk), (0x03000000, .pwm), (0x02000000, .ce), (0x01000000, .fab), (0x00800000, .time),
   (0x00400000, .sec), (0x00200000, .pwr), (0x00100000, .clk)]

/-- The block in which an address lies. -/
def blkOf (addr : Nat) : Blk :=
  match blkBases.find? (fun e => decide (e.1 ≤ addr)) with
  | some e => e.2
  | none => .sys

/-- The indices with which a register name stands at an address, if it does. -/
def RegInfo.indexAt (x : RegInfo) (addr : Nat) : Option (Nat × Nat) :=
  if addr < x.base then none
  else
    let o := addr - x.base
    match x.dims with
    | [] => if o = 0 then some (0, 0) else none
    | [(n, s)] => if o % s = 0 && decide (o / s < n) then some (o / s, 0) else none
    | (n, s) :: (m, t) :: _ =>
      let i := o / s
      let q := o % s
      if decide (i < n) && q % t = 0 && decide (q / t < m) then some (i, q / t) else none

/-- The register at an address (R10). -/
def regAt (addr : Nat) : Option Reg :=
  regNames.findSome? (fun n => (n.info.indexAt addr).map (fun e => ⟨n, e.1, e.2⟩))

/-- R21: whether the active image configures the object that a register belongs to. -/
def Dev.present (d : Dev) (r : Reg) : Bool :=
  match blkOf r.addr with
  | .axis => (d.axisRec r.i).isSome
  | .arm => (d.armRec r.i).isSome
  | .track =>
    match r.name with
    | .VM_CTL | .VM_VEL | .VM_ACC | .VM_POS_LO | .VM_POS_HI | .VM_CURVEL | .VM_SET_LO | .VM_SET_HI => true
    | _ => (d.trackRec r.i).isSome
  | .tall =>
    match r.name with
    | .TALL_TRK_CFG | .TALL_TRK_STAT | .TALL_TRK_ERRMAX | .TALL_TRK_LASTERR => (d.trackRec r.i).isSome
    | .TALL_TO_STAT | .TALL_TO_TFIRE | .TALL_TO_ACK | .TALL_TO_CNT => d.timedOutputs.any (fun e => e.1 == r.i)
    | _ => true
  | .gorse =>
    match r.name with
    | .GORSE_ARM_CFG | .GORSE_ARM_SLOW | .GORSE_ARM_ZONE | .GORSE_ARM_STAT | .GORSE_ARM_MARGIN | .GORSE_ARM_DIST | .GORSE_ARM_SP
    | .GORSE_ARM_PAIR | .GORSE_ARM_SPEED | .GORSE_ARM_CAPEN => (d.armRec r.i).isSome
    | _ => true
  | .line =>
    match r.name with
    | .GRP_REQ | .GRP_CFG | .GRP_STAT | .GRP_SPLIT => d.img.groups.any (fun g => g.group == r.i)
    | .LINE_SLOT_STAT => decide (r.j < d.nodes r.i)
    | .LINE_MARK_OFS | .LINE_MARK_CTL => d.basePort r.i == r.i
    | _ => true
  | _ => true

/-- R579, R608: a block runs in the present power state. -/
def Dev.blkOn (d : Dev) (b : Blk) : Bool :=
  if d.pstate ≤ 2 then true
  else if d.pstate == 3 then b != .ce
  else [Blk.sys, .clk, .pwr, .sec, .time, .fab, .safe, .evt, .pair, .host].contains b

/-- R10, R21, R579: an access to an address, before anything else is looked at. -/
def Dev.reach (d : Dev) (addr : Nat) : Status × Option Reg :=
  match regAt addr with
  | none => (.badArg, none)
  | some r => if d.present r && d.blkOn (blkOf addr) then (.ok, some r) else (.notReady, none)

/-! ### Register pairs (R8) -/

/-- R8: the _HI half of a _LO register. -/
def RegName.hi? : RegName → Option RegName
  | .TIME_NS_LO => some .TIME_NS_HI
  | .TIME_TICK_LO => some .TIME_TICK_HI
  | .TIME_STEP_LO => some .TIME_STEP_HI
  | .PWM_CMP_LO => some .PWM_CMP_HI
  | .AXIS_MOT_TGT_LO => some .AXIS_MOT_TGT_HI
  | .AXIS_MOT_POS_LO => some .AXIS_MOT_POS_HI
  | .AXIS_VL_MIN_LO => some .AXIS_VL_MIN_HI
  | .AXIS_VL_MAX_LO => some .AXIS_VL_MAX_HI
  | .AXIS_GEAR_AT_LO => some .AXIS_GEAR_AT_HI
  | .AXIS_GEAR_FIRED_LO => some .AXIS_GEAR_FIRED_HI
  | .TRACK_POS_LO => some .TRACK_POS_HI
  | .TRACK_SET_LO => some .TRACK_SET_HI
  | .VM_POS_LO => some .VM_POS_HI
  | .VM_SET_LO => some .VM_SET_HI
  | .PAIR_MPOINT_LO => some .PAIR_MPOINT_HI
  | .HOST_P_MAC_LO => some .HOST_P_MAC_HI
  | _ => none

/-- R8: the _HI half of a pair. -/
def RegName.isHi : RegName → Bool
  | .TIME_NS_HI | .TIME_TICK_HI | .TIME_STEP_HI | .PWM_CMP_HI | .AXIS_MOT_TGT_HI | .AXIS_MOT_POS_HI | .AXIS_VL_MIN_HI
  | .AXIS_VL_MAX_HI | .AXIS_GEAR_AT_HI | .AXIS_GEAR_FIRED_HI | .TRACK_POS_HI | .TRACK_SET_HI | .VM_POS_HI | .VM_SET_HI
  | .PAIR_MPOINT_HI | .HOST_P_MAC_HI => true
  | _ => false

/-! ### What a read returns -/

/-- The register's word as it is stored, with the fields that read as 0 masked: WO and W1S (R9). -/
def Dev.stored (d : Dev) (r : Reg) : Word :=
  r.name.info.flds.foldl (fun w f => if f.acc == .wo || f.acc == .w1s then putF w ⟨f.hi, f.lo⟩ 0 else w) (d.reg r)

/-- R536: the Bureau's registers. -/
def Dev.evtView (d : Dev) (r : Reg) : Word :=
  let b := d.bureau
  match r.name with
  | .EVT_STAT =>
    let store := match b.store with | .mram => 0 | .lastGasp => 1 | .copying => 2
    let w1 := putF (putF (d.stored r) F.EVT_STAT.STORE store) F.EVT_STAT.REGFAIL (if b.regFail then 1 else 0)
    putF w1 F.EVT_STAT.RETIRED b.retired.length
  | .EVT_OLDEST => (b.oldest.map (·.seq)).getD 0
  | .EVT_NEWEST => (b.newest.map (·.seq)).getD 0
  | .EVT_COUNT => wN b.mram.length
  | .EVT_LGCOUNT => wN b.lg.length
  | .EVT_OVF => wN (tget b.ovf r.i 0)
  | .EVT_CNT_LOST => wN b.lost
  | .EVT_CNT_TORN => wN b.torn
  | .EVT_REGMAP => wN ((List.range 32).foldl (fun n j => if b.retired.contains (32 * r.i + j) then setBit n j else n) 0)
  | _ => d.stored r

/-- R571: the slot of the controlling session. -/
def Dev.ctlSlot (d : Dev) : Option Nat := (d.host.sess.find? (fun e => e.2.ctl)).map (·.1)

/-- R587 to R590: the registers of the host interface. -/
def Dev.hostView (d : Dev) (r : Reg) : Word :=
  match r.name with
  | .HOST_STAT =>
    let mask := d.host.sess.foldl (fun n e => setBit n e.1) 0
    let w := putF (d.stored r) F.HOST_STAT.SESSMASK mask
    match d.ctlSlot with
    | some s => putF (putF w F.HOST_STAT.CTLVALID 1) F.HOST_STAT.CTLSLOT s
    | none => w
  | .HOST_S_STAT =>
    match tget? d.host.sess r.i with
    | some s => putF (putF (putF (putF 0 F.HOST_S_STAT.VALID 1) F.HOST_S_STAT.CTL (if s.ctl then 1 else 0)) F.HOST_S_STAT.PORT s.peer.port)
        F.HOST_S_STAT.SESSID s.sessId
    | none => 0
  | .HOST_P_MAC_LO => wN ((Config.mac r.i).toNat)
  | .HOST_P_MAC_HI => wN ((Config.mac r.i).toNat / 2 ^ 32)
  | .HOST_S_DROP => wN (tget d.host.dropped r.i 0)
  | .HOST_Q_CFG =>
    match d.queue? r.i with
    | some q => putF (putF (putF (putF (putF 0 F.HOST_Q_CFG.OPEN 1) F.HOST_Q_CFG.SLOT q.slot) F.HOST_Q_CFG.DEPTH (Nat.log2 q.depth - 8))
        F.HOST_Q_CFG.RESV q.resv) F.HOST_Q_CFG.RESPQ q.respQ
    | none => 0
  | .HOST_Q_POS => match d.queue? r.i with | some q => wN q.pos | none => 0
  | .HOST_Q_ACK => match d.queue? r.i with | some q => wN q.ack | none => 0
  | _ => d.stored r

/-- R185, R189: CE_STAT as the engine stands: what it runs, an idle engine gated in P1 and retained in P2, the context in issue or last in issue, and its
suspended tasks. -/
def Dev.ceStat (d : Dev) (e : Nat) : Word :=
  let x := d.eng e
  let p := pickInst x.insts
  let st := if x.plen == 0 then 0 else if x.halted then 5
    else if d.engineOff e then (if d.pstate == 1 then 6 else if d.pstate == 2 then 7 else 0)
    else match p with
      | none => 1
      | some i => 2 + i.ctx
  let susp := (d.img.tasks.filter (fun t => t.engine == e && (d.tstat t.task).suspended)).length
  let ctx := match p with
    | some i => i.ctx
    | none => x.cur
  putF (putF (putF (putF 0 F.CE_STAT.STATE st) F.CE_STAT.CTX ctx) F.CE_STAT.SUSP (min susp 255)) F.CE_STAT.FBLOCK (if d.fblock e then 1 else 0)

/-- R187: the word at CE_MEM_ADDR; an address beyond the memory has no word that the spec names. -/
def Dev.ceMem (d : Dev) (e : Nat) : Word :=
  let a := d.fld (R.CE_MEM_ADDR e) F.CE_MEM_ADDR.ADDR
  let x := d.eng e
  if 65536 ≤ a then (Config.freeBits d.fresh).setWidth 32
  else match d.fld (R.CE_MEM_ADDR e) F.CE_MEM_ADDR.MEM with
    | 0 => ((tget x.prog (a / 2) 0).toNat / 2 ^ (32 * (a % 2)) : Nat) |> wN
    | 1 => tget x.xmem a 0
    | _ => tget x.ymem a 0

/-- R187: the figures of the task in CE_TASK_SEL, if it runs on the engine. -/
def Dev.ceTask (d : Dev) (r : Reg) : Word :=
  let t := d.fld (R.CE_TASK_SEL r.i) F.CE_TASK_SEL.V
  if !(d.img.tasks.any (fun x => x.task == t && x.engine == r.i)) then 0
  else
    let s := d.tstat t
    match r.name with
    | .CE_TASK_MAXCYC => wN s.maxCyc
    | .CE_TASK_MAXFIN => wN s.maxFin
    | _ => putF (putF 0 F.CE_TASK_CNT.FAULTS (min s.faults 65535)) F.CE_TASK_CNT.OVR (min s.ovr 65535)

/-- R224: the registers of a level: one that the cascade does not run reads 0, and so do the observer registers of a level other than the
velocity level and the second feed-forward gain of a level other than that. -/
def Dev.lvlView (d : Dev) (r : Reg) : Word :=
  if !(d.levels r.i).contains r.j then 0
  else match r.name with
    | .LVL_FFB | .LVL_OBS_L1 | .LVL_OBS_L2 | .LVL_OBS_JINV => if r.j == 1 then d.stored r else 0
    | _ => d.stored r

/-- R615: whole seconds from now to an instant of TIME_NS. -/
def Dev.secsLeft (d : Dev) (t : Option Nat) : Word :=
  match t with
  | some n => wN (min ((n - d.ns) / 1000000000) 0xFFFFFFFF)
  | none => 0

/-- What a register shows. -/
def Dev.view (d : Dev) (r : Reg) : Word :=
  match r.name with
  | .TIME_NS_LO => wN d.ns
  | .TIME_NS_HI => wN (d.ns / 2 ^ 32)
  | .TIME_TICK_LO => wN d.time.tick
  | .TIME_TICK_HI => wN (d.time.tick / 2 ^ 32)
  | .TIME_UPTIME => wN d.uptime
  | .SEC_SVCLEFT => d.secsLeft d.sec.svcEnd
  | .SEC_DBGLEFT => if d.secState == 0 then 0 else d.secsLeft d.sec.dbgEnd
  | .SEC_MS => if r.j == 0 then d.reg r else (tget d.sec.msCopy r.i []).getD r.j 0
  | .CE_STAT => d.ceStat r.i
  | .CE_TASK_MAXCYC | .CE_TASK_MAXFIN | .CE_TASK_CNT => d.ceTask r
  | .CE_MEM_DATA => d.ceMem r.i
  | .PWM_DRV_STAT => putF (putF (d.stored r) F.PWM_DRV_STAT.FSELOUT (if d.fselOut r.i then 1 else 0)) F.PWM_DRV_STAT.TRIPIN (d.tripIn r.i)
  | .PWM_CMP_LO => wN (d.leg (12 * r.i + r.j)).use.1
  | .PWM_CMP_HI => wN (d.leg (12 * r.i + r.j)).use.2
  | .PWM_LEG_STAT => putF (d.stored r) F.PWM_LEG_STAT.STATE (d.legState (12 * r.i + r.j))
  | .LVL_CFG | .LVL_KP0 | .LVL_KI0 | .LVL_KD0 | .LVL_ILIM0 | .LVL_KP1 | .LVL_KI1 | .LVL_KD1 | .LVL_ILIM1 | .LVL_DPOLE | .LVL_OLIM
  | .LVL_FFA | .LVL_FFB | .LVL_OBS_L1 | .LVL_OBS_L2 | .LVL_OBS_JINV => d.lvlView r
  | .TALL_ITEMS => wN d.tall.items.length
  | .TALL_ACTS => wN d.tall.acts.length
  | .TALL_ACT_WIN => wN (uAt (d.actBytes (d.fld R.TALL_ACT_SEL F.TALL_ACT_SEL.V)) (4 * r.i) 4)
  | .TALL_TRK_STAT => wN (d.tallLive r.i)
  | .TALL_TO_STAT => d.toStat r.i
  | .DIO_OUT_SET | .DIO_OUT_CLR => d.reg (R.DIO_OUT r.i)
  | .EVT_STAT | .EVT_OLDEST | .EVT_NEWEST | .EVT_COUNT | .EVT_LGCOUNT | .EVT_OVF | .EVT_CNT_LOST | .EVT_CNT_TORN | .EVT_REGMAP =>
    d.evtView r
  | .PAIR_STAT => putF (putF (putF (putF (d.stored r) F.PAIR_STAT.ROLE (d.fld R.LINE_GSTAT F.LINE_GSTAT.ROLE)) F.PAIR_STAT.LAG d.lag)
      F.PAIR_STAT.PHK d.phk) F.PAIR_STAT.LINESUP (if d.linesUp then 1 else 0)
  | .HOST_STAT | .HOST_S_STAT | .HOST_S_DROP | .HOST_Q_CFG | .HOST_Q_POS | .HOST_Q_ACK => d.hostView r
  | _ => d.stored r

/-- R9: the fields that a read clears. -/
def Dev.clearRead (d : Dev) (r : Reg) : Dev :=
  let x := r.name.info
  if x.cor then d.setReg r x.resetWord
  else x.flds.foldl (fun d f => if f.acc == .roc then d.setFld r ⟨f.hi, f.lo⟩ 0 else d) d

/-- A read of a register, with what the read does. -/
def Dev.readReg (d : Dev) (r : Reg) : Dev × Word :=
  match r.name with
  | .EVT_WIN => d.winRead r.i r.j
  | .TALL_ITEM_WIN => d.itemWin r.i
  | .SEC_MS =>
    let w := d.view r
    (if r.j == 0 then d.setSec { d.sec with msCopy := tset d.sec.msCopy r.i (bytesWords 12 (d.msBytes r.i)) } else d, w)
  | .FBK_PRB_POS => (d.probeRead r.i, d.view r)
  | .DIO_CAP_STAT => (d.dioCapRead r.i, d.view r)
  | .CE_MEM_DATA =>
    (if d.fld (R.CE_MEM_ADDR r.i) F.CE_MEM_ADDR.ADDR < 65536 then d else { d with fresh := d.fresh + 1 }, d.view r)
  | _ => (d.clearRead r, d.view r)

/-- R8, R580: a read by a session: _LO latches _HI for it, and _HI returns the latched half where there is one. The latches are kept by
the address of the _HI register. -/
def Dev.readFor (d : Dev) (ses : Nat) (r : Reg) : Dev × Word :=
  match tget? d.host.sess ses with
  | none => d.readReg r
  | some s =>
    match r.name.hi? with
    | some h =>
      let hi : Reg := { r with name := h }
      let (d1, w) := d.readReg r
      ({ d1 with host := { d1.host with sess := tset d1.host.sess ses { s with latch := tset s.latch hi.addr (d.view hi) } } }, w)
    | none =>
      match (if r.name.isHi then tget? s.latch r.addr else none) with
      | some w => (d, w)
      | none => d.readReg r

/-- R579: a read of an address by a session; a slot without a session reads nothing. -/
def Dev.readAddr (d : Dev) (ses addr : Nat) : Dev × Status × Word :=
  if (tget? d.host.sess ses).isNone then (d, .denied, 0)
  else
    match d.reach addr with
    | (.ok, some r) => let (d1, w) := d.readFor ses r; (d1, .ok, w)
    | (st, _) => (d, st, 0)

end Sys2Proof.Machine
end

