-- ==== Sys2Proof/Machine/RegAccess.lean ====
section
/-! DEFINITION. Register writes (R8, R9, R661, R662): the checks of each register's own rule, what each write starts, and the access of a
session (R571, R579). -/

namespace Sys2Proof.Machine

open Sys2Proof

/-! ### The written word (R661) -/

/-- R11, R661: the word a register holds after an accepted write: RW and RWL fields take their bits, W1C bits written 1 clear but for those of
`hw`, which hardware has set in this clock, all else stays. -/
def mergeWord (x : RegInfo) (old w hw : Word) : Word :=
  x.flds.foldl (fun v f =>
    let b : Fld := ⟨f.hi, f.lo⟩
    match f.acc with
    | .rw | .rwl => putF v b (getF w b)
    | .w1c => putF v b (getF (old &&& ~~~(w &&& ~~~hw)) b)
    | _ => v) old

/-- R661: the written word acts in a W1S, W1C or WO field. -/
def writeActs (x : RegInfo) (w : Word) : Bool :=
  x.flds.any (fun f => (f.acc == .wo || f.acc == .w1s || f.acc == .w1c) && getF w ⟨f.hi, f.lo⟩ != 0)

/-- R9: every field of the register is read only. -/
def RegInfo.readOnly (x : RegInfo) : Bool := x.flds.all (fun f => f.acc == .ro || f.acc == .roc)

/-- R9: the write would change a field of access RWL. -/
def lockedChange (x : RegInfo) (old w : Word) : Bool :=
  x.flds.any (fun f => f.acc == .rwl && getF old ⟨f.hi, f.lo⟩ != getF w ⟨f.hi, f.lo⟩)

/-- R40, R199, R235, R610: registers of which every write has an effect of its own; a register that is one WO word is one too. -/
def RegName.everyWrite : RegName → Bool
  | .CLK_CTL | .PWR_LATTOL | .FLT_CFG | .PWM_CMP_LO | .TIME_STEP_LO | .TRACK_SET_LO | .TRACK_CORR | .FBK_ENC_PRESET | .VM_SET_LO => true
  | _ => false

/-- R662: the blocks whose fields a host write cannot change between T and T + 4 ms. -/
def switchBlks : List Blk := [.axis, .track, .arm, .tall, .gorse, .line, .pwm, .fbk, .ce, .can, .dio, .cap]

/-! ### The checks of each register's own rule -/

/-- Checks of the registers of SYS, CLK, PWR, SEC, TIME, FAB, EVT, PAIR and HOST. -/
def Dev.unitCheck (d : Dev) (r : Reg) (old new w : Word) : List Status :=
  let ch (f : Fld) : Bool := getF old f != getF new f
  let n := new.toNat
  match r.name with
  | .SYS_RST_CTL =>
    if getF w F.SYS_RST_CTL.WARM == 0 then []
    else [need (getF w F.SYS_RST_CTL.KEY == 0x5741) .badArg, need (!d.anyEnabled) .conflict,
          need (!d.bit R.SYS_PF_STAT F.SYS_PF_STAT.PFW) .notReady]
  | .SYS_WDT_CFG =>
    let t := getF new F.SYS_WDT_CFG.TIMEOUT
    [need (t != 0) .badLen, need (decide (100 ≤ t) && decide (t ≤ 10000)) .badArg]
  | .CLK_CTL => clkCtlCheck w
  | .SEC_CTL => d.secCtlCheck w
  | .TIME_RATE => d.rateCheck w
  | .TIME_PTP_CFG => ptpCfgCheck new
  | .TIME_CMP_TGT | .TIME_CMP_PER => d.cmpValCheck r.i
  | .TIME_CMP_CTL => d.cmpCtlCheck r.i w
  | .TIME_CMP_STAT => [need (!d.cmpOwned r.i) .denied]
  | .FAB_IMG_CTL => d.imgCtlCheck old w
  | .SAFE_CTL => [need (getF w F.SAFE_CTL.ACK == 0 || (d.safeRecs 1).any (fun b => uAt b 2 1 == 1)) .denied]
  | .EVT_CTL => [need (getF w F.EVT_CTL.CLEAR == 0 || d.secState == 0) .denied]
  | .EVT_CFG => [need (!ch F.EVT_CFG.KEEP || getF new F.EVT_CFG.KEEP != 0) .badArg]
  | .PAIR_CFG =>
    let l := getF new F.PAIR_CFG.LINKTO
    let s := getF new F.PAIR_CFG.STALEMAX
    [need (!ch F.PAIR_CFG.LINKTO || l != 0) .badLen, need (!ch F.PAIR_CFG.STALEMAX || s != 0) .badLen,
     need (!ch F.PAIR_CFG.LINKTO || (decide (2 ≤ l) && decide (l ≤ 32))) .badArg,
     need (!ch F.PAIR_CFG.STALEMAX || decide (s ≤ 64)) .badArg]
  | .PAIR_CTL => d.pairCtlCheck w
  | .HOST_CFG =>
    [need (getF new F.HOST_CFG.UDPPORT != 0 && getF new F.HOST_CFG.HELLOPER != 0 && getF new F.HOST_CFG.SESSTO != 0) .badLen]
  | .HOST_CFG2 => [need (getF new F.HOST_CFG2.HELLOPORT != 0 && getF new F.HOST_CFG2.ACKTO != 0) .badLen]
  | .HOST_P_IP4PFX => [need (decide (1 ≤ n) && decide (n ≤ 30)) .badArg]
  | .HOST_P_IP6PFX => [need (n != 0) .badLen, need (decide (n ≤ 128)) .badArg]
  | _ => []

/-- Checks of the registers of an axis (R206 to R226, R318 to R321). -/
def Dev.axisCheck (d : Dev) (r : Reg) (old new w : Word) : List Status :=
  let ch (f : Fld) : Bool := getF old f != getF new f
  let a := r.i
  let stop (f : Fld) : Status := need (!ch f || (decide (2 ≤ getF new f) && decide (getF new f ≤ 4))) .badArg
  match r.name with
  | .AXIS_CTL => d.axCtlCheck a old new
  | .AXIS_REACT => axReactCheck old new
  | .AXIS_QDEC | .AXIS_MANSLEW | .AXIS_STBY => [need (new != 0) .badLen]
  | .LVL_CFG => need ((d.levels a).contains r.j) .notReady :: d.lvlCfgCheck a r.j old new
  | .LVL_OLIM => [need (new != 0) .badLen, need ((d.levels a).contains r.j) .notReady]
  | .LVL_KP0 | .LVL_KI0 | .LVL_KD0 | .LVL_ILIM0 | .LVL_KP1 | .LVL_KI1 | .LVL_KD1 | .LVL_ILIM1 | .LVL_DPOLE | .LVL_FFA | .LVL_FFB
  | .LVL_OBS_L1 | .LVL_OBS_L2 | .LVL_OBS_JINV => [need ((d.levels a).contains r.j) .notReady]
  | .FLT_B0 | .FLT_B1 | .FLT_B2 | .FLT_A1 | .FLT_A2 => [need (decide (d.fld (R.FLT_CFG a r.j) F.FLT_CFG.KIND ≤ 1)) .denied]
  | .PCFG => d.pcfgCheck a old new
  | .AXIS_PLIM => [need (new != 0 || d.fld (R.PCFG a) F.PCFG.MODEL == 0) .badLen]
  | .AXIS_MOT_CTL => need (!ch F.AXIS_MOT_CTL.MOVE || getF new F.AXIS_MOT_CTL.MOVE != 3) .badArg :: d.motCtlCheck a w
  | .AXIS_MOT_VMAX => [need (decide (new.toNat < 2 ^ 31)) .badArg]
  | .AXIS_MOT_INPOS =>
    [need (!ch F.AXIS_MOT_INPOS.WIN || getF new F.AXIS_MOT_INPOS.WIN != 0) .badLen,
     need (!ch F.AXIS_MOT_INPOS.N || getF new F.AXIS_MOT_INPOS.N != 0) .badLen]
  | .AXIS_VL_CFG =>
    [need (!d.isJoint a) .notReady, need (!ch F.AXIS_VL_CFG.LREACT || getF new F.AXIS_VL_CFG.LREACT != 3) .badArg,
     stop F.AXIS_VL_CFG.FREACT, stop F.AXIS_VL_CFG.MLREACT,
     (if ch F.AXIS_VL_CFG.EN then vlOk (getF new F.AXIS_VL_CFG.EN == 1) (d.pairI (R.AXIS_VL_MIN_LO a) (R.AXIS_VL_MIN_HI a))
        (d.pairI (R.AXIS_VL_MAX_LO a) (R.AXIS_VL_MAX_HI a)) else .ok)]
  | .AXIS_GEAR_CFG => [need (d.fld (R.AXIS_MOT_STAT a) F.AXIS_MOT_STAT.GEARST == 0) .conflict]
  | .AXIS_GEAR_CTL => d.gearCtlCheck a w
  | _ => []

/-- Checks of the registers of PWM, FBK, TRACK, ARM, TALL and GORSE. -/
def Dev.plantCheck (d : Dev) (r : Reg) (old new w : Word) : List Status :=
  let ch (f : Fld) : Bool := getF old f != getF new f
  let l := 12 * r.i + r.j
  let nz (f : Fld) : Status := need (!ch f || getF new f != 0) .badLen
  match r.name with
  | .CE_MEM_ADDR => [need (!ch F.CE_MEM_ADDR.MEM || getF new F.CE_MEM_ADDR.MEM != 3) .badArg]
  | .PWM_DRV_CFG => d.drvCfgCheck r.i old new
  | .PWM_TRIP_CFG => [need (!ch F.PWM_TRIP_CFG.FILT || decide (getF new F.PWM_TRIP_CFG.FILT ≤ 1024)) .badArg]
  | .SD_CFG => [need (!ch F.SD_CFG.OSR || decide (getF new F.SD_CFG.OSR ≤ 4)) .badArg]
  | .PWM_LEG_CFG => d.legCfgCheck l old new
  | .PWM_LEG_DT => d.legDtCheck l new
  | .PWM_LEG_CTL => d.legCtlCheck l w
  | .FBK_ENC_CFG => d.encCfgCheck r.i new
  | .FBK_ENC_SSI => d.encSsiCheck r.i new
  | .FBK_ENC_PRESET => d.presetCheck r.i
  | .FBK_ENC_SPFS | .FBK_REM_SPFS => [need (new != 0) .badLen]
  | .FBK_PRB_CFG => [need (!ch F.FBK_PRB_CFG.EDGE || getF new F.FBK_PRB_CFG.EDGE != 0) .badArg]
  | .FBK_PRB_CTL => d.probeCheck r.i w
  | .TRACK_CFG =>
    let e := getF new F.TRACK_CFG.DEFLATE
    [need (!ch F.TRACK_CFG.DEFLATE || (e != 0 && (e != 3 || getF old F.TRACK_CFG.MODE == 1))) .badArg,
     need (!ch F.TRACK_CFG.VAVG || decide (getF new F.TRACK_CFG.VAVG ≤ 4)) .badArg,
     need (!ch F.TRACK_CFG.AAVG || decide (getF new F.TRACK_CFG.AAVG ≤ 4)) .badArg]
  | .TRACK_CORR => d.trackCorrCheck r.i w
  | .TRACK_CORRSLEW | .VM_ACC => [need (new != 0) .badLen]
  | .ARM_CTL => d.armCtlCheck r.i w
  | .ARM_CFG =>
    let b := getF new F.ARM_CFG.IKBASE
    [need (!ch F.ARM_CFG.IKBASE || (b % 64 == 0 && decide (b ≤ 0xEFC0))) .badArg]
  | .ARM_VCART | .ARM_WCART => [need (new != 0) .badLen]
  | .ARM_TJ => [need (decide (new.toNat ≤ 50000)) .badArg]
  | .ARM_THOLD => [nz F.ARM_THOLD.THOLD, nz F.ARM_THOLD.TCSTOP]
  | .ARM_SSLEW => [nz F.ARM_SSLEW.SUP, nz F.ARM_SSLEW.SDN]
  | .ARM_IKCFG => [nz F.ARM_IKCFG.IKCOUNT, nz F.ARM_IKCFG.IKRW]
  | .ARM_IKLAM => [nz F.ARM_IKLAM.SIGSING]
  | .ARM_IKTOL => [nz F.ARM_IKTOL.TOLP, nz F.ARM_IKTOL.TOLR]
  | .ARM_QHOME => [need (match d.armRec r.i with | some x => decide (r.j < x.joints.length) | none => false) .badArg]
  | .TALL_PROJ_CFG => [need (new != 0) .badLen]
  | .GORSE_CTL => d.gorseCtlCheck w
  | .GORSE_ARM_SLOW => [need (!ch F.GORSE_ARM_SLOW.SMIN || decide (getF new F.GORSE_ARM_SLOW.SMIN ≤ 0x7FFF)) .badArg]
  | .GORSE_ARM_CAPEN => d.capenCheck r.i new
  | _ => []

/-- Checks of the registers of LINE, CAN, DIO and CAP. -/
def Dev.netCheck (d : Dev) (r : Reg) (old new w : Word) : List Status :=
  let ch (f : Fld) : Bool := getF old f != getF new f
  match r.name with
  | .LINE_CFG => d.lineCfgCheck r.i old new
  | .LINE_CTL => d.lineCtlCheck r.i w
  | .LINE_MARK_OFS => d.markCheck r.i (some (getF new F.LINE_MARK_OFS.OFS)) none
  | .LINE_MARK_CTL => d.markCheck r.i none (some (getF new F.LINE_MARK_CTL.ACT))
  | .LINE_GCFG => [need (allPorts.all (fun p => d.portState p == 0)) .conflict]
  | .GRP_REQ => d.grpReqCheck r.i w
  | .GRP_CFG =>
    [need (!ch F.GRP_CFG.STAGEDL || getF new F.GRP_CFG.STAGEDL != 0) .badLen,
     need (!ch F.GRP_CFG.FALLBACK || decide (getF new F.GRP_CFG.FALLBACK < 0xF2)) .badArg]
  | .CAN_CFG => canCfgCheck r.i new
  | .CAN_NBT => canNbtCheck new ++ d.canOffCheck r.i
  | .CAN_DBT => canDbtCheck new ++ d.canOffCheck r.i
  | .DIO_BANK_CFG => [need (getF new F.DIO_BANK_CFG.WDT != 0) .badLen]
  | .DIO_BANK_CTL => d.dioCtlCheck r.i w
  | .DIO_OUT => d.dioOutCheck r.i (new &&& ~~~old).toNat (old &&& ~~~new).toNat
  | .DIO_OUT_SET => d.dioOutCheck r.i w.toNat 0
  | .DIO_OUT_CLR => d.dioOutCheck r.i 0 w.toNat
  | .DIO_CH_CFG =>
    [need (!ch F.DIO_CH_CFG.DIR || getF new F.DIO_CH_CFG.DIR != 3) .badArg,
     need (!ch F.DIO_CH_CFG.SAFE || getF new F.DIO_CH_CFG.SAFE != 3) .badArg]
  | .CAP_CFG =>
    [need (!ch F.CAP_CFG.MODE || getF new F.CAP_CFG.MODE != 3) .badArg,
     need (!ch F.CAP_CFG.NFAB || decide (getF new F.CAP_CFG.NFAB ≤ 128)) .badArg,
     need (!ch F.CAP_CFG.NRAW || decide (getF new F.CAP_CFG.NRAW ≤ 16)) .badArg] ++ d.capIdle
  | .CAP_LEN | .CAP_PRE | .CAP_NREC | .CAP_AUTO | .CAP_CH | .CAP_TRIG_LEVEL | .CAP_TRIG_LEVEL2 => d.capIdle
  | .CAP_MEMSIZE => need (decide (new.toNat ≤ 1024)) .badArg :: d.capIdle
  | .CAP_STOL => [need (new != 0) .badLen, need (decide (new.toNat ≤ 500)) .badArg] ++ d.capIdle
  | .CAP_RAW => need (!ch F.CAP_RAW.KIND || decide (getF new F.CAP_RAW.KIND ≤ 5)) .badArg :: d.capIdle
  | .CAP_TRIG_CFG => need (!ch F.CAP_TRIG_CFG.KIND || decide (getF new F.CAP_TRIG_CFG.KIND ≤ 6)) .badArg :: d.capIdle
  | _ => []

/-- R661: the checks of a register's own rules. -/
def Dev.regCheck (d : Dev) (r : Reg) (old new w : Word) : List Status :=
  match blkOf r.addr with
  | .axis => d.axisCheck r old new w
  | .ce | .pwm | .fbk | .track | .arm | .tall | .gorse => d.plantCheck r old new w
  | .line | .can | .dio | .cap => d.netCheck r old new w
  | _ => d.unitCheck r old new w

/-! ### What a write starts -/

/-- R583: the port address registers of a port. -/
def addrRegs (p : Nat) : List Reg :=
  [R.HOST_P_IP4 p, R.HOST_P_IP4PFX p, R.HOST_P_IP4GW p, R.HOST_P_IP6 p 0, R.HOST_P_IP6 p 1, R.HOST_P_IP6 p 2, R.HOST_P_IP6 p 3,
   R.HOST_P_IP6PFX p]

/-- R583, R591: APPLY: the address registers come into force; the event carries the session's slot. -/
def Dev.applyAddr (d : Dev) (ses : Nat) : Dev :=
  let f := (addrRegs 0 ++ addrRegs 1).foldl (fun t r => tset t r.addr (d.reg r)) d.host.inForce
  ({ d with host := { d.host with inForce := f } } : Dev).evObj 0xF105 3 ses

/-- What a write of a register of SYS, CLK, PWR, SEC, TIME, FAB, SAFE, EVT, PAIR or HOST starts; `ses` is the session's slot. -/
def Dev.unitDo (d : Dev) (ses : Nat) (r : Reg) (w : Word) : Dev :=
  match r.name with
  | .SYS_RST_CTL =>
    if getF w F.SYS_RST_CTL.WARM == 0 then d
    else ({ d with sys := { d.sys with resetDue := some (d.sys.resetDue.getD (d.clk + clksOfMs 10)) } } : Dev).ev 0x0001 4 [wN ses]
  | .CLK_CTL => d.refsel
  | .PWR_LATTOL => d.setFld R.PWR_STAT F.PWR_STAT.WOKE 0
  | .SEC_CTL => d.secCtlDo w
  | .TIME_CTL => d.timeCtlDo w
  | .TIME_CMP_CTL => d.cmpCtlDo r.i w
  | .FAB_IMG_CTL => d.imgCtlDo w
  | .SAFE_CTL => if getF w F.SAFE_CTL.ACK == 1 then { d with safe := { d.safe with ack := true } } else d
  | .EVT_CTL =>
    let d1 := if getF w F.EVT_CTL.NEXT == 1 then d.evtNext else d
    let d2 := if getF w F.EVT_CTL.RETEST == 1 then d1.retest d1.bureau.badRegions else d1
    if getF w F.EVT_CTL.CLEAR == 1 then d2.evtClear else d2
  | .EVT_STAT => if getF w F.EVT_STAT.REGFAIL == 1 && !bitAt (d.setNow r) F.EVT_STAT.REGFAIL.lo then { d with bureau := { d.bureau with regFail := false } } else d
  | .PAIR_CTL => d.pairCtlDo w
  | .HOST_CTL => if getF w F.HOST_CTL.APPLY == 1 then d.applyAddr ses else d
  | _ => d

/-- What a write of a register of an axis starts. -/
def Dev.axisDo (d : Dev) (r : Reg) (old new w : Word) : Dev :=
  match r.name with
  | .AXIS_CTL => d.axCtlDo r.i old new w
  | .LVL_CFG => if getF old F.LVL_CFG.LAW != getF new F.LVL_CFG.LAW then d.transferLaw r.i [r.j] else d
  | .AXIS_MOT_CTL => d.motCtlDo r.i w
  | .AXIS_MOT_VMAX | .AXIS_MOT_AMAX | .AXIS_MOT_DMAX | .AXIS_MOT_JMAX => d.motReplan r.i
  | .AXIS_GEAR_CTL => d.gearCtlDo r.i w
  | _ => d

/-- What a write of a register of CE, PWM, FBK, TRACK, ARM, TALL or GORSE starts. -/
def Dev.plantDo (d : Dev) (r : Reg) (old w : Word) : Dev :=
  let l := 12 * r.i + r.j
  match r.name with
  | .CE_CTL =>
    let d1 := if getF w F.CE_CTL.RESUME == 1 then d.ceResume r.i else d
    if getF w F.CE_CTL.CLRMAX == 1 then d1.ceClrMax r.i else d1
  | .PWM_DRV_CFG | .PWM_DRV_EXPTYPE => d.typeOkNow r.i
  | .PWM_TRIP_CFG => d.tripInput r.i r.j
  | .PWM_LEG_CFG => d.legCfgDo l old
  | .PWM_LEG_CTL => d.legCtlDo l old w
  | .FBK_ENC_PRESET => d.encPreset r.i w
  | .FBK_ENC_CTL => if getF w F.FBK_ENC_CTL.CLRINV == 1 then d.clrInv r.i else d
  | .FBK_PRB_CTL => d.probeCtl r.i w
  | .FBK_SUP => d.encRestore (getF w F.FBK_SUP.RESTORE)
  | .TRACK_CORR => d.trackCorr r.i w
  | .TRACK_CTL => if getF w F.TRACK_CTL.CLRINV == 1 then d.trackClrinv r.i else d
  | .ARM_CTL => d.armCtlDo r.i w
  | .TALL_CTL => d.tallCtlDo w
  | .GORSE_CTL => d.gorseCtlDo w
  | .GORSE_ARM_CAPEN => d.capenDo r.i old
  | _ => d

/-- What a write of a register of LINE, CAN, DIO or CAP starts. -/
def Dev.netDo (d : Dev) (r : Reg) (old new w : Word) : Dev :=
  match r.name with
  | .LINE_CTL => d.lineCtlDo r.i w
  | .GRP_REQ => if getF w F.GRP_REQ.REQ == 1 then d.grpStart r.i else d
  | .CAN_CFG => d.canModeSet r.i old
  | .CAN_DBT => d.canDbtSet r.i
  | .CAN_FLT_MATCH => d.canPairSet r.i r.j old (d.reg (R.CAN_FLT_MASK r.i r.j))
  | .CAN_FLT_MASK => d.canPairSet r.i r.j (d.reg (R.CAN_FLT_MATCH r.i r.j)) old
  | .CAN_CTL => d.canCtlDo r.i w
  | .DIO_BANK_CTL => d.dioCtlDo r.i w
  | .DIO_OUT => (d.setReg r old).dioOutDo r.i (new &&& ~~~old).toNat (old &&& ~~~new).toNat
  | .DIO_OUT_SET => d.dioOutDo r.i w.toNat 0
  | .DIO_OUT_CLR => d.dioOutDo r.i 0 w.toNat
  | .DIO_FLT_A | .DIO_FLT_B => d.dioFltAgain r.i
  | .DIO_THCLR => d.dioClrTherm r.i w
  | _ => d

/-- R661: what an accepted write starts; the register holds `new`. -/
def Dev.regDo (d : Dev) (ses : Nat) (r : Reg) (old new w : Word) : Dev :=
  match blkOf r.addr with
  | .axis => d.axisDo r old new w
  | .ce | .pwm | .fbk | .track | .arm | .tall | .gorse => d.plantDo r old w
  | .line | .can | .dio | .cap => d.netDo r old new w
  | _ => d.unitDo ses r w

/-! ### One write -/

/-- R11, R245: the W1C bits of a register that a write cannot clear: those that hardware sets in this clock, and the trip latches of the inputs that
are still active. -/
def Dev.heldSet (d : Dev) (r : Reg) : Word :=
  let now := wN (d.setNow r)
  match r.name with
  | .PWM_DRV_STAT => now ||| wN (d.tripStillLatched r.i * 2 ^ F.PWM_DRV_STAT.TRIPLAT.lo)
  | _ => now

/-- R661, R662: a write of a register that is not half of a pair. `init` says that REGINIT makes it: no lock binds it (R133, R662). -/
def Dev.writeWord (d : Dev) (init : Bool) (ses : Nat) (r : Reg) (w : Word) : Dev × Status :=
  let x := r.name.info
  let old := d.reg r
  let new := mergeWord x old w (d.heldSet r)
  let none_ := new == old && !writeActs x w
  if x.readOnly then (d, .denied)
  else if none_ && !r.name.everyWrite then (d, .ok)
  else
    let gate := [need (init || !d.commit || !lockedChange x old w) .denied,
                 need (init || !d.inSwitch || !switchBlks.contains (blkOf r.addr)) .busy]
    match r.name with
    | .CAP_CTL => if lowest gate = .ok then d.capCtl w else (d, lowest ((d.capCtl w).2 :: gate))
    | .FLT_CFG => if lowest gate = .ok then d.filterCommit r.i r.j w else (d, lowest ((d.filterCommit r.i r.j w).2 :: gate))
    | _ =>
      let st := lowest (gate ++ d.regCheck r old new w)
      if st = .ok then ((d.setReg r new).regDo ses r old new w, .ok)
      else (if r.name == .AXIS_CTL && lowest gate = .ok && getF old F.AXIS_CTL.EN == 0 && getF w F.AXIS_CTL.EN == 1 then
              d.enableRefused r.i
            -- R302, R389: a change dropped under DISCARD is logged with ACT_DISCARD
            else if r.name == .AXIS_GEAR_CTL && st = .late then d.evObj 0x8003 3 r.i else d, st)

/-- R8: what a commit of a register pair is checked against; `lo` is the _LO register, `v` the 64-bit value. -/
def Dev.pairCheck (d : Dev) (lo : Reg) (v : Int) : List Status :=
  match lo.name with
  | .TIME_STEP_LO => d.hostStepCheck v
  | .PWM_CMP_LO =>
    let n := modN 64 v
    d.directCheck (12 * lo.i + lo.j) (n % 2 ^ 26, n / 2 ^ 32 % 2 ^ 26)
  | .AXIS_VL_MIN_LO => [need (!d.isJoint lo.i) .notReady, vlOk (d.bit (R.AXIS_VL_CFG lo.i) F.AXIS_VL_CFG.EN) v
      (d.pairI (R.AXIS_VL_MAX_LO lo.i) (R.AXIS_VL_MAX_HI lo.i))]
  | .AXIS_VL_MAX_LO => [need (!d.isJoint lo.i) .notReady, vlOk (d.bit (R.AXIS_VL_CFG lo.i) F.AXIS_VL_CFG.EN)
      (d.pairI (R.AXIS_VL_MIN_LO lo.i) (R.AXIS_VL_MIN_HI lo.i)) v]
  | .TRACK_SET_LO =>
    match d.trackRec lo.i with
    | some t => [need (t.mode == 0 || (decide (0 ≤ v) && decide (v < t.modulus))) .badArg, need (d.trackStill lo.i) .conflict,
        need (!d.followerArmed lo.i) .conflict, need (!d.tall.acts.any (fun a => a.2.trk == lo.i && d.live a.2)) .conflict]
    | none => [.notReady]
  | .VM_SET_LO => d.vmSetCheck lo.i
  | _ => []

/-- R8: both halves of a pair are committed in one clock. -/
def Dev.pairDo (d : Dev) (lo hi : Reg) (v : Int) : Dev :=
  match lo.name with
  | .TIME_STEP_LO => d.makeStep v
  | .PWM_CMP_LO =>
    let n := modN 64 v
    d.directCommit (12 * lo.i + lo.j) (n % 2 ^ 26, n / 2 ^ 32 % 2 ^ 26)
  | .TRACK_SET_LO => d.setTrk lo.i { d.trk lo.i with preset := some v }
  | .VM_SET_LO => d.vmSet lo.i v
  | _ => d.setPair lo hi v

/-- R8: the upper half that a write of _LO commits where none is held: the present one, and 0 for a pair that is write only. -/
def Dev.presentHi (d : Dev) (lo hi : Reg) : Word :=
  match lo.name with
  | .PWM_CMP_LO => wN (d.leg (12 * lo.i + lo.j)).comm.2
  | _ => d.reg hi

/-- R8, R661, R662: a write of the _LO half of a pair with the upper half that it commits. -/
def Dev.writePair (d : Dev) (init : Bool) (lo hi : Reg) (w wh : Word) : Dev × Status :=
  let x := lo.name.info
  let v := signed 64 (w.toNat + 2 ^ 32 * wh.toNat)
  let none_ := !lo.name.everyWrite && d.reg lo == w && d.reg hi == wh
  if x.readOnly then (d, .denied)
  else if none_ then (d, .ok)
  else
    let st := lowest (need (init || !d.inSwitch || !switchBlks.contains (blkOf lo.addr)) .busy :: d.pairCheck lo v)
    if st = .ok then (d.pairDo lo hi v, .ok) else (d, st)

/-! ### The access of a session -/

/-- R547: what a standby lets a host write: PAIR_CTL and the Bureau's cursor. -/
def standbyMay (r : Reg) (w : Word) : Bool :=
  r.name == .PAIR_CTL || r.name == .EVT_CURSOR || (r.name == .EVT_CTL && w.toNat % 2 ^ 32 == 1)

/-- The device with a session's held _HI writes set. -/
def Dev.setHeld (d : Dev) (ses : Nat) (t : Tab Word) : Dev :=
  match tget? d.host.sess ses with
  | some s => { d with host := { d.host with sess := tset d.host.sess ses { s with held := t } } }
  | none => d

/-- R8, R580: a session's write of a register, without regard to its role. A held upper half is used up by a write of _LO that is answered OK;
one that is refused leaves it held (DESIGN CHOICE, notes/assumptions/101.md). -/
def Dev.writeFor (d : Dev) (ses : Nat) (s : Session) (r : Reg) (w : Word) : Dev × Status :=
  if r.name.isHi then
    if r.name.info.readOnly then (d, .denied)
    -- R235: a DIRECT write of a leg that the fabric commands
    else if r.name == .PWM_CMP_HI && !d.bit (R.PWM_LEG_CFG r.i r.j) F.PWM_LEG_CFG.SRC then (d, .conflict)
    else (d.setHeld ses (tset s.held r.addr w), .ok)
  else match r.name.hi? with
    | none => d.writeWord false ses r w
    | some h =>
      let hi : Reg := { r with name := h }
      let (d1, st) := d.writePair false r hi w ((tget? s.held hi.addr).getD (d.presentHi r hi))
      (if st = .ok then d1.setHeld ses (tdel s.held hi.addr) else d1, st)

/-- R15, R547, R557, R571, R579: a write of an address by a session; of several reasons for a refusal the lowest code is answered. -/
def Dev.writeAddr (d : Dev) (ses addr : Nat) (w : Word) : Dev × Status :=
  match tget? d.host.sess ses with
  | none => (d, .denied)
  | some s =>
    match regAt addr with
    | none => (d, .badArg)
    | some r =>
      let gate := lowest [need s.ctl .denied, need (!d.isStandby || standbyMay r w) .denied, need (!d.handingOver) .busy, (d.reach addr).1]
      let (d1, st) := d.writeFor ses s r w
      if gate = .ok then (d1, st) else (d, lowest [gate, st])

/-- A register-write row of the table: a session writes a word to a register, and the answer leaves. -/
def Dev.hostWrite (d : Dev) (ses : Nat) (r : Reg) (w : Word) : Dev :=
  let (d1, st) := d.writeAddr ses r.addr w
  d1.answer st

/-- A register-write row by address. -/
def Dev.hostWriteAt (d : Dev) (ses addr : Nat) (w : Word) : Dev :=
  let (d1, st) := d.writeAddr ses addr w
  d1.answer st

/-- A register-read row: a session reads a register, and the answer leaves. -/
def Dev.hostRead (d : Dev) (ses addr : Nat) : Dev :=
  let (d1, st, w) := d.readAddr ses addr
  d1.emit (.word st w)

end Sys2Proof.Machine
end

