-- ==== Sys2Proof/Machine/Install.lean ====
section
/-! DEFINITION. The objects of an image come into being (R133, R140, R142, R662): what the sections of an image put into the register space and
the blocks, REGINIT, and the generic loss of register fields by class. -/

namespace Sys2Proof.Machine

open Sys2Proof

/-! ### Loss of registers and fields -/

/-- The registers for which `p` holds return to the reset values of their maps (R13). -/
def Dev.dropRegs (d : Dev) (p : Reg → Bool) : Dev :=
  { d with regs := d.regs.filter (fun e => match regAt e.1 with
      | some r => !p r
      | none => true) }

/-- A register's word with the fields for which `keep` does not hold at their reset values. -/
def keptWord (x : RegInfo) (keep : FldInfo → Bool) (w : Word) : Word :=
  x.flds.foldl (fun v f => if keep f then v else putF v ⟨f.hi, f.lo⟩ f.reset) w

/-- Every field for which `keep` does not hold returns to the reset value of its map (R13). -/
def Dev.keepFlds (d : Dev) (keep : Reg → FldInfo → Bool) : Dev :=
  { d with regs := d.regs.filterMap (fun e => match regAt e.1 with
      | some r =>
        let w := keptWord r.name.info (keep r) e.2
        if w = r.name.info.resetWord then none else some (e.1, w)
      | none => some e) }

/-! ### Engine memories (R125, R142) -/

/-- The words of `n` bytes each that stand in bytes, as a table of those that are not 0. -/
def wordsTab {w : Nat} (n : Nat) (b : List Byte) : Tab (BitVec w) :=
  (List.range ((b.length + n - 1) / n)).filterMap (fun i =>
    let v := BitVec.ofNat w (uAt b (n * i) n)
    if v = 0#w then none else some (i, v))

/-- R125: the memories of an engine as its record gives them; the rest is zero. Its contexts' registers stay (R154). -/
def Dev.loadEngine (d : Dev) (e : Nat) (i : Image) : Dev :=
  let x := d.eng e
  let y : EngSt := match i.eng.find? (fun r => r.engine == e) with
    | some r => { x with plen := r.prog.length / 8, prog := wordsTab 8 r.prog, xmem := wordsTab 4 r.xmem, ymem := wordsTab 4 r.ymem,
                         insts := [] }
    | none => { x with plen := 0, prog := [], xmem := [], ymem := [], insts := [] }
  d.setEng e y

/-- The engines by number. -/
def allEngines : List Nat := List.range 16

/-- The memories of every engine are loaded. -/
def Dev.loadEngines (d : Dev) (i : Image) : Dev := d.each allEngines (fun d e => d.loadEngine e i)

/-- R142: on return from P3 the PARAMS regions come back from their shadows. -/
def Dev.paramShadows (d : Dev) : Dev :=
  d.each d.loader.shadow (fun d s =>
    let x := d.eng s.1
    d.setEng s.1 (if s.2.1 == 0 then { x with xmem := tset x.xmem s.2.2.1 s.2.2.2 } else { x with ymem := tset x.ymem s.2.2.1 s.2.2.2 }))

/-! ### What changes between two images -/

/-- R141: a group's record and membership are the same in two images. -/
def groupSame (old new : Image) (g : Nat) : Bool :=
  let recs (i : Image) : List GroupRec := i.groups.filter (fun r => r.group == g)
  let mem (i : Image) : List Nat := (i.axes.filter (fun r => r.group == g)).map (·.axis)
  recs old == recs new && mem old == mem new && !(recs new).isEmpty

/-- A register of an object that the image configures, which is made anew by an activation. With KEEPITEMS tracks and virtual masters go
on (R141, R327); a group whose record and membership are the same keeps its mode (R141). -/
def Reg.remade (r : Reg) (keep : Bool) (grp : Nat → Bool) : Bool :=
  match blkOf r.addr with
  | .axis | .arm => true
  | .track => !keep
  | .tall =>
    match r.name with
    | .TALL_TRK_CFG | .TALL_TRK_STAT | .TALL_TRK_ERRMAX | .TALL_TRK_LASTERR => !keep
    | .TALL_TO_STAT | .TALL_TO_TFIRE | .TALL_TO_ACK | .TALL_TO_CNT => true
    | _ => false
  | .gorse =>
    match r.name with
    | .GORSE_CTL | .GORSE_STAT | .GORSE_EVTIME | .GORSE_CNT_EVAL | .GORSE_CNT_FAIL | .GORSE_CNT_DUP | .GORSE_CNT_KAT
    | .GORSE_CNT_XCHK => false
    | _ => true
  | .line =>
    match r.name with
    | .GRP_REQ | .GRP_CFG | .GRP_STAT | .GRP_SPLIT => !grp r.i
    | _ => false
  | _ => false

/-- The fields that the sections of PERIPH and the RWL fields of every map take from the image. -/
def fromImage (r : Reg) (f : FldInfo) : Bool :=
  f.acc == .rwl || (f.cls == .w && (match r.name with
    | .CAN_FLT_MATCH | .CAN_FLT_MASK | .DIO_CH_CFG | .DIO_BANK_CFG => true
    | _ => false))

/-! ### The sections as registers -/

/-- R106, R131: the image's port records stand in LINE_CFG. -/
def Dev.linesLoad (d : Dev) : Dev :=
  d.each d.img.ports (fun d r =>
    let c := R.LINE_CFG r.port
    ((d.setFld c F.LINE_CFG.PERIOD r.k).setFld c F.LINE_CFG.TOPO r.topo).setFld c F.LINE_CFG.NODES r.nodes)

/-- R113, R133: the image's group records stand in GRP_CFG. -/
def Dev.groupsLoad (d : Dev) : Dev :=
  d.each d.img.groups (fun d r =>
    let c := R.GRP_CFG r.group
    (d.setFld c F.GRP_CFG.STAGEDL r.stageDl).setFld c F.GRP_CFG.FALLBACK r.fallback)

/-- R129, R322: the image's track records stand in TRACK_CFG; a modulo track made anew starts with DEFLATE at WAIT_WRAP. -/
def Dev.tracksLoad (d : Dev) (keep : Bool) : Dev :=
  d.each d.img.tracks (fun d r =>
    let c := R.TRACK_CFG r.track
    let d1 := (d.setFld c F.TRACK_CFG.MODE r.mode).setFld c F.TRACK_CFG.MKIND r.mkind
    if r.mode == 1 && !keep then d1.setFld c F.TRACK_CFG.DEFLATE 3 else d1)

/-- R471, R472, R474: the field channels and banks take the image's records; a channel without one is UNUSED. -/
def Dev.dioLoad (d : Dev) : Dev :=
  let d1 := d.each (d.img.periph.filter (fun r => uAt r 0 1 == 1)) (fun d r =>
    let c := R.DIO_CH_CFG (uAt r 1 1)
    ((((d.setFld c F.DIO_CH_CFG.DIR (uAt r 2 1)).setFld c F.DIO_CH_CFG.SRC (uAt r 3 1)).setFld c F.DIO_CH_CFG.FILT (uAt r 4 1)).setFld c
      F.DIO_CH_CFG.SAFE (uAt r 5 1)).setFld c F.DIO_CH_CFG.INV (uAt r 6 1))
  let d2 := d1.each (d.img.periph.filter (fun r => uAt r 0 1 == 2)) (fun d r =>
    let c := R.DIO_BANK_CFG (uAt r 1 1)
    (d.setFld c F.DIO_BANK_CFG.WDT (uAt r 2 1)).setFld c F.DIO_BANK_CFG.TPPER (uAt r 3 2))
  (d2.each (d.safeRecs 6) (fun d r => d.setFld (R.DIO_CH_CFG (uAt r 1 1)) F.DIO_CH_CFG.SOUT 1)).each (List.range 4) Dev.dioDriveBank

/-- R493: a channel without a CANCH record goes back to the values of its map. -/
def Dev.canUnload (d : Dev) : Dev :=
  d.each (List.range 8) (fun d c =>
    if d.img.periph.any (fun r => uAt r 0 1 == 0x10 && uAt r 1 1 == c) then d
    else
      let old := d.reg (R.CAN_CFG c)
      (((d.clearReg (R.CAN_CFG c)).clearReg (R.CAN_NBT c)).clearReg (R.CAN_DBT c)).canModeSet c old)

/-- R127: the constant channels carry their values. -/
def Dev.constLoad (d : Dev) : Dev :=
  d.each (d.img.chans.filter (fun r => r.kind == 3)) (fun d r => d.chanStore r.chan (wN r.src))

/-! ### REGINIT (R133) -/

/-- R8, R133: one record of REGINIT; `held` are the _HI words waiting for their _LO. -/
def Dev.regInitOne (d : Dev) (held : Tab Word) (addr : Nat) (w : Word) : Dev × Tab Word × Status :=
  match d.reach addr with
  | (st, none) => (d, held, st)
  | (_, some r) =>
    if r.name.isHi then (d, tset held r.addr w, if r.name.info.readOnly then .denied else .ok)
    else match r.name.hi? with
      | none => let (d1, st) := d.writeWord true 0 r w; (d1, held, st)
      | some h =>
        let hi : Reg := { r with name := h }
        let (d1, st) := d.writePair true r hi w ((tget? held hi.addr).getD (d.presentHi r hi))
        (d1, tdel held hi.addr, st)

/-- R133: the records of REGINIT are applied in section order; each that the state of the unit refuses is logged, `log` permitting. The
answer says which records were refused, with their codes. -/
def Dev.regInitAll (d : Dev) : List (Nat × Word) → Nat → Tab Word → Dev × List (Nat × Status)
  | [], _, _ => (d, [])
  | (addr, w) :: rest, i, held =>
    let (d1, h1, st) := d.regInitOne held addr w
    if st = .ok then d1.regInitAll rest (i + 1) h1
    else
      let (d2, bad) := (d1.ev 0x3006 4 [wN addr, wN st.code]).regInitAll rest (i + 1) h1
      (d2, (i, st) :: bad)

/-! ### The objects -/

/-- R140, R662: the objects of the active image come into being; `old` is the image before it, `keep` that KEEPITEMS holds. REGINIT is not yet
applied. The encoder supply of every connector without SUPFLT is on, and TYPEOK follows EXPTYPE (R251). -/
def Dev.objectsMade (d : Dev) (old : Image) (keep : Bool) : Dev :=
  let i := d.img
  let same := groupSame old i
  let d1 := (d.dropRegs (fun r => r.remade keep same)).keepFlds (fun r f => !fromImage r f)
  let d2 : Dev := { d1 with
    axs := {}, arms := [],
    mot := if keep then { d1.mot with axes := [] } else {},
    engs := { d1.engs with stat := [], chan := [], latch := [], starts := [] },
    line := { d1.line with groups := d1.line.groups.filter (fun e => same e.1) },
    loader := { d1.loader with shadow := [], pendingParams := [] } }
  let d2s := d2.setReg R.SYS_ENV_ENC (wN (255 - d2.fld R.FBK_SUP F.FBK_SUP.SUPFLT % 256))
  let d3 := (((d2s.setFld R.PAIR_CFG F.PAIR_CFG.EN (if i.pairFlag then 1 else 0)).linesLoad.groupsLoad).tracksLoad keep).dioLoad
  (((((d3.loadEngines i).constLoad).canUnload).canLoad).gorseLoad).each (List.range 8) Dev.typeOkNow

/-- R140: a port whose records have changed loses its nodes and all that it held. -/
def Dev.portRemade (d : Dev) (p : Nat) : Dev :=
  let x := d.port p
  let stale := (d.img.slots.filter (fun r => r.port == p && d.bit (R.LINE_SLOT_STAT p r.slot) F.LINE_SLOT_STAT.STALE)).map (·.slot)
  let d0 := d.dropRegs (fun r => r.i == p && (r.name == .LINE_SLOT_STAT || r.name == .LINE_NODES || r.name == .LINE_BREAKPOS))
  let d1 := d0.each stale (fun d i => d.setFld (R.LINE_SLOT_STAT p i) F.LINE_SLOT_STAT.STALE 1)
  { d1.setPort p { linkUp := x.linkUp, upClk := x.upClk, changed := true } with
    line := { (d1.setPort p { linkUp := x.linkUp, upClk := x.upClk, changed := true }).line with
      slots := d.line.slots.filter (fun e => e.1 / 6144 != p) } }

end Sys2Proof.Machine
end

