-- ==== Sys2Proof/Machine/LoaderForm.lean ====
section
/-! DEFINITION. The loader's checks (spec/04_structure_image.md R134), stages 1 to 4: form, integrity, structure and capacity. Each failed
check is an entry with its code and place; a stage is passed when it has none. -/

namespace Sys2Proof.Machine

open Sys2Proof

/-- R148: a failed check: the code, the section's type, the engine (0xFF where none applies) and the record's index. -/
structure Fail where
  st : Status
  sec : Nat
  eng : Nat := 0xFF
  idx : Nat := 0
  deriving DecidableEq, Repr

/-- A check of record `idx` of a section. -/
def chk (c : Bool) (st : Status) (sec : Nat) (idx : Nat := 0) (eng : Nat := 0xFF) : List Fail :=
  if c then [] else [{ st := st, sec := sec, idx := idx, eng := eng }]

/-- The checks of the records of a section, each with its index. -/
def forRecs {α : Type} (l : List α) (f : Nat → α → List Fail) : List Fail := (l.zipIdx.map (fun e => f e.2 e.1)).flatten

/-- The entries of a list whose key stands earlier in it. -/
def dupAt : List Nat → List Nat → Nat → List Nat
  | _, [], _ => []
  | seen, x :: rest, i => (if seen.contains x then [i] else []) ++ dupAt (x :: seen) rest (i + 1)

/-- A key that stands twice among the records of a section. -/
def noDup (keys : List Nat) (st : Status) (sec : Nat) : List Fail := (dupAt [] keys 0).map (fun i => { st := st, sec := sec, idx := i })

/-- Bytes that the layout fixes at 0. -/
def zeros (b : List Byte) (o n : Nat) : Bool := (slice b o n).all (fun x => x == 0#8)

/-- A number of a list, or one that means none. -/
def optIn (x none_ : Nat) (l : List Nat) : Bool := x == none_ || l.contains x

/-! ### Stage 1: form -/

/-- R121, R124: the greatest length of an image. -/
def imgMax : Nat := 100663296

/-- R124: a section type of the table. -/
def secKnown (t : Nat) : Bool := (decide (1 ≤ t) && decide (t ≤ 15)) || t == 0x7F00

/-- R122: two sections share a byte. -/
def secOverlap (a b : DirRec) : Bool :=
  a.len != 0 && b.len != 0 && decide (a.offset < b.offset + b.len) && decide (b.offset < a.offset + a.len)

/-- R134 stage 1. -/
def stage1 (b : List Byte) : List Fail :=
  let n := imgLen b
  let lenOk := decide (512 ≤ n) && decide (n ≤ imgMax) && n % 64 == 0
  let dir := dirOf b
  chk (uAt b 0 4 == 0x4D495351) .unsupported 0 ++ chk (uAt b 4 2 == 1) .unsupported 0 ++ chk (uAt b 24 4 == 0x9648) .unsupported 0 ++
  chk (!lenOk || uAt b (n - 256) 2 == 1) .unsupported 0 ++ chk lenOk .badLen 0 ++ chk (decide (uAt b 12 4 ≤ 64)) .badLen 0 ++
  (dir.zipIdx.map (fun e =>
    let r := e.1
    chk (secKnown r.typ) .unsupported (r.typ % 256) e.2 ++ chk (r.offset % 64 == 0) .badLen (r.typ % 256) e.2 ++
    chk (r.count != 0 || r.len == 0) .badLen (r.typ % 256) e.2 ++
    chk (r.len == 0 || (decide (256 + 32 * dir.length ≤ r.offset) && decide (r.offset + r.len + 256 ≤ n))) .badLen (r.typ % 256) e.2 ++
    chk ((dir.take e.2).all (fun q => !secOverlap q r)) .conflict (r.typ % 256) e.2 ++
    chk ((dir.take e.2).all (fun q => !(q.typ == r.typ && (r.typ != 1 || q.inst == r.inst)))) .conflict (r.typ % 256) e.2)).flatten

/-! ### Stage 2: integrity -/

/-- R121: the bytes that IMGHASH covers. -/
def hashedBytes (b : List Byte) : List Byte :=
  b.take 48 ++ List.replicate 48 0#8 ++ ((b.drop 96).take (imgLen b - 256 - 96))

/-- R134 stage 2: section CRC, IMGHASH and signature. -/
def stage2 (b : List Byte) : List Fail :=
  let t := imgLen b - 256
  ((dirOf b).zipIdx.map (fun e => chk (e.1.count == 0 || (crc32 (secBytes b e.1)).toNat == e.1.crc) .checksum (e.1.typ % 256) e.2)).flatten ++
  chk (sha384 (hashedBytes b) == imgHash b) .checksum 0 ++
  chk (ecdsaVerify (slice b (t + 4) 97) (imgHash b) (slice b (t + 104) 96)) .checksum 0

/-! ### Stage 3: structure -/

/-- R121 to R124: reserved fields of the header, the directory and the trailer, INST, and lengths that do not hold the records. -/
def formChecks (b : List Byte) : List Fail :=
  let dir := dirOf b
  let size (t : Nat) : Nat := match t with
    | 2 => 32 | 3 => 16 | 4 => 32 | 5 => 32 | 7 => 16 | 8 => 16 | 9 => 16 | 10 => 16 | 11 => 8 | 12 => 32 | 13 => 64 | 14 => 16 | 15 => 16
    | _ => 0
  let t := imgLen b - 256
  chk (zeros b (t + 2) 2 && zeros b (t + 101) 3 && zeros b (t + 200) 56) .badArg 0 ++ chk (uAt b 6 2 == 256) .badArg 0 ++ chk (decide (uAt b 28 2 ≤ 1) && zeros b 30 2 && zeros b 96 160) .badArg 0 ++
  forRecs dir (fun i r =>
    chk (if r.typ == 1 then decide (r.inst ≤ 15) else r.inst == 0) .badArg (r.typ % 256) i ++
    chk (zeros b (256 + 32 * i + 20) 12) .badArg (r.typ % 256) i ++
    chk (r.count == 0 || size r.typ == 0 || (if r.typ == 3 then decide (16 * r.count ≤ r.len) else size r.typ * r.count == r.len)) .badLen
      (r.typ % 256) i)

/-- The bytes that an ENGPROG record fills. -/
def EngRec.size (r : EngRec) : Nat := 16 + round64 r.prog.length + round64 r.xmem.length + round64 r.ymem.length

/-- A word of a program. -/
def EngRec.word (r : EngRec) (a : Nat) : BitVec 64 := BitVec.ofNat 64 (uAt r.prog (8 * a) 8)

/-- The bundles of a program. -/
def EngRec.len (r : EngRec) : Nat := r.prog.length / 8

/-- R169: the entries of a jump table, if a valid one stands at an address: the header, and entries with no bit above bit 14. -/
def EngRec.table (r : EngRec) (a : Nat) : Option (List Nat) :=
  let h := r.word a
  let n := bf h 14 0
  let entries := (List.range n).map (fun i => (r.word (a + 1 + i)).toNat)
  if bf h 63 48 == 0x4A54 && n != 0 && decide (n ≤ 4096) && decide (a + n < r.len) && entries.all (fun x => decide (x < 2 ^ 15)) then
    some entries
  else none

/-- R169: the words that are not bundles but parts of the jump tables that JT bundles name. -/
def EngRec.tableWords (r : EngRec) : List Nat :=
  ((List.range r.len).map (fun a =>
    let w := r.word a
    if bf w 7 4 == 6 && bf w 47 47 == 1 then
      match r.table (bf w 46 32) with
      | some l => (List.range (l.length + 1)).map (fun i => bf w 46 32 + i)
      | none => []
    else [])).flatten

/-- R125, R156: the ENGPROG sections. -/
def engChecks (b : List Byte) : List Fail :=
  let dirs := (dirOf b).filter (fun r => r.typ == 1 && r.count != 0)
  (dirs.map (fun s =>
    let recs := engRecs s.count (secBytes b s)
    let fits := decide ((recs.map EngRec.size).sum ≤ s.len)
    let start (i : Nat) : Nat := ((recs.take i).map EngRec.size).sum
    chk fits .badLen 1 0 s.inst ++ noDup (recs.map (·.engine)) .conflict 1 ++
    forRecs recs (fun i r =>
      chk (r.engine == s.inst && (!fits || zeros (secBytes b s) (start i + 1) 3)) .badArg 1 i s.inst ++ chk (r.prog.length % 8 == 0) .badLen 1 i s.inst ++
      chk (!fits || (List.range r.len).all (fun a => !bundleReserved (r.word a) || r.tableWords.contains a)) .badArg 1 i s.inst))).flatten

/-- R126: the task table. -/
def schedChecks (b : List Byte) (i : Image) : List Fail :=
  let names := i.tasks.map (·.task)
  noDup names .conflict 2 ++ noDup (i.tasks.map (fun t => 65536 * t.engine + t.order)) .conflict 2 ++
  forRecs (i.tasks.zip (secRecs b 2 32)) (fun k e =>
    let t := e.1
    let r := e.2
    let plen := match i.eng.find? (fun g => g.engine == t.engine) with
      | some g => g.prog.length
      | none => 0
    chk (decide (t.task ≤ 4095) && decide (t.engine ≤ 15) && decide (uAt r 3 1 ≤ 7) && decide (t.phase < 2 ^ t.k) && decide (t.trig ≤ 3) &&
      t.entry % 8 == 0 && decide (t.entry < 262144) && decide (t.deadline ≤ periodNs t.k) && decide (t.ctx ≤ 2) &&
      decide (uAt r 25 1 ≤ 1) && zeros r 26 6) .badArg 2 k t.engine ++
    chk (optIn t.dep0 0xFFFF names && optIn t.dep1 0xFFFF names && (t.trig != 1 || t.dep0 != 0xFFFF || t.dep1 != 0xFFFF) &&
      decide (t.entry < plen)) .conflict 2 k t.engine)

/-- R126, R127: the tasks by number. -/
def Image.hasTask (i : Image) (t : Nat) : Bool := i.tasks.any (fun r => r.task == t)

/-- The channels by number. -/
def Image.hasChan (i : Image) (c : Nat) : Bool := i.chans.any (fun r => r.chan == c)

/-- R132: the upstream fields that feed a channel. -/
def Image.fieldsInto (i : Image) (c : Nat) : List IoRec := i.io.filter (fun m => m.dir == 1 && m.chan == c)

/-- R230, R265, R375, R408, R458: a channel's SRC and FMT are those of a source. -/
def chanSrcOk (r : ChanRec) : Bool :=
  let top := r.src / 2 ^ 24
  let low := r.src % 2 ^ 24
  match r.kind with
  | 0 =>
    match top with
    | 1 => decide (low < 96)
    | 2 => decide (low < 8)
    | 3 => decide (low < 32) && r.fmt == 2
    | 4 => decide (low < 32) && r.fmt == 0
    | 5 => decide (low < 16) && r.fmt == 2
    | 6 => decide (low < 256) && r.fmt == 2
    | 7 => decide (low < 256) && r.fmt == 0
    | _ => false
  | 4 => (top == 1 || top == 2) && decide (low < 8192)
  | 5 => decide (low < 12) && ((top == 1 && r.fmt == 1) || (top == 2 && r.fmt == 2) || (top == 3 && r.fmt == 3))
  | 6 => decide (r.src < 64) && r.fmt == 3
  | _ => true

/-- R172, R230, R375, R458: a consumer word of a kind that a chapter defines. -/
def consOk (w : Nat) : Bool :=
  match consKind w with
  | 0 => (w / 2 ^ 12) % 2 ^ 9 == 0
  | 2 => decide (w % 2 ^ 28 < 96)
  | 4 => decide (w % 2 ^ 28 < 8192)
  | 5 => decide (w % 2 ^ 28 < 64)
  | _ => false

/-- R471: DIR and SRC of a field channel in the image: UNUSED without a record. -/
def Image.dioOf (i : Image) (k : Nat) : Nat × Nat :=
  match i.periph.find? (fun r => uAt r 0 1 == 1 && uAt r 1 1 == k) with
  | some r => (uAt r 2 1, uAt r 3 1)
  | none => (2, 0)

/-- R127, R134, R458: the channels. -/
def fabricChecks (b : List Byte) (i : Image) : List Fail :=
  let sec := secRaw b 3
  noDup (i.chans.map (·.chan)) .conflict 3 ++
  forRecs (i.chans.zip (secRecs b 3 16)) (fun k e =>
    let c := e.1
    let r := e.2
    let ndst := uAt r 10 2
    chk (decide (c.chan ≤ 4095) && decide (c.kind ≤ 6) && decide (c.fmt ≤ 3)) .badArg 3 k ++ chk (chanSrcOk c) .badArg 3 k ++
    chk (c.kind == 2 || c.producer == 0xFFFF) .badArg 3 k ++
    chk (c.kind != 2 || i.hasTask c.producer || (c.dst.isEmpty && !i.io.any (fun m => m.dir == 0 && m.chan == c.chan))) .conflict 3 k ++
    chk (decide (ndst ≤ 16) && (ndst == 0 || decide (uAt r 12 4 + 4 * ndst ≤ sec.length))) .badArg 3 k ++
    chk (c.dst.all consOk) .badArg 3 k ++
    chk (if c.kind == 1 then decide ((i.fieldsInto c.chan).length ≤ 1) && (c.dst.isEmpty || !(i.fieldsInto c.chan).isEmpty)
      else (i.fieldsInto c.chan).isEmpty) .conflict 3 k ++
    chk (c.kind != 6 || (i.dioOf (c.src % 64)).1 == 0) .conflict 3 k ++
    chk (c.dst.all (fun w => consKind w != 5 || i.dioOf (w % 64) == (1, 1))) .conflict 3 k)

/-- The slot record of the node that hosts an endpoint. -/
def Image.slotOfEp (i : Image) (ep : Nat) : Option SlotRec :=
  i.slots.find? (fun r => decide (r.firstEp ≤ ep) && decide (ep < r.firstEp + r.epCount))

/-- The port record of a port that is configured. -/
def Image.portRec (i : Image) (p : Nat) : Option PortRec := i.ports.find? (fun r => r.port == p && r.nodes != 0)

/-- R22, R30: the period code of the line that carries an endpoint. -/
def Image.epPeriod (i : Image) (ep : Nat) : Option Nat :=
  match i.slotOfEp ep with
  | some s => (i.portRec s.port).map (·.k)
  | none => none

/-- R419: the axis has a safe axis. -/
def Image.isSafe (i : Image) (a : Nat) : Bool := i.safety.any (fun r => uAt r 0 1 == 2 && uAt r 2 2 == a)

/-- R230: a leg is fed by exactly one channel, and the axis's LAWTASK produces it. -/
def Image.legFed (i : Image) (leg law : Nat) : Bool :=
  match i.chans.filter (fun c => c.dst.any (fun w => consKind w == 2 && w % 128 == leg)) with
  | [c] => c.kind == 2 && c.producer == law
  | _ => false

/-- R22, R23, R26, R27, R28, R128, R230, R419: the axes. -/
def axisChecks (b : List Byte) (i : Image) : List Fail :=
  let bound := (i.axes.filter (fun a => a.kind != 0)).map AxisRec.ep
  noDup (i.axes.map (·.axis)) .conflict 4 ++
  chk (decide ((i.axes.filter (fun a => a.kind == 0)).length ≤ 32) && decide ((i.axes.filter (fun a => a.kind == 1)).length ≤ 96) &&
    decide (i.axes.length ≤ 8192)) .conflict 4 ++
  forRecs (i.axes.zip (secRecs b 4 32)) (fun k e =>
    let a := e.1
    let r := e.2
    let slot := i.slotOfEp a.ep
    chk (decide (a.axis ≤ 8191) && decide (a.kind ≤ 2) && decide (a.k ≤ 7) && zeros r 18 14 && decide (a.fb ≤ 4095) && decide (a.sp ≤ 4095) &&
      (a.group == 0xFFFF || decide (a.group ≤ 255))) .badArg 4 k ++
    chk (i.hasTask a.law && (a.group == 0xFFFF || i.groups.any (fun g => g.group == a.group))) .conflict 4 k ++
    chk (a.kind != 0 || (decide (a.bind < 128) && (a.bind / 8) % 3 == 0 && decide (a.bind / 8 ≤ 9))) .badArg 4 k ++
    chk (a.kind == 0 || (decide (a.bind < 2 ^ 21) && (match slot with | some s => a.ep - s.firstEp == a.fn | none => true))) .badArg 4 k ++
    chk (a.kind == 0 || slot.isSome) .conflict 4 k ++
    chk (a.kind != 0 || decide (a.axis ≤ 31)) .conflict 4 k ++
    chk (match a.kind with
      | 0 => a.k == 2 || decide (7 < a.k)
      | 1 => decide (7 < a.k) || a.k == 2 && (slot.isNone || i.epPeriod a.ep == some 2)
      | _ => decide (7 < a.k) || slot.isNone || (i.epPeriod a.ep == some a.k && decide (3 ≤ a.k))) .conflict 4 k ++
    chk (if a.kind == 1 then decide (a.arm ≤ 11) && decide (a.joint ≤ 8) else a.arm == 0xFF && a.joint == 0xFF) .conflict 4 k ++
    chk (a.kind != 1 || (match i.arms.find? (fun m => m.arm == a.arm) with
      | some m => (match m.joints[a.joint]? with | some j => j.axis == a.axis | none => false) &&
          (match slot with | some s => s.port == m.port | none => true)
      | none => false)) .conflict 4 k ++
    chk (a.kind == 0 || decide ((bound.filter (· == a.ep)).length ≤ 1)) .conflict 4 k ++
    chk (a.kind != 0 || (i.axes.filter (fun x => x.kind == 0 && x.leg == a.leg)).length == 1) .conflict 4 k ++
    chk (i.hasChan a.fb) .conflict 4 k ++ chk (a.kind == 2 || i.isSafe a.axis) .conflict 4 k ++
    chk (a.kind != 0 || (List.range 3).all (fun j => i.legFed (a.leg + j) a.law)) .conflict 4 k)

/-- R24: how many tracks stand in the chain that ends in a track, counted from the one nearest its root; none for a cycle. -/
def Image.chainLen (i : Image) : Nat → Nat → Option Nat
  | 0, _ => none
  | fuel + 1, t =>
    match i.tracks.find? (fun r => r.track == t) with
    | some r => if r.mkind == 3 then (i.chainLen fuel r.master).map (· + 1) else some 1
    | none => some 0

/-- R24, R129: the tracks. -/
def trackChecks (b : List Byte) (i : Image) : List Fail :=
  noDup (i.tracks.map (·.track)) .conflict 5 ++
  forRecs (i.tracks.zip (secRecs b 5 32)) (fun k e =>
    let t := e.1
    let r := e.2
    chk (decide (t.mode ≤ 1) && decide (t.mkind ≤ 4) && zeros r 3 1 && zeros r 24 8) .badArg 5 k ++
    chk (match t.mkind with
      | 0 => decide (t.master < 32)
      | 1 => decide (t.master < 256)
      | 2 => decide (t.master < 64)
      | 3 => decide (t.master < 256)
      | _ => decide (t.master < 8192)) .badArg 5 k ++
    chk (match t.mkind with
      | 3 => i.tracks.any (fun x => x.track == t.master)
      | 4 => i.axes.any (fun x => x.axis == t.master)
      | _ => true) .conflict 5 k ++
    chk (t.mode != 1 || t.modulus != 0) .badLen 5 k ++ chk (t.mode == 1 || t.modulus == 0) .badArg 5 k ++ chk (t.den != 0) .badLen 5 k ++
    chk (match i.chainLen 9 t.track with
      | some n => decide (n ≤ 8)
      | none => false) .conflict 5 k)

/-- R26, R28, R130: the arms. -/
def armChecks (b : List Byte) (i : Image) : List Fail :=
  let raw := secRaw b 6
  let starts := i.arms.foldl (fun (acc : List Nat × Nat) m => (acc.1 ++ [acc.2], acc.2 + 64 + 64 * m.joints.length)) ([], 0)
  chk (decide (starts.2 ≤ raw.length)) .badLen 6 ++ noDup (i.arms.map (·.arm)) .conflict 6 ++
  forRecs (i.arms.zip starts.1) (fun k e =>
    let m := e.1
    let o := e.2
    let n := uAt raw (o + 2) 1
    let recs := m.joints.map (fun j => i.axes.find? (fun a => a.axis == j.axis))
    let groups := (recs.filterMap id).map (·.group)
    chk (decide (m.arm ≤ 11) && decide (m.model ≤ 1) && decide (m.port ≤ 23) && zeros raw (o + 4) 4 && zeros raw (o + 56) 8) .badArg 6 k ++
    chk (decide (1 ≤ n)) .badLen 6 k ++ chk (decide (n ≤ 9)) .badArg 6 k ++
    chk (m.joints.zipIdx.all (fun j =>
      let q := o + 64 + 64 * j.2
      decide (j.1.jtype ≤ 1) && zeros raw (q + 3) 1 && zeros raw (q + 44) 20 && (m.model == 1 || zeros raw (q + 20) 8))) .badArg 6 k ++
    chk (m.joints.zipIdx.all (fun j => match i.axes.find? (fun a => a.axis == j.1.axis) with
      | some a => a.kind == 1 && a.arm == m.arm && a.joint == j.2
      | none => false)) .conflict 6 k ++
    chk (match groups with
      | g :: rest => rest.all (· == g)
      | [] => true) .conflict 6 k)

/-- R74: the greatest number of nodes of a period. -/
def nodeLimit : Nat → Nat
  | 2 => 266 | 3 => 545 | 4 => 1103 | 5 => 2219 | 6 => 4451 | 7 => 6144 | _ => 0

/-- R71, R74, R131: the lines. -/
def lineChecks (b : List Byte) (i : Image) : List Fail :=
  let recs := secRecs b 7 16
  noDup (i.slots.map (fun s => 6144 * s.port + s.slot)) .conflict 7 ++ noDup (i.slots.map (fun s => 65536 * s.port + s.nodeAlias)) .conflict 7 ++
  forRecs recs (fun k r =>
    if uAt r 0 1 == 0 then
      let p := portOf r
      chk (decide (p.port ≤ 23) && decide (p.nodes ≤ 6144) && decide (p.topo ≤ 2) && zeros r 6 10) .badArg 7 k ++
      chk (p.nodes == 0 || (decide (2 ≤ p.k) && decide (p.k ≤ 7))) .badArg 7 k ++
      chk (p.nodes == 0 || decide (p.nodes ≤ nodeLimit p.k) || !(decide (2 ≤ p.k) && decide (p.k ≤ 7))) .conflict 7 k ++
      chk ((recs.take k).all (fun q => !(uAt q 0 1 == 0 && uAt q 1 1 == p.port))) .conflict 7 k ++
      chk (!(p.topo == 1 && p.port % 2 == 1) &&
        !(p.port % 2 == 1 && p.nodes != 0 && i.ports.any (fun q => q.port + 1 == p.port && q.topo == 1 && q.nodes != 0))) .conflict 7 k ++
      chk (p.nodes == 0 || (if i.pairFlag then p.topo == 2 else p.topo != 2)) .conflict 7 k
    else
      let s := slotOf r
      chk (uAt r 0 1 == 1) .badArg 7 k ++
      chk (decide (s.port ≤ 23) && (match i.portRec s.port with | some p => decide (s.slot < p.nodes) | none => false) && zeros r 5 1 &&
        decide (s.firstEp + s.epCount ≤ 131072)) .badArg 7 k ++
      chk (decide (1 ≤ s.epCount)) .badLen 7 k ++ chk (decide (s.epCount ≤ 16)) .badArg 7 k ++
      chk ((recs.take k).all (fun q =>
        let t := slotOf q
        uAt q 0 1 != 1 || !(decide (t.firstEp < s.firstEp + s.epCount) && decide (s.firstEp < t.firstEp + t.epCount)))) .conflict 7 k)

/-- The bits that a field takes in its payload. -/
def IoRec.bits (m : IoRec) : Nat × Nat := (8 * m.byte + m.bit, 8 * m.byte + m.bit + m.width)

/-- Two spans of bits share one. -/
def spansMeet (a b : Nat × Nat) : Bool := decide (a.1 < b.2) && decide (b.1 < a.2)

/-- R27, R132: the payload fields. -/
def ioChecks (b : List Byte) (i : Image) : List Fail :=
  forRecs (i.io.zip (secRecs b 8 16)) (fun k e =>
    let m := e.1
    let r := e.2
    let top := if m.dir == 0 then 12 else 24
    let slot := i.slotOfEp m.ep
    chk (decide (uAt r 0 4 < 2 ^ 21) && (match slot with | some s => m.ep - s.firstEp == m.fn | none => true) && decide (m.dir ≤ 1) &&
      decide (m.byte < top) && decide (m.bit ≤ 7) && decide (m.chan ≤ 4095) && decide (m.fmt ≤ 3) && zeros r 11 5) .badArg 8 k ++
    chk (decide (1 ≤ m.width)) .badLen 8 k ++ chk (decide (m.width ≤ 32)) .badArg 8 k ++ chk (decide (m.bits.2 ≤ 8 * top)) .conflict 8 k ++
    chk (slot.isSome && i.hasChan m.chan) .conflict 8 k ++
    chk ((i.io.take k).all (fun q => !(q.dir == m.dir && (i.slotOfEp q.ep == slot) && spansMeet q.bits m.bits))) .conflict 8 k)

/-- R133: the groups. -/
def groupChecks (b : List Byte) (i : Image) : List Fail :=
  noDup (i.groups.map (·.group)) .conflict 9 ++
  forRecs (i.groups.zip (secRecs b 9 16)) (fun k e =>
    chk (zeros e.2 3 13 && decide (e.1.fallback < 0xF2)) .badArg 9 k ++ chk (e.1.stageDl != 0) .badLen 9 k)

/-- R133: the host-writable parameter regions. -/
def paramChecks (b : List Byte) (i : Image) : List Fail :=
  forRecs (i.params.zip (secRecs b 10 16)) (fun k e =>
    let p := e.1
    chk (decide (p.engine ≤ 15) && decide (p.mem ≤ 1) && decide (p.task ≤ 4095) && zeros e.2 12 4 && p.len % 4 == 0 &&
      decide (p.len ≤ 16384) && decide (p.addr + p.len / 4 ≤ 65536)) .badArg 10 k p.engine ++
    chk (i.hasTask p.task) .conflict 10 k p.engine ++ chk (p.len != 0) .badLen 10 k p.engine)

/-- R54, R56, R133: the image-owned comparators. -/
def cmpChecks (b : List Byte) (i : Image) : List Fail :=
  noDup (i.cmps.map (·.comp)) .conflict 14 ++
  forRecs (i.cmps.zip (secRecs b 14 16)) (fun k e =>
    let c := e.1
    chk (decide (c.comp ≤ 63) && decide (1 ≤ c.act) && decide (c.act ≤ 5) && decide (c.obj ≤ 4095) && decide (c.target ≤ 2000000000) &&
      cmpPerOk c.per && zeros e.2 12 4) .badArg 14 k)

/-- The length of a RKIND record's named bytes in the SAFETY section (R445). -/
def safetyLen : Nat → Nat
  | 1 => 3 | 2 => 29 | 3 => 5 | 4 => 24 | 5 => 18 | 6 => 3 | _ => 0

/-- R437: an area overlaps a payload field of its node, or crosses the payload. -/
def areaBad (i : Image) (port slot byte len dir : Nat) : Bool :=
  let top := if dir == 0 then 12 else 24
  match i.slots.find? (fun s => s.port == port && s.slot == slot) with
  | none => true
  | some s => decide (top < byte + len) || i.io.any (fun m =>
      m.dir == dir && decide (s.firstEp ≤ m.ep) && decide (m.ep < s.firstEp + s.epCount) && spansMeet m.bits (8 * byte, 8 * (byte + len)))

/-- R419 to R445: what the safety processor checks of one record; a breach of any rule is reported with CONFLICT (R446). -/
def safetyRecOk (i : Image) (r : List Byte) : Bool :=
  let k := uAt r 0 1
  let axisOf (sa : Nat) : Option (List Byte) := i.safety.find? (fun q => uAt q 0 1 == 2 && uAt q 1 1 == sa)
  zeros r (safetyLen k) (32 - safetyLen k) &&
  match k with
  | 1 => (decide (uAt r 1 1 < 64) || uAt r 1 1 == 0xFF) && decide (uAt r 2 1 ≤ 1)
  | 2 =>
    let a := i.axes.find? (fun x => x.axis == uAt r 2 2)
    let conn := i.safety.find? (fun q => uAt q 0 1 == 4 && uAt q 1 1 == uAt r 5 1)
    (match a with
      | some x => (uAt r 4 1 != 0 || x.kind == 0)
      | none => false) && decide (uAt r 4 1 ≤ 1) &&
    (uAt r 4 1 == 0 || (match conn with | some q => uAt q 2 1 == 0 | none => false)) && decide (uAt r 6 1 ≤ 2) &&
    (uAt r 6 1 != 1 || decide (uAt r 7 1 < 32)) && (uAt r 6 1 != 2 || uAt r 4 1 == 1) && decide (10 ≤ uAt r 12 2) && decide (uAt r 12 2 ≤ 10000)
  | 3 => decide (uAt r 1 1 < 16) && decide (uAt r 2 1 ≤ 1) && decide (5 ≤ uAt r 3 2) && decide (uAt r 3 2 ≤ 500) &&
      (i.dioOf (2 * uAt r 1 1)).1 == 0 && (i.dioOf (2 * uAt r 1 1 + 1)).1 == 0
  | 4 =>
    let line := uAt r 3 1 == 0
    let drive := uAt r 2 1 == 0
    let up := uAt r 10 1
    let dn := uAt r 12 1
    let p := i.portRec (uAt r 4 1)
    let b := dn - 1
    decide (uAt r 2 1 ≤ 2) && decide (uAt r 3 1 ≤ 1) && uAt r 21 2 != 0 && decide (2 ≤ uAt r 23 1) && decide (uAt r 23 1 ≤ 7) &&
    (uAt r 2 1 != 1 || i.gorse.any (fun q => uAt q 0 1 == 5 && uAt q 1 1 == uAt r 1 1)) &&
    (if line then
      decide (2 ≤ up) && decide (up ≤ 24) && !areaBad i (uAt r 4 1) (uAt r 5 2) (uAt r 9 1) up 1 &&
      (!drive || (decide (2 ≤ dn) && decide (dn ≤ 12) && !areaBad i (uAt r 4 1) (uAt r 5 2) (uAt r 11 1) dn 0 &&
        (match p with
          | some q => decide ((20 + b - 1) / b * 2 ^ q.k ≤ 2 ^ uAt r 23 1)
          | none => false)))
    else
      decide (uAt r 4 1 < 8) &&
      !i.periph.any (fun q => uAt q 0 1 == 0x11 && uAt q 1 1 == uAt r 4 1 &&
        (BitVec.ofNat 32 (uAt q 3 4) ^^^ BitVec.ofNat 32 (uAt r 5 4)).toNat % 2 ^ 29 == 0))
  | 5 =>
    let kind := uAt r 2 1
    let scope := uAt r 6 1
    let n := uAt r 7 2
    let targets : List Nat := (i.safety.filter (fun q => uAt q 0 1 == 2 && (match scope, i.axes.find? (fun x => x.axis == uAt q 2 2) with
        | 0, _ => uAt q 1 1 == n
        | 1, some x => x.kind == 1 && x.arm == n
        | 2, some x => x.group == n
        | 3, _ => true
        | _, _ => false))).map (fun q => uAt q 6 1)
    decide (uAt r 1 1 < 128) && decide (kind ≤ 5) && decide (uAt r 3 1 ≤ 3) && decide (scope ≤ 3) && decide (uAt r 9 1 ≤ 2) &&
    (scope != 0 || (axisOf n).isSome) && (uAt r 3 1 != 1 || i.safety.any (fun q => uAt q 0 1 == 3 && uAt q 1 1 == uAt r 4 2)) &&
    ((kind == 5) == (uAt r 3 1 == 3)) && (decide (kind < 2) || targets.all (fun s => s != 0))
  | 6 => decide (uAt r 1 1 < 64) && (decide (uAt r 2 1 < 128) || uAt r 2 1 == 0xFF) && (i.dioOf (uAt r 1 1)).1 == 1 &&
      (uAt r 2 1 == 0xFF || i.safety.any (fun q => uAt q 0 1 == 5 && uAt q 1 1 == uAt r 2 1))
  | _ => false

/-- R408: the monitored arms. -/
def Image.monitored (i : Image) : List Nat :=
  match i.gorse.find? (fun r => uAt r 0 1 == 1) with
  | some g => (List.range 12).filter (fun m => bitAt (uAt g 9 2) m)
  | none => []

/-- R446: the safety processor's check of the SAFETY section. -/
def safetyChecks (i : Image) : List Fail :=
  let keys (k o n : Nat) : List Nat := (i.safety.filter (fun r => uAt r 0 1 == k)).map (fun r => uAt r o n)
  forRecs i.safety (fun k r => chk (safetyRecOk i r) .conflict 12 k) ++
  noDup (keys 2 1 1) .conflict 12 ++ noDup (keys 2 2 2) .conflict 12 ++ noDup (keys 3 1 1) .conflict 12 ++ noDup (keys 4 1 1) .conflict 12 ++
  noDup (keys 5 1 1) .conflict 12 ++ noDup (keys 6 1 1) .conflict 12 ++
  chk (i.safety.isEmpty || (i.safety.filter (fun r => uAt r 0 1 == 1)).length == 1) .conflict 12 ++
  chk (i.monitored.all (fun m => i.safety.any (fun r => uAt r 0 1 == 5 && uAt r 2 1 == 5 &&
    (match uAt r 6 1 with | 1 => uAt r 7 2 == m | 3 => true | _ => false)))) .conflict 12

/-- R397: a stopping table starts at 0, its speeds rise strictly and its times and distances do not fall. -/
def stopTableOk : List (List Byte) → Bool
  | [] => false
  | r :: rest => uAt r 3 4 == 0 && (((r :: rest).zip rest).all (fun e =>
      decide (uAt e.1 3 4 < uAt e.2 3 4) && decide (uAt e.1 7 4 ≤ uAt e.2 7 4) && decide (uAt e.1 11 4 ≤ uAt e.2 11 4)))

/-- The records of a stopping table by IDX. -/
def stopInsert (r : List Byte) : List (List Byte) → List (List Byte)
  | [] => [r]
  | x :: rest => if uAt x 2 1 ≤ uAt r 2 1 then x :: stopInsert r rest else r :: x :: rest

/-- The joints of an arm; the most an arm may have where the image does not describe it. -/
def Image.jointCount (i : Image) (m : Nat) : Nat :=
  match i.arms.find? (fun a => a.arm == m) with
  | some a => a.joints.length
  | none => 9

/-- R397, R408: the GORSE section. -/
def gorseChecks (i : Image) : List Fail :=
  let recs (k : Nat) : List (List Byte) := i.gorse.filter (fun r => uAt r 0 1 == k)
  let keyed (k : Nat) (f : List Byte → Nat) : List Fail := noDup ((recs k).map f) .conflict 13
  forRecs i.gorse (fun k r =>
    match uAt r 0 1 with
    | 1 => chk (uAt r 1 2 != 0 && uAt r 3 2 != 0) .badLen 13 k ++
        chk (decide (uAt r 1 2 ≤ 5000) && decide (uAt r 3 2 ≤ 1000) && decide (uAt r 9 2 < 4096) && zeros r 11 53) .badArg 13 k
    | 2 => chk (decide (uAt r 1 1 ≤ 11) && decide (1000 ≤ uAt r 2 4) && decide (uAt r 2 4 ≤ 50000) && decide (uAt r 10 2 ≤ 0x7FFF) &&
        zeros r 14 50) .badArg 13 k
    | 3 => chk (uAt r 29 4 != 0) .badLen 13 k ++
        chk (decide (uAt r 1 1 ≤ 11) && decide (uAt r 2 1 ≤ 23) && (decide (uAt r 3 1 ≤ i.jointCount (uAt r 1 1)) || uAt r 3 1 == 10) &&
          decide (uAt r 4 1 ≤ 3) && zeros r 33 31) .badArg 13 k
    | 4 => chk (decide (uAt r 1 1 ≤ 11) && decide (uAt r 2 1 ≤ 15) && zeros r 15 49) .badArg 13 k
    | 5 => chk (uAt r 4 1 != 0) .badLen 13 k ++
        chk (decide (uAt r 1 1 ≤ 63) && decide (uAt r 4 1 ≤ 32) && decide (uAt r 2 2 + uAt r 4 1 ≤ 512) && decide (uAt r 5 2 < 4096) &&
          zeros r 31 33) .badArg 13 k ++
        chk ((i.gorse.take k).all (fun q => uAt q 0 1 != 5 || !(decide (uAt q 2 2 < uAt r 2 2 + uAt r 4 1) &&
          decide (uAt r 2 2 < uAt q 2 2 + uAt q 4 1)))) .conflict 13 k
    | 6 => chk (decide (uAt r 1 2 ≤ 1023) && decide (uAt r 3 1 ≤ 1) && decide (uAt r 4 2 < 4096) && zeros r 34 30) .badArg 13 k
    | _ => chk false .badArg 13 k) ++
  keyed 2 (fun r => uAt r 1 1) ++ keyed 3 (fun r => 32 * uAt r 1 1 + uAt r 2 1) ++ keyed 4 (fun r => 32 * uAt r 1 1 + uAt r 2 1) ++
  keyed 5 (fun r => uAt r 1 1) ++ keyed 6 (fun r => uAt r 1 2) ++
  chk (i.gorse.isEmpty || (recs 1).length == 1) .conflict 13 ++
  (i.monitored.map (fun m =>
    chk (i.arms.any (fun a => a.arm == m) && (recs 2).any (fun r => uAt r 1 1 == m) &&
      stopTableOk (((recs 4).filter (fun r => uAt r 1 1 == m)).foldl (fun acc r => stopInsert r acc) [])) .conflict 13)).flatten

/-- R458, R471, R493: the PERIPH section; the timing rules R478 to R481 are checked on a channel's registers. -/
def periphChecks (i : Image) : List Fail :=
  let keys (k : Nat) (f : List Byte → Nat) : List Fail := noDup ((i.periph.filter (fun r => uAt r 0 1 == k)).map f) .conflict 15
  let fed (c : Nat) : Nat := (i.chans.map (fun x => (x.dst.filter (fun w => consKind w == 5 && w % 64 == c)).length)).sum
  forRecs i.periph (fun k r =>
    match uAt r 0 1 with
    | 1 => chk (decide (uAt r 1 1 ≤ 63) && decide (uAt r 2 1 ≤ 2) && decide (uAt r 3 1 ≤ 1) && decide (uAt r 5 1 ≤ 2) && decide (uAt r 6 1 ≤ 1) &&
        zeros r 7 9) .badArg 15 k ++
        chk (!(uAt r 2 1 == 1 && uAt r 3 1 == 1) || fed (uAt r 1 1) == 1) .conflict 15 k
    | 2 => chk (uAt r 2 1 != 0 && uAt r 3 2 != 0) .badLen 15 k ++
        chk (decide (uAt r 1 1 ≤ 3) && (uAt r 3 2 == 0 || (decide (100 ≤ uAt r 3 2) && decide (uAt r 3 2 ≤ 10000))) && zeros r 5 11) .badArg 15 k
    | 0x10 =>
      let c := uAt r 1 1
      let d0 : Dev := { loader := { image := some i } }
      let cfg := putF (putF (putF (putF (putF (putF 0 F.CAN_CFG.MODE (uAt r 2 1)) F.CAN_CFG.FDEN (uAt r 3 1 % 2)) F.CAN_CFG.AUTOBAUD
        (uAt r 3 1 / 2 % 2)) F.CAN_CFG.AUTOREC (uAt r 3 1 / 4 % 2)) F.CAN_CFG.ACCEPTALL (uAt r 3 1 / 8 % 2)) F.CAN_CFG.HOSTQ (uAt r 4 1)
      let probe (reg : Reg) (w : Word) : Status := (d0.writeWord true 0 reg w).2
      chk (decide (c < 8) && decide (uAt r 3 1 < 16) && zeros r 13 3) .badArg 15 k ++
      (if decide (c < 8) then
        let ns := probe (R.CAN_NBT c) (wN (uAt r 5 4))
        let ds := if uAt r 9 4 == 0 && uAt r 3 1 % 2 == 0 then Status.ok else probe (R.CAN_DBT c) (wN (uAt r 9 4))
        let cs := lowest ((({ d0 with regs := [] } : Dev).setReg (R.CAN_NBT c) (wN (uAt r 5 4))).regCheck (R.CAN_CFG c) 0 cfg cfg)
        chk (ns = .ok || uAt r 2 1 == 0 || uAt r 3 1 / 2 % 2 == 1) ns 15 k ++ chk (ds = .ok) ds 15 k ++ chk (cs = .ok) cs 15 k
       else [])
    | 0x11 => chk (decide (uAt r 1 1 < 8) && decide (uAt r 2 1 < 64) && zeros r 11 5) .badArg 15 k
    | _ => chk false .badArg 15 k) ++
  keys 1 (fun r => uAt r 1 1) ++ keys 2 (fun r => uAt r 1 1) ++ keys 0x10 (fun r => uAt r 1 1) ++ keys 0x11 (fun r => 64 * uAt r 1 1 + uAt r 2 1)

/-- R375: the timed outputs that an image makes: each channel's number, its TO and whether it is TFIRE (1) or TCMD (2). -/
def Image.toChans (i : Image) : List (Nat × Nat × Nat) :=
  (i.chans.filter (fun c => c.kind == 4)).map (fun c => (c.chan, c.src % 8192, c.src / 2 ^ 24))

/-- The endpoints of the fields through which channels leave or arrive. -/
def Image.epsOf (i : Image) (chans : List Nat) (dir : Nat) : List Nat :=
  (i.io.filter (fun m => m.dir == dir && m.width == 32 && chans.contains m.chan)).map (·.ep)

/-- R375: every timed output has TFIRE and TCMD, and all its fields lie on one endpoint. -/
def toChecks (i : Image) : List Fail :=
  let acks (t : Nat) : List Nat := (i.chans.filter (fun c => c.dst.any (fun w => consKind w == 4 && w % 8192 == t))).map (·.chan)
  let tos := (i.toChans.map (fun e => e.2.1)) ++
    (i.chans.map (fun c => (c.dst.filter (fun w => consKind w == 4)).map (fun w => w % 8192))).flatten
  forRecs i.chans (fun k c =>
    (tos.filter (fun t => c.kind == 4 && c.src % 8192 == t)).take 1 |>.map (fun t =>
      let mine (half : Nat) : List Nat := i.epsOf ((i.toChans.filter (fun e => e.2.1 == t && e.2.2 == half)).map (·.1)) 0
      let all_ := mine 1 ++ mine 2 ++ i.epsOf (acks t) 1
      chk ((mine 1).length == 1 && (mine 2).length == 1 && (match all_ with | e :: rest => rest.all (· == e) | [] => false)) .conflict 3 k)
    |>.flatten) ++
  forRecs i.chans (fun k c => chk (c.dst.all (fun w => consKind w != 4 || i.toChans.any (fun e => e.2.1 == w % 8192))) .conflict 3 k)

/-! ### Stage 3: the registers that REGINIT sets (R133) -/

/-- The device on which a check applies an image: nothing but the image's objects at their reset values. -/
def blankDev (i : Image) : Dev := ({ loader := { image := some i } } : Dev).objectsMade {} false

/-- R133: a record writes only RW and RWL fields, and no 1 to a W1C, W1S or WO field. -/
def regInitForm (i : Image) (addr : Nat) (w : Word) : Bool :=
  let d0 : Dev := { loader := { image := some i } }
  match d0.reach addr with
  | (.ok, some r) => r.name.info.flds.any (fun f => f.acc == .rw || f.acc == .rwl) && !writeActs r.name.info w
  | _ => false

/-- R243: the registers whose rule the loader reports with CONFLICT: MINP, and the sum of MINP and DTMAX against the period. -/
def pulseRule (addr : Nat) (w : Word) : Bool :=
  match regAt addr with
  | some r => r.name == .PWM_LEG_CFG || (r.name == .PWM_LEG_DT && legDtRange w) || (r.name == .PWM_DRV_CFG && drvPeriodRange w)
  | none => false

/-- R133, R243: the REGINIT records, applied in section order to a blank device; a value out of range is refused there. -/
def regInitChecks (i : Image) : List Fail :=
  let bad := ((blankDev i).regInitAll i.regInit 0 []).2
  forRecs i.regInit (fun k e => chk (regInitForm i e.1 e.2) .badArg 11 k) ++
  (bad.filterMap (fun e =>
    let rec_ := (i.regInit[e.1]?).getD (0, 0)
    if e.2 = .badLen || e.2 = .badArg || e.2 = .notReady || e.2 = .unsupported then
      some { st := if e.2 = .badArg && pulseRule rec_.1 rec_.2 then .conflict else .badArg, sec := 11, idx := e.1 }
    else none))

/-- The device of a check with REGINIT applied. -/
def initDev (i : Image) : Dev := ((blankDev i).regInitAll i.regInit 0 []).1

/-- R237: the reload samples in a current period of 31.25 µs, for a PWM period in ns. -/
def reloadSamples (per : Nat) : List Nat :=
  ((List.range 3).map (fun m => (m + 1) * (min per 31250) - 2048)).filter (fun t => decide (t < 31250))

/-- R191, R201, R237: an axis's cascade and timing classes. -/
def Dev.axisRegsOk (d : Dev) (a : AxisRec) : Bool :=
  let c := d.casc a.axis
  let f (lvl : Nat) : Bool := !d.classA a.axis lvl
  let ns (lvl : Nat) : Nat := 2 * d.fld (R.LVL_CFG a.axis lvl) F.LVL_CFG.OUTPH
  (match a.kind with
    | 0 => c == 0
    | 1 => c == 1 || c == 2
    | _ => c != 0) &&
  (if a.kind == 0 then f 2 else (d.levels a.axis).all (fun l => d.classA a.axis l)) &&
  (a.kind != 0 || (reloadSamples (d.pwmNs a.conn)).all (fun t => decide (8 < ((ns 2 : Int) - t).natAbs)))

/-- R343: an arm's IK task and mask. -/
def Dev.armRegsOk (d : Dev) (i : Image) (m : ArmRec) : Bool :=
  let cfg := R.ARM_CFG m.arm
  let base := d.fld cfg F.ARM_CFG.IKBASE
  (match i.tasks.find? (fun t => t.task == d.fld cfg F.ARM_CFG.IKTASK) with
    | some t => t.engine == d.fld cfg F.ARM_CFG.IKENG && t.k == 2
    | none => false) && decide (base ≤ 0xEFC0) && base % 64 == 0 &&
  decide (popBits (d.fld (R.ARM_IKCFG m.arm) F.ARM_IKCFG.MASK) 6 ≤ m.joints.length)

/-- R102: the wire marks of a port lie wholly inside its fallow window. -/
def Dev.marksOk (d : Dev) (p : PortRec) : Bool :=
  p.nodes == 0 || (List.range 16).all (fun m =>
    !d.bit (R.LINE_MARK_CTL p.port m) F.LINE_MARK_CTL.WIRE ||
      (let o := d.fld (R.LINE_MARK_OFS p.port m) F.LINE_MARK_OFS.OFS
       decide (slotsEnd p.nodes ≤ o) && decide (o + 96 + 256 ≤ periodNs p.k)))

/-- R191, R201, R237, R343, R102: the structure that the image fixes in registers. -/
def regChecks (i : Image) : List Fail :=
  let d := initDev i
  forRecs i.axes (fun k a => chk (d.axisRegsOk a) .conflict 4 k) ++ forRecs i.arms (fun k m => chk (d.armRegsOk i m) .conflict 6 k) ++
  forRecs i.ports (fun k p => chk (d.marksOk p) .conflict 7 k)

/-- R134 stage 3. -/
def stage3 (b : List Byte) (i : Image) : List Fail :=
  formChecks b ++ engChecks b ++ schedChecks b i ++ fabricChecks b i ++ axisChecks b i ++ trackChecks b i ++ armChecks b i ++ lineChecks b i ++
  ioChecks b i ++ groupChecks b i ++ paramChecks b i ++ regInitChecks i ++ safetyChecks i ++ gorseChecks i ++ cmpChecks b i ++ periphChecks i ++
  toChecks i ++ regChecks i

/-! ### Stage 4: capacity -/

/-- R20, R125, R134, R375 stage 4. -/
def stage4 (i : Image) : List Fail :=
  forRecs i.eng (fun k r => chk (decide (r.prog.length ≤ 262144) && decide (r.xmem.length ≤ 262144) && decide (r.ymem.length ≤ 262144)) .noSpace
    1 k r.engine) ++
  chk (decide (i.chans.length ≤ 4096)) .noSpace 3 ++ chk (decide (i.axes.length ≤ 8192)) .noSpace 4 ++
  chk (decide (i.tracks.length ≤ 256)) .noSpace 5 ++
  chk (decide (i.arms.length ≤ 12) && decide ((i.arms.map (fun m => m.joints.length)).sum ≤ 96)) .noSpace 6 ++
  chk (decide ((i.slots.map (·.epCount)).sum ≤ 131072)) .noSpace 7 ++ chk (decide (i.groups.length ≤ 256)) .noSpace 9 ++
  chk (decide ((i.toChans.filter (fun e => e.2.2 == 1)).length ≤ 8192)) .noSpace 3

end Sys2Proof.Machine
end

