-- ==== Sys2Proof/Machine/LoaderTime.lean ====
section
/-! DEFINITION. The loader's checks, stage 5: the cycle bound of a task (R135), the schedulability rule (R136), the worst finish of each
instance (R137), class F outputs (R202) and the fabric (R633). -/

namespace Sys2Proof.Machine

open Sys2Proof

/-! ### The cycle bound (R135) -/

/-- The greatest lengths in cycles of the paths from a place, by where they end: 0 the end of the instance, `n` the end of the body of the
`n`th hardware loop counted from the outermost. -/
abbrev PathLens := Tab Nat

/-- Two sets of paths together. -/
def pathMax (a b : PathLens) : PathLens := b.foldl (fun t e => tupd t e.1 e.2 (fun v => max v e.2)) a

/-- Paths that are `n` cycles longer. -/
def pathAdd (n : Nat) (a : PathLens) : PathLens := a.map (fun e => (e.1, e.2 + n))

/-- Where a walk stands: the bundle, the active loops' first and last bundles (innermost first) and the return addresses. -/
structure WalkAt where
  pc : Nat
  loops : List (Nat × Nat)
  calls : List Nat
  deriving DecidableEq, Repr

/-- R167: the loops that a jump does not leave. -/
def keepSpans (t : Nat) : List (Nat × Nat) → List (Nat × Nat)
  | [] => []
  | l :: rest => if decide (l.1 ≤ t) && decide (t ≤ l.2) then l :: rest else keepSpans t rest

/-- All of several results, none if one has no bound. -/
def joinPaths : List (Option PathLens) → Option PathLens
  | [] => some []
  | none :: _ => none
  | some a :: rest => (joinPaths rest).map (fun b => pathMax b a)

/-- R135: the lengths of the paths from a place. None: an indirect branch outside a declared jump table, or a place that a path comes back
to outside a hardware loop, so that no static bound exists. `seen` are the places the path has passed. A path that meets an
engine fault ends there. -/
def walk (g : EngRec) : Nat → List WalkAt → WalkAt → Option PathLens
  | 0, _, _ => none
  | fuel + 1, seen, x =>
    if seen.contains x then none
    else if g.len ≤ x.pc then some [(0, 0)]
    else
      let w := g.word x.pc
      let lop := bf w 7 4
      let cond := bf w 3 0
      let imm := bf w 46 32
      let go (y : WalkAt) : Option PathLens := walk g fuel (x :: seen) y
      let ended : Option PathLens := some [(0, 0)]
      let goOn (pc : Nat) (loops : List (Nat × Nat)) : Option PathLens :=
        match loops with
        | l :: _ => if l.2 + 1 == pc then some [(loops.length, 0)] else go { x with pc := pc, loops := loops }
        | [] => go { x with pc := pc, loops := loops }
      let next := goOn (x.pc + 1) x.loops
      let branch (taken : Option PathLens) : Option PathLens :=
        if cond == 0 then taken else if cond == 7 then next else joinPaths [taken, next]
      let loopOf (count len : Nat) : Option PathLens :=
        let depth := x.loops.length + 1
        let total := if count == 0 then 0 else count + (if bitAt cond 3 then cond % 4 else 0)
        let after := goOn (x.pc + len + 1) x.loops
        if 4 ≤ x.loops.length then ended
        else if total == 0 then after
        else
          match go { x with pc := x.pc + 1, loops := (x.pc + 1, x.pc + len) :: x.loops }, after with
          | some body, some rest =>
            let one := tget body depth 0
            some (pathMax (pathAdd (total * one) rest) (pathAdd ((total - 1) * one) (tdel body depth)))
          | _, _ => none
      let atEnd := x.loops.any (fun l => l.2 == x.pc)
      let r : Option PathLens :=
        if atEnd && !(lop == 0 || lop == 7 || lop == 8) then ended
        else
          match lop with
          | 1 => branch ((go { x with pc := imm, loops := keepSpans imm x.loops }).map (pathAdd 2))
          | 2 => branch (if 8 ≤ x.calls.length then ended else (go { x with pc := imm, calls := (x.pc + 1) :: x.calls }).map (pathAdd 2))
          | 3 => branch (match x.calls with
              | [] => ended
              | c :: rest => (go { x with pc := c, calls := rest }).map (pathAdd 2))
          | 4 => loopOf (imm / 64) (imm % 64 + 1)
          | 5 => loopOf (4 ^ ((imm / 128) % 8 + 1)) (imm % 64 + 1)
          | 6 =>
            match g.table imm with
            | some l => (joinPaths (l.map (fun t => go { x with pc := t, loops := keepSpans t x.loops }))).map (pathAdd 3)
            | none => none
          | 7 => branch (match x.loops with
              | [] => next
              | l :: rest => goOn (l.2 + 1) rest)
          | 8 => branch ended
          | 9 => ended
          | _ => next
      r.map (pathAdd 1)

/-- R135: the loader's cycle bound of a task. -/
def cycleBound (i : Image) (t : TaskRec) : Option Nat :=
  match i.eng.find? (fun g => g.engine == t.engine) with
  | none => none
  | some g => (walk g ((g.len + 1) ^ 14) [] { pc := t.entry / 8, loops := [], calls := [] }).map (fun p => tget p 0 0)

/-! ### The schedulability rule (R136) -/

/-- R136: base ticks in a hyperperiod. -/
def hyperTicks : Nat := 128

/-- R136: engine cycles in a base tick. -/
def tickCycles : Nat := 31250

/-- R136: a task with what it is charged for each instance. -/
structure Charged where
  rec_ : TaskRec
  cost : Nat
  deriving DecidableEq, Repr

/-- R136: every task with a bound, charged it and 8 cycles for dispatch and context switch. -/
def chargedTasks (i : Image) : List Charged := i.tasks.filterMap (fun t => (cycleBound i t).map (fun n => ⟨t, n + 8⟩))

/-- The base ticks of a hyperperiod in which a task is released: none for one that a comparator or mark starts. One that follows its producers
is released where the last of them is: at the ticks that both share. -/
def relTicks (i : Image) : Nat → TaskRec → Option (List Nat)
  | 0, _ => none
  | fuel + 1, t =>
    match t.trig with
    | 0 => some ((List.range hyperTicks).filter (fun n => n % 2 ^ t.k == t.phase))
    | 1 =>
      let of (dep : Nat) : Option (List Nat) :=
        if dep == 0xFFFF then some (List.range hyperTicks)
        else match i.tasks.find? (fun r => r.task == dep) with
          | some r => relTicks i fuel r
          | none => none
      let same (a b : Option (List Nat)) : Option (List Nat) :=
        match a, b with
        | some l, some m => if (l.filter m.contains).isEmpty then some (l ++ m.filter (fun n => !l.contains n)) else some (l.filter m.contains)
        | _, _ => none
      same (of t.dep0) (of t.dep1)
    | _ => none

/-- Chains of completion are no longer than the task table. -/
def relOf (i : Image) (t : TaskRec) : Option (List Nat) := relTicks i (i.tasks.length + 1) t

/-- R136: what a task is charged in the window of 2^k ticks that begins at tick `from_`. -/
def windowCharge (i : Image) (c : Charged) (k from_ : Nat) : Nat :=
  if c.rec_.ctx != 1 then 0
  else
    match relOf i c.rec_ with
    | some l => (l.filter (fun n => decide (from_ ≤ n) && decide (n < from_ + 2 ^ k))).length * c.cost
    | none => max 1 ((2 ^ k + 2 ^ c.rec_.k - 1) / 2 ^ c.rec_.k) * c.cost

/-- R136: the largest fault-context charge of an engine. -/
def faultCharge (l : List Charged) (e : Nat) : Nat :=
  (l.filter (fun c => c.rec_.engine == e && c.rec_.ctx == 2)).foldl (fun m c => max m c.cost) 0

/-- R136: the charged cycles of an engine in window `w` of 2^k ticks. -/
def engineWindow (i : Image) (l : List Charged) (e k w : Nat) : Nat :=
  ((l.filter (fun c => c.rec_.engine == e)).map (fun c => windowCharge i c k (w * 2 ^ k))).sum + faultCharge l e

/-- The aligned windows of the hyperperiod: period code and index. -/
def allWindows : List (Nat × Nat) :=
  ((List.range 8).map (fun k => (List.range (hyperTicks / 2 ^ k)).map (fun w => (k, w)))).flatten

/-- R136: the worst window of an engine by its share: charged cycles, period code and index. The first of equals stands. -/
def worstWindow (i : Image) (l : List Charged) (e : Nat) : Nat × Nat × Nat :=
  allWindows.foldl (fun best kw =>
    let n := engineWindow i l e kw.1 kw.2
    if best.1 * 2 ^ kw.1 < n * 2 ^ best.2.1 then (n, kw.1, kw.2) else best) (0, 0, 0)

/-- A window's share in permille, rounded up. -/
def sharePermille (n k : Nat) : Nat := (n * 1000 + tickCycles * 2 ^ k - 1) / (tickCycles * 2 ^ k)

/-! ### The worst finish (R137) -/

/-- R136, R137: the charges of an engine for its triggered and fault tasks that an instance may meet in its own period, which begins at tick `from_`. -/
def extraCharge (i : Image) (l : List Charged) (c : Charged) (from_ : Nat) : Nat :=
  ((l.filter (fun x => x.rec_.engine == c.rec_.engine && x.rec_.ctx == 1 && x.rec_.trig != 0 && x.rec_.task != c.rec_.task)).map
    (fun x => windowCharge i x c.rec_.k from_)).sum + faultCharge l c.rec_.engine

/-- An instance of a task: its task, its charge and order, the tick of its base release and its release and worst finish in cycles from the
start of the hyperperiod. -/
structure Slotted where
  task : Nat
  order : Nat
  tick : Nat
  release : Nat
  finish : Nat
  deriving DecidableEq, Repr

/-- R137: the charged cycles of the instances of lower ORDER on an engine that may still be running at an instant; those of triggered tasks are charged
under R136 instead. -/
def runningCost (l : List Charged) (done : List Slotted) (c : Charged) (t : Nat) : Nat :=
  (done.map (fun s => match l.find? (fun x => x.rec_.task == s.task) with
    | some x => if x.rec_.engine == c.rec_.engine && x.rec_.trig == 0 && decide (s.order < c.rec_.order) && decide (s.release ≤ t) &&
        decide (t < s.finish) then x.cost else 0
    | none => 0)).sum

/-- R137: the worst finish of an instance released at an instant of tick `n`. -/
def finishOf (i : Image) (l : List Charged) (done : List Slotted) (c : Charged) (n release : Nat) : Nat :=
  release + runningCost l done c release + extraCharge i l c (n / 2 ^ c.rec_.k * 2 ^ c.rec_.k) + c.cost

/-- R137: the instances of a task in the hyperperiod: a periodic one is released at the start of its tick, one that follows its producers at
their latest worst finish. -/
def slotTask (i : Image) (l : List Charged) (done : List Slotted) (c : Charged) : List Slotted :=
  match relOf i c.rec_ with
  | none => []
  | some ticks => ticks.map (fun n =>
    let producer (dep : Nat) : Nat :=
      (done.filter (fun s => s.task == dep && decide (s.tick ≤ n))).foldl (fun m s => if s.tick == n then max m s.finish else m) 0
    let rel := if c.rec_.trig == 1 then max (n * tickCycles) (max (producer c.rec_.dep0) (producer c.rec_.dep1)) else n * tickCycles
    { task := c.rec_.task, order := c.rec_.order, tick := n, release := rel, finish := finishOf i l done c n rel })

/-- The tasks in an order in which each stands after its producers and, on its engine, after those of lower ORDER. -/
def chargedInsert (c : Charged) : List Charged → List Charged
  | [] => [c]
  | x :: rest =>
    if decide (c.rec_.order < x.rec_.order) && !(x.rec_.task == c.rec_.dep0 || x.rec_.task == c.rec_.dep1) then c :: x :: rest
    else x :: chargedInsert c rest

/-- R137: the instances of the hyperperiod with their worst finishes. The finishes are formed again until those of producers and of tasks
of lower ORDER have reached every task. -/
def schedule (i : Image) (l : List Charged) : List Slotted :=
  let cyclic := (l.filter (fun c => c.rec_.ctx == 1)).foldl (fun acc c => chargedInsert c acc) []
  let pass (done : List Slotted) : List Slotted :=
    cyclic.foldl (fun acc c => (acc.filter (fun s => s.task != c.rec_.task)) ++ slotTask i l acc c) done
  (List.range (cyclic.length + 1)).foldl (fun acc _ => pass acc) []

/-- R137: an instance finishes within its deadline; one that follows its producers also before the next period of its task begins, in which
its output is due. -/
def instanceOk (c : Charged) (s : Slotted) : Bool :=
  decide (s.finish ≤ s.release + c.rec_.deadline) &&
  (c.rec_.trig != 1 || decide (s.finish < (s.tick / 2 ^ c.rec_.k + 1) * 2 ^ c.rec_.k * tickCycles))

/-- R137: the instance of a task that a comparator or mark starts, wherever in the hyperperiod that falls. -/
def sporadicOk (i : Image) (l : List Charged) (slots : List Slotted) (c : Charged) : Bool :=
  let running := (slots.map (fun s => runningCost l slots c s.release)).foldl max 0
  let extra := ((List.range (hyperTicks / 2 ^ c.rec_.k)).map (fun w => extraCharge i l c (w * 2 ^ c.rec_.k))).foldl max 0
  decide (running + extra + c.cost ≤ c.rec_.deadline)

/-- R202: the class F levels of an axis: the worst finish of its LAWTASK from its period start, 256 ns for the fabric, and OUTPH. -/
def classFOk (d : Dev) (l : List Charged) (slots : List Slotted) (a : AxisRec) : Bool :=
  let worst := ((slots.filter (fun s => s.task == a.law)).map (fun s => match l.find? (fun c => c.rec_.task == s.task) with
    | some c => s.finish - s.tick / 2 ^ c.rec_.k * 2 ^ c.rec_.k * tickCycles
    | none => 0)).foldl max 0
  ((d.levels a.axis).filter (fun v => !d.classA a.axis v)).all (fun v =>
    let ph := 2 * d.fld (R.LVL_CFG a.axis v) F.LVL_CFG.OUTPH
    decide (worst + 256 ≤ ph) && decide (ph < periodNs (a.levelK v)))

/-! ### Stage 5 -/

/-- R134 to R137, R202, R633: stage 5. -/
def stage5 (i : Image) : List Fail :=
  let l := chargedTasks i
  let slots := schedule i l
  let d := initDev i
  forRecs i.tasks (fun k t =>
    match cycleBound i t with
    | none => chk false .badArg 2 k t.engine
    | some n => chk (decide (n ≤ t.wcet)) .conflict 2 k t.engine) ++
  (allEngines.map (fun e => chk (allWindows.all (fun kw => decide (100 * engineWindow i l e kw.1 kw.2 ≤ 85 * tickCycles * 2 ^ kw.1))) .noSpace 2 0
    e)).flatten ++
  forRecs i.tasks (fun k t => match l.find? (fun c => c.rec_.task == t.task) with
    | some c => chk (t.ctx != 1 || (if (relOf i t).isNone then sporadicOk i l slots c else
        (slots.filter (fun s => s.task == t.task)).all (instanceOk c))) .noSpace 2 k t.engine
    | none => []) ++
  forRecs i.axes (fun k a => chk (classFOk d l slots a) .noSpace 4 k) ++
  chk (i.chans.isEmpty || Config.fabricFits i.hash) .noSpace 3

/-! ### The check of a slot (R134) -/

/-- R15: the failed check that is reported: of the lowest code, the first. -/
def worstFail : List Fail → Option Fail
  | [] => none
  | f :: rest => match worstFail rest with
    | none => some f
    | some g => if f.st.code ≤ g.st.code then some f else some g

/-- R134: the first stage that an image fails, with the check reported; none if it passes. -/
def checkImage (slot : Nat) (b : List Byte) : Option (Nat × Fail) :=
  match worstFail (stage1 b) with
  | some f => some (1, f)
  | none => match worstFail (stage2 b) with
    | some f => some (2, f)
    | none =>
      let i := imageOf slot b
      match worstFail (stage3 b i) with
      | some f => some (3, f)
      | none => match worstFail (stage4 i) with
        | some f => some (4, f)
        | none => (worstFail (stage5 i)).map (fun f => (5, f))

end Sys2Proof.Machine
end

