-- ==== Sys2Proof/Machine/Loader.lean ====
section
/-! DEFINITION. The loader at work (spec/04_structure_image.md R120, R134, R139 to R143): the end of a check, the boot slots, and the phases of
an activation. -/

namespace Sys2Proof.Machine

open Sys2Proof

/-! ### The end of a check -/

/-- The bytes of a slot as the loader reads them: flash that has not been written since it was erased reads 0xFF. -/
def Dev.slotFull (d : Dev) (slot : Nat) : List Byte :=
  let b := d.slotBytes slot
  if imgLen b ≤ imgMax then b ++ List.replicate (imgLen b - b.length) 0xFF#8 else b

/-- R148: FAB_SCHED_UTIL of every engine after a check that reached stage 5. -/
def Dev.showUtil (d : Dev) (i : Image) : Dev :=
  let l := chargedTasks i
  d.each allEngines (fun d e =>
    let w := worstWindow i l e
    let r := R.FAB_SCHED_UTIL e
    ((d.setFld r F.FAB_SCHED_UTIL.SHARE (min (sharePermille w.1 w.2.1) 1023)).setFld r F.FAB_SCHED_UTIL.K w.2.1).setFld r
      F.FAB_SCHED_UTIL.WINDOW w.2.2)

/-- R120, R134, R148: a slot's check fails: FAB_LOAD_ERR, FAB_LOAD_IDX and IMG_CHECK_FAIL. -/
def Dev.checkFailed (d : Dev) (slot stage : Nat) (f : Fail) : Dev :=
  let r := R.FAB_LOAD_ERR
  let d1 := ((((d.setFld r F.FAB_LOAD_ERR.STAGE stage).setFld r F.FAB_LOAD_ERR.CODE f.st.code).setFld r F.FAB_LOAD_ERR.SECTYPE f.sec).setFld r
    F.FAB_LOAD_ERR.ENGINE f.eng).setReg R.FAB_LOAD_IDX (wN f.idx)
  (d1.setValid slot false).ev 0x3001 4 [d1.reg r]

/-- R134: a slot has been checked: the image, if it passes. -/
def Dev.checked (d : Dev) (slot : Nat) : Dev × Option Image :=
  let b := d.slotFull slot
  let i := imageOf slot b
  match checkImage slot b with
  | none => ((d.showUtil i).setValid slot true, some i)
  | some (stage, f) => (((if stage == 5 then d.showUtil i else d).checkFailed slot stage f), none)

/-- CHECK_COMPLETE (R134, R140): VALID is set, and an activation that waits for the check is armed. -/
def Dev.checkComplete (d : Dev) : Dev :=
  match d.loader.job with
  | .checking slot act keep =>
    match d.checked slot with
    | (d1, some i) =>
      let d2 := d1.setLoader { d1.loader with checked := i.hash }
      if act then
        (d2.setLoader { d2.loader with job := .armed (boundaryAfter d.ns) keep, nextImage := some i }).setImgState 2
      else (d2.setLoader { d2.loader with job := .idle }).restState
    | (d1, none) => (d1.setLoader { d1.loader with job := .idle }).restState
  | _ => d

/-! ### Boot (R120) -/

/-- R120: the order in which the slots are tried: BOOT, or with LASTGOOD the slot last activated, then the other; IS0 and IS1 where no slot
qualifies. -/
def Dev.bootOrder (d : Dev) : List Nat :=
  match d.fld R.FAB_IMG_CTL F.FAB_IMG_CTL.BOOT with
  | 0 => [0, 1]
  | 1 => [1, 0]
  | _ => if d.loader.lastGood == some 1 then [1, 0] else [0, 1]

/-- R120: an image is chosen for the activation at start. -/
def Dev.bootChosen (d : Dev) (i : Image) : Dev :=
  (d.setLoader { d.loader with nextImage := some i, bootDone := true, checked := if i.slot == 2 then d.loader.checked else i.hash }).setImgState 0

/-- BOOT_CHECK_COMPLETE (R120, R627): the next boot slot has been checked. During a power-fail warning the sequence stands still. -/
def Dev.bootCheck (d : Dev) : Dev :=
  if d.loader.bootDone || d.loader.image.isSome || !(d.loader.job == .idle) || d.bit R.SYS_PF_STAT F.SYS_PF_STAT.PFW then d
  else
    match d.bootOrder.filter (fun s => !d.loader.bootTry.contains s) with
    | [] => (d.ev 0x3004 5).bootChosen nullImage
    | slot :: rest =>
      match d.checked slot with
      | (d1, some i) => (if d.loader.bootTry.isEmpty then d1 else d1.ev 0x3003 5).bootChosen i
      | (d1, none) =>
        let d2 := d1.setLoader { d1.loader with
          bootTry := d1.loader.bootTry ++ [slot], lastGood := if d1.loader.lastGood == some slot then none else d1.loader.lastGood }
        if rest.isEmpty then (d2.ev 0x3004 5).bootChosen nullImage else d2.setImgState 1

/-! ### Activation (R140, R141) -/

/-- An activation is given up: the old image runs on. -/
def Dev.dropActivation (d : Dev) : Dev :=
  ((d.setLoader { d.loader with job := .idle, nextImage := none }).each allPorts (fun d p => d.updPort p (fun x => { x with changed := false }))).restState

/-- KEEPITEMS_STILL_CHECK (R140, R141): at T − 125 µs a track that is not at rest abandons the activation. Else it takes place, and a port whose records
change and whose fallow window has begun sends its MUTE in what is left of the window. -/
def Dev.keepCheck (d : Dev) : Dev :=
  match d.loader.job with
  | .armed t true =>
    if decide (t ≤ d.ns + 125000) then
      match d.movingTrack with
      | some k => d.dropActivation.evObj 0x3005 4 k
      | none => d.each allPorts (fun d p =>
          if d.sends p && (d.port p).fallowNs == some (d.port p).cycleNs && d.muteDue p then d.muteAll p else d)
    else d
  | _ => d

/-- R140: what the old image had armed is disarmed: its comparators and the cycle marks. -/
def Dev.disarmOld (d : Dev) : Dev :=
  (d.each (List.range 64) (fun d k => if d.cmpOwned k then (d.cmpDisarm k).setFld (R.TIME_CMP_CTL k) F.TIME_CMP_CTL.OWNIMG 0 else d)).each
    allPorts (fun d p => d.each (List.range 16) (fun d m => d.setFld (R.LINE_MARK_CTL p m) F.LINE_MARK_CTL.EN 0))

/-- R140: from T a port whose records change sends no cycle-start frame; its nodes have been muted in the fallow window before T. -/
def Dev.portHalt (d : Dev) (new : Image) (p : Nat) : Dev :=
  if !portChanged d.img new (d.basePort p) then d
  else
    let d1 := if d.sends p && !(d.port p).changed then d.muteAll p else d
    let d2 := (if sendingState (d1.portState p) then d1.portOff p else d1).updPort p (fun x => { x with changed := true })
    -- its endpoints carry STALE until they rejoin
    d2.each ((List.range (d2.nodes p)).filter (fun i => d2.slotState p i != 0)) (fun d i =>
      d.setFld (R.LINE_SLOT_STAT p i) F.LINE_SLOT_STAT.STALE 1)

/-- ACTIVATION_SWITCH (R140): T is reached. -/
def Dev.activationSwitch (d : Dev) : Dev :=
  match d.loader.job, d.loader.nextImage with
  | .armed t keep, some i =>
    if decide (t ≤ d.ns) then
      let d1 := (((d.setLoader { d.loader with job := .switching t keep false }).setImgState 3).capActivate.when (!keep) Dev.tallClear).disarmOld
      (d1.each allPorts (fun d p => d.portHalt i p)).each allEngines (fun d e => if (d.eng e).insts.isEmpty then d.loadEngine e i else d)
    else d
  | _, _ => d

/-- R143: MS4 is extended with what measures the image. -/
def Dev.measureImage (d : Dev) : Dev :=
  d.extend 4 0 (sha384 (d.img.hash ++ sha384 d.img.pubKey ++ le 1 d.img.slot))

/-- ACTIVATION_COMMIT (R133, R140, R662): at T + 4 ms − 200 µs the objects of the new image come into being. -/
def Dev.activationCommit (d : Dev) : Dev :=
  match d.loader.job, d.loader.nextImage with
  | .switching t keep false, some i =>
    if decide (t + 3800000 ≤ d.ns) then
      let old := d.img
      let d1 := (d.setLoader { d.loader with job := .switching t keep true, image := some i }).objectsMade old keep
      let d2 := d1.each (allPorts.filter (fun p => portChanged old i p)) Dev.portRemade
      let d3 := (d2.regInitAll i.regInit 0 []).1
      let d4 := (d3.cmpArmImage (t + 4000000)).setFld R.FAB_IMG_STAT F.FAB_IMG_STAT.COMMIT (if i.slot == 2 then 0 else 1)
      (d4.gorseStart 0).measureImage
    else d
  | _, _ => d

/-- R140: a changed port starts: with the unit's role where it is decided, else under R115 and R85. No marker has returned since (R109). -/
def Dev.portBegin (d : Dev) (p : Nat) : Dev :=
  let d1 := d.updPort p (fun x => { x with changed := false })
  let st := d.portState p
  if d.basePort p != p then d1
  else if d.nodes p == 0 then (if st == 1 || st == 7 then d1 else d1.portOff p)
  else match d.fld R.LINE_GSTAT F.LINE_GSTAT.ROLE with
    | 1 => ((d1.setPortState p 2).setReg (R.LINE_LOOPDLY p) 0xFFFFFFFF#32).updPort p (fun x => { x with
        lastTick := none, fallowNs := none, markerNs := none, goodLast := false, keepAlive := false })
    | 2 => d1.setPortState p 7
    | _ => d1.portStart p

/-- R147, R148: the registers of the active image. -/
def Dev.showImage (d : Dev) : Dev :=
  let i := d.img
  let d1 := ((d.setFld R.FAB_IMG_STAT F.FAB_IMG_STAT.ACTSLOT i.slot).setReg R.FAB_IMG_ID (wN i.id)).setReg R.FAB_IMG_VER (wN i.ver)
  d1.each (List.range 12) (fun d k => d.setReg (R.FAB_IMG_HASH k) (wN (uAt i.hash (4 * k) 4)))

/-- ACTIVATION_RELEASE (R140, R143, R413, R454): at T + 4 ms the new schedule begins. -/
def Dev.activationRelease (d : Dev) : Dev :=
  match d.loader.job with
  | .switching t _ true =>
    if decide (t + 4000000 ≤ d.ns) then
      let i := d.img
      let d1 := (d.setLoader { d.loader with
        job := .idle, nextImage := none, actNs := t + 4000000, lastGood := if i.slot == 2 then d.loader.lastGood else some i.slot }).setImgState 4
      let d2 := (d1.setReg R.FAB_ACT_TIME (wN (t + 4000000))).showImage
      let d3 := (d2.safeTake.gorseStart 2).each (allPorts.filter (fun p => (d.port p).changed)) Dev.portBegin
      d3.beginListening.ev 0x3002 2 [wN i.id, wN i.ver, wN i.slot]
    else d
  | _ => d

/-! ### Commands -/

/-- CHECK_COMPLETE (R134). -/
def execCheckComplete (s : State) : Host.Outcome State Fault Refusal := s.run Dev.checkComplete

/-- BOOT_CHECK_COMPLETE (R120). -/
def execBootCheckComplete (s : State) : Host.Outcome State Fault Refusal := s.run Dev.bootCheck

/-- KEEPITEMS_STILL_CHECK (R141). -/
def execKeepitemsStillCheck (s : State) : Host.Outcome State Fault Refusal := s.run Dev.keepCheck

/-- ACTIVATION_SWITCH (R140). -/
def execActivationSwitch (s : State) : Host.Outcome State Fault Refusal := s.run Dev.activationSwitch

/-- ACTIVATION_COMMIT (R140). -/
def execActivationCommit (s : State) : Host.Outcome State Fault Refusal := s.run Dev.activationCommit

/-- ACTIVATION_RELEASE (R140). -/
def execActivationRelease (s : State) : Host.Outcome State Fault Refusal := s.run Dev.activationRelease

end Sys2Proof.Machine
end

