-- ==== Sys2Proof/Machine/Power.lean ====
section
/-! DEFINITION. Power states (R608 to R613, R628), the power-fail sequence (R624 to R627) and the environment (R652, R655, R656). -/

namespace Sys2Proof.Machine

open Sys2Proof

/-! ### What each state leaves (R628) -/

/-- R609: a transition is logged, and shown in PWR_STAT, PWR_TIME and PWR_CNT. -/
def Dev.powerShow (d : Dev) (old new : Nat) : Dev :=
  ((((d.setFld R.PWR_STAT F.PWR_STAT.STATE new).setReg R.PWR_TIME d.ts).inc R.PWR_CNT).ev 0x0201 2
    [wN old, wN new, Config.pwrCause d.pwr.cause])

/-- The endpoints with armed Tallboy actions (R116). -/
def Dev.armedEps (d : Dev) : List Nat :=
  (d.timedOutputs.filter (fun e => d.tall.acts.any (fun a => a.2.remote && a.2.toIx == e.1 && a.2.state != 1))).map (fun e => e.2.1)

/-- R116: the lines that the power state `s` does not use go into keep-alive: in P2 the unused ones, in P3 all. -/
def Dev.holdLines (d : Dev) (s : Nat) : Dev :=
  if s == 2 then
    let acts := d.armedEps
    d.each allPorts (fun d p => if d.lineUnused (d.basePort p) acts then d.holdLine p else d)
  else if s == 3 then d.each allPorts Dev.holdLine
  else d

/-- R608, R413, R116: entry to P2: an idle Gorse is retained, unused lines run keep-alive cycles. -/
def Dev.enterP2 (d : Dev) : Dev :=
  (if d.gorseIdle && (d.gorseState == 2 || d.gorseState == 3) then d.setFld R.GORSE_STAT F.GORSE_STAT.STATE 1 else d).holdLines 2

/-- The class V fields that show a state which another rule keeps in P3: they follow that state and are no values that could be lost (DESIGN
CHOICE, notes/assumptions/102.md). -/
def shownState (r : Reg) (f : FldInfo) : Bool :=
  match r.name with
  | .SYS_PF_STAT | .SYS_ENV_STAT | .SYS_ENV_TEMP | .SYS_ENV_ENC | .PWR_STAT | .SEC_STAT | .FAB_IMG_STAT | .FAB_ACT_TIME | .FAB_IMG_ID
  | .FAB_IMG_VER | .FAB_IMG_HASH | .HOST_STAT | .SAFE_STAT | .SAFE_SA_STAT | .SAFE_IN | .SAFE_FN | .DIO_BANK_STAT | .DIO_IN | .DIO_OUT
  | .DIO_RB | .LINE_NODES | .CAN_STAT | .CAN_TXB_STAT | .CAN_CLASH_ID | .TRACK_STAT | .TALL_TO_STAT | .PAIR_PEER_SERIAL
  | .PAIR_MPOINT_LO | .PAIR_MPOINT_HI | .GORSE_STAT | .CAP_STAT => true
  | .CLK_STAT => f.hi != F.CLK_STAT.REFLOSS.hi
  | .TIME_STAT => f.hi != F.TIME_STAT.STEPPED.hi
  | .PWM_DRV_STAT => f.hi == F.PWM_DRV_STAT.PRESENT.hi || f.hi == F.PWM_DRV_STAT.TYPEOK.hi || f.hi == F.PWM_DRV_STAT.TRIPIN.hi
  | .FBK_ENC_STAT => f.hi == F.FBK_ENC_STAT.VALID.hi || f.hi == F.FBK_ENC_STAT.CAUSE.hi || f.hi == F.FBK_ENC_STAT.TD.hi
  | .FBK_REM_STAT => f.hi == F.FBK_REM_STAT.VALID.hi || f.hi == F.FBK_REM_STAT.CAUSE.hi
  | .FBK_PRB_STAT => f.hi == F.FBK_PRB_STAT.ARMED.hi
  | .LINE_STAT => f.hi == F.LINE_STAT.STATE.hi || f.hi == F.LINE_STAT.LOS.hi
  | .LINE_SLOT_STAT => f.hi != F.LINE_SLOT_STAT.CONSEC.hi && f.hi != F.LINE_SLOT_STAT.OFS.hi
  | .LINE_GSTAT => f.hi == F.LINE_GSTAT.ROLE.hi
  | .GRP_STAT => f.hi == F.GRP_STAT.STATE.hi
  | .SAFE_CONN_STAT => true
  | .PAIR_STAT => f.hi != F.PAIR_STAT.STALE.hi && f.hi != F.PAIR_STAT.DUAL.hi
  | _ => false

/-- R12, R628: the class V values are lost; the Bureau's window and cursor among them. -/
def Dev.volatileLost (d : Dev) : Dev :=
  let d1 := d.keepFlds (fun r f => f.cls != .v || shownState r f)
  { d1 with bureau := { d1.bureau with win := [], regFail := false }, w1c := (0, []) }

/-- R191: the engines are off: their memories, their instances and what their tasks wrote are lost. -/
def Dev.enginesOff (d : Dev) : Dev :=
  { d with engs := { chan := d.engs.chan.filter (fun e => match d.chanRec e.1 with
      | some r => r.kind != 2
      | none => false) } }

/-- R12, R263: SDCLK stops and the modulators give no bits; the legs are off and their pairs lost. -/
def Dev.sdStops (d : Dev) : Dev :=
  let e := d.gatesOff
  { e with pwm := { e.pwm with bits := [], legs := e.pwm.legs.map (fun q => (q.1, { trip := q.2.trip })) } }

/-- R12, R36, R66, R116, R327, R350, R390, R413, R519: entry to P3. -/
def Dev.enterP3 (d : Dev) : Dev :=
  let d1 := ((((d.motionHold).tallHold).abortCapture 1).cmpLoseAll).holdLines 3
  ((d1.each (d1.img.arms.map (·.arm)) Dev.armDisable).gorseStart 0).enginesOff.sdStops.volatileLost

/-- R12, R628: what P4 keeps of the registers: classes O, N and K, of the blocks that run what shows their state, the level of PRES, which
is a pin, and LOS, which shows the receive link. -/
def keptP4 (r : Reg) (f : FldInfo) : Bool :=
  f.cls == .o || f.cls == .n || f.cls == .k ||
  ([Blk.sys, .clk, .pwr, .sec, .time, .fab, .safe, .evt, .pair, .host].contains (blkOf r.addr) &&
    (shownState r f || (r.name == .PAIR_CFG && f.hi == F.PAIR_CFG.EN.hi))) ||
  (r.name == .PWM_DRV_STAT && f.hi == F.PWM_DRV_STAT.PRESENT.hi) || (r.name == .LINE_STAT && f.hi == F.LINE_STAT.LOS.hi)

/-- The blocks that P4 and a reset switch off lose all but their pins: the gates are inactive (R263); receive links, and the field side of the banks. -/
def Dev.blocksLost (d0 : Dev) : Dev :=
  let d := d0.gatesOff
  { d with
    engs := {}, axs := {}, pwm := {}, fbk := {}, mot := {}, arms := [], tall := {}, gorse := {}, can := [], cap := {},
    line := { ports := d.line.ports.map (fun e => (e.1, { linkUp := e.2.linkUp, upClk := e.2.upClk })), nextToken := d.line.nextToken },
    dio := { d.dio with pulse := none, ch := d.dio.ch.map (fun e => (e.1, { e.2 with qualN := 0, c := 0, permit := false, pulseEnd := none, captured := false })) } }

/-- R36, R116, R263, R454, R470, R500: entry to P4: outputs go to SAFE first; the blocks but those of R608 are off. -/
def Dev.enterP4 (d : Dev) : Dev :=
  let d1 := ((d.each (List.range 64) (fun d k => d.setDioCh k { d.dioCh k with permit := false })).dioPark).each [0, 1, 2, 3] Dev.dioDriveBank
  let d2 := (d1.each (List.range 256) (fun d c => if (d.sconn c).isSome then d.connLost c else d)).each allPorts Dev.portOff
  let d3 := ((d2.keepFlds keptP4).blocksLost).setReg R.SYS_ENV_ENC 0
  d3.setLoader { d3.loader with shadow := [], pendingParams := [] }

/-- R609: a deeper state is entered: each state reduces what the one before it reduces and more. -/
def Dev.enterPower (d : Dev) (old new : Nat) : Dev :=
  let d1 := d.when (decide (old < 2) && decide (2 ≤ new)) Dev.enterP2
  let d2 := d1.when (decide (old < 3) && decide (3 ≤ new)) Dev.enterP3
  (d2.when (decide (new = 4)) Dev.enterP4).powerShow old new

/-- POWER_STATE_ENTRY (R609, R613): P1 at the next base tick, the deeper states at the first 4 ms boundary after the selection, and not while
an activation is armed or made. -/
def Dev.powerEntry (d : Dev) : Dev :=
  let s := d.fld R.PWR_STAT F.PWR_STAT.STATE
  let t := d.fld R.PWR_STAT F.PWR_STAT.TARGET
  let step := if t == 1 then 31250 else 4000000
  let busy := match d.loader.job with
    | .armed _ _ | .switching _ _ _ => true
    | _ => false
  if d.bit R.PWR_STAT F.PWR_STAT.TRANS || decide (t ≤ s) || decide (d.ns / step ≤ d.pwr.selNs / step) || (decide (2 ≤ t) && busy) then d
  else d.enterPower s t

/-! ### Return -/

/-- The connectors with a carrier are identified (R251). -/
def Dev.carriersRead (d : Dev) : Dev :=
  d.each (List.range 8) (fun d c => if d.bit (R.PWM_DRV_STAT c) F.PWM_DRV_STAT.PRESENT then d.carIdStart c else d)

/-- R142, R251, R500, R611: the blocks that were off in P4 come back from the active image. -/
def Dev.wakeP4 (d : Dev) : Dev :=
  let d0 := d.carriersRead
  let d1 : Dev := { d0 with pwm := { d0.pwm with sdFrom := d.clk } }
  if d.loader.image.isNone then d1
  else
    let d2 := ((d1.objectsMade {} false).regInitAll d1.img.regInit 0 []).1
    d2.each allPorts Dev.portBegin

/-- R142, R145, R413, R66: the engines, Gorse and the image's comparators on a return to P2 or lower. -/
def Dev.wakeP3 (d : Dev) (from4 : Bool) : Dev :=
  let d1 := if from4 then d
    else
      let e := ((d.loadEngines d.img).paramShadows).constLoad
      { e with pwm := { e.pwm with sdFrom := d.clk } }
  if d.loader.image.isNone then d1 else (d1.cmpRearmImage d.loader.actNs).gorseStart 2

/-- POWER_EXIT_COMPLETE (R609, R611, R612): the state that was selected is reached, and a debug request that it admits opens its session. -/
def Dev.powerExit (d : Dev) : Dev :=
  match d.pwr.exitFrom with
  | none => d
  | some s =>
    let t := d.fld R.PWR_STAT F.PWR_STAT.TARGET
    let d0 : Dev := { d with pwr := { d.pwr with exitFrom := none } }
    let d1 := (d0.setFld R.PWR_STAT F.PWR_STAT.TRANS 0).powerShow s t
    let d2 := d1.when (s == 4) Dev.wakeP4
    let d3 := if 3 ≤ s && t ≤ 2 then d2.wakeP3 (s == 4) else if s == 4 && t == 3 then d2.enterP3 else d2
    let d4 := if d3.gorseState == 1 && t ≤ 1 then d3.gorseWake else d3
    (d4.holdLines t).tryDebug

/-- LINE_RESUME (R116): at a 4 ms boundary a line that the present state does not hold in keep-alive resumes its own period. -/
def Dev.lineResume (d : Dev) (p : Nat) : Dev :=
  let s := d.pstate
  if d.ns / 31250 % 128 == 0 && (decide (s < 2) || (s == 2 && !d.lineUnused (d.basePort p) d.armedEps)) then d.resumeLine p else d

/-! ### The power-fail sequence (R624) -/

/-- R624: an activation in progress is abandoned: the old image runs on. One whose objects have come into being already is completed. -/
def Dev.pfActivation (d : Dev) : Dev :=
  match d.loader.job with
  | .armed _ _ => d.dropActivation.ev 0x3005 4
  | .checking slot true keep => d.setLoader { d.loader with job := .checking slot false keep }
  | .switching _ _ false =>
    let ch := allPorts.filter (fun p => (d.port p).changed)
    (((d.loadEngines d.img).dropActivation).each ch Dev.portBegin).ev 0x3005 4
  | _ => d

/-- R624: the sequence begins, once for all causes that arise together (R656). A standby is then not READY (R627). -/
def Dev.pfSequence (d : Dev) : Dev :=
  if d.sys.pfClk.isSome && !d.bit R.SYS_PF_STAT F.SYS_PF_STAT.PFDONE then d
  else
    let d1 : Dev := { d with sys := { d.sys with
      pfClk := some d.clk, pfAxes := (d.img.axes.filter (fun r => d.axEnabled r.axis)).map (·.axis) } }
    let d2 := ((d1.setFld R.SYS_PF_STAT F.SYS_PF_STAT.PFW 1).setFld R.SYS_PF_STAT F.SYS_PF_STAT.PFDONE 0).ev 0xE102 7
    let d3 := if d2.isStandby && d2.mstate == 2 then d2.setMstate 1 else d2
    (d3.dioPark.pfActivation).each ((d.img.groups).map (·.group)) Dev.grpPfStop

/-- POWER_FAIL_WARNING (R624, R641): the bulk voltage in V. -/
def Dev.pfWarning (d : Dev) (bulk : Nat) : Dev :=
  let d1 := d.setFld R.SYS_PF_STAT F.SYS_PF_STAT.BULK (min bulk 511)
  if 300 ≤ bulk || d.bit R.SYS_PF_STAT F.SYS_PF_STAT.PFW then d1 else d1.pfSequence

/-- PF_PERMIT_WITHDRAW (R624, R635): 15 ms after the warning. The watchdog is then serviced again. -/
def Dev.pfWithdraw (d : Dev) : Dev :=
  match d.sys.pfClk with
  | some c =>
    if d.since c (clksOfMs 15) && !d.bit R.SYS_PF_STAT F.SYS_PF_STAT.PFDONE then
      ({ d with sys := { d.sys with wdClk := d.clk } } : Dev).each d.saxes (fun d k => d.saSto k 0xFF) |>.setFld R.SYS_PF_STAT F.SYS_PF_STAT.PFDONE 1
    else d
  | none => d

/-- PF_RECOVERED (R626, R627, R656): the bulk voltage has held above 320 V for 100 ms. A start that the warning stopped goes on at step 7. -/
def Dev.pfRecovered (d : Dev) (bulk : Nat) : Dev :=
  let d1 := d.setFld R.SYS_PF_STAT F.SYS_PF_STAT.BULK (min bulk 511)
  if !d.bit R.SYS_PF_STAT F.SYS_PF_STAT.PFW || decide (bulk ≤ 320) || d.sys.crit.isSome then d1
  else
    let d2 := (d1.setFld R.SYS_PF_STAT F.SYS_PF_STAT.PFW 0).ev 0x0002 4
    if d2.loader.image.isSome then d2
    else (d2.setLoader { d2.loader with bootTry := [], bootDone := false, nextImage := none, job := .idle }).setImgState 0

/-! ### Temperature, fans and modules -/

/-- TEMP_MEASURE (R656): the internal temperature in 0.1 °C. With the supply off only the cooling is watched. -/
def Dev.tempMeasure (d : Dev) (t : Int) : Dev :=
  let d0 : Dev := { d with sys := { d.sys with tempClk := some d.clk, coolClk := if t < 700 then some (d.sys.coolClk.getD d.clk) else none } }
  if d.sys.off then d0
  else
    let r := R.SYS_ENV_STAT
    let old := d.fldI R.SYS_ENV_TEMP F.SYS_ENV_TEMP.MAX
    let top := if d.sys.tempClk.isNone then t else max old t
    let d1 := (d0.setFld R.SYS_ENV_TEMP F.SYS_ENV_TEMP.NOW (modN 16 t)).setFld R.SYS_ENV_TEMP F.SYS_ENV_TEMP.MAX (modN 16 top)
    let d2 := if 800 ≤ t && !d.bit r F.SYS_ENV_STAT.TEMPWARN then (d1.setFld r F.SYS_ENV_STAT.TEMPWARN 1).ev 0x0005 4 [wI t]
      else if t < 750 then d1.setFld r F.SYS_ENV_STAT.TEMPWARN 0
      else d1
    if 950 ≤ t && !d.bit r F.SYS_ENV_STAT.TEMPCRIT then
      let d3 := (d2.setFld r F.SYS_ENV_STAT.TEMPCRIT 1).ev 0x0005 7 [wI t]
      ({ d3 with sys := { d3.sys with crit := some d.clk } } : Dev).pfSequence
    else d2

/-- TEMPCRIT_SUPPLY_OFF (R656): 20 ms after TEMPCRIT the regulated supply goes off, and every output with it. -/
def Dev.supplyOff (d : Dev) : Dev :=
  match d.sys.crit with
  | some c =>
    if d.since c (clksOfMs 20) then
      let d1 := d.outputsOff
      { d1 with sys := { d1.sys with off := true } }
    else d
  | none => d

/-- R655: a fan runs within its speed range or not. -/
def Dev.fan (d : Dev) (f : Nat) (ok : Bool) : Dev :=
  let r := R.SYS_ENV_STAT
  let old := d.fld r F.SYS_ENV_STAT.FANOK
  let now := if ok then setBit old f else clrBit old f
  let d1 := d.setFld r F.SYS_ENV_STAT.FANOK now
  if ok || now == old then d1
  else
    let bad := [0, 1, 2].filter (fun i => !bitAt now i)
    d1.evObj 0x0004 (if 2 ≤ bad.length then 5 else 4) f (wordsList bad)

/-- R652: the module types that the unit accepts: 1 10GBASE-SR, 2 10GBASE-LR, 3 passive copper of up to 7 m. -/
def sfpAccepted (typ : Nat) : Bool := decide (1 ≤ typ) && decide (typ ≤ 3)

/-- SFP_INSERTED (R652): a module of a type in cage 0 (X2), 1 (X3) or 2 (X4). -/
def Dev.sfpInserted (d : Dev) (c typ : Nat) : Dev :=
  let r := R.SYS_ENV_STAT
  let w := d.fld r F.SYS_ENV_STAT.SFPOK
  if sfpAccepted typ then d.setFld r F.SYS_ENV_STAT.SFPOK (setBit w c)
  else (d.setFld r F.SYS_ENV_STAT.SFPOK (clrBit w c)).evObj 0x0006 3 c [wN typ]

/-! ### Commands -/

/-- POWER_STATE_ENTRY (R609). -/
def execPowerStateEntry (s : State) : Host.Outcome State Fault Refusal := s.run Dev.powerEntry

/-- POWER_EXIT_COMPLETE (R609). -/
def execPowerExitComplete (s : State) : Host.Outcome State Fault Refusal := s.run Dev.powerExit

/-- LINE_RESUME (R116). -/
def execLineResume (s : State) : Host.Outcome State Fault Refusal := s.run (fun d => d.each allPorts Dev.lineResume)

/-- POWER_FAIL_WARNING (R624). -/
def execPowerFailWarning (bulk : Nat) (s : State) : Host.Outcome State Fault Refusal := s.run (fun d => d.pfWarning bulk)

/-- PF_PERMIT_WITHDRAW (R624). -/
def execPfPermitWithdraw (s : State) : Host.Outcome State Fault Refusal := s.run Dev.pfWithdraw

/-- PF_RECOVERED (R626). -/
def execPfRecovered (bulk : Nat) (s : State) : Host.Outcome State Fault Refusal := s.run (fun d => d.pfRecovered bulk)

/-- TEMP_MEASURE (R656). -/
def execTempMeasure (t : Int) (s : State) : Host.Outcome State Fault Refusal := s.runAny (fun d => d.tempMeasure t)

/-- TEMPCRIT_SUPPLY_OFF (R656). -/
def execTempcritSupplyOff (s : State) : Host.Outcome State Fault Refusal := s.run Dev.supplyOff

/-- FAN_FAILURE (R655). -/
def execFanFailure (f : Nat) (s : State) : Host.Outcome State Fault Refusal := s.runIf (decide (f < 3)) (fun d => d.fan f false)

/-- FAN_RESTORED (R658). -/
def execFanRestored (f : Nat) (s : State) : Host.Outcome State Fault Refusal := s.runIf (decide (f < 3)) (fun d => d.fan f true)

/-- SFP_INSERTED (R652). -/
def execSfpInserted (c typ : Nat) (s : State) : Host.Outcome State Fault Refusal := s.runIf (decide (c < 3)) (fun d => d.sfpInserted c typ)

end Sys2Proof.Machine
end

