-- ==== Sys2Proof/Machine/Sessions.lean ====
section
/-! DEFINITION. Sessions and queues of the host interface (spec/19_host_interface.md R565 to R578, R583): what the unit sends, the opening
and closing of sessions and queues, subscriptions, acknowledgements, HELLO. -/

namespace Sys2Proof.Machine

open Sys2Proof

/-! ### What the unit sends -/

/-- A datagram to a host, if the link of its port is up and it fits its path (R566). -/
def Dev.hostOut (d : Dev) (dst : Peer) (bytes : List Byte) : Dev :=
  if d.hostLink dst.port && d.fitsPath dst.addr bytes.length then (d.emit (.host dst bytes)).inc (R.HOST_P_CNT_TX dst.port) else d

/-- R567: an unqueued message of the unit. -/
def unqueued (typ sessId : Nat) (st : Status) (flags : Nat) (body : List Byte) : List Byte :=
  message typ 0xFF sessId st.code flags 0 0 body

/-- R569: the answer to an unqueued message. -/
def Dev.answerTo (d : Dev) (src : Peer) (m : List Byte) (st : Status) (body : List Byte) : Dev :=
  d.hostOut src (unqueued (uAt m 0 2 + 0x80) (uAt m 4 2) st 0 body)

/-- R568, R575: REJECT, with the position expected and the rejected header; it is counted for the session and the queue. -/
def Dev.reject (d : Dev) (src : Peer) (m : List Byte) (st : Status) (expect : Nat) (slot queue : Option Nat) : Dev :=
  let d1 := d.hostOut src (unqueued 0x0FC3 (uAt m 4 2) st 0 (le 4 expect ++ le 12 0 ++ slice m 0 16))
  let d2 := match slot with
    | some s => d1.inc (R.HOST_S_REJ s)
    | none => d1
  match queue with
  | some q => d2.bump (R.HOST_Q_CNT q) F.HOST_Q_CNT.REJ 1
  | none => d2

/-! ### Sessions -/

/-- The session in a slot. -/
def Dev.sess? (d : Dev) (slot : Nat) : Option Session := tget? d.host.sess slot

/-- The device with a session set. -/
def Dev.setSess (d : Dev) (slot : Nat) (x : Session) : Dev := { d with host := { d.host with sess := tset d.host.sess slot x } }

/-- The slot of a SESSID. -/
def Dev.slotOfId (d : Dev) (id : Nat) : Option Nat := (d.host.sess.find? (fun e => e.2.sessId == id)).map (·.1)

/-- R571: the session is controlling. -/
def Dev.isCtl (d : Dev) (slot : Nat) : Bool := (d.sess? slot).any (·.ctl)

/-- R572: SESSTO, in clocks. -/
def Dev.sessTo (d : Dev) : Nat := d.fld R.HOST_CFG F.HOST_CFG.SESSTO * fabHz

/-- The queues of a session, by number. -/
def Dev.queuesOf (d : Dev) (slot : Nat) : List Nat := (d.host.queues.filter (fun e => e.2.slot == slot)).map (·.1)

/-- A queue is gone. -/
def Dev.dropQueue (d : Dev) (q : Nat) : Dev := { d with host := { d.host with queues := tdel d.host.queues q } }

/-- R576: a message of a command queue has been answered: the answer takes its place in the response queue and in the response log, and the
entries of the message are free. -/
def Dev.finishMsg (d : Dev) (q typ : Nat) (status : Nat) (ref : Nat) (body : List Byte) : Dev :=
  match d.queue? q with
  | none => d
  | some x =>
    let ans := match d.queue? x.respQ with
      | some r => message (typ + 0x80) x.respQ (d.sessIdOf r) status 0 r.pos ref body
      | none => []
    let d1 := d.placeMsg x.respQ (typ + 0x80) status 0 ref body
    let y := { x with stored := x.stored.drop 1, wait := none,
                      ack := (ref + uAt (x.stored.headD []) 2 1) % 2 ^ 32, log := ((ref, ans) :: x.log).take 64 }
    d1.setQueue q y

/-- R574: every stored message of a command queue is answered with ABORTED. -/
def Dev.abortStored (d : Dev) (q : Nat) : Dev :=
  match d.queue? q with
  | none => d
  | some x => d.each x.stored (fun d m => d.finishMsg q (uAt m 0 2) 9 (uAt m 8 4) [])

/-- R574: a command queue closes. -/
def Dev.closeCmdQueue (d : Dev) (q : Nat) : Dev := (d.abortStored q).dropQueue q

/-! ### Bulk handles -/

/-- R581: a handle of a session. -/
def Dev.handle? (d : Dev) (slot h : Nat) : Option Handle := (d.sess? slot).bind (fun s => tget? s.handles h)

/-- The device with a handle set. -/
def Dev.setHandle (d : Dev) (slot h : Nat) (x : Handle) : Dev :=
  match d.sess? slot with
  | some s => d.setSess slot { s with handles := tset s.handles h x }
  | none => d

/-- R582, R597: the object of a write handle is complete; the code if it cannot be taken. -/
def Dev.completeObj (d : Dev) (x : Handle) : Dev × Status :=
  match x.obj with
  | 2 =>
    if d.inSwitch then (d, .busy) else if !d.blkOn .cap then (d, .notReady) else (d.loadMask x.index x.buf, .ok)
  | 6 =>
    let dg := sha384 (slice x.buf 0 x.len)
    ((d.setSec { d.sec with fwNext := tset d.sec.fwNext x.index dg }).extend 5 0 dg, .ok)
  | _ => (d, .ok)

/-- R581: BULK_CLOSE of a handle: a write handle completes its object or discards it. -/
def Dev.closeHandle (d : Dev) (slot h : Nat) : Dev × Status :=
  match d.sess? slot, d.handle? slot h with
  | some s, some x =>
    let d1 := d.setSess slot { s with handles := tdel s.handles h }
    if x.dir == 0 then (d1, .ok)
    else if x.written == x.len then d1.completeObj x
    else ((if x.obj == 1 then d1.putSlot x.index [] else d1), .aborted)
  | _, _ => (d, .badArg)

/-- R569, R572: a session closes with its queues and handles; `reason` is that of SESS_CLOSED, sent where `notice` holds. -/
def Dev.closeSession (d : Dev) (slot reason : Nat) (notice : Bool) : Dev :=
  match d.sess? slot with
  | none => d
  | some s =>
    let d1 := if notice then d.hostOut s.peer (unqueued 0x0FC1 s.sessId .ok 0 (le 1 reason)) else d
    let d2 := (d1.each (d1.queuesOf slot) (fun d q => if q < 64 then d.closeCmdQueue q else d)).each (d1.queuesOf slot) Dev.dropQueue
    let d3 := d2.each (s.handles.map (·.1)) (fun d h => (d.closeHandle slot h).1)
    let d4 : Dev := { d3 with host := { d3.host with sess := tdel d3.host.sess slot, helloClk := if s.ctl then some d.clk else d3.host.helloClk } }
    d4.evObj 0xF102 (if reason == 1 || reason == 2 then 4 else 2) slot [wN reason]

/-- R570: the first SESSID from `n` on that is not 0 and not in use. -/
def Dev.freeSessId (d : Dev) : Nat → Nat → Nat
  | 0, n => n
  | fuel + 1, n => if n == 0 || (d.slotOfId n).isSome then d.freeSessId fuel ((n + 1) % 65536) else n

/-- R569: the body of the answer to SESS_OPEN. -/
def Dev.openBody (d : Dev) (nonce slot : Nat) : List Byte :=
  le 4 nonce ++ le 1 slot ++ le 1 d.secState ++ le 1 (d.fld R.LINE_GSTAT F.LINE_GSTAT.ROLE)

/-- SESS_OPEN (R570). -/
def Dev.sessOpen (d : Dev) (src : Peer) (m : List Byte) : Dev :=
  let nonce := uAt m 16 4
  let role := uAt m 20 1
  match d.host.sess.find? (fun e => e.2.nonce == nonce && e.2.peer == src && !d.since e.2.openClk d.sessTo) with
  | some (slot, s) => d.hostOut src (unqueued 0x0F81 s.sessId .ok 1 (d.openBody nonce slot))
  | none =>
    let slot := [0, 1, 2, 3].find? (fun k => (d.sess? k).isNone)
    let st := lowest [need (decide (role ≤ 1)) .badArg, need slot.isSome .noSpace, need (role != 1 || d.ctlSlot.isNone) .conflict]
    if st != .ok then d.hostOut src (unqueued 0x0F81 0 st 0 (le 4 nonce))
    else
      let k := slot.getD 0
      let (v, d0) := d.free
      let id := d0.freeSessId 8 (v % 65536)
      let s : Session := { sessId := id, ctl := role == 1, nonce := nonce, openClk := d.clk, peer := src, lastClk := d.clk }
      let d1 := d0.setSess k s
      let d2 : Dev := { d1 with host := { d1.host with dropped := tdel d1.host.dropped k } }
      (d2.hostOut src (unqueued 0x0F81 id .ok 0 (d2.openBody nonce k))).evObj 0xF101 2 k [wN role]

/-- SESS_CLOSE (R572): the answer leaves, then the session closes. -/
def Dev.sessClose (d : Dev) (src : Peer) (slot : Nat) (m : List Byte) : Dev := (d.answerTo src m .ok []).closeSession slot 0 false

/-- The device with a session's role set. -/
def Dev.setCtl (d : Dev) (slot : Nat) (ctl : Bool) : Dev :=
  match d.sess? slot with
  | some s => d.setSess slot { s with ctl := ctl }
  | none => d

/-- R573: the last controlling session has ended. -/
def Dev.noCtl (d : Dev) : Dev := { d with host := { d.host with helloClk := some d.clk } }

/-- SESS_CTL (R571): 0 KEEPALIVE, 1 CLAIM, 2 RELEASE, 3 FORCE. -/
def Dev.sessCtl (d : Dev) (src : Peer) (slot : Nat) (m : List Byte) : Dev :=
  let role (e : Dev) : List Byte := le 1 (if e.isCtl slot then 1 else 0)
  let other := match d.ctlSlot with
    | some k => if k == slot then none else some k
    | none => none
  match uAt m 16 1 with
  | 0 => d.answerTo src m .ok (role d)
  | 1 =>
    let st := need other.isNone .conflict
    let d1 := if st = .ok then d.setCtl slot true else d
    d1.answerTo src m st (role d1)
  | 2 =>
    let d1 := if d.isCtl slot then (d.setCtl slot false).noCtl else d
    d1.answerTo src m .ok (role d1)
  | 3 =>
    let d1 := match other with
      | some k =>
        let e := d.setCtl k false
        match d.sess? k with
        | some s => e.hostOut s.peer (unqueued 0x0FC1 s.sessId .ok 0 (le 1 5))
        | none => e
      | none => d
    let d2 := (d1.setCtl slot true).evObj 0xF103 4 slot
    d2.answerTo src m .ok (role d2)
  | _ => d.answerTo src m .badArg (role d)

/-! ### Queues (R574) -/

/-- A response queue that a session has open. -/
def Dev.ownsResp (d : Dev) (slot q : Nat) : Bool := decide (64 ≤ q) && decide (q < 128) && (d.queue? q).any (fun x => x.slot == slot)

/-- QUEUE_OPEN (R574). -/
def Dev.queueOpen (d : Dev) (src : Peer) (slot : Nat) (m : List Byte) : Dev :=
  let q := uAt m 16 1
  let depth := uAt m 17 1
  let respQ := uAt m 18 1
  let resv := uAt m 19 1
  let cmd := decide (q < 64)
  let used : Nat := (d.host.queues.map (fun e => e.2.depth)).foldl (· + ·) 0
  let same := (d.queue? q).any (fun x => x.slot == slot && x.depth == 2 ^ depth && x.resv == resv && x.respQ == respQ)
  let st := lowest [need (decide (q < 128)) .badArg, need (cmd || resv != 0) .badLen, need (decide (8 ≤ depth) && decide (depth ≤ 16)) .badArg,
    need (!cmd || (resv == 0 && d.ownsResp slot respQ)) .badArg, need (cmd || (respQ == 0 && (decide (4 ≤ resv) || resv == 0))) .badArg,
    need ((d.queue? q).isNone || same) .conflict, need ((d.queue? q).isSome || decide (used + (2 : Nat) ^ depth ≤ 16777216)) .noSpace]
  if st != .ok then d.answerTo src m st (le 1 q)
  else if same then d.hostOut src (unqueued 0x0F84 (uAt m 4 2) .ok 1 (le 1 q))
  else (d.setQueue q { slot := slot, depth := 2 ^ depth, resv := resv, respQ := respQ, ackClk := d.clk }).answerTo src m .ok (le 1 q)

/-- R574: a response queue is still needed: a command queue answers into it, or a CAN channel names it. -/
def Dev.respNeeded (d : Dev) (q : Nat) : Bool :=
  d.host.queues.any (fun e => decide (e.1 < 64) && e.2.respQ == q) ||
  (List.range 8).any (fun c => d.fld (R.CAN_CFG c) F.CAN_CFG.MODE != 0 && d.fld (R.CAN_CFG c) F.CAN_CFG.HOSTQ == q)

/-- QUEUE_CLOSE (R574, R583): a message in execution is answered first. -/
def Dev.queueClose (d : Dev) (src : Peer) (slot : Nat) (m : List Byte) : Dev :=
  let q := uAt m 16 1
  match d.queue? q with
  | none => d.answerTo src m .notReady (le 1 q)
  | some x =>
    if x.slot != slot then d.answerTo src m .denied (le 1 q)
    else if q < 64 then
      (if x.wait.isSome then d.setQueue q { x with closing := some src } else (d.closeCmdQueue q).answerTo src m .ok (le 1 q))
    else if d.respNeeded q then d.answerTo src m .conflict (le 1 q)
    else (d.dropQueue q).answerTo src m .ok (le 1 q)

/-- R546, R583, R596: the answer that a command queue waits for is placed, once its response queue has room. -/
def Dev.placeWait (d : Dev) (q : Nat) : Dev :=
  match d.queue? q with
  | none => d
  | some x =>
    match x.wait with
    | none => d
    | some w =>
      let room := match d.queue? x.respQ with
        | some r => decide ((16 + w.body.length + 63) / 64 ≤ r.freeEntries)
        | none => true
      if !room then d
      else
        let d1 := d.finishMsg q w.typ w.status w.ref w.body
        match x.closing with
        | some src => (d1.closeCmdQueue q).hostOut src (unqueued 0x0F85 (d.sessIdOf x) .ok 0 (le 1 q))
        | none => d1

/-! ### Subscriptions and acknowledgements -/

/-- EVT_SUB (R578). -/
def Dev.evtSub (d : Dev) (src : Peer) (slot : Nat) (m : List Byte) : Dev :=
  let q := uAt m 16 1
  let sev := uAt m 17 1
  let st := lowest [need (q == 0xFF || d.ownsResp slot q) .badArg, need (decide (sev ≤ 7)) .badArg]
  match d.sess? slot with
  | none => d
  | some s =>
    let d1 := if st = .ok then d.setSess slot { s with sub := if q == 0xFF then none else some (q, sev, uAt m 18 2) } else d
    d1.answerTo src m st []

/-- R577: one pair of a HOST_ACK: the messages before DONE are freed. A DONE out of range is ignored and counted. -/
def Dev.ackOne (d : Dev) (slot q done : Nat) : Dev :=
  match d.queue? q with
  | none => d.inc (R.HOST_S_REJ slot)
  | some x =>
    if !d.ownsResp slot q || decide (0 < tsDiff (wN done) (wN x.pos)) || decide (tsDiff (wN done) (wN x.ack) < 0) then d.inc (R.HOST_S_REJ slot)
    else if done == x.ack then d
    else d.setQueue q { x with
      ack := done, ackClk := d.clk, rounds := 0,
      unacked := x.unacked.filter (fun e => decide (tsDiff (wN (e.1 + e.2.length / 64)) (wN done) > 0)) }

/-- HOST_ACK (R577): up to 6 pairs; QUEUE 0xFF ends the list. -/
def Dev.hostAck (d : Dev) (slot : Nat) (m : List Byte) : Dev :=
  let pairs := ((List.range 6).map (fun j => (uAt m (16 + 8 * j) 1, uAt m (20 + 8 * j) 4))).takeWhile (fun e => e.1 != 0xFF)
  d.each pairs (fun d e => d.ackOne slot e.1 e.2)

/-- ACK_TIMEOUT (R577): DONE has not advanced for ACKTO: one more round, or after 8 rounds the session closes. -/
def Dev.ackTimeout (d : Dev) (q : Nat) : Dev :=
  match d.queue? q with
  | none => d
  | some x =>
    if q < 64 || x.unacked.isEmpty || !d.since x.ackClk (clksOfMs (d.fld R.HOST_CFG2 F.HOST_CFG2.ACKTO)) then d
    else if 8 ≤ x.rounds then d.closeSession x.slot 2 true
    else
      let peer := match d.sess? x.slot with
        | some s => s.peer
        | none => {}
      let again (b : List Byte) : List Byte := splice b 7 (le 1 (if bitAt (uAt b 7 1) 1 then uAt b 7 1 else uAt b 7 1 + 2))
      let d1 := d.each x.unacked (fun d e => d.hostOut peer (again e.2))
      (d1.setQueue q { x with rounds := x.rounds + 1, ackClk := d.clk }).inc (R.HOST_S_RETX x.slot)

/-- SESSION_TIMEOUT (R572). -/
def Dev.sessTimeout (d : Dev) (slot : Nat) : Dev :=
  match d.sess? slot with
  | some s => if d.since s.lastClk d.sessTo then d.closeSession slot 1 true else d
  | none => d

/-! ### HELLO (R573) -/

/-- R573: the bytes of a HELLO. -/
def Dev.helloMsg (d : Dev) : List Byte :=
  let mask := d.host.sess.foldl (fun n e => setBit n e.1) 0
  unqueued 0x0FC0 0 .ok 0 (le 4 Config.serial.toNat ++ le 1 (d.fld R.LINE_GSTAT F.LINE_GSTAT.ROLE) ++ le 1 d.secState ++ le 1 d.pstate ++
    le 1 mask ++ le 4 (d.reg R.FAB_IMG_ID).toNat ++ le 4 (d.reg R.FAB_IMG_VER).toNat ++ d.regBytes R.FAB_IMG_HASH 4)

/-- The IPv4 address in force of a host port. -/
def Dev.ip4 (d : Dev) (p : Nat) : Nat := (tget d.host.inForce (R.HOST_P_IP4 p).addr 0).toNat

/-- The global IPv6 address in force of a host port, its first byte in the highest place. -/
def Dev.ip6 (d : Dev) (p : Nat) : Nat :=
  let b := (List.range 4).flatMap (fun k => le 4 (tget d.host.inForce (R.HOST_P_IP6 p k).addr 0).toNat)
  b.foldl (fun n c => n * 256 + c.toNat) 0

/-- R565: the link-local IPv6 address of a host port, from its MAC address. -/
def linkLocal (p : Nat) : Nat :=
  let mac := (Config.mac p).toNat
  let hi := mac / 2 ^ 24
  let eui := (hi ^^^ 0x020000) * 2 ^ 40 + 0xFFFE * 2 ^ 24 + mac % 2 ^ 24
  0xFE80 * 2 ^ 112 + eui

/-- HOST_HELLO (R573): each HELLOPER while no session is controlling, on each host port whose link is up; after a
reset from the moment the ports are up (R585). -/
def Dev.hello (d : Dev) : Dev :=
  let due := match d.host.helloClk with
    | some c => d.since c (d.fld R.HOST_CFG F.HOST_CFG.HELLOPER * clksOfMs 100)
    | none => true
  if d.ctlSlot.isSome || !due || !(d.hostLink 0 || d.hostLink 1) then d
  else
    let udp := d.fld R.HOST_CFG2 F.HOST_CFG2.HELLOPORT
    let d1 := d.each [0, 1] (fun d p =>
      let d0 := if d.ip4 p != 0 then d.hostOut { port := p, addr := 0xFFFFFFFF, udp := udp } d.helloMsg else d
      d0.hostOut { port := p, addr := 0xFF02 * 2 ^ 112 + 1, udp := udp } d.helloMsg)
    d1.noCtl

/-! ### Links and neighbours (R565, R573, R587, R652) -/

/-- HOST_LINK_UP (R573, R652): the link of a port whose module is accepted. -/
def Dev.hostUp (d : Dev) (p : Nat) : Dev :=
  if bitAt (d.fld R.SYS_ENV_STAT F.SYS_ENV_STAT.SFPOK) p then
    d.setFld R.HOST_STAT (if p == 0 then F.HOST_STAT.LINK2 else F.HOST_STAT.LINK3) 1
  else d

/-- HOST_LINK_DOWN (R587). -/
def Dev.hostDown (d : Dev) (p : Nat) : Dev := d.setFld R.HOST_STAT (if p == 0 then F.HOST_STAT.LINK2 else F.HOST_STAT.LINK3) 0

/-- SFP_REMOVED (R652): a loss of link; on X4 no frame of the peer is heard any more. -/
def Dev.sfpRemoved (d : Dev) (c : Nat) : Dev :=
  let d1 := d.setFld R.SYS_ENV_STAT F.SYS_ENV_STAT.SFPOK (clrBit (d.fld R.SYS_ENV_STAT F.SYS_ENV_STAT.SFPOK) c)
  if c < 2 then d1.hostDown c else d1.setDuo { d1.duo with heardClk := none }

/-- R565: an address is one of a host port's. -/
def Dev.ownAddr (d : Dev) (p : Nat) (v6 : Bool) (addr : Nat) : Bool :=
  if v6 then addr == linkLocal p || (addr != 0 && addr == d.ip6 p) else addr != 0 && addr == d.ip4 p

/-- ARP_REQUEST (R565): an ARP request (or, with `v6`, a solicitation) for an address of the port is answered with its MAC address. -/
def Dev.arp (d : Dev) (p : Nat) (v6 : Bool) (addr : Nat) : Dev :=
  if d.hostLink p && d.ownAddr p v6 addr then d.emit (.net p (if v6 then 3 else 2) (le 6 (Config.mac p).toNat).reverse) else d

/-- ICMP_ECHO (R565): an echo request to an address of the port is answered with its data. -/
def Dev.echo (d : Dev) (p : Nat) (v6 : Bool) (addr : Nat) (data : List Byte) : Dev :=
  if d.hostLink p && d.ownAddr p v6 addr then d.emit (.net p (if v6 then 5 else 4) data) else d

end Sys2Proof.Machine
end

