-- ==== Sys2Proof/Machine/HostMsg.lean ====
section
/-! DEFINITION. Queued messages of the host interface (spec/19_host_interface.md R566 to R569, R575, R576, R579 to R582; R595 to R602): what
each does, who may send it, the taking of a datagram and the service of the command queues. Every message answers with a status and the bytes
of its answer from offset 16 on. -/

namespace Sys2Proof.Machine

open Sys2Proof

/-- What a message answers: the device after it, the status, and the bytes from offset 16 on. -/
abbrev Answer := Dev × Status × List Byte

/-! ### Register messages (R579) -/

/-- R579: consecutive registers are read until one fails: the words read, and the code of the one that failed. -/
def Dev.readRun (d : Dev) (ses addr : Nat) : Nat → Dev × Status × List Word
  | 0 => (d, .ok, [])
  | n + 1 =>
    match d.readAddr ses addr with
    | (d1, .ok, w) =>
      let (d2, st, ws) := d1.readRun ses (addr + 4) n
      (d2, st, w :: ws)
    | (d1, st, _) => (d1, st, [])

/-- R579, R661: consecutive registers are written until one fails: the code and the count completed. -/
def Dev.writeRun (d : Dev) (ses addr : Nat) : List Word → Dev × Status × Nat
  | [] => (d, .ok, 0)
  | w :: rest =>
    match d.writeAddr ses addr w with
    | (d1, .ok) =>
      let (d2, st, n) := d1.writeRun ses (addr + 4) rest
      (d2, st, n + 1)
    | (d1, st) => (d1, st, 0)

/-- The units that a number of words takes after the first unit. -/
def wordUnits (n : Nat) : Nat := (n + 15) / 16

/-- REG_READ (R579). -/
def Dev.regReadMsg (d : Dev) (ses : Nat) (m : List Byte) : Answer :=
  let addr := uAt m 16 4
  let n := uAt m 20 2
  let st := lowest [need (n != 0 && decide (n ≤ 128)) .badLen, need (addr % 4 == 0) .badArg]
  if st != .ok then (d, st, le 4 addr)
  else
    let (d1, st1, ws) := d.readRun ses addr n
    (d1, st1, le 4 addr ++ le 2 ws.length ++ le 42 0 ++ slice (ws.flatMap (fun w => le 4 w.toNat)) 0 (64 * wordUnits n))

/-- REG_WRITE (R579). -/
def Dev.regWriteMsg (d : Dev) (ses : Nat) (m : List Byte) : Answer :=
  let addr := uAt m 16 4
  let n := uAt m 20 2
  let st := lowest [need (n != 0 && decide (n ≤ 128) && uAt m 2 1 == 1 + wordUnits n) .badLen, need (addr % 4 == 0) .badArg]
  if st != .ok then (d, st, le 4 addr)
  else
    let (d1, st1, k) := d.writeRun ses addr ((List.range n).map (fun i => wN (uAt m (64 + 4 * i) 4)))
    (d1, st1, le 4 addr ++ le 2 k)

/-- R579: the bits that REG_RMW may touch: those of RW fields, and of RWL fields before commit. -/
def Dev.rmwBits (d : Dev) (x : RegInfo) : Word :=
  x.flds.foldl (fun w f => if f.acc == .rw || (f.acc == .rwl && !d.commit) then w ||| BitVec.ofNat 32 (maskF f.hi f.lo) else w) 0

/-- REG_RMW (R579): one access reads and writes; the lowest of all codes that apply is answered (R15). -/
def Dev.regRmwMsg (d : Dev) (ses : Nat) (m : List Byte) : Answer :=
  let addr := uAt m 16 4
  let mask := wN (uAt m 20 4)
  let bits : Word := match regAt addr with
    | some r => d.rmwBits r.name.info
    | none => 0
  let (d1, _, old) := d.readAddr ses addr
  let (d2, st2) := d1.writeAddr ses addr ((old &&& ~~~ mask) ||| (wN (uAt m 24 4) &&& mask))
  let own := lowest [need (addr % 4 == 0) .badArg, need (mask &&& ~~~ bits == 0) .badArg, (d.reach addr).1]
  let st := lowest [own, st2]
  if own != .ok then (d, st, le 4 addr)
  else if st != .ok then (d2, st, le 4 addr)
  else (d2, st, le 4 addr ++ le 4 0 ++ le 4 old.toNat)

/-! ### Bulk window (R581, R582, R597) -/

/-- R582, R597: whether an object exists with an index in a direction. -/
def bulkObj (obj dir index : Nat) : Bool :=
  match obj with
  | 1 => decide (dir ≤ 1) && decide (index ≤ 1)
  | 2 => dir == 1 && decide (index ≤ 7)
  | 3 => dir == 0
  | 4 => dir == 0 && decide (index ≤ 1)
  | 5 => dir == 0 && index == 0
  | 6 => dir == 1 && decide (index ≤ 1)
  | _ => false

/-- The bytes of an object to be read, as they stand. -/
def Dev.bulkBytes (d : Dev) (obj index : Nat) : List Byte :=
  match obj with
  | 1 => d.slotBytes index
  | 3 => match d.readable index with
    | some r => r.bytes
    | none => []
  | 4 => Config.attestCert index
  | _ => d.sec.log.flatMap MeasRec.bytes

/-- R582: a handle of any session stands on an image slot. -/
def Dev.slotOpen (d : Dev) (slot : Nat) : Bool := d.host.sess.any (fun e => e.2.handles.any (fun h => h.2.obj == 1 && h.2.index == slot))

/-- The lowest free handle of a session (R581). -/
def Session.freeHandle (s : Session) : Option Nat := [0, 1, 2, 3].find? (fun k => (tget? s.handles k).isNone)

/-- R581, R582, R597, R602: the checks of a BULK_OPEN. -/
def Dev.bulkOpenChecks (d : Dev) (s : Session) (m : List Byte) : List Status :=
  let obj := uAt m 16 1
  let dir := uAt m 17 1
  let ix := uAt m 18 2
  let len := uAt m 20 4
  [need (bulkObj obj dir ix) .badArg, need (dir != 1 || len != 0) .badLen, need (dir != 0 || len == 0) .badLen,
    need s.freeHandle.isSome .noSpace,
    need (!(obj == 1 && dir == 1) || (len % 64 == 0 && decide (len ≤ 100663296))) .badLen,
    need (!(obj == 1 && dir == 1) || !d.slotActive ix) .denied,
    need (obj != 1 || (!d.slotOpen ix && (dir == 0 || d.jobSlot != some ix))) .busy,
    need (obj != 2 || len == 8192) .badLen, need ((obj != 2 && obj != 3) || d.blkOn .cap) .notReady,
    need (obj != 3 || (d.readable ix).isSome) .notReady, need (obj != 6 || d.secState != 1) .denied]

/-- BULK_OPEN (R581, R582, R597, R602). -/
def Dev.bulkOpenMsg (d : Dev) (ses : Nat) (m : List Byte) : Answer :=
  let obj := uAt m 16 1
  let dir := uAt m 17 1
  let ix := uAt m 18 2
  let len := uAt m 20 4
  match d.sess? ses with
  | none => (d, .denied, [])
  | some s =>
    let st := lowest (d.bulkOpenChecks s m)
    if st != .ok then (d, st, [])
    else
      let k := s.freeHandle.getD 0
      let data := if dir == 0 then d.bulkBytes obj ix else []
      let size := if dir == 0 then data.length else len
      let d1 := if obj == 1 && dir == 1 then d.putSlot ix [] else d
      (d1.setHandle ses k { obj := obj, dir := dir, index := ix, len := size, lastUse := d.clk, erasing := obj == 1 && dir == 1, buf := data },
        .ok, le 1 k ++ le 3 0 ++ le 4 size)

/-- R581: the checks of a LEN: 64 to 8,192 in steps of 64. -/
def lenChecks (len : Nat) : List Status := [need (len != 0 && len % 64 == 0 && decide (len ≤ 8192)) .badLen]

/-- R119, R581, R602: the checks of a BULK_WRITE into a handle. -/
def Dev.bulkWriteChecks (d : Dev) (x : Handle) (m : List Byte) : List Status :=
  let ofs := uAt m 20 4
  let len := uAt m 24 4
  lenChecks len ++ [need (uAt m 2 1 == 1 + len / 64) .badLen, need (x.dir == 1) .badArg, need (decide (ofs + len ≤ x.len)) .badArg,
      need ((x.obj != 1 || !d.slotActive x.index) && (x.obj != 6 || d.secState != 1)) .denied, need (!x.erasing && (x.obj != 1 || d.jobSlot != some x.index)) .busy,
      need (ofs == x.written) .conflict]

/-- BULK_WRITE (R119, R581, R582, R602). -/
def Dev.bulkWriteMsg (d : Dev) (ses : Nat) (m : List Byte) : Answer :=
  let k := uAt m 16 1
  let ofs := uAt m 20 4
  let len := uAt m 24 4
  let body := le 1 k ++ le 3 0 ++ le 4 ofs
  match d.handle? ses k with
  | none => (d, lowest (.badArg :: lenChecks len), body)
  | some x =>
    let st := lowest (d.bulkWriteChecks x m)
    if st != .ok then (d.setHandle ses k { x with lastUse := d.clk }, st, body)
    else
      let data := slice m 64 len
      let y := { x with lastUse := d.clk, written := x.written + len }
      if x.obj == 1 then
        let old := d.slotBytes x.index
        let d1 := d.putSlot x.index (old.take ofs ++ List.replicate (ofs - old.length) 0xFF#8 ++ data)
        (d1.setHandle ses k y, st, body)
      else (d.setHandle ses k { y with buf := x.buf ++ data }, st, body)

/-- BULK_READ (R581): bytes beyond SIZE read as 0. A record of STREAM has been read once its last bytes have been returned (R508). -/
def Dev.bulkReadMsg (d : Dev) (ses : Nat) (m : List Byte) : Answer :=
  let k := uAt m 16 1
  let ofs := uAt m 20 4
  let len := uAt m 24 4
  let head := le 1 k ++ le 3 0 ++ le 4 ofs
  match d.handle? ses k with
  | none => (d, lowest (.badArg :: lenChecks len), head)
  | some x =>
    let st := lowest (need (x.dir == 0) .badArg :: lenChecks len)
    let d1 := d.setHandle ses k { x with lastUse := d.clk }
    if st != .ok then (d1, st, head)
    else
      let done := x.obj == 3 && decide (x.len ≤ ofs + len) && !d.cap.read.contains x.index
      let d2 := if done then d1.setCap { d1.cap with read := d1.cap.read ++ [x.index] } else d1
      (d2, st, head ++ le 4 len ++ le 36 0 ++ slice x.buf ofs len)

/-- BULK_CLOSE (R581). -/
def Dev.bulkCloseMsg (d : Dev) (ses : Nat) (m : List Byte) : Answer :=
  let k := uAt m 16 1
  let (d1, st) := d.closeHandle ses k
  (d1, st, le 1 k)

/-- IMAGE_ERASE_DONE (R582). -/
def Dev.eraseDone (d : Dev) (slot : Nat) : Dev :=
  { d with host := { d.host with sess := d.host.sess.map (fun e => (e.1, { e.2 with
      handles := e.2.handles.map (fun h => (h.1, if h.2.obj == 1 && h.2.index == slot then { h.2 with erasing := false } else h.2)) })) } }

/-- BULK_IDLE_TIMEOUT (R581): a handle unused for 60 s. -/
def Dev.bulkIdle (d : Dev) (slot h : Nat) : Dev :=
  match d.handle? slot h with
  | some x => if d.since x.lastUse (60 * fabHz) then (d.closeHandle slot h).1 else d
  | none => d

/-! ### Message types (R569) -/

/-- The unqueued types. -/
def isUnqueued (t : Nat) : Bool := decide (0x0F01 ≤ t) && decide (t ≤ 0x0F07)

/-- The queued types with the units that their definitions give them; 0 for a type of variable length. -/
def queuedUnits (t : Nat) : Option Nat :=
  match t with
  | 0x0701 => some 2
  | 0x0801 => some 3
  | 0x0802 | 0x0803 | 0x0804 | 0x0805 | 0x0806 => some 1
  | 0x0B01 => some 2
  | 0x0B02 => some 1
  | 0x0F10 | 0x0F12 | 0x0F20 | 0x0F22 | 0x0F23 => some 1
  | 0x0F11 | 0x0F21 => some 0
  | 0x0F30 | 0x0F31 | 0x0F33 => some 1
  | 0x0F32 => some 5
  | 0x0F35 => some 2
  | _ => none

/-- R547, R571: the queued messages that only read. -/
def readsOnly (t : Nat) (m : List Byte) : Bool :=
  t == 0x0F10 || (t == 0x0F20 && uAt m 17 1 == 0) || t == 0x0F22 || t == 0x0F23 || t == 0x0806 || t == 0x0F30

/-- R579: the block that a message needs. -/
def msgBlk (t : Nat) : Option Blk :=
  match t / 256 with
  | 7 => some .arm
  | 8 => some .tall
  | 11 => some .can
  | _ => none

/-- What a message does by its type. -/
def Dev.runMsg (d : Dev) (ses : Nat) (m : List Byte) : Answer :=
  match uAt m 0 2 with
  | 0x0701 => d.armSegMsg m
  | 0x0801 => d.itemAddMsg m
  | 0x0802 => d.actArmMsg m
  | 0x0803 => d.actCancelMsg m
  | 0x0804 => d.itemRemoveMsg m
  | 0x0805 => d.itemShiftMsg m
  | 0x0806 => d.itemReadMsg m
  | 0x0B01 => d.canTxMsg m
  | 0x0B02 => d.canCancelMsg m
  | 0x0F10 => d.regReadMsg ses m
  | 0x0F11 => d.regWriteMsg ses m
  | 0x0F12 => d.regRmwMsg ses m
  | 0x0F20 => d.bulkOpenMsg ses m
  | 0x0F21 => d.bulkWriteMsg ses m
  | 0x0F22 => d.bulkReadMsg ses m
  | 0x0F23 => d.bulkCloseMsg ses m
  | 0x0F30 => (({ d with fresh := d.fresh + 1 } : Dev).inc R.SEC_CNT_QUOTE, .ok, d.quoteBody (slice m 16 32))
  | 0x0F31 => d.secChalMsg
  | 0x0F32 => d.secTokenMsg (d.isCtl ses) m
  | 0x0F33 => d.ownerSetMsg m
  | 0x0F35 => d.msExtendMsg m
  | _ => (d, .unsupported, [])

/-- R15, R547, R557, R571, R579: what refuses a message before it is looked at: the role of its session, the standby, a handover, a block
that is off. A token is refused by its own checks (R601). -/
def Dev.msgGate (d : Dev) (ses : Nat) (m : List Byte) : Status :=
  let t := uAt m 0 2
  let rw := t == 0x0F11 || t == 0x0F12
  lowest [need (d.isCtl ses || readsOnly t m || t == 0x0F32) .denied, need (!d.isStandby || readsOnly t m || rw) .denied,
    need (!d.handingOver) .busy, need ((msgBlk t).all (fun b => d.blkOn b)) .notReady]

/-- R15, R569: a message is executed: a length that its type does not define is BADLEN; of several reasons for a refusal the lowest code is
answered, and a refused message has no effect. -/
def Dev.execMsg (d : Dev) (ses : Nat) (m : List Byte) : Answer :=
  let units := (queuedUnits (uAt m 0 2)).getD 0
  if units != 0 && uAt m 2 1 != units then (d, .badLen, [])
  else
    let gate := d.msgGate ses m
    let (d1, st, body) := d.runMsg ses m
    if gate = .ok then (d1, st, body)
    else
      let st1 := lowest [gate, st]
      (d, st1, if st1 = st then body else [])

/-! ### Service of a command queue (R576) -/

/-- R335, R363, R546: an answer is tied to mirroring: it reports a change of an arm's queue or of the Tallboy, and the standby is READY. -/
def Dev.tied (d : Dev) (t : Nat) (st : Status) : Bool :=
  (t == 0x0701 || (t / 256 == 8 && t != 0x0806)) && st == .ok && d.fld R.LINE_GSTAT F.LINE_GSTAT.ROLE == 1 && d.mstate == 2 && !d.duo.standbyLost

/-- R576: the next message of a command queue is executed, if the answer of the previous one has been placed and the response queue has free
entries for the whole answer. The answer of a quote waits for its signature (R596), one tied to mirroring for the standby (R546). -/
def Dev.serve (d : Dev) (q : Nat) : Dev :=
  match d.queue? q with
  | none => d
  | some x =>
    match x.stored with
    | [] => d
    | m :: _ =>
      if x.wait.isSome then d
      else
        let t := uAt m 0 2
        let (d1, st, body) := d.execMsg x.slot m
        let room := match d.queue? x.respQ with
          | some r => decide ((16 + body.length + 63) / 64 ≤ r.freeEntries)
          | none => false
        if !room then d
        else
          let quote := t == 0x0F30 && st == .ok
          let held : Held := { quote := quote, tick := d.time.tick, clk := d.clk, typ := t, status := st.code, ref := uAt m 8 4, body := body }
          if quote || d1.tied t st then
            match d1.queue? q with
            | some y => d1.setQueue q { y with wait := some held }
            | none => d1
          else d1.finishMsg q t st.code (uAt m 8 4) body

/-- QUOTE_COMPLETE (R596): the signature is complete. -/
def Dev.quoteDone (d : Dev) (q : Nat) : Dev :=
  match (d.queue? q).bind (·.wait) with
  | some w => if w.quote then d.placeWait q else d
  | none => d

/-- R546: the answers that waited for the standby's acknowledgement of their tick, or all of them when it is lost. -/
def Dev.releaseAnswers (d : Dev) (all : Bool) : Dev :=
  let acked (t : Nat) : Bool := all || (match d.duo.acked with
    | some a => decide (t ≤ a)
    | none => false)
  d.each (d.host.queues.map (·.1)) (fun d q => match (d.queue? q).bind (·.wait) with
    | some w => if !w.quote && acked w.tick then d.placeWait q else d
    | none => d)

/-! ### The taking of a datagram (R566, R568, R575) -/

/-- R575: a queued message of a session takes its place in its queue, or is rejected. -/
def Dev.storeMsg (d : Dev) (src : Peer) (slot q : Nat) (m : List Byte) : Dev :=
  match d.queue? q with
  | none => d
  | some x =>
    let qpos := uAt m 8 4
    let units := uAt m 2 1
    let diff := tsDiff (wN qpos) (wN x.pos)
    if diff == 0 then
      let free := x.depth - (x.pos + 2 ^ 32 - x.ack) % 2 ^ 32
      if units ≤ free then d.setQueue q { x with stored := x.stored ++ [m], pos := (x.pos + units) % 2 ^ 32 }
      else d.reject src m .noSpace x.pos (some slot) (some q)
    else if 0 < diff then d.reject src m .conflict x.pos (some slot) (some q)
    else if x.stored.any (fun a => uAt a 8 4 == qpos) then d.bump (R.HOST_Q_CNT q) F.HOST_Q_CNT.DUP 1
    else match x.log.find? (fun e => e.1 == qpos) with
      | some (_, ans) => d.hostOut src (splice ans 7 (le 1 (if bitAt (uAt ans 7 1) 0 then uAt ans 7 1 else uAt ans 7 1 + 1)))
      | none => d.reject src m .stale x.pos (some slot) (some q)

/-- What an unqueued message of a session does. -/
def Dev.unqueuedMsg (d : Dev) (src : Peer) (slot : Nat) (m : List Byte) : Dev :=
  match uAt m 0 2 with
  | 0x0F02 => d.sessClose src slot m
  | 0x0F03 => d.sessCtl src slot m
  | 0x0F04 => d.queueOpen src slot m
  | 0x0F05 => d.queueClose src slot m
  | 0x0F06 => d.hostAck slot m
  | _ => d.evtSub src slot m

/-- R570: a session's valid datagram: its address and its clock. -/
def Dev.touch (d : Dev) (slot : Nat) (src : Peer) : Dev :=
  match d.sess? slot with
  | some s => d.setSess slot { s with peer := src, lastClk := d.clk }
  | none => d

/-- R568, R569: one whole message: taken, or answered with the code that rejects its header; the answer says whether parsing goes on. -/
def Dev.takeMsg (d : Dev) (src : Peer) (left : Nat) (m : List Byte) : Dev × Bool :=
  let t := uAt m 0 2
  let units := uAt m 2 1
  let q := uAt m 3 1
  let queued := (queuedUnits t).isSome
  -- R583: a session that expires in this clock closes first
  let d0 := match d.slotOfId (uAt m 4 2) with
    | some k => if t == 0x0F01 then d else d.sessTimeout k
    | none => d
  let slot := if t == 0x0F01 then none else d0.slotOfId (uAt m 4 2)
  let st := lowest [need (units != 0 && decide (64 * units ≤ left)) .badLen, need (queued || isUnqueued t) .unsupported,
    need (slot.isSome || t == 0x0F01) .notReady,
    need (!queued || slot.isNone || (decide (q < 64) && (d0.queue? q).any (fun x => some x.slot == slot))) .denied]
  if st != .ok then (d0.reject src m st (match d0.queue? q with | some x => x.pos | none => 0) slot none, false)
  else match slot with
    | none => (if units == 1 then d0.sessOpen src m else d0.answerTo src m .badLen [], true)
    | some k =>
      let d1 := d0.touch k src
      if queued then (d1.storeMsg src k q m, true)
      else if units != 1 then (d1.answerTo src m .badLen [], true)
      else (d1.unqueuedMsg src k m, true)

/-- R566: the messages of a datagram in order. -/
def Dev.takeAll (d : Dev) (src : Peer) : Nat → List Byte → Dev
  | 0, _ => d
  | _ + 1, [] => d
  | fuel + 1, b =>
    let n := 64 * uAt b 2 1
    match d.takeMsg src b.length (if n ≤ b.length then b.take (max n 64) else b) with
    | (d1, true) => d1.takeAll src fuel (b.drop n)
    | (d1, false) => d1

/-- SAPEX_DATAGRAM (R566). A payload beyond the MTU comes fragmented and is discarded (R565). -/
def Dev.datagram (d : Dev) (src : Peer) (b : List Byte) : Dev :=
  if !d.hostLink src.port || !d.fitsPath src.addr b.length then d
  else if b.isEmpty || b.length % 64 != 0 then d.inc (R.HOST_P_CNT_DROP src.port)
  else (d.inc (R.HOST_P_CNT_RX src.port)).takeAll src 140 b

/-- A sender as a peer. -/
def peerOf (src : Nat × Nat × Nat) : Peer := { port := src.1 % 2, addr := src.2.1, udp := src.2.2 }

/-- A row of an unqueued message: it arrives, a datagram of its own. A message of another type is none of the row's. -/
def Dev.unqueuedRow (d : Dev) (typ : Nat) (op : Option Nat) (src : Nat × Nat × Nat) (m : List Byte) : Dev :=
  if uAt m 0 2 == typ && (match op with | some k => uAt m 16 1 == k | none => true) then d.datagram (peerOf src) m else d

/-- The message stands first in its command queue. -/
def Dev.isHead (d : Dev) (m : List Byte) : Bool :=
  match d.queue? (uAt m 3 1) with
  | some x => x.stored.head? == some m && x.wait.isNone
  | none => false

/-- A row of a queued message: the queue that holds it first is served. One that is not stored arrives first, a datagram of its own. -/
def Dev.queuedRow (d : Dev) (typ : Nat) (src : Nat × Nat × Nat) (m : List Byte) : Dev :=
  if uAt m 0 2 != typ then d
  else
    let q := uAt m 3 1
    if d.isHead m then d.serve q
    else
      let d1 := d.datagram (peerOf src) m
      if d1.isHead m then d1.serve q else d1

end Sys2Proof.Machine
end

