-- ==== Sys2Proof/Machine/HostCmd.lean ====
section
/-! DEFINITION. The commands of the host interface (spec/19_host_interface.md): datagrams, messages, timeouts, links and neighbours. A row
of a queued message serves the queue in which the message stands first (R576); one that is not stored yet arrives first. -/

namespace Sys2Proof.Machine

open Sys2Proof

/-- SAPEX_DATAGRAM (R566). -/
def execSapexDatagram (src : Nat × Nat × Nat) (m : List (BitVec 8)) (s : State) : Host.Outcome State Fault Refusal :=
  s.run (fun d => d.datagram (peerOf src) m)

/-- SESS_OPEN (R570). -/
def execSessOpen (src : Nat × Nat × Nat) (m : List (BitVec 8)) (s : State) : Host.Outcome State Fault Refusal :=
  s.run (fun d => d.unqueuedRow 0x0F01 none src m)

/-- SESS_CLOSE (R572). -/
def execSessClose (src : Nat × Nat × Nat) (m : List (BitVec 8)) (s : State) : Host.Outcome State Fault Refusal :=
  s.run (fun d => d.unqueuedRow 0x0F02 none src m)

/-- KEEPALIVE (R572). -/
def execKeepalive (src : Nat × Nat × Nat) (m : List (BitVec 8)) (s : State) : Host.Outcome State Fault Refusal :=
  s.run (fun d => d.unqueuedRow 0x0F03 (some 0) src m)

/-- CLAIM (R571). -/
def execClaim (src : Nat × Nat × Nat) (m : List (BitVec 8)) (s : State) : Host.Outcome State Fault Refusal :=
  s.run (fun d => d.unqueuedRow 0x0F03 (some 1) src m)

/-- RELEASE (R571). -/
def execRelease (src : Nat × Nat × Nat) (m : List (BitVec 8)) (s : State) : Host.Outcome State Fault Refusal :=
  s.run (fun d => d.unqueuedRow 0x0F03 (some 2) src m)

/-- FORCE (R571). -/
def execForce (src : Nat × Nat × Nat) (m : List (BitVec 8)) (s : State) : Host.Outcome State Fault Refusal :=
  s.run (fun d => d.unqueuedRow 0x0F03 (some 3) src m)

/-- QUEUE_OPEN (R574). -/
def execQueueOpen (src : Nat × Nat × Nat) (m : List (BitVec 8)) (s : State) : Host.Outcome State Fault Refusal :=
  s.run (fun d => d.unqueuedRow 0x0F04 none src m)

/-- QUEUE_CLOSE (R574). -/
def execQueueClose (src : Nat × Nat × Nat) (m : List (BitVec 8)) (s : State) : Host.Outcome State Fault Refusal :=
  s.run (fun d => d.unqueuedRow 0x0F05 none src m)

/-- HOST_ACK (R577). -/
def execHostAck (src : Nat × Nat × Nat) (m : List (BitVec 8)) (s : State) : Host.Outcome State Fault Refusal :=
  s.run (fun d => d.unqueuedRow 0x0F06 none src m)

/-- EVT_SUB (R578). -/
def execEvtSub (src : Nat × Nat × Nat) (m : List (BitVec 8)) (s : State) : Host.Outcome State Fault Refusal :=
  s.run (fun d => d.unqueuedRow 0x0F07 none src m)

/-- REG_READ (R579). -/
def execRegRead (src : Nat × Nat × Nat) (m : List (BitVec 8)) (s : State) : Host.Outcome State Fault Refusal :=
  s.run (fun d => d.queuedRow 0x0F10 src m)

/-- REG_WRITE (R579). -/
def execRegWrite (src : Nat × Nat × Nat) (m : List (BitVec 8)) (s : State) : Host.Outcome State Fault Refusal :=
  s.run (fun d => d.queuedRow 0x0F11 src m)

/-- REG_RMW (R579). -/
def execRegRmw (src : Nat × Nat × Nat) (m : List (BitVec 8)) (s : State) : Host.Outcome State Fault Refusal :=
  s.run (fun d => d.queuedRow 0x0F12 src m)

/-- BULK_OPEN (R581). -/
def execBulkOpen (src : Nat × Nat × Nat) (m : List (BitVec 8)) (s : State) : Host.Outcome State Fault Refusal :=
  s.run (fun d => d.queuedRow 0x0F20 src m)

/-- BULK_WRITE (R581). -/
def execBulkWrite (src : Nat × Nat × Nat) (m : List (BitVec 8)) (s : State) : Host.Outcome State Fault Refusal :=
  s.run (fun d => d.queuedRow 0x0F21 src m)

/-- BULK_READ (R581). -/
def execBulkRead (src : Nat × Nat × Nat) (m : List (BitVec 8)) (s : State) : Host.Outcome State Fault Refusal :=
  s.run (fun d => d.queuedRow 0x0F22 src m)

/-- BULK_CLOSE (R581). -/
def execBulkClose (src : Nat × Nat × Nat) (m : List (BitVec 8)) (s : State) : Host.Outcome State Fault Refusal :=
  s.run (fun d => d.queuedRow 0x0F23 src m)

/-- ARM_SEG (R336). -/
def execArmSeg (src : Nat × Nat × Nat) (m : List (BitVec 8)) (s : State) : Host.Outcome State Fault Refusal :=
  s.run (fun d => d.queuedRow 0x0701 src m)

/-- ITEM_ADD (R367). -/
def execItemAdd (src : Nat × Nat × Nat) (m : List (BitVec 8)) (s : State) : Host.Outcome State Fault Refusal :=
  s.run (fun d => d.queuedRow 0x0801 src m)

/-- ACT_ARM (R368). -/
def execActArm (src : Nat × Nat × Nat) (m : List (BitVec 8)) (s : State) : Host.Outcome State Fault Refusal :=
  s.run (fun d => d.queuedRow 0x0802 src m)

/-- ACT_CANCEL (R369). -/
def execActCancel (src : Nat × Nat × Nat) (m : List (BitVec 8)) (s : State) : Host.Outcome State Fault Refusal :=
  s.run (fun d => d.queuedRow 0x0803 src m)

/-- ITEM_REMOVE (R369). -/
def execItemRemove (src : Nat × Nat × Nat) (m : List (BitVec 8)) (s : State) : Host.Outcome State Fault Refusal :=
  s.run (fun d => d.queuedRow 0x0804 src m)

/-- ITEM_SHIFT (R369). -/
def execItemShift (src : Nat × Nat × Nat) (m : List (BitVec 8)) (s : State) : Host.Outcome State Fault Refusal :=
  s.run (fun d => d.queuedRow 0x0805 src m)

/-- ITEM_READ (R363). -/
def execItemRead (src : Nat × Nat × Nat) (m : List (BitVec 8)) (s : State) : Host.Outcome State Fault Refusal :=
  s.run (fun d => d.queuedRow 0x0806 src m)

/-- CAN_TX (R486). -/
def execCanTx (src : Nat × Nat × Nat) (m : List (BitVec 8)) (s : State) : Host.Outcome State Fault Refusal :=
  s.run (fun d => d.queuedRow 0x0B01 src m)

/-- CAN_CANCEL (R488). -/
def execCanCancel (src : Nat × Nat × Nat) (m : List (BitVec 8)) (s : State) : Host.Outcome State Fault Refusal :=
  s.run (fun d => d.queuedRow 0x0B02 src m)

/-- QUOTE (R596). -/
def execQuote (src : Nat × Nat × Nat) (m : List (BitVec 8)) (s : State) : Host.Outcome State Fault Refusal :=
  s.run (fun d => d.queuedRow 0x0F30 src m)

/-- SEC_CHAL (R600). -/
def execSecChal (src : Nat × Nat × Nat) (m : List (BitVec 8)) (s : State) : Host.Outcome State Fault Refusal :=
  s.run (fun d => d.queuedRow 0x0F31 src m)

/-- SEC_TOKEN (R601). -/
def execSecToken (src : Nat × Nat × Nat) (m : List (BitVec 8)) (s : State) : Host.Outcome State Fault Refusal :=
  s.run (fun d => d.queuedRow 0x0F32 src m)

/-- OWNER_SET (R598). -/
def execOwnerSet (src : Nat × Nat × Nat) (m : List (BitVec 8)) (s : State) : Host.Outcome State Fault Refusal :=
  s.run (fun d => d.queuedRow 0x0F33 src m)

/-- MS_EXTEND (R595). -/
def execMsExtend (src : Nat × Nat × Nat) (m : List (BitVec 8)) (s : State) : Host.Outcome State Fault Refusal :=
  s.run (fun d => d.queuedRow 0x0F35 src m)

/-- SESSION_TIMEOUT (R572). -/
def execSessionTimeout (slot : Nat) (s : State) : Host.Outcome State Fault Refusal :=
  s.runIf (decide (slot < 4)) (fun d => d.sessTimeout slot)

/-- HOST_HELLO (R573). -/
def execHostHello (s : State) : Host.Outcome State Fault Refusal :=
  s.run (fun d => d.hello)

/-- ACK_TIMEOUT (R577). -/
def execAckTimeout (q : Nat) (s : State) : Host.Outcome State Fault Refusal :=
  s.runIf (decide (q < 128)) (fun d => d.ackTimeout q)

/-- IMAGE_ERASE_DONE (R582). -/
def execImageEraseDone (slot : Nat) (s : State) : Host.Outcome State Fault Refusal :=
  s.runIf (decide (slot < 2)) (fun d => d.eraseDone slot)

/-- BULK_IDLE_TIMEOUT (R581). -/
def execBulkIdleTimeout (slot h : Nat) (s : State) : Host.Outcome State Fault Refusal :=
  s.runIf (decide (slot < 4)) (fun d => d.bulkIdle slot h)

/-- QUOTE_COMPLETE (R596). -/
def execQuoteComplete (q : Nat) (s : State) : Host.Outcome State Fault Refusal :=
  s.runIf (decide (q < 128)) (fun d => d.quoteDone q)

/-- HOST_LINK_UP (R573). -/
def execHostLinkUp (p : Nat) (s : State) : Host.Outcome State Fault Refusal :=
  s.runIf (decide (p < 2)) (fun d => d.hostUp p)

/-- HOST_LINK_DOWN (R587). -/
def execHostLinkDown (p : Nat) (s : State) : Host.Outcome State Fault Refusal :=
  s.runIf (decide (p < 2)) (fun d => d.hostDown p)

/-- ARP_REQUEST (R565). -/
def execArpRequest (p : Nat) (v6 : Bool) (addr : Nat) (s : State) : Host.Outcome State Fault Refusal :=
  s.runIf (decide (p < 2)) (fun d => d.arp p v6 addr)

/-- ICMP_ECHO (R565). -/
def execIcmpEcho (p : Nat) (v6 : Bool) (addr : Nat) (data : List (BitVec 8)) (s : State) : Host.Outcome State Fault Refusal :=
  s.runIf (decide (p < 2)) (fun d => d.echo p v6 addr data)

/-- SFP_REMOVED (R652). -/
def execSfpRemoved (c : Nat) (s : State) : Host.Outcome State Fault Refusal :=
  s.runIf (decide (c < 3)) (fun d => d.sfpRemoved c)

end Sys2Proof.Machine
end

