-- ==== Sys2Proof/Machine/Start.lean ====
section
/-! DEFINITION. Resets and the start that follows them (spec/21_start_reset_retention.md R618 to R623, R628 to R630, R635). A reset command
carries out the reset and steps 1 to 6 of R622. -/

namespace Sys2Proof.Machine

open Sys2Proof

/-! ### What a reset keeps (R628 to R630) -/

/-- The fields that show a pin or a link: they follow it again as soon as the reset is released (R108, R251, R587, R603, R655, R658). -/
def pinField (r : Reg) (f : FldInfo) : Bool :=
  (r.name == .PWM_DRV_STAT && f.hi == F.PWM_DRV_STAT.PRESENT.hi) || (r.name == .LINE_STAT && f.hi == F.LINE_STAT.LOS.hi) || (r.name == .SEC_STAT && f.hi == F.SEC_STAT.ATTACH.hi) ||
  (r.name == .SYS_ENV_STAT && (f.hi == F.SYS_ENV_STAT.SFPOK.hi || f.hi == F.SYS_ENV_STAT.FANOK.hi)) ||
  (r.name == .HOST_STAT && (f.hi == F.HOST_STAT.LINK2.hi || f.hi == F.HOST_STAT.LINK3.hi))

/-- R628: the fields that a reset keeps: classes O and N, and class K unless it is a cold or a pin reset (`hard`). -/
def keptReset (hard : Bool) (r : Reg) (f : FldInfo) : Bool :=
  f.cls == .o || f.cls == .n || (!hard && f.cls == .k) || pinField r f

/-- R66: what the time base keeps: TIME_NS restarts at 0 or keeps counting. -/
def Dev.timeKept (d : Dev) (hard : Bool) : TimeSt :=
  let t := d.time
  { tns := if hard then 0 else t.tns, tick := if hard then 0 else t.tick, bootClk := d.clk, winClk := d.clk, ext := t.ext }

/-- R585: what the host interface keeps. -/
def Dev.hostKept (d : Dev) (hard : Bool) : HostSt :=
  if hard then { inForce := d.host.inForce }
  else { d.host with helloClk := none, sess := d.host.sess.map (fun e => (e.1, { e.2 with latch := [], held := [], handles := [] })) }

/-- R597, R603, R605, R630: what the security state keeps: a firmware written before the reset is in force from it on, the debug permission
is gone, SERVICE runs on over a warm or watchdog reset, and only a reset that loses all frees the pins. -/
def Dev.secKept (d : Dev) (hard : Bool) : SecSt :=
  let x := d.sec
  let y : SecSt := { fw := x.fwNext.foldl (fun t e => tset t e.1 e.2) x.fw }
  if hard then y else { y with log := x.log, svcEnd := x.svcEnd, svcScope := x.svcScope, svcTd := x.svcTd, pins := x.pins }

/-- R529, R531: the Bureau keeps its records, its counters and the retired regions. -/
def BureauSt.kept (b : BureauSt) : BureauSt :=
  { b with store := .mram, refused := [], regFail := false, win := [], waiting := [] }

/-- R628 to R630: a reset takes what its kind loses. -/
def Dev.stateLost (d : Dev) (hard : Bool) : Dev :=
  let e := (d.keepFlds (keptReset hard)).blocksLost
  let f : Dev := { e with
    time := d.timeKept hard, host := d.hostKept hard, sec := d.secKept hard, bureau := d.bureau.kept, duo := {}, link := {}, pwr := {}, w1c := (0, []),
    loader := { flash := d.loader.flash, lastGood := d.loader.lastGood },
    sys := { wdClk := d.clk, tempClk := if hard then none else d.sys.tempClk },
    pwm := { sdFrom := d.clk } }
  let g := f.safeBoot
  { g with safe := { g.safe with monitor := g.sec.pins } }

/-! ### Start (R622) -/

/-- R263, R454, R470, R618: from the first clock of a reset no permit is given; the outputs lose their power in a cold reset and hold their
last state in any other. The events of the run that ends are recorded with it. -/
def Dev.runEnds (d : Dev) (kind : Nat) : Dev :=
  let d1 := d.each d.saxes (fun d k => d.setPermit k false)
  let d2 := if kind == 0 then { d1.outputsOff with dio := {} } else d1.dioHold
  let d3 := if d2.sec.open_.isSome then d2.ev 0x1005 3 else d2
  let d4 := d3.flush
  { d4 with dio := { d4.dio with allSafe := false } }

/-- R593: the extends of MS0, MS1 and MS2. -/
def Dev.bootMeasure (d : Dev) : Dev :=
  ((d.extend 0 0 (Config.firmwareDigest 0)).extend 1 0 (tget d.sec.fw 0 (Config.firmwareDigest 1))).extend 2 0
    (tget d.sec.fw 1 (Config.firmwareDigest 2))

/-- R530: the newest 64 records of the MRAM and the last-gasp store are checked; the torn ones are dropped and counted. -/
def Dev.dropTorn (d : Dev) : Dev × Nat :=
  let b := d.bureau
  let k := b.mram.length - 64
  let m := b.mram.take k ++ (b.mram.drop k).filter (·.whole)
  let l := b.lg.filter (·.whole)
  let n := (b.mram.length - m.length) + (b.lg.length - l.length)
  ({ d with bureau := { b with mram := m, lg := l, torn := min (b.torn + n) 0xFFFFFFFF } }, n)

/-- R530, R531, R622: the Bureau starts: EVT_BOOT is recorded before any other record of the run, then what has happened since the reset,
EVT_TORN, and SYS_PF_LAST where `pf` holds PFDONE of a run that ended in a power-fail warning. -/
def Dev.bureauStart (d : Dev) (kind : Nat) (pf : Option Nat) : Dev :=
  let (d1, torn) := d.dropTorn
  let up : Word := match d1.bureau.newest with
    | some r => r.uptime
    | none => 0
  let d2 := d1.setReg R.EVT_BOOTNO (wN (((d1.reg R.EVT_BOOTNO).toNat + 1) % 65536))
  let d3 := (({ d2 with evq := [] } : Dev).ev 0xE101 2 [wN kind, up]).flush
  let d4 : Dev := { d3 with evq := d2.evq }
  let d5 := if torn == 0 then d4 else (d4.setW1c R.EVT_STAT F.EVT_STAT.TORN).ev 0xE107 3 [wN torn]
  match pf with
  | some done => d5.ev 0x0003 5 [wN done]
  | none => d5

/-- R585: over a warm or watchdog reset the executed messages keep their answers, stored ones are answered with ABORTED, and every session
is told. -/
def Dev.hostStart (d : Dev) : Dev :=
  let cmds := (d.host.queues.filter (fun e => decide (e.1 < 64))).map (·.1)
  let d1 := d.each cmds (fun d q =>
    match d.queue? q with
    | none => d
    | some x =>
      let e := match x.wait with
        | some w => if w.quote then d.setQueue q { x with wait := none } else d.finishMsg q w.typ w.status w.ref w.body
        | none => d
      let f := e.abortStored q
      match x.closing with
      | some src => (f.dropQueue q).hostOut src (unqueued 0x0F85 (d.sessIdOf x) .ok 0 (le 1 q))
      | none => f)
  d1.each d1.host.sess (fun d e => d.hostOut e.2.peer (unqueued 0x0FC1 e.2.sessId .ok 0 (le 1 4)))

/-- R618, R637: the reset is recorded and counted. -/
def Dev.resetRecord (d : Dev) (kind : Nat) (pfail : Bool) : Dev :=
  let f := match kind with
    | 0 => F.SYS_RST_CNT.COLD
    | 1 => F.SYS_RST_CNT.PIN
    | 2 => F.SYS_RST_CNT.WARM
    | _ => F.SYS_RST_CNT.WDOG
  ((d.setFld R.SYS_RST_STAT F.SYS_RST_STAT.LASTKIND kind).setFld R.SYS_RST_STAT F.SYS_RST_STAT.PFAIL (if pfail then 1 else 0)).bump
    R.SYS_RST_CNT f 1

/-- R618 to R622: a reset of kind 0 cold, 1 pin, 2 warm or 3 watchdog, and the start up to step 6. Steps 7 to 10 are the loader's
(`Dev.bootCheck`, `Dev.bootArm`), the step window's and the activation's. -/
def Dev.restart (d : Dev) (kind : Nat) : Dev :=
  let hard := decide (kind < 2)
  let pf := if d.bit R.SYS_PF_STAT F.SYS_PF_STAT.PFW then some (d.fld R.SYS_PF_STAT F.SYS_PF_STAT.PFDONE) else none
  let d1 := (((d.runEnds kind).stateLost hard).resetRecord kind d.sys.pfClk.isSome).setFld R.CLK_STAT F.CLK_STAT.PLLLOCK 1
  let d2 := ((d1.refsel.openWindow).bootMeasure).bureauStart kind pf
  let d3 := if hard then d2.endService else d2.hostStart
  d3.carriersRead.showDebug.tryDebug

/-! ### The causes (R618 to R621, R656) -/

/-- R532: the record that the loss of supply cuts off. -/
def Dev.cutRecord (d : Dev) : Dev :=
  match d.bureau.newest with
  | some r => { d with bureau := { d.bureau with
      mram := replaceRec d.bureau.mram r { r with whole := false }, lg := replaceRec d.bureau.lg r { r with whole := false } } }
  | none => d

/-- R620, R635: the watchdog has expired; during the sequence of R624 that is ignored. -/
def Dev.wdExpired (d : Dev) : Bool :=
  d.since d.sys.wdClk (clksOfMs (d.fld R.SYS_WDT_CFG F.SYS_WDT_CFG.TIMEOUT)) &&
  !(d.sys.pfClk.isSome && !d.bit R.SYS_PF_STAT F.SYS_PF_STAT.PFDONE)

/-- R619, R621: an accepted request has waited for 10 ms. -/
def Dev.warmDue (d : Dev) : Bool :=
  match d.sys.resetDue with
  | some c => decide (c ≤ d.clk)
  | none => false

/-! ### Commands -/

/-- COLD_RESET (R618): the supply has failed and is back; `cut` that the newest record was being written when it failed. -/
def execColdReset (cut : Bool) (s : State) : Host.Outcome State Fault Refusal :=
  s.run (fun d => (if cut then d.cutRecord else d).restart 0)

/-- PIN_RESET (R618): the input was active for `ns` nanoseconds; less than 10 µs is ignored. -/
def execPinReset (ns : Nat) (s : State) : Host.Outcome State Fault Refusal :=
  s.run (fun d => if 10000 ≤ ns then d.restart 1 else d)

/-- WARM_RESET (R619, R621): with the watchdog expired in the same clock the reset takes that kind. -/
def execWarmReset (s : State) : Host.Outcome State Fault Refusal :=
  s.run (fun d => if d.warmDue then d.restart (if d.wdExpired then 3 else 2) else d)

/-- WATCHDOG_RESET (R620, R635). -/
def execWatchdogReset (s : State) : Host.Outcome State Fault Refusal :=
  s.run (fun d => if d.wdExpired then d.restart 3 else d)

/-- WATCHDOG_SERVICE (R620). -/
def execWatchdogService (s : State) : Host.Outcome State Fault Refusal :=
  s.run (fun d => { d with sys := { d.sys with wdClk := d.clk } })

/-- OVERTEMP_RESTART (R656): after a TEMPCRIT shutdown the temperature has stayed below 70 °C for 60 s. -/
def execOvertempRestart (s : State) : Host.Outcome State Fault Refusal :=
  s.runAny (fun d =>
    match d.sys.off, d.sys.coolClk with
    | true, some c => if d.since c (60 * fabHz) then d.restart 0 else d
    | _, _ => d)

end Sys2Proof.Machine
end

