-- ==== Sys2Proof/Machine/Pair.lean ====
section
/-! DEFINITION. The redundant pair (spec/18_redundant_pair.md): HELLO and the roles, mirroring, the two paths, takeover and handover. -/

namespace Sys2Proof.Machine

open Sys2Proof

/-! ### The pairing link (R541, R549) -/

/-- The device with an operation on the pair's state. -/
def Dev.updDuo (d : Dev) (f : PairSt → PairSt) : Dev := d.setDuo (f d.duo)

/-- LINE_GSTAT.ROLE: 0 undecided, 1 ACTIVE, 2 STANDBY, 3 SILENT (R112). -/
def Dev.role (d : Dev) : Nat := d.fld R.LINE_GSTAT F.LINE_GSTAT.ROLE

/-- The unit belongs to a redundant pair: FLAGS.PAIR of the active image. -/
def Dev.paired (d : Dev) : Bool := d.bit R.PAIR_CFG F.PAIR_CFG.EN

/-- LINKTO in clocks of CK_FAB: a base tick is 15,625 of them. -/
def Dev.linkTo (d : Dev) : Nat := d.fld R.PAIR_CFG F.PAIR_CFG.LINKTO * 15625

/-- R549: a valid frame of the peer has arrived. The link path is alive unless it has been lost and PAIR_PATH_BACK has not yet come. -/
def Dev.heardPeer (d : Dev) : Dev :=
  (d.updDuo (fun x => { x with heardClk := some d.clk })).setFld R.PAIR_STAT F.PAIR_STAT.LINKUP (if d.duo.linkLost then 0 else 1)

/-- A frame of the peer: one that fails its CRC is discarded and counted (R541). -/
def Dev.linkFrame (d : Dev) (ok : Bool) (f : Dev → Dev) : Dev :=
  if !d.x4 then d else if !ok then d.inc R.PAIR_CNT_GAP else f d.heardPeer

/-! ### HELLO and the roles at start (R539, R540) -/

/-- The IMGHASH of the active image. -/
def Dev.activeHash (d : Dev) : List Byte := if d.loader.image.isSome then d.img.hash else []

/-- R540: HELLO, every 1 ms from the end of the step window. -/
def Dev.pairHello (d : Dev) : Dev :=
  if !d.x4 || d.winOpen || !d.since d.duo.helloClk (clksOfMs 1) then d
  else
    (d.updDuo (fun x => { x with helloClk := d.clk })).linkSend 5
      [(d.fld R.LINE_GCFG F.LINE_GCFG.RANK : Int), (Config.serial.toNat : Int), (d.role : Int), (d.mstate : Int),
       (unle d.activeHash : Int), (unle d.loader.checked : Int), (d.pstate : Int)]

/-- R540: no port has left LISTEN. -/
def Dev.noneLeft (d : Dev) : Bool := allPorts.all (fun p => decide (d.portState p ≤ 1))

/-- R540: the role that a HELLO decides. -/
def Dev.roleByLink (d : Dev) (h : PairHello) : Dev :=
  if d.role != 0 || !d.noneLeft then d
  else
    let own := d.fld R.LINE_GCFG F.LINE_GCFG.RANK
    let take (r : Nat) : Dev := (d.roleIs r).ev 0xA00F 2
    match h.role with
    | 1 => take 2
    | 0 => if own < h.rank then take 1 else if h.rank < own then take 2 else d.rankClash none
    | _ => d

/-- R539: the peer's active image is another one. -/
def Dev.mismatch (d : Dev) (h : PairHello) : Dev :=
  let r := R.PAIR_STAT
  if d.activeHash.isEmpty || h.hash.isEmpty || d.activeHash == h.hash then d.setFld r F.PAIR_STAT.MISMATCH 0
  else
    let d1 := if d.bit r F.PAIR_STAT.MISMATCH then d else (d.setFld r F.PAIR_STAT.MISMATCH 1).ev 0xF007 5
    if d1.isStandby && d1.mstate == 2 then d1.setMstate 1 else d1

/-- PAIR_HELLO (R539, R540, R545, R564): what a HELLO of the peer tells. -/
def Dev.hearHello (d : Dev) (h : PairHello) : Dev :=
  let d1 := ((d.updDuo (fun x => { x with peer := some h })).setReg R.PAIR_PEER_SERIAL (wN h.serial)).roleByLink h
  let d2 := d1.mismatch h
  if d2.isStandby then (if d2.mstate == 0 && h.role == 1 then d2.askCopy else d2)
  else if d2.role == 1 && h.role == 2 && !d2.duo.standbyLost then d2.setMstate (h.mstate % 16)
  else d2

/-! ### The mirrored objects (R543) -/

/-- The kind and number of an entry. -/
def MirObj.key : MirObj → Nat × Nat
  | .reg a _ => (0, a)
  | .axis a _ => (1, a)
  | .mot a _ => (2, a)
  | .track t _ => (3, t)
  | .arm m _ => (4, m)
  | .item h _ => (5, h)
  | .gen h _ => (6, h)
  | .act i _ => (7, i)
  | .toObj o _ => (8, o)
  | .fires _ => (9, 0)
  | .group g _ => (10, g)
  | .slot k _ => (11, k)
  | .cmp k _ => (12, k)
  | .can c _ _ _ => (13, c)
  | .safeAxis k _ => (14, k)
  | .safeConn c _ => (15, c)
  | .enc c _ => (16, c)
  | .rem r _ => (17, r)
  | .sess s _ => (18, s)
  | .queue q _ => (19, q)
  | .load _ _ _ => (20, 0)
  | .gone k n => (k, n)

/-- The registers in which mirrored objects show: axes (R227), set-point sources and tracks (R327), arms (R358), the Tallboy (R390), groups
(R105), the slot table that a takeover goes on with (R97, R117), CAN buffers (R500) and safety state (R454). -/
def mirName (n : RegName) : Bool :=
  [.AXIS_CTL, .AXIS_STAT, .AXIS_MANVAL, .AXIS_MOT_CTL, .AXIS_MOT_TGT_LO, .AXIS_MOT_TGT_HI, .AXIS_MOT_TVEL, .AXIS_MOT_POS_LO, .AXIS_MOT_POS_HI,
   .AXIS_MOT_VEL, .AXIS_MOT_ACC, .AXIS_MOT_STAT, .AXIS_GEAR_NUM, .AXIS_GEAR_DEN, .AXIS_GEAR_AT_LO, .AXIS_GEAR_AT_HI, .AXIS_GEAR_BLEND,
   .AXIS_GEAR_CTL, .AXIS_GEAR_FIRED_LO, .AXIS_GEAR_FIRED_HI, .AXIS_GEAR_CUR_NUM, .AXIS_GEAR_CUR_DEN, .TRACK_STAT, .TRACK_POS_LO,
   .TRACK_POS_HI, .TRACK_VEL, .TRACK_ACC, .TRACK_REV, .TRACK_TIME, .TRACK_CORRREM, .ARM_STAT, .ARM_KEFF, .ARM_SEGCUR, .ARM_SEGDONE,
   .ARM_TAU, .ARM_CNT, .TALL_TO_STAT, .TALL_TO_TFIRE, .TALL_TO_ACK, .GRP_STAT, .GRP_SPLIT, .LINE_SLOT_STAT, .LINE_NODES, .CAN_TXB_STAT,
   .CAN_CLASH_ID, .SAFE_SA_STAT, .SAFE_FN, .SAFE_CONN_STAT].contains n

/-- A register shows a mirrored object; of the comparators only those that the host owns (R66). -/
def Dev.mirReg (d : Dev) (addr : Nat) : Bool :=
  match regAt addr with
  | some r => mirName r.name || ([.TIME_CMP_TGT, .TIME_CMP_PER, .TIME_CMP_CTL, .TIME_CMP_STAT].contains r.name && !d.cmpOwned r.i)
  | none => false

/-- R584: what of a session is mirrored. -/
def Session.mirrored (s : Session) : Session :=
  { s with latch := [], held := [], handles := [], drops := 0, dropLogClk := none, lastClk := 0, openClk := 0 }

/-- R584: what of a queue is mirrored: its configuration, its positions, the messages stored and the response log. -/
def Queue.mirrored (q : Queue) : Queue := { q with unacked := [], ackClk := 0, rounds := 0, closing := none }

/-- R558: an activation that both units make at the same boundary. -/
def Dev.mirLoad (d : Dev) : List MirObj :=
  match d.loader.job, d.loader.nextImage with
  | .armed t keep, some i => [.load i.hash keep t]
  | .switching t keep _, some i => [.load i.hash keep t]
  | _, _ => []

/-- R543: every mirrored object as it stands. -/
def Dev.mirrorList (d : Dev) : List MirObj :=
  (d.regs.filter (fun e => d.mirReg e.1)).map (fun e => MirObj.reg e.1 e.2) ++
  d.axs.axes.map (fun e => .axis e.1 e.2) ++ d.mot.axes.map (fun e => .mot e.1 e.2) ++ d.mot.tracks.map (fun e => .track e.1 e.2) ++
  d.arms.map (fun e => .arm e.1 e.2) ++ d.tall.items.map (fun e => .item e.1 e.2) ++ d.tall.gens.map (fun e => .gen e.1 e.2) ++
  d.tall.acts.map (fun e => .act e.1 e.2) ++ d.tall.tos.map (fun e => .toObj e.1 e.2) ++ [.fires d.tall.fires] ++
  d.line.groups.map (fun e => .group e.1 e.2) ++ d.line.slots.map (fun e => .slot e.1 e.2) ++
  (d.time.cmpTgt.filter (fun e => !d.cmpOwned e.1)).map (fun e => .cmp e.1 e.2) ++
  d.can.map (fun e => .can e.1 e.2.bufs e.2.clash (d.bit (R.CAN_STAT e.1) F.CAN_STAT.LONE)) ++
  d.safe.axes.map (fun e => .safeAxis e.1 e.2) ++ d.safe.conns.map (fun e => .safeConn e.1 e.2) ++
  d.fbk.enc.map (fun e => .enc e.1 (d.regI (R.FBK_ENC_POS e.1))) ++ d.fbk.rem.map (fun e => .rem e.1 e.2) ++
  d.host.sess.map (fun e => .sess e.1 e.2.mirrored) ++ d.host.queues.map (fun e => .queue e.1 e.2.mirrored) ++ d.mirLoad

/-- R543: the entries that changed between two lists, with those that are gone. -/
def mirDiff (old new : List MirObj) : List MirObj :=
  new.filter (fun o => !old.contains o) ++
  (old.filter (fun o => !new.any (fun x => x.key == o.key))).map (fun o => .gone o.key.1 o.key.2)

/-- An entry takes its place in a copy. -/
def mirPut (c : List MirObj) (o : MirObj) : List MirObj :=
  let rest := c.filter (fun x => !(x.key == o.key))
  match o with
  | .gone _ _ => rest
  | _ => rest ++ [o]

/-! ### The active unit's side (R543, R545, R546, R552, R557) -/

/-- The active unit mirrors: not without a peer, not once it hands over, and not beyond 500 µs of a power-fail sequence (R624). -/
def Dev.mirrors (d : Dev) : Bool :=
  d.paired && d.x4 && d.role == 1 && !d.handedOver && !d.duo.handSent &&
  (match d.sys.pfClk with
   | some c => !d.bit R.SYS_PF_STAT F.SYS_PF_STAT.PFW || !d.since c (clksOfNs 500000)
   | none => true)

/-- R543, R544: a frame is sent and kept for 32 base ticks. The spec does not give the length of an entry: the entries of a tick make one frame
(notes/assumptions/1902.md). -/
def Dev.sendMirror (d : Dev) (copy : Bool) (tick : Nat) (objs : List MirObj) : Dev :=
  let f : MirFrame := { fseq := d.duo.fseq, tick := tick, last := true, copy := copy, objs := objs }
  (d.updDuo (fun x => { x with
    fseq := (x.fseq + 1) % 2 ^ 32, kept := x.kept.filter (fun k => decide (tick < k.tick + 32)) ++ [f] })).linkPut (.mirror f false)

/-- MIRROR_SEND (R543): at the end of a base tick the objects that changed in it. At T − 31.25 µs of a handover HANDOVER follows (R557). -/
def Dev.mirrorSend (d : Dev) : Dev :=
  let n := d.time.tick
  if !d.mirrors || n == 0 || d.duo.sentTick == some (n - 1) then d
  else
    let cur := d.mirrorList
    let d1 := (d.sendMirror false (n - 1) (mirDiff d.duo.sent cur)).updDuo (fun x => { x with
      sent := cur, sentTick := some (n - 1), ackClk := if x.acked.isNone then d.clk else x.ackClk })
    match d1.duo.switchT with
    | some t => if t ≤ d1.ns + 31250 then (d1.updDuo (fun x => { x with handSent := true })).linkSend 6 [(t : Int)] else d1
    | none => d1

/-- SYNCREQ (R545): every mirrored object in COPY frames. -/
def Dev.syncReq (d : Dev) : Dev :=
  if !d.mirrors then d
  else
    let cur := d.mirrorList
    (d.sendMirror true (d.time.tick - 1) cur).updDuo (fun x => { x with sent := cur })

/-- PAIR_ACK (R544, R546, R557): `tick` up to which the standby holds every frame, the FSEQ of a missing one, and whether a HANDOVER has
arrived. -/
def Dev.pairAck (d : Dev) (tick : Nat) (want : Option Nat) (hand : Bool) : Dev :=
  if d.role != 1 then d
  else
    let d1 := (d.updDuo (fun x => { x with
      acked := some (max tick (x.acked.getD 0)), ackClk := d.clk, standbyLost := false, handAcked := x.handAcked || (hand && x.handSent) })).setMpoint
        (max tick (d.duo.acked.getD 0))
    let d2 := match want.bind (fun w => d1.duo.kept.find? (fun f => f.fseq == w)) with
      | some f => (d1.inc R.PAIR_CNT_RETX).linkPut (.mirror f true)
      | none => d1
    d2.releaseAnswers false

/-- STANDBY_ACK_TIMEOUT (R546, R552): no ACK for LINKTO base ticks: the active unit works alone. -/
def Dev.ackLost (d : Dev) : Dev :=
  if d.role != 1 || !d.paired || d.duo.acked.isNone || d.duo.standbyLost || !d.since d.duo.ackClk d.linkTo then d
  else (((d.updDuo (fun x => { x with standbyLost := true })).setMstate 3).ev 0xF00C 4).releaseAnswers true

/-! ### The standby's side (R544, R545) -/

/-- R287: the offsets that map the unit's own counts onto the mirrored ones. -/
def Dev.encOffsets (d : Dev) (objs : List MirObj) : Dev :=
  d.each objs (fun d o => match o with
    | .enc c pos => d.updDuo (fun x => { x with encOfs := tset x.encOfs c (pos - d.regI (R.FBK_ENC_POS c)) })
    | _ => d)

/-- R558: an activation of the active unit is armed for the same boundary, from the slot that holds the same image; it goes with it too. -/
def Dev.mirrorLoad (d : Dev) (objs : List MirObj) : Dev :=
  d.each objs (fun d o => match o with
    | .load hash keep t =>
      if d.loader.job != .idle || t ≤ d.ns then d
      else
        let found := [0, 1].findSome? (fun s =>
          let i := imageOf s (d.slotFull s)
          if d.bit R.FAB_IMG_STAT (if s == 0 then F.FAB_IMG_STAT.VALID0 else F.FAB_IMG_STAT.VALID1) && i.hash == hash then some i else none)
        match found with
        | some i => (d.setLoader { d.loader with job := .armed t keep, nextImage := some i }).setImgState 2
        | none => d
    | .gone 20 _ =>
      match d.loader.job with
      | .armed _ _ => d.dropActivation
      | _ => d
    | _ => d)

/-- R544: a frame whose turn has come. -/
def Dev.takeFrame (d : Dev) (f : MirFrame) : Dev :=
  let x := d.duo
  let base := if f.copy && !x.copying then [] else x.copy
  let y := { x with
    copy := f.objs.foldl mirPut base, expect := (f.fseq + 1) % 2 ^ 32,
    copying := f.copy && !f.last, copyWait := x.copyWait && !(f.copy && f.last) }
  let d1 := ((d.setDuo y).encOffsets f.objs).mirrorLoad f.objs
  if f.last && !y.copyWait then d1.setMpoint (max f.tick d1.mpoint) else d1

/-- R544: the frames held behind a gap whose turn has come. -/
def Dev.drainFrames (d : Dev) : Nat → Dev
  | 0 => d
  | fuel + 1 =>
    match d.duo.early.find? (fun f => f.fseq == d.duo.expect) with
    | some f =>
      ((d.updDuo (fun x => { x with early := x.early.filter (fun g => g.fseq != f.fseq) })).takeFrame f).drainFrames fuel
    | none => if d.duo.early.isEmpty then d.updDuo (fun x => { x with gapTick := none }) else d

/-- R545: the copy is complete and the mirror point no older than 4 base ticks. -/
def Dev.becomeReady (d : Dev) : Dev :=
  if d.mstate == 1 && !d.duo.copyWait && decide (d.lag ≤ 4) && !d.bit R.PAIR_STAT F.PAIR_STAT.MISMATCH &&
      !d.bit R.SYS_PF_STAT F.SYS_PF_STAT.PFW then (d.setMstate 2).ev 0xF008 2
  else d

/-- R544: ACK, with the mirror point, the FSEQ of a missing frame or −1, and whether a HANDOVER has arrived. -/
def Dev.sendAck (d : Dev) : Dev :=
  d.linkSend 2 [(d.mpoint : Int), if d.duo.early.isEmpty then -1 else (d.duo.expect : Int), if d.duo.takeT.isSome then 1 else 0]

/-- MIRROR_FRAME (R544, R545): frames are taken in their order; one behind a gap waits. -/
def Dev.mirrorFrame (d : Dev) (f : MirFrame) : Dev :=
  let x := d.duo
  if !d.isStandby || (x.copyWait && !x.copying && !f.copy) then d
  else
    let starts := x.copyWait && !x.copying && f.copy
    let d1 := if starts || f.fseq == x.expect then (d.takeFrame f).drainFrames 4096
      else if 0 < tsDiff (wN f.fseq) (wN x.expect) && !x.early.any (fun g => g.fseq == f.fseq) then
        d.updDuo (fun x => { x with early := x.early ++ [f], gapTick := some (x.gapTick.getD d.time.tick) })
      else d
    d1.becomeReady.sendAck

/-- MIRROR_GAP_TIMEOUT (R544): a gap not filled within 32 base ticks. -/
def Dev.gapTimeout (d : Dev) : Dev :=
  match d.duo.gapTick with
  | some t => if d.isStandby && decide (t + 32 ≤ d.time.tick) then (d.ev 0xF009 3).askCopy else d
  | none => d

/-- PAIR_LINK_DELAY (R46, R548): a round trip of `rtt` ns over the link, and the offset to the active unit that it gives. -/
def Dev.linkDelay (d : Dev) (rtt : Nat) (ofs : Int) : Dev :=
  let d1 := d.setReg R.PAIR_LINKDLY (wN (rtt / 2))
  if d1.timeSrc != 3 || d1.time.pairSrc then d1
  else if lowest (d1.stepChecks ofs) = .ok then d1.makeStep ofs
  else d1.pairServo

/-! ### The mirrored state becomes the unit's own (R553) -/

/-- The entries of one kind as a table. -/
def mirTab {α : Type} (c : List MirObj) (f : MirObj → Option (Nat × α)) : Tab α := tabNorm (c.filterMap f)

/-- R553: every mirrored object takes its state at the mirror point. What is not in the copy stands as it stands at start. -/
def Dev.takeState (d : Dev) : Dev :=
  let c := d.duo.copy
  let own := d.regs.filter (fun e => !d.mirReg e.1)
  let regs := c.foldl (fun t o => match o with
    | .reg a w => tset t a w
    | _ => t) own
  let cans := mirTab c (fun o => match o with | .can k b h l => some (k, (b, h, l)) | _ => none)
  let d1 : Dev := { d with
    regs := regs,
    axs := { d.axs with axes := mirTab c (fun o => match o with | .axis a x => some (a, x) | _ => none) },
    mot := { d.mot with
      axes := mirTab c (fun o => match o with | .mot a x => some (a, x) | _ => none),
      tracks := mirTab c (fun o => match o with | .track a x => some (a, x) | _ => none) },
    arms := mirTab c (fun o => match o with | .arm a x => some (a, x) | _ => none),
    tall := { d.tall with
      items := mirTab c (fun o => match o with | .item a x => some (a, x) | _ => none),
      gens := mirTab c (fun o => match o with | .gen a x => some (a, x) | _ => none),
      acts := mirTab c (fun o => match o with | .act a x => some (a, x) | _ => none),
      tos := mirTab c (fun o => match o with | .toObj a x => some (a, x) | _ => none),
      fires := c.flatMap (fun o => match o with | .fires l => l.map (fun f => { f with clk := d.clk }) | _ => []),
      seen := [], pubs := [], takes := [], replay := false },
    line := { d.line with
      groups := mirTab c (fun o => match o with | .group a x => some (a, x) | _ => none),
      slots := mirTab c (fun o => match o with | .slot a x => some (a, x) | _ => none) },
    time := { d.time with
      cmpTgt := (mirTab c (fun o => match o with | .cmp a x => some (a, x) | _ => none)).foldl (fun t e => tset t e.1 e.2)
        (d.time.cmpTgt.filter (fun e => d.cmpOwned e.1)) },
    safe := { d.safe with
      axes := mirTab c (fun o => match o with | .safeAxis a x => some (a, x) | _ => none),
      conns := mirTab c (fun o => match o with | .safeConn a x => some (a, x) | _ => none) },
    fbk := { d.fbk with rem := mirTab c (fun o => match o with | .rem a x => some (a, x) | _ => none) }
  }
  let d2 := d1.each (List.range 8) (fun d k =>
    let (b, h, l) := tget cans k ([], [], false)
    ((d.setCan k { d.canCh k with bufs := b, clash := h, cur := none }).setFld (R.CAN_STAT k) F.CAN_STAT.LONE (if l then 1 else 0)).each
      (b.map (·.1)) (fun d i => if d.fld (R.CAN_TXB_STAT k i) F.CAN_TXB_STAT.STATE == 2 then
        d.setFld (R.CAN_TXB_STAT k i) F.CAN_TXB_STAT.STATE 1 else d))
  -- R287: the offsets; R454: the permits of the local safe axes
  let d3 := d2.each d.duo.encOfs (fun d e => d.encPreset e.1 (wI (d.regI (R.FBK_ENC_POS e.1) + e.2)))
  d3.each d3.saxes (fun e k => if e.permit k == d.permit k then e
    else match e.saxis k with
      | some r => if uAt r 4 1 == 0 then e.emit (.signal "STOEN" k (if e.permit k then 1 else 0)) else e
      | none => e)

/-- R378, R390: a PROJECTED action whose mirrored fire time lies within H of the first take is COMMITTED with it and its token. -/
def Dev.commitProjected (d : Dev) : Dev :=
  d.each d.tall.acts (fun d e =>
    let x := e.2
    match x.state, d.toSlot x.toIx with
    | 3, some r =>
      if (d.toState x.toIx).act != some e.1 then d
      else
        let per := d.portNs r.port
        let take := (d.ns / per + 1) * per - takeLead (d.slotRelayed r.port r.slot)
        let tf := ((d.ns : Int) + tsDiff (wN x.tfire) d.ts).toNat
        let hor := d.toHorizon r.port r.slot
        if tf < take + hor then
          (d.setAct e.1 { x with state := 4, tc := some tf }).setTo x.toIx { d.toState x.toIx with
            tcmd := tcmdWord x x.token true false, final := some (tf + hor), fired := false }
        else d
    | _, _ => d)

/-- R390: the tracks are compared from the mirror point on, from the first track update; what has been crossed since fires with REPLAY. -/
def Dev.replayFrom (d : Dev) (ns : Nat) : Dev :=
  let d1 := d.each d.tracks (fun d t => d.setTall { d.tall with seen := tset d.tall.seen t (d.onTrack t (d.posAt t ns)) })
  let d2 := d1.each d1.tall.fires (fun d f => match d.act? f.act with
    | some x => d.setAct f.act { x with replay := true }
    | none => d)
  d2.setTall { d2.tall with replay := true }

/-- R117, R553: the lines are served from this end: the cycle counter goes on from the last cycle heard or relayed, at the period that the line ran
with; joins are suspended (R92), and the grace of R97 runs. A line that ran keep-alive cycles goes on with them. -/
def Dev.serveLine (d : Dev) (p : Nat) : Dev :=
  if d.basePort p != p || d.nodes p == 0 || d.portState p == 0 || d.portState p == 8 then d
  else
    let x := d.port p
    let ka := x.heardKa && !x.relaying
    let per := if ka then periodNs 7 else periodNs (d.portK p)
    let last := if x.relaying then some x.cycleNs else x.heardNs
    let missed := match last with
      | some t => d.ns / per - t / per
      | none => 0
    let d1 := (d.setReg (R.LINE_CYCLE p) (d.reg (R.LINE_CYCLE p) + wN missed)).setPortState p (if ka then 6 else 3)
    d1.updPort p (fun y => { y with
      listening := false, relaying := false, relayed := [], brk := y.brk || x.relaying, joinSusp := true, validCyc := 0,
      suspCyc := d1.nextCyc16 p, grace := 4, lastTick := some (d.ns / per), heardNs := none, heardKa := false, goodLast := false, markerNs := none,
      fallowNs := none, keepAlive := ka, resume := 3 })

/-- R584: the unit closes its own sessions, serves the mirrored ones, and sends each of them TAKEOVER. -/
def Dev.serveHosts (d : Dev) : Dev :=
  let c := d.duo.copy
  let d1 := d.each (d.host.sess.map (·.1)) (fun d s => d.closeSession s 3 true)
  let sess : Tab Session := mirTab c (fun o => match o with | .sess a x => some (a, { x with openClk := d.clk, lastClk := d.clk }) | _ => none)
  let queues : Tab Queue := mirTab c (fun o => match o with | .queue a x => some (a, { x with ackClk := d.clk }) | _ => none)
  let d2 : Dev := { d1 with host := { d1.host with sess := sess, queues := queues } }
  let d3 := d2.each sess (fun d e =>
    let qs := queues.filter (fun q => decide (64 ≤ q.1) && q.2.slot == e.1)
    let body := le 8 d.mpoint ++ le 1 qs.length ++ le 7 0 ++ List.replicate 32 0 ++
      qs.flatMap (fun q => le 1 q.1 ++ le 3 0 ++ le 4 q.2.pos)
    d.hostOut e.2.peer (unqueued 0x0FC4 e.2.sessId .ok 0 body))
  d3.releaseAnswers true

/-- R500: the channels enter NORMAL after bus integration. -/
def Dev.canIntegrate (d : Dev) : Dev :=
  d.each (List.range 8) (fun d k =>
    if d.fld (R.CAN_CFG k) F.CAN_CFG.MODE == 1 && (d.canState k == 2 || d.canState k == 3) then
      d.setFld (R.CAN_STAT k) F.CAN_STAT.STATE 1 else d)

/-- R227: a LOCAL axis does not continue on a connector without feed selection: it takes STO. -/
def Dev.singleFeedStop (d : Dev) : Dev :=
  d.each (d.img.axes.filter (fun r => r.kind == 0 && !d.bit (R.PWM_DRV_CFG r.conn) F.PWM_DRV_CFG.FSELEN)) (fun d r => d.react r.axis 4 7)

/-- R553, R557: the unit becomes ACTIVE with the state at the mirror point; time makes no step (R67). -/
def Dev.becomeActive (d : Dev) : Dev :=
  let d1 := (d.takeState.roleIs 1).legsTakeover.singleFeedStop.serveHosts
  let d2 := ((d1.each allPorts Dev.serveLine).canIntegrate).setMstate 0
  let d3 : Dev := { d2 with time := { d2.time with pairSrc := true } }
  d3.updDuo (fun x => { x with
    copy := [], early := [], gapTick := none, copyWait := false, copying := false, takeT := none, sent := [], kept := [],
    acked := none, standbyLost := false, handSent := false, handAcked := false, switchT := none, encOfs := [] })

/-! ### The paths and the takeover (R549 to R554) -/

/-- R105, R554: the groups at a takeover: STAGING is ABORTED; a stale takeover applies FALLBACK at each group's next boundary. -/
def Dev.takeGroups (d : Dev) (stale : Bool) : Dev :=
  d.each (d.img.groups.map (·.group)) (fun d g =>
    let d1 := if d.grpState g == 1 then d.grpAbort g else d
    if !stale then d1
    else
      let next := d1.grpIdx g + 1
      (d1.setGrp g { d1.grp g with fallbackDue := some next }).sendApply g next (d1.fld (R.GRP_CFG g) F.GRP_CFG.FALLBACK) (d1.grp g).token
        (d1.grpNodes g))

/-- R553, R554: the takeover. -/
def Dev.takeover (d : Dev) : Dev :=
  let mp := d.mpoint
  let k := d.phk
  let stale := decide (mp * 31250 + d.fld R.PAIR_CFG F.PAIR_CFG.STALEMAX * 1000000 < d.ns)
  let d1 := ((d.setReg R.PAIR_TKO_TIME d.ts).inc R.PAIR_TKO_CNT).ev 0xF004 5 (words64 mp ++ [wN k])
  let d2 := ((d1.becomeActive.replayFrom ((mp + 1) * 31250)).commitProjected).takeGroups stale
  if !stale then d2
  else
    let free := d2.img.axes.filter (fun a => a.group == 0xFFFF && d2.axEnabled a.axis)
    ((d2.each free (fun d a => d.react a.axis 3 0)).setW1c R.PAIR_STAT F.PAIR_STAT.STALE).ev 0xF005 7

/-- R551: the decision. -/
def Dev.decideTakeover (d : Dev) : Dev :=
  if d.isStandby && d.duo.linkLost && d.duo.lineLost && d.mstate == 2 && d.pstate != 4 && !d.bit R.SYS_PF_STAT F.SYS_PF_STAT.PFW &&
      !d.bit R.PAIR_STAT F.PAIR_STAT.MISMATCH then d.takeover
  else d

/-- R549: no valid frame has arrived for LINKTO base ticks. -/
def Dev.linkSilent (d : Dev) : Bool :=
  match d.duo.heardClk with
  | some c => d.since c d.linkTo
  | none => true

/-- LINK_PATH_LOST (R549, R551): `down` that the link itself is down. -/
def Dev.linkPathLost (d : Dev) (down : Bool) : Dev :=
  if !d.bit R.PAIR_STAT F.PAIR_STAT.LINKUP || !(down || d.linkSilent) then d
  else
    let d1 := (d.setFld R.PAIR_STAT F.PAIR_STAT.LINKUP 0).updDuo (fun x => { x with linkLost := true })
    if d1.isStandby then ((d1.inc R.PAIR_CNT_WARN).ev 0xF001 3).decideTakeover else d1

/-- R550: no heard line has delivered a cycle start for 2 × P_h + 1 µs, or no line is heard. -/
def Dev.linesSilent (d : Dev) : Bool :=
  !d.heardLines.any (fun e => decide (d.ns ≤ e.2.1 + 2 * periodNs d.phk + 1000))

/-- LINE_PATH_LOST (R550, R551). In P4 the link path alone is watched (R564). -/
def Dev.linePathLost (d : Dev) : Dev :=
  if !d.isStandby || d.pstate == 4 || !d.bit R.PAIR_STAT F.PAIR_STAT.LINESUP || !d.linesSilent then d
  else
    let d1 := (d.setFld R.PAIR_STAT F.PAIR_STAT.LINESUP 0).updDuo (fun x => { x with lineLost := true })
    ((d1.inc R.PAIR_CNT_WARN).ev 0xF002 3).decideTakeover

/-- PAIR_PATH_BACK (R551): a lost path is alive again. -/
def Dev.pathBack (d : Dev) : Dev :=
  let link := d.duo.linkLost && !d.linkSilent
  let line := d.duo.lineLost && !d.linesSilent
  let d1 := if link then (((d.setFld R.PAIR_STAT F.PAIR_STAT.LINKUP 1).updDuo (fun x => { x with linkLost := false })).ev 0xF003 2) else d
  if line then (((d1.setFld R.PAIR_STAT F.PAIR_STAT.LINESUP 1).updDuo (fun x => { x with lineLost := false })).ev 0xF003 2) else d1

/-! ### Handover (R557) -/

/-- HANDOVER: the standby learns T and acknowledges. -/
def Dev.handover (d : Dev) (t : Nat) : Dev :=
  if !d.isStandby || d.mstate != 2 then d else (d.updDuo (fun x => { x with takeT := some t })).sendAck

/-- HANDOVER_BOUNDARY: at T the former active unit stops sending and the former standby sends every cycle start; at T + 4 ms the former
active unit is STANDBY and enters SYNCING, and both log PAIR_SWITCH. -/
def Dev.handoverBoundary (d : Dev) : Dev :=
  let x := d.duo
  match x.demoteT with
  | some e =>
    if d.ns < e then d
    else
      let d1 := d.updDuo (fun x => { x with demoteT := none, switchT := none, handSent := false, handAcked := false })
      let d2 := if d1.role == 1 && x.switchT.isSome then (d1.roleIs 2).askCopy else d1
      d2.ev 0xF00A 2 [0]
  | none =>
    match x.takeT, x.switchT with
    | some t, _ =>
      if d.ns < t || !d.isStandby then d else d.becomeActive.updDuo (fun x => { x with demoteT := some (t + 4000000) })
    | none, some t =>
      if d.ns < t || !x.handAcked then d
      else (d.each allPorts Dev.silencePort).updDuo (fun x => { x with demoteT := some (t + 4000000) })
    | none, none => d

/-- HANDOVER_ACK_TIMEOUT: HANDOVER is not acknowledged by T − 10 µs: the switch is abandoned. -/
def Dev.handoverTimeout (d : Dev) : Dev :=
  match d.duo.switchT with
  | some t =>
    if d.duo.handAcked || d.duo.demoteT.isSome || d.ns + 10000 < t then d
    else (d.updDuo (fun x => { x with switchT := none, handSent := false })).ev 0xF00A 2 [wN Status.aborted.code]
  | none => d

/-! ### Commands -/

/-- PAIR_HELLO_SEND (R540). -/
def execPairHelloSend (s : State) : Host.Outcome State Fault Refusal := s.run Dev.pairHello

/-- PAIR_HELLO (R540). -/
def execPairHello (h : PairHello) (ok : Bool) (s : State) : Host.Outcome State Fault Refusal :=
  s.run (fun d => d.linkFrame ok (fun d => d.hearHello h))

/-- MIRROR_SEND (R543). -/
def execMirrorSend (s : State) : Host.Outcome State Fault Refusal := s.run Dev.mirrorSend

/-- MIRROR_FRAME (R544). -/
def execMirrorFrame (f : MirFrame) (ok : Bool) (s : State) : Host.Outcome State Fault Refusal :=
  s.run (fun d => d.linkFrame ok (fun d => d.mirrorFrame f))

/-- PAIR_ACK (R544). -/
def execPairAck (tick : Nat) (want : Option Nat) (hand ok : Bool) (s : State) : Host.Outcome State Fault Refusal :=
  s.run (fun d => d.linkFrame ok (fun d => d.pairAck tick want hand))

/-- MIRROR_GAP_TIMEOUT (R544). -/
def execMirrorGapTimeout (s : State) : Host.Outcome State Fault Refusal := s.run Dev.gapTimeout

/-- SYNCREQ (R545). -/
def execSyncreq (ok : Bool) (s : State) : Host.Outcome State Fault Refusal := s.run (fun d => d.linkFrame ok Dev.syncReq)

/-- PAIR_LINK_DELAY (R548). -/
def execPairLinkDelay (rtt : Nat) (ofs : Int) (s : State) : Host.Outcome State Fault Refusal :=
  s.run (fun d => d.linkFrame true (fun d => d.linkDelay rtt ofs))

/-- LINK_PATH_LOST (R549). -/
def execLinkPathLost (down : Bool) (s : State) : Host.Outcome State Fault Refusal := s.run (fun d => d.linkPathLost down)

/-- LINE_PATH_LOST (R550). -/
def execLinePathLost (s : State) : Host.Outcome State Fault Refusal := s.run Dev.linePathLost

/-- PAIR_PATH_BACK (R551). -/
def execPairPathBack (s : State) : Host.Outcome State Fault Refusal := s.run Dev.pathBack

/-- STANDBY_ACK_TIMEOUT (R552). -/
def execStandbyAckTimeout (s : State) : Host.Outcome State Fault Refusal := s.run Dev.ackLost

/-- HANDOVER (R557). -/
def execHandover (t : Nat) (ok : Bool) (s : State) : Host.Outcome State Fault Refusal :=
  s.run (fun d => d.linkFrame ok (fun d => d.handover t))

/-- HANDOVER_BOUNDARY (R557). -/
def execHandoverBoundary (s : State) : Host.Outcome State Fault Refusal := s.run Dev.handoverBoundary

/-- HANDOVER_ACK_TIMEOUT (R557). -/
def execHandoverAckTimeout (s : State) : Host.Outcome State Fault Refusal := s.run Dev.handoverTimeout

end Sys2Proof.Machine
end

