-- ==== Sys2Proof/Machine/RegRows.lean ====
section
/-! DEFINITION. The commands that are accesses to registers (spec/01 R8 to R10, R661 and the register maps): each is one access of a host session through
the shared operations of RegAccess. Where a row is named after a field, the word carries that field's value whatever the operand holds there. -/

namespace Sys2Proof.Machine

open Sys2Proof

/-! ### Any register -/

/-- REG_WRITE_OTHER (R661): a write of a register that has no row of its own. -/
def execRegWriteOther (ses addr : Nat) (w : Word) (s : State) : Host.Outcome State Fault Refusal := s.run (fun d => d.hostWriteAt ses addr w)

/-- LO_READ_LATCH (R8): a read of a _LO register, or of any register. -/
def execLoReadLatch (ses addr : Nat) (s : State) : Host.Outcome State Fault Refusal := s.run (fun d => d.hostRead ses addr)

/-- HI_WRITE_HOLD (R8): a write of a _HI register. -/
def execHiWriteHold (ses addr : Nat) (w : Word) (s : State) : Host.Outcome State Fault Refusal := s.run (fun d => d.hostWriteAt ses addr w)

/-- LO_WRITE_COMMIT (R8): a write of a _LO register. -/
def execLoWriteCommit (ses addr : Nat) (w : Word) (s : State) : Host.Outcome State Fault Refusal := s.run (fun d => d.hostWriteAt ses addr w)

/-- COUNTER_READ_CLEAR (R109): a read of a counter register that the read clears. -/
def execCounterReadClear (ses addr : Nat) (s : State) : Host.Outcome State Fault Refusal := s.run (fun d => d.hostRead ses addr)

/-! ### Reads with a row of their own -/

/-- CMP_STAT_READ (R55): a read of TIME_CMP_STAT. -/
def execCmpStatRead (ses k : Nat) (s : State) : Host.Outcome State Fault Refusal :=
  s.runIf (decide (k < 64)) (fun d => d.hostRead ses (R.TIME_CMP_STAT k).addr)

/-- PRB_POS_READ (R275): a read of FBK_PRB_POS. -/
def execPrbPosRead (ses p : Nat) (s : State) : Host.Outcome State Fault Refusal :=
  s.runIf (decide (p < 16)) (fun d => d.hostRead ses (R.FBK_PRB_POS p).addr)

/-- ITEM_WIN_READ (R386): a read of TALL_ITEM_WIN. -/
def execItemWinRead (ses k : Nat) (s : State) : Host.Outcome State Fault Refusal :=
  s.runIf (decide (k < 16)) (fun d => d.hostRead ses (R.TALL_ITEM_WIN k).addr)

/-- DIO_CAP_READ (R474): a read of DIO_CAP_STAT. -/
def execDioCapRead (ses k : Nat) (s : State) : Host.Outcome State Fault Refusal :=
  s.runIf (decide (k < 64)) (fun d => d.hostRead ses (R.DIO_CAP_STAT k).addr)

/-! ### Writes with a row of their own -/

/-- REFSEL_WRITE (R40): a write of CLK_CTL. -/
def execRefselWrite (ses : Nat) (w : Word) (s : State) : Host.Outcome State Fault Refusal := s.run (fun d => d.hostWrite ses R.CLK_CTL w)

/-- CLOSE (R45): a write of TIME_CTL with CLOSE = 1. -/
def execClose (ses : Nat) (w : Word) (s : State) : Host.Outcome State Fault Refusal :=
  s.run (fun d => d.hostWrite ses R.TIME_CTL (putF w F.TIME_CTL.CLOSE 1))

/-- STEPWIN_WRITE (R45): a write of TIME_CTL. -/
def execStepwinWrite (ses : Nat) (w : Word) (s : State) : Host.Outcome State Fault Refusal := s.run (fun d => d.hostWrite ses R.TIME_CTL w)

/-- TIME_STEP_WRITE (R46): a write of TIME_STEP_LO. -/
def execTimeStepWrite (ses : Nat) (w : Word) (s : State) : Host.Outcome State Fault Refusal :=
  s.run (fun d => d.hostWrite ses R.TIME_STEP_LO w)

/-- TIME_RATE_WRITE (R48): a write of TIME_RATE. -/
def execTimeRateWrite (ses : Nat) (w : Word) (s : State) : Host.Outcome State Fault Refusal :=
  s.run (fun d => d.hostWrite ses R.TIME_RATE w)

/-- CMP_ARM (R56): a write of TIME_CMP_CTL with ARM = 1. -/
def execCmpArm (ses k : Nat) (w : Word) (s : State) : Host.Outcome State Fault Refusal :=
  s.runIf (decide (k < 64)) (fun d => d.hostWrite ses (R.TIME_CMP_CTL k) (putF w F.TIME_CMP_CTL.ARM 1))

/-- CMP_DISARM (R58): a write of TIME_CMP_CTL with DISARM = 1. -/
def execCmpDisarm (ses k : Nat) (w : Word) (s : State) : Host.Outcome State Fault Refusal :=
  s.runIf (decide (k < 64)) (fun d => d.hostWrite ses (R.TIME_CMP_CTL k) (putF w F.TIME_CMP_CTL.DISARM 1))

/-- LINE_START (R107): a write of LINE_CTL with START = 1. -/
def execLineStart (ses p : Nat) (w : Word) (s : State) : Host.Outcome State Fault Refusal :=
  s.runIf (decide (p < 24)) (fun d => d.hostWrite ses (R.LINE_CTL p) (putF w F.LINE_CTL.START 1))

/-- LINE_STOP (R107): a write of LINE_CTL with STOP = 1. -/
def execLineStop (ses p : Nat) (w : Word) (s : State) : Host.Outcome State Fault Refusal :=
  s.runIf (decide (p < 24)) (fun d => d.hostWrite ses (R.LINE_CTL p) (putF w F.LINE_CTL.STOP 1))

/-- REDISC (R107): a write of LINE_CTL with REDISC = 1. -/
def execRedisc (ses p : Nat) (w : Word) (s : State) : Host.Outcome State Fault Refusal :=
  s.runIf (decide (p < 24)) (fun d => d.hostWrite ses (R.LINE_CTL p) (putF w F.LINE_CTL.REDISC 1))

/-- GRP_REQ (R104): a write of GRP_REQ with REQ = 1. -/
def execGrpReq (ses g : Nat) (w : Word) (s : State) : Host.Outcome State Fault Refusal :=
  s.runIf (decide (g < 256)) (fun d => d.hostWrite ses (R.GRP_REQ g) (putF w F.GRP_REQ.REQ 1))

/-- IMAGE_CHECK (R134): a write of FAB_IMG_CTL with CHECK = 1. -/
def execImageCheck (ses : Nat) (w : Word) (s : State) : Host.Outcome State Fault Refusal :=
  s.run (fun d => d.hostWrite ses R.FAB_IMG_CTL (putF w F.FAB_IMG_CTL.CHECK 1))

/-- ACTIVATE (R139): a write of FAB_IMG_CTL with ACTIVATE = 1. -/
def execActivate (ses : Nat) (w : Word) (s : State) : Host.Outcome State Fault Refusal :=
  s.run (fun d => d.hostWrite ses R.FAB_IMG_CTL (putF w F.FAB_IMG_CTL.ACTIVATE 1))

/-- ERASE (R146): a write of FAB_IMG_CTL with ERASE = 1. -/
def execErase (ses : Nat) (w : Word) (s : State) : Host.Outcome State Fault Refusal :=
  s.run (fun d => d.hostWrite ses R.FAB_IMG_CTL (putF w F.FAB_IMG_CTL.ERASE 1))

/-- CE_RESUME (R184): a write of CE_CTL with RESUME = 1. -/
def execCeResume (ses e : Nat) (w : Word) (s : State) : Host.Outcome State Fault Refusal :=
  s.runIf (decide (e < 16)) (fun d => d.hostWrite ses (R.CE_CTL e) (putF w F.CE_CTL.RESUME 1))

/-- CE_CLRMAX (R184): a write of CE_CTL with CLRMAX = 1. -/
def execCeClrmax (ses e : Nat) (w : Word) (s : State) : Host.Outcome State Fault Refusal :=
  s.runIf (decide (e < 16)) (fun d => d.hostWrite ses (R.CE_CTL e) (putF w F.CE_CTL.CLRMAX 1))

/-- AXIS_ENABLE (R214): a write of AXIS_CTL with EN = 1. -/
def execAxisEnable (ses a : Nat) (w : Word) (s : State) : Host.Outcome State Fault Refusal :=
  s.runIf (decide (a < 8192)) (fun d => d.hostWrite ses (R.AXIS_CTL a) (putF w F.AXIS_CTL.EN 1))

/-- AXIS_DISABLE (R215): a write of AXIS_CTL with EN = 0. -/
def execAxisDisable (ses a : Nat) (w : Word) (s : State) : Host.Outcome State Fault Refusal :=
  s.runIf (decide (a < 8192)) (fun d => d.hostWrite ses (R.AXIS_CTL a) (putF w F.AXIS_CTL.EN 0))

/-- MAN_ON (R216): a write of AXIS_CTL with MAN = 1. -/
def execManOn (ses a : Nat) (w : Word) (s : State) : Host.Outcome State Fault Refusal :=
  s.runIf (decide (a < 8192)) (fun d => d.hostWrite ses (R.AXIS_CTL a) (putF w F.AXIS_CTL.MAN 1))

/-- MAN_OFF (R216): a write of AXIS_CTL with MAN = 0. -/
def execManOff (ses a : Nat) (w : Word) (s : State) : Host.Outcome State Fault Refusal :=
  s.runIf (decide (a < 8192)) (fun d => d.hostWrite ses (R.AXIS_CTL a) (putF w F.AXIS_CTL.MAN 0))

/-- CLRFLT (R212): a write of AXIS_CTL with CLRFLT = 1. -/
def execClrflt (ses a : Nat) (w : Word) (s : State) : Host.Outcome State Fault Refusal :=
  s.runIf (decide (a < 8192)) (fun d => d.hostWrite ses (R.AXIS_CTL a) (putF w F.AXIS_CTL.CLRFLT 1))

/-- BANK_WRITE (R217): a write of AXIS_CTL. -/
def execBankWrite (ses a : Nat) (w : Word) (s : State) : Host.Outcome State Fault Refusal :=
  s.runIf (decide (a < 8192)) (fun d => d.hostWrite ses (R.AXIS_CTL a) w)

/-- LAW_WRITE (R217): a write of LVL_CFG. -/
def execLawWrite (ses a lvl : Nat) (w : Word) (s : State) : Host.Outcome State Fault Refusal :=
  s.runIf (decide (a < 8192) && decide (lvl < 3)) (fun d => d.hostWrite ses (R.LVL_CFG a lvl) w)

/-- FILTER_COMMIT (R199): a write of FLT_CFG. -/
def execFilterCommit (ses a k : Nat) (w : Word) (s : State) : Host.Outcome State Fault Refusal :=
  s.runIf (decide (a < 8192) && decide (k < 8)) (fun d => d.hostWrite ses (R.FLT_CFG a k) w)

/-- PWM_CMP_LO_WRITE (R235): a write of PWM_CMP_LO. -/
def execPwmCmpLoWrite (ses l : Nat) (w : Word) (s : State) : Host.Outcome State Fault Refusal :=
  s.runIf (decide (l < 96)) (fun d => d.hostWrite ses (legReg R.PWM_CMP_LO l) w)

/-- LEG_COMMIT (R235): a write of PWM_LEG_CTL with COMMIT = 1. -/
def execLegCommit (ses l : Nat) (w : Word) (s : State) : Host.Outcome State Fault Refusal :=
  s.runIf (decide (l < 96)) (fun d => d.hostWrite ses (legReg R.PWM_LEG_CTL l) (putF w F.PWM_LEG_CTL.COMMIT 1))

/-- CLRACC (R242): a write of PWM_LEG_CTL with CLRACC = 1. -/
def execClracc (ses l : Nat) (w : Word) (s : State) : Host.Outcome State Fault Refusal :=
  s.runIf (decide (l < 96)) (fun d => d.hostWrite ses (legReg R.PWM_LEG_CTL l) (putF w F.PWM_LEG_CTL.CLRACC 1))

/-- PROBE_ARM (R284): a write of FBK_PRB_CTL with ARM = 1. -/
def execProbeArm (ses p : Nat) (w : Word) (s : State) : Host.Outcome State Fault Refusal :=
  s.runIf (decide (p < 16)) (fun d => d.hostWrite ses (R.FBK_PRB_CTL p) (putF w F.FBK_PRB_CTL.ARM 1))

/-- PROBE_DISARM (R284): a write of FBK_PRB_CTL with DISARM = 1. -/
def execProbeDisarm (ses p : Nat) (w : Word) (s : State) : Host.Outcome State Fault Refusal :=
  s.runIf (decide (p < 16)) (fun d => d.hostWrite ses (R.FBK_PRB_CTL p) (putF w F.FBK_PRB_CTL.DISARM 1))

/-- RESTORE (R278): a write of FBK_SUP. -/
def execRestore (ses : Nat) (w : Word) (s : State) : Host.Outcome State Fault Refusal := s.run (fun d => d.hostWrite ses R.FBK_SUP w)

/-- ENC_CLRINV (R279): a write of FBK_ENC_CTL with CLRINV = 1. -/
def execEncClrinv (ses k : Nat) (w : Word) (s : State) : Host.Outcome State Fault Refusal :=
  s.runIf (decide (k < 32)) (fun d => d.hostWrite ses (R.FBK_ENC_CTL k) (putF w F.FBK_ENC_CTL.CLRINV 1))

/-- ENC_PRESET (R283): a write of FBK_ENC_PRESET. -/
def execEncPreset (ses k : Nat) (w : Word) (s : State) : Host.Outcome State Fault Refusal :=
  s.runIf (decide (k < 32)) (fun d => d.hostWrite ses (R.FBK_ENC_PRESET k) w)

/-- GO (R293): a write of AXIS_MOT_CTL with GO = 1. -/
def execGo (ses a : Nat) (w : Word) (s : State) : Host.Outcome State Fault Refusal :=
  s.runIf (decide (a < 8192)) (fun d => d.hostWrite ses (R.AXIS_MOT_CTL a) (putF w F.AXIS_MOT_CTL.GO 1))

/-- HALT (R293): a write of AXIS_MOT_CTL with HALT = 1. -/
def execHalt (ses a : Nat) (w : Word) (s : State) : Host.Outcome State Fault Refusal :=
  s.runIf (decide (a < 8192)) (fun d => d.hostWrite ses (R.AXIS_MOT_CTL a) (putF w F.AXIS_MOT_CTL.HALT 1))

/-- ENGAGE (R299): a write of AXIS_GEAR_CTL with ENGAGE = 1. -/
def execEngage (ses a : Nat) (w : Word) (s : State) : Host.Outcome State Fault Refusal :=
  s.runIf (decide (a < 8192)) (fun d => d.hostWrite ses (R.AXIS_GEAR_CTL a) (putF w F.AXIS_GEAR_CTL.ENGAGE 1))

/-- GEAR_ARM (R300): a write of AXIS_GEAR_CTL with ARM = 1. -/
def execGearArm (ses a : Nat) (w : Word) (s : State) : Host.Outcome State Fault Refusal :=
  s.runIf (decide (a < 8192)) (fun d => d.hostWrite ses (R.AXIS_GEAR_CTL a) (putF w F.AXIS_GEAR_CTL.ARM 1))

/-- GEAR_CANCEL (R303): a write of AXIS_GEAR_CTL with CANCEL = 1. -/
def execGearCancel (ses a : Nat) (w : Word) (s : State) : Host.Outcome State Fault Refusal :=
  s.runIf (decide (a < 8192)) (fun d => d.hostWrite ses (R.AXIS_GEAR_CTL a) (putF w F.AXIS_GEAR_CTL.CANCEL 1))

/-- DISENGAGE (R304): a write of AXIS_GEAR_CTL with DISENGAGE = 1. -/
def execDisengage (ses a : Nat) (w : Word) (s : State) : Host.Outcome State Fault Refusal :=
  s.runIf (decide (a < 8192)) (fun d => d.hostWrite ses (R.AXIS_GEAR_CTL a) (putF w F.AXIS_GEAR_CTL.DISENGAGE 1))

/-- TRACK_SET (R313): a write of TRACK_SET_LO. -/
def execTrackSet (ses t : Nat) (w : Word) (s : State) : Host.Outcome State Fault Refusal :=
  s.runIf (decide (t < 256)) (fun d => d.hostWrite ses (R.TRACK_SET_LO t) w)

/-- TRACK_CORR (R314): a write of TRACK_CORR. -/
def execTrackCorr (ses t : Nat) (w : Word) (s : State) : Host.Outcome State Fault Refusal :=
  s.runIf (decide (t < 256)) (fun d => d.hostWrite ses (R.TRACK_CORR t) w)

/-- TRACK_CLRINV (R315): a write of TRACK_CTL with CLRINV = 1. -/
def execTrackClrinv (ses t : Nat) (w : Word) (s : State) : Host.Outcome State Fault Refusal :=
  s.runIf (decide (t < 256)) (fun d => d.hostWrite ses (R.TRACK_CTL t) (putF w F.TRACK_CTL.CLRINV 1))

/-- VM_RUN_WRITE (R316): a write of VM_CTL. -/
def execVmRunWrite (ses v : Nat) (w : Word) (s : State) : Host.Outcome State Fault Refusal :=
  s.runIf (decide (v < 64)) (fun d => d.hostWrite ses (R.VM_CTL v) w)

/-- VM_SET (R316): a write of VM_SET_LO. -/
def execVmSet (ses v : Nat) (w : Word) (s : State) : Host.Outcome State Fault Refusal :=
  s.runIf (decide (v < 64)) (fun d => d.hostWrite ses (R.VM_SET_LO v) w)

/-- HOLD (R349): a write of ARM_CTL with HOLD = 1. -/
def execHold (ses m : Nat) (w : Word) (s : State) : Host.Outcome State Fault Refusal :=
  s.runIf (decide (m < 12)) (fun d => d.hostWrite ses (R.ARM_CTL m) (putF w F.ARM_CTL.HOLD 1))

/-- ARM_RESUME (R349): a write of ARM_CTL with RESUME = 1. -/
def execArmResume (ses m : Nat) (w : Word) (s : State) : Host.Outcome State Fault Refusal :=
  s.runIf (decide (m < 12)) (fun d => d.hostWrite ses (R.ARM_CTL m) (putF w F.ARM_CTL.RESUME 1))

/-- ARM_FLUSH (R349): a write of ARM_CTL with FLUSH = 1. -/
def execArmFlush (ses m : Nat) (w : Word) (s : State) : Host.Outcome State Fault Refusal :=
  s.runIf (decide (m < 12)) (fun d => d.hostWrite ses (R.ARM_CTL m) (putF w F.ARM_CTL.FLUSH 1))

/-- TALL_FLUSH (R385): a write of TALL_CTL with FLUSH = 1. -/
def execTallFlush (ses : Nat) (w : Word) (s : State) : Host.Outcome State Fault Refusal :=
  s.run (fun d => d.hostWrite ses R.TALL_CTL (putF w F.TALL_CTL.FLUSH 1))

/-- TALL_CLRMAX (R385): a write of TALL_CTL with CLRMAX = 1. -/
def execTallClrmax (ses : Nat) (w : Word) (s : State) : Host.Outcome State Fault Refusal :=
  s.run (fun d => d.hostWrite ses R.TALL_CTL (putF w F.TALL_CTL.CLRMAX 1))

/-- CLRFAIL (R406): a write of GORSE_CTL with CLRFAIL = 1. -/
def execClrfail (ses : Nat) (w : Word) (s : State) : Host.Outcome State Fault Refusal :=
  s.run (fun d => d.hostWrite ses R.GORSE_CTL (putF w F.GORSE_CTL.CLRFAIL 1))

/-- GORSE_CLRMAX (R409): a write of GORSE_CTL with CLRMAX = 1. -/
def execGorseClrmax (ses : Nat) (w : Word) (s : State) : Host.Outcome State Fault Refusal :=
  s.run (fun d => d.hostWrite ses R.GORSE_CTL (putF w F.GORSE_CTL.CLRMAX 1))

/-- CAPEN_WRITE (R393): a write of GORSE_ARM_CAPEN. -/
def execCapenWrite (ses m : Nat) (w : Word) (s : State) : Host.Outcome State Fault Refusal :=
  s.runIf (decide (m < 12)) (fun d => d.hostWrite ses (R.GORSE_ARM_CAPEN m) w)

/-- SAFE_ACK_WRITE (R448): a write of SAFE_CTL with ACK = 1. -/
def execSafeAckWrite (ses : Nat) (w : Word) (s : State) : Host.Outcome State Fault Refusal :=
  s.run (fun d => d.hostWrite ses R.SAFE_CTL (putF w F.SAFE_CTL.ACK 1))

/-- REARM (R468): a write of DIO_BANK_CTL with REARM = 1. -/
def execRearm (ses b : Nat) (w : Word) (s : State) : Host.Outcome State Fault Refusal :=
  s.runIf (decide (b < 4)) (fun d => d.hostWrite ses (R.DIO_BANK_CTL b) (putF w F.DIO_BANK_CTL.REARM 1))

/-- WDRESUME (R469): a write of DIO_BANK_CTL with WDRESUME = 1. -/
def execWdresume (ses b : Nat) (w : Word) (s : State) : Host.Outcome State Fault Refusal :=
  s.runIf (decide (b < 4)) (fun d => d.hostWrite ses (R.DIO_BANK_CTL b) (putF w F.DIO_BANK_CTL.WDRESUME 1))

/-- CLRTHERM (R464): a write of DIO_THCLR. -/
def execClrtherm (ses b : Nat) (w : Word) (s : State) : Host.Outcome State Fault Refusal :=
  s.runIf (decide (b < 4)) (fun d => d.hostWrite ses (R.DIO_THCLR b) w)

/-- DIO_OUT_WRITE (R462): a write of DIO_OUT. -/
def execDioOutWrite (ses b : Nat) (w : Word) (s : State) : Host.Outcome State Fault Refusal :=
  s.runIf (decide (b < 4)) (fun d => d.hostWrite ses (R.DIO_OUT b) w)

/-- DIO_OUT_SET_WRITE (R462): a write of DIO_OUT_SET. -/
def execDioOutSetWrite (ses b : Nat) (w : Word) (s : State) : Host.Outcome State Fault Refusal :=
  s.runIf (decide (b < 4)) (fun d => d.hostWrite ses (R.DIO_OUT_SET b) w)

/-- DIO_OUT_CLR_WRITE (R462): a write of DIO_OUT_CLR. -/
def execDioOutClrWrite (ses b : Nat) (w : Word) (s : State) : Host.Outcome State Fault Refusal :=
  s.runIf (decide (b < 4)) (fun d => d.hostWrite ses (R.DIO_OUT_CLR b) w)

/-- RECOVER (R489): a write of CAN_CTL with RECOVER = 1. -/
def execRecover (ses c : Nat) (w : Word) (s : State) : Host.Outcome State Fault Refusal :=
  s.runIf (decide (c < 8)) (fun d => d.hostWrite ses (R.CAN_CTL c) (putF w F.CAN_CTL.RECOVER 1))

/-- CLASHCLR (R491): a write of CAN_CTL with CLASHCLR = 1. -/
def execClashclr (ses c : Nat) (w : Word) (s : State) : Host.Outcome State Fault Refusal :=
  s.runIf (decide (c < 8)) (fun d => d.hostWrite ses (R.CAN_CTL c) (putF w F.CAN_CTL.CLASHCLR 1))

/-- RATERESTART (R481): a write of CAN_CTL with RATERESTART = 1. -/
def execRaterestart (ses c : Nat) (w : Word) (s : State) : Host.Outcome State Fault Refusal :=
  s.runIf (decide (c < 8)) (fun d => d.hostWrite ses (R.CAN_CTL c) (putF w F.CAN_CTL.RATERESTART 1))

/-- CAP_ARM (R504): a write of CAP_CTL with ARM = 1. -/
def execCapArm (ses : Nat) (w : Word) (s : State) : Host.Outcome State Fault Refusal :=
  s.run (fun d => d.hostWrite ses R.CAP_CTL (putF w F.CAP_CTL.ARM 1))

/-- CAP_STOP (R514): a write of CAP_CTL with STOP = 1. -/
def execCapStop (ses : Nat) (w : Word) (s : State) : Host.Outcome State Fault Refusal :=
  s.run (fun d => d.hostWrite ses R.CAP_CTL (putF w F.CAP_CTL.STOP 1))

/-- CAP_FORCE (R506): a write of CAP_CTL with FORCE = 1. -/
def execCapForce (ses : Nat) (w : Word) (s : State) : Host.Outcome State Fault Refusal :=
  s.run (fun d => d.hostWrite ses R.CAP_CTL (putF w F.CAP_CTL.FORCE 1))

/-- CAP_CLR (R514): a write of CAP_CTL with CLR = 1. -/
def execCapClr (ses : Nat) (w : Word) (s : State) : Host.Outcome State Fault Refusal :=
  s.run (fun d => d.hostWrite ses R.CAP_CTL (putF w F.CAP_CTL.CLR 1))

/-- EVT_CLEAR (R535): a write of EVT_CTL with CLEAR = 1. -/
def execEvtClear (ses : Nat) (w : Word) (s : State) : Host.Outcome State Fault Refusal :=
  s.run (fun d => d.hostWrite ses R.EVT_CTL (putF w F.EVT_CTL.CLEAR 1))

/-- NEXT (R526): a write of EVT_CTL with NEXT = 1. -/
def execNext (ses : Nat) (w : Word) (s : State) : Host.Outcome State Fault Refusal :=
  s.run (fun d => d.hostWrite ses R.EVT_CTL (putF w F.EVT_CTL.NEXT 1))

/-- SWITCH (R557): a write of PAIR_CTL with SWITCH = 1. -/
def execSwitch (ses : Nat) (w : Word) (s : State) : Host.Outcome State Fault Refusal :=
  s.run (fun d => d.hostWrite ses R.PAIR_CTL (putF w F.PAIR_CTL.SWITCH 1))

/-- PAIR_RESYNC_WRITE (R560): a write of PAIR_CTL with RESYNC = 1. -/
def execPairResyncWrite (ses : Nat) (w : Word) (s : State) : Host.Outcome State Fault Refusal :=
  s.run (fun d => d.hostWrite ses R.PAIR_CTL (putF w F.PAIR_CTL.RESYNC 1))

/-- APPLY (R583): a write of HOST_CTL with APPLY = 1. -/
def execApply (ses : Nat) (w : Word) (s : State) : Host.Outcome State Fault Refusal :=
  s.run (fun d => d.hostWrite ses R.HOST_CTL (putF w F.HOST_CTL.APPLY 1))

/-- LOCK (R599): a write of SEC_CTL with LOCK = 1. -/
def execLock (ses : Nat) (w : Word) (s : State) : Host.Outcome State Fault Refusal :=
  s.run (fun d => d.hostWrite ses R.SEC_CTL (putF w F.SEC_CTL.LOCK 1))

/-- ENDSVC (R599): a write of SEC_CTL with ENDSVC = 1. -/
def execEndsvc (ses : Nat) (w : Word) (s : State) : Host.Outcome State Fault Refusal :=
  s.run (fun d => d.hostWrite ses R.SEC_CTL (putF w F.SEC_CTL.ENDSVC 1))

/-- DBGCLOSE (R603): a write of SEC_CTL with DBGCLOSE = 1. -/
def execDbgclose (ses : Nat) (w : Word) (s : State) : Host.Outcome State Fault Refusal :=
  s.run (fun d => d.hostWrite ses R.SEC_CTL (putF w F.SEC_CTL.DBGCLOSE 1))

/-- PWR_LATTOL_WRITE (R608): a write of PWR_LATTOL. -/
def execPwrLattolWrite (ses : Nat) (w : Word) (s : State) : Host.Outcome State Fault Refusal :=
  s.run (fun d => d.hostWrite ses R.PWR_LATTOL w)

/-- WARM_RESET_REQ (R619): a write of SYS_RST_CTL with WARM = 1. -/
def execWarmResetReq (ses : Nat) (w : Word) (s : State) : Host.Outcome State Fault Refusal :=
  s.run (fun d => d.hostWrite ses R.SYS_RST_CTL (putF w F.SYS_RST_CTL.WARM 1))

/-- DIO_FLT_CLEAR (R466): a write of DIO_FLT_A, or of DIO_FLT_B. -/
def execDioFltClear (ses b : Nat) (hi : Bool) (w : Word) (s : State) : Host.Outcome State Fault Refusal :=
  s.runIf (decide (b < 4)) (fun d => d.hostWrite ses (if hi then R.DIO_FLT_B b else R.DIO_FLT_A b) w)

/-- RETEST (R528): a write of EVT_CTL with RETEST = 1; `bad` are the regions whose cells fail at present. -/
def execRetest (ses : Nat) (bad : List Nat) (w : Word) (s : State) : Host.Outcome State Fault Refusal :=
  s.run (fun d => ({ d with bureau := { d.bureau with badRegions := bad } } : Dev).hostWrite ses R.EVT_CTL (putF w F.EVT_CTL.RETEST 1))

/-- R145: a PARAMS region holds a word of an engine's memory (0 X, 1 Y). -/
def Dev.paramsHold (d : Dev) (e mem a : Nat) : Bool :=
  d.img.params.any (fun p => p.engine == e && p.mem == mem && decide (p.addr ≤ a) && decide (a < p.addr + p.len / 4))

/-- R145: a host write of a word of an engine's memory goes to the shadow copy of its PARAMS region. -/
def Dev.paramsWrite (d : Dev) (ses e mem a : Nat) (w : Word) : Dev :=
  let st := lowest [need (match tget? d.host.sess ses with | some x => x.ctl | none => false) .denied, need (d.paramsHold e mem a) .denied,
    need (!d.isStandby) .denied, need (!d.handingOver) .busy, need (!d.inSwitch) .busy, need (d.blkOn .ce) .notReady]
  if st = .ok then
    let keep := d.loader.shadow.filter (fun x => !(x.1 == e && x.2.1 == mem && x.2.2.1 == a))
    (d.setLoader { d.loader with shadow := keep ++ [(e, mem, a, w)], pendingParams := d.loader.pendingParams ++ [(e, mem, a, w)] }).answer .ok
  else d.answer st

/-- PARAMS_WRITE (R145): a word of an engine's X or Y memory. -/
def execParamsWrite (ses e mem a : Nat) (w : Word) (s : State) : Host.Outcome State Fault Refusal :=
  s.runIf (decide (e < 16) && decide (mem < 2)) (fun d => d.paramsWrite ses e mem a w)

end Sys2Proof.Machine
end

