-- ==== Sys2Proof/Machine/Tick.lean ====
section
/-! DEFINITION. The base tick (R29, R31, R43): local samples are latched, the engines' utilisation is taken, and what waits for a boundary
of the base tick goes on. -/

namespace Sys2Proof.Machine

open Sys2Proof

/-- R43: the clocks until the next base tick begins: the first clock in which TIME_NS has reached the next multiple of 31,250. -/
def Dev.clksToTick (d : Dev) : Nat :=
  let target : Nat := (d.time.tick + 1) * 31250 * 2 ^ 32
  let step : Nat := (2 * 2 ^ 32 + 2 * d.rate).toNat
  if target ≤ d.time.tns then 0 else (target - d.time.tns + step - 1) / step

/-- R187: the busy share of the tick that has ended, its maximum, and that of the last 4 ms. -/
def Dev.engUtil (d : Dev) (e : Nat) : Dev :=
  let x := d.eng e
  let pm := min (x.busy * 1000 / 31250) 1000
  let r := R.CE_UTIL e
  let top := max x.util pm
  let d1 := if d.fld r F.CE_UTIL.MAXPM < pm then d.setFld r F.CE_UTIL.MAXPM pm else d
  if d.time.tick % 128 == 0 then (d1.setFld r F.CE_UTIL.LASTPM top).setEng e { x with busy := 0, util := 0 }
  else if x.busy == 0 && top == x.util then d1 else d1.setEng e { x with busy := 0, util := top }

/-- The base tick that begins: R31 stage 1 for the local encoders, the probes and the sigma-delta inputs, and what is done at its boundary. `sd` holds the
modulator bits that the inputs have given since the last base tick: connector, input, bits, oldest first. -/
def Dev.tickBegins (d : Dev) (sd : List (Nat × Nat × List Bool)) : Dev :=
  let s := d.pstate
  let d1 := d.setFld R.CLK_STAT F.CLK_STAT.PLLLOCK 1
  let d2 := d1.when (decide (s < 4)) (fun d => (d.each (List.range 32) Dev.encLatch).each (List.range 16) Dev.probeSample)
  let inputs := (List.range 8).flatMap (fun c => (List.range 13).map (fun j => (c, j)))
  let d3 := d2.when (decide (s < 3)) (fun d =>
    (d.each sd (fun d e => if e.1 < 8 && e.2.1 < 13 then d.sdBits e.1 e.2.1 e.2.2 else d)).each inputs (fun d e => d.sdLatch e.1 e.2))
  let d4 := d3.when (decide (s < 3)) (fun d => (d.each d.img.axes Dev.sampleAxis).each (List.range 16) Dev.engUtil)
  -- R116: what a line is used for is judged again at each 4 ms boundary
  let d5 := (d4.when (d.time.tick % 128 == 0) (fun d => d.holdLines s)).when (d.time.tick % 16 == 0) Dev.gorseSample
  d5.beginListening

/-- BASE_TICK (R43): the clocks pass up to the one in which the next base tick begins, and it begins. -/
def Dev.baseTick (d : Dev) (sd : List (Nat × Nat × List Bool)) : Dev :=
  let d1 := (d.passFil (d.fil.length + 1) d.clksToTick).linkPasses
  let d2 : Dev := { d1 with time := { d1.time with tick := d1.ns / 31250 } }
  if d2.sys.off then d2 else (d2.canBeginAll).tickBegins sd

/-- One clock of CK_FAB passes. A CAN channel that may send begins its next frame. -/
def Dev.clockPasses (d : Dev) : Dev :=
  let d1 := (d.passFil 1 1).linkPasses
  if d1.sys.off then d1 else d1.canBeginAll

/-! ### Commands -/

/-- BASE_TICK (R43). -/
def execBaseTick (sd : List (Nat × Nat × List Bool)) (s : State) : Host.Outcome State Fault Refusal := s.runAny (fun d => d.baseTick sd)

end Sys2Proof.Machine
end

