-- ==== Sys2Proof/Machine/Dispatch.lean ====
section
/-! DEFINITION. The dispatch: one arm per command, each one call of its meaning. -/

namespace Sys2Proof.Machine

open Sys2Proof

/-- The effect of a command on everything but the queue of waiting commands. -/
def exec (i : Instr) (s : State) : Host.Outcome State Fault Refusal :=
  match i with
  | .regWriteOther ses addr w => Sys2Proof.Machine.execRegWriteOther ses addr w s
  | .loReadLatch ses addr => Sys2Proof.Machine.execLoReadLatch ses addr s
  | .hiWriteHold ses addr w => Sys2Proof.Machine.execHiWriteHold ses addr w s
  | .loWriteCommit ses addr w => Sys2Proof.Machine.execLoWriteCommit ses addr w s
  | .counterReadClear ses addr => Sys2Proof.Machine.execCounterReadClear ses addr s
  | .coldReset cut => Sys2Proof.Machine.execColdReset cut s
  | .pinReset ns => Sys2Proof.Machine.execPinReset ns s
  | .warmResetReq ses w => Sys2Proof.Machine.execWarmResetReq ses w s
  | .warmReset => Sys2Proof.Machine.execWarmReset s
  | .watchdogReset => Sys2Proof.Machine.execWatchdogReset s
  | .watchdogService => Sys2Proof.Machine.execWatchdogService s
  | .bootCheckComplete => Sys2Proof.Machine.execBootCheckComplete s
  | .baseTick sd => Sys2Proof.Machine.execBaseTick sd s
  | .extRefLost => Sys2Proof.Machine.execExtRefLost s
  | .extRefRestored => Sys2Proof.Machine.execExtRefRestored s
  | .refselWrite ses w => Sys2Proof.Machine.execRefselWrite ses w s
  | .stepWindowExpiry => Sys2Proof.Machine.execStepWindowExpiry s
  | .close ses w => Sys2Proof.Machine.execClose ses w s
  | .stepwinWrite ses w => Sys2Proof.Machine.execStepwinWrite ses w s
  | .timeStepWrite ses w => Sys2Proof.Machine.execTimeStepWrite ses w s
  | .timeRateWrite ses w => Sys2Proof.Machine.execTimeRateWrite ses w s
  | .ptpAnnounce m data logInt utc => Sys2Proof.Machine.execPtpAnnounce m data logInt utc s
  | .ptpSync m logInt twoStep t1 => Sys2Proof.Machine.execPtpSync m logInt twoStep t1 s
  | .ptpFollowUp m t1 => Sys2Proof.Machine.execPtpFollowUp m t1 s
  | .delayReqSend => Sys2Proof.Machine.execDelayReqSend s
  | .ptpDelayResp m resp => Sys2Proof.Machine.execPtpDelayResp m resp s
  | .announceTimeout => Sys2Proof.Machine.execAnnounceTimeout s
  | .cmpArm ses k w => Sys2Proof.Machine.execCmpArm ses k w s
  | .cmpDisarm ses k w => Sys2Proof.Machine.execCmpDisarm ses k w s
  | .cmpFire => Sys2Proof.Machine.execCmpFire s
  | .cmpStatRead ses k => Sys2Proof.Machine.execCmpStatRead ses k s
  | .linkUp p => Sys2Proof.Machine.execLinkUp p s
  | .linkDown p => Sys2Proof.Machine.execLinkDown p s
  | .lineStart ses p w => Sys2Proof.Machine.execLineStart ses p w s
  | .lineStop ses p w => Sys2Proof.Machine.execLineStop ses p w s
  | .redisc ses p w => Sys2Proof.Machine.execRedisc ses p w s
  | .listenExpiry => Sys2Proof.Machine.execListenExpiry s
  | .foreignCycleStart p w => Sys2Proof.Machine.execForeignCycleStart p w s
  | .clashBackoffExpiry => Sys2Proof.Machine.execClashBackoffExpiry s
  | .cycleStart p => Sys2Proof.Machine.execCycleStart p s
  | .cycleEndMarkerSend p => Sys2Proof.Machine.execCycleEndMarkerSend p s
  | .markerReturn p head crc tail => Sys2Proof.Machine.execMarkerReturn p head crc tail s
  | .linkDownFrame p w => Sys2Proof.Machine.execLinkDownFrame p w s
  | .slotArrival p ix f => Sys2Proof.Machine.execSlotArrival p ix f s
  | .slotStale p ix => Sys2Proof.Machine.execSlotStale p ix s
  | .nodeLost p ix => Sys2Proof.Machine.execNodeLost p ix s
  | .fallowWindow p => Sys2Proof.Machine.execFallowWindow p s
  | .delayProbeCycle p => Sys2Proof.Machine.execDelayProbeCycle p s
  | .delayRpt p ix head tail => Sys2Proof.Machine.execDelayRpt p ix head tail s
  | .joinReq p head body crc tail => Sys2Proof.Machine.execJoinReq p head body crc tail s
  | .testSlot p ix err w => Sys2Proof.Machine.execTestSlot p ix err w s
  | .joinTimeout p ix => Sys2Proof.Machine.execJoinTimeout p ix s
  | .joinSuspendEnd => Sys2Proof.Machine.execJoinSuspendEnd s
  | .ringRestore p => Sys2Proof.Machine.execRingRestore p s
  | .relayBlk p cycle blocks => Sys2Proof.Machine.execRelayBlk p cycle blocks s
  | .relaySlot p ix f => Sys2Proof.Machine.execRelaySlot p ix f s
  | .mbxUp p head body tail => Sys2Proof.Machine.execMbxUp p head body tail s
  | .cycleMark p m => Sys2Proof.Machine.execCycleMark p m s
  | .grpReq ses g w => Sys2Proof.Machine.execGrpReq ses g w s
  | .grpStaged p head body crc tail => Sys2Proof.Machine.execGrpStaged p head body crc tail s
  | .grpStageDeadline g => Sys2Proof.Machine.execGrpStageDeadline g s
  | .grpApplyBoundary g => Sys2Proof.Machine.execGrpApplyBoundary g s
  | .grpApplyRpt p head body crc tail => Sys2Proof.Machine.execGrpApplyRpt p head body crc tail s
  | .grpRetry g => Sys2Proof.Machine.execGrpRetry g s
  | .grpConverge g => Sys2Proof.Machine.execGrpConverge g s
  | .lineResume => Sys2Proof.Machine.execLineResume s
  | .imageCheck ses w => Sys2Proof.Machine.execImageCheck ses w s
  | .checkComplete => Sys2Proof.Machine.execCheckComplete s
  | .activate ses w => Sys2Proof.Machine.execActivate ses w s
  | .erase ses w => Sys2Proof.Machine.execErase ses w s
  | .keepitemsStillCheck => Sys2Proof.Machine.execKeepitemsStillCheck s
  | .activationSwitch => Sys2Proof.Machine.execActivationSwitch s
  | .activationCommit => Sys2Proof.Machine.execActivationCommit s
  | .activationRelease => Sys2Proof.Machine.execActivationRelease s
  | .paramsWrite ses e mem a w => Sys2Proof.Machine.execParamsWrite ses e mem a w s
  | .taskRelease t ms => Sys2Proof.Machine.execTaskRelease t ms s
  | .bundleIssue e err => Sys2Proof.Machine.execBundleIssue e err s
  | .taskDeadline t => Sys2Proof.Machine.execTaskDeadline t s
  | .ceResume ses e w => Sys2Proof.Machine.execCeResume ses e w s
  | .ceClrmax ses e w => Sys2Proof.Machine.execCeClrmax ses e w s
  | .engineHalt e => Sys2Proof.Machine.execEngineHalt e s
  | .engineStep e err => Sys2Proof.Machine.execEngineStep e err s
  | .engineResume e => Sys2Proof.Machine.execEngineResume e s
  | .breakpointSet e pc => Sys2Proof.Machine.execBreakpointSet e pc s
  | .axisEnable ses a w => Sys2Proof.Machine.execAxisEnable ses a w s
  | .axisDisable ses a w => Sys2Proof.Machine.execAxisDisable ses a w s
  | .manOn ses a w => Sys2Proof.Machine.execManOn ses a w s
  | .manOff ses a w => Sys2Proof.Machine.execManOff ses a w s
  | .bankWrite ses a w => Sys2Proof.Machine.execBankWrite ses a w s
  | .lawWrite ses a lvl w => Sys2Proof.Machine.execLawWrite ses a lvl w s
  | .clrflt ses a w => Sys2Proof.Machine.execClrflt ses a w s
  | .filterCommit ses a k w => Sys2Proof.Machine.execFilterCommit ses a k w s
  | .stopComplete a => Sys2Proof.Machine.execStopComplete a s
  | .plausibilitySample a => Sys2Proof.Machine.execPlausibilitySample a s
  | .classFOutputTake a lvl => Sys2Proof.Machine.execClassFOutputTake a lvl s
  | .downstreamTake p relayed => Sys2Proof.Machine.execDownstreamTake p relayed s
  | .reloadSample c => Sys2Proof.Machine.execReloadSample c s
  | .pwmPeriodStart c => Sys2Proof.Machine.execPwmPeriodStart c s
  | .delayLineCal c map => Sys2Proof.Machine.execDelayLineCal c map s
  | .pwmCmpLoWrite ses l w => Sys2Proof.Machine.execPwmCmpLoWrite ses l w s
  | .legCommit ses l w => Sys2Proof.Machine.execLegCommit ses l w s
  | .clracc ses l w => Sys2Proof.Machine.execClracc ses l w s
  | .swnEdge l low ns => Sys2Proof.Machine.execSwnEdge l low ns s
  | .swnMiss l => Sys2Proof.Machine.execSwnMiss l s
  | .tripActive c t high => Sys2Proof.Machine.execTripActive c t high s
  | .carrierRemoved c => Sys2Proof.Machine.execCarrierRemoved c s
  | .carrierInserted c => Sys2Proof.Machine.execCarrierInserted c s
  | .sdLoss c j => Sys2Proof.Machine.execSdLoss c j s
  | .sdLossClear c j => Sys2Proof.Machine.execSdLossClear c j s
  | .quadTransition k a b => Sys2Proof.Machine.execQuadTransition k a b s
  | .hallChange k a bc => Sys2Proof.Machine.execHallChange k a bc s
  | .ssiFrameStart k => Sys2Proof.Machine.execSsiFrameStart k s
  | .ssiFrameEnd k td data err par high => Sys2Proof.Machine.execSsiFrameEnd k td data err par high s
  | .speedWindow k => Sys2Proof.Machine.execSpeedWindow k s
  | .probeEdge p high => Sys2Proof.Machine.execProbeEdge p high s
  | .probeArm ses p w => Sys2Proof.Machine.execProbeArm ses p w s
  | .probeDisarm ses p w => Sys2Proof.Machine.execProbeDisarm ses p w s
  | .prbPosRead ses p => Sys2Proof.Machine.execPrbPosRead ses p s
  | .remoteEncoderCycle r => Sys2Proof.Machine.execRemoteEncoderCycle r s
  | .encOvercurrent c => Sys2Proof.Machine.execEncOvercurrent c s
  | .restore ses w => Sys2Proof.Machine.execRestore ses w s
  | .encClrinv ses k w => Sys2Proof.Machine.execEncClrinv ses k w s
  | .encPreset ses k w => Sys2Proof.Machine.execEncPreset ses k w s
  | .go ses a w => Sys2Proof.Machine.execGo ses a w s
  | .halt ses a w => Sys2Proof.Machine.execHalt ses a w s
  | .engage ses a w => Sys2Proof.Machine.execEngage ses a w s
  | .gearArm ses a w => Sys2Proof.Machine.execGearArm ses a w s
  | .gearCancel ses a w => Sys2Proof.Machine.execGearCancel ses a w s
  | .disengage ses a w => Sys2Proof.Machine.execDisengage ses a w s
  | .setpointUpdate a => Sys2Proof.Machine.execSetpointUpdate a s
  | .trackUpdate => Sys2Proof.Machine.execTrackUpdate s
  | .trkMasterLost t => Sys2Proof.Machine.execTrkMasterLost t s
  | .trackSet ses t w => Sys2Proof.Machine.execTrackSet ses t w s
  | .trackCorr ses t w => Sys2Proof.Machine.execTrackCorr ses t w s
  | .trackClrinv ses t w => Sys2Proof.Machine.execTrackClrinv ses t w s
  | .vmUpdate => Sys2Proof.Machine.execVmUpdate s
  | .vmRunWrite ses v w => Sys2Proof.Machine.execVmRunWrite ses v w s
  | .vmSet ses v w => Sys2Proof.Machine.execVmSet ses v w s
  | .armSeg src m => Sys2Proof.Machine.execArmSeg src m s
  | .pathPeriod m => Sys2Proof.Machine.execPathPeriod m s
  | .hold ses m w => Sys2Proof.Machine.execHold ses m w s
  | .armResume ses m w => Sys2Proof.Machine.execArmResume ses m w s
  | .armFlush ses m w => Sys2Proof.Machine.execArmFlush ses m w s
  | .itemAdd src m => Sys2Proof.Machine.execItemAdd src m s
  | .actArm src m => Sys2Proof.Machine.execActArm src m s
  | .actCancel src m => Sys2Proof.Machine.execActCancel src m s
  | .itemRemove src m => Sys2Proof.Machine.execItemRemove src m s
  | .itemShift src m => Sys2Proof.Machine.execItemShift src m s
  | .itemRead src m => Sys2Proof.Machine.execItemRead src m s
  | .actionFiring => Sys2Proof.Machine.execActionFiring s
  | .pulseEnd k => Sys2Proof.Machine.execPulseEnd k s
  | .commitMeasure ix => Sys2Proof.Machine.execCommitMeasure ix s
  | .tackReceived o w => Sys2Proof.Machine.execTackReceived o w s
  | .tallFlush ses w => Sys2Proof.Machine.execTallFlush ses w s
  | .tallClrmax ses w => Sys2Proof.Machine.execTallClrmax ses w s
  | .itemWinRead ses k => Sys2Proof.Machine.execItemWinRead ses k s
  | .tallEcc isItem k => Sys2Proof.Machine.execTallEcc isItem k s
  | .gorseEvaluation us dup kat ecc => Sys2Proof.Machine.execGorseEvaluation us dup kat ecc s
  | .evalDeadline => Sys2Proof.Machine.execEvalDeadline s
  | .clrfail ses w => Sys2Proof.Machine.execClrfail ses w s
  | .gorseClrmax ses w => Sys2Proof.Machine.execGorseClrmax ses w s
  | .capenWrite ses m w => Sys2Proof.Machine.execCapenWrite ses m w s
  | .safetyCycle stofb xc => Sys2Proof.Machine.execSafetyCycle stofb xc s
  | .ackInputEdge => Sys2Proof.Machine.execAckInputEdge s
  | .safeAckWrite ses w => Sys2Proof.Machine.execSafeAckWrite ses w s
  | .processorFault cause => Sys2Proof.Machine.execProcessorFault cause s
  | .romCheck fwOk => Sys2Proof.Machine.execRomCheck fwOk s
  | .cpuSelfTest ok => Sys2Proof.Machine.execCpuSelfTest ok s
  | .safetyFragment c => Sys2Proof.Machine.execSafetyFragment c s
  | .safetyMessage c => Sys2Proof.Machine.execSafetyMessage c s
  | .safetyWatchdog c => Sys2Proof.Machine.execSafetyWatchdog c s
  | .safetySend c => Sys2Proof.Machine.execSafetySend c s
  | .fieldSample contacts rb limit lplus => Sys2Proof.Machine.execFieldSample contacts rb limit lplus s
  | .bankOff b => Sys2Proof.Machine.execBankOff b s
  | .rearm ses b w => Sys2Proof.Machine.execRearm ses b w s
  | .wdresume ses b w => Sys2Proof.Machine.execWdresume ses b w s
  | .fieldWdExpiry b => Sys2Proof.Machine.execFieldWdExpiry b s
  | .thermalShutdown k => Sys2Proof.Machine.execThermalShutdown k s
  | .thermalRestart k => Sys2Proof.Machine.execThermalRestart k s
  | .clrtherm ses b w => Sys2Proof.Machine.execClrtherm ses b w s
  | .testPulse k => Sys2Proof.Machine.execTestPulse k s
  | .dioOutWrite ses b w => Sys2Proof.Machine.execDioOutWrite ses b w s
  | .dioOutSetWrite ses b w => Sys2Proof.Machine.execDioOutSetWrite ses b w s
  | .dioOutClrWrite ses b w => Sys2Proof.Machine.execDioOutClrWrite ses b w s
  | .dioFltClear ses b hi w => Sys2Proof.Machine.execDioFltClear ses b hi w s
  | .dioCapRead ses k => Sys2Proof.Machine.execDioCapRead ses k s
  | .canFrameReceived c flags dlc id data ago edge => Sys2Proof.Machine.execCanFrameReceived c flags dlc id data ago edge s
  | .canRx c => Sys2Proof.Machine.execCanRx c s
  | .canTx src m => Sys2Proof.Machine.execCanTx src m s
  | .canCancel src m => Sys2Proof.Machine.execCanCancel src m s
  | .canTxEnd c r tdc quiet => Sys2Proof.Machine.execCanTxEnd c r tdc quiet s
  | .canRecovered c => Sys2Proof.Machine.execCanRecovered c s
  | .recover ses c w => Sys2Proof.Machine.execRecover ses c w s
  | .canLoneRetry c => Sys2Proof.Machine.execCanLoneRetry c s
  | .clashclr ses c w => Sys2Proof.Machine.execClashclr ses c w s
  | .canRateFail c => Sys2Proof.Machine.execCanRateFail c s
  | .raterestart ses c w => Sys2Proof.Machine.execRaterestart ses c w s
  | .capArm ses w => Sys2Proof.Machine.execCapArm ses w s
  | .capStop ses w => Sys2Proof.Machine.execCapStop ses w s
  | .capForce ses w => Sys2Proof.Machine.execCapForce ses w s
  | .capClr ses w => Sys2Proof.Machine.execCapClr ses w s
  | .captureSample raws fill lost => Sys2Proof.Machine.execCaptureSample raws fill lost s
  | .autoTrigger => Sys2Proof.Machine.execAutoTrigger s
  | .eventReceived code sev source data bad => Sys2Proof.Machine.execEventReceived code sev source data bad s
  | .mramTimeout => Sys2Proof.Machine.execMramTimeout s
  | .mramProbe answers => Sys2Proof.Machine.execMramProbe answers s
  | .mramCopyDone bad => Sys2Proof.Machine.execMramCopyDone bad s
  | .evtClear ses w => Sys2Proof.Machine.execEvtClear ses w s
  | .retest ses bad w => Sys2Proof.Machine.execRetest ses bad w s
  | .next ses w => Sys2Proof.Machine.execNext ses w s
  | .evtWinRead place fails => Sys2Proof.Machine.execEvtWinRead place fails s
  | .pairHelloSend => Sys2Proof.Machine.execPairHelloSend s
  | .pairHello h ok => Sys2Proof.Machine.execPairHello h ok s
  | .mirrorSend => Sys2Proof.Machine.execMirrorSend s
  | .mirrorFrame f ok => Sys2Proof.Machine.execMirrorFrame f ok s
  | .pairAck tick want hand ok => Sys2Proof.Machine.execPairAck tick want hand ok s
  | .mirrorGapTimeout => Sys2Proof.Machine.execMirrorGapTimeout s
  | .syncreq ok => Sys2Proof.Machine.execSyncreq ok s
  | .pairLinkDelay rtt ofs => Sys2Proof.Machine.execPairLinkDelay rtt ofs s
  | .linkPathLost down => Sys2Proof.Machine.execLinkPathLost down s
  | .linePathLost => Sys2Proof.Machine.execLinePathLost s
  | .pairPathBack => Sys2Proof.Machine.execPairPathBack s
  | .standbyAckTimeout => Sys2Proof.Machine.execStandbyAckTimeout s
  | .switch ses w => Sys2Proof.Machine.execSwitch ses w s
  | .handover t ok => Sys2Proof.Machine.execHandover t ok s
  | .handoverBoundary => Sys2Proof.Machine.execHandoverBoundary s
  | .handoverAckTimeout => Sys2Proof.Machine.execHandoverAckTimeout s
  | .pairResyncWrite ses w => Sys2Proof.Machine.execPairResyncWrite ses w s
  | .sapexDatagram src m => Sys2Proof.Machine.execSapexDatagram src m s
  | .sessOpen src m => Sys2Proof.Machine.execSessOpen src m s
  | .sessClose src m => Sys2Proof.Machine.execSessClose src m s
  | .keepalive src m => Sys2Proof.Machine.execKeepalive src m s
  | .claim src m => Sys2Proof.Machine.execClaim src m s
  | .release src m => Sys2Proof.Machine.execRelease src m s
  | .force src m => Sys2Proof.Machine.execForce src m s
  | .queueOpen src m => Sys2Proof.Machine.execQueueOpen src m s
  | .queueClose src m => Sys2Proof.Machine.execQueueClose src m s
  | .hostAck src m => Sys2Proof.Machine.execHostAck src m s
  | .evtSub src m => Sys2Proof.Machine.execEvtSub src m s
  | .regRead src m => Sys2Proof.Machine.execRegRead src m s
  | .regWrite src m => Sys2Proof.Machine.execRegWrite src m s
  | .regRmw src m => Sys2Proof.Machine.execRegRmw src m s
  | .bulkOpen src m => Sys2Proof.Machine.execBulkOpen src m s
  | .bulkWrite src m => Sys2Proof.Machine.execBulkWrite src m s
  | .bulkRead src m => Sys2Proof.Machine.execBulkRead src m s
  | .bulkClose src m => Sys2Proof.Machine.execBulkClose src m s
  | .imageEraseDone slot => Sys2Proof.Machine.execImageEraseDone slot s
  | .bulkIdleTimeout slot h => Sys2Proof.Machine.execBulkIdleTimeout slot h s
  | .sessionTimeout slot => Sys2Proof.Machine.execSessionTimeout slot s
  | .hostHello => Sys2Proof.Machine.execHostHello s
  | .ackTimeout q => Sys2Proof.Machine.execAckTimeout q s
  | .apply ses w => Sys2Proof.Machine.execApply ses w s
  | .msExtend src m => Sys2Proof.Machine.execMsExtend src m s
  | .quote src m => Sys2Proof.Machine.execQuote src m s
  | .ownerSet src m => Sys2Proof.Machine.execOwnerSet src m s
  | .secChal src m => Sys2Proof.Machine.execSecChal src m s
  | .secToken src m => Sys2Proof.Machine.execSecToken src m s
  | .lock ses w => Sys2Proof.Machine.execLock ses w s
  | .endsvc ses w => Sys2Proof.Machine.execEndsvc ses w s
  | .dbgclose ses w => Sys2Proof.Machine.execDbgclose ses w s
  | .serviceExpiry => Sys2Proof.Machine.execServiceExpiry s
  | .debugPermitExpiry => Sys2Proof.Machine.execDebugPermitExpiry s
  | .debugRequest => Sys2Proof.Machine.execDebugRequest s
  | .debugRequestEnd => Sys2Proof.Machine.execDebugRequestEnd s
  | .tapInstruction ins => Sys2Proof.Machine.execTapInstruction ins s
  | .pwrLattolWrite ses w => Sys2Proof.Machine.execPwrLattolWrite ses w s
  | .powerStateEntry => Sys2Proof.Machine.execPowerStateEntry s
  | .powerExitComplete => Sys2Proof.Machine.execPowerExitComplete s
  | .powerFailWarning bulk => Sys2Proof.Machine.execPowerFailWarning bulk s
  | .pfPermitWithdraw => Sys2Proof.Machine.execPfPermitWithdraw s
  | .pfRecovered bulk => Sys2Proof.Machine.execPfRecovered bulk s
  | .tempMeasure t => Sys2Proof.Machine.execTempMeasure t s
  | .tempcritSupplyOff => Sys2Proof.Machine.execTempcritSupplyOff s
  | .overtempRestart => Sys2Proof.Machine.execOvertempRestart s
  | .fanFailure f => Sys2Proof.Machine.execFanFailure f s
  | .sfpInserted c typ => Sys2Proof.Machine.execSfpInserted c typ s
  | .sfpRemoved c => Sys2Proof.Machine.execSfpRemoved c s
  | .safeDiagComplete cause => Sys2Proof.Machine.execSafeDiagComplete cause s
  | .carrierIdReadDone c bytes => Sys2Proof.Machine.execCarrierIdReadDone c bytes s
  | .quoteComplete q => Sys2Proof.Machine.execQuoteComplete q s
  | .canBusIntegration c => Sys2Proof.Machine.execCanBusIntegration c s
  | .canRxFrameError c kind heavy => Sys2Proof.Machine.execCanRxFrameError c kind heavy s
  | .remoteActionCrossing ix => Sys2Proof.Machine.execRemoteActionCrossing ix s
  | .commitWindowExpiry ix => Sys2Proof.Machine.execCommitWindowExpiry ix s
  | .hostLinkUp p => Sys2Proof.Machine.execHostLinkUp p s
  | .hostLinkDown p => Sys2Proof.Machine.execHostLinkDown p s
  | .fanRestored f => Sys2Proof.Machine.execFanRestored f s
  | .arpRequest p v6 addr => Sys2Proof.Machine.execArpRequest p v6 addr s
  | .icmpEcho p v6 addr data => Sys2Proof.Machine.execIcmpEcho p v6 addr data s

end Sys2Proof.Machine
end

