-- ==== Sys2Proof/Machine/Step.lean ====
section
/-! DEFINITION. One step: the command at the front of the queue, or one clock of CK_FAB. -/

namespace Sys2Proof.Machine

open Sys2Proof

/-- What a step does with no command waiting: one clock of CK_FAB passes (notes/assumptions/2.md). -/
def State.idle (s : State) : Host.Outcome State Fault Refusal := s.runAny Dev.clockPasses

/-- A step: the command at the front of the queue acts on the state with the queue's rest; on an empty queue a clock passes. -/
def step (s : State) : Host.Outcome State Fault Refusal :=
  match s.pending with
  | [] => s.idle
  | c :: rest => exec c { s with pending := rest }

/-- The state with the command that a word of the table spells at the front of its queue; none of the rows has a word. -/
def State.withFetchWord (s : State) (nbits w : Nat) : State :=
  match decodeTableWord nbits w with
  | some c => { s with pending := c :: s.pending }
  | none => s

end Sys2Proof.Machine
end

