-- ==== Sys2Proof/WellFormed.lean ====
section
/-! DEFINITION. Well-formed commands: the numbers in their operands name objects that the unit has (R21). -/

namespace Sys2Proof

/-- R21: every object number of the command lies below its limit. What the active image configures is the meaning's to judge. -/
def Instr.wf (i : Instr) : Bool :=
  match i with
  | .regWriteOther _ _ _ => true
  | .loReadLatch _ _ => true
  | .hiWriteHold _ _ _ => true
  | .loWriteCommit _ _ _ => true
  | .counterReadClear _ _ => true
  | .coldReset _ => true
  | .pinReset _ => true
  | .warmResetReq _ _ => true
  | .baseTick _ => true
  | .refselWrite _ _ => true
  | .close _ _ => true
  | .stepwinWrite _ _ => true
  | .timeStepWrite _ _ => true
  | .timeRateWrite _ _ => true
  | .ptpAnnounce _ _ _ _ => true
  | .ptpSync _ _ _ _ => true
  | .ptpFollowUp _ _ => true
  | .ptpDelayResp _ _ => true
  | .cmpArm _ k _ => decide (k < 64)
  | .cmpDisarm _ k _ => decide (k < 64)
  | .cmpStatRead _ k => decide (k < 64)
  | .linkUp p => decide (p < 24)
  | .linkDown p => decide (p < 24)
  | .lineStart _ p _ => decide (p < 24)
  | .lineStop _ p _ => decide (p < 24)
  | .redisc _ p _ => decide (p < 24)
  | .foreignCycleStart p _ => decide (p < 24)
  | .cycleStart p => decide (p < 24)
  | .cycleEndMarkerSend p => decide (p < 24)
  | .markerReturn p _ _ _ => decide (p < 24)
  | .linkDownFrame p _ => decide (p < 24)
  | .slotArrival p i _ => decide (p < 24) && decide (i < 6144)
  | .slotStale p i => decide (p < 24) && decide (i < 6144)
  | .nodeLost p i => decide (p < 24) && decide (i < 6144)
  | .fallowWindow p => decide (p < 24)
  | .delayProbeCycle p => decide (p < 24)
  | .delayRpt p i _ _ => decide (p < 24) && decide (i < 6144)
  | .joinReq p _ _ _ _ => decide (p < 24)
  | .testSlot p i _ _ => decide (p < 24) && decide (i < 6144)
  | .joinTimeout p i => decide (p < 24) && decide (i < 6144)
  | .ringRestore p => decide (p < 24)
  | .relayBlk p _ _ => decide (p < 24)
  | .relaySlot p i _ => decide (p < 24) && decide (i < 6144)
  | .mbxUp p _ _ _ => decide (p < 24)
  | .cycleMark p m => decide (p < 24) && decide (m < 16)
  | .grpReq _ g _ => decide (g < 256)
  | .grpStaged p _ _ _ _ => decide (p < 24)
  | .grpStageDeadline g => decide (g < 256)
  | .grpApplyBoundary g => decide (g < 256)
  | .grpApplyRpt p _ _ _ _ => decide (p < 24)
  | .grpRetry g => decide (g < 256)
  | .grpConverge g => decide (g < 256)
  | .imageCheck _ _ => true
  | .activate _ _ => true
  | .erase _ _ => true
  | .paramsWrite _ e mem _ _ => decide (e < 16) && decide (mem < 2)
  | .taskRelease t _ => decide (t < 4096)
  | .bundleIssue e _ => decide (e < 16)
  | .taskDeadline t => decide (t < 4096)
  | .ceResume _ e _ => decide (e < 16)
  | .ceClrmax _ e _ => decide (e < 16)
  | .engineHalt e => decide (e < 16)
  | .engineStep e _ => decide (e < 16)
  | .engineResume e => decide (e < 16)
  | .breakpointSet e pc => decide (e < 16) && decide (pc < 32768)
  | .axisEnable _ a _ => decide (a < 8192)
  | .axisDisable _ a _ => decide (a < 8192)
  | .manOn _ a _ => decide (a < 8192)
  | .manOff _ a _ => decide (a < 8192)
  | .bankWrite _ a _ => decide (a < 8192)
  | .lawWrite _ a lvl _ => decide (a < 8192) && decide (lvl < 3)
  | .clrflt _ a _ => decide (a < 8192)
  | .filterCommit _ a k _ => decide (a < 8192) && decide (k < 8)
  | .stopComplete a => decide (a < 8192)
  | .plausibilitySample a => decide (a < 8192)
  | .classFOutputTake a lvl => decide (a < 8192) && decide (lvl < 3)
  | .downstreamTake p _ => decide (p < 24)
  | .reloadSample c => decide (c < 8)
  | .pwmPeriodStart c => decide (c < 8)
  | .delayLineCal c _ => decide (c < 8)
  | .pwmCmpLoWrite _ l _ => decide (l < 96)
  | .legCommit _ l _ => decide (l < 96)
  | .clracc _ l _ => decide (l < 96)
  | .swnEdge l _ _ => decide (l < 96)
  | .swnMiss l => decide (l < 96)
  | .tripActive c t _ => decide (c < 8) && decide (t < 4)
  | .carrierRemoved c => decide (c < 8)
  | .carrierInserted c => decide (c < 8)
  | .sdLoss c j => decide (c < 8) && decide (j < 13)
  | .sdLossClear c j => decide (c < 8) && decide (j < 13)
  | .quadTransition k _ _ => decide (k < 32)
  | .hallChange k _ _ => decide (k < 32)
  | .ssiFrameStart k => decide (k < 32)
  | .ssiFrameEnd k _ _ _ _ _ => decide (k < 32)
  | .speedWindow k => decide (k < 32)
  | .probeEdge p _ => decide (p < 16)
  | .probeArm _ p _ => decide (p < 16)
  | .probeDisarm _ p _ => decide (p < 16)
  | .prbPosRead _ p => decide (p < 16)
  | .remoteEncoderCycle r => decide (r < 256)
  | .encOvercurrent c => decide (c < 8)
  | .restore _ _ => true
  | .encClrinv _ k _ => decide (k < 32)
  | .encPreset _ k _ => decide (k < 32)
  | .go _ a _ => decide (a < 8192)
  | .halt _ a _ => decide (a < 8192)
  | .engage _ a _ => decide (a < 8192)
  | .gearArm _ a _ => decide (a < 8192)
  | .gearCancel _ a _ => decide (a < 8192)
  | .disengage _ a _ => decide (a < 8192)
  | .setpointUpdate a => decide (a < 8192)
  | .trkMasterLost t => decide (t < 256)
  | .trackSet _ t _ => decide (t < 256)
  | .trackCorr _ t _ => decide (t < 256)
  | .trackClrinv _ t _ => decide (t < 256)
  | .vmRunWrite _ v _ => decide (v < 64)
  | .vmSet _ v _ => decide (v < 64)
  | .armSeg _ _ => true
  | .pathPeriod m => decide (m < 12)
  | .hold _ m _ => decide (m < 12)
  | .armResume _ m _ => decide (m < 12)
  | .armFlush _ m _ => decide (m < 12)
  | .itemAdd _ _ => true
  | .actArm _ _ => true
  | .actCancel _ _ => true
  | .itemRemove _ _ => true
  | .itemShift _ _ => true
  | .itemRead _ _ => true
  | .pulseEnd k => decide (k < 64)
  | .commitMeasure i => decide (i < 262144)
  | .tackReceived o _ => decide (o < 8192)
  | .tallFlush _ _ => true
  | .tallClrmax _ _ => true
  | .itemWinRead _ k => decide (k < 16)
  | .tallEcc _ k => decide (k < 262144)
  | .gorseEvaluation _ _ _ _ => true
  | .clrfail _ _ => true
  | .gorseClrmax _ _ => true
  | .capenWrite _ m _ => decide (m < 12)
  | .safetyCycle _ _ => true
  | .safeAckWrite _ _ => true
  | .processorFault cause => decide (1 ≤ cause) && decide (cause ≤ 7)
  | .romCheck _ => true
  | .cpuSelfTest _ => true
  | .safetyFragment c => decide (c < 256)
  | .safetyMessage c => decide (c < 256)
  | .safetyWatchdog c => decide (c < 256)
  | .safetySend c => decide (c < 256)
  | .fieldSample _ _ _ _ => true
  | .bankOff b => decide (b < 4)
  | .rearm _ b _ => decide (b < 4)
  | .wdresume _ b _ => decide (b < 4)
  | .fieldWdExpiry b => decide (b < 4)
  | .thermalShutdown k => decide (k < 64)
  | .thermalRestart k => decide (k < 64)
  | .clrtherm _ b _ => decide (b < 4)
  | .testPulse k => decide (k < 64)
  | .dioOutWrite _ b _ => decide (b < 4)
  | .dioOutSetWrite _ b _ => decide (b < 4)
  | .dioOutClrWrite _ b _ => decide (b < 4)
  | .dioFltClear _ b _ _ => decide (b < 4)
  | .dioCapRead _ k => decide (k < 64)
  | .canFrameReceived c _ _ _ _ _ _ => decide (c < 8)
  | .canRx c => decide (c < 8)
  | .canTx _ _ => true
  | .canCancel _ _ => true
  | .canTxEnd c _ _ _ => decide (c < 8)
  | .canRecovered c => decide (c < 8)
  | .recover _ c _ => decide (c < 8)
  | .canLoneRetry c => decide (c < 8)
  | .clashclr _ c _ => decide (c < 8)
  | .canRateFail c => decide (c < 8)
  | .raterestart _ c _ => decide (c < 8)
  | .capArm _ _ => true
  | .capStop _ _ => true
  | .capForce _ _ => true
  | .capClr _ _ => true
  | .captureSample _ _ _ => true
  | .eventReceived code sev _ _ _ => decide (code < 65536) && decide (sev < 8)
  | .mramProbe _ => true
  | .mramCopyDone _ => true
  | .evtClear _ _ => true
  | .retest _ _ _ => true
  | .next _ _ => true
  | .evtWinRead place _ => decide (place.1 < 16) && decide (place.2 < 16)
  | .pairHello _ _ => true
  | .mirrorFrame _ _ => true
  | .pairAck _ _ _ _ => true
  | .syncreq _ => true
  | .pairLinkDelay _ _ => true
  | .linkPathLost _ => true
  | .switch _ _ => true
  | .handover _ _ => true
  | .pairResyncWrite _ _ => true
  | .sapexDatagram _ _ => true
  | .sessOpen _ _ => true
  | .sessClose _ _ => true
  | .keepalive _ _ => true
  | .claim _ _ => true
  | .release _ _ => true
  | .force _ _ => true
  | .queueOpen _ _ => true
  | .queueClose _ _ => true
  | .hostAck _ _ => true
  | .evtSub _ _ => true
  | .regRead _ _ => true
  | .regWrite _ _ => true
  | .regRmw _ _ => true
  | .bulkOpen _ _ => true
  | .bulkWrite _ _ => true
  | .bulkRead _ _ => true
  | .bulkClose _ _ => true
  | .imageEraseDone slot => decide (slot < 2)
  | .bulkIdleTimeout slot _ => decide (slot < 4)
  | .sessionTimeout slot => decide (slot < 4)
  | .ackTimeout q => decide (q < 128)
  | .apply _ _ => true
  | .msExtend _ _ => true
  | .quote _ _ => true
  | .ownerSet _ _ => true
  | .secChal _ _ => true
  | .secToken _ _ => true
  | .lock _ _ => true
  | .endsvc _ _ => true
  | .dbgclose _ _ => true
  | .tapInstruction _ => true
  | .pwrLattolWrite _ _ => true
  | .powerFailWarning _ => true
  | .pfRecovered _ => true
  | .tempMeasure _ => true
  | .fanFailure f => decide (f < 3)
  | .sfpInserted c _ => decide (c < 3)
  | .sfpRemoved c => decide (c < 3)
  | .safeDiagComplete cause => decide (cause ≤ 7)
  | .carrierIdReadDone c _ => decide (c < 8)
  | .quoteComplete q => decide (q < 128)
  | .canBusIntegration c => decide (c < 8)
  | .canRxFrameError c _ _ => decide (c < 8)
  | .remoteActionCrossing i => decide (i < 262144)
  | .commitWindowExpiry i => decide (i < 262144)
  | .hostLinkUp p => decide (p < 2)
  | .hostLinkDown p => decide (p < 2)
  | .fanRestored f => decide (f < 3)
  | .arpRequest p _ _ => decide (p < 2)
  | .icmpEcho p _ _ _ => decide (p < 2)
  | .warmReset => true
  | .watchdogReset => true
  | .watchdogService => true
  | .bootCheckComplete => true
  | .extRefLost => true
  | .extRefRestored => true
  | .stepWindowExpiry => true
  | .delayReqSend => true
  | .announceTimeout => true
  | .cmpFire => true
  | .listenExpiry => true
  | .clashBackoffExpiry => true
  | .joinSuspendEnd => true
  | .lineResume => true
  | .checkComplete => true
  | .keepitemsStillCheck => true
  | .activationSwitch => true
  | .activationCommit => true
  | .activationRelease => true
  | .trackUpdate => true
  | .vmUpdate => true
  | .actionFiring => true
  | .evalDeadline => true
  | .ackInputEdge => true
  | .autoTrigger => true
  | .mramTimeout => true
  | .pairHelloSend => true
  | .mirrorSend => true
  | .mirrorGapTimeout => true
  | .linePathLost => true
  | .pairPathBack => true
  | .standbyAckTimeout => true
  | .handoverBoundary => true
  | .handoverAckTimeout => true
  | .hostHello => true
  | .serviceExpiry => true
  | .debugPermitExpiry => true
  | .debugRequest => true
  | .debugRequestEnd => true
  | .powerStateEntry => true
  | .powerExitComplete => true
  | .pfPermitWithdraw => true
  | .tempcritSupplyOff => true
  | .overtempRestart => true

end Sys2Proof
end

