-- ==== Sys2Proof/Safety.lean ====
section
/-! DEFINITION. What every step keeps, in the terms that the statements use. -/

namespace Sys2Proof.Machine

open Sys2Proof

/-! ### A command that completes -/

/-- The regulated supply is on (R656). -/
abbrev State.On (s : State) : Prop := s.start.sys.off = false

/-- Command `i` answers a next state; its effect leaves the queue alone and leaves a device of which `P` holds. -/
def Runs (i : Instr) (s : State) (P : Dev → Prop) : Prop := ∃ t, exec i s = .next t ∧ t.pending = s.pending ∧ P t.dev

/-! ### The access of a session -/

/-- R7, R21, R579: a register exists, the object it belongs to is configured and its block runs. -/
abbrev Dev.Reachable (d : Dev) (r : Reg) : Prop := d.reach r.addr = (.ok, some r)

/-- R547, R557, R571, R662: the session in slot `ses` may write a register: it holds control, the unit is no standby and hands nothing
over, and no image switch is in progress. -/
abbrev Dev.MayWrite (d : Dev) (ses : Nat) (r : Reg) : Prop :=
  (tget? d.host.sess ses).any (fun x => x.ctl) = true ∧ d.isStandby = false ∧ d.handingOver = false ∧ d.inSwitch = false ∧ d.Reachable r

/-- The word that an accepted write of `w` leaves in a register, before what the write starts (R661). -/
def Dev.written (d : Dev) (r : Reg) (w : Word) : Word := mergeWord r.name.info (d.reg r) w (d.heldSet r)

/-- R9, R15, R661: no lock stands against the write of `w`, and every check of the register's own rules passes. -/
abbrev Dev.WriteOk (d : Dev) (r : Reg) (w : Word) : Prop :=
  (d.commit = false ∨ lockedChange r.name.info (d.reg r) w = false) ∧
  lowest (d.regCheck r (d.reg r) (d.written r w) w) = .ok

/-- The registers of which a write starts nothing beyond its own word: neither a half of a pair, nor one whose write acts. -/
def RegName.quiet (n : RegName) : Bool :=
  !n.info.readOnly && !n.isHi && n.hi? == none &&
  !([.SYS_RST_CTL, .CLK_CTL, .PWR_LATTOL, .SEC_CTL, .TIME_CTL, .TIME_CMP_CTL, .FAB_IMG_CTL, .SAFE_CTL, .EVT_CTL, .EVT_STAT, .PAIR_CTL, .HOST_CTL,
     .AXIS_CTL, .LVL_CFG, .FLT_CFG, .AXIS_MOT_CTL, .AXIS_MOT_VMAX, .AXIS_MOT_AMAX, .AXIS_MOT_DMAX, .AXIS_MOT_JMAX, .AXIS_GEAR_CTL, .CE_CTL,
     .PWM_DRV_CFG, .PWM_DRV_EXPTYPE, .PWM_TRIP_CFG, .PWM_LEG_CFG, .PWM_LEG_CTL, .FBK_ENC_PRESET, .FBK_ENC_CTL, .FBK_PRB_CTL, .FBK_SUP, .TRACK_CORR, .TRACK_CTL, .ARM_CTL,
     .TALL_CTL, .GORSE_CTL, .GORSE_ARM_CAPEN, .LINE_CTL, .GRP_REQ, .CAN_CFG, .CAN_DBT, .CAN_CTL, .CAN_FLT_MATCH, .CAN_FLT_MASK, .CAP_CTL, .DIO_BANK_CTL, .DIO_OUT,
     .DIO_OUT_SET, .DIO_OUT_CLR, .DIO_FLT_A, .DIO_FLT_B, .DIO_THCLR] : List RegName).contains n

/-- R8, R579: the session in slot `ses` may read a register. -/
abbrev Dev.MayRead (d : Dev) (ses : Nat) (r : Reg) : Prop := (tget? d.host.sess ses).isSome = true ∧ d.Reachable r

/-- R8: the 64-bit value that a session's write of `w` to a _LO register commits with the upper half that it holds, or with the present
one. -/
def Dev.pairValue (d : Dev) (ses : Nat) (lo hi : Reg) (w : Word) : Int :=
  signed 64 (w.toNat + 2 ^ 32 * ((((tget? d.host.sess ses).bind (fun x => tget? x.held hi.addr)).getD (d.presentHi lo hi)).toNat))

/-! ### The execution of a message -/

/-- R15, R547, R557, R569, R571, R576, R579: message `m`, of type `typ`, may be executed: it stands first in command queue `x`, it has the length of its
type, no answer is outstanding, and the answer of `space` units has room; the session is controlling or the message only reads; the unit is no standby, or
the message is one that a standby answers; it hands nothing over; and the block that the message needs runs. -/
abbrev Dev.Executes (d : Dev) (typ space : Nat) (m : List Byte) (x : Queue) : Prop :=
  uAt m 0 2 = typ ∧ ((queuedUnits typ).getD 0 = 0 ∨ uAt m 2 1 = (queuedUnits typ).getD 0) ∧
  d.queue? (uAt m 3 1) = some x ∧ x.stored.head? = some m ∧ x.wait = none ∧
  (d.queue? x.respQ).any (fun r => decide (space ≤ r.freeEntries)) = true ∧
  (d.isCtl x.slot = true ∨ readsOnly typ m = true ∨ typ = 0x0F32) ∧
  (d.isStandby = false ∨ readsOnly typ m = true ∨ typ = 0x0F11 ∨ typ = 0x0F12) ∧ d.handingOver = false ∧
  (msgBlk typ).all (fun b => d.blkOn b) = true

/-- R567, R576: the answer OK to message `m`, of which `p` holds, has left for the response queue of `x`. -/
abbrev Dev.Answered (e : Dev) (x : Queue) (m : List Byte) (p : List Byte → Bool) : Prop :=
  e.out.any (fun o => match o with
    | .placed q _ b => q == x.respQ && uAt b 0 2 == uAt m 0 2 + 0x80 && uAt b 6 1 == 0 && uAt b 12 4 == uAt m 8 4 && p b
    | _ => false) = true

/-- R546, R596: the answer OK to message `m` waits for the standby's acknowledgement or for a signature; `p` holds of its bytes from offset 16 on. -/
abbrev Dev.Awaits (e : Dev) (m : List Byte) (p : List Byte → Bool) : Prop :=
  (e.queue? (uAt m 3 1)).any (fun y => y.wait.any (fun w => w.status == 0 && w.ref == uAt m 8 4 && p w.body)) = true

/-- R541, R542: a frame of which `p` holds has left over the pairing link, or waits for it. -/
abbrev Dev.LinkSends (e : Dev) (p : Out → Bool) : Prop := (e.out.any p || e.link.q.any (fun x => p x.2)) = true

/-- R566, R568, R572: datagram `m` holds one unqueued message of type `typ` of the session in slot `k`, which has not expired, and comes in on
a host port whose link is up. -/
abbrev Dev.Arrives (d : Dev) (typ : Nat) (src : Nat × Nat × Nat) (m : List Byte) (k : Nat) : Prop :=
  d.hostLink (peerOf src).port = true ∧ m.length = 64 ∧ uAt m 0 2 = typ ∧ uAt m 2 1 = 1 ∧ d.slotOfId (uAt m 4 2) = some k ∧
  (d.sess? k).any (fun x => !d.since x.lastClk d.sessTo) = true

/-- Command `i` reports event `code` of severity `sev` to the Bureau (R520): what it answers is what the Bureau leaves of a device among whose
events that one stands, and which reports what its blocks reported. -/
def Logs (i : Instr) (s : State) (code sev : Nat) : Prop :=
  ∃ x : Dev, exec i s = .next { s with dev := x.flush.seal } ∧ x.evq.any (fun e => e.code == code && e.sev == sev) = true

/-- R482: pair `i` of channel `c` matches a frame of identifier `id` (29 bits; a base identifier in bits 28 to 18), extended where `ide`. -/
abbrev Dev.PairMatches (d : Dev) (c i : Nat) (ide : Bool) (id : Nat) : Prop :=
  d.bit (R.CAN_FLT_MATCH c i) F.CAN_FLT_MATCH.EN = true ∧
  (((if ide then id else id / 2 ^ 18 * 2 ^ 18) ^^^ d.fld (R.CAN_FLT_MATCH c i) F.CAN_FLT_MATCH.MATCH) &&&
    d.fld (R.CAN_FLT_MASK c i) F.CAN_FLT_MASK.MASK) = 0 ∧
  (d.bit (R.CAN_FLT_MASK c i) F.CAN_FLT_MASK.MIDE = true → d.bit (R.CAN_FLT_MATCH c i) F.CAN_FLT_MATCH.IDE = ide)

/-! ### What a command leaves unchanged -/

/-- The parts of the state beside the registers, the record of events, the host interface's queues, the power selection and the marks of the W1C bits
set in this clock. -/
inductive Part
  | clk | fresh | fil | time | cap | loader | line | engs | axs | pwm | fbk | mot | arms | dio | tall | gorse | safe | can | duo | link | sec | sys
  deriving DecidableEq, Repr

/-- A leg is as it was, or its gates have become inactive, as they do after any command where the leg no longer runs (R252). -/
def LegSt.held (x y : LegSt) : Prop := y = x ∨ y = { x with gate := 0, lowAt := none }

/-- A part is the same in `e` as in `d`; of the capture, all but the conditions that events meet (R505); of the loader, all but its job,
which the arming of the activation at start sets (R142); of the legs, all but gates that become inactive; the pairing link and the counter of free
values where no frame waits for the link, which otherwise leaves in the command's clock (R542). -/
def Part.same (p : Part) (d e : Dev) : Prop :=
  match p with
  | .clk => e.clk = d.clk
  | .fresh => d.link.q = [] → e.fresh = d.fresh
  | .fil => e.fil = d.fil
  | .time => e.time = d.time
  | .cap => { e.cap with met := [] } = { d.cap with met := [] }
  | .loader => { e.loader with job := .idle } = { d.loader with job := .idle }
  | .line => e.line = d.line
  | .engs => e.engs = d.engs
  | .axs => e.axs = d.axs
  | .pwm => { e.pwm with legs := [] } = { d.pwm with legs := [] } ∧ ∀ l, (d.leg l).held (e.leg l)
  | .fbk => e.fbk = d.fbk
  | .mot => e.mot = d.mot
  | .arms => e.arms = d.arms
  | .dio => e.dio = d.dio
  | .tall => e.tall = d.tall
  | .gorse => e.gorse = d.gorse
  | .safe => e.safe = d.safe
  | .can => e.can = d.can
  | .duo => e.duo = d.duo
  | .link => d.link.q = [] → e.link = d.link
  | .sec => e.sec = d.sec
  | .sys => e.sys = d.sys

/-- An address is that of a register named in `l`, whatever its numbers. -/
def Named (l : List RegName) (a : Nat) : Prop := ∃ n ∈ l, ∃ i j : Nat, a = Reg.addr ⟨n, i, j⟩

/-- The registers that a read may change: the counters that it clears (R109), and those of a latch that the read of its position or status
takes (R275, R474). -/
def readNames : List RegName := .DIO_CAP_STAT :: .FBK_PRB_STAT :: .TIME_CMP_STAT :: regNames.filter (fun n => n.info.cor)

/-- The registers that may change after any command: PWR_STAT, as the power state is selected (R608), FAB_IMG_STAT, as the activation at start
is armed (R142), and the counters of the datagrams that the command's events and answers send (R588). -/
def settleNames : List RegName := [.PWR_STAT, .FAB_IMG_STAT, .HOST_P_CNT_TX]

/-- Where command `i` answers a next state, it leaves the queue alone, every register but those at the addresses `touch`, and every part of
the state but `parts`. -/
def Frame (i : Instr) (s : State) (touch : Nat → Prop) (parts : List Part) : Prop :=
  ∀ t, exec i s = .next t →
    t.pending = s.pending ∧
    (∀ r : Reg, ¬ touch r.addr → ¬ Named settleNames r.addr → t.dev.reg r = s.dev.reg r) ∧
    (∀ p : Part, p ∉ parts → p.same s.dev t.dev)

/-! ### What every step keeps -/

/-- The register store is in canonical form: every register is listed once, in the order of the addresses. -/
abbrev State.RegsCanonical (s : State) : Prop := tabWf s.dev.regs = true

/-- Every event that the blocks have raised has reached the Bureau (R520). -/
abbrev State.EventsTaken (s : State) : Prop := s.dev.evq = []

/-- R608, R609: where no transition is in progress, the power state selected is the one that the tolerance and the caps give, and the unit is
in it or in a shallower one that waits for its entry. -/
abbrev State.PowerSelected (s : State) : Prop :=
  s.dev.bit R.PWR_STAT F.PWR_STAT.TRANS = false →
    s.dev.fld R.PWR_STAT F.PWR_STAT.TARGET = s.dev.powerTarget ∧ s.dev.fld R.PWR_STAT F.PWR_STAT.STATE ≤ s.dev.powerTarget

/-- What every step leaves true. -/
abbrev State.Inv (s : State) : Prop := s.RegsCanonical ∧ s.EventsTaken ∧ s.PowerSelected

end Sys2Proof.Machine
end

