-- ==== Sys2Proof/Certificates/Slice0/Obligations.lean ====
section
/-! DEFINITION. The statements for the provers. `s.start` is the device as a command finds it; `Runs i s P` says that the command completes,
leaves the queue alone and leaves a device of which `P` holds. -/

open Sys2Proof Sys2Proof.Machine

/-! ### The machine -/

/-- A step takes the command at the front of the queue and runs it on the state with the queue's rest: the interface of the model, its own choice (notes/assumptions/1.md). -/
def Obligations.StepRunsFront : Prop :=
  ∀ (c : Instr) (rest : List Instr) (s : State), s.pending = c :: rest → step s = exec c { s with pending := rest }

/-- On an empty queue a clock of CK_FAB passes (notes/assumptions/2.md, the model's choice): TIME_NS advances at its rate. -/
def Obligations.IdleClock : Prop :=
  ∀ (s : State), s.pending = [] →
    ∃ t, step s = .next t ∧ t.pending = [] ∧ t.dev.clk = s.dev.clk + 1 ∧ t.dev.time.tns = (s.start.pass 1).time.tns

/-- R14: errors are answered with a status, so no command of the table stops the machine, whatever the state and the operands. -/
def Obligations.StepAlwaysNext : Prop :=
  ∀ (s : State), ∃ t, step s = .next t

/-- R10, R20, R21: an ill-formed command is answered with BADARG and has no effect; a read, and a write of the controlling session, of a register of an object that is not configured are answered with NOTREADY, and of an address without a register with BADARG. -/
def Obligations.NumbersRefused : Prop :=
  ∀ (s : State), s.On →
    (∀ (i : Instr), i.wf = false →
      Runs i s (fun e => e.out.head? = some (.status .badArg)) ∧ Frame i s (fun _ => False) []) ∧
    (∀ (ses addr : Nat) (r : Reg), (tget? s.start.host.sess ses).isSome = true → regAt addr = some r → s.start.present r = false →
      Runs (.loReadLatch ses addr) s (fun e => e.out.head? = some (.word .notReady 0))) ∧
    (∀ (ses addr : Nat) (w : Word) (r : Reg), (tget? s.start.host.sess ses).any (fun x => x.ctl) = true → regAt addr = some r →
      s.start.present r = false → Runs (.regWriteOther ses addr w) s (fun e => e.out.head? = some (.status .notReady))) ∧
    (∀ (ses addr : Nat), (tget? s.start.host.sess ses).isSome = true → regAt addr = none →
      Runs (.loReadLatch ses addr) s (fun e => e.out.head? = some (.word .badArg 0))) ∧
    (∀ (ses addr : Nat) (w : Word), (tget? s.start.host.sess ses).any (fun x => x.ctl) = true → regAt addr = none →
      Runs (.regWriteOther ses addr w) s (fun e => e.out.head? = some (.status .badArg)) ∧
      Frame (.regWriteOther ses addr w) s (fun _ => False) [])

/-- The state after reset meets the invariant that every step keeps. -/
def Obligations.ResetInv : Prop :=
  State.reset.Inv

/-- R520, R608, R609: what every step keeps, whatever command it runs: the register store stays canonical, the Bureau has every event, and outside a transition the power target is the one that the tolerance, the caps and the peer select. -/
def Obligations.StepKeepsInv : Prop :=
  ∀ (s t : State), s.Inv → step s = .next t → t.Inv

/-! ### Registers: any register, and the reads that act -/

/-- R8, R9, R235, R580, R661: the accesses to registers by address complete: the word is merged, the halves of a pair are latched, held and committed,
and a counter is read and cleared. -/
def Obligations.RegisterAccessComplete : Prop :=
  ∀ (s : State) (d : Dev), s.start = d → s.On →
    (∀ (ses addr : Nat) (w : Word) (r : Reg), r.addr = addr → r.name.quiet = true → d.MayWrite ses r → d.WriteOk r w →
      Runs (.regWriteOther ses addr w) s (fun e =>
        e.out.head? = some (.status .ok) ∧
        e.reg r = d.written r w)) ∧
    (∀ (ses addr : Nat) (r : Reg) (h : RegName), r.addr = addr → r.name.hi? = some h → d.MayRead ses r →
      Runs (.loReadLatch ses addr) s (fun e =>
        e.out.head? = some (.word .ok (d.view r)) ∧
        (tget? e.host.sess ses).bind (fun x => tget? x.latch (Reg.addr { r with name := h })) = some (d.view { r with name := h }))) ∧
    (∀ (ses addr : Nat) (w : Word) (r : Reg), r.addr = addr → r.name.isHi = true → r.name.info.readOnly = false → d.MayWrite ses r → (r.name = .PWM_CMP_HI → d.bit (R.PWM_LEG_CFG r.i r.j) F.PWM_LEG_CFG.SRC = true) →
      Runs (.hiWriteHold ses addr w) s (fun e =>
        e.out.head? = some (.status .ok) ∧
        (tget? e.host.sess ses).bind (fun x => tget? x.held addr) = some w)) ∧
    (∀ (ses addr : Nat) (w : Word) (r : Reg), r.addr = addr → r.name = .PWM_CMP_HI → d.MayWrite ses r → d.bit (R.PWM_LEG_CFG r.i r.j) F.PWM_LEG_CFG.SRC = false →
      Runs (.hiWriteHold ses addr w) s (fun e =>
        e.out.head? = some (.status .conflict) ∧
        (tget? e.host.sess ses).bind (fun x => tget? x.held addr) = (tget? d.host.sess ses).bind (fun x => tget? x.held addr))) ∧
    (∀ (ses addr : Nat) (w : Word) (r : Reg) (h : RegName), r.addr = addr → r.name.hi? = some h → r.name ∈ [RegName.AXIS_MOT_TGT_LO, .AXIS_VL_MIN_LO, .AXIS_VL_MAX_LO, .AXIS_GEAR_AT_LO] → d.MayWrite ses r → lowest (d.pairCheck r (d.pairValue ses r { r with name := h } w)) = .ok →
      Runs (.loWriteCommit ses addr w) s (fun e =>
        e.out.head? = some (.status .ok) ∧
        e.pairI r { r with name := h } = d.pairValue ses r { r with name := h } w ∧
        (tget? e.host.sess ses).bind (fun x => tget? x.held (Reg.addr { r with name := h })) = none)) ∧
    (∀ (ses addr : Nat) (r : Reg), r.addr = addr → r.name.info.cor = true → d.MayRead ses r →
      Runs (.counterReadClear ses addr) s (fun e =>
        e.out.head? = some (.word .ok (d.view r)) ∧
        e.reg r = r.name.info.resetWord))

/-- R60, R275, R386, R474, R526: the reads with an effect of their own complete. -/
def Obligations.ReadRowsComplete : Prop :=
  ∀ (s : State) (d : Dev), s.start = d → s.On →
    (∀ (ses p : Nat), p < 16 → d.MayRead ses (R.FBK_PRB_POS p) →
      Runs (.prbPosRead ses p) s (fun e =>
        e.out.head? = some (.word .ok (d.view (R.FBK_PRB_POS p))) ∧
        e.fld (R.FBK_PRB_STAT p) F.FBK_PRB_STAT.LATCHED = 0 ∧
        e.fld (R.FBK_PRB_STAT p) F.FBK_PRB_STAT.OVR = 0)) ∧
    (∀ (ses k : Nat), k < 16 → d.MayRead ses (R.TALL_ITEM_WIN k) →
      Runs (.itemWinRead ses k) s (fun e =>
        (k ≠ 0 → e.out.head? = some (.word .ok (d.tall.win.getD k 0))) ∧
        (k = 0 → e.tall.win = (List.range 16).map (fun i => wN (uAt (d.itemBytes (d.fld R.TALL_ITEM_SEL F.TALL_ITEM_SEL.V)) (4 * i) 4))))) ∧
    (∀ (ses k : Nat), k < 64 → d.MayRead ses (R.DIO_CAP_STAT k) →
      Runs (.dioCapRead ses k) s (fun e =>
        e.out.head? = some (.word .ok (d.view (R.DIO_CAP_STAT k))) ∧
        (e.dioCh k).captured = false ∧
        e.fld (R.DIO_CAP_STAT k) F.DIO_CAP_STAT.OVR = 0))

/-! ### The clock and the time base -/

/-- R38, R40, R45, R48, R56, R58: the control writes of the clock and the time base complete with their effect. -/
def Obligations.TimeWritesComplete : Prop :=
  ∀ (s : State) (d : Dev), s.start = d → s.On →
    (∀ (ses : Nat) (w : Word), d.MayWrite ses R.CLK_CTL → getF w F.CLK_CTL.REFSEL ≠ 3 →
      Runs (.refselWrite ses w) s (fun e =>
        e.fld R.CLK_CTL F.CLK_CTL.REFSEL = getF w F.CLK_CTL.REFSEL ∧
        (getF w F.CLK_CTL.REFSEL = 1 → e.bit R.CLK_STAT F.CLK_STAT.EXTACT = false) ∧
        (getF w F.CLK_CTL.REFSEL = 2 → e.bit R.CLK_STAT F.CLK_STAT.EXTACT = d.time.ext.isSome))) ∧
    (∀ (ses : Nat) (w : Word), d.MayWrite ses R.TIME_RATE → d.timeSrc < 2 → w.toInt.natAbs ≤ 2147483 →
      Runs (.timeRateWrite ses w) s (fun e =>
        e.reg R.TIME_RATE = w)) ∧
    (∀ (ses : Nat) (w : Word), d.MayWrite ses R.TIME_CTL → d.WriteOk R.TIME_CTL w →
      Runs (.stepwinWrite ses w) s (fun e =>
        e.fld R.TIME_CTL F.TIME_CTL.STEPWIN = getF w F.TIME_CTL.STEPWIN)) ∧
    (∀ (ses : Nat) (w : Word), d.MayWrite ses R.TIME_CTL → d.WriteOk R.TIME_CTL (putF w F.TIME_CTL.CLOSE 1) →
      Runs (.close ses w) s (fun e =>
        e.winOpen = false)) ∧
    (∀ (ses k : Nat) (w : Word), k < 64 → d.MayWrite ses (R.TIME_CMP_CTL k) → getF w F.TIME_CMP_CTL.DISARM = 0 → d.WriteOk (R.TIME_CMP_CTL k) (putF w F.TIME_CMP_CTL.ARM 1) →
      Runs (.cmpArm ses k w) s (fun e =>
        e.cmpArmed k = true ∧
        tget? e.time.cmpTgt k = some (d.reg (R.TIME_CMP_TGT k)))) ∧
    (∀ (ses k : Nat) (w : Word), k < 64 → d.MayWrite ses (R.TIME_CMP_CTL k) → d.WriteOk (R.TIME_CMP_CTL k) (putF w F.TIME_CMP_CTL.DISARM 1) →
      Runs (.cmpDisarm ses k w) s (fun e =>
        e.cmpArmed k = false ∧
        tget? e.time.cmpTgt k = none))

/-- R40, R45, R46, R55, R57: the events of the time base complete with their effect; a comparator without period that has reached its target
fires once and is disarmed. -/
def Obligations.TimeEventsComplete : Prop :=
  ∀ (s : State) (d : Dev), s.start = d → s.On →
    (d.time.ext.isSome = true →
      Runs .extRefLost s (fun e =>
        e.time.ext = none ∧
        e.bit R.CLK_STAT F.CLK_STAT.EXTACT = false ∧
        e.bit R.CLK_STAT F.CLK_STAT.REFLOSS = true)) ∧
    (
      Runs .extRefRestored s (fun e =>
        e.time.ext.isSome = true ∧
        (d.fld R.CLK_CTL F.CLK_CTL.REFSEL = 0 → e.bit R.CLK_STAT F.CLK_STAT.EXTACT = true))) ∧
    (∀ (ses : Nat) (w : Word), d.MayWrite ses R.TIME_STEP_LO → lowest (d.hostStepCheck (d.pairValue ses R.TIME_STEP_LO R.TIME_STEP_HI w)) = .ok →
      Runs (.timeStepWrite ses w) s (fun e =>
        e.time.tns = ((d.time.tns : Int) + d.pairValue ses R.TIME_STEP_LO R.TIME_STEP_HI w * 2 ^ 32).toNat ∧
        e.bit R.TIME_STAT F.TIME_STAT.STEPPED = true ∧
        e.winOpen = false)) ∧
    (d.winOpen = true → d.winElapsed = true →
      Runs .stepWindowExpiry s (fun e =>
        e.winOpen = false)) ∧
    (
      Runs .cmpFire s (fun e =>
        (∀ k ∈ List.range 64, d.cmpArmed k = true → (tget? d.time.cmpTgt k).any (fun t => decide (0 ≤ tsDiff d.ts t)) = true →
          d.reg (R.TIME_CMP_PER k) = 0 → e.cmpArmed k = false ∧
          e.fld (R.TIME_CMP_STAT k) F.TIME_CMP_STAT.FIRED = (d.fld (R.TIME_CMP_STAT k) F.TIME_CMP_STAT.FIRED + 1) % 65536) ∧
        (∀ k ∈ List.range 64, d.cmpArmed k = true → (tget? d.time.cmpTgt k).any (fun t => decide (tsDiff d.ts t < 0)) = true →
          e.cmpArmed k = true ∧ tget? e.time.cmpTgt k = tget? d.time.cmpTgt k))) ∧
    (∀ (ses k : Nat), k < 64 → d.MayRead ses (R.TIME_CMP_STAT k) →
      Runs (.cmpStatRead ses k) s (fun e =>
        e.out.head? = some (.word .ok (d.view (R.TIME_CMP_STAT k))) ∧
        e.fld (R.TIME_CMP_STAT k) F.TIME_CMP_STAT.MISSED = 0)) ∧
    (∀ (sd : List (Nat × Nat × List Bool)),
      Runs (.baseTick sd) s (fun e =>
        e.time.tick = (d.pass d.clksToTick).ns / 31250 ∧
        e.clk = d.clk + d.clksToTick ∧
        e.bit R.CLK_STAT F.CLK_STAT.PLLLOCK = true))

/-- R49, R50: the messages of the PTP slave and the loss of its grandmaster complete with their effect. -/
def Obligations.PtpComplete : Prop :=
  ∀ (s : State) (d : Dev), s.start = d → s.On →
    (∀ (m : PtpHdr) (data : List Nat) (logInt utc : Int), d.ptpTakes m = true → d.ptpHears m.port = true →
      Runs (.ptpAnnounce m data logInt utc) s (fun e =>
        (tget? e.time.masters m.src).any (fun x => x.data == data && x.logInt == logInt && x.port == m.port) = true)) ∧
    (∀ (m : PtpHdr) (logInt : Int) (twoStep : Bool) (t1 : Int), d.ptpFromGm m = true → -4 ≤ logInt → logInt ≤ 1 →
      Runs (.ptpSync m logInt twoStep t1) s (fun e =>
        e.time.syncSeq = some (m.seq, (d.ns : Int), if twoStep then none else some t1) ∧
        e.time.pairSrc = false)) ∧
    (∀ (m : PtpHdr) (t1 : Int) (t2 : Int), d.ptpFromGm m = true → d.time.syncSeq = some (m.seq, t2, none) →
      Runs (.ptpFollowUp m t1) s (fun e =>
        e.time.syncSeq = some (m.seq, t2, some t1))) ∧
    (d.time.gm.isSome = true → d.time.syncSeq.any (fun x => x.2.2.isSome) = true →
      Runs .delayReqSend s (fun e =>
        e.time.dreq = some (d.time.dseq, (d.ns : Int)) ∧
        e.time.dseq = (d.time.dseq + 1) % 65536)) ∧
    (∀ (m : PtpHdr) (resp : Nat × Int) (req : Nat) (t4 : Int) (q : Nat) (t1 t2 t3 : Int), resp = (req, t4) → d.ptpFromGm m = true → req = portIdentity m.port → d.time.syncSeq = some (q, t2, some t1) → d.time.dreq = some (m.seq, t3) →
      Runs (.ptpDelayResp m resp) s (fun e =>
        e.reg R.TIME_PTP_OFS = wI (sat32 (((t2 - t1) - (t4 - t3)) / 2)) ∧
        e.reg R.TIME_PTP_DLY = wI (((t2 - t1) + (t4 - t3)) / 2))) ∧
    (∀ (g : Nat), d.time.gm = some g → d.heardOf (tget d.time.masters g {}) = false →
      Runs .announceTimeout s (fun e =>
        e.time.gm = none ∧
        tget? e.time.masters g = none ∧
        e.fld R.TIME_STAT F.TIME_STAT.PTPST = (if d.fld R.TIME_STAT F.TIME_STAT.PTPST = 2 then 3 else 0)))

/-! ### Resets, start and the watchdog -/

/-- R618 to R620, R628, R637, R656: every reset whose condition holds completes; the kind is recorded, no image is active and time restarts or runs
on. -/
def Obligations.ResetsComplete : Prop :=
  ∀ (s : State) (d : Dev), s.start = d →
    (∀ (cut : Bool), s.On →
      Runs (.coldReset cut) s (fun e =>
        e.fld R.SYS_RST_STAT F.SYS_RST_STAT.LASTKIND = 0 ∧
        e.loader.image = none ∧
        e.axs.axes = [] ∧
        e.time.tns = 0)) ∧
    (∀ (ns : Nat), s.On → 10000 ≤ ns →
      Runs (.pinReset ns) s (fun e =>
        e.fld R.SYS_RST_STAT F.SYS_RST_STAT.LASTKIND = 1 ∧
        e.loader.image = none ∧
        e.axs.axes = [] ∧
        e.time.tns = 0)) ∧
    (s.On → d.warmDue = true → d.wdExpired = false →
      Runs .warmReset s (fun e =>
        e.fld R.SYS_RST_STAT F.SYS_RST_STAT.LASTKIND = 2 ∧
        e.loader.image = none ∧
        e.axs.axes = [] ∧
        e.time.tns = d.time.tns)) ∧
    (s.On → d.wdExpired = true →
      Runs .watchdogReset s (fun e =>
        e.fld R.SYS_RST_STAT F.SYS_RST_STAT.LASTKIND = 3 ∧
        e.loader.image = none ∧
        e.axs.axes = [] ∧
        e.time.tns = d.time.tns)) ∧
    (s.On →
      Runs .watchdogService s (fun e =>
        e.sys.wdClk = d.clk)) ∧
    (∀ (ses : Nat) (w : Word), s.On → d.MayWrite ses R.SYS_RST_CTL → getF w F.SYS_RST_CTL.KEY = 0x5741 → d.anyEnabled = false → d.bit R.SYS_PF_STAT F.SYS_PF_STAT.PFW = false →
      Runs (.warmResetReq ses w) s (fun e =>
        e.sys.resetDue = some (d.sys.resetDue.getD (d.clk + clksOfMs 10)))) ∧
    (∀ (c : Nat), d.sys.off = true → d.sys.coolClk = some c → d.since c (60 * fabHz) = true →
      Runs .overtempRestart s (fun e =>
        e.sys.off = false ∧
        e.fld R.SYS_RST_STAT F.SYS_RST_STAT.LASTKIND = 0))

/-! ### Lines and rings -/

/-- R69, R72, R73, R75, R78, R85 to R87, R95, R99, R107, R555: the commands of ports, cycles and breaks complete with their effect. -/
def Obligations.LinesComplete : Prop :=
  ∀ (s : State) (d : Dev), s.start = d → s.On →
    (∀ (p : Nat), p < 24 → (d.port p).linkUp = false →
      Runs (.linkUp p) s (fun e =>
        (e.port p).linkUp = true ∧ (e.port p).upClk = d.clk ∧ e.bit (R.LINE_STAT p) F.LINE_STAT.LOS = false)) ∧
    (∀ (p : Nat), p < 24 →
      Runs (.linkDown p) s (fun e =>
        (e.port p).linkUp = false ∧ e.bit (R.LINE_STAT p) F.LINE_STAT.LOS = true)) ∧
    (∀ (ses p : Nat) (w : Word), p < 24 → d.MayWrite ses (R.LINE_CTL p) → getF w F.LINE_CTL.STOP = 0 → d.WriteOk (R.LINE_CTL p) (putF w F.LINE_CTL.START 1) →
      Runs (.lineStart ses p w) s (fun e =>
        e.portState p = 1 ∧ (e.port p).listenClk = d.clk)) ∧
    (∀ (ses p : Nat) (w : Word), p < 24 → d.MayWrite ses (R.LINE_CTL p) → d.WriteOk (R.LINE_CTL p) (putF w F.LINE_CTL.STOP 1) →
      Runs (.lineStop ses p w) s (fun e =>
        (if sendingState (d.portState p) then (e.port p).stopAsked = true ∧ e.portState p = d.portState p else e.portState p = 0))) ∧
    (∀ (ses p : Nat) (w : Word), p < 24 → d.MayWrite ses (R.LINE_CTL p) → getF w F.LINE_CTL.STOP = 0 → getF w F.LINE_CTL.START = 0 → d.WriteOk (R.LINE_CTL p) (putF w F.LINE_CTL.REDISC 1) →
      Runs (.redisc ses p w) s (fun e =>
        (e.port p).remeasure = true ∧
        (d.phase p = 4 ∨ d.phase p = 5 → (e.port p).restorePending = true))) ∧
    (d.mayCycle = true →
      Runs .listenExpiry s (fun e =>
        ∀ p ∈ allPorts, d.portState p = 1 → (d.port p).listening = true → d.nodes p ≠ 0 →
          d.since (d.port p).listenClk (clksOfNs (2 * periodNs (d.portK p))) = true →
          e.portState p = if d.fld R.LINE_GSTAT F.LINE_GSTAT.ROLE = 2 ∨ d.fld R.LINE_GSTAT F.LINE_GSTAT.ROLE = 3 then 7 else 2)) ∧
    (∀ (p : Nat) (w : List (BitVec 8)) (f : CycFrame), p < 24 → cycFrameOf w = some f → f.unit ≠ Config.serial.toNat % 65536 → d.nodes p ≠ 0 →
      Runs (.foreignCycleStart p w) s (fun e =>
        (d.portState p = 1 → (d.port p).listening = true →
          e.portState p = 7 ∧ e.reg (R.LINE_CYCLE p) = wN f.cycle ∧ (e.port p).heardNs = some d.ns ∧
          e.fld R.LINE_GSTAT F.LINE_GSTAT.ROLE = (if d.fld R.LINE_GSTAT F.LINE_GSTAT.ROLE = 0 then 2 else d.fld R.LINE_GSTAT F.LINE_GSTAT.ROLE)) ∧
        (sendingState (d.portState p) = true → f.flags / 16 % 16 < d.fld R.LINE_GCFG F.LINE_GCFG.RANK →
          e.portState p = 7 ∧ e.fld R.LINE_GSTAT F.LINE_GSTAT.ROLE = 3 ∧ e.line.demote.isSome = true) ∧
        (sendingState (d.portState p) = true → d.fld R.LINE_GCFG F.LINE_GCFG.RANK < f.flags / 16 % 16 → e.portState p = d.portState p))) ∧
    (
      Runs .clashBackoffExpiry s (fun e =>
        ∀ p ∈ allPorts, d.portState p = 7 → (d.port p).backoffEnd.any (fun c => decide (c ≤ d.clk)) = true →
          e.portState p = 1 ∧ (e.port p).backoffEnd = none ∧ (e.port p).listenClk = d.clk ∧ e.fld R.LINE_GSTAT F.LINE_GSTAT.ROLE = 0)) ∧
    (∀ (p : Nat) (n : Nat), p < 24 → d.cycleDue p = some n → d.basePort p = p → d.sends p = true →
      Runs (.cycleStart p) s (fun e =>
        ((d.port p).stopAsked = true → e.portState p = 0) ∧
        ((d.port p).stopAsked = false → (e.port p).lastTick = some n ∧
          e.out.any (fun o => match o with | .line q t b => q == p && t == 1 && uAt b 4 4 == (e.reg (R.LINE_CYCLE p)).toNat && uAt b 8 8 == d.ns | _ => false) = true) ∧
        ((d.port p).stopAsked = false → (d.port p).relaying = false → e.reg (R.LINE_CYCLE p) = d.reg (R.LINE_CYCLE p) + 1))) ∧
    (∀ (p : Nat), p < 24 → d.sends p = true → (d.port p).cycleNs + d.portNs (d.basePort p) - 256 ≤ d.ns →
      Runs (.cycleEndMarkerSend p) s (fun e =>
        (e.port p).markerNs = some d.ns ∧
        Out.line p 0x0F (markerBytes ((d.reg (R.LINE_CYCLE (d.basePort p))).toNat % 65536) 0) ∈ e.out)) ∧
    (∀ (p : Nat) (head crc tail : List (BitVec 8)) (t : Nat), p < 24 → (d.port p).markerNs = some t →
      Runs (.markerReturn p head crc tail) s (fun e =>
        (e.port p).markerNs = none ∧ e.reg (R.LINE_LOOPDLY p) = wN (d.ns - t) ∧
        e.bit (R.LINE_STAT p) F.LINE_STAT.LOOPLONG = decide (d.portNs (d.basePort p) < 2 * (d.ns - t)))) ∧
    (∀ (p : Nat) (w : List (BitVec 8)) (i : Nat) (b : List Byte), p < 24 → acyclicIn 0x1A 3 w = some (i, b) → sendingState (d.portState (d.basePort p)) = true → d.phase (d.basePort p) ≠ 2 ∨ d.noneHeld (d.basePort p) = false → (d.port (d.basePort p)).brk = false →
      Runs (.linkDownFrame p w) s (fun e =>
        e.bit (R.LINE_STAT (d.basePort p)) F.LINE_STAT.BREAK = true ∧ (e.port (d.basePort p)).brk = true ∧ (e.port (d.basePort p)).joinSusp = true)) ∧
    (∀ (p : Nat), p < 24 → d.bit (R.LINE_CFG p) F.LINE_CFG.AUTORST = true → d.allLinksUp p = true → d.phase p = 4 ∨ d.phase p = 5 →
      Runs (.ringRestore p) s (fun e =>
        (e.port p).restorePending = true ∧ e.phase p = d.phase p))

/-- R77, R80 to R82, R84, R90, R92, R93, R100, R102, R116, R663: slots, joins, the fallow window and the relay complete with their effect. -/
def Obligations.SlotsComplete : Prop :=
  ∀ (s : State) (d : Dev), s.start = d → s.On →
    (∀ (p i : Nat) (f : SlotFrame), p < 24 → i < 6144 → d.basePort p = p → (d.port p).relaying = false → (d.port p).keepAlive = false → d.slotState p i = 2 →
      Runs (.slotArrival p i f) s (fun e =>
        (∀ b ∈ (slotBodyOf f.wire).toList, b.index = i → b.seq = (d.reg (R.LINE_CYCLE p)).toNat % 256 → f.e.natAbs ≤ 24 → f.nextE = none →
          (i = 0 ∨ (d.slot p (i - 1)).sdAt = none) →
          (e.slot p i).usable = true ∧ (e.slot p i).payload = b.payload ∧ e.bit (R.LINE_SLOT_STAT p i) F.LINE_SLOT_STAT.STALE = false) ∧
        (slotBodyOf f.wire = none → (e.reg (R.LINE_CNT_CRC p)).toNat = min ((d.reg (R.LINE_CNT_CRC p)).toNat + 1) (2 ^ 32 - 1) ∧ (e.slot p i).usable = (d.slot p i).usable))) ∧
    (∀ (p i : Nat) (f : SlotFrame), p < 24 → i < 6144 → d.phase p = 5 → (d.port p).keepAlive = false → d.slotState p i = 2 →
      Runs (.relaySlot p i f) s (fun e =>
        e.bit (R.LINE_SLOT_STAT p i) F.LINE_SLOT_STAT.FAR = true ∧ (e.slot p i).any = true)) ∧
    (∀ (p i : Nat), p < 24 → i < 6144 → (d.port p).keepAlive = false → 2 ≤ d.slotState p i → (d.slot p i).usable = false → d.fld (R.LINE_CFG p) F.LINE_CFG.MISSLIM ≤ (d.slot p i).noUse →
      Runs (.slotStale p i) s (fun e =>
        e.bit (R.LINE_SLOT_STAT p i) F.LINE_SLOT_STAT.STALE = true)) ∧
    (∀ (p i : Nat), p < 24 → i < 6144 → (d.port p).keepAlive = false → d.slotState p i ≠ 0 → (d.slot p i).any = false → 16 ≤ (d.slot p i).absent →
      Runs (.nodeLost p i) s (fun e =>
        e.slotState p i = 0)) ∧
    (∀ (p : Nat), p < 24 → d.sends p = true → (d.port p).fallowNs ≠ some (d.port p).cycleNs → (d.port p).cycleNs + (if (d.port (d.basePort p)).keepAlive then 192 else slotsEnd (d.nodes (d.basePort p))) ≤ d.ns → d.ns < (d.port p).cycleNs + (d.portNs (d.basePort p) - 256) →
      Runs (.fallowWindow p) s (fun e =>
        (e.port p).fallowNs = some (d.port p).cycleNs ∧
        (∀ a ∈ (d.port p).queue, (d.port p).queue = [a] → a.typ = 0x17 → a.prio ≤ 4 → (d.port (d.basePort p)).keepAlive = false →
          d.wireMarks (d.basePort p) = [] → (d.port (d.basePort p)).joinSusp = false → slotsEnd (d.nodes (d.basePort p)) + a.ns ≤ d.portNs (d.basePort p) - 256 →
          Out.line p 0x17 (acyclicBytes 0x17 a.adr a.body) ∈ e.out ∧ (e.port p).queue = []))) ∧
    (∀ (p : Nat), p < 24 → d.basePort p = p → sendingState (d.portState p) = true → (d.port p).remeasure = true ∨ (d.reg (R.LINE_CYCLE p)).toNat % 2 ^ d.fld (R.LINE_CFG p) F.LINE_CFG.DLYPER = 0 →
      Runs (.delayProbeCycle p) s (fun e =>
        (e.port p).remeasure = false ∧
        (e.port p).queue.any (fun a => a.typ == 0x14) = true)) ∧
    (∀ (p i : Nat) (head tail : List (BitVec 8)) (w : List Byte) (b : List Byte), w = head ++ tail → p < 24 → i < 6144 → acyclicIn 0x15 6 w = some (i, b) → d.slotState (d.basePort p) i = 2 →
      Runs (.delayRpt p i head tail) s (fun e =>
        (if uAt b 0 2 % 2 = 0 then (e.slot (d.basePort p) i).h0 = some (uAt b 2 4) else (e.slot (d.basePort p) i).h1 = some (uAt b 2 4)))) ∧
    (∀ (p : Nat) (head body crc tail : List (BitVec 8)) (w : List Byte) (q : Nat) (b : List Byte) (r : SlotRec), w = head ++ body ++ crc ++ tail → p < 24 → acyclicIn 0x11 11 w = some (q, b) → sendingState (d.portState (d.basePort p)) = true → (d.port (d.basePort p)).keepAlive = false → (d.port (d.basePort p)).joinSusp = false → d.bit (R.LINE_CTL (d.basePort p)) F.LINE_CTL.JOINEN = true → d.slotOfAlias (d.basePort p) (uAt b 0 2) = some r → r.typeCode = uAt b 2 4 → r.epCount = uAt b 10 1 → d.slotState (d.basePort p) r.slot = 0 ∨ d.slotState (d.basePort p) r.slot = 3 →
      Runs (.joinReq p head body crc tail) s (fun e =>
        e.slotState (d.basePort p) r.slot = 1 ∧ (e.slot (d.basePort p) r.slot).join.map (fun j => (j.step, j.serial)) = some (3, uAt b 6 4) ∧
        (e.port (d.basePort p)).queue.any (fun a => a.typ == 0x14) = true)) ∧
    (∀ (p i : Nat) (err : Int) (w : List (BitVec 8)) (j : JoinSt) (b : SlotBody), p < 24 → i < 6144 → d.slotState (d.basePort p) i = 1 → (d.slot (d.basePort p) i).join = some j → j.step = 4 → j.sent = true → (d.port (d.basePort p)).keepAlive = false → (d.port (d.basePort p)).joinSusp = false → slotBodyOf w = some b → err.natAbs ≤ 24 →
      Runs (.testSlot p i err w) s (fun e =>
        (e.slot (d.basePort p) i).join.map (·.step) = some 6 ∧ (e.slot (d.basePort p) i).feed = b.feed)) ∧
    (∀ (p i : Nat) (j : JoinSt), p < 24 → i < 6144 → d.slotState p i = 1 → (d.slot p i).join = some j → j.step ≤ 4 → j.sent = true → (d.port p).keepAlive = false → 2 < tsDiff (d.reg (R.LINE_CYCLE p)) (wN j.cycle) →
      Runs (.joinTimeout p i) s (fun e =>
        e.slotState p i = 0 ∧ (e.slot p i).join = none)) ∧
    (
      Runs .joinSuspendEnd s (fun e =>
        ∀ p ∈ allPorts, (e.port p).joinSusp = (decide ((d.port p).validCyc < 3) && (d.port p).joinSusp))) ∧
    (∀ (p cycle : Nat) (blocks : List (Nat × List (BitVec 8))), p < 24 → d.isStandby = true →
      Runs (.relayBlk p cycle blocks) s (fun e =>
        (e.port p).relaying = true ∧ (e.port p).relayed = tabNorm (blocks.map (fun x => (x.1, slice x.2 0 16))) ∧ (e.port p).relayCyc = cycle)) ∧
    (∀ (p : Nat) (head body tail : List (BitVec 8)) (w : List Byte) (i : Nat) (b : List Byte), w = head ++ body ++ tail → p < 24 → acyclicIn 0x38 1 w = some (i, b) →
      Runs (.mbxUp p head body tail) s (fun e =>
        Out.mbx p i (uAt b 0 1) (b.drop 1) ∈ e.out)) ∧
    (∀ (p k : Nat), p < 24 → k < 16 → d.basePort p = p → sendingState (d.portState p) = true → d.bit (R.LINE_MARK_CTL p k) F.LINE_MARK_CTL.EN = true → (d.port p).marks.contains k = false → (d.port p).cycleNs + d.fld (R.LINE_MARK_OFS p k) F.LINE_MARK_OFS.OFS ≤ d.ns → d.fld (R.LINE_MARK_OFS p k) F.LINE_MARK_OFS.OFS < d.portNs p → (d.port p).keepAlive = false →
      Runs (.cycleMark p k) s (fun e =>
        (e.port p).marks.contains k = true ∧
        (d.fld (R.LINE_MARK_CTL p k) F.LINE_MARK_CTL.ACT % 2 = 0 → Out.signal "cycle mark" (16 * p + k) d.ts.toNat ∈ e.out)))

/-- R103 to R105, R113: the commands of a group change complete with their effect. -/
def Obligations.GroupsComplete : Prop :=
  ∀ (s : State) (d : Dev), s.start = d → s.On →
    (∀ (ses g : Nat) (w : Word), g < 256 → d.MayWrite ses (R.GRP_REQ g) → d.WriteOk (R.GRP_REQ g) (putF w F.GRP_REQ.REQ 1) →
      Runs (.grpReq ses g w) s (fun e =>
        e.grpState g = (if d.grpNodes g = [] then 2 else 1) ∧ e.fld (R.GRP_STAT g) F.GRP_STAT.STAGED = getF w F.GRP_REQ.MODE ∧
        (e.grp g).token = d.line.nextToken ∧ e.line.nextToken = (d.line.nextToken + 1) % 65536)) ∧
    (∀ (p : Nat) (head body crc tail : List (BitVec 8)) (w : List Byte) (i : Nat) (b : List Byte) (g : Nat), w = head ++ body ++ crc ++ tail → p < 24 → acyclicIn 0x21 5 w = some (i, b) → g = uAt b 0 1 → d.grpState g = 1 → uAt b 1 2 = (d.grp g).token → (d.grpNodes g).contains (d.basePort p, i, uAt b 3 2) = true → (d.grp g).staged.contains (d.basePort p, i) = false →
      Runs (.grpStaged p head body crc tail) s (fun e =>
        (e.grp g).staged = (d.grp g).staged ++ [(d.basePort p, i)] ∧
        ((d.grpNodes g).all (fun m => ((d.grp g).staged ++ [(d.basePort p, i)]).contains (m.1, m.2.1)) = true → e.grpState g = 2 ∧ (e.grp g).n = some (d.grpIdx g + 2)))) ∧
    (∀ (g : Nat), g < 256 → d.grpState g = 1 → (d.grp g).s + d.fld (R.GRP_CFG g) F.GRP_CFG.STAGEDL ≤ d.grpIdx g →
      Runs (.grpStageDeadline g) s (fun e =>
        e.grpState g = 4)) ∧
    (∀ (g : Nat), g < 256 → (d.grp g).n.any (fun n => decide (n ≤ d.grpIdx g)) = true → d.grpState g = 2 → (d.grp g).stop = 0 → (d.grp g).boundaryDone = false →
      Runs (.grpApplyBoundary g) s (fun e =>
        (e.grp g).boundaryDone = true ∧ e.fld (R.GRP_STAT g) F.GRP_STAT.CURRENT = d.fld (R.GRP_STAT g) F.GRP_STAT.STAGED)) ∧
    (∀ (p : Nat) (head body crc tail : List (BitVec 8)) (w : List Byte) (i : Nat) (b : List Byte) (g : Nat), w = head ++ body ++ crc ++ tail → p < 24 → acyclicIn 0x24 5 w = some (i, b) → g = uAt b 0 1 → d.grpState g = 2 → uAt b 1 2 = (d.grp g).token → (d.grpNodes g).contains (d.basePort p, i, uAt b 3 2) = true →
      Runs (.grpApplyRpt p head body crc tail) s (fun e =>
        (e.grp g).applied.contains (d.basePort p, i) = true)) ∧
    (∀ (g : Nat) (n : Nat), g < 256 → (d.grp g).n = some n → d.grpState g = 2 → n < d.grpIdx g → d.grpIdx g ≤ n + 4 → (d.grp g).retries < d.grpIdx g - n → d.grpOpen g ≠ [] →
      Runs (.grpRetry g) s (fun e =>
        (e.grp g).retries = d.grpIdx g - n ∧ e.fld (R.GRP_STAT g) F.GRP_STAT.RETRY = d.grpIdx g - n)) ∧
    (∀ (g : Nat) (n : Nat), g < 256 → (d.grp g).n = some n → d.grpState g = 2 → (d.grp g).stop = 0 → n + 5 ≤ d.grpIdx g →
      Runs (.grpConverge g) s (fun e =>
        (d.grpOpen g = [] → e.grpState g = 3) ∧
        (d.grpOpen g ≠ [] → e.grpState g = 5 ∧ e.reg (R.GRP_SPLIT g) = wN (d.grpOpen g).length)))

/-! ### The structure image and its loader -/

/-- R120, R134, R139, R140, R145, R146: the commands of the loader complete with their effect. -/
def Obligations.ImageCommandsComplete : Prop :=
  ∀ (s : State) (d : Dev), s.start = d → s.On →
    (∀ (ses : Nat) (w : Word), d.MayWrite ses R.FAB_IMG_CTL → getF w F.FAB_IMG_CTL.ACTIVATE = 0 → d.WriteOk R.FAB_IMG_CTL (putF w F.FAB_IMG_CTL.CHECK 1) →
      Runs (.imageCheck ses w) s (fun e =>
        e.loader.job = .checking (getF w F.FAB_IMG_CTL.SLOT) false false ∧
        e.fld R.FAB_IMG_STAT F.FAB_IMG_STAT.STATE = 1)) ∧
    (∀ (ses : Nat) (w : Word), d.MayWrite ses R.FAB_IMG_CTL → d.WriteOk R.FAB_IMG_CTL (putF w F.FAB_IMG_CTL.ACTIVATE 1) →
      Runs (.activate ses w) s (fun e =>
        e.loader.job = .checking (getF w F.FAB_IMG_CTL.SLOT) true (getF w F.FAB_IMG_CTL.KEEPITEMS == 1) ∧
        e.fld R.FAB_IMG_STAT F.FAB_IMG_STAT.STATE = 1)) ∧
    (∀ (ses : Nat) (w : Word), d.MayWrite ses R.FAB_IMG_CTL → getF w F.FAB_IMG_CTL.ACTIVATE = 0 → getF w F.FAB_IMG_CTL.CHECK = 0 → d.WriteOk R.FAB_IMG_CTL (putF w F.FAB_IMG_CTL.ERASE 1) →
      Runs (.erase ses w) s (fun e =>
        tget? e.loader.flash (getF w F.FAB_IMG_CTL.SLOT) = none ∧
        (getF w F.FAB_IMG_CTL.SLOT = 0 → e.fld R.FAB_IMG_STAT F.FAB_IMG_STAT.VALID0 = 0) ∧
        (getF w F.FAB_IMG_CTL.SLOT = 1 → e.fld R.FAB_IMG_STAT F.FAB_IMG_STAT.VALID1 = 0))) ∧
    (∀ (slot : Nat) (keep : Bool), d.loader.job = .checking slot true keep → checkImage slot (d.slotFull slot) = none →
      Runs .checkComplete s (fun e =>
        e.loader.job = .armed (boundaryAfter d.ns) keep ∧
        e.loader.nextImage = some (imageOf slot (d.slotFull slot)) ∧
        e.fld R.FAB_IMG_STAT F.FAB_IMG_STAT.STATE = 2)) ∧
    (∀ (slot : Nat), d.loader.bootDone = false → d.loader.image = none → d.loader.job = .idle → d.bit R.SYS_PF_STAT F.SYS_PF_STAT.PFW = false → d.loader.bootTry = [] → d.bootOrder.head? = some slot → checkImage slot (d.slotFull slot) = none →
      Runs .bootCheckComplete s (fun e =>
        e.loader.bootDone = true ∧
        e.loader.nextImage = some (imageOf slot (d.slotFull slot)))) ∧
    (∀ (ses n mem a : Nat) (w : Word), n < 16 → mem < 2 → (tget? d.host.sess ses).any (fun x => x.ctl) = true → d.paramsHold n mem a = true → d.isStandby = false → d.handingOver = false → d.inSwitch = false → d.blkOn .ce = true →
      Runs (.paramsWrite ses n mem a w) s (fun e =>
        e.out.head? = some (.status .ok) ∧
        e.loader.pendingParams = d.loader.pendingParams ++ [(n, mem, a, w)] ∧
        (n, mem, a, w) ∈ e.loader.shadow))

/-- R133, R140, R141, R147: the phases of an activation complete. -/
def Obligations.ActivationComplete : Prop :=
  ∀ (s : State) (d : Dev), s.start = d → s.On →
    (∀ (t k : Nat), d.loader.job = .armed t true → t ≤ d.ns + 125000 → d.movingTrack = some k →
      Runs .keepitemsStillCheck s (fun e =>
        e.loader.nextImage = none ∧
        e.loader.job = .idle)) ∧
    (∀ (t : Nat) (keep : Bool) (i : Image), d.loader.job = .armed t keep → d.loader.nextImage = some i → t ≤ d.ns →
      Runs .activationSwitch s (fun e =>
        e.loader.job = .switching t keep false ∧
        e.fld R.FAB_IMG_STAT F.FAB_IMG_STAT.STATE = 3 ∧
        (keep = false → e.tall.items = []))) ∧
    (∀ (t : Nat) (keep : Bool) (i : Image), d.loader.job = .switching t keep false → d.loader.nextImage = some i → t + 3800000 ≤ d.ns →
      Runs .activationCommit s (fun e =>
        e.loader.job = .switching t keep true ∧
        e.img = i ∧
        e.commit = (i.slot != 2))) ∧
    (∀ (t : Nat) (keep : Bool), d.loader.job = .switching t keep true → t + 4000000 ≤ d.ns → d.loader.image.isSome = true →
      Runs .activationRelease s (fun e =>
        e.loader.job = .idle ∧
        e.loader.nextImage = none ∧
        e.fld R.FAB_IMG_STAT F.FAB_IMG_STAT.STATE = 4 ∧
        e.reg R.FAB_ACT_TIME = wN (t + 4000000)))

/-! ### The control engines -/

/-- R155, R171, R175, R177, R184, R190, R604, R606: the commands of the control engines complete with their effect. -/
def Obligations.EnginesComplete : Prop :=
  ∀ (s : State) (d : Dev), s.start = d → s.On →
    (∀ (t : Nat) (ms : List (Nat × Int × Int)) (r : TaskRec), t < 4096 → d.taskRec t = some r → d.running = true → d.engineOff r.engine = false → r.ctx ≠ 2 → (d.tstat t).suspended = false → d.releaseDue r = true → (d.eng r.engine).halted = false → (d.eng r.engine).insts.any (fun i => i.task == t) = false → d.tooSoon r = false →
      Runs (.taskRelease t ms) s (fun e =>
        (e.eng r.engine).insts.any (fun i => i.task == t && i.release == d.ns && !i.begun) = true ∧
        (e.tstat t).lastRel = some d.ns)) ∧
    (∀ (n : Nat) (err : Option (Nat × Nat × Bool)) (i : Inst) (u : Issued), n < 16 → (d.eng n).halted = false → d.engineOff n = false → pickInst (d.eng n).insts = some i → i.begun = true ∨ (d.taskRec i.task).isSome = true → (d.eng n).pass = true ∨ (d.eng n).breaks.contains (d.issueCtx n i).pc = false → (d.issueCtx n i).pc < (d.eng n).plen → d.nextBundle n i = .inr u → err.any (fun x => x.2.2) = false →
      Runs (.bundleIssue n err) s (fun e =>
        (e.eng n).cur = i.ctx ∧
        tget (e.eng n).ctxs i.ctx {} = u.ctx ∧
        (e.eng n).busy = (d.eng n).busy + d.bundleCycles n u err.isSome)) ∧
    (∀ (t : Nat) (r : TaskRec) (i : Inst), t < 4096 → d.taskRec t = some r → (d.eng r.engine).insts.find? (fun i => i.task == t) = some i → i.ctx ≠ 0 → i.release + r.deadline ≤ d.ns →
      Runs (.taskDeadline t) s (fun e =>
        (e.reg (R.CE_CNT_OVR r.engine)).toNat = min ((d.reg (R.CE_CNT_OVR r.engine)).toNat + 1) (2 ^ 32 - 1) ∧
        e.bit (R.CE_FAULT r.engine) F.CE_FAULT.VALID = true ∧
        (e.eng r.engine).insts.any (fun j => j.task == t && j.ctx == i.ctx) = false)) ∧
    (∀ (ses n : Nat) (w : Word), n < 16 → d.MayWrite ses (R.CE_CTL n) → d.WriteOk (R.CE_CTL n) (putF w F.CE_CTL.RESUME 1) →
      Runs (.ceResume ses n w) s (fun e =>
        d.img.tasks.all (fun t => t.engine != n || !(e.tstat t.task).suspended) = true)) ∧
    (∀ (ses n : Nat) (w : Word), n < 16 → d.MayWrite ses (R.CE_CTL n) → d.WriteOk (R.CE_CTL n) (putF w F.CE_CTL.CLRMAX 1) →
      Runs (.ceClrmax ses n w) s (fun e =>
        e.fld (R.CE_UTIL n) F.CE_UTIL.MAXPM = 0 ∧
        d.img.tasks.all (fun t => t.engine != n || ((e.tstat t.task).maxCyc == 0 && (e.tstat t.task).maxFin == 0)) = true)) ∧
    (∀ (n : Nat), n < 16 → bitAt d.debugScope 3 = true → d.engineOff n = false → d.bit R.SAFE_STAT F.SAFE_STAT.ARMED = false ∨ d.safeTasksOf n = [] →
      Runs (.engineHalt n) s (fun e =>
        (e.eng n).halted = true)) ∧
    (∀ (n : Nat), n < 16 → bitAt d.debugScope 3 = true → d.engineOff n = false → d.bit R.SAFE_STAT F.SAFE_STAT.ARMED = true → d.safeTasksOf n ≠ [] →
      Runs (.engineHalt n) s (fun e =>
        e.sec.haltAsk.contains n = true)) ∧
    (∀ (n : Nat) (err : Option (Nat × Nat × Bool)) (i : Inst) (u : Issued), n < 16 → bitAt d.debugScope 3 = true → (d.eng n).halted = true → pickInst (d.eng n).insts = some i → (d.issueCtx n i).pc < (d.eng n).plen → d.nextBundle n i = .inr u → err.any (fun x => x.2.2) = false →
      Runs (.engineStep n err) s (fun e =>
        (e.eng n).halted = true ∧
        tget (e.eng n).ctxs i.ctx {} = u.ctx ∧
        (e.eng n).busy = (d.eng n).busy + d.bundleCycles n u err.isSome)) ∧
    (∀ (n : Nat), n < 16 → bitAt d.debugScope 3 = true → (d.eng n).halted = true →
      Runs (.engineResume n) s (fun e =>
        (e.eng n).halted = false)) ∧
    (∀ (n pc : Nat), n < 16 → pc < 32768 → bitAt d.debugScope 3 = true → d.bit R.SAFE_STAT F.SAFE_STAT.ARMED = false ∨ d.safeTasksOf n = [] →
      Runs (.breakpointSet n pc) s (fun e =>
        (e.eng n).breaks.contains pc = true))

/-! ### Axes: loops, enabling, supervision -/

/-- R199, R212, R214 to R217: the control writes of an axis complete with their effect. -/
def Obligations.AxisControlComplete : Prop :=
  ∀ (s : State) (d : Dev), s.start = d → s.On →
    (∀ (ses a : Nat) (w : Word), a < 8192 → d.MayWrite ses (R.AXIS_CTL a) → d.bit (R.AXIS_CTL a) F.AXIS_CTL.EN = false → d.WriteOk (R.AXIS_CTL a) (putF w F.AXIS_CTL.EN 1) →
      Runs (.axisEnable ses a w) s (fun e =>
        e.axState a = 1 ∧
        e.bit (R.AXIS_CTL a) F.AXIS_CTL.EN = true)) ∧
    (∀ (ses a : Nat) (w : Word), a < 8192 → d.MayWrite ses (R.AXIS_CTL a) → d.bit (R.AXIS_CTL a) F.AXIS_CTL.EN = true → d.WriteOk (R.AXIS_CTL a) (putF w F.AXIS_CTL.EN 0) →
      Runs (.axisDisable ses a w) s (fun e =>
        e.axState a = 0 ∧
        e.bit (R.AXIS_CTL a) F.AXIS_CTL.EN = false)) ∧
    (∀ (ses a : Nat) (w : Word), a < 8192 → d.MayWrite ses (R.AXIS_CTL a) → d.WriteOk (R.AXIS_CTL a) (putF w F.AXIS_CTL.MAN 1) →
      Runs (.manOn ses a w) s (fun e =>
        e.bit (R.AXIS_CTL a) F.AXIS_CTL.MAN = true)) ∧
    (∀ (ses a : Nat) (w : Word), a < 8192 → d.MayWrite ses (R.AXIS_CTL a) → d.WriteOk (R.AXIS_CTL a) (putF w F.AXIS_CTL.MAN 0) →
      Runs (.manOff ses a w) s (fun e =>
        e.bit (R.AXIS_CTL a) F.AXIS_CTL.MAN = false)) ∧
    (∀ (ses a : Nat) (w : Word), a < 8192 → d.MayWrite ses (R.AXIS_CTL a) → getF w F.AXIS_CTL.EN = d.fld (R.AXIS_CTL a) F.AXIS_CTL.EN → d.WriteOk (R.AXIS_CTL a) (putF w F.AXIS_CTL.CLRFLT 1) →
      Runs (.clrflt ses a w) s (fun e =>
        e.bit (R.AXIS_MOT_STAT a) F.AXIS_MOT_STAT.VLFLT = false ∧
        (d.axEnabled a = false → e.fld (R.AXIS_STAT a) F.AXIS_STAT.REACT = 0 ∧ e.fld (R.AXIS_STAT a) F.AXIS_STAT.CAUSE = 0))) ∧
    (∀ (ses a : Nat) (w : Word), a < 8192 → d.MayWrite ses (R.AXIS_CTL a) → d.WriteOk (R.AXIS_CTL a) w →
      Runs (.bankWrite ses a w) s (fun e =>
        e.fld (R.AXIS_CTL a) F.AXIS_CTL.BANK = getF w F.AXIS_CTL.BANK ∧
        (getF w F.AXIS_CTL.BANK ≠ d.fld (R.AXIS_CTL a) F.AXIS_CTL.BANK → ∀ l ∈ d.levels a, ((e.axSt a).level l).transfer = true))) ∧
    (∀ (ses a lvl : Nat) (w : Word), a < 8192 → lvl < 3 → d.MayWrite ses (R.LVL_CFG a lvl) → d.WriteOk (R.LVL_CFG a lvl) w →
      Runs (.lawWrite ses a lvl w) s (fun e =>
        e.fld (R.LVL_CFG a lvl) F.LVL_CFG.LAW = getF w F.LVL_CFG.LAW ∧
        (getF w F.LVL_CFG.LAW ≠ d.fld (R.LVL_CFG a lvl) F.LVL_CFG.LAW → ((e.axSt a).level lvl).transfer = true))) ∧
    (∀ (ses a k : Nat) (w : Word), a < 8192 → k < 8 → d.MayWrite ses (R.FLT_CFG a k) → (d.filterCheck a k w).1 = .ok →
      Runs (.filterCommit ses a k w) s (fun e =>
        e.fld (R.FLT_CFG a k) F.FLT_CFG.KIND = getF w F.FLT_CFG.KIND ∧
        (tget (e.axSt a).flts k {}).next = some (getF w F.FLT_CFG.KIND, getF w F.FLT_CFG.LEVEL, (d.filterCheck a k w).2)))

/-- R96, R203 to R205, R208, R209, R212, R290: what an axis does of itself at its samples completes. -/
def Obligations.AxisSamplesComplete : Prop :=
  ∀ (s : State) (d : Dev), s.start = d → s.On →
    (∀ (a : Nat) (r : AxisRec), a < 8192 → d.axisRec a = some r → r.kind ≠ 1 → isBoundary d.time.tick r.period = true → (d.ms a).tick ≠ some d.time.tick → d.axEnabled a = true →
      Runs (.setpointUpdate a) s (fun e =>
        (e.ms a).tick = some d.time.tick ∧
        (d.axState a ≤ 3 → e.axState a ≤ 3 → e.pairI (R.AXIS_MOT_POS_LO a) (R.AXIS_MOT_POS_HI a) = signed 64 (modN 64 ((e.ms a).sp / p32))))) ∧
    (∀ (a : Nat), a < 8192 → d.axState a = 4 → 8 ≤ (d.axSt a).still →
      Runs (.stopComplete a) s (fun e =>
        e.axState a = 5 ∧
        (e.axSt a).ramp = none)) ∧
    (∀ (a : Nat) (r : AxisRec), a < 8192 → d.axisRec a = some r → d.fld (R.PCFG a) F.PCFG.MODEL ≠ 0 → d.axState a ≠ 0 → d.axState a ≠ 6 → (d.axSt a).primed = true → isBoundary d.time.tick (d.modelK r) = true → d.fbValid a = true →
      Runs (.plausibilitySample a) s (fun e =>
        (e.axSt a).y1 = (d.modelInputs a).1 ∧ (e.axSt a).y2 = (d.axSt a).y1 ∧
        (e.axSt a).u1 = (d.modelInputs a).2 ∧ (e.axSt a).u2 = (d.axSt a).u1 ∧
        (e.axSt a).uSum = 0 ∧ (e.axSt a).uN = 0 ∧
        ((d.axSt a).primedNs + periodNs (d.modelK r) ≤ d.ns → e.reg (R.AXIS_PRES a) = wI (d.residual a)))) ∧
    (∀ (a lvl : Nat) (r : AxisRec), a < 8192 → lvl < 3 → d.axisRec a = some r → d.classA a lvl = false → (d.levels a).contains lvl = true → d.axEnabled a = true → d.periodStart (r.levelK lvl) + 2 * d.fld (R.LVL_CFG a lvl) F.LVL_CFG.OUTPH ≤ d.ns → ((d.axSt a).level lvl).fresh = true → ((d.axSt a).level lvl).sampleNs = some (d.periodStart (r.levelK lvl)) → ((d.axSt a).level lvl).takeNs ≠ some (d.periodStart (r.levelK lvl)) →
      Runs (.classFOutputTake a lvl) s (fun e =>
        ((e.axSt a).level lvl).applied = ((d.axSt a).level lvl).stored ∧
        ((e.axSt a).level lvl).fresh = false ∧
        e.reg (match lvl with | 0 => R.AXIS_DLY_P a | 1 => R.AXIS_DLY_V a | _ => R.AXIS_DLY_C a) = wN (2 * d.fld (R.LVL_CFG a lvl) F.LVL_CFG.OUTPH))) ∧
    (∀ (p : Nat) (relayed : Bool), p < 24 → d.basePort p = p → d.sends p = true → (d.ns / d.portNs p + 1) * d.portNs p - takeLead relayed ≤ d.ns → tget? d.tall.takes (2 * p + (if relayed then 1 else 0)) ≠ some ((d.ns / d.portNs p + 1) * d.portNs p) →
      Runs (.downstreamTake p relayed) s (fun e =>
        tget? e.tall.takes (2 * p + (if relayed then 1 else 0)) = some ((d.ns / d.portNs p + 1) * d.portNs p) ∧
        ∀ i ∈ List.range (d.nodes p), d.slotRelayed p i = relayed → (d.slotRec p i).isSome = true → (tget? (e.port p).blocks i).isSome = true))

/-! ### PWM, drive connectors and sigma-delta inputs -/

/-- R233, R235, R236, R239 to R242, R244, R245: the commands of the PWM legs complete with their effect. -/
def Obligations.PwmComplete : Prop :=
  ∀ (s : State) (d : Dev), s.start = d → s.On →
    (∀ (ses l : Nat) (w : Word), l < 96 → d.MayWrite ses (legReg R.PWM_CMP_LO l) → lowest (d.pairCheck (legReg R.PWM_CMP_LO l) (d.pairValue ses (legReg R.PWM_CMP_LO l) (legReg R.PWM_CMP_HI l) w)) = .ok →
      Runs (.pwmCmpLoWrite ses l w) s (fun e =>
        (e.leg l).commClk = d.clk ∧
        (e.leg l).comm.1 = w.toNat % 2 ^ 26)) ∧
    (∀ (ses l : Nat) (w : Word), l < 96 → d.MayWrite ses (legReg R.PWM_LEG_CTL l) → d.WriteOk (legReg R.PWM_LEG_CTL l) (putF w F.PWM_LEG_CTL.COMMIT 1) →
      Runs (.legCommit ses l w) s (fun e =>
        (e.leg l).commClk = d.clk ∧
        (e.leg l).comm = (d.leg l).comm)) ∧
    (∀ (ses l : Nat) (w : Word), l < 96 → d.MayWrite ses (legReg R.PWM_LEG_CTL l) → d.WriteOk (legReg R.PWM_LEG_CTL l) (putF w F.PWM_LEG_CTL.CLRACC 1) →
      Runs (.clracc ses l w) s (fun e =>
        ((d.car (l / 12)).startClk ≠ some d.clk → e.reg (legReg R.PWM_LEG_ACC l) = 0) ∧
        ((d.car (l / 12)).startClk = some d.clk → e.reg (legReg R.PWM_LEG_ACC l) = 0 ∨ (e.leg l).accIn = 0))) ∧
    (∀ (c : Nat), c < 8 → (d.car c).lastReload ≠ some ((d.ns + 2048) / d.pwmNs c) →
      Runs (.reloadSample c) s (fun e =>
        ∀ l ∈ legsOf c, (d.leg l).commClk < d.clk → (e.leg l).next = (d.leg l).comm ∧
        ∀ l ∈ legsOf c, d.clk ≤ (d.leg l).commClk → (e.leg l).next = (d.leg l).prev)) ∧
    (∀ (c : Nat), c < 8 → (d.car c).lastStart ≠ some (d.ns / d.pwmNs c) →
      Runs (.pwmPeriodStart c) s (fun e =>
        ∀ l ∈ legsOf c, (e.leg l).use = (d.leg l).next ∧
        (e.car c).tap = (d.car c).tapNext.getD (d.car c).tap ∧
        ∀ l ∈ legsOf c, d.legRuns l = true → e.out.any (fun o => match o with | .leg q _ => q == l | _ => false) = true)) ∧
    (∀ (c : Nat) (map : Option Nat), c < 8 → (d.car c).calClk = 0 ∨ (d.car c).calClk + 2000 ≤ d.clk →
      Runs (.delayLineCal c map) s (fun e =>
        e.bit (R.PWM_DRV_STAT c) F.PWM_DRV_STAT.DLFAIL = map.isNone ∧
        (map.isSome = true → (d.car c).startClk ≠ some d.clk → (e.car c).tapNext = map) ∧
        (map.isSome = true → (d.car c).startClk = some d.clk → some (e.car c).tap = map))) ∧
    (∀ (l : Nat) (low : Bool) (ns : Nat), l < 96 → d.legRuns l = true → d.bit (legReg R.PWM_LEG_CFG l) F.PWM_LEG_CFG.DTMODE = false →
      Runs (.swnEdge l low ns) s (fun e =>
        (e.leg l).miss = 0 ∧
        (low = true → ns < 2 * d.fld (legReg R.PWM_LEG_STAT l) F.PWM_LEG_STAT.DTHL → (e.leg l).curHL = some (max ((ns + 1) / 2) ((d.leg l).curHL.getD 0))))) ∧
    (∀ (l : Nat), l < 96 → d.legRuns l = true → d.bit (legReg R.PWM_LEG_CFG l) F.PWM_LEG_CFG.DTMODE = false →
      Runs (.swnMiss l) s (fun e =>
        (e.leg l).miss = (d.leg l).miss + 1 ∧
        (16 ≤ (d.leg l).miss + 1 → e.bit (legReg R.PWM_LEG_STAT l) F.PWM_LEG_STAT.SWNFIX = true))) ∧
    (∀ (c t : Nat) (high : Bool), c < 8 → t < 4 → d.fld (R.PWM_TRIP_CFG c t) F.PWM_TRIP_CFG.FILT = 0 → (d.filOf (4 * c + t)).clk ≤ d.clk → d.pstate ≠ 4 →
      Runs (.tripActive c t high) s (fun e =>
        e.tripActive c t = (high == d.bit (R.PWM_TRIP_CFG c t) F.PWM_TRIP_CFG.POL) ∧
        (d.tripActive c t = false → high = d.bit (R.PWM_TRIP_CFG c t) F.PWM_TRIP_CFG.POL → d.bit (R.PWM_TRIP_CFG c t) F.PWM_TRIP_CFG.EN = true →
          bitAt (d.car c).tripOn t = false → bitAt (e.fld (R.PWM_DRV_STAT c) F.PWM_DRV_STAT.TRIPLAT) t = true)))

/-- R246, R248, R251: the commands of the carriers and the sigma-delta inputs complete with their effect. -/
def Obligations.CarriersComplete : Prop :=
  ∀ (s : State) (d : Dev), s.start = d → s.On →
    (∀ (c : Nat), c < 8 → d.bit (R.PWM_DRV_STAT c) F.PWM_DRV_STAT.PRESENT = true →
      Runs (.carrierRemoved c) s (fun e =>
        e.bit (R.PWM_DRV_STAT c) F.PWM_DRV_STAT.PRESENT = false ∧
        e.bit (R.PWM_DRV_STAT c) F.PWM_DRV_STAT.TYPEOK = false ∧
        ∀ l ∈ legsOf c, (e.leg l).trip = true)) ∧
    (∀ (c : Nat), c < 8 → d.bit (R.PWM_DRV_STAT c) F.PWM_DRV_STAT.PRESENT = false →
      Runs (.carrierInserted c) s (fun e =>
        e.bit (R.PWM_DRV_STAT c) F.PWM_DRV_STAT.PRESENT = true ∧
        (e.car c).reading = true)) ∧
    (∀ (c : Nat) (bytes : List (BitVec 8)), c < 8 → (d.car c).reading = true →
      Runs (.carrierIdReadDone c bytes) s (fun e =>
        (e.car c).reading = false ∧
        e.reg (R.PWM_DRV_TYPE c) = wN (uAt bytes 0 4) ∧
        e.reg (R.PWM_DRV_SERIAL c) = wN (uAt bytes 4 4) ∧
        (e.car c).crcOk = decide ((crc32 (slice bytes 0 60)).toNat = uAt bytes 60 4))) ∧
    (∀ (c j : Nat), c < 8 → j < 13 →
      Runs (.sdLoss c j) s (fun e =>
        e.bit (R.SD_CFG c j) F.SD_CFG.LOSS = true ∧
        (d.bit (R.SD_CFG c j) F.SD_CFG.LOSS = false → ∀ k ∈ d.chansOf 0 (sdSrc c j), (e.chanSt k).valid = false))) ∧
    (∀ (c j : Nat), c < 8 → j < 13 →
      Runs (.sdLossClear c j) s (fun e =>
        e.bit (R.SD_CFG c j) F.SD_CFG.LOSS = false ∧
        ∀ k ∈ d.chansOf 0 (sdSrc c j), (e.chanSt k).valid = true))

/-! ### Feedback -/

/-- R267, R269, R271, R273, R274, R277, R278: the events of the encoder channels complete with their effect. -/
def Obligations.EncodersComplete : Prop :=
  ∀ (s : State) (d : Dev), s.start = d → s.On →
    (∀ (k : Nat) (a b : Bool) (code : Nat) (old : Nat), code = a.toNat + 2 * b.toNat → k < 32 → d.encMode k = 1 → d.fld (R.FBK_ENC_CFG k) F.FBK_ENC_CFG.FILT = 0 → (d.filOf (32 + 4 * k)).clk ≤ d.clk → (d.filOf (32 + 4 * k + 1)).clk ≤ d.clk → d.pstate ≠ 4 → old = d.encCode k % 4 →
      Runs (.quadTransition k a b) s (fun e =>
        e.encCode k % 4 = code ∧
        ((old, code) ∈ [(0, 1), (1, 3), (3, 2), (2, 0)] → (e.enc k).q = wrapI 32 ((d.enc k).q + if d.bit (R.FBK_ENC_CFG k) F.FBK_ENC_CFG.DIR then -1 else 1)) ∧
        ((old, code) ∈ [(1, 0), (3, 1), (2, 3), (0, 2)] → (e.enc k).q = wrapI 32 ((d.enc k).q - if d.bit (R.FBK_ENC_CFG k) F.FBK_ENC_CFG.DIR then -1 else 1)) ∧
        (old + code = 3 → e.bit (R.FBK_ENC_STAT k) F.FBK_ENC_STAT.QERR = true ∧ (e.enc k).q = (d.enc k).q))) ∧
    (∀ (k : Nat) (a : Bool) (bc : Bool × Bool) (code : Nat) (old : Nat), code = a.toNat + 2 * bc.1.toNat + 4 * bc.2.toNat → k < 32 → d.encMode k = 3 → d.fld (R.FBK_ENC_CFG k) F.FBK_ENC_CFG.FILT = 0 → (d.filOf (32 + 4 * k)).clk ≤ d.clk → (d.filOf (32 + 4 * k + 1)).clk ≤ d.clk → (d.filOf (32 + 4 * k + 2)).clk ≤ d.clk → d.pstate ≠ 4 → old = d.encCode k →
      Runs (.hallChange k a bc) s (fun e =>
        e.encCode k = code ∧
        ((old, code) ∈ [(1, 3), (3, 2), (2, 6), (6, 4), (4, 5), (5, 1)] → (e.enc k).q = wrapI 32 ((d.enc k).q + if d.bit (R.FBK_ENC_CFG k) F.FBK_ENC_CFG.DIR then -1 else 1)) ∧
        (old ≠ code → code = 0 ∨ code = 7 → e.bit (R.FBK_ENC_STAT k) F.FBK_ENC_STAT.QERR = true ∧ (e.enc k).q = (d.enc k).q))) ∧
    (∀ (k : Nat), k < 32 → d.encMode k = 2 → (d.enc k).frame = none → (d.enc k).frameNo ≠ some ((d.ns + d.ssiLead k) / periodNs (d.fld (R.FBK_ENC_CFG k) F.FBK_ENC_CFG.PER)) →
      Runs (.ssiFrameStart k) s (fun e =>
        (e.enc k).frame = some d.ns)) ∧
    (∀ (k : Nat) (td : Option Nat) (data : Nat) (err par high : Bool), k < 32 → (d.enc k).frame.isSome = true →
      Runs (.ssiFrameEnd k td data err par high) s (fun e =>
        (e.enc k).frame = none ∧
        (d.ssiError k td data err par high ≠ 0 → (e.enc k).errRun = (d.enc k).errRun + 1) ∧
        (d.ssiError k td data err par high = 0 → (e.enc k).errRun = 0 ∧ (e.enc k).valNs = (d.enc k).frame ∧ e.reg (R.FBK_ENC_POS k) = wI (e.enc k).val))) ∧
    (∀ (k : Nat), k < 32 → d.encMode k = 1 ∨ d.encMode k = 3 → d.time.tick % 2 ^ d.fld (R.FBK_ENC_CFG k) F.FBK_ENC_CFG.PER = 0 → (d.enc k).win ≠ some (d.time.tick / 2 ^ d.fld (R.FBK_ENC_CFG k) F.FBK_ENC_CFG.PER) →
      Runs (.speedWindow k) s (fun e =>
        (e.enc k).win = some (d.time.tick / 2 ^ d.fld (R.FBK_ENC_CFG k) F.FBK_ENC_CFG.PER) ∧
        e.reg (R.FBK_ENC_SPD k) = wI (speedOut (e.enc k).ests (d.fld (R.FBK_ENC_CFG k) F.FBK_ENC_CFG.SPAVG) (d.reg (R.FBK_ENC_SPFS k)).toNat))) ∧
    (∀ (r : Nat) (x : SlotRec), r < 256 → d.bit (R.FBK_REM_CFG r) F.FBK_REM_CFG.EN = true → d.slotOfChan (d.fld (R.FBK_REM_CFG r) F.FBK_REM_CFG.POSCHAN) = some x → (d.rem r).cyc ≠ some (d.reg (R.LINE_CYCLE x.port)).toNat →
      Runs (.remoteEncoderCycle r) s (fun e =>
        (e.rem r).cyc = some (d.reg (R.LINE_CYCLE x.port)).toNat ∧
        (d.bit (R.LINE_SLOT_STAT x.port x.slot) F.LINE_SLOT_STAT.STALE = true → e.bit (R.FBK_REM_STAT r) F.FBK_REM_STAT.VALID = false))) ∧
    (∀ (c : Nat), c < 8 →
      Runs (.encOvercurrent c) s (fun e =>
        bitAt (e.reg R.SYS_ENV_ENC).toNat c = false ∧
        bitAt (e.fld R.FBK_SUP F.FBK_SUP.SUPFLT) c = true ∧
        ∀ k ∈ List.range 4, e.bit (R.FBK_ENC_STAT (4 * c + k)) F.FBK_ENC_STAT.VALID = false))

/-- R275, R278 to R280, R283: the probes and the writes of an encoder channel complete with their effect. -/
def Obligations.ProbesComplete : Prop :=
  ∀ (s : State) (d : Dev), s.start = d → s.On →
    (∀ (p : Nat) (high : Bool), p < 16 → d.bit (R.FBK_PRB_CFG p) F.FBK_PRB_CFG.EN = true → d.bit (R.FBK_PRB_STAT p) F.FBK_PRB_STAT.ARMED = true → (if high then d.fld (R.FBK_PRB_CFG p) F.FBK_PRB_CFG.EDGE % 2 = 1 else 2 ≤ d.fld (R.FBK_PRB_CFG p) F.FBK_PRB_CFG.EDGE) → d.fld (R.FBK_PRB_CFG p) F.FBK_PRB_CFG.FILT = 0 → (d.filOf (160 + p)).clk ≤ d.clk → (d.filOf (160 + p)).out = !high → d.pstate ≠ 4 →
      Runs (.probeEdge p high) s (fun e =>
        e.bit (R.FBK_PRB_STAT p) F.FBK_PRB_STAT.LATCHED = true ∧
        (d.bit (R.FBK_PRB_STAT p) F.FBK_PRB_STAT.LATCHED = true → e.bit (R.FBK_PRB_STAT p) F.FBK_PRB_STAT.OVR = true ∧
          (tget? d.fbk.prbClk p ≠ some d.clk → e.reg (R.FBK_PRB_POS p) = d.reg (R.FBK_PRB_POS p))) ∧
        (d.bit (R.FBK_PRB_STAT p) F.FBK_PRB_STAT.LATCHED = false → e.reg (R.FBK_PRB_TIME p) = wN d.ns) ∧
        (d.bit (R.FBK_PRB_CFG p) F.FBK_PRB_CFG.ONESHOT = true → e.bit (R.FBK_PRB_STAT p) F.FBK_PRB_STAT.ARMED = false))) ∧
    (∀ (ses p : Nat) (w : Word), p < 16 → d.MayWrite ses (R.FBK_PRB_CTL p) → getF w F.FBK_PRB_CTL.DISARM = 0 → d.WriteOk (R.FBK_PRB_CTL p) (putF w F.FBK_PRB_CTL.ARM 1) →
      Runs (.probeArm ses p w) s (fun e =>
        e.bit (R.FBK_PRB_STAT p) F.FBK_PRB_STAT.ARMED = true)) ∧
    (∀ (ses p : Nat) (w : Word), p < 16 → d.MayWrite ses (R.FBK_PRB_CTL p) → d.WriteOk (R.FBK_PRB_CTL p) (putF w F.FBK_PRB_CTL.DISARM 1) →
      Runs (.probeDisarm ses p w) s (fun e =>
        e.bit (R.FBK_PRB_STAT p) F.FBK_PRB_STAT.ARMED = false)) ∧
    (∀ (ses : Nat) (w : Word), d.MayWrite ses R.FBK_SUP → d.WriteOk R.FBK_SUP w →
      Runs (.restore ses w) s (fun e =>
        ∀ c ∈ List.range 8, bitAt (getF w F.FBK_SUP.RESTORE) c = true → bitAt (e.reg R.SYS_ENV_ENC).toNat c = true)) ∧
    (∀ (ses k : Nat) (w : Word), k < 32 → d.MayWrite ses (R.FBK_ENC_CTL k) → d.WriteOk (R.FBK_ENC_CTL k) (putF w F.FBK_ENC_CTL.CLRINV 1) → (d.enc k).errClk.all (fun c => decide (c + clksOfMs 1 < d.clk)) = true → d.encMode k ≠ 2 ∨ (d.enc k).good = true → d.encSupply (encConn k) = true →
      Runs (.encClrinv ses k w) s (fun e =>
        (e.enc k).c1 = false ∧ (e.enc k).c2 = false ∧ (e.enc k).c3 = false)) ∧
    (∀ (ses k : Nat) (w : Word), k < 32 → d.MayWrite ses (R.FBK_ENC_PRESET k) → d.WriteOk (R.FBK_ENC_PRESET k) w →
      Runs (.encPreset ses k w) s (fun e =>
        (e.enc k).q = wrapI 32 (w.toInt + ((((d.enc k).moved.filter (fun x => x.1 == d.clk)).map (·.2)).getD 0)) ∧
        (e.enc k).p = (e.enc k).q ∧
        e.reg (R.FBK_ENC_POS k) = wI (e.enc k).q))

/-! ### Motion, gearing, tracks and virtual masters -/

/-- R290, R293, R296, R299, R300, R303, R304: the move and gear commands of an axis complete with their effect. -/
def Obligations.MotionComplete : Prop :=
  ∀ (s : State) (d : Dev), s.start = d → s.On →
    (∀ (ses a : Nat) (w : Word), a < 8192 → d.MayWrite ses (R.AXIS_MOT_CTL a) → getF w F.AXIS_MOT_CTL.HALT = 0 → d.WriteOk (R.AXIS_MOT_CTL a) (putF w F.AXIS_MOT_CTL.GO 1) →
      Runs (.go ses a w) s (fun e =>
        (e.ms a).move = some (getF w F.AXIS_MOT_CTL.MOVE) ∧
        e.bit (R.AXIS_MOT_STAT a) F.AXIS_MOT_STAT.DONE = false)) ∧
    (∀ (ses a : Nat) (w : Word), a < 8192 → d.MayWrite ses (R.AXIS_MOT_CTL a) → d.WriteOk (R.AXIS_MOT_CTL a) (putF w F.AXIS_MOT_CTL.HALT 1) →
      Runs (.halt ses a w) s (fun e =>
        (e.ms a).move = some 3)) ∧
    (∀ (ses a : Nat) (w : Word), a < 8192 → d.MayWrite ses (R.AXIS_GEAR_CTL a) → d.WriteOk (R.AXIS_GEAR_CTL a) (putF w F.AXIS_GEAR_CTL.ENGAGE 1) →
      Runs (.engage ses a w) s (fun e =>
        (e.ms a).engage = true)) ∧
    (∀ (ses a : Nat) (w : Word), a < 8192 → d.MayWrite ses (R.AXIS_GEAR_CTL a) → d.WriteOk (R.AXIS_GEAR_CTL a) (putF w F.AXIS_GEAR_CTL.ARM 1) →
      Runs (.gearArm ses a w) s (fun e =>
        (e.ms a).change.map (fun c => (c.num, c.den, c.blend)) =
          some (d.regI (R.AXIS_GEAR_NUM a), (d.reg (R.AXIS_GEAR_DEN a)).toNat, (d.reg (R.AXIS_GEAR_BLEND a)).toNat) ∧
        e.fld (R.AXIS_MOT_STAT a) F.AXIS_MOT_STAT.GEARST = 2)) ∧
    (∀ (ses a : Nat) (w : Word), a < 8192 → d.MayWrite ses (R.AXIS_GEAR_CTL a) → d.WriteOk (R.AXIS_GEAR_CTL a) (putF w F.AXIS_GEAR_CTL.CANCEL 1) →
      Runs (.gearCancel ses a w) s (fun e =>
        (e.ms a).cancel = true)) ∧
    (∀ (ses a : Nat) (w : Word), a < 8192 → d.MayWrite ses (R.AXIS_GEAR_CTL a) → d.WriteOk (R.AXIS_GEAR_CTL a) (putF w F.AXIS_GEAR_CTL.DISENGAGE 1) →
      Runs (.disengage ses a w) s (fun e =>
        (e.ms a).disengage = true))

/-- R310, R313 to R316: the commands of tracks and virtual masters complete with their effect. -/
def Obligations.TracksComplete : Prop :=
  ∀ (s : State) (d : Dev), s.start = d → s.On →
    (∀ (ses t : Nat) (w : Word), t < 256 → d.MayWrite ses (R.TRACK_SET_LO t) → lowest (d.pairCheck (R.TRACK_SET_LO t) (d.pairValue ses (R.TRACK_SET_LO t) (R.TRACK_SET_HI t) w)) = .ok →
      Runs (.trackSet ses t w) s (fun e =>
        (e.trk t).preset = some (d.pairValue ses (R.TRACK_SET_LO t) (R.TRACK_SET_HI t) w))) ∧
    (∀ (ses t : Nat) (w : Word), t < 256 → d.MayWrite ses (R.TRACK_CORR t) → d.WriteOk (R.TRACK_CORR t) w →
      Runs (.trackCorr ses t w) s (fun e =>
        e.regI (R.TRACK_CORRREM t) = d.regI (R.TRACK_CORRREM t) + w.toInt ∧
        (e.bit (R.TRACK_STAT t) F.TRACK_STAT.CORRACT = true ↔ e.regI (R.TRACK_CORRREM t) ≠ 0))) ∧
    (∀ (ses t : Nat) (w : Word) (r : TrackRec), t < 256 → d.MayWrite ses (R.TRACK_CTL t) → d.WriteOk (R.TRACK_CTL t) (putF w F.TRACK_CTL.CLRINV 1) → d.trackRec t = some r → (d.trk t).frozen = true →
      Runs (.trackClrinv ses t w) s (fun e =>
        ((d.trackMaster r).valid = true → (e.trk t).clr = true) ∧
        ((d.trackMaster r).valid = false → e.trk t = d.trk t))) ∧
    (d.time.tick % 4 = 0 → d.pstate < 3 → d.running = true →
      Runs .trackUpdate s (fun e =>
        e.mot.trackTick = some d.time.tick)) ∧
    (∀ (t : Nat), t < 256 → d.freezeDue t = true →
      Runs (.trkMasterLost t) s (fun e =>
        (e.trk t).frozen = true ∧
        e.bit (R.TRACK_STAT t) F.TRACK_STAT.VALID = false ∧ e.regI (R.TRACK_VEL t) = 0)) ∧
    (d.time.tick % 4 = 0 → d.pstate < 3 →
      Runs .vmUpdate s (fun e =>
        e.mot.vmTick = some d.time.tick ∧
        (d.mot.vmTick ≠ some d.time.tick → ∀ v ∈ List.range 64, d.bit (R.VM_CTL v) F.VM_CTL.RUN = false → (d.vm v).v = 0 → (d.vm v).acc = 0 →
          (e.vm v).v = 0 ∧ (e.vm v).p = (d.vm v).p))) ∧
    (∀ (ses v : Nat) (w : Word), v < 64 → d.MayWrite ses (R.VM_CTL v) → d.WriteOk (R.VM_CTL v) w →
      Runs (.vmRunWrite ses v w) s (fun e =>
        e.bit (R.VM_CTL v) F.VM_CTL.RUN = (getF w F.VM_CTL.RUN == 1))) ∧
    (∀ (ses v : Nat) (w : Word), v < 64 → d.MayWrite ses (R.VM_SET_LO v) → lowest (d.pairCheck (R.VM_SET_LO v) (d.pairValue ses (R.VM_SET_LO v) (R.VM_SET_HI v) w)) = .ok →
      Runs (.vmSet ses v w) s (fun e =>
        (e.vm v).p = d.pairValue ses (R.VM_SET_LO v) (R.VM_SET_HI v) w * p32 ∧
        e.pairI (R.VM_POS_LO v) (R.VM_POS_HI v) = d.pairValue ses (R.VM_SET_LO v) (R.VM_SET_HI v) w))

/-! ### Arms -/

/-- R328, R349, R350: the control writes of an arm and its period complete with their effect. -/
def Obligations.ArmsComplete : Prop :=
  ∀ (s : State) (d : Dev), s.start = d → s.On →
    (∀ (ses m : Nat) (w : Word), m < 12 → d.MayWrite ses (R.ARM_CTL m) → d.WriteOk (R.ARM_CTL m) (putF w F.ARM_CTL.HOLD 1) →
      Runs (.hold ses m w) s (fun e =>
        (e.arm m).hold = true ∧ (e.arm m).resume = false)) ∧
    (∀ (ses m : Nat) (w : Word), m < 12 → d.MayWrite ses (R.ARM_CTL m) → getF w F.ARM_CTL.HOLD = 0 → d.WriteOk (R.ARM_CTL m) (putF w F.ARM_CTL.RESUME 1) →
      Runs (.armResume ses m w) s (fun e =>
        (e.arm m).resume = true ∧ (e.arm m).hold = (d.arm m).hold)) ∧
    (∀ (ses m : Nat) (w : Word), m < 12 → d.MayWrite ses (R.ARM_CTL m) → d.WriteOk (R.ARM_CTL m) (putF w F.ARM_CTL.FLUSH 1) →
      Runs (.armFlush ses m w) s (fun e =>
        (e.arm m).flush = true ∧ (e.arm m).queue = (d.arm m).queue)) ∧
    (∀ (m : Nat) (r : ArmRec), m < 12 → d.armRec m = some r → d.time.tick % 4 = 0 → d.pstate < 3 → d.running = true →
      Runs (.pathPeriod m) s (fun e =>
        (e.arm m).tick = some d.time.tick ∧
        ((d.arm m).tick ≠ some d.time.tick → d.armState m = 1 → (d.arm m).queue = [] → tget? d.axs.armReq m = none →
          r.axes.all (fun a => d.axState a == 2) = true → e.armState m = 1 ∧ (e.arm m).flush = false ∧ (e.arm m).hold = false)))

/-! ### Tallboy -/

/-- R334 to R336, R363, R364, R366 to R369, R546, R576: the accepted messages of arms and of the Tallboy complete with their effect. The Tallboy
compares its tracks up to now before it looks at a message. -/
def Obligations.ItemMessagesComplete : Prop :=
  ∀ (s : State) (d : Dev), s.start = d → s.On →
    (∀ (src : Nat × Nat × Nat) (m : List (BitVec 8)) (x : Queue), d.Executes 0x0701 1 m x → lowest (d.segCheck m) = .ok →
      Runs (.armSeg src m) s (fun e =>
        (e.arm (uAt m 16 1)).queue = (d.arm (uAt m 16 1)).queue ++ [segOf m] ∧
        (d.tied 0x0701 .ok = false → e.Answered x m (fun b => uAt b 20 4 == uAt m 20 4)) ∧
        (d.tied 0x0701 .ok = true → e.Awaits m (fun b => uAt b 4 4 == uAt m 20 4)))) ∧
    (∀ (src : Nat × Nat × Nat) (m : List (BitVec 8)) (x : Queue) (h : Nat), d.Executes 0x0801 1 m x → h = lowestFree d.tall.items 0 → lowest (d.scanAll.itemChecks m ++ d.scanAll.itemSpecs m) = .ok →
      Runs (.itemAdd src m) s (fun e =>
        (e.item? h).map (fun i => (i.trk, i.tag, i.len)) = some (uAt m 16 1, uAt m 20 4, uAt m 32 4) ∧
        (d.tied 0x0801 .ok = false → e.Answered x m (fun b => uAt b 16 4 % 2 ^ 17 == h)) ∧
        (d.tied 0x0801 .ok = true → e.Awaits m (fun b => uAt b 0 4 % 2 ^ 17 == h)))) ∧
    (∀ (src : Nat × Nat × Nat) (m : List (BitVec 8)) (x : Queue) (i : ItemSt) (k : Nat), d.Executes 0x0802 1 m x → d.item? (uAt m 16 4 % 2 ^ 17) = some i → i.freeSlot = some k → lowest (d.scanAll.actArmChecks m) = .ok →
      Runs (.actArm src m) s (fun e =>
        (e.act? (lowestFree d.tall.acts 0)).map (fun y => (y.kind, y.trk, y.item, y.slot)) = some (uAt m 32 1, uAt m 33 1, uAt m 16 4 % 2 ^ 17, k) ∧
        (d.tied 0x0802 .ok = false → e.Answered x m (fun b => uAt b 20 4 == lowestFree d.tall.acts 0 && uAt b 24 1 == k)) ∧
        (d.tied 0x0802 .ok = true → e.Awaits m (fun b => uAt b 4 4 == lowestFree d.tall.acts 0 && uAt b 8 1 == k)))) ∧
    (∀ (src : Nat × Nat × Nat) (m : List (BitVec 8)) (x : Queue) (k : Nat), d.Executes 0x0803 1 m x → lowest (d.scanAll.actCancelChecks m) = .ok → d.scanAll.slotAct (uAt m 16 4 % 2 ^ 17) (uAt m 20 1) = some k →
      Runs (.actCancel src m) s (fun e =>
        e.act? k = none ∧
        (d.tied 0x0803 .ok = false → e.Answered x m (fun b => uAt b 16 4 == uAt m 16 4)) ∧
        (d.tied 0x0803 .ok = true → e.Awaits m (fun b => uAt b 0 4 == uAt m 16 4)))) ∧
    (∀ (src : Nat × Nat × Nat) (m : List (BitVec 8)) (x : Queue), d.Executes 0x0804 1 m x → lowest (d.scanAll.itemRemoveChecks m) = .ok →
      Runs (.itemRemove src m) s (fun e =>
        e.item? (uAt m 16 4 % 2 ^ 17) = none ∧
        (d.tied 0x0804 .ok = false → e.Answered x m (fun b => uAt b 16 4 == uAt m 16 4)) ∧
        (d.tied 0x0804 .ok = true → e.Awaits m (fun b => uAt b 0 4 == uAt m 16 4)))) ∧
    (∀ (src : Nat × Nat × Nat) (m : List (BitVec 8)) (x : Queue) (i : ItemSt), d.Executes 0x0805 1 m x → lowest (d.scanAll.itemShiftChecks m) = .ok → d.item? (uAt m 16 4 % 2 ^ 17) = some i →
      Runs (.itemShift src m) s (fun e =>
        (e.item? (uAt m 16 4 % 2 ^ 17)).map (fun y => (y.ref, y.trk, y.gen)) = some (um (d.onTrack i.trk ((i.ref + sAt m 20 4) * p32)), i.trk, i.gen) ∧
        (d.tied 0x0805 .ok = false → e.Answered x m (fun b => uAt b 16 4 == uAt m 16 4)) ∧
        (d.tied 0x0805 .ok = true → e.Awaits m (fun b => uAt b 0 4 == uAt m 16 4)))) ∧
    (∀ (src : Nat × Nat × Nat) (m : List (BitVec 8)) (x : Queue), d.Executes 0x0806 2 m x → lowest (d.itemReadChecks m) = .ok →
      Runs (.itemRead src m) s (fun e =>
        e.Answered x m (fun b => slice b 64 64 == slice (d.itemBytes (uAt m 16 4 % 2 ^ 17)) 0 64)))

/-- R361, R372, R374, R376, R382, R385: the Tallboy's other commands complete with their effect. -/
def Obligations.TallboyComplete : Prop :=
  ∀ (s : State) (d : Dev), s.start = d → s.On →
    (∀ (ses : Nat) (w : Word), d.MayWrite ses R.TALL_CTL → d.WriteOk R.TALL_CTL (putF w F.TALL_CTL.FLUSH 1) →
      Runs (.tallFlush ses w) s (fun e =>
        ∀ h ∈ d.tall.items.map (fun (x : Nat × ItemSt) => x.1), e.item? h = none)) ∧
    (∀ (ses : Nat) (w : Word), d.MayWrite ses R.TALL_CTL → d.WriteOk R.TALL_CTL (putF w F.TALL_CTL.CLRMAX 1) →
      Runs (.tallClrmax ses w) s (fun e =>
        ∀ t ∈ List.range 256, e.reg (R.TALL_TRK_ERRMAX t) = 0)) ∧
    (∀ (f : FireSt) (l : List FireSt), d.scanAll.mayFire = true → d.scanAll.tall.fires = f :: l → (d.scanAll.act? f.act).isSome = true →
      Runs .actionFiring s (fun e =>
        e.tall.fireClks.head? = some d.clk ∧
        e.act? f.act = none)) ∧
    (∀ (k : Nat), k < 64 → (d.dioCh k).pulseEnd.any (fun c => decide (c ≤ d.clk)) = true →
      Runs (.pulseEnd k) s (fun e =>
        e.dioCmd k = false)) ∧
    (∀ (i : Nat) (x : ActSt) (c : Nat), i < 262144 → d.scanAll.act? i = some x → x.state = 4 → x.tc = some c → x.ep = none → c ≤ d.ns →
      Runs (.commitMeasure i) s (fun e =>
        (e.act? i).all (fun y => y.ep.isSome) = true)) ∧
    (∀ (o : Nat) (w : Word), o < 8192 →
      Runs (.tackReceived o w) s (fun e =>
        e.reg (R.TALL_TO_ACK o) = w ∧
        ((w.toNat / 2 ^ 24) % 256 = (d.toState o).last → bitAt w.toNat 23 = true → (e.toState o).fired = true))) ∧
    (∀ (i : Nat) (x : ActSt), i < 262144 → d.scanAll.act? i = some x → x.state = 4 → x.ep.isSome = true → (d.scanAll.crossErr x).isSome = true →
      Runs (.remoteActionCrossing i) s (fun e =>
        e.act? i = none)) ∧
    (∀ (i : Nat) (x : ActSt) (c : Nat), i < 262144 → d.scanAll.act? i = some x → x.state = 4 → x.tc = some c → c + d.scanAll.actHorizon x ≤ d.ns →
      Runs (.commitWindowExpiry i) s (fun e =>
        e.act? i = none)) ∧
    (∀ (isItem : Bool) (k : Nat), k < 262144 →
      Runs (.tallEcc isItem k) s (fun e =>
        (isItem = true → e.item? k = none) ∧
        (isItem = false → e.act? k = none)))

/-! ### Gorse and the safety processor -/

/-- R391, R393, R404, R406, R408, R409: the commands of Gorse complete with their effect. -/
def Obligations.GorseComplete : Prop :=
  ∀ (s : State) (d : Dev), s.start = d → s.On →
    (∀ (us : Nat) (dup : Option (Nat × Nat × Nat × Nat)) (kat ecc : Bool), d.gorseOn = true → d.gorse.tick ≠ some d.gorseTick → us ≤ 400 →
      Runs (.gorseEvaluation us dup kat ecc) s (fun e =>
        e.gorse.tick = some d.gorseTick ∧
        (e.reg R.GORSE_CNT_EVAL).toNat = min ((d.reg R.GORSE_CNT_EVAL).toNat + 1) (2 ^ 32 - 1) ∧
        e.fld R.GORSE_EVTIME F.GORSE_EVTIME.LAST = us ∧ e.fld R.GORSE_EVTIME F.GORSE_EVTIME.MAX = max us (d.fld R.GORSE_EVTIME F.GORSE_EVTIME.MAX))) ∧
    (d.gorseOn = true → d.gorse.tick ≠ some d.gorseTick → d.gorseTick * 31250 + 400000 ≤ d.ns →
      Runs .evalDeadline s (fun e =>
        e.gorse.failed = true ∧
        e.fld R.GORSE_STAT F.GORSE_STAT.LASTCAUSE = 1 ∧
        (e.reg R.GORSE_CNT_FAIL).toNat = min ((d.reg R.GORSE_CNT_FAIL).toNat + 1) (2 ^ 32 - 1))) ∧
    (∀ (ses : Nat) (w : Word), d.MayWrite ses R.GORSE_CTL → d.WriteOk R.GORSE_CTL (putF w F.GORSE_CTL.CLRFAIL 1) →
      Runs (.clrfail ses w) s (fun e =>
        (d.gorseState = 4 → e.gorseState = 3) ∧
        (d.gorseState ≠ 4 → e.gorseState = d.gorseState))) ∧
    (∀ (ses : Nat) (w : Word), d.MayWrite ses R.GORSE_CTL → d.WriteOk R.GORSE_CTL (putF w F.GORSE_CTL.CLRMAX 1) →
      Runs (.gorseClrmax ses w) s (fun e =>
        e.fld R.GORSE_EVTIME F.GORSE_EVTIME.MAX = 0 ∧ e.fld R.GORSE_EVTIME F.GORSE_EVTIME.LAST = d.fld R.GORSE_EVTIME F.GORSE_EVTIME.LAST)) ∧
    (∀ (ses m : Nat) (w : Word), m < 12 → d.MayWrite ses (R.GORSE_ARM_CAPEN m) → d.WriteOk (R.GORSE_ARM_CAPEN m) w →
      Runs (.capenWrite ses m w) s (fun e =>
        e.reg (R.GORSE_ARM_CAPEN m) = d.written (R.GORSE_ARM_CAPEN m) w))

/-- R415, R417, R418, R429, R436, R438 to R440, R448, R454: the commands of the safety processor complete with their effect. -/
def Obligations.SafetyComplete : Prop :=
  ∀ (s : State) (d : Dev), s.start = d → s.On →
    (∀ (stofb : List Nat) (xc : List (Nat × Int × Int × Option (Int × Int))), d.time.tick % 4 = 0 → d.safe.tick ≠ some d.time.tick →
      Runs (.safetyCycle stofb xc) s (fun e =>
        e.safe.tick = some d.time.tick ∧ e.safe.stofb = stofb ∧
        (d.safeState = 1 → d.running = true → d.sec.haltAsk = [] → e.safeState = 2 ∧ e.bit R.SAFE_STAT F.SAFE_STAT.ARMED = true))) ∧
    (∀ (ses : Nat) (w : Word), d.MayWrite ses R.SAFE_CTL → d.WriteOk R.SAFE_CTL (putF w F.SAFE_CTL.ACK 1) →
      Runs (.safeAckWrite ses w) s (fun e =>
        e.safe.ack = true)) ∧
    (d.safeGlobal.1 < 64 →
      Runs .ackInputEdge s (fun e =>
        e.safe.ackLvl = d.dioIn d.safeGlobal.1 ∧
        (d.safe.ackLvl = true → d.dioIn d.safeGlobal.1 = false → d.safeState = 2 → e.safe.ack = true))) ∧
    (∀ (cause : Nat), 1 ≤ cause → cause ≤ 7 → d.safeState ≠ 3 →
      Runs (.processorFault cause) s (fun e =>
        e.safeState = 3 ∧ e.bit R.SAFE_STAT F.SAFE_STAT.ARMED = false ∧ e.fld R.SAFE_STAT F.SAFE_STAT.FCAUSE = cause ∧
        ∀ k ∈ d.saxes, e.bit (R.SAFE_SA_STAT k) F.SAFE_SA_STAT.PERMIT = false ∨ d.saReact k = 2)) ∧
    (∀ (fwOk : Bool), d.safeState ≠ 3 → d.since d.safe.romClk (clksOfMs 10000) = true →
      Runs (.romCheck fwOk) s (fun e =>
        e.safe.romClk = d.clk ∧
        (fwOk = false → e.safeState = 3 ∧ e.fld R.SAFE_STAT F.SAFE_STAT.FCAUSE = 3))) ∧
    (∀ (ok : Bool), d.safeState ≠ 3 → d.since d.safe.testClk (clksOfMs 100) = true →
      Runs (.cpuSelfTest ok) s (fun e =>
        e.safe.testClk = d.clk ∧
        (ok = false → e.safeState = 3 ∧ e.fld R.SAFE_STAT F.SAFE_STAT.FCAUSE = 4))) ∧
    (∀ (cause : Nat), cause ≤ 7 → d.safeState = 0 →
      Runs (.safeDiagComplete cause) s (fun e =>
        e.safeState = if cause = 0 then 1 else 3)) ∧
    (∀ (c : Nat), c < 256 → (d.conn c).inbox ≠ [] →
      Runs (.safetyFragment c) s (fun e =>
        (e.conn c).inbox = (d.conn c).inbox.drop 1)) ∧
    (∀ (c : Nat), c < 256 → (d.sconn c).isSome = true → (d.conn c).full ≠ [] →
      Runs (.safetyMessage c) s (fun e =>
        (e.conn c).full = (d.conn c).full.drop 1)) ∧
    (∀ (c : Nat) (r : List Byte), c < 256 → d.sconn c = some r → d.connState c = 1 ∨ d.connState c = 2 → (d.conn c).arr + connWdNs r (d.conn c) < d.ns →
      Runs (.safetyWatchdog c) s (fun e =>
        e.connState c = 3)) ∧
    (∀ (c : Nat) (r : List Byte), c < 256 → d.sconn c = some r → d.time.tick % 2 ^ uAt r 23 1 = 0 →
      Runs (.safetySend c) s (fun e =>
        (e.conn c).sentTick = some d.time.tick))

/-! ### Field I/O -/

/-- R461, R462, R464, R466, R468, R469: the writes of the field outputs complete with their effect. -/
def Obligations.FieldOutputsComplete : Prop :=
  ∀ (s : State) (d : Dev), s.start = d → s.On →
    (∀ (ses b : Nat) (w : Word), b < 4 → d.MayWrite ses (R.DIO_OUT b) → d.WriteOk (R.DIO_OUT b) w →
      Runs (.dioOutWrite ses b w) s (fun e =>
        ∀ i ∈ List.range 16, d.dioDir (16 * b + i) = 1 → d.fld (R.DIO_CH_CFG (16 * b + i)) F.DIO_CH_CFG.SRC = 0 →
          (d.dioCh (16 * b + i)).clrPer ≠ some d.perClk → e.dioCmd (16 * b + i) = bitAt w.toNat i)) ∧
    (∀ (ses b : Nat) (w : Word), b < 4 → d.MayWrite ses (R.DIO_OUT_SET b) → d.WriteOk (R.DIO_OUT_SET b) w →
      Runs (.dioOutSetWrite ses b w) s (fun e =>
        ∀ i ∈ List.range 16, d.dioDir (16 * b + i) = 1 → d.fld (R.DIO_CH_CFG (16 * b + i)) F.DIO_CH_CFG.SRC = 0 →
          (d.dioCh (16 * b + i)).clrPer ≠ some d.perClk → bitAt w.toNat i = true → e.dioCmd (16 * b + i) = true ∧
        ∀ i ∈ List.range 16, bitAt w.toNat i = false → e.dioCmd (16 * b + i) = d.dioCmd (16 * b + i))) ∧
    (∀ (ses b : Nat) (w : Word), b < 4 → d.MayWrite ses (R.DIO_OUT_CLR b) → d.WriteOk (R.DIO_OUT_CLR b) w →
      Runs (.dioOutClrWrite ses b w) s (fun e =>
        ∀ i ∈ List.range 16, d.dioDir (16 * b + i) = 1 → d.fld (R.DIO_CH_CFG (16 * b + i)) F.DIO_CH_CFG.SRC = 0 →
          bitAt w.toNat i = true → e.dioCmd (16 * b + i) = false ∧
        ∀ i ∈ List.range 16, bitAt w.toNat i = false → e.dioCmd (16 * b + i) = d.dioCmd (16 * b + i))) ∧
    (∀ (ses b : Nat) (w : Word), b < 4 → d.MayWrite ses (R.DIO_BANK_CTL b) → d.WriteOk (R.DIO_BANK_CTL b) (putF w F.DIO_BANK_CTL.REARM 1) →
      Runs (.rearm ses b w) s (fun e =>
        e.bit (R.DIO_BANK_STAT b) F.DIO_BANK_STAT.BANKOFF = false)) ∧
    (∀ (ses b : Nat) (w : Word), b < 4 → d.MayWrite ses (R.DIO_BANK_CTL b) → d.WriteOk (R.DIO_BANK_CTL b) (putF w F.DIO_BANK_CTL.WDRESUME 1) →
      Runs (.wdresume ses b w) s (fun e =>
        e.bit (R.DIO_BANK_STAT b) F.DIO_BANK_STAT.WDEXP = false)) ∧
    (∀ (ses b : Nat) (w : Word), b < 4 → d.MayWrite ses (R.DIO_THCLR b) → d.WriteOk (R.DIO_THCLR b) w →
      Runs (.clrtherm ses b w) s (fun e =>
        ∀ i ∈ List.range 16, bitAt w.toNat i = true → (d.dioCh (16 * b + i)).hot = false → (e.dioCh (16 * b + i)).latched = false)) ∧
    (∀ (ses b : Nat) (hi : Bool) (w : Word), b < 4 → d.MayWrite ses (if hi then R.DIO_FLT_B b else R.DIO_FLT_A b) → d.WriteOk (if hi then R.DIO_FLT_B b else R.DIO_FLT_A b) w →
      Runs (.dioFltClear ses b hi w) s (fun e =>
        (hi = false → ∀ i ∈ List.range 16, bitAt (getF w F.DIO_FLT_A.THERM) i = true → (d.dioCh (16 * b + i)).hot = false →
          bitAt (d.setNow (R.DIO_FLT_A b)) (F.DIO_FLT_A.THERM.lo + i) = false → bitAt (e.fld (R.DIO_FLT_A b) F.DIO_FLT_A.THERM) i = false) ∧
        (hi = true → ∀ i ∈ List.range 16, bitAt (getF w F.DIO_FLT_B.CROSS) i = true →
          bitAt (d.setNow (R.DIO_FLT_B b)) (F.DIO_FLT_B.CROSS.lo + i) = false → bitAt (e.fld (R.DIO_FLT_B b) F.DIO_FLT_B.CROSS) i = false)))

/-- R459, R463 to R465, R467 to R469: what reaches the field I/O of itself completes with its effect. -/
def Obligations.FieldEventsComplete : Prop :=
  ∀ (s : State) (d : Dev), s.start = d → s.On →
    (∀ (contacts rb limit : Nat) (lplus : List Nat), d.dio.sample ≠ some (d.ns / 100000) → d.pstate ≠ 4 →
      Runs (.fieldSample contacts rb limit lplus) s (fun e =>
        e.dio.sample = some (d.ns / 100000) ∧
        ∀ b ∈ [0, 1, 2, 3], (e.reg (R.DIO_RB b)).toNat = (rb / 2 ^ (16 * b)) % 65536 ∧
          e.fld (R.DIO_BANK_STAT b) F.DIO_BANK_STAT.LPLUS = min (lplus.getD b 0) 511 ∧
        ∀ k ∈ List.range 64, d.dioDir k = 0 → d.fld (R.DIO_CH_CFG k) F.DIO_CH_CFG.FILT = 0 →
          e.dioIn k = (bitAt contacts k != d.bit (R.DIO_CH_CFG k) F.DIO_CH_CFG.INV))) ∧
    (∀ (b : Nat), b < 4 → d.bit (R.DIO_BANK_STAT b) F.DIO_BANK_STAT.BANKOFF = false →
      Runs (.bankOff b) s (fun e =>
        e.bit (R.DIO_BANK_STAT b) F.DIO_BANK_STAT.BANKOFF = true ∧ e.reg (R.DIO_OUT b) = 0 ∧
        ∀ i ∈ List.range 16, (e.dioCh (16 * b + i)).level = false)) ∧
    (∀ (b : Nat), b < 4 → (d.dioBank b).refresh.any (fun c => d.since c (clksOfMs (d.dioBank b).wdt)) = true → (d.dioBank b).holding = false →
      Runs (.fieldWdExpiry b) s (fun e =>
        e.bit (R.DIO_BANK_STAT b) F.DIO_BANK_STAT.WDEXP = true)) ∧
    (∀ (k : Nat), k < 64 → d.dioDir k = 1 → (d.dioCh k).level = true →
      Runs (.thermalShutdown k) s (fun e =>
        (e.dioCh k).hot = true ∧ (e.dioCh k).level = false ∧
        bitAt (e.fld (R.DIO_FLT_A (k / 16)) F.DIO_FLT_A.THERM) (k % 16) = true)) ∧
    (∀ (k : Nat), k < 64 →
      Runs (.thermalRestart k) s (fun e =>
        (e.dioCh k).hot = false)) ∧
    (∀ (k : Nat), k < 64 → d.dioSafety k = true → (d.dioCh k).level = true → d.dio.pulse = none → 50000 ≤ d.ns % 100000 → (d.dioCh k).lastPulse = 0 ∨ (d.dioCh k).lastPulse + d.fld (R.DIO_BANK_CFG (k / 16)) F.DIO_BANK_CFG.TPPER * 1000000 ≤ d.ns →
      Runs (.testPulse k) s (fun e =>
        e.dio.pulse = some (k, d.ns / 100000 * 100000 + 50000) ∧
        (e.dioCh k).level = false))

/-! ### CAN -/

/-- R486 to R491: sending on the CAN channels completes. -/
def Obligations.CanSendComplete : Prop :=
  ∀ (s : State) (d : Dev), s.start = d → s.On →
    (∀ (src : Nat × Nat × Nat) (m : List (BitVec 8)) (x : Queue) (b : Nat), d.Executes 0x0B01 1 m x → lowest (d.canTxChecks m) = .ok → (if uAt m 17 1 = 0xFF then d.canFreeBuf (uAt m 16 1) = some b else b = uAt m 17 1) →
      Runs (.canTx src m) s (fun e =>
        (tget? (e.canCh (uAt m 16 1)).bufs b).map (fun f => (f.flags, f.dlc, f.id, f.data)) = some (uAt m 18 1, uAt m 19 1, uAt m 20 4, slice m 32 64) ∧
        e.fld (R.CAN_TXB_STAT (uAt m 16 1) b) F.CAN_TXB_STAT.STATE = 1 ∧
        e.Answered x m (fun a => uAt a 16 1 == uAt m 16 1 && uAt a 17 1 == b))) ∧
    (∀ (src : Nat × Nat × Nat) (m : List (BitVec 8)) (x : Queue), d.Executes 0x0B02 1 m x → uAt m 16 1 < 8 → uAt m 17 1 < 32 → d.inSwitch = false → (tget? (d.canCh (uAt m 16 1)).bufs (uAt m 17 1)).isSome = true → d.fld (R.CAN_TXB_STAT (uAt m 16 1) (uAt m 17 1)) F.CAN_TXB_STAT.STATE = 1 →
      Runs (.canCancel src m) s (fun e =>
        e.fld (R.CAN_TXB_STAT (uAt m 16 1) (uAt m 17 1)) F.CAN_TXB_STAT.STATE = 0 ∧
        e.Answered x m (fun a => uAt a 16 1 == uAt m 16 1 && uAt a 17 1 == uAt m 17 1))) ∧
    (∀ (c r : Nat) (tdc : Option Nat) (quiet : Bool) (b : Nat) (f : CanFrame), c < 8 → b < 32 → (d.canCh c).cur = some (CanSrc.buffer b) → tget? (d.canCh c).bufs b = some f → tdc = none →
      Runs (.canTxEnd c r tdc quiet) s (fun e =>
        (r = 0 → tget? (e.canCh c).bufs b = none ∧ (e.canCh c).cur = none ∧ e.reg (R.CAN_TXB_STAT c b) = 0 ∧ e.bit (R.CAN_STAT c) F.CAN_STAT.LONE = false) ∧
        (r = 1 → d.bit (R.CAN_TXB_STAT c b) F.CAN_TXB_STAT.CANREQ = false → bitAt f.flags 6 = false → e.fld (R.CAN_TXB_STAT c b) F.CAN_TXB_STAT.STATE = 1 ∧ (e.canCh c).cur = none))) ∧
    (∀ (c : Nat), c < 8 → d.bit (R.CAN_STAT c) F.CAN_STAT.LONE = true → d.canMode c = 1 → d.canState c = 2 ∨ d.canState c = 3 → (d.canCh c).cur = none → d.bit (R.CAN_STAT c) F.CAN_STAT.CLASHFULL = false → d.since (d.canCh c).loneClk (clksOfMs 100) = true →
      Runs (.canLoneRetry c) s (fun e =>
        (e.canCh c).loneClk = d.clk ∧
        (d.canPending c ≠ [] → (e.canCh c).cur.isSome = true))) ∧
    (∀ (c : Nat), c < 8 → d.canState c = 4 → (d.canCh c).recovering = true →
      Runs (.canRecovered c) s (fun e =>
        e.canState c = 2 ∧ e.canTec c = 0 ∧ e.canRec c = 0)) ∧
    (∀ (ses c : Nat) (w : Word), c < 8 → d.MayWrite ses (R.CAN_CTL c) → getF w F.CAN_CTL.RATERESTART = 0 → d.WriteOk (R.CAN_CTL c) (putF w F.CAN_CTL.RECOVER 1) →
      Runs (.recover ses c w) s (fun e =>
        (d.canState c = 4 → (e.canCh c).recovering = true) ∧
        (d.canState c ≠ 4 → (e.canCh c).recovering = (d.canCh c).recovering))) ∧
    (∀ (ses c : Nat) (w : Word), c < 8 → d.MayWrite ses (R.CAN_CTL c) → d.WriteOk (R.CAN_CTL c) (putF w F.CAN_CTL.CLASHCLR 1) →
      Runs (.clashclr ses c w) s (fun e =>
        e.bit (R.CAN_STAT c) F.CAN_STAT.CLASHFULL = false ∧
        ∀ i ∈ List.range 8, e.reg (R.CAN_CLASH_ID c i) = 0))

/-- R476, R481 to R484: receiving on the CAN channels completes. -/
def Obligations.CanReceiveComplete : Prop :=
  ∀ (s : State) (d : Dev), s.start = d → s.On →
    (∀ (c flags dlc id : Nat) (data : List (BitVec 8)) (ago edge : Nat) (time : Word), c < 8 → d.canState c = 2 ∨ d.canState c = 3 → bitAt flags 1 = false ∨ d.bit (R.CAN_CFG c) F.CAN_CFG.FDEN = true → bitAt flags 2 = false ∨ d.bit (R.CAN_CFG c) F.CAN_CFG.AUTOBAUD = false ∨ (d.canCh c).dbt = true → d.connOfId c (canKey flags (id % 2 ^ 29)) = none → time = wN ((d.ns - 5 * ago) / 5 * 5) →
      Runs (.canFrameReceived c flags dlc id data ago edge) s (fun e =>
        (∀ i ∈ List.range 64, d.canMatch c flags (id % 2 ^ 29) ((d.ns - 5 * ago) / 5 * 5) = some (i, false) → (d.canCh c).rxa.length < 128 →
          (e.canCh c).rxa = (d.canCh c).rxa ++ [canBody c i (flags % 32) (min dlc 15) (id % 2 ^ 29) time data]) ∧
        (∀ i ∈ List.range 64, d.canMatch c flags (id % 2 ^ 29) ((d.ns - 5 * ago) / 5 * 5) = some (i, true) → (d.canCh c).rxb.length < 128 →
          (e.canCh c).rxb = (d.canCh c).rxb ++ [canBody c i (flags % 32 + 128) (min dlc 15) (id % 2 ^ 29) time data]) ∧
        (d.canMatch c flags (id % 2 ^ 29) ((d.ns - 5 * ago) / 5 * 5) = none → d.bit (R.CAN_CFG c) F.CAN_CFG.ACCEPTALL = false →
          (e.reg (R.CAN_CNT_NOMATCH c)).toNat = min ((d.reg (R.CAN_CNT_NOMATCH c)).toNat + 1) (2 ^ 32 - 1)))) ∧
    (∀ (c : Nat) (b : List Byte) (l : List (List Byte)), c < 8 → d.hasRoom (d.fld (R.CAN_CFG c) F.CAN_CFG.HOSTQ) = true → (d.canCh c).done = [] → (d.canCh c).rxa = b :: l →
      Runs (.canRx c) s (fun e =>
        (e.canCh c).rxa = l ∧
        e.out.any (fun o => match o with | .placed q _ m => q == d.fld (R.CAN_CFG c) F.CAN_CFG.HOSTQ && uAt m 0 2 == 0x0B83 | _ => false) = true)) ∧
    (∀ (c kind : Nat) (heavy : Bool), c < 8 → kind < 4 → d.canState c = 2 ∨ d.canState c = 3 →
      Runs (.canRxFrameError c kind heavy) s (fun e =>
        e.canRec c = min (d.canRec c + if heavy then 8 else 1) 255)) ∧
    (∀ (c : Nat), c < 8 → d.canState c = 1 → d.canTec c < 128 → d.canRec c < 128 →
      Runs (.canBusIntegration c) s (fun e =>
        e.canState c = 2)) ∧
    (∀ (ses c : Nat) (w : Word), c < 8 → d.MayWrite ses (R.CAN_CTL c) → d.bit (R.CAN_CFG c) F.CAN_CFG.AUTOBAUD = true → d.fld (R.CAN_CFG c) F.CAN_CFG.MODE = 2 → d.WriteOk (R.CAN_CTL c) (putF w F.CAN_CTL.RATERESTART 1) →
      Runs (.raterestart ses c w) s (fun e =>
        e.canState c = 5 ∧ e.bit (R.CAN_STAT c) F.CAN_STAT.RATEOK = false ∧ (e.canCh c).detClk = d.clk)) ∧
    (∀ (c : Nat), c < 8 → d.canState c = 5 → d.since (d.canCh c).detClk (clksOfMs 10000) = true →
      Runs (.canRateFail c) s (fun e =>
        (e.canCh c).detFailed = true))

/-! ### Capture -/

/-- R501, R504, R506, R507, R513, R514: the commands of the capture complete with their effect. -/
def Obligations.CaptureComplete : Prop :=
  ∀ (s : State) (d : Dev), s.start = d → s.On →
    (∀ (ses : Nat) (w : Word), d.MayWrite ses R.CAP_CTL → lowest d.armCaptureChecks = .ok → getF w F.CAP_CTL.STOP = 0 → getF w F.CAP_CTL.CLR = 0 →
      Runs (.capArm ses w) s (fun e =>
        e.capRuns = true ∧ e.cap.cur.isSome = true)) ∧
    (∀ (ses : Nat) (w : Word), d.MayWrite ses R.CAP_CTL → getF w F.CAP_CTL.ARM = 0 → getF w F.CAP_CTL.CLR = 0 →
      Runs (.capStop ses w) s (fun e =>
        e.capRuns = false ∧
        (d.capRuns = true → e.capState = 6))) ∧
    (∀ (ses : Nat) (w : Word), d.MayWrite ses R.CAP_CTL → getF w F.CAP_CTL.ARM = 0 → getF w F.CAP_CTL.CLR = 0 → getF w F.CAP_CTL.STOP = 0 →
      Runs (.capForce ses w) s (fun e =>
        (d.capState = 1 ∨ d.capState = 2 → e.cap.force = true) ∧
        e.capState = d.capState)) ∧
    (∀ (ses : Nat) (w : Word), d.MayWrite ses R.CAP_CTL → getF w F.CAP_CTL.ARM = 0 → d.capRuns = false →
      Runs (.capClr ses w) s (fun e =>
        e.capState = 0 ∧ e.cap.recs = [] ∧ e.fld R.CAP_STAT F.CAP_STAT.RECDONE = 0)) ∧
    (∀ (raws : List (List Int)) (fill : Nat) (lost : Bool) (r : CapRec) (n : Nat), d.capRuns = true → n = d.time.tick / 2 ^ d.fld R.CAP_CFG F.CAP_CFG.KPER * 2 ^ d.fld R.CAP_CFG F.CAP_CFG.KPER → d.cap.tick ≠ some n → d.cap.cur = some r →
      Runs (.captureSample raws fill lost) s (fun e =>
        e.cap.tick = some n ∧
        (d.capState = 1 → d.capMode ≠ 2 → lost = false → fill ≤ 75 → d.cap.phase % 2 ^ r.dec.length = 0 →
          e.cap.cur.map (fun x => (x.fab, x.times)) = some ((List.range r.nFab).map (fun i => d.capValue (d.capChan i)) :: r.fab, n * 31250 :: r.times)))) ∧
    (d.capState = 2 → d.fld R.CAP_AUTO F.CAP_AUTO.AUTOTO ≠ 0 → d.since d.cap.waitClk (clksOfMs (d.fld R.CAP_AUTO F.CAP_AUTO.AUTOTO)) = true →
      Runs .autoTrigger s (fun e =>
        e.cap.autoDue = true))

/-! ### The Bureau -/

/-- R520 to R522, R524, R526, R528, R529, R535: the commands of the Bureau complete with their effect. The event queues of the sessions have room, so that no drop is recorded beside (R578). -/
def Obligations.BureauComplete : Prop :=
  ∀ (s : State) (d : Dev), s.start = d → s.On →
    (∀ (code sev : Nat) (source : Word) (data : List Word) (bad : List Nat), code < 65536 → sev < 8 → bad = [] → d.bureau.store = .mram → d.bureau.retired = [] → d.fld R.EVT_CFG F.EVT_CFG.RECMIN ≤ sev → d.bureau.newest.all (fun r => !repeatsRec r { code := code, sev := sev, source := source, data := data } (d.reg R.EVT_BOOTNO).toNat) = true → (freePlace (d.bureau.mram.map (·.place)) [] (d.bureau.mram.length + 513) 0).isSome = true → d.host.sess.all (fun x => x.2.sub.all (fun u => (tget? d.host.queues u.1).any (fun q => decide (q.resv + 6 < q.freeEntries)))) = true →
      Runs (.eventReceived code sev source data bad) s (fun e =>
        e.bureau.mram.getLast?.map (fun r => (r.code, r.sev, r.source, r.data, r.seq)) = some (code, sev, source, data.take 7, nextSeq d.bureau.lastSeq) ∧
        e.bureau.lastSeq = nextSeq d.bureau.lastSeq)) ∧
    (∀ (code sev : Nat) (source : Word) (data : List Word) (bad : List Nat) (r : Rec), code < 65536 → sev < 8 → d.fld R.EVT_CFG F.EVT_CFG.RECMIN ≤ sev → d.bureau.store ≠ .copying → d.bureau.newest = some r → repeatsRec r { code := code, sev := sev, source := source, data := data } (d.reg R.EVT_BOOTNO).toNat = true → bad = [] → d.host.sess.all (fun x => x.2.sub.all (fun u => (tget? d.host.queues u.1).any (fun q => decide (q.resv + 6 < q.freeEntries)))) = true →
      Runs (.eventReceived code sev source data bad) s (fun e =>
        (e.bureau.mram ++ e.bureau.lg).any (fun q => q.seq == r.seq && q.rep == min (r.rep + 1) 0xFFFFFFFF && q.lastTs == d.ts) = true ∧
        e.bureau.lastSeq = d.bureau.lastSeq)) ∧
    (∀ (code sev : Nat) (source : Word) (data : List Word) (bad : List Nat), code < 65536 → sev < 8 → d.fld R.EVT_CFG F.EVT_CFG.RECMIN ≤ sev → d.bureau.store = .lastGasp → d.bureau.lg.length < 64 → d.bureau.newest.all (fun r => !repeatsRec r { code := code, sev := sev, source := source, data := data } (d.reg R.EVT_BOOTNO).toNat) = true → d.host.sess.all (fun x => x.2.sub.all (fun u => (tget? d.host.queues u.1).any (fun q => decide (q.resv + 6 < q.freeEntries)))) = true →
      Runs (.eventReceived code sev source data bad) s (fun e =>
        e.bureau.lg.getLast?.map (fun r => (r.code, r.sev, r.source, r.data, r.seq, r.flags)) = some (code, sev, source, data.take 7, nextSeq d.bureau.lastSeq, 1))) ∧
    (∀ (ses : Nat) (w : Word), d.MayWrite ses R.EVT_CTL → d.bureau.store = .mram → d.bureau.retired = [] → d.bureau.badRegions = [] → d.fld R.EVT_CFG F.EVT_CFG.RECMIN ≤ 5 → d.WriteOk R.EVT_CTL (putF w F.EVT_CTL.CLEAR 1) → d.host.sess.all (fun x => x.2.sub.all (fun u => (tget? d.host.queues u.1).any (fun q => decide (q.resv + 6 < q.freeEntries)))) = true →
      Runs (.evtClear ses w) s (fun e =>
        e.bureau.mram.map (·.code) = [0xE108] ∧ e.bureau.lg = [] ∧
        e.bureau.ovf = [] ∧ e.bureau.lost = 0 ∧ e.bureau.torn = 0)) ∧
    (∀ (ses : Nat) (bad : List Nat) (w : Word), d.MayWrite ses R.EVT_CTL → getF w F.EVT_CTL.CLEAR = 0 → d.WriteOk R.EVT_CTL (putF w F.EVT_CTL.RETEST 1) →
      Runs (.retest ses bad w) s (fun e =>
        e.bureau.retired = d.bureau.retired.filter (fun g => bad.contains g))) ∧
    (∀ (ses : Nat) (w : Word), d.MayWrite ses R.EVT_CTL → getF w F.EVT_CTL.CLEAR = 0 → d.WriteOk R.EVT_CTL (putF w F.EVT_CTL.NEXT 1) →
      Runs (.next ses w) s (fun e =>
        ((tget d.bureau.win 15 []).getD 0 0 ≠ 0 → e.reg R.EVT_CURSOR = (tget d.bureau.win 15 []).getD 0 0 + 1) ∧
        ((tget d.bureau.win 15 []).getD 0 0 = 0 → ∀ r ∈ d.bureau.newest.toList, e.reg R.EVT_CURSOR = r.seq + 1))) ∧
    (∀ (place : Nat × Nat) (fails : Bool) (w k : Nat) (x : Dev), place = (w, k) → w < 16 → k < 16 → x = (if fails && k == 0 then d.winFails w else d) →
      Runs (.evtWinRead place fails) s (fun e =>
        (k = 0 → Out.word .ok ((((x.bureau.fromCursor (d.reg R.EVT_CURSOR))[w]?).map (fun r => r.words.getD 0 0)).getD 0) ∈ e.out ∧
          tget e.bureau.win w [] = (((x.bureau.fromCursor (d.reg R.EVT_CURSOR))[w]?).map Rec.words).getD []) ∧
        (k ≠ 0 → Out.word .ok ((tget d.bureau.win w []).getD k 0) ∈ e.out) ∧
        (fails = true → k = 0 → ∀ r ∈ ((d.bureau.fromCursor (d.reg R.EVT_CURSOR))[w]?).toList, d.bureau.mram.contains r = true →
          e.bureau.retired.contains (r.place / regionSize) = true ∧ e.bureau.regFail = true))) ∧
    (d.bureau.store = .mram →
      Runs .mramTimeout s (fun e =>
        e.bureau.store = .lastGasp ∧ e.bureau.lgFrom = nextSeq d.bureau.lastSeq)) ∧
    (∀ (answers : Bool), d.bureau.store = .lastGasp → d.since d.bureau.probeClk fabHz = true →
      Runs (.mramProbe answers) s (fun e =>
        e.bureau.probeClk = d.clk ∧
        (answers = true → d.bureau.retired.length < 512 → e.bureau.store = .copying))) ∧
    (∀ (bad : List Nat), d.bureau.store = .copying → bad = [] → d.bureau.retired.length < 512 →
      Runs (.mramCopyDone bad) s (fun e =>
        e.bureau.store = .mram))

/-! ### The redundant pair -/

/-- R540, R543 to R546, R548, R552: mirroring completes. -/
def Obligations.MirrorComplete : Prop :=
  ∀ (s : State) (d : Dev), s.start = d → s.On →
    (d.x4 = true → d.winOpen = false → d.since d.duo.helloClk (clksOfMs 1) = true →
      Runs .pairHelloSend s (fun e =>
        e.duo.helloClk = d.clk ∧
        e.LinkSends (fun o => match o with | .pair 5 _ _ _ => true | _ => false))) ∧
    (∀ (h : Machine.PairHello) (ok : Bool), d.x4 = true →
      Runs (.pairHello h ok) s (fun e =>
        (ok = true → e.duo.peer = some h ∧ e.reg R.PAIR_PEER_SERIAL = wN h.serial ∧ e.duo.heardClk = some d.clk) ∧
        (ok = false → (e.reg R.PAIR_CNT_GAP).toNat = min ((d.reg R.PAIR_CNT_GAP).toNat + 1) (2 ^ 32 - 1) ∧ e.duo = d.duo))) ∧
    (d.mirrors = true → d.time.tick ≠ 0 → d.duo.sentTick ≠ some (d.time.tick - 1) →
      Runs .mirrorSend s (fun e =>
        e.duo.sentTick = some (d.time.tick - 1) ∧ e.duo.sent = d.mirrorList)) ∧
    (∀ (f : Machine.MirFrame) (ok : Bool), d.x4 = true → ok = true → d.isStandby = true → d.duo.copyWait = false → d.duo.early = [] → f.fseq = d.duo.expect →
      Runs (.mirrorFrame f ok) s (fun e =>
        e.duo.expect = (f.fseq + 1) % 2 ^ 32 ∧ e.duo.gapTick = none ∧
        e.LinkSends (fun o => match o with | .pair 2 _ _ _ => true | _ => false))) ∧
    (∀ (tick : Nat) (want : Option Nat) (hand ok : Bool), d.x4 = true → ok = true → d.role = 1 →
      Runs (.pairAck tick want hand ok) s (fun e =>
        e.duo.acked = some (max tick (d.duo.acked.getD 0)) ∧ e.duo.ackClk = d.clk ∧ e.duo.standbyLost = false)) ∧
    (d.duo.gapTick.any (fun t => decide (t + 32 ≤ d.time.tick)) = true → d.isStandby = true →
      Runs .mirrorGapTimeout s (fun e =>
        e.duo.copyWait = true ∧ e.mstate = 1)) ∧
    (∀ (ok : Bool), d.x4 = true → ok = true → d.mirrors = true →
      Runs (.syncreq ok) s (fun e =>
        e.duo.sent = d.mirrorList ∧ e.duo.fseq = (d.duo.fseq + 1) % 2 ^ 32)) ∧
    (∀ (rtt : Nat) (ofs : Int), d.x4 = true →
      Runs (.pairLinkDelay rtt ofs) s (fun e =>
        e.reg R.PAIR_LINKDLY = wN (rtt / 2))) ∧
    (d.role = 1 → d.paired = true → d.duo.acked.isSome = true → d.duo.standbyLost = false → d.since d.duo.ackClk d.linkTo = true →
      Runs .standbyAckTimeout s (fun e =>
        e.duo.standbyLost = true ∧ e.mstate = 3))

/-- R549 to R551, R557, R560: paths, takeover and handover complete. -/
def Obligations.TakeoverComplete : Prop :=
  ∀ (s : State) (d : Dev), s.start = d → s.On →
    (∀ (down : Bool), d.bit R.PAIR_STAT F.PAIR_STAT.LINKUP = true → down = true ∨ d.linkSilent = true →
      Runs (.linkPathLost down) s (fun e =>
        e.bit R.PAIR_STAT F.PAIR_STAT.LINKUP = false ∧ e.duo.linkLost = true ∧
        (d.isStandby = true → d.duo.lineLost = true → d.mstate = 2 → d.pstate ≠ 4 → d.bit R.SYS_PF_STAT F.SYS_PF_STAT.PFW = false →
          d.bit R.PAIR_STAT F.PAIR_STAT.MISMATCH = false → e.role = 1))) ∧
    (d.isStandby = true → d.pstate ≠ 4 → d.bit R.PAIR_STAT F.PAIR_STAT.LINESUP = true → d.linesSilent = true →
      Runs .linePathLost s (fun e =>
        e.bit R.PAIR_STAT F.PAIR_STAT.LINESUP = false ∧ e.duo.lineLost = true)) ∧
    (
      Runs .pairPathBack s (fun e =>
        (d.duo.linkLost = true → d.linkSilent = false → e.duo.linkLost = false ∧ e.bit R.PAIR_STAT F.PAIR_STAT.LINKUP = true) ∧
        (d.duo.lineLost = true → d.linesSilent = false → e.duo.lineLost = false ∧ e.bit R.PAIR_STAT F.PAIR_STAT.LINESUP = true))) ∧
    (∀ (ses : Nat) (w : Word), d.MayWrite ses R.PAIR_CTL → d.WriteOk R.PAIR_CTL (putF w F.PAIR_CTL.SWITCH 1) →
      Runs (.switch ses w) s (fun e =>
        e.duo.switchT = some (boundaryAfter d.ns))) ∧
    (∀ (ses : Nat) (w : Word), (tget? d.host.sess ses).any (fun x => x.ctl) = true → d.isStandby = true → d.inSwitch = false → d.handingOver = false → d.Reachable R.PAIR_CTL → getF w F.PAIR_CTL.SWITCH = 0 →
      Runs (.pairResyncWrite ses w) s (fun e =>
        e.duo.copyWait = true ∧ e.mstate = 1)) ∧
    (∀ (t : Nat) (ok : Bool), d.x4 = true → ok = true → d.isStandby = true → d.mstate = 2 →
      Runs (.handover t ok) s (fun e =>
        e.duo.takeT = some t)) ∧
    (
      Runs .handoverBoundary s (fun e =>
        (d.duo.demoteT = none → d.isStandby = true → ∀ t ∈ d.duo.takeT.toList, t ≤ d.ns → e.role = 1 ∧ e.duo.demoteT = some (t + 4000000)) ∧
        (d.duo.demoteT = none → d.duo.takeT = none → d.duo.handAcked = true → ∀ t ∈ d.duo.switchT.toList, t ≤ d.ns →
          e.duo.demoteT = some (t + 4000000)) ∧
        (∀ t ∈ d.duo.demoteT.toList, t ≤ d.ns → e.duo.demoteT = none))) ∧
    (d.duo.switchT.any (fun t => decide (t ≤ d.ns + 10000)) = true → d.duo.handAcked = false → d.duo.demoteT = none →
      Runs .handoverAckTimeout s (fun e =>
        e.duo.switchT = none))

/-! ### Host interface: sessions, queues, messages -/

/-- R569 to R572, R574, R577, R578: the unqueued messages of a session complete with their effect. -/
def Obligations.SessionsComplete : Prop :=
  ∀ (s : State) (d : Dev), s.start = d → s.On →
    (∀ (src : Nat × Nat × Nat) (m : List (BitVec 8)) (k : Nat), d.hostLink (peerOf src).port = true → m.length = 64 ∧ uAt m 0 2 = 0x0F01 ∧ uAt m 2 1 = 1 → d.host.sess.all (fun e => e.2.nonce != uAt m 16 4) = true → [0, 1, 2, 3].find? (fun k => (d.sess? k).isNone) = some k → uAt m 20 1 = 0 ∨ (uAt m 20 1 = 1 ∧ d.ctlSlot = none) →
      Runs (.sessOpen src m) s (fun e =>
        (e.sess? k).map (fun x => (x.nonce, x.ctl, x.peer, x.lastClk)) = some (uAt m 16 4, uAt m 20 1 == 1, peerOf src, d.clk))) ∧
    (∀ (src : Nat × Nat × Nat) (m : List (BitVec 8)) (k : Nat), d.Arrives 0x0F02 src m k →
      Runs (.sessClose src m) s (fun e =>
        e.sess? k = none ∧
        ∀ q ∈ d.queuesOf k, e.queue? q = none)) ∧
    (∀ (src : Nat × Nat × Nat) (m : List (BitVec 8)) (k : Nat), d.Arrives 0x0F03 src m k → uAt m 16 1 = 0 →
      Runs (.keepalive src m) s (fun e =>
        (e.sess? k).map (fun x => (x.lastClk, x.ctl)) = (d.sess? k).map (fun x => (d.clk, x.ctl)))) ∧
    (∀ (src : Nat × Nat × Nat) (m : List (BitVec 8)) (k : Nat), d.Arrives 0x0F03 src m k → uAt m 16 1 = 1 → d.ctlSlot = none ∨ d.ctlSlot = some k →
      Runs (.claim src m) s (fun e =>
        e.isCtl k = true)) ∧
    (∀ (src : Nat × Nat × Nat) (m : List (BitVec 8)) (k : Nat), d.Arrives 0x0F03 src m k → uAt m 16 1 = 2 →
      Runs (.release src m) s (fun e =>
        e.isCtl k = false)) ∧
    (∀ (src : Nat × Nat × Nat) (m : List (BitVec 8)) (k : Nat), d.Arrives 0x0F03 src m k → uAt m 16 1 = 3 →
      Runs (.force src m) s (fun e =>
        e.isCtl k = true ∧
        ∀ j ∈ d.ctlSlot.toList, j ≠ k → e.isCtl j = false)) ∧
    (∀ (src : Nat × Nat × Nat) (m : List (BitVec 8)) (k : Nat), d.Arrives 0x0F04 src m k → uAt m 16 1 < 128 → 8 ≤ uAt m 17 1 → uAt m 17 1 ≤ 16 → (if uAt m 16 1 < 64 then uAt m 19 1 = 0 ∧ d.ownsResp k (uAt m 18 1) = true else uAt m 18 1 = 0 ∧ 4 ≤ uAt m 19 1) → d.queue? (uAt m 16 1) = none → (d.host.queues.map (fun x => x.2.depth)).foldl (· + ·) 0 + 2 ^ uAt m 17 1 ≤ 16777216 →
      Runs (.queueOpen src m) s (fun e =>
        (e.queue? (uAt m 16 1)).map (fun x => (x.slot, x.depth, x.respQ, x.resv)) = some (k, 2 ^ uAt m 17 1, uAt m 18 1, uAt m 19 1))) ∧
    (∀ (src : Nat × Nat × Nat) (m : List (BitVec 8)) (k : Nat) (x : Queue), d.Arrives 0x0F05 src m k → d.queue? (uAt m 16 1) = some x → x.slot = k → (if uAt m 16 1 < 64 then x.wait = none else d.respNeeded (uAt m 16 1) = false) →
      Runs (.queueClose src m) s (fun e =>
        e.queue? (uAt m 16 1) = none)) ∧
    (∀ (src : Nat × Nat × Nat) (m : List (BitVec 8)) (k : Nat) (x : Queue), d.Arrives 0x0F06 src m k → d.queue? (uAt m 16 1) = some x → d.ownsResp k (uAt m 16 1) = true → tsDiff (wN (uAt m 20 4)) (wN x.pos) ≤ 0 → 0 ≤ tsDiff (wN (uAt m 20 4)) (wN x.ack) → uAt m 24 1 = 0xFF →
      Runs (.hostAck src m) s (fun e =>
        (e.queue? (uAt m 16 1)).map (·.ack) = some (uAt m 20 4))) ∧
    (∀ (src : Nat × Nat × Nat) (m : List (BitVec 8)) (k : Nat), d.Arrives 0x0F07 src m k → uAt m 16 1 = 0xFF ∨ d.ownsResp k (uAt m 16 1) = true → uAt m 17 1 ≤ 7 →
      Runs (.evtSub src m) s (fun e =>
        (e.sess? k).map (·.sub) = some (if uAt m 16 1 = 0xFF then none else some (uAt m 16 1, uAt m 17 1, uAt m 18 2))))

/-- R565, R566, R572, R573, R575, R577, R581 to R583, R587, R588: what else reaches the host interface completes with its effect. -/
def Obligations.HostEventsComplete : Prop :=
  ∀ (s : State) (d : Dev), s.start = d → s.On →
    (∀ (src : Nat × Nat × Nat) (m : List (BitVec 8)), d.hostLink (peerOf src).port = true →
      Runs (.sapexDatagram src m) s (fun e =>
        ((m = [] ∨ m.length % 64 ≠ 0) → (e.reg (R.HOST_P_CNT_DROP (peerOf src).port)).toNat = min ((d.reg (R.HOST_P_CNT_DROP (peerOf src).port)).toNat + 1) (2 ^ 32 - 1) ∧
          e.host.queues = d.host.queues) ∧
        (∀ k ∈ (d.slotOfId (uAt m 4 2)).toList, ∀ x ∈ (d.queue? (uAt m 3 1)).toList, (queuedUnits (uAt m 0 2)).isSome = true →
          m.length = 64 * uAt m 2 1 → uAt m 2 1 ≠ 0 → (d.sess? k).any (fun y => !d.since y.lastClk d.sessTo) = true → uAt m 3 1 < 64 →
          x.slot = k → uAt m 8 4 = x.pos → x.pos < 2 ^ 32 → uAt m 2 1 + (x.pos + 2 ^ 32 - x.ack) % 2 ^ 32 ≤ x.depth →
          (e.queue? (uAt m 3 1)).map (·.stored) = some (x.stored ++ [m])))) ∧
    (∀ (k : Nat) (x : Session), k < 4 → d.sess? k = some x → d.since x.lastClk d.sessTo = true →
      Runs (.sessionTimeout k) s (fun e =>
        e.sess? k = none ∧
        ∀ q ∈ d.queuesOf k, e.queue? q = none)) ∧
    (∀ (q : Nat) (x : Queue), 64 ≤ q → q < 128 → d.queue? q = some x → x.unacked ≠ [] → x.rounds < 8 → d.since x.ackClk (clksOfMs (d.fld R.HOST_CFG2 F.HOST_CFG2.ACKTO)) = true →
      Runs (.ackTimeout q) s (fun e =>
        (e.queue? q).map (fun y => (y.rounds, y.ackClk)) = some (x.rounds + 1, d.clk) ∧
        (e.reg (R.HOST_S_RETX x.slot)).toNat = min ((d.reg (R.HOST_S_RETX x.slot)).toNat + 1) (2 ^ 32 - 1))) ∧
    (d.ctlSlot = none → (d.host.helloClk.all (fun c => d.since c (d.fld R.HOST_CFG F.HOST_CFG.HELLOPER * clksOfMs 100))) = true → d.hostLink 0 = true ∨ d.hostLink 1 = true →
      Runs .hostHello s (fun e =>
        e.host.helloClk = some d.clk ∧
        ∀ p ∈ [0, 1], d.hostLink p = true →
          Out.host { port := p, addr := 0xFF02 * 2 ^ 112 + 1, udp := d.fld R.HOST_CFG2 F.HOST_CFG2.HELLOPORT } d.helloMsg ∈ e.out)) ∧
    (∀ (p : Nat), p < 2 → bitAt (d.fld R.SYS_ENV_STAT F.SYS_ENV_STAT.SFPOK) p = true →
      Runs (.hostLinkUp p) s (fun e =>
        e.hostLink p = true)) ∧
    (∀ (p : Nat), p < 2 →
      Runs (.hostLinkDown p) s (fun e =>
        e.hostLink p = false)) ∧
    (∀ (p : Nat) (v6 : Bool) (addr : Nat), p < 2 → d.hostLink p = true → d.ownAddr p v6 addr = true →
      Runs (.arpRequest p v6 addr) s (fun e =>
        Out.net p (if v6 then 3 else 2) (le 6 (Config.mac p).toNat).reverse ∈ e.out)) ∧
    (∀ (p : Nat) (v6 : Bool) (addr : Nat) (data : List (BitVec 8)), p < 2 → d.hostLink p = true → d.ownAddr p v6 addr = true →
      Runs (.icmpEcho p v6 addr data) s (fun e =>
        Out.net p (if v6 then 5 else 4) data ∈ e.out)) ∧
    (∀ (ses : Nat) (w : Word), d.MayWrite ses R.HOST_CTL → d.WriteOk R.HOST_CTL (putF w F.HOST_CTL.APPLY 1) →
      Runs (.apply ses w) s (fun e =>
        ∀ p ∈ [0, 1], tget e.host.inForce (R.HOST_P_IP4 p).addr 0 = d.reg (R.HOST_P_IP4 p))) ∧
    (∀ (k : Nat), k < 2 →
      Runs (.imageEraseDone k) s (fun e =>
        ∀ x ∈ e.host.sess, ∀ h ∈ x.2.handles, h.2.obj = 1 → h.2.index = k → h.2.erasing = false)) ∧
    (∀ (k h : Nat) (x : Handle), k < 4 → d.handle? k h = some x → d.since x.lastUse (60 * fabHz) = true →
      Runs (.bulkIdleTimeout k h) s (fun e =>
        e.handle? k h = none)) ∧
    (∀ (q : Nat) (x : Queue) (w : Held), q < 128 → d.queue? q = some x → x.closing = none → x.wait = some w → w.quote = true → (d.queue? x.respQ).any (fun r => decide ((16 + w.body.length + 63) / 64 ≤ r.freeEntries)) = true →
      Runs (.quoteComplete q) s (fun e =>
        (e.queue? q).map (fun y => (y.wait, y.stored)) = some (none, x.stored.drop 1)))

/-- R576, R579, R581, R582, R597, R661: the register and bulk messages complete with their effect and are answered OK. The conditions are those under which the
checks of R15 pass. -/
def Obligations.MessagesComplete : Prop :=
  ∀ (s : State) (d : Dev), s.start = d → s.On →
    (∀ (src : Nat × Nat × Nat) (m : List (BitVec 8)) (x : Queue) (r : Reg), d.Executes 0x0F10 2 m x → uAt m 20 2 = 1 → uAt m 16 4 = r.addr → uAt m 16 4 % 4 = 0 → d.MayRead x.slot r →
      Runs (.regRead src m) s (fun e =>
        e.Answered x m (fun b => uAt b 20 2 == 1 && uAt b 64 4 == (d.readFor x.slot r).2.toNat))) ∧
    (∀ (src : Nat × Nat × Nat) (m : List (BitVec 8)) (x : Queue) (r : Reg), d.Executes 0x0F11 1 m x → uAt m 20 2 = 1 → uAt m 2 1 = 2 → uAt m 16 4 = r.addr → uAt m 16 4 % 4 = 0 → d.MayWrite x.slot r → d.WriteOk r (wN (uAt m 64 4)) → r.name.quiet = true →
      Runs (.regWrite src m) s (fun e =>
        e.reg r = d.written r (wN (uAt m 64 4)) ∧
        e.Answered x m (fun b => uAt b 20 2 == 1))) ∧
    (∀ (src : Nat × Nat × Nat) (m : List (BitVec 8)) (x : Queue) (r : Reg) (v : Word), d.Executes 0x0F12 1 m x → uAt m 16 4 = r.addr → uAt m 16 4 % 4 = 0 → d.MayWrite x.slot r → wN (uAt m 20 4) &&& ~~~ d.rmwBits r.name.info = 0 → v = ((d.readFor x.slot r).2 &&& ~~~ wN (uAt m 20 4)) ||| (wN (uAt m 24 4) &&& wN (uAt m 20 4)) → d.WriteOk r v → r.name.quiet = true →
      Runs (.regRmw src m) s (fun e =>
        e.reg r = d.written r v ∧
        e.Answered x m (fun b => uAt b 24 4 == (d.readFor x.slot r).2.toNat))) ∧
    (∀ (src : Nat × Nat × Nat) (m : List (BitVec 8)) (x : Queue) (s' : Session) (k : Nat), d.Executes 0x0F20 1 m x → d.sess? x.slot = some s' → s'.freeHandle = some k → lowest (d.bulkOpenChecks s' m) = .ok →
      Runs (.bulkOpen src m) s (fun e =>
        (e.handle? x.slot k).map (fun h => (h.obj, h.dir, h.index, h.written)) = some (uAt m 16 1, uAt m 17 1, uAt m 18 2, 0) ∧
        e.Answered x m (fun b => uAt b 16 1 == k))) ∧
    (∀ (src : Nat × Nat × Nat) (m : List (BitVec 8)) (x : Queue) (h : Handle), d.Executes 0x0F21 1 m x → d.handle? x.slot (uAt m 16 1) = some h → lowest (d.bulkWriteChecks h m) = .ok →
      Runs (.bulkWrite src m) s (fun e =>
        (e.handle? x.slot (uAt m 16 1)).map (·.written) = some (h.written + uAt m 24 4) ∧
        (h.obj ≠ 1 → (e.handle? x.slot (uAt m 16 1)).map (·.buf) = some (h.buf ++ slice m 64 (uAt m 24 4))) ∧
        (h.obj = 1 → slice (e.slotBytes h.index) h.written (uAt m 24 4) = slice m 64 (uAt m 24 4)) ∧
        e.Answered x m (fun b => uAt b 16 1 == uAt m 16 1))) ∧
    (∀ (src : Nat × Nat × Nat) (m : List (BitVec 8)) (x : Queue) (h : Handle), d.Executes 0x0F22 (1 + uAt m 24 4 / 64) m x → d.handle? x.slot (uAt m 16 1) = some h → h.dir = 0 → lowest (lenChecks (uAt m 24 4)) = .ok →
      Runs (.bulkRead src m) s (fun e =>
        e.Answered x m (fun b => slice b 64 (uAt m 24 4) == slice h.buf (uAt m 20 4) (uAt m 24 4)))) ∧
    (∀ (src : Nat × Nat × Nat) (m : List (BitVec 8)) (x : Queue) (h : Handle), d.Executes 0x0F23 1 m x → d.handle? x.slot (uAt m 16 1) = some h → h.dir = 0 ∨ (h.written = h.len ∧ (h.obj ≠ 2 ∨ (d.inSwitch = false ∧ d.blkOn .cap = true))) →
      Runs (.bulkClose src m) s (fun e =>
        e.handle? x.slot (uAt m 16 1) = none ∧
        e.Answered x m (fun b => uAt b 16 1 == uAt m 16 1)))

/-! ### Security and debug -/

/-- R594 to R596, R598 to R601: the security commands complete with their effect. -/
def Obligations.SecurityComplete : Prop :=
  ∀ (s : State) (d : Dev), s.start = d → s.On →
    (∀ (src : Nat × Nat × Nat) (m : List (BitVec 8)) (x : Queue), d.Executes 0x0F33 1 m x → lowest (d.ownerSetChecks m) = .ok →
      Runs (.ownerSet src m) s (fun e =>
        e.regBytes R.SEC_OWNER_HASH 12 = slice m 16 48 ∧ e.bit R.SEC_STAT F.SEC_STAT.OWNERSET = true ∧
        e.Answered x m (fun _ => true))) ∧
    (∀ (src : Nat × Nat × Nat) (m : List (BitVec 8)) (x : Queue), d.Executes 0x0F31 1 m x →
      Runs (.secChal src m) s (fun e =>
        e.sec.chal.map (·.2) = some d.clk ∧
        e.Answered x m (fun b => some (slice b 16 32) == e.sec.chal.map (·.1)))) ∧
    (∀ (src : Nat × Nat × Nat) (m : List (BitVec 8)) (x : Queue), d.Executes 0x0F32 1 m x → d.tokenCheck (d.isCtl x.slot) m = .ok →
      Runs (.secToken src m) s (fun e =>
        e.sec.chal = none ∧
        (uAt m 16 1 = 1 → e.sec.dbgEnd = some (d.ns + uAt m 24 2 * 60000000000)) ∧
        (uAt m 16 1 = 2 → e.secState = 2 ∧ e.sec.svcEnd = some (d.ns + uAt m 24 2 * 60000000000)) ∧
        (uAt m 16 1 = 3 → e.secState = 0) ∧
        e.Answered x m (fun _ => true))) ∧
    (∀ (src : Nat × Nat × Nat) (m : List (BitVec 8)) (x : Queue), d.Executes 0x0F30 10 m x →
      Runs (.quote src m) s (fun e =>
        e.Awaits m (fun b => slice b 32 32 == slice m 16 32))) ∧
    (∀ (src : Nat × Nat × Nat) (m : List (BitVec 8)) (x : Queue), d.Executes 0x0F35 1 m x → uAt m 16 1 = 6 →
      Runs (.msExtend src m) s (fun e =>
        e.msBytes 6 = sha384 (d.msBytes 6 ++ slice m 64 48) ∧
        e.Answered x m (fun b => uAt b 16 1 == 6))) ∧
    (∀ (ses : Nat) (w : Word), d.MayWrite ses R.SEC_CTL → d.WriteOk R.SEC_CTL (putF w F.SEC_CTL.LOCK 1) →
      Runs (.lock ses w) s (fun e =>
        e.secState = if d.secState = 0 then 1 else if d.secState = 2 ∧ getF w F.SEC_CTL.ENDSVC = 1 then 1 else d.secState)) ∧
    (∀ (ses : Nat) (w : Word), d.MayWrite ses R.SEC_CTL → d.secState = 2 → d.WriteOk R.SEC_CTL (putF w F.SEC_CTL.ENDSVC 1) →
      Runs (.endsvc ses w) s (fun e =>
        e.secState = 1 ∧ e.sec.svcEnd = none ∧ e.sec.open_ = none)) ∧
    (d.sec.svcEnd.any (fun t => decide (t ≤ d.ns)) = true → d.secState = 2 →
      Runs .serviceExpiry s (fun e =>
        e.secState = 1 ∧ e.sec.svcEnd = none ∧ e.sec.dbgEnd = none))

/-- R603 to R605, R653: the commands of the debug port complete with their effect. -/
def Obligations.DebugComplete : Prop :=
  ∀ (s : State) (d : Dev), s.start = d → s.On →
    (∀ (ses : Nat) (w : Word), d.MayWrite ses R.SEC_CTL → d.WriteOk R.SEC_CTL (putF w F.SEC_CTL.DBGCLOSE 1) →
      Runs (.dbgclose ses w) s (fun e =>
        e.sec.open_ = none ∧ e.sec.dbgEnd = none ∧ e.fld R.SEC_STAT F.SEC_STAT.DBG = 0)) ∧
    (d.sec.dbgEnd.any (fun t => decide (t ≤ d.ns)) = true → d.secState = 1 →
      Runs .debugPermitExpiry s (fun e =>
        e.sec.open_ = none ∧ e.sec.dbgEnd = none ∧ e.fld R.SEC_STAT F.SEC_STAT.DBG = 0)) ∧
    (d.bit R.SEC_STAT F.SEC_STAT.ATTACH = false →
      Runs .debugRequest s (fun e =>
        e.bit R.SEC_STAT F.SEC_STAT.ATTACH = true)) ∧
    (
      Runs .debugRequestEnd s (fun e =>
        e.bit R.SEC_STAT F.SEC_STAT.ATTACH = false ∧ e.sec.open_ = none)) ∧
    (∀ (ins : Nat),
      Runs (.tapInstruction ins) s (fun e =>
        (ins ≤ 1 → Out.signal "tap" 0 ins ∈ e.out) ∧
        (ins = 2 → bitAt d.debugScope 0 = true → Out.signal "tap" 0 2 ∈ e.out) ∧
        (ins = 2 → bitAt d.debugScope 0 = false → d.sec.denied.contains 18 = false →
          (e.reg R.SEC_CNT_DBGDENY).toNat = min ((d.reg R.SEC_CNT_DBGDENY).toNat + 1) (2 ^ 32 - 1))))

/-! ### Power, supply, temperature -/

/-- R116, R607 to R611: the commands of the power states complete with their effect. -/
def Obligations.PowerComplete : Prop :=
  ∀ (s : State) (d : Dev), s.start = d → s.On →
    (∀ (ses : Nat) (w : Word), d.MayWrite ses R.PWR_LATTOL → d.WriteOk R.PWR_LATTOL w →
      Runs (.pwrLattolWrite ses w) s (fun e =>
        e.reg R.PWR_LATTOL = d.written R.PWR_LATTOL w)) ∧
    (d.bit R.PWR_STAT F.PWR_STAT.TRANS = false → d.pstate < d.fld R.PWR_STAT F.PWR_STAT.TARGET → d.pwr.selNs / (if d.fld R.PWR_STAT F.PWR_STAT.TARGET = 1 then 31250 else 4000000) < d.ns / (if d.fld R.PWR_STAT F.PWR_STAT.TARGET = 1 then 31250 else 4000000) → d.loader.job = .idle ∨ d.fld R.PWR_STAT F.PWR_STAT.TARGET = 1 → d.fld R.PWR_STAT F.PWR_STAT.TARGET ≤ 4 →
      Runs .powerStateEntry s (fun e =>
        e.pstate = d.fld R.PWR_STAT F.PWR_STAT.TARGET)) ∧
    (d.pwr.exitFrom.isSome = true → d.fld R.PWR_STAT F.PWR_STAT.TARGET < 4 →
      Runs .powerExitComplete s (fun e =>
        e.pstate = d.fld R.PWR_STAT F.PWR_STAT.TARGET)) ∧
    (d.ns / 31250 % 128 = 0 → d.pstate < 2 →
      Runs .lineResume s (fun e =>
        ∀ p ∈ allPorts, (e.port p).keepAlive = false))

/-- R624, R626, R652, R655, R656, R658: the commands of the supply complete with their effect. -/
def Obligations.SupplyComplete : Prop :=
  ∀ (s : State) (d : Dev), s.start = d → s.On →
    (∀ (bulk : Nat), bulk < 300 → d.bit R.SYS_PF_STAT F.SYS_PF_STAT.PFW = false → d.sys.pfClk = none ∨ d.bit R.SYS_PF_STAT F.SYS_PF_STAT.PFDONE = true →
      Runs (.powerFailWarning bulk) s (fun e =>
        e.bit R.SYS_PF_STAT F.SYS_PF_STAT.PFW = true ∧ e.bit R.SYS_PF_STAT F.SYS_PF_STAT.PFDONE = false ∧
        e.fld R.SYS_PF_STAT F.SYS_PF_STAT.BULK = bulk ∧ e.sys.pfClk = some d.clk ∧
        ∀ b ∈ [0, 1, 2, 3], e.bit (R.DIO_BANK_STAT b) F.DIO_BANK_STAT.WDEXP = true)) ∧
    (d.sys.pfClk.any (fun c => d.since c (clksOfMs 15)) = true → d.bit R.SYS_PF_STAT F.SYS_PF_STAT.PFDONE = false →
      Runs .pfPermitWithdraw s (fun e =>
        e.bit R.SYS_PF_STAT F.SYS_PF_STAT.PFDONE = true ∧
        ∀ k ∈ d.saxes, e.bit (R.SAFE_SA_STAT k) F.SAFE_SA_STAT.PERMIT = false ∧ e.saReact k = 2)) ∧
    (∀ (bulk : Nat), 320 < bulk → d.sys.crit = none →
      Runs (.pfRecovered bulk) s (fun e =>
        e.bit R.SYS_PF_STAT F.SYS_PF_STAT.PFW = false ∧ e.fld R.SYS_PF_STAT F.SYS_PF_STAT.BULK = min bulk 511)) ∧
    (∀ (t : Int), -32768 ≤ t → t < 32768 →
      Runs (.tempMeasure t) s (fun e =>
        e.fldI R.SYS_ENV_TEMP F.SYS_ENV_TEMP.NOW = t ∧
        (d.sys.tempClk.isSome = true → e.fldI R.SYS_ENV_TEMP F.SYS_ENV_TEMP.MAX = max t (d.fldI R.SYS_ENV_TEMP F.SYS_ENV_TEMP.MAX)) ∧
        (800 ≤ t → e.bit R.SYS_ENV_STAT F.SYS_ENV_STAT.TEMPWARN = true) ∧
        (950 ≤ t → e.bit R.SYS_ENV_STAT F.SYS_ENV_STAT.TEMPCRIT = true))) ∧
    (d.sys.crit.any (fun c => d.since c (clksOfMs 20)) = true →
      Runs .tempcritSupplyOff s (fun e =>
        e.sys.off = true ∧
        ∀ k ∈ List.range 64, (e.dioCh k).level = false)) ∧
    (∀ (f : Nat), f < 3 →
      Runs (.fanFailure f) s (fun e =>
        bitAt (e.fld R.SYS_ENV_STAT F.SYS_ENV_STAT.FANOK) f = false)) ∧
    (∀ (f : Nat), f < 3 →
      Runs (.fanRestored f) s (fun e =>
        bitAt (e.fld R.SYS_ENV_STAT F.SYS_ENV_STAT.FANOK) f = true)) ∧
    (∀ (c typ : Nat), c < 3 →
      Runs (.sfpInserted c typ) s (fun e =>
        bitAt (e.fld R.SYS_ENV_STAT F.SYS_ENV_STAT.SFPOK) c = sfpAccepted typ)) ∧
    (∀ (c : Nat), c < 3 →
      Runs (.sfpRemoved c) s (fun e =>
        bitAt (e.fld R.SYS_ENV_STAT F.SYS_ENV_STAT.SFPOK) c = false ∧
        (c < 2 → e.hostLink c = false)))

/-! ### Single rules of the spec -/

/-- R48: a write of TIME_RATE that changes it: the range, the refusal while the servo owns the rate, and the rate at which time passes after it. -/
def Obligations.TimeRateRule : Prop :=
  ∀ (s : State) (d : Dev), s.start = d → s.On →
    (∀ (ses : Nat) (w : Word), d.MayWrite ses R.TIME_RATE → d.reg R.TIME_RATE ≠ w → w.toInt < -2147483 ∨ 2147483 < w.toInt →
      Runs (.timeRateWrite ses w) s (fun e =>
        e.out.head? = some (.status .badArg) ∧
        e.reg R.TIME_RATE = d.reg R.TIME_RATE)) ∧
    (∀ (ses : Nat) (w : Word), d.MayWrite ses R.TIME_RATE → d.reg R.TIME_RATE ≠ w → -2147483 ≤ w.toInt → w.toInt ≤ 2147483 → 2 ≤ d.timeSrc →
      Runs (.timeRateWrite ses w) s (fun e =>
        e.out.head? = some (.status .conflict) ∧
        e.reg R.TIME_RATE = d.reg R.TIME_RATE)) ∧
    (∀ (ses : Nat) (w : Word), d.MayWrite ses R.TIME_RATE → -2147483 ≤ w.toInt → w.toInt ≤ 2147483 → d.timeSrc < 2 →
      Runs (.timeRateWrite ses w) s (fun e =>
        e.out.head? = some (.status .ok) ∧
        e.reg R.TIME_RATE = w ∧
        (e.pass 1).time.tns = ((e.time.tns : Int) + (2 * 2 ^ 32 + 2 * w.toInt)).toNat))

/-- R56: the target and the period of a comparator on ARM, a target that is past, and the one-shot comparator. -/
def Obligations.ComparatorArmRule : Prop :=
  ∀ (s : State) (d : Dev), s.start = d → s.On →
    (∀ (ses k : Nat) (w : Word), k < 64 → d.MayWrite ses (R.TIME_CMP_CTL k) → getF w F.TIME_CMP_CTL.DISARM = 0 → d.cmpArmed k = false → 2100000000 < tsDiff (d.reg (R.TIME_CMP_TGT k)) d.ts →
      Runs (.cmpArm ses k w) s (fun e =>
        e.out.head? = some (.status .badArg) ∧
        e.cmpArmed k = false)) ∧
    (∀ (ses k : Nat) (w : Word), k < 64 → d.MayWrite ses (R.TIME_CMP_CTL k) → getF w F.TIME_CMP_CTL.DISARM = 0 → d.cmpArmed k = false → d.reg (R.TIME_CMP_PER k) ≠ 0 → (d.reg (R.TIME_CMP_PER k)).toNat < 1000 ∨ 2100000000 < (d.reg (R.TIME_CMP_PER k)).toNat →
      Runs (.cmpArm ses k w) s (fun e =>
        e.out.head? = some (.status .badArg) ∧
        e.cmpArmed k = false)) ∧
    (∀ (ses k : Nat) (w : Word), k < 64 → d.MayWrite ses (R.TIME_CMP_CTL k) → getF w F.TIME_CMP_CTL.DISARM = 0 → d.cmpArmed k = false → d.cmpOwned k = false → 1 ≤ getF w F.TIME_CMP_CTL.ACT → getF w F.TIME_CMP_CTL.ACT ≤ 5 → (getF w F.TIME_CMP_CTL.ACT = 4 → d.hostMayStart (getF w F.TIME_CMP_CTL.OBJ) = true) → d.reg (R.TIME_CMP_PER k) = 0 ∨ (1000 ≤ (d.reg (R.TIME_CMP_PER k)).toNat ∧ (d.reg (R.TIME_CMP_PER k)).toNat ≤ 2100000000) → tsDiff (d.reg (R.TIME_CMP_TGT k)) d.ts < 0 → getF w F.TIME_CMP_CTL.LATEPOL = 0 →
      Runs (.cmpArm ses k w) s (fun e =>
        e.out.head? = some (.status .late) ∧
        e.cmpArmed k = false)) ∧
    (∀ (ses k : Nat) (w : Word), k < 64 → d.MayWrite ses (R.TIME_CMP_CTL k) → getF w F.TIME_CMP_CTL.DISARM = 0 → d.cmpArmed k = false → d.cmpOwned k = false → 1 ≤ getF w F.TIME_CMP_CTL.ACT → getF w F.TIME_CMP_CTL.ACT ≤ 5 → (getF w F.TIME_CMP_CTL.ACT = 4 → d.hostMayStart (getF w F.TIME_CMP_CTL.OBJ) = true) → d.reg (R.TIME_CMP_PER k) = 0 ∨ (1000 ≤ (d.reg (R.TIME_CMP_PER k)).toNat ∧ (d.reg (R.TIME_CMP_PER k)).toNat ≤ 2100000000) → tsDiff (d.reg (R.TIME_CMP_TGT k)) d.ts < 0 → getF w F.TIME_CMP_CTL.LATEPOL = 1 →
      Runs (.cmpArm ses k w) s (fun e =>
        e.out.head? = some (.status .ok) ∧
        e.cmpArmed k = true ∧
        e.bit (R.TIME_CMP_STAT k) F.TIME_CMP_STAT.LATE = true ∧
        (tget? e.time.cmpTgt k).any (fun t => decide (0 < tsDiff e.ts t)) = true)) ∧
    (
      Runs .cmpFire s (fun e =>
        (∀ k ∈ List.range 64, d.cmpArmed k = true → (tget? d.time.cmpTgt k).any (fun t => decide (0 ≤ tsDiff d.ts t)) = true → d.reg (R.TIME_CMP_PER k) = 0 → e.cmpArmed k = false)))

/-- R482: a received frame and the 64 mask and match pairs of its channel, where the frame is valid, not of a safety connection, the queue has room, and no pair was written since the start of the frame. The frame starts `ago` of
the 5 ns ticks of the time base before the command. -/
def Obligations.CanFilterRule : Prop :=
  ∀ (s : State) (d : Dev), s.start = d → s.On →
    (∀ (c flags dlc id : Nat) (data : List (BitVec 8)) (ago edge : Nat) (i : Nat) (time : Word), c < 8 → d.canState c = 2 ∨ d.canState c = 3 → (bitAt flags 1 = true → d.bit (R.CAN_CFG c) F.CAN_CFG.FDEN = true) → d.bit (R.CAN_CFG c) F.CAN_CFG.AUTOBAUD = false → d.connOfId c (canKey flags (id % 2 ^ 29)) = none → (d.canCh c).fltOld.all (fun x => decide (x.1 < (d.ns - 5 * ago) / 5 * 5)) = true → time = wN ((d.ns - 5 * ago) / 5 * 5) → i < 64 → d.PairMatches c i (bitAt flags 0) (id % 2 ^ 29) → ∀ j ∈ List.range i, ¬ d.PairMatches c j (bitAt flags 0) (id % 2 ^ 29) →
      Runs (.canFrameReceived c flags dlc id data ago edge) s (fun e =>
        (d.bit (R.CAN_FLT_MATCH c i) F.CAN_FLT_MATCH.DEST = false → (d.canCh c).rxa.length < 128 →
          (e.canCh c).rxa = (d.canCh c).rxa ++ [canBody c i (flags % 32) (min dlc 15) (id % 2 ^ 29) time data] ∧ (e.canCh c).rxb = (d.canCh c).rxb) ∧
        (d.bit (R.CAN_FLT_MATCH c i) F.CAN_FLT_MATCH.DEST = true → (d.canCh c).rxb.length < 128 →
          (e.canCh c).rxb = (d.canCh c).rxb ++ [canBody c i (flags % 32 + 128) (min dlc 15) (id % 2 ^ 29) time data] ∧ (e.canCh c).rxa = (d.canCh c).rxa))) ∧
    (∀ (c flags dlc id : Nat) (data : List (BitVec 8)) (ago edge : Nat) (time : Word), c < 8 → d.canState c = 2 ∨ d.canState c = 3 → (bitAt flags 1 = true → d.bit (R.CAN_CFG c) F.CAN_CFG.FDEN = true) → d.bit (R.CAN_CFG c) F.CAN_CFG.AUTOBAUD = false → d.connOfId c (canKey flags (id % 2 ^ 29)) = none → (d.canCh c).fltOld.all (fun x => decide (x.1 < (d.ns - 5 * ago) / 5 * 5)) = true → time = wN ((d.ns - 5 * ago) / 5 * 5) → ∀ j ∈ List.range 64, ¬ d.PairMatches c j (bitAt flags 0) (id % 2 ^ 29) →
      Runs (.canFrameReceived c flags dlc id data ago edge) s (fun e =>
        (d.bit (R.CAN_CFG c) F.CAN_CFG.ACCEPTALL = true → (d.canCh c).rxb.length < 128 →
          (e.canCh c).rxb = (d.canCh c).rxb ++ [canBody c 0xFF (flags % 32 + 128) (min dlc 15) (id % 2 ^ 29) time data] ∧ (e.canCh c).rxa = (d.canCh c).rxa) ∧
        (d.bit (R.CAN_CFG c) F.CAN_CFG.ACCEPTALL = false →
          (e.canCh c).rxb = (d.canCh c).rxb ∧ (e.canCh c).rxa = (d.canCh c).rxa ∧
          (e.reg (R.CAN_CNT_NOMATCH c)).toNat = min ((d.reg (R.CAN_CNT_NOMATCH c)).toNat + 1) (2 ^ 32 - 1))))

/-- R619: who may request a warm reset, with which KEY, when, and when the reset comes; with no power-fail warning in force (R635). -/
def Obligations.WarmResetRule : Prop :=
  ∀ (s : State) (d : Dev), s.start = d → s.On →
    (∀ (ses : Nat) (w : Word), (tget? d.host.sess ses).any (fun x => x.ctl) = false → getF w F.SYS_RST_CTL.KEY = 0x5741 →
      Runs (.warmResetReq ses w) s (fun e => e.out.head? = some (.status .denied) ∧ e.sys.resetDue = d.sys.resetDue)) ∧
    (∀ (ses : Nat) (w : Word), d.MayWrite ses R.SYS_RST_CTL → getF w F.SYS_RST_CTL.KEY ≠ 0x5741 →
      Runs (.warmResetReq ses w) s (fun e => e.out.head? = some (.status .badArg) ∧ e.sys.resetDue = d.sys.resetDue)) ∧
    (∀ (ses : Nat) (w : Word), d.MayWrite ses R.SYS_RST_CTL → getF w F.SYS_RST_CTL.KEY = 0x5741 → d.anyEnabled = true → d.bit R.SYS_PF_STAT F.SYS_PF_STAT.PFW = false →
      Runs (.warmResetReq ses w) s (fun e => e.out.head? = some (.status .conflict) ∧ e.sys.resetDue = d.sys.resetDue)) ∧
    (∀ (ses : Nat) (w : Word), d.MayWrite ses R.SYS_RST_CTL → getF w F.SYS_RST_CTL.KEY = 0x5741 → d.anyEnabled = false →
      d.bit R.SYS_PF_STAT F.SYS_PF_STAT.PFW = false → d.sys.resetDue = none →
      Runs (.warmResetReq ses w) s (fun e => e.out.head? = some (.status .ok) ∧ e.sys.resetDue = some (d.clk + 5000000)) ∧
      Logs (.warmResetReq ses w) s 0x0001 4) ∧
    (∀ (t : Nat), d.sys.resetDue = some t → t ≤ d.clk → d.wdExpired = false →
      Runs .warmReset s (fun e => e.fld R.SYS_RST_STAT F.SYS_RST_STAT.LASTKIND = 2)) ∧
    (∀ (t : Nat), d.sys.resetDue = some t → d.clk < t →
      Runs .warmReset s (fun e => e.fld R.SYS_RST_STAT F.SYS_RST_STAT.LASTKIND = d.fld R.SYS_RST_STAT F.SYS_RST_STAT.LASTKIND))

/-- R598: the answer to OWNER_SET of a unit that is active, hands nothing over and runs, and the hash that it installs. That the unit starts without a hash is State.reset (notes/assumptions/3.md). -/
def Obligations.OwnerHashRule : Prop :=
  State.reset.dev.secState = 0 ∧ State.reset.dev.bit R.SEC_STAT F.SEC_STAT.OWNERSET = false ∧
  queuedUnits 0x0F33 = some 1 ∧
  (RegName.SEC_OWNER_HASH.info.flds.all (fun f => f.cls == .o)) = true ∧
  ∀ (d : Dev) (ses : Nat) (m : List Byte), uAt m 0 2 = 0x0F33 → uAt m 2 1 = 1 → m.length = 64 →
    d.isStandby = false → d.handingOver = false → (msgBlk 0x0F33).all (fun b => d.blkOn b) = true →
    (d.execMsg ses m).2.1 =
      (if slice m 16 48 = List.replicate 48 0 then .badArg
       else if d.secState ≠ 0 ∨ d.isCtl ses = false then .denied
       else if d.bit R.SEC_STAT F.SEC_STAT.OWNERSET = true then .conflict
       else .ok) ∧
    ((d.execMsg ses m).2.1 = .ok →
      (d.execMsg ses m).1.regBytes R.SEC_OWNER_HASH 12 = slice m 16 48 ∧
      (d.execMsg ses m).1.bit R.SEC_STAT F.SEC_STAT.OWNERSET = true)

/-- R523: what EVENT_RECEIVED leaves in the Bureau's stores: nothing of an event below RECMIN, and every kept record. -/
def Obligations.KeptRecordsRule : Prop :=
  ∀ (s : State) (d : Dev), s.start = d → s.On →
    (∀ (code sev : Nat) (source : Word) (data : List Word) (bad : List Nat), code < 65536 → sev < 8 → sev < d.fld R.EVT_CFG F.EVT_CFG.RECMIN → ∀ k ∈ List.range 4, (tget? d.host.sess k).all (fun x => x.sub.all (fun y => decide (sev < y.2.1) || (tget? d.host.queues y.1).any (fun q => decide (q.resv + 8 ≤ q.freeEntries)))) = true →
      Runs (.eventReceived code sev source data bad) s (fun e =>
        e.bureau.mram = d.bureau.mram ∧ e.bureau.lg = d.bureau.lg ∧
        e.bureau.lastSeq = d.bureau.lastSeq ∧ e.bureau.ovf = d.bureau.ovf)) ∧
    (∀ (code sev : Nat) (source : Word) (data : List Word) (bad : List Nat), code < 65536 → sev < 8 → d.bureau.mram.all (fun r => !bad.contains (r.place / regionSize)) = true →
      Runs (.eventReceived code sev source data bad) s (fun e =>
        (d.bureau.mram ++ d.bureau.lg).all (fun r => decide (r.sev < d.fld R.EVT_CFG F.EVT_CFG.KEEP) || (e.bureau.mram ++ e.bureau.lg).any (fun x => x.seq == r.seq && x.code == r.code && x.sev == r.sev)) = true))

/-! ### Frames: what each command leaves unchanged -/

/-- Registers read, resets and the time base: what each of the commands leaves unchanged (`Frame`): the registers that are not named, and the parts that are not listed. -/
def Obligations.TimeFrame : Prop :=
  ∀ (s : State),
    (∀ (ses addr : Nat) (w : Word), (regAt addr).all (fun r => r.name.quiet) = true → Frame (.regWriteOther ses addr w) s (fun a => a = addr) []) ∧
    (∀ (ses addr : Nat), Frame (.loReadLatch ses addr) s (Named readNames) [.dio, .fresh, .sec, .tall]) ∧
    (∀ (ses addr : Nat) (w : Word), (regAt addr).all (fun r => r.name.isHi) = true → Frame (.hiWriteHold ses addr w) s (fun _ => False) []) ∧
    (∀ (ses addr : Nat) (w : Word) (r : Reg) (h : RegName), regAt addr = some r → r.name.hi? = some h →
      r.name ∈ [RegName.AXIS_MOT_TGT_LO, .AXIS_VL_MIN_LO, .AXIS_VL_MAX_LO, .AXIS_GEAR_AT_LO] →
      Frame (.loWriteCommit ses addr w) s (fun a => a = addr ∨ a = Reg.addr { r with name := h }) []) ∧
    (∀ (cut : Bool), Frame (.coldReset cut) s (fun _ => True) [.arms, .axs, .can, .cap, .dio, .duo, .engs, .fbk, .fresh, .gorse, .line, .link,
        .loader, .mot, .pwm, .safe, .sec, .sys, .tall, .time]) ∧
    (∀ (ns : Nat), Frame (.pinReset ns) s (fun _ => True) [.arms, .axs, .can, .cap, .dio, .duo, .engs, .fbk, .fresh, .gorse, .line, .link, .loader,
        .mot, .pwm, .safe, .sec, .sys, .tall, .time]) ∧
    (∀ (ses : Nat) (w : Word), Frame (.warmResetReq ses w) s (Named [.SYS_RST_CTL]) [.sys]) ∧
    (Frame .warmReset s (fun _ => True) [.arms, .axs, .can, .cap, .dio, .duo, .engs, .fbk, .fresh, .gorse, .line, .link, .loader, .mot, .pwm, .safe,
        .sec, .sys, .tall, .time]) ∧
    (Frame .watchdogReset s (fun _ => True) [.arms, .axs, .can, .cap, .dio, .duo, .engs, .fbk, .fresh, .gorse, .line, .link, .loader, .mot, .pwm,
        .safe, .sec, .sys, .tall, .time]) ∧
    (Frame .watchdogService s (Named []) [.sys]) ∧
    (∀ (sd : List (Nat × Nat × List Bool)), Frame (.baseTick sd) s (Named [.AXIS_STAT, .CAN_TXB_STAT, .CE_UTIL, .CLK_STAT, .DIO_OUT, .FBK_ENC_POS,
        .FBK_ENC_STAT, .FBK_ENC_TLAST, .FBK_PRB_POS, .FBK_PRB_STAT, .FBK_PRB_TIME, .LINE_STAT, .PWM_DRV_STAT, .PWM_LEG_ACC, .SD_VAL]) [.axs, .can,
        .cap, .clk, .dio, .engs, .fbk, .fil, .fresh, .gorse, .line, .link, .pwm, .time]) ∧
    (Frame .extRefLost s (Named [.CLK_STAT]) [.time]) ∧
    (Frame .extRefRestored s (Named [.CLK_STAT]) [.time]) ∧
    (∀ (ses : Nat) (w : Word), Frame (.refselWrite ses w) s (Named [.CLK_CTL, .CLK_STAT]) [.time]) ∧
    (Frame .stepWindowExpiry s (Named [.TIME_STAT]) []) ∧
    (∀ (ses : Nat) (w : Word), Frame (.close ses w) s (Named [.TIME_CTL, .TIME_STAT]) []) ∧
    (∀ (ses : Nat) (w : Word), Frame (.stepwinWrite ses w) s (Named [.TIME_CTL, .TIME_STAT]) []) ∧
    (∀ (ses : Nat) (w : Word), Frame (.timeStepWrite ses w) s (Named [.TIME_STAT]) [.time]) ∧
    (∀ (ses : Nat) (w : Word), Frame (.timeRateWrite ses w) s (Named [.TIME_RATE]) []) ∧
    (∀ (m : PtpHdr) (data : List Nat) (logInt utc : Int), Frame (.ptpAnnounce m data logInt utc) s (Named [.TIME_PTP_UTC, .TIME_RATE, .TIME_STAT])
        [.time]) ∧
    (∀ (m : PtpHdr) (logInt : Int) (twoStep : Bool) (t1 : Int), Frame (.ptpSync m logInt twoStep t1) s (Named [.TIME_STAT]) [.time]) ∧
    (∀ (m : PtpHdr) (t1 : Int), Frame (.ptpFollowUp m t1) s (Named []) [.time]) ∧
    (Frame .delayReqSend s (Named []) [.time]) ∧
    (∀ (m : PtpHdr) (resp : Nat × Int), Frame (.ptpDelayResp m resp) s (Named [.TIME_PTP_DLY, .TIME_PTP_OFS, .TIME_RATE, .TIME_STAT]) [.fresh, .time]) ∧
    (Frame .announceTimeout s (Named [.TIME_RATE, .TIME_STAT]) [.time]) ∧
    (∀ (ses k : Nat) (w : Word), Frame (.cmpArm ses k w) s (Named [.CE_CNT_OVR, .TIME_CMP_CTL, .TIME_CMP_STAT]) [.cap, .engs, .time]) ∧
    (∀ (ses k : Nat) (w : Word), Frame (.cmpDisarm ses k w) s (Named [.CE_CNT_OVR, .TIME_CMP_CTL, .TIME_CMP_STAT]) [.cap, .engs, .time]) ∧
    (Frame .cmpFire s (Named [.CE_CNT_OVR, .TIME_CMP_CTL, .TIME_CMP_STAT]) [.cap, .engs, .time]) ∧
    (∀ (ses k : Nat), Frame (.cmpStatRead ses k) s (Named [.TIME_CMP_STAT]) [])

/-- Lines, slots and groups: what each of the commands leaves unchanged (`Frame`): the registers that are not named, and the parts that are not listed. -/
def Obligations.LineFrame : Prop :=
  ∀ (s : State),
    (∀ (ses addr : Nat), Frame (.counterReadClear ses addr) s (Named readNames) [.dio, .fresh, .sec, .tall]) ∧
    (∀ (p : Nat), Frame (.linkUp p) s (Named [.LINE_STAT]) [.line]) ∧
    (∀ (p : Nat), Frame (.linkDown p) s (Named [.LINE_BREAKPOS, .LINE_STAT]) [.line]) ∧
    (∀ (ses p : Nat) (w : Word), Frame (.lineStart ses p w) s (Named [.LINE_CTL, .LINE_LOOPDLY, .LINE_STAT]) [.line]) ∧
    (∀ (ses p : Nat) (w : Word), Frame (.lineStop ses p w) s (Named [.LINE_CTL, .LINE_LOOPDLY, .LINE_STAT]) [.line]) ∧
    (∀ (ses p : Nat) (w : Word), Frame (.redisc ses p w) s (Named [.LINE_CTL, .LINE_LOOPDLY, .LINE_STAT]) [.line]) ∧
    (Frame .listenExpiry s (Named [.LINE_GSTAT, .LINE_STAT, .PAIR_CNT_RESYNC, .PAIR_STAT]) [.dio, .duo, .fresh, .line, .link]) ∧
    (∀ (p : Nat) (w : List (BitVec 8)), Frame (.foreignCycleStart p w) s (Named [.LINE_CYCLE, .LINE_GSTAT, .LINE_STAT, .PAIR_STAT, .TIME_RATE]) [.dio,
        .fresh, .line, .time]) ∧
    (Frame .clashBackoffExpiry s (Named [.LINE_GSTAT, .LINE_STAT]) [.line]) ∧
    (∀ (p : Nat), Frame (.cycleStart p) s (Named [.LINE_CNT_HEAL, .LINE_CNT_MISS, .LINE_CYCLE, .LINE_STAT]) [.line, .safe]) ∧
    (∀ (p : Nat), Frame (.cycleEndMarkerSend p) s (Named [.LINE_BREAKPOS, .LINE_STAT]) [.line]) ∧
    (∀ (p : Nat) (head crc tail : List (BitVec 8)), Frame (.markerReturn p head crc tail) s (Named [.LINE_BREAKPOS, .LINE_LOOPDLY, .LINE_STAT])
        [.line]) ∧
    (∀ (p : Nat) (w : List (BitVec 8)), Frame (.linkDownFrame p w) s (Named [.LINE_BREAKPOS, .LINE_STAT]) [.line]) ∧
    (∀ (p i : Nat) (f : SlotFrame), Frame (.slotArrival p i f) s (Named [.DIO_OUT, .LINE_CNT_CRC, .LINE_CNT_DISC, .LINE_CNT_DRIFT, .LINE_CNT_MISS,
        .LINE_CNT_MUTE, .LINE_NODES, .LINE_SLOT_STAT]) [.cap, .dio, .engs, .fresh, .line, .link, .safe]) ∧
    (∀ (p i : Nat), Frame (.slotStale p i) s (Named [.LINE_SLOT_STAT]) []) ∧
    (∀ (p i : Nat), Frame (.nodeLost p i) s (Named [.LINE_NODES, .LINE_SLOT_STAT]) [.line]) ∧
    (∀ (p : Nat), Frame (.fallowWindow p) s (Named [.LINE_NODES, .LINE_SLOT_STAT]) [.line]) ∧
    (∀ (p : Nat), Frame (.delayProbeCycle p) s (Named []) [.line]) ∧
    (∀ (p i : Nat) (head tail : List (BitVec 8)), Frame (.delayRpt p i head tail) s (Named [.LINE_NODES, .LINE_SLOT_STAT]) [.line]) ∧
    (∀ (p : Nat) (head body crc tail : List (BitVec 8)), Frame (.joinReq p head body crc tail) s (Named [.LINE_NODES, .LINE_SLOT_STAT]) [.line]) ∧
    (∀ (p i : Nat) (err : Int) (w : List (BitVec 8)), Frame (.testSlot p i err w) s (Named [.LINE_NODES, .LINE_SLOT_STAT]) [.line]) ∧
    (∀ (p i : Nat), Frame (.joinTimeout p i) s (Named [.LINE_NODES, .LINE_SLOT_STAT]) [.line]) ∧
    (Frame .joinSuspendEnd s (Named []) [.line]) ∧
    (∀ (p : Nat), Frame (.ringRestore p) s (Named []) [.line]) ∧
    (∀ (p cycle : Nat) (blocks : List (Nat × List (BitVec 8))), Frame (.relayBlk p cycle blocks) s (Named []) [.line]) ∧
    (∀ (p i : Nat) (f : SlotFrame), Frame (.relaySlot p i f) s (Named [.DIO_OUT, .LINE_CNT_CRC, .LINE_CNT_DISC, .LINE_CNT_DRIFT, .LINE_CNT_MISS,
        .LINE_CNT_MUTE, .LINE_NODES, .LINE_SLOT_STAT]) [.cap, .dio, .engs, .line, .safe]) ∧
    (∀ (p : Nat) (head body tail : List (BitVec 8)), Frame (.mbxUp p head body tail) s (Named []) []) ∧
    (∀ (p m : Nat), Frame (.cycleMark p m) s (Named [.CE_CNT_OVR]) [.engs, .line]) ∧
    (∀ (ses g : Nat) (w : Word), Frame (.grpReq ses g w) s (Named [.GRP_REQ, .GRP_STAT]) [.line]) ∧
    (∀ (p : Nat) (head body crc tail : List (BitVec 8)), Frame (.grpStaged p head body crc tail) s (Named [.GRP_STAT]) [.line]) ∧
    (∀ (g : Nat), Frame (.grpStageDeadline g) s (Named [.GRP_STAT]) [.line]) ∧
    (∀ (g : Nat), Frame (.grpApplyBoundary g) s (Named [.AXIS_STAT, .DIO_OUT, .GRP_STAT]) [.axs, .cap, .dio, .engs, .line]) ∧
    (∀ (p : Nat) (head body crc tail : List (BitVec 8)), Frame (.grpApplyRpt p head body crc tail) s (Named [.GRP_STAT]) [.line]) ∧
    (∀ (g : Nat), Frame (.grpRetry g) s (Named [.GRP_STAT]) [.line]) ∧
    (∀ (g : Nat), Frame (.grpConverge g) s (Named [.GRP_SPLIT, .GRP_STAT]) [.line]) ∧
    (Frame .lineResume s (Named [.LINE_STAT]) [.line])

/-- The image, the engines and the axes: what each of the commands leaves unchanged (`Frame`): the registers that are not named, and the parts that are not listed. -/
def Obligations.EngineFrame : Prop :=
  ∀ (s : State),
    (Frame .bootCheckComplete s (Named [.FAB_IMG_STAT, .FAB_LOAD_ERR, .FAB_LOAD_IDX, .FAB_SCHED_UTIL]) [.loader]) ∧
    (∀ (ses : Nat) (w : Word), Frame (.imageCheck ses w) s (Named [.FAB_IMG_CTL, .FAB_IMG_STAT]) [.loader]) ∧
    (Frame .checkComplete s (Named [.FAB_IMG_STAT, .FAB_LOAD_ERR, .FAB_LOAD_IDX, .FAB_SCHED_UTIL]) [.loader]) ∧
    (∀ (ses : Nat) (w : Word), Frame (.activate ses w) s (Named [.FAB_IMG_CTL, .FAB_IMG_STAT]) [.loader]) ∧
    (∀ (ses : Nat) (w : Word), Frame (.erase ses w) s (Named [.FAB_IMG_CTL, .FAB_IMG_STAT]) [.loader]) ∧
    (Frame .keepitemsStillCheck s (Named [.FAB_IMG_STAT]) [.line, .loader]) ∧
    (Frame .activationSwitch s (Named [.CAP_STAT, .CAP_TRIGMAP, .FAB_IMG_STAT, .LINE_MARK_CTL, .LINE_SLOT_STAT, .LINE_STAT, .TIME_CMP_CTL]) [.cap,
        .engs, .line, .loader, .tall, .time]) ∧
    (Frame .activationCommit s (fun _ => True) [.arms, .axs, .can, .cap, .dio, .duo, .engs, .fbk, .fresh, .gorse, .line, .link, .loader, .mot, .pwm,
        .safe, .sec, .sys, .tall, .time]) ∧
    (Frame .activationRelease s (Named [.FAB_ACT_TIME, .FAB_IMG_HASH, .FAB_IMG_ID, .FAB_IMG_STAT, .FAB_IMG_VER, .GORSE_STAT, .LINE_LOOPDLY,
        .LINE_STAT, .SAFE_CONN_STAT, .SAFE_FN, .SAFE_IN, .SAFE_SA_STAT, .SAFE_SECTCRC, .SAFE_STAT]) [.dio, .gorse, .line, .loader, .safe]) ∧
    (∀ (ses e mem a : Nat) (w : Word), Frame (.paramsWrite ses e mem a w) s (Named []) [.loader]) ∧
    (∀ (t : Nat) (ms : List (Nat × Int × Int)), Frame (.taskRelease t ms) s (Named [.ARM_CNT, .ARM_IKRES, .ARM_POSE, .ARM_SEGCUR, .ARM_SEGDONE,
        .ARM_SIGMA, .ARM_STAT, .ARM_TAU, .AXIS_DLYMAX, .AXIS_DLY_C, .AXIS_DLY_P, .AXIS_DLY_V, .AXIS_FEMAX, .AXIS_MANVAL, .AXIS_MOT_ACC,
        .AXIS_MOT_POS_HI, .AXIS_MOT_POS_LO, .AXIS_MOT_VEL, .AXIS_STAT, .CE_CNT_OVR, .DIO_OUT]) [.arms, .axs, .cap, .dio, .engs, .fresh, .loader, .mot,
        .sys]) ∧
    (∀ (e : Nat) (err : Option (Nat × Nat × Bool)), Frame (.bundleIssue e err) s (Named [.AXIS_STAT, .CE_CNT_ECC, .CE_CNT_FAULT, .CE_CNT_OVR,
        .CE_CNT_STALL, .CE_FAULT, .CE_FAULT_PC, .CE_FAULT_TIME, .DIO_OUT]) [.axs, .cap, .dio, .engs, .fresh, .loader]) ∧
    (∀ (t : Nat), Frame (.taskDeadline t) s (Named [.AXIS_STAT, .CE_CNT_FAULT, .CE_CNT_OVR, .CE_FAULT, .CE_FAULT_PC, .CE_FAULT_TIME, .DIO_OUT]) [.axs,
        .cap, .dio, .engs]) ∧
    (∀ (ses e : Nat) (w : Word), Frame (.ceResume ses e w) s (Named [.CE_CTL, .CE_UTIL]) [.engs]) ∧
    (∀ (ses e : Nat) (w : Word), Frame (.ceClrmax ses e w) s (Named [.CE_CTL, .CE_UTIL]) [.engs]) ∧
    (∀ (e : Nat) (err : Option (Nat × Nat × Bool)), Frame (.engineStep e err) s (Named [.AXIS_STAT, .CE_CNT_ECC, .CE_CNT_FAULT, .CE_CNT_OVR,
        .CE_CNT_STALL, .CE_FAULT, .CE_FAULT_PC, .CE_FAULT_TIME, .DIO_OUT, .SEC_CNT_DBGDENY]) [.axs, .cap, .dio, .engs, .fresh, .loader, .sec]) ∧
    (∀ (e : Nat), Frame (.engineResume e) s (Named [.PAIR_CNT_RESYNC, .PAIR_STAT, .SEC_CNT_DBGDENY]) [.duo, .engs, .fresh, .link, .sec]) ∧
    (∀ (ses a : Nat) (w : Word), Frame (.axisEnable ses a w) s (Named [.AXIS_CTL, .AXIS_MOT_ACC, .AXIS_MOT_POS_HI, .AXIS_MOT_POS_LO, .AXIS_MOT_STAT,
        .AXIS_MOT_VEL, .AXIS_STAT, .DIO_OUT, .GORSE_STAT, .PWM_LEG_ACC, .PWM_LEG_CNT, .PWM_LEG_STAT, .SAFE_SA_STAT]) [.axs, .cap, .dio, .engs, .fresh,
        .mot, .pwm, .safe]) ∧
    (∀ (ses a : Nat) (w : Word), Frame (.axisDisable ses a w) s (Named [.AXIS_CTL, .AXIS_MOT_ACC, .AXIS_MOT_POS_HI, .AXIS_MOT_POS_LO, .AXIS_MOT_STAT,
        .AXIS_MOT_VEL, .AXIS_STAT, .DIO_OUT, .GORSE_STAT, .PWM_LEG_ACC, .PWM_LEG_CNT, .PWM_LEG_STAT, .SAFE_SA_STAT]) [.axs, .cap, .dio, .engs, .fresh,
        .mot, .pwm, .safe]) ∧
    (∀ (ses a : Nat) (w : Word), Frame (.manOn ses a w) s (Named [.AXIS_CTL, .AXIS_MOT_ACC, .AXIS_MOT_POS_HI, .AXIS_MOT_POS_LO, .AXIS_MOT_STAT,
        .AXIS_MOT_VEL, .AXIS_STAT, .DIO_OUT, .GORSE_STAT, .PWM_LEG_ACC, .PWM_LEG_CNT, .PWM_LEG_STAT, .SAFE_SA_STAT]) [.axs, .cap, .dio, .engs, .fresh,
        .mot, .pwm, .safe]) ∧
    (∀ (ses a : Nat) (w : Word), Frame (.manOff ses a w) s (Named [.AXIS_CTL, .AXIS_MOT_ACC, .AXIS_MOT_POS_HI, .AXIS_MOT_POS_LO, .AXIS_MOT_STAT,
        .AXIS_MOT_VEL, .AXIS_STAT, .DIO_OUT, .GORSE_STAT, .PWM_LEG_ACC, .PWM_LEG_CNT, .PWM_LEG_STAT, .SAFE_SA_STAT]) [.axs, .cap, .dio, .engs, .fresh,
        .mot, .pwm, .safe]) ∧
    (∀ (ses a : Nat) (w : Word), Frame (.bankWrite ses a w) s (Named [.AXIS_CTL, .AXIS_MOT_ACC, .AXIS_MOT_POS_HI, .AXIS_MOT_POS_LO, .AXIS_MOT_STAT,
        .AXIS_MOT_VEL, .AXIS_STAT, .DIO_OUT, .GORSE_STAT, .PWM_LEG_ACC, .PWM_LEG_CNT, .PWM_LEG_STAT, .SAFE_SA_STAT]) [.axs, .cap, .dio, .engs, .fresh,
        .mot, .pwm, .safe]) ∧
    (∀ (ses a lvl : Nat) (w : Word), Frame (.lawWrite ses a lvl w) s (Named [.LVL_CFG]) [.axs]) ∧
    (∀ (ses a : Nat) (w : Word), Frame (.clrflt ses a w) s (Named [.AXIS_CTL, .AXIS_MOT_ACC, .AXIS_MOT_POS_HI, .AXIS_MOT_POS_LO, .AXIS_MOT_STAT,
        .AXIS_MOT_VEL, .AXIS_STAT, .DIO_OUT, .GORSE_STAT, .PWM_LEG_ACC, .PWM_LEG_CNT, .PWM_LEG_STAT, .SAFE_SA_STAT]) [.axs, .cap, .dio, .engs, .fresh,
        .mot, .pwm, .safe]) ∧
    (∀ (ses a k : Nat) (w : Word), Frame (.filterCommit ses a k w) s (Named [.FLT_A1, .FLT_A2, .FLT_B0, .FLT_B1, .FLT_B2, .FLT_CFG]) [.axs]) ∧
    (∀ (a : Nat), Frame (.stopComplete a) s (Named [.AXIS_MOT_ACC, .AXIS_MOT_POS_HI, .AXIS_MOT_POS_LO, .AXIS_MOT_STAT, .AXIS_MOT_VEL, .AXIS_STAT,
        .DIO_OUT]) [.axs, .cap, .dio, .engs, .fresh, .mot]) ∧
    (∀ (a : Nat), Frame (.plausibilitySample a) s (Named [.AXIS_PRES, .AXIS_PRESMAX, .AXIS_STAT, .DIO_OUT]) [.axs, .cap, .dio, .engs]) ∧
    (∀ (a lvl : Nat), Frame (.classFOutputTake a lvl) s (Named [.AXIS_DLYMAX, .AXIS_DLY_C, .AXIS_DLY_P, .AXIS_DLY_V, .AXIS_STAT, .DIO_OUT,
        .PWM_LEG_CNT]) [.axs, .cap, .dio, .engs, .pwm]) ∧
    (∀ (p : Nat) (relayed : Bool), Frame (.downstreamTake p relayed) s (Named [.AXIS_DLYCYC, .AXIS_DLYMAX, .AXIS_DLY_C, .AXIS_DLY_P, .AXIS_DLY_V,
        .DIO_OUT, .TALL_CNT_LATE, .TALL_CNT_TOBUSY, .TALL_CNT_TOLATE, .TALL_TO_CNT, .TALL_TO_TFIRE]) [.cap, .dio, .engs, .fresh, .line, .link, .safe,
        .tall])

/-- Legs, encoders, motion, tracks and arms: what each of the commands leaves unchanged (`Frame`): the registers that are not named, and the parts that are not listed. -/
def Obligations.DriveFrame : Prop :=
  ∀ (s : State),
    (∀ (c : Nat), Frame (.reloadSample c) s (Named [.PWM_LEG_CNT]) [.pwm]) ∧
    (∀ (c : Nat), Frame (.pwmPeriodStart c) s (Named [.PWM_CMP_HI, .PWM_CMP_LO, .PWM_LEG_ACC, .PWM_LEG_CNT, .PWM_LEG_NAT, .PWM_LEG_STAT]) [.pwm]) ∧
    (∀ (c : Nat) (map : Option Nat), Frame (.delayLineCal c map) s (Named [.PWM_DRV_STAT, .PWM_LEG_ACC, .PWM_LEG_CNT, .PWM_LEG_STAT]) [.pwm]) ∧
    (∀ (ses l : Nat) (w : Word), Frame (.pwmCmpLoWrite ses l w) s (Named [.PWM_LEG_CNT]) [.pwm]) ∧
    (∀ (ses l : Nat) (w : Word), Frame (.legCommit ses l w) s (Named [.PWM_LEG_ACC, .PWM_LEG_CNT, .PWM_LEG_CTL, .PWM_LEG_STAT]) [.pwm]) ∧
    (∀ (ses l : Nat) (w : Word), Frame (.clracc ses l w) s (Named [.PWM_LEG_ACC, .PWM_LEG_CNT, .PWM_LEG_CTL, .PWM_LEG_STAT]) [.pwm]) ∧
    (∀ (l : Nat) (low : Bool) (ns : Nat), Frame (.swnEdge l low ns) s (Named []) [.pwm]) ∧
    (∀ (l : Nat), Frame (.swnMiss l) s (Named [.PWM_LEG_STAT]) [.pwm]) ∧
    (∀ (c t : Nat) (high : Bool), Frame (.tripActive c t high) s (Named [.AXIS_STAT, .DIO_OUT, .FBK_ENC_POS, .FBK_ENC_STAT, .FBK_ENC_TLAST,
        .FBK_PRB_POS, .FBK_PRB_STAT, .FBK_PRB_TIME, .PWM_DRV_STAT, .PWM_LEG_ACC]) [.axs, .cap, .dio, .engs, .fbk, .fil, .pwm]) ∧
    (∀ (c : Nat), Frame (.carrierRemoved c) s (Named [.AXIS_STAT, .DIO_OUT, .PWM_DRV_STAT, .PWM_LEG_ACC]) [.axs, .cap, .dio, .engs, .pwm]) ∧
    (∀ (c : Nat), Frame (.carrierInserted c) s (Named [.PWM_DRV_STAT]) [.pwm]) ∧
    (∀ (c j : Nat), Frame (.sdLoss c j) s (Named [.SD_CFG]) [.engs]) ∧
    (∀ (c j : Nat), Frame (.sdLossClear c j) s (Named [.SD_CFG]) [.engs]) ∧
    (∀ (k : Nat) (a b : Bool), Frame (.quadTransition k a b) s (Named [.AXIS_STAT, .DIO_OUT, .FBK_ENC_POS, .FBK_ENC_STAT, .FBK_ENC_TLAST,
        .FBK_PRB_POS, .FBK_PRB_STAT, .FBK_PRB_TIME, .PWM_DRV_STAT, .PWM_LEG_ACC]) [.axs, .cap, .dio, .engs, .fbk, .fil, .pwm]) ∧
    (∀ (k : Nat) (a : Bool) (bc : Bool × Bool), Frame (.hallChange k a bc) s (Named [.AXIS_STAT, .DIO_OUT, .FBK_ENC_POS, .FBK_ENC_STAT,
        .FBK_ENC_TLAST, .FBK_PRB_POS, .FBK_PRB_STAT, .FBK_PRB_TIME, .PWM_DRV_STAT, .PWM_LEG_ACC]) [.axs, .cap, .dio, .engs, .fbk, .fil, .pwm]) ∧
    (∀ (k : Nat), Frame (.ssiFrameStart k) s (Named []) [.fbk]) ∧
    (∀ (k : Nat) (td : Option Nat) (data : Nat) (err par high : Bool), Frame (.ssiFrameEnd k td data err par high) s (Named [.FBK_ENC_POS,
        .FBK_ENC_SPD, .FBK_ENC_STAT, .FBK_ENC_TLAST]) [.engs, .fbk]) ∧
    (∀ (k : Nat), Frame (.speedWindow k) s (Named [.FBK_ENC_SPD]) [.fbk]) ∧
    (∀ (p : Nat) (high : Bool), Frame (.probeEdge p high) s (Named [.AXIS_STAT, .DIO_OUT, .FBK_ENC_POS, .FBK_ENC_STAT, .FBK_ENC_TLAST, .FBK_PRB_POS,
        .FBK_PRB_STAT, .FBK_PRB_TIME, .PWM_DRV_STAT, .PWM_LEG_ACC]) [.axs, .cap, .dio, .engs, .fbk, .fil, .pwm]) ∧
    (∀ (ses p : Nat) (w : Word), Frame (.probeArm ses p w) s (Named [.FBK_PRB_CTL, .FBK_PRB_STAT]) []) ∧
    (∀ (ses p : Nat) (w : Word), Frame (.probeDisarm ses p w) s (Named [.FBK_PRB_CTL, .FBK_PRB_STAT]) []) ∧
    (∀ (ses p : Nat), Frame (.prbPosRead ses p) s (Named [.FBK_PRB_STAT]) []) ∧
    (∀ (r : Nat), Frame (.remoteEncoderCycle r) s (Named [.DIO_OUT, .FBK_REM_POS, .FBK_REM_SPD, .FBK_REM_STAT]) [.cap, .dio, .engs, .fbk]) ∧
    (∀ (c : Nat), Frame (.encOvercurrent c) s (Named [.FBK_ENC_STAT, .FBK_SUP, .SYS_ENV_ENC]) [.engs, .fbk]) ∧
    (∀ (ses : Nat) (w : Word), Frame (.restore ses w) s (Named [.FBK_SUP, .SYS_ENV_ENC]) []) ∧
    (∀ (ses k : Nat) (w : Word), Frame (.encClrinv ses k w) s (Named [.FBK_ENC_CTL, .FBK_ENC_STAT]) [.engs, .fbk]) ∧
    (∀ (ses k : Nat) (w : Word), Frame (.encPreset ses k w) s (Named [.FBK_ENC_POS, .FBK_ENC_PRESET]) [.fbk]) ∧
    (∀ (ses a : Nat) (w : Word), Frame (.go ses a w) s (Named [.AXIS_MOT_CTL, .AXIS_MOT_STAT]) [.mot]) ∧
    (∀ (ses a : Nat) (w : Word), Frame (.halt ses a w) s (Named [.AXIS_MOT_CTL, .AXIS_MOT_STAT]) [.mot]) ∧
    (∀ (ses a : Nat) (w : Word), Frame (.engage ses a w) s (Named [.AXIS_GEAR_CTL, .AXIS_MOT_STAT]) [.mot]) ∧
    (∀ (ses a : Nat) (w : Word), Frame (.gearArm ses a w) s (Named [.AXIS_GEAR_CTL, .AXIS_MOT_STAT]) [.mot]) ∧
    (∀ (ses a : Nat) (w : Word), Frame (.gearCancel ses a w) s (Named [.AXIS_GEAR_CTL, .AXIS_MOT_STAT]) [.mot]) ∧
    (∀ (ses a : Nat) (w : Word), Frame (.disengage ses a w) s (Named [.AXIS_GEAR_CTL, .AXIS_MOT_STAT]) [.mot]) ∧
    (∀ (a : Nat), Frame (.setpointUpdate a) s (Named [.AXIS_GEAR_CUR_DEN, .AXIS_GEAR_CUR_NUM, .AXIS_GEAR_FIRED_HI, .AXIS_GEAR_FIRED_LO, .AXIS_MOT_ACC,
        .AXIS_MOT_POS_HI, .AXIS_MOT_POS_LO, .AXIS_MOT_STAT, .AXIS_MOT_VEL, .AXIS_STAT, .DIO_OUT]) [.axs, .cap, .dio, .engs, .fresh, .mot]) ∧
    (Frame .trackUpdate s (Named [.TALL_CNT_DISC, .TALL_CNT_LATE, .TRACK_ACC, .TRACK_CORRREM, .TRACK_POS_HI, .TRACK_POS_LO, .TRACK_REV, .TRACK_STAT,
        .TRACK_TIME, .TRACK_VEL]) [.fresh, .mot, .tall]) ∧
    (∀ (t : Nat), Frame (.trkMasterLost t) s (Named [.TRACK_ACC, .TRACK_STAT, .TRACK_VEL]) [.mot]) ∧
    (∀ (ses t : Nat) (w : Word), Frame (.trackSet ses t w) s (Named []) [.mot]) ∧
    (∀ (ses t : Nat) (w : Word), Frame (.trackCorr ses t w) s (Named [.TRACK_CORR, .TRACK_CORRREM, .TRACK_STAT]) []) ∧
    (∀ (ses t : Nat) (w : Word), Frame (.trackClrinv ses t w) s (Named [.TRACK_CTL]) [.mot]) ∧
    (Frame .vmUpdate s (Named [.VM_CURVEL, .VM_POS_HI, .VM_POS_LO]) [.mot]) ∧
    (∀ (ses v : Nat) (w : Word), Frame (.vmRunWrite ses v w) s (Named [.VM_CTL]) []) ∧
    (∀ (ses v : Nat) (w : Word), Frame (.vmSet ses v w) s (Named [.VM_POS_HI, .VM_POS_LO]) [.mot]) ∧
    (∀ (src : Nat × Nat × Nat) (m : List (BitVec 8)), Frame (.armSeg src m) s (Named [.ARM_SEGCUR, .ARM_STAT, .ARM_TAU, .FAB_IMG_STAT,
        .HOST_P_CNT_DROP, .HOST_P_CNT_RX, .HOST_P_CNT_TX, .HOST_Q_CNT, .HOST_S_REJ, .SEC_EXTCNT, .SEC_MS, .SEC_STAT]) [.arms, .cap, .fresh, .loader,
        .sec]) ∧
    (∀ (m : Nat), Frame (.pathPeriod m) s (Named [.ARM_CNT, .ARM_KEFF, .ARM_POSE, .ARM_SCALE, .ARM_SEGCUR, .ARM_SEGDONE, .ARM_STAT, .ARM_TAU,
        .AXIS_MOT_ACC, .AXIS_MOT_POS_HI, .AXIS_MOT_POS_LO, .AXIS_MOT_VEL, .AXIS_STAT, .DIO_OUT]) [.arms, .axs, .cap, .dio, .engs, .fresh, .mot]) ∧
    (∀ (ses m : Nat) (w : Word), Frame (.hold ses m w) s (Named [.ARM_CTL]) [.arms]) ∧
    (∀ (ses m : Nat) (w : Word), Frame (.armResume ses m w) s (Named [.ARM_CTL]) [.arms]) ∧
    (∀ (ses m : Nat) (w : Word), Frame (.armFlush ses m w) s (Named [.ARM_CTL]) [.arms]) ∧
    (∀ (c : Nat) (bytes : List (BitVec 8)), Frame (.carrierIdReadDone c bytes) s (Named [.PWM_DRV_DTFLOOR, .PWM_DRV_SERIAL, .PWM_DRV_STAT,
        .PWM_DRV_TYPE]) [.pwm])

/-- Items, Gorse, the safety processor and field outputs: what each of the commands leaves unchanged (`Frame`): the registers that are not named, and the parts that are not listed. -/
def Obligations.PlantFrame : Prop :=
  ∀ (s : State),
    (∀ (src : Nat × Nat × Nat) (m : List (BitVec 8)), Frame (.itemAdd src m) s (Named [.FAB_IMG_STAT, .HOST_P_CNT_DROP, .HOST_P_CNT_RX,
        .HOST_P_CNT_TX, .HOST_Q_CNT, .HOST_S_REJ, .SEC_EXTCNT, .SEC_MS, .SEC_STAT, .TALL_CNT_DISC, .TALL_CNT_LATE]) [.cap, .fresh, .loader, .sec,
        .tall]) ∧
    (∀ (src : Nat × Nat × Nat) (m : List (BitVec 8)), Frame (.actArm src m) s (Named [.FAB_IMG_STAT, .HOST_P_CNT_DROP, .HOST_P_CNT_RX, .HOST_P_CNT_TX,
        .HOST_Q_CNT, .HOST_S_REJ, .SEC_EXTCNT, .SEC_MS, .SEC_STAT, .TALL_CNT_DISC, .TALL_CNT_LATE]) [.cap, .fresh, .loader, .sec, .tall]) ∧
    (∀ (src : Nat × Nat × Nat) (m : List (BitVec 8)), Frame (.actCancel src m) s (Named [.FAB_IMG_STAT, .HOST_P_CNT_DROP, .HOST_P_CNT_RX,
        .HOST_P_CNT_TX, .HOST_Q_CNT, .HOST_S_REJ, .SEC_EXTCNT, .SEC_MS, .SEC_STAT, .TALL_CNT_LATE]) [.cap, .fresh, .loader, .sec, .tall]) ∧
    (∀ (src : Nat × Nat × Nat) (m : List (BitVec 8)), Frame (.itemRemove src m) s (Named [.FAB_IMG_STAT, .HOST_P_CNT_DROP, .HOST_P_CNT_RX,
        .HOST_P_CNT_TX, .HOST_Q_CNT, .HOST_S_REJ, .SEC_EXTCNT, .SEC_MS, .SEC_STAT, .TALL_CNT_LATE]) [.cap, .fresh, .loader, .sec, .tall]) ∧
    (∀ (src : Nat × Nat × Nat) (m : List (BitVec 8)), Frame (.itemShift src m) s (Named [.FAB_IMG_STAT, .HOST_P_CNT_DROP, .HOST_P_CNT_RX,
        .HOST_P_CNT_TX, .HOST_Q_CNT, .HOST_S_REJ, .SEC_EXTCNT, .SEC_MS, .SEC_STAT, .TALL_CNT_DISC, .TALL_CNT_LATE]) [.cap, .fresh, .loader, .sec,
        .tall]) ∧
    (∀ (src : Nat × Nat × Nat) (m : List (BitVec 8)), Frame (.itemRead src m) s (Named [.FAB_IMG_STAT, .HOST_P_CNT_DROP, .HOST_P_CNT_RX,
        .HOST_P_CNT_TX, .HOST_Q_CNT, .HOST_S_REJ, .SEC_EXTCNT, .SEC_MS, .SEC_STAT]) [.cap, .fresh, .loader, .sec]) ∧
    (Frame .actionFiring s (Named [.DIO_OUT, .TALL_CNT_DELAY, .TALL_CNT_DISC, .TALL_CNT_DROP, .TALL_CNT_FIRED, .TALL_CNT_LATE]) [.cap, .dio, .mot,
        .tall]) ∧
    (∀ (k : Nat), Frame (.pulseEnd k) s (Named [.DIO_OUT]) [.dio]) ∧
    (∀ (i : Nat), Frame (.commitMeasure i) s (Named [.TALL_CNT_LATE, .TALL_CNT_MISS, .TALL_TRK_ERRMAX, .TALL_TRK_LASTERR]) [.tall]) ∧
    (∀ (o : Nat) (w : Word), Frame (.tackReceived o w) s (Named [.TALL_TO_ACK]) [.tall]) ∧
    (∀ (ses : Nat) (w : Word), Frame (.tallFlush ses w) s (Named [.TALL_CNT_LATE, .TALL_CTL, .TALL_TRK_ERRMAX]) [.tall]) ∧
    (∀ (ses : Nat) (w : Word), Frame (.tallClrmax ses w) s (Named [.TALL_CNT_LATE, .TALL_CTL, .TALL_TRK_ERRMAX]) [.tall]) ∧
    (∀ (ses k : Nat), Frame (.itemWinRead ses k) s (Named []) [.tall]) ∧
    (∀ (isItem : Bool) (k : Nat), Frame (.tallEcc isItem k) s (Named [.TALL_CNT_DROP]) [.tall]) ∧
    (∀ (us : Nat) (dup : Option (Nat × Nat × Nat × Nat)) (kat ecc : Bool), Frame (.gorseEvaluation us dup kat ecc) s (Named [.DIO_OUT,
        .GORSE_ARM_DIST, .GORSE_ARM_MARGIN, .GORSE_ARM_PAIR, .GORSE_ARM_SP, .GORSE_ARM_SPEED, .GORSE_ARM_STAT, .GORSE_CNT_DUP, .GORSE_CNT_EVAL,
        .GORSE_CNT_FAIL, .GORSE_CNT_KAT, .GORSE_EVTIME, .GORSE_SEN_STAT, .GORSE_SEN_TMEAS, .GORSE_STAT]) [.arms, .cap, .dio, .engs, .fresh, .gorse]) ∧
    (Frame .evalDeadline s (Named [.DIO_OUT, .GORSE_ARM_STAT, .GORSE_CNT_EVAL, .GORSE_CNT_FAIL, .GORSE_STAT]) [.arms, .cap, .dio, .engs, .gorse]) ∧
    (∀ (ses : Nat) (w : Word), Frame (.clrfail ses w) s (Named [.GORSE_CTL, .GORSE_EVTIME, .GORSE_STAT]) []) ∧
    (∀ (ses : Nat) (w : Word), Frame (.gorseClrmax ses w) s (Named [.GORSE_CTL, .GORSE_EVTIME, .GORSE_STAT]) []) ∧
    (∀ (ses m : Nat) (w : Word), Frame (.capenWrite ses m w) s (Named [.GORSE_ARM_CAPEN]) []) ∧
    (∀ (stofb : List Nat) (xc : List (Nat × Int × Int × Option (Int × Int))), Frame (.safetyCycle stofb xc) s (Named [.AXIS_STAT, .DIO_BANK_STAT,
        .DIO_OUT, .GORSE_ARM_STAT, .GORSE_CNT_FAIL, .GORSE_CNT_XCHK, .GORSE_STAT, .SAFE_CNT_DISC, .SAFE_FN, .SAFE_IN, .SAFE_SA_DEV, .SAFE_SA_POS,
        .SAFE_SA_STAT, .SAFE_SA_VEL, .SAFE_STAT]) [.arms, .axs, .cap, .dio, .engs, .fresh, .gorse, .safe, .sec]) ∧
    (Frame .ackInputEdge s (Named []) [.safe]) ∧
    (∀ (ses : Nat) (w : Word), Frame (.safeAckWrite ses w) s (Named [.SAFE_CTL]) [.safe]) ∧
    (∀ (cause : Nat), Frame (.processorFault cause) s (Named [.AXIS_STAT, .DIO_BANK_STAT, .DIO_OUT, .SAFE_SA_STAT, .SAFE_STAT]) [.axs, .cap, .dio,
        .engs, .safe]) ∧
    (∀ (fwOk : Bool), Frame (.romCheck fwOk) s (Named [.AXIS_STAT, .DIO_BANK_STAT, .DIO_OUT, .SAFE_SA_STAT, .SAFE_STAT]) [.axs, .cap, .dio, .engs,
        .safe]) ∧
    (∀ (ok : Bool), Frame (.cpuSelfTest ok) s (Named [.AXIS_STAT, .DIO_BANK_STAT, .DIO_OUT, .SAFE_SA_STAT, .SAFE_STAT]) [.axs, .cap, .dio, .engs,
        .safe]) ∧
    (∀ (c : Nat), Frame (.safetyFragment c) s (Named []) [.safe]) ∧
    (∀ (c : Nat), Frame (.safetyMessage c) s (Named [.DIO_OUT, .GORSE_ARM_STAT, .GORSE_SEN_STAT, .SAFE_CNT_CRC, .SAFE_CNT_REASM, .SAFE_CNT_SEQ,
        .SAFE_CONN_CNT, .SAFE_CONN_STAT, .SAFE_CONN_TIME]) [.arms, .cap, .dio, .engs, .gorse, .safe]) ∧
    (∀ (c : Nat), Frame (.safetyWatchdog c) s (Named [.DIO_OUT, .GORSE_ARM_STAT, .GORSE_SEN_STAT, .SAFE_CONN_STAT]) [.arms, .cap, .dio, .engs, .gorse,
        .safe]) ∧
    (∀ (c : Nat), Frame (.safetySend c) s (Named []) [.safe]) ∧
    (∀ (contacts rb limit : Nat) (lplus : List Nat), Frame (.fieldSample contacts rb limit lplus) s (Named [.DIO_BANK_STAT, .DIO_CAP_STAT,
        .DIO_CAP_TIME, .DIO_FLT_A, .DIO_FLT_B, .DIO_IN, .DIO_OUT, .DIO_RB, .PWR_STAT]) [.cap, .dio, .engs, .safe]) ∧
    (∀ (b : Nat), Frame (.bankOff b) s (Named [.DIO_BANK_STAT, .DIO_OUT]) [.dio]) ∧
    (∀ (ses b : Nat) (w : Word), Frame (.rearm ses b w) s (Named [.DIO_BANK_CTL, .DIO_BANK_STAT]) [.dio]) ∧
    (∀ (ses b : Nat) (w : Word), Frame (.wdresume ses b w) s (Named [.DIO_BANK_CTL, .DIO_BANK_STAT]) [.dio]) ∧
    (∀ (b : Nat), Frame (.fieldWdExpiry b) s (Named [.DIO_BANK_STAT]) [.dio]) ∧
    (∀ (k : Nat), Frame (.thermalShutdown k) s (Named [.DIO_FLT_A]) [.dio]) ∧
    (∀ (k : Nat), Frame (.thermalRestart k) s (Named []) [.dio]) ∧
    (∀ (ses b : Nat) (w : Word), Frame (.clrtherm ses b w) s (Named [.DIO_THCLR]) [.dio]) ∧
    (∀ (k : Nat), Frame (.testPulse k) s (Named []) [.dio]) ∧
    (∀ (ses b : Nat) (w : Word), Frame (.dioOutWrite ses b w) s (Named [.DIO_OUT]) [.dio]) ∧
    (∀ (ses b : Nat) (w : Word), Frame (.dioOutSetWrite ses b w) s (Named [.DIO_OUT, .DIO_OUT_SET]) [.dio]) ∧
    (∀ (ses b : Nat) (w : Word), Frame (.dioOutClrWrite ses b w) s (Named [.DIO_OUT, .DIO_OUT_CLR]) [.dio]) ∧
    (∀ (ses b : Nat) (hi : Bool) (w : Word), Frame (.dioFltClear ses b hi w) s (Named [.DIO_FLT_A, .DIO_FLT_B]) []) ∧
    (∀ (cause : Nat), Frame (.safeDiagComplete cause) s (Named [.AXIS_STAT, .DIO_BANK_STAT, .DIO_OUT, .SAFE_SA_STAT, .SAFE_STAT]) [.axs, .cap, .dio,
        .engs, .safe]) ∧
    (∀ (i : Nat), Frame (.remoteActionCrossing i) s (Named [.TALL_CNT_LATE, .TALL_CNT_MISS, .TALL_TRK_ERRMAX, .TALL_TRK_LASTERR]) [.tall]) ∧
    (∀ (i : Nat), Frame (.commitWindowExpiry i) s (Named [.TALL_CNT_LATE, .TALL_CNT_MISS, .TALL_TRK_ERRMAX, .TALL_TRK_LASTERR]) [.tall])

/-- CAN, capture, the event recorder and the redundant pair: what each of the commands leaves unchanged (`Frame`): the registers that are not named, and the parts that are not listed. -/
def Obligations.NetFrame : Prop :=
  ∀ (s : State),
    (∀ (ses k : Nat), Frame (.dioCapRead ses k) s (Named [.DIO_CAP_STAT]) [.dio]) ∧
    (∀ (c flags dlc id : Nat) (data : List (BitVec 8)) (ago edge : Nat), Frame (.canFrameReceived c flags dlc id data ago edge) s (Named
        [.CAN_CNT_BITERR, .CAN_CNT_CRC, .CAN_CNT_FORM, .CAN_CNT_NOMATCH, .CAN_CNT_RXOVF, .CAN_CNT_STUFF, .CAN_NBT, .CAN_RATE, .CAN_STAT,
        .CAN_TXB_STAT]) [.can, .fresh, .safe]) ∧
    (∀ (c : Nat), Frame (.canRx c) s (Named [.HOST_P_CNT_TX]) [.can]) ∧
    (∀ (src : Nat × Nat × Nat) (m : List (BitVec 8)), Frame (.canTx src m) s (Named [.CAN_TXB_STAT, .FAB_IMG_STAT, .HOST_P_CNT_DROP, .HOST_P_CNT_RX,
        .HOST_P_CNT_TX, .HOST_Q_CNT, .HOST_S_REJ, .SEC_EXTCNT, .SEC_MS, .SEC_STAT]) [.can, .cap, .fresh, .loader, .sec]) ∧
    (∀ (src : Nat × Nat × Nat) (m : List (BitVec 8)), Frame (.canCancel src m) s (Named [.CAN_TXB_STAT, .FAB_IMG_STAT, .HOST_P_CNT_DROP,
        .HOST_P_CNT_RX, .HOST_P_CNT_TX, .HOST_Q_CNT, .HOST_S_REJ, .SEC_EXTCNT, .SEC_MS, .SEC_STAT]) [.can, .cap, .fresh, .loader, .sec]) ∧
    (∀ (c r : Nat) (tdc : Option Nat) (quiet : Bool), Frame (.canTxEnd c r tdc quiet) s (Named [.CAN_CLASH_ID, .CAN_CNT_ACKERR, .CAN_CNT_BITERR,
        .CAN_CNT_FORM, .CAN_CNT_STUFF, .CAN_STAT, .CAN_TDCV, .CAN_TXB_STAT, .HOST_P_CNT_TX]) [.can, .safe]) ∧
    (∀ (c : Nat), Frame (.canRecovered c) s (Named [.CAN_STAT, .CAN_TXB_STAT]) [.can]) ∧
    (∀ (ses c : Nat) (w : Word), Frame (.recover ses c w) s (Named [.CAN_CLASH_ID, .CAN_CTL, .CAN_STAT]) [.can]) ∧
    (∀ (c : Nat), Frame (.canLoneRetry c) s (Named [.CAN_TXB_STAT]) [.can]) ∧
    (∀ (ses c : Nat) (w : Word), Frame (.clashclr ses c w) s (Named [.CAN_CLASH_ID, .CAN_CTL, .CAN_STAT]) [.can]) ∧
    (∀ (c : Nat), Frame (.canRateFail c) s (Named []) [.can]) ∧
    (∀ (ses c : Nat) (w : Word), Frame (.raterestart ses c w) s (Named [.CAN_CLASH_ID, .CAN_CTL, .CAN_STAT]) [.can]) ∧
    (∀ (ses : Nat) (w : Word), Frame (.capArm ses w) s (Named [.CAP_STAT, .CAP_TRIGMAP]) [.cap]) ∧
    (∀ (ses : Nat) (w : Word), Frame (.capStop ses w) s (Named [.CAP_STAT, .CAP_TRIGMAP]) [.cap]) ∧
    (∀ (ses : Nat) (w : Word), Frame (.capForce ses w) s (Named [.CAP_STAT, .CAP_TRIGMAP]) [.cap]) ∧
    (∀ (ses : Nat) (w : Word), Frame (.capClr ses w) s (Named [.CAP_STAT, .CAP_TRIGMAP]) [.cap]) ∧
    (∀ (raws : List (List Int)) (fill : Nat) (lost : Bool), Frame (.captureSample raws fill lost) s (Named [.CAP_CNT_DROP, .CAP_CNT_HALF, .CAP_STAT,
        .CAP_TRIGMAP, .CAP_TRIG_STAMP]) [.cap]) ∧
    (Frame .autoTrigger s (Named []) [.cap]) ∧
    (∀ (code sev : Nat) (source : Word) (data : List Word) (bad : List Nat), Frame (.eventReceived code sev source data bad) s (Named []) []) ∧
    (Frame .mramTimeout s (Named []) []) ∧
    (∀ (answers : Bool), Frame (.mramProbe answers) s (Named []) []) ∧
    (∀ (bad : List Nat), Frame (.mramCopyDone bad) s (Named [.EVT_STAT]) []) ∧
    (∀ (ses : Nat) (w : Word), Frame (.evtClear ses w) s (Named [.EVT_CTL, .EVT_CURSOR]) []) ∧
    (∀ (ses : Nat) (bad : List Nat) (w : Word), Frame (.retest ses bad w) s (Named [.EVT_CTL, .EVT_CURSOR]) []) ∧
    (∀ (ses : Nat) (w : Word), Frame (.next ses w) s (Named [.EVT_CTL, .EVT_CURSOR]) []) ∧
    (∀ (place : Nat × Nat) (fails : Bool), Frame (.evtWinRead place fails) s (Named [.EVT_STAT]) []) ∧
    (Frame .pairHelloSend s (Named []) [.duo, .fresh, .link]) ∧
    (∀ (h : Machine.PairHello) (ok : Bool), Frame (.pairHello h ok) s (Named [.LINE_GSTAT, .LINE_STAT, .PAIR_CNT_GAP, .PAIR_CNT_RESYNC,
        .PAIR_PEER_SERIAL, .PAIR_STAT]) [.dio, .duo, .fresh, .line, .link]) ∧
    (Frame .mirrorSend s (Named []) [.duo, .fresh, .link]) ∧
    (∀ (f : Machine.MirFrame) (ok : Bool), Frame (.mirrorFrame f ok) s (Named [.FAB_IMG_STAT, .PAIR_CNT_GAP, .PAIR_MPOINT_HI, .PAIR_MPOINT_LO,
        .PAIR_STAT]) [.duo, .fresh, .line, .link, .loader]) ∧
    (∀ (tick : Nat) (want : Option Nat) (hand ok : Bool), Frame (.pairAck tick want hand ok) s (Named [.HOST_P_CNT_TX, .PAIR_CNT_GAP, .PAIR_CNT_RETX,
        .PAIR_MPOINT_HI, .PAIR_MPOINT_LO, .PAIR_STAT]) [.duo, .fresh, .link]) ∧
    (Frame .mirrorGapTimeout s (Named [.PAIR_CNT_RESYNC, .PAIR_STAT]) [.duo, .fresh, .link]) ∧
    (∀ (ok : Bool), Frame (.syncreq ok) s (Named [.PAIR_CNT_GAP, .PAIR_STAT]) [.duo, .fresh, .link]) ∧
    (∀ (rtt : Nat) (ofs : Int), Frame (.pairLinkDelay rtt ofs) s (Named [.PAIR_CNT_GAP, .PAIR_LINKDLY, .PAIR_STAT, .TIME_RATE, .TIME_STAT]) [.duo,
        .fresh, .time]) ∧
    (∀ (down : Bool), Frame (.linkPathLost down) s (fun _ => True) [.arms, .axs, .can, .cap, .dio, .duo, .engs, .fbk, .line, .loader, .mot, .pwm,
        .safe, .sec, .tall, .time]) ∧
    (Frame .linePathLost s (fun _ => True) [.arms, .axs, .can, .cap, .dio, .duo, .engs, .fbk, .line, .loader, .mot, .pwm, .safe, .sec, .tall, .time]) ∧
    (Frame .pairPathBack s (Named [.PAIR_STAT]) [.duo]) ∧
    (Frame .standbyAckTimeout s (Named [.HOST_P_CNT_TX, .PAIR_STAT]) [.duo]) ∧
    (∀ (ses : Nat) (w : Word), Frame (.switch ses w) s (Named [.PAIR_CNT_RESYNC, .PAIR_CTL, .PAIR_STAT]) [.duo, .fresh, .link]) ∧
    (∀ (t : Nat) (ok : Bool), Frame (.handover t ok) s (Named [.PAIR_CNT_GAP, .PAIR_STAT]) [.duo, .fresh, .link]) ∧
    (Frame .handoverBoundary s (fun _ => True) [.arms, .axs, .can, .cap, .dio, .duo, .engs, .fbk, .fresh, .line, .link, .loader, .mot, .pwm, .safe,
        .sec, .tall, .time]) ∧
    (Frame .handoverAckTimeout s (Named []) [.duo]) ∧
    (∀ (ses : Nat) (w : Word), Frame (.pairResyncWrite ses w) s (Named [.PAIR_CNT_RESYNC, .PAIR_CTL, .PAIR_STAT]) [.duo, .fresh, .link]) ∧
    (∀ (c : Nat), Frame (.canBusIntegration c) s (Named [.CAN_STAT, .CAN_TXB_STAT]) [.can]) ∧
    (∀ (c kind : Nat) (heavy : Bool), Frame (.canRxFrameError c kind heavy) s (Named [.CAN_CNT_BITERR, .CAN_CNT_CRC, .CAN_CNT_FORM, .CAN_CNT_STUFF,
        .CAN_STAT, .CAN_TXB_STAT]) [.can])

/-- The host interface, security and power: what each of the commands leaves unchanged (`Frame`): the registers that are not named, and the parts that are not listed. -/
def Obligations.UnitFrame : Prop :=
  ∀ (s : State),
    (∀ (e : Nat), Frame (.engineHalt e) s (Named [.AXIS_STAT, .DIO_OUT, .SAFE_SA_STAT, .SEC_CNT_DBGDENY]) [.axs, .cap, .dio, .engs, .safe, .sec]) ∧
    (∀ (e pc : Nat), Frame (.breakpointSet e pc) s (Named [.SEC_CNT_DBGDENY]) [.engs, .sec]) ∧
    (∀ (src : Nat × Nat × Nat) (m : List (BitVec 8)), Frame (.sapexDatagram src m) s (Named [.FAB_IMG_STAT, .HOST_P_CNT_DROP, .HOST_P_CNT_RX,
        .HOST_P_CNT_TX, .HOST_Q_CNT, .HOST_S_REJ, .SEC_EXTCNT, .SEC_MS, .SEC_STAT]) [.cap, .fresh, .loader, .sec]) ∧
    (∀ (src : Nat × Nat × Nat) (m : List (BitVec 8)), Frame (.sessOpen src m) s (Named [.FAB_IMG_STAT, .HOST_P_CNT_DROP, .HOST_P_CNT_RX,
        .HOST_P_CNT_TX, .HOST_Q_CNT, .HOST_S_REJ, .SEC_EXTCNT, .SEC_MS, .SEC_STAT]) [.cap, .fresh, .loader, .sec]) ∧
    (∀ (src : Nat × Nat × Nat) (m : List (BitVec 8)), Frame (.sessClose src m) s (Named [.FAB_IMG_STAT, .HOST_P_CNT_DROP, .HOST_P_CNT_RX,
        .HOST_P_CNT_TX, .HOST_Q_CNT, .HOST_S_REJ, .SEC_EXTCNT, .SEC_MS, .SEC_STAT]) [.cap, .fresh, .loader, .sec]) ∧
    (∀ (src : Nat × Nat × Nat) (m : List (BitVec 8)), Frame (.keepalive src m) s (Named [.FAB_IMG_STAT, .HOST_P_CNT_DROP, .HOST_P_CNT_RX,
        .HOST_P_CNT_TX, .HOST_Q_CNT, .HOST_S_REJ, .SEC_EXTCNT, .SEC_MS, .SEC_STAT]) [.cap, .fresh, .loader, .sec]) ∧
    (∀ (src : Nat × Nat × Nat) (m : List (BitVec 8)), Frame (.claim src m) s (Named [.FAB_IMG_STAT, .HOST_P_CNT_DROP, .HOST_P_CNT_RX, .HOST_P_CNT_TX,
        .HOST_Q_CNT, .HOST_S_REJ, .SEC_EXTCNT, .SEC_MS, .SEC_STAT]) [.cap, .fresh, .loader, .sec]) ∧
    (∀ (src : Nat × Nat × Nat) (m : List (BitVec 8)), Frame (.release src m) s (Named [.FAB_IMG_STAT, .HOST_P_CNT_DROP, .HOST_P_CNT_RX,
        .HOST_P_CNT_TX, .HOST_Q_CNT, .HOST_S_REJ, .SEC_EXTCNT, .SEC_MS, .SEC_STAT]) [.cap, .fresh, .loader, .sec]) ∧
    (∀ (src : Nat × Nat × Nat) (m : List (BitVec 8)), Frame (.force src m) s (Named [.FAB_IMG_STAT, .HOST_P_CNT_DROP, .HOST_P_CNT_RX, .HOST_P_CNT_TX,
        .HOST_Q_CNT, .HOST_S_REJ, .SEC_EXTCNT, .SEC_MS, .SEC_STAT]) [.cap, .fresh, .loader, .sec]) ∧
    (∀ (src : Nat × Nat × Nat) (m : List (BitVec 8)), Frame (.queueOpen src m) s (Named [.FAB_IMG_STAT, .HOST_P_CNT_DROP, .HOST_P_CNT_RX,
        .HOST_P_CNT_TX, .HOST_Q_CNT, .HOST_S_REJ, .SEC_EXTCNT, .SEC_MS, .SEC_STAT]) [.cap, .fresh, .loader, .sec]) ∧
    (∀ (src : Nat × Nat × Nat) (m : List (BitVec 8)), Frame (.queueClose src m) s (Named [.FAB_IMG_STAT, .HOST_P_CNT_DROP, .HOST_P_CNT_RX,
        .HOST_P_CNT_TX, .HOST_Q_CNT, .HOST_S_REJ, .SEC_EXTCNT, .SEC_MS, .SEC_STAT]) [.cap, .fresh, .loader, .sec]) ∧
    (∀ (src : Nat × Nat × Nat) (m : List (BitVec 8)), Frame (.hostAck src m) s (Named [.FAB_IMG_STAT, .HOST_P_CNT_DROP, .HOST_P_CNT_RX,
        .HOST_P_CNT_TX, .HOST_Q_CNT, .HOST_S_REJ, .SEC_EXTCNT, .SEC_MS, .SEC_STAT]) [.cap, .fresh, .loader, .sec]) ∧
    (∀ (src : Nat × Nat × Nat) (m : List (BitVec 8)), Frame (.evtSub src m) s (Named [.FAB_IMG_STAT, .HOST_P_CNT_DROP, .HOST_P_CNT_RX, .HOST_P_CNT_TX,
        .HOST_Q_CNT, .HOST_S_REJ, .SEC_EXTCNT, .SEC_MS, .SEC_STAT]) [.cap, .fresh, .loader, .sec]) ∧
    (∀ (src : Nat × Nat × Nat) (m : List (BitVec 8)), Frame (.regRead src m) s (Named readNames) [.cap, .dio, .fresh, .loader, .sec, .tall]) ∧
    (∀ (src : Nat × Nat × Nat) (m : List (BitVec 8)) (x : Queue) (r : Reg), s.start.Executes 0x0F11 1 m x → uAt m 20 2 = 1 → uAt m 16 4 = r.addr → r.name.quiet = true →
      Frame (.regWrite src m) s (fun a => a = r.addr) []) ∧
    (∀ (src : Nat × Nat × Nat) (m : List (BitVec 8)) (x : Queue) (r : Reg), s.start.Executes 0x0F12 1 m x → uAt m 16 4 = r.addr → r.name.quiet = true →
      Frame (.regRmw src m) s (fun a => a = r.addr) []) ∧
    (∀ (src : Nat × Nat × Nat) (m : List (BitVec 8)), Frame (.bulkOpen src m) s (Named [.FAB_IMG_STAT, .HOST_P_CNT_DROP, .HOST_P_CNT_RX,
        .HOST_P_CNT_TX, .HOST_Q_CNT, .HOST_S_REJ, .SEC_EXTCNT, .SEC_MS, .SEC_STAT]) [.cap, .fresh, .loader, .sec]) ∧
    (∀ (src : Nat × Nat × Nat) (m : List (BitVec 8)), Frame (.bulkWrite src m) s (Named [.FAB_IMG_STAT, .HOST_P_CNT_DROP, .HOST_P_CNT_RX,
        .HOST_P_CNT_TX, .HOST_Q_CNT, .HOST_S_REJ, .SEC_EXTCNT, .SEC_MS, .SEC_STAT]) [.cap, .fresh, .loader, .sec]) ∧
    (∀ (src : Nat × Nat × Nat) (m : List (BitVec 8)), Frame (.bulkRead src m) s (Named [.FAB_IMG_STAT, .HOST_P_CNT_DROP, .HOST_P_CNT_RX,
        .HOST_P_CNT_TX, .HOST_Q_CNT, .HOST_S_REJ, .SEC_EXTCNT, .SEC_MS, .SEC_STAT]) [.cap, .fresh, .loader, .sec]) ∧
    (∀ (src : Nat × Nat × Nat) (m : List (BitVec 8)), Frame (.bulkClose src m) s (Named [.FAB_IMG_STAT, .HOST_P_CNT_DROP, .HOST_P_CNT_RX,
        .HOST_P_CNT_TX, .HOST_Q_CNT, .HOST_S_REJ, .SEC_EXTCNT, .SEC_MS, .SEC_STAT]) [.cap, .fresh, .loader, .sec]) ∧
    (∀ (slot : Nat), Frame (.imageEraseDone slot) s (Named []) []) ∧
    (∀ (slot h : Nat), Frame (.bulkIdleTimeout slot h) s (Named [.FAB_IMG_STAT, .SEC_EXTCNT, .SEC_MS, .SEC_STAT]) [.cap, .loader, .sec]) ∧
    (∀ (slot : Nat), Frame (.sessionTimeout slot) s (Named [.FAB_IMG_STAT, .HOST_P_CNT_TX, .SEC_EXTCNT, .SEC_MS, .SEC_STAT]) [.cap, .loader, .sec]) ∧
    (Frame .hostHello s (Named [.HOST_P_CNT_TX]) []) ∧
    (∀ (q : Nat), Frame (.ackTimeout q) s (Named [.FAB_IMG_STAT, .HOST_P_CNT_TX, .HOST_S_RETX, .SEC_EXTCNT, .SEC_MS, .SEC_STAT]) [.cap, .loader,
        .sec]) ∧
    (∀ (ses : Nat) (w : Word), Frame (.apply ses w) s (Named [.HOST_CTL, .HOST_P_IP4, .HOST_P_IP4GW, .HOST_P_IP4PFX, .HOST_P_IP6, .HOST_P_IP6PFX]) []) ∧
    (∀ (src : Nat × Nat × Nat) (m : List (BitVec 8)), Frame (.msExtend src m) s (Named [.FAB_IMG_STAT, .HOST_P_CNT_DROP, .HOST_P_CNT_RX,
        .HOST_P_CNT_TX, .HOST_Q_CNT, .HOST_S_REJ, .SEC_EXTCNT, .SEC_MS, .SEC_STAT]) [.cap, .fresh, .loader, .sec]) ∧
    (∀ (src : Nat × Nat × Nat) (m : List (BitVec 8)), Frame (.quote src m) s (Named [.FAB_IMG_STAT, .HOST_P_CNT_DROP, .HOST_P_CNT_RX, .HOST_P_CNT_TX,
        .HOST_Q_CNT, .HOST_S_REJ, .SEC_CNT_QUOTE, .SEC_EXTCNT, .SEC_MS, .SEC_STAT]) [.cap, .fresh, .loader, .sec]) ∧
    (∀ (src : Nat × Nat × Nat) (m : List (BitVec 8)), Frame (.ownerSet src m) s (Named [.FAB_IMG_STAT, .HOST_P_CNT_DROP, .HOST_P_CNT_RX,
        .HOST_P_CNT_TX, .HOST_Q_CNT, .HOST_S_REJ, .SEC_EXTCNT, .SEC_MS, .SEC_OWNER_HASH, .SEC_STAT]) [.cap, .fresh, .loader, .sec]) ∧
    (∀ (src : Nat × Nat × Nat) (m : List (BitVec 8)), Frame (.secChal src m) s (Named [.FAB_IMG_STAT, .HOST_P_CNT_DROP, .HOST_P_CNT_RX,
        .HOST_P_CNT_TX, .HOST_Q_CNT, .HOST_S_REJ, .SEC_EXTCNT, .SEC_MS, .SEC_STAT]) [.cap, .fresh, .loader, .sec]) ∧
    (∀ (src : Nat × Nat × Nat) (m : List (BitVec 8)), Frame (.secToken src m) s (Named [.FAB_IMG_STAT, .HOST_P_CNT_DROP, .HOST_P_CNT_RX,
        .HOST_P_CNT_TX, .HOST_Q_CNT, .HOST_S_REJ, .PAIR_CNT_RESYNC, .PAIR_STAT, .SEC_CNT_DBGDENY, .SEC_CNT_TOKFAIL, .SEC_EXTCNT, .SEC_MS, .SEC_STAT])
        [.cap, .duo, .engs, .fresh, .link, .loader, .sec]) ∧
    (∀ (ses : Nat) (w : Word), Frame (.lock ses w) s (Named [.PAIR_CNT_RESYNC, .PAIR_STAT, .SEC_CTL, .SEC_EXTCNT, .SEC_MS, .SEC_STAT]) [.duo, .engs,
        .fresh, .link, .sec]) ∧
    (∀ (ses : Nat) (w : Word), Frame (.endsvc ses w) s (Named [.PAIR_CNT_RESYNC, .PAIR_STAT, .SEC_CTL, .SEC_EXTCNT, .SEC_MS, .SEC_STAT]) [.duo, .engs,
        .fresh, .link, .sec]) ∧
    (∀ (ses : Nat) (w : Word), Frame (.dbgclose ses w) s (Named [.PAIR_CNT_RESYNC, .PAIR_STAT, .SEC_CTL, .SEC_EXTCNT, .SEC_MS, .SEC_STAT]) [.duo,
        .engs, .fresh, .link, .sec]) ∧
    (Frame .serviceExpiry s (Named [.PAIR_CNT_RESYNC, .PAIR_STAT, .SEC_EXTCNT, .SEC_MS, .SEC_STAT]) [.duo, .engs, .fresh, .link, .sec]) ∧
    (Frame .debugPermitExpiry s (Named [.PAIR_CNT_RESYNC, .PAIR_STAT, .SEC_STAT]) [.duo, .engs, .fresh, .link, .sec]) ∧
    (Frame .debugRequest s (Named [.SEC_CNT_DBGDENY, .SEC_EXTCNT, .SEC_MS, .SEC_STAT]) [.sec]) ∧
    (Frame .debugRequestEnd s (Named [.PAIR_CNT_RESYNC, .PAIR_STAT, .SEC_STAT]) [.duo, .engs, .fresh, .link, .sec]) ∧
    (∀ (ins : Nat), Frame (.tapInstruction ins) s (Named [.DIO_BANK_STAT, .SEC_CNT_DBGDENY]) [.dio, .safe, .sec]) ∧
    (∀ (ses : Nat) (w : Word), Frame (.pwrLattolWrite ses w) s (Named [.PWR_LATTOL, .PWR_STAT]) []) ∧
    (Frame .powerStateEntry s (fun _ => True) [.arms, .axs, .can, .cap, .dio, .engs, .fbk, .gorse, .line, .loader, .mot, .pwm, .safe, .tall, .time]) ∧
    (Frame .powerExitComplete s (fun _ => True) [.arms, .axs, .can, .cap, .dio, .duo, .engs, .fbk, .fresh, .gorse, .line, .link, .loader, .mot, .pwm,
        .safe, .sec, .sys, .tall, .time]) ∧
    (∀ (bulk : Nat), Frame (.powerFailWarning bulk) s (Named [.DIO_BANK_STAT, .FAB_IMG_STAT, .GRP_STAT, .LINE_LOOPDLY, .LINE_STAT, .PAIR_STAT,
        .SYS_PF_STAT]) [.dio, .engs, .line, .loader, .sys]) ∧
    (Frame .pfPermitWithdraw s (Named [.AXIS_STAT, .DIO_OUT, .SAFE_SA_STAT, .SYS_PF_STAT]) [.axs, .cap, .dio, .engs, .safe, .sys]) ∧
    (∀ (bulk : Nat), Frame (.pfRecovered bulk) s (Named [.FAB_IMG_STAT, .SYS_PF_STAT]) [.loader]) ∧
    (∀ (t : Int), Frame (.tempMeasure t) s (Named [.DIO_BANK_STAT, .FAB_IMG_STAT, .GRP_STAT, .LINE_LOOPDLY, .LINE_STAT, .PAIR_STAT, .SYS_ENV_STAT,
        .SYS_ENV_TEMP, .SYS_PF_STAT]) [.dio, .engs, .line, .loader, .sys]) ∧
    (Frame .tempcritSupplyOff s (Named []) [.dio, .sys]) ∧
    (Frame .overtempRestart s (fun _ => True) [.arms, .axs, .can, .cap, .dio, .duo, .engs, .fbk, .fresh, .gorse, .line, .link, .loader, .mot, .pwm,
        .safe, .sec, .sys, .tall, .time]) ∧
    (∀ (f : Nat), Frame (.fanFailure f) s (Named [.SYS_ENV_STAT]) []) ∧
    (∀ (c typ : Nat), Frame (.sfpInserted c typ) s (Named [.SYS_ENV_STAT]) []) ∧
    (∀ (c : Nat), Frame (.sfpRemoved c) s (Named [.HOST_STAT, .SYS_ENV_STAT]) [.duo]) ∧
    (∀ (q : Nat), Frame (.quoteComplete q) s (Named [.HOST_P_CNT_TX]) []) ∧
    (∀ (p : Nat), Frame (.hostLinkUp p) s (Named [.HOST_STAT]) []) ∧
    (∀ (p : Nat), Frame (.hostLinkDown p) s (Named [.HOST_STAT]) []) ∧
    (∀ (f : Nat), Frame (.fanRestored f) s (Named [.SYS_ENV_STAT]) []) ∧
    (∀ (p : Nat) (v6 : Bool) (addr : Nat), Frame (.arpRequest p v6 addr) s (Named []) []) ∧
    (∀ (p : Nat) (v6 : Bool) (addr : Nat) (data : List (BitVec 8)), Frame (.icmpEcho p v6 addr data) s (Named []) [])
end

