-- ==== Sys2Proof/Laws/Addrs.lean ====
section
/-! SUPPORT. The address of every register of the map, as a number. -/

namespace Sys2Proof.Machine

open Sys2Proof

@[simp] theorem addr_SYS_RST_CTL : R.SYS_RST_CTL.addr = 16 := rfl
@[simp] theorem addr_SYS_RST_STAT : R.SYS_RST_STAT.addr = 20 := rfl
@[simp] theorem addr_SYS_RST_CNT : R.SYS_RST_CNT.addr = 24 := rfl
@[simp] theorem addr_SYS_WDT_CFG : R.SYS_WDT_CFG.addr = 32 := rfl
@[simp] theorem addr_SYS_PF_STAT : R.SYS_PF_STAT.addr = 36 := rfl
@[simp] theorem addr_SYS_ENV_STAT : R.SYS_ENV_STAT.addr = 48 := rfl
@[simp] theorem addr_SYS_ENV_TEMP : R.SYS_ENV_TEMP.addr = 52 := rfl
@[simp] theorem addr_SYS_ENV_ENC : R.SYS_ENV_ENC.addr = 56 := rfl
@[simp] theorem addr_CLK_CTL : R.CLK_CTL.addr = 1048576 := rfl
@[simp] theorem addr_CLK_STAT : R.CLK_STAT.addr = 1048580 := rfl
@[simp] theorem addr_PWR_LATTOL : R.PWR_LATTOL.addr = 2097152 := rfl
@[simp] theorem addr_PWR_STAT : R.PWR_STAT.addr = 2097156 := rfl
@[simp] theorem addr_PWR_WAKEIO (i : Nat) : (R.PWR_WAKEIO i).addr = 2097160 + i % 2 * 4 := rfl
@[simp] theorem addr_PWR_TIME : R.PWR_TIME.addr = 2097168 := rfl
@[simp] theorem addr_PWR_CNT : R.PWR_CNT.addr = 2097172 := rfl
@[simp] theorem addr_SEC_STAT : R.SEC_STAT.addr = 4194304 := rfl
@[simp] theorem addr_SEC_CTL : R.SEC_CTL.addr = 4194308 := rfl
@[simp] theorem addr_SEC_SVCLEFT : R.SEC_SVCLEFT.addr = 4194312 := rfl
@[simp] theorem addr_SEC_DBGLEFT : R.SEC_DBGLEFT.addr = 4194316 := rfl
@[simp] theorem addr_SEC_CNT_QUOTE : R.SEC_CNT_QUOTE.addr = 4194320 := rfl
@[simp] theorem addr_SEC_CNT_TOKFAIL : R.SEC_CNT_TOKFAIL.addr = 4194324 := rfl
@[simp] theorem addr_SEC_CNT_DBGDENY : R.SEC_CNT_DBGDENY.addr = 4194328 := rfl
@[simp] theorem addr_SEC_OWNER_HASH (i : Nat) : (R.SEC_OWNER_HASH i).addr = 4194368 + i % 12 * 4 := rfl
@[simp] theorem addr_SEC_MS (i j : Nat) : (R.SEC_MS i j).addr = 4194560 + i % 8 * 48 + j % 12 * 4 := rfl
@[simp] theorem addr_SEC_EXTCNT (i : Nat) : (R.SEC_EXTCNT i).addr = 4194944 + i % 8 * 4 := rfl
@[simp] theorem addr_TIME_CTL : R.TIME_CTL.addr = 8388608 := rfl
@[simp] theorem addr_TIME_STAT : R.TIME_STAT.addr = 8388612 := rfl
@[simp] theorem addr_TIME_NS_LO : R.TIME_NS_LO.addr = 8388616 := rfl
@[simp] theorem addr_TIME_NS_HI : R.TIME_NS_HI.addr = 8388620 := rfl
@[simp] theorem addr_TIME_TICK_LO : R.TIME_TICK_LO.addr = 8388624 := rfl
@[simp] theorem addr_TIME_TICK_HI : R.TIME_TICK_HI.addr = 8388628 := rfl
@[simp] theorem addr_TIME_UPTIME : R.TIME_UPTIME.addr = 8388632 := rfl
@[simp] theorem addr_TIME_RATE : R.TIME_RATE.addr = 8388636 := rfl
@[simp] theorem addr_TIME_STEP_LO : R.TIME_STEP_LO.addr = 8388640 := rfl
@[simp] theorem addr_TIME_STEP_HI : R.TIME_STEP_HI.addr = 8388644 := rfl
@[simp] theorem addr_TIME_PTP_CFG : R.TIME_PTP_CFG.addr = 8388656 := rfl
@[simp] theorem addr_TIME_PTP_OFS : R.TIME_PTP_OFS.addr = 8388660 := rfl
@[simp] theorem addr_TIME_PTP_DLY : R.TIME_PTP_DLY.addr = 8388664 := rfl
@[simp] theorem addr_TIME_PTP_UTC : R.TIME_PTP_UTC.addr = 8388668 := rfl
@[simp] theorem addr_TIME_CMP_TGT (i : Nat) : (R.TIME_CMP_TGT i).addr = 8392704 + i % 64 * 32 := rfl
@[simp] theorem addr_TIME_CMP_PER (i : Nat) : (R.TIME_CMP_PER i).addr = 8392708 + i % 64 * 32 := rfl
@[simp] theorem addr_TIME_CMP_CTL (i : Nat) : (R.TIME_CMP_CTL i).addr = 8392712 + i % 64 * 32 := rfl
@[simp] theorem addr_TIME_CMP_STAT (i : Nat) : (R.TIME_CMP_STAT i).addr = 8392716 + i % 64 * 32 := rfl
@[simp] theorem addr_FAB_IMG_CTL : R.FAB_IMG_CTL.addr = 16777216 := rfl
@[simp] theorem addr_FAB_IMG_STAT : R.FAB_IMG_STAT.addr = 16777220 := rfl
@[simp] theorem addr_FAB_LOAD_ERR : R.FAB_LOAD_ERR.addr = 16777224 := rfl
@[simp] theorem addr_FAB_LOAD_IDX : R.FAB_LOAD_IDX.addr = 16777228 := rfl
@[simp] theorem addr_FAB_ACT_TIME : R.FAB_ACT_TIME.addr = 16777232 := rfl
@[simp] theorem addr_FAB_IMG_ID : R.FAB_IMG_ID.addr = 16777236 := rfl
@[simp] theorem addr_FAB_IMG_VER : R.FAB_IMG_VER.addr = 16777240 := rfl
@[simp] theorem addr_FAB_IMG_HASH (i : Nat) : (R.FAB_IMG_HASH i).addr = 16777280 + i % 12 * 4 := rfl
@[simp] theorem addr_FAB_SCHED_UTIL (i : Nat) : (R.FAB_SCHED_UTIL i).addr = 16777472 + i % 16 * 4 := rfl
@[simp] theorem addr_CE_CTL (i : Nat) : (R.CE_CTL i).addr = 33554432 + i % 16 * 1048576 := rfl
@[simp] theorem addr_CE_STAT (i : Nat) : (R.CE_STAT i).addr = 33554436 + i % 16 * 1048576 := rfl
@[simp] theorem addr_CE_FAULT (i : Nat) : (R.CE_FAULT i).addr = 33554440 + i % 16 * 1048576 := rfl
@[simp] theorem addr_CE_FAULT_PC (i : Nat) : (R.CE_FAULT_PC i).addr = 33554444 + i % 16 * 1048576 := rfl
@[simp] theorem addr_CE_FAULT_TIME (i : Nat) : (R.CE_FAULT_TIME i).addr = 33554448 + i % 16 * 1048576 := rfl
@[simp] theorem addr_CE_CNT_FAULT (i : Nat) : (R.CE_CNT_FAULT i).addr = 33554452 + i % 16 * 1048576 := rfl
@[simp] theorem addr_CE_CNT_OVR (i : Nat) : (R.CE_CNT_OVR i).addr = 33554456 + i % 16 * 1048576 := rfl
@[simp] theorem addr_CE_CNT_ECC (i : Nat) : (R.CE_CNT_ECC i).addr = 33554460 + i % 16 * 1048576 := rfl
@[simp] theorem addr_CE_CNT_STALL (i : Nat) : (R.CE_CNT_STALL i).addr = 33554464 + i % 16 * 1048576 := rfl
@[simp] theorem addr_CE_UTIL (i : Nat) : (R.CE_UTIL i).addr = 33554468 + i % 16 * 1048576 := rfl
@[simp] theorem addr_CE_TASK_SEL (i : Nat) : (R.CE_TASK_SEL i).addr = 33554496 + i % 16 * 1048576 := rfl
@[simp] theorem addr_CE_TASK_MAXCYC (i : Nat) : (R.CE_TASK_MAXCYC i).addr = 33554500 + i % 16 * 1048576 := rfl
@[simp] theorem addr_CE_TASK_MAXFIN (i : Nat) : (R.CE_TASK_MAXFIN i).addr = 33554504 + i % 16 * 1048576 := rfl
@[simp] theorem addr_CE_TASK_CNT (i : Nat) : (R.CE_TASK_CNT i).addr = 33554508 + i % 16 * 1048576 := rfl
@[simp] theorem addr_CE_MEM_ADDR (i : Nat) : (R.CE_MEM_ADDR i).addr = 33554560 + i % 16 * 1048576 := rfl
@[simp] theorem addr_CE_MEM_DATA (i : Nat) : (R.CE_MEM_DATA i).addr = 33554564 + i % 16 * 1048576 := rfl
@[simp] theorem addr_PWM_DRV_CFG (i : Nat) : (R.PWM_DRV_CFG i).addr = 50331648 + i % 8 * 16384 := rfl
@[simp] theorem addr_PWM_DRV_STAT (i : Nat) : (R.PWM_DRV_STAT i).addr = 50331652 + i % 8 * 16384 := rfl
@[simp] theorem addr_PWM_DRV_TYPE (i : Nat) : (R.PWM_DRV_TYPE i).addr = 50331656 + i % 8 * 16384 := rfl
@[simp] theorem addr_PWM_DRV_SERIAL (i : Nat) : (R.PWM_DRV_SERIAL i).addr = 50331660 + i % 8 * 16384 := rfl
@[simp] theorem addr_PWM_DRV_DTFLOOR (i : Nat) : (R.PWM_DRV_DTFLOOR i).addr = 50331664 + i % 8 * 16384 := rfl
@[simp] theorem addr_PWM_DRV_EXPTYPE (i : Nat) : (R.PWM_DRV_EXPTYPE i).addr = 50331668 + i % 8 * 16384 := rfl
@[simp] theorem addr_PWM_TRIP_CFG (i j : Nat) : (R.PWM_TRIP_CFG i j).addr = 50331680 + i % 8 * 16384 + j % 4 * 4 := rfl
@[simp] theorem addr_SD_CFG (i j : Nat) : (R.SD_CFG i j).addr = 50331904 + i % 8 * 16384 + j % 13 * 8 := rfl
@[simp] theorem addr_SD_VAL (i j : Nat) : (R.SD_VAL i j).addr = 50331908 + i % 8 * 16384 + j % 13 * 8 := rfl
@[simp] theorem addr_PWM_LEG_CFG (i j : Nat) : (R.PWM_LEG_CFG i j).addr = 50332672 + i % 8 * 16384 + j % 12 * 64 := rfl
@[simp] theorem addr_PWM_LEG_DT (i j : Nat) : (R.PWM_LEG_DT i j).addr = 50332676 + i % 8 * 16384 + j % 12 * 64 := rfl
@[simp] theorem addr_PWM_CMP_LO (i j : Nat) : (R.PWM_CMP_LO i j).addr = 50332680 + i % 8 * 16384 + j % 12 * 64 := rfl
@[simp] theorem addr_PWM_CMP_HI (i j : Nat) : (R.PWM_CMP_HI i j).addr = 50332684 + i % 8 * 16384 + j % 12 * 64 := rfl
@[simp] theorem addr_PWM_LEG_CTL (i j : Nat) : (R.PWM_LEG_CTL i j).addr = 50332688 + i % 8 * 16384 + j % 12 * 64 := rfl
@[simp] theorem addr_PWM_LEG_STAT (i j : Nat) : (R.PWM_LEG_STAT i j).addr = 50332692 + i % 8 * 16384 + j % 12 * 64 := rfl
@[simp] theorem addr_PWM_LEG_NAT (i j : Nat) : (R.PWM_LEG_NAT i j).addr = 50332696 + i % 8 * 16384 + j % 12 * 64 := rfl
@[simp] theorem addr_PWM_LEG_CNT (i j : Nat) : (R.PWM_LEG_CNT i j).addr = 50332700 + i % 8 * 16384 + j % 12 * 64 := rfl
@[simp] theorem addr_PWM_LEG_ACC (i j : Nat) : (R.PWM_LEG_ACC i j).addr = 50332704 + i % 8 * 16384 + j % 12 * 64 := rfl
@[simp] theorem addr_FBK_ENC_CFG (i : Nat) : (R.FBK_ENC_CFG i).addr = 51380224 + i % 32 * 64 := rfl
@[simp] theorem addr_FBK_ENC_SSI (i : Nat) : (R.FBK_ENC_SSI i).addr = 51380228 + i % 32 * 64 := rfl
@[simp] theorem addr_FBK_ENC_POS (i : Nat) : (R.FBK_ENC_POS i).addr = 51380232 + i % 32 * 64 := rfl
@[simp] theorem addr_FBK_ENC_PRESET (i : Nat) : (R.FBK_ENC_PRESET i).addr = 51380236 + i % 32 * 64 := rfl
@[simp] theorem addr_FBK_ENC_SPD (i : Nat) : (R.FBK_ENC_SPD i).addr = 51380240 + i % 32 * 64 := rfl
@[simp] theorem addr_FBK_ENC_SPFS (i : Nat) : (R.FBK_ENC_SPFS i).addr = 51380244 + i % 32 * 64 := rfl
@[simp] theorem addr_FBK_ENC_STAT (i : Nat) : (R.FBK_ENC_STAT i).addr = 51380248 + i % 32 * 64 := rfl
@[simp] theorem addr_FBK_ENC_CTL (i : Nat) : (R.FBK_ENC_CTL i).addr = 51380252 + i % 32 * 64 := rfl
@[simp] theorem addr_FBK_ENC_TLAST (i : Nat) : (R.FBK_ENC_TLAST i).addr = 51380256 + i % 32 * 64 := rfl
@[simp] theorem addr_FBK_PRB_CFG (i : Nat) : (R.FBK_PRB_CFG i).addr = 51384320 + i % 16 * 32 := rfl
@[simp] theorem addr_FBK_PRB_CTL (i : Nat) : (R.FBK_PRB_CTL i).addr = 51384324 + i % 16 * 32 := rfl
@[simp] theorem addr_FBK_PRB_POS (i : Nat) : (R.FBK_PRB_POS i).addr = 51384328 + i % 16 * 32 := rfl
@[simp] theorem addr_FBK_PRB_TIME (i : Nat) : (R.FBK_PRB_TIME i).addr = 51384332 + i % 16 * 32 := rfl
@[simp] theorem addr_FBK_PRB_STAT (i : Nat) : (R.FBK_PRB_STAT i).addr = 51384336 + i % 16 * 32 := rfl
@[simp] theorem addr_FBK_REM_CFG (i : Nat) : (R.FBK_REM_CFG i).addr = 51388416 + i % 256 * 16 := rfl
@[simp] theorem addr_FBK_REM_POS (i : Nat) : (R.FBK_REM_POS i).addr = 51388420 + i % 256 * 16 := rfl
@[simp] theorem addr_FBK_REM_SPD (i : Nat) : (R.FBK_REM_SPD i).addr = 51388424 + i % 256 * 16 := rfl
@[simp] theorem addr_FBK_REM_SPFS (i : Nat) : (R.FBK_REM_SPFS i).addr = 51388428 + i % 256 * 16 := rfl
@[simp] theorem addr_FBK_REM_STAT (i : Nat) : (R.FBK_REM_STAT i).addr = 51392512 + i % 256 * 4 := rfl
@[simp] theorem addr_FBK_SUP : R.FBK_SUP.addr = 51396608 := rfl
@[simp] theorem addr_AXIS_CTL (i : Nat) : (R.AXIS_CTL i).addr = 67108864 + i % 8192 * 512 := rfl
@[simp] theorem addr_AXIS_STAT (i : Nat) : (R.AXIS_STAT i).addr = 67108868 + i % 8192 * 512 := rfl
@[simp] theorem addr_AXIS_CFG (i : Nat) : (R.AXIS_CFG i).addr = 67108872 + i % 8192 * 512 := rfl
@[simp] theorem addr_AXIS_REACT (i : Nat) : (R.AXIS_REACT i).addr = 67108876 + i % 8192 * 512 := rfl
@[simp] theorem addr_AXIS_QDEC (i : Nat) : (R.AXIS_QDEC i).addr = 67108880 + i % 8192 * 512 := rfl
@[simp] theorem addr_AXIS_FELIM (i : Nat) : (R.AXIS_FELIM i).addr = 67108884 + i % 8192 * 512 := rfl
@[simp] theorem addr_AXIS_FEMAX (i : Nat) : (R.AXIS_FEMAX i).addr = 67108888 + i % 8192 * 512 := rfl
@[simp] theorem addr_AXIS_DLY_P (i : Nat) : (R.AXIS_DLY_P i).addr = 67108892 + i % 8192 * 512 := rfl
@[simp] theorem addr_AXIS_DLY_V (i : Nat) : (R.AXIS_DLY_V i).addr = 67108896 + i % 8192 * 512 := rfl
@[simp] theorem addr_AXIS_DLY_C (i : Nat) : (R.AXIS_DLY_C i).addr = 67108900 + i % 8192 * 512 := rfl
@[simp] theorem addr_AXIS_DLYMAX (i : Nat) : (R.AXIS_DLYMAX i).addr = 67108904 + i % 8192 * 512 := rfl
@[simp] theorem addr_AXIS_DLYCYC (i : Nat) : (R.AXIS_DLYCYC i).addr = 67108908 + i % 8192 * 512 := rfl
@[simp] theorem addr_AXIS_MANVAL (i : Nat) : (R.AXIS_MANVAL i).addr = 67108912 + i % 8192 * 512 := rfl
@[simp] theorem addr_AXIS_MANSLEW (i : Nat) : (R.AXIS_MANSLEW i).addr = 67108916 + i % 8192 * 512 := rfl
@[simp] theorem addr_AXIS_STBY (i : Nat) : (R.AXIS_STBY i).addr = 67108920 + i % 8192 * 512 := rfl
@[simp] theorem addr_LVL_CFG (i j : Nat) : (R.LVL_CFG i j).addr = 67108928 + i % 8192 * 512 + j % 3 * 64 := rfl
@[simp] theorem addr_LVL_KP0 (i j : Nat) : (R.LVL_KP0 i j).addr = 67108932 + i % 8192 * 512 + j % 3 * 64 := rfl
@[simp] theorem addr_LVL_KI0 (i j : Nat) : (R.LVL_KI0 i j).addr = 67108936 + i % 8192 * 512 + j % 3 * 64 := rfl
@[simp] theorem addr_LVL_KD0 (i j : Nat) : (R.LVL_KD0 i j).addr = 67108940 + i % 8192 * 512 + j % 3 * 64 := rfl
@[simp] theorem addr_LVL_ILIM0 (i j : Nat) : (R.LVL_ILIM0 i j).addr = 67108944 + i % 8192 * 512 + j % 3 * 64 := rfl
@[simp] theorem addr_LVL_KP1 (i j : Nat) : (R.LVL_KP1 i j).addr = 67108948 + i % 8192 * 512 + j % 3 * 64 := rfl
@[simp] theorem addr_LVL_KI1 (i j : Nat) : (R.LVL_KI1 i j).addr = 67108952 + i % 8192 * 512 + j % 3 * 64 := rfl
@[simp] theorem addr_LVL_KD1 (i j : Nat) : (R.LVL_KD1 i j).addr = 67108956 + i % 8192 * 512 + j % 3 * 64 := rfl
@[simp] theorem addr_LVL_ILIM1 (i j : Nat) : (R.LVL_ILIM1 i j).addr = 67108960 + i % 8192 * 512 + j % 3 * 64 := rfl
@[simp] theorem addr_LVL_DPOLE (i j : Nat) : (R.LVL_DPOLE i j).addr = 67108964 + i % 8192 * 512 + j % 3 * 64 := rfl
@[simp] theorem addr_LVL_OLIM (i j : Nat) : (R.LVL_OLIM i j).addr = 67108968 + i % 8192 * 512 + j % 3 * 64 := rfl
@[simp] theorem addr_LVL_FFA (i j : Nat) : (R.LVL_FFA i j).addr = 67108972 + i % 8192 * 512 + j % 3 * 64 := rfl
@[simp] theorem addr_LVL_FFB (i j : Nat) : (R.LVL_FFB i j).addr = 67108976 + i % 8192 * 512 + j % 3 * 64 := rfl
@[simp] theorem addr_LVL_OBS_L1 (i j : Nat) : (R.LVL_OBS_L1 i j).addr = 67108980 + i % 8192 * 512 + j % 3 * 64 := rfl
@[simp] theorem addr_LVL_OBS_L2 (i j : Nat) : (R.LVL_OBS_L2 i j).addr = 67108984 + i % 8192 * 512 + j % 3 * 64 := rfl
@[simp] theorem addr_LVL_OBS_JINV (i j : Nat) : (R.LVL_OBS_JINV i j).addr = 67108988 + i % 8192 * 512 + j % 3 * 64 := rfl
@[simp] theorem addr_FLT_CFG (i j : Nat) : (R.FLT_CFG i j).addr = 67109120 + i % 8192 * 512 + j % 8 * 28 := rfl
@[simp] theorem addr_FLT_PAR (i j : Nat) : (R.FLT_PAR i j).addr = 67109124 + i % 8192 * 512 + j % 8 * 28 := rfl
@[simp] theorem addr_FLT_B0 (i j : Nat) : (R.FLT_B0 i j).addr = 67109128 + i % 8192 * 512 + j % 8 * 28 := rfl
@[simp] theorem addr_FLT_B1 (i j : Nat) : (R.FLT_B1 i j).addr = 67109132 + i % 8192 * 512 + j % 8 * 28 := rfl
@[simp] theorem addr_FLT_B2 (i j : Nat) : (R.FLT_B2 i j).addr = 67109136 + i % 8192 * 512 + j % 8 * 28 := rfl
@[simp] theorem addr_FLT_A1 (i j : Nat) : (R.FLT_A1 i j).addr = 67109140 + i % 8192 * 512 + j % 8 * 28 := rfl
@[simp] theorem addr_FLT_A2 (i j : Nat) : (R.FLT_A2 i j).addr = 67109144 + i % 8192 * 512 + j % 8 * 28 := rfl
@[simp] theorem addr_PCFG (i : Nat) : (R.PCFG i).addr = 67109344 + i % 8192 * 512 := rfl
@[simp] theorem addr_AXIS_PA1 (i : Nat) : (R.AXIS_PA1 i).addr = 67109348 + i % 8192 * 512 := rfl
@[simp] theorem addr_AXIS_PA2 (i : Nat) : (R.AXIS_PA2 i).addr = 67109352 + i % 8192 * 512 := rfl
@[simp] theorem addr_AXIS_PB1 (i : Nat) : (R.AXIS_PB1 i).addr = 67109356 + i % 8192 * 512 := rfl
@[simp] theorem addr_AXIS_PB2 (i : Nat) : (R.AXIS_PB2 i).addr = 67109360 + i % 8192 * 512 := rfl
@[simp] theorem addr_AXIS_PLIM (i : Nat) : (R.AXIS_PLIM i).addr = 67109364 + i % 8192 * 512 := rfl
@[simp] theorem addr_AXIS_PRES (i : Nat) : (R.AXIS_PRES i).addr = 67109368 + i % 8192 * 512 := rfl
@[simp] theorem addr_AXIS_PRESMAX (i : Nat) : (R.AXIS_PRESMAX i).addr = 67109372 + i % 8192 * 512 := rfl
@[simp] theorem addr_AXIS_MOT_CTL (i : Nat) : (R.AXIS_MOT_CTL i).addr = 71303168 + i % 8192 * 128 := rfl
@[simp] theorem addr_AXIS_MOT_TGT_LO (i : Nat) : (R.AXIS_MOT_TGT_LO i).addr = 71303172 + i % 8192 * 128 := rfl
@[simp] theorem addr_AXIS_MOT_TGT_HI (i : Nat) : (R.AXIS_MOT_TGT_HI i).addr = 71303176 + i % 8192 * 128 := rfl
@[simp] theorem addr_AXIS_MOT_VMAX (i : Nat) : (R.AXIS_MOT_VMAX i).addr = 71303180 + i % 8192 * 128 := rfl
@[simp] theorem addr_AXIS_MOT_AMAX (i : Nat) : (R.AXIS_MOT_AMAX i).addr = 71303184 + i % 8192 * 128 := rfl
@[simp] theorem addr_AXIS_MOT_DMAX (i : Nat) : (R.AXIS_MOT_DMAX i).addr = 71303188 + i % 8192 * 128 := rfl
@[simp] theorem addr_AXIS_MOT_JMAX (i : Nat) : (R.AXIS_MOT_JMAX i).addr = 71303192 + i % 8192 * 128 := rfl
@[simp] theorem addr_AXIS_MOT_TVEL (i : Nat) : (R.AXIS_MOT_TVEL i).addr = 71303196 + i % 8192 * 128 := rfl
@[simp] theorem addr_AXIS_MOT_POS_LO (i : Nat) : (R.AXIS_MOT_POS_LO i).addr = 71303200 + i % 8192 * 128 := rfl
@[simp] theorem addr_AXIS_MOT_POS_HI (i : Nat) : (R.AXIS_MOT_POS_HI i).addr = 71303204 + i % 8192 * 128 := rfl
@[simp] theorem addr_AXIS_MOT_VEL (i : Nat) : (R.AXIS_MOT_VEL i).addr = 71303208 + i % 8192 * 128 := rfl
@[simp] theorem addr_AXIS_MOT_ACC (i : Nat) : (R.AXIS_MOT_ACC i).addr = 71303212 + i % 8192 * 128 := rfl
@[simp] theorem addr_AXIS_MOT_STAT (i : Nat) : (R.AXIS_MOT_STAT i).addr = 71303216 + i % 8192 * 128 := rfl
@[simp] theorem addr_AXIS_VL_MIN_LO (i : Nat) : (R.AXIS_VL_MIN_LO i).addr = 71303220 + i % 8192 * 128 := rfl
@[simp] theorem addr_AXIS_VL_MIN_HI (i : Nat) : (R.AXIS_VL_MIN_HI i).addr = 71303224 + i % 8192 * 128 := rfl
@[simp] theorem addr_AXIS_VL_MAX_LO (i : Nat) : (R.AXIS_VL_MAX_LO i).addr = 71303228 + i % 8192 * 128 := rfl
@[simp] theorem addr_AXIS_VL_MAX_HI (i : Nat) : (R.AXIS_VL_MAX_HI i).addr = 71303232 + i % 8192 * 128 := rfl
@[simp] theorem addr_AXIS_VL_CFG (i : Nat) : (R.AXIS_VL_CFG i).addr = 71303236 + i % 8192 * 128 := rfl
@[simp] theorem addr_AXIS_GEAR_CFG (i : Nat) : (R.AXIS_GEAR_CFG i).addr = 71303240 + i % 8192 * 128 := rfl
@[simp] theorem addr_AXIS_GEAR_NUM (i : Nat) : (R.AXIS_GEAR_NUM i).addr = 71303244 + i % 8192 * 128 := rfl
@[simp] theorem addr_AXIS_GEAR_DEN (i : Nat) : (R.AXIS_GEAR_DEN i).addr = 71303248 + i % 8192 * 128 := rfl
@[simp] theorem addr_AXIS_GEAR_AT_LO (i : Nat) : (R.AXIS_GEAR_AT_LO i).addr = 71303252 + i % 8192 * 128 := rfl
@[simp] theorem addr_AXIS_GEAR_AT_HI (i : Nat) : (R.AXIS_GEAR_AT_HI i).addr = 71303256 + i % 8192 * 128 := rfl
@[simp] theorem addr_AXIS_GEAR_BLEND (i : Nat) : (R.AXIS_GEAR_BLEND i).addr = 71303260 + i % 8192 * 128 := rfl
@[simp] theorem addr_AXIS_GEAR_CTL (i : Nat) : (R.AXIS_GEAR_CTL i).addr = 71303264 + i % 8192 * 128 := rfl
@[simp] theorem addr_AXIS_GEAR_FIRED_LO (i : Nat) : (R.AXIS_GEAR_FIRED_LO i).addr = 71303268 + i % 8192 * 128 := rfl
@[simp] theorem addr_AXIS_GEAR_FIRED_HI (i : Nat) : (R.AXIS_GEAR_FIRED_HI i).addr = 71303272 + i % 8192 * 128 := rfl
@[simp] theorem addr_AXIS_GEAR_CUR_NUM (i : Nat) : (R.AXIS_GEAR_CUR_NUM i).addr = 71303276 + i % 8192 * 128 := rfl
@[simp] theorem addr_AXIS_GEAR_CUR_DEN (i : Nat) : (R.AXIS_GEAR_CUR_DEN i).addr = 71303280 + i % 8192 * 128 := rfl
@[simp] theorem addr_AXIS_MOT_INPOS (i : Nat) : (R.AXIS_MOT_INPOS i).addr = 71303284 + i % 8192 * 128 := rfl
@[simp] theorem addr_TRACK_CFG (i : Nat) : (R.TRACK_CFG i).addr = 75497472 + i % 256 * 64 := rfl
@[simp] theorem addr_TRACK_STAT (i : Nat) : (R.TRACK_STAT i).addr = 75497476 + i % 256 * 64 := rfl
@[simp] theorem addr_TRACK_POS_LO (i : Nat) : (R.TRACK_POS_LO i).addr = 75497480 + i % 256 * 64 := rfl
@[simp] theorem addr_TRACK_POS_HI (i : Nat) : (R.TRACK_POS_HI i).addr = 75497484 + i % 256 * 64 := rfl
@[simp] theorem addr_TRACK_VEL (i : Nat) : (R.TRACK_VEL i).addr = 75497488 + i % 256 * 64 := rfl
@[simp] theorem addr_TRACK_ACC (i : Nat) : (R.TRACK_ACC i).addr = 75497492 + i % 256 * 64 := rfl
@[simp] theorem addr_TRACK_REV (i : Nat) : (R.TRACK_REV i).addr = 75497496 + i % 256 * 64 := rfl
@[simp] theorem addr_TRACK_TIME (i : Nat) : (R.TRACK_TIME i).addr = 75497500 + i % 256 * 64 := rfl
@[simp] theorem addr_TRACK_SET_LO (i : Nat) : (R.TRACK_SET_LO i).addr = 75497504 + i % 256 * 64 := rfl
@[simp] theorem addr_TRACK_SET_HI (i : Nat) : (R.TRACK_SET_HI i).addr = 75497508 + i % 256 * 64 := rfl
@[simp] theorem addr_TRACK_CORR (i : Nat) : (R.TRACK_CORR i).addr = 75497512 + i % 256 * 64 := rfl
@[simp] theorem addr_TRACK_CORRSLEW (i : Nat) : (R.TRACK_CORRSLEW i).addr = 75497516 + i % 256 * 64 := rfl
@[simp] theorem addr_TRACK_CORRREM (i : Nat) : (R.TRACK_CORRREM i).addr = 75497520 + i % 256 * 64 := rfl
@[simp] theorem addr_TRACK_CTL (i : Nat) : (R.TRACK_CTL i).addr = 75497524 + i % 256 * 64 := rfl
@[simp] theorem addr_VM_CTL (i : Nat) : (R.VM_CTL i).addr = 75513856 + i % 64 * 64 := rfl
@[simp] theorem addr_VM_VEL (i : Nat) : (R.VM_VEL i).addr = 75513860 + i % 64 * 64 := rfl
@[simp] theorem addr_VM_ACC (i : Nat) : (R.VM_ACC i).addr = 75513864 + i % 64 * 64 := rfl
@[simp] theorem addr_VM_POS_LO (i : Nat) : (R.VM_POS_LO i).addr = 75513868 + i % 64 * 64 := rfl
@[simp] theorem addr_VM_POS_HI (i : Nat) : (R.VM_POS_HI i).addr = 75513872 + i % 64 * 64 := rfl
@[simp] theorem addr_VM_CURVEL (i : Nat) : (R.VM_CURVEL i).addr = 75513876 + i % 64 * 64 := rfl
@[simp] theorem addr_VM_SET_LO (i : Nat) : (R.VM_SET_LO i).addr = 75513880 + i % 64 * 64 := rfl
@[simp] theorem addr_VM_SET_HI (i : Nat) : (R.VM_SET_HI i).addr = 75513884 + i % 64 * 64 := rfl
@[simp] theorem addr_ARM_CTL (i : Nat) : (R.ARM_CTL i).addr = 83886080 + i % 12 * 65536 := rfl
@[simp] theorem addr_ARM_STAT (i : Nat) : (R.ARM_STAT i).addr = 83886084 + i % 12 * 65536 := rfl
@[simp] theorem addr_ARM_CFG (i : Nat) : (R.ARM_CFG i).addr = 83886088 + i % 12 * 65536 := rfl
@[simp] theorem addr_ARM_VCART (i : Nat) : (R.ARM_VCART i).addr = 83886096 + i % 12 * 65536 := rfl
@[simp] theorem addr_ARM_WCART (i : Nat) : (R.ARM_WCART i).addr = 83886100 + i % 12 * 65536 := rfl
@[simp] theorem addr_ARM_TJ (i : Nat) : (R.ARM_TJ i).addr = 83886104 + i % 12 * 65536 := rfl
@[simp] theorem addr_ARM_THOLD (i : Nat) : (R.ARM_THOLD i).addr = 83886108 + i % 12 * 65536 := rfl
@[simp] theorem addr_ARM_SSLEW (i : Nat) : (R.ARM_SSLEW i).addr = 83886112 + i % 12 * 65536 := rfl
@[simp] theorem addr_ARM_SCALE (i : Nat) : (R.ARM_SCALE i).addr = 83886116 + i % 12 * 65536 := rfl
@[simp] theorem addr_ARM_KEFF (i : Nat) : (R.ARM_KEFF i).addr = 83886120 + i % 12 * 65536 := rfl
@[simp] theorem addr_ARM_IKCFG (i : Nat) : (R.ARM_IKCFG i).addr = 83886128 + i % 12 * 65536 := rfl
@[simp] theorem addr_ARM_IKLAM (i : Nat) : (R.ARM_IKLAM i).addr = 83886132 + i % 12 * 65536 := rfl
@[simp] theorem addr_ARM_IKTOL (i : Nat) : (R.ARM_IKTOL i).addr = 83886136 + i % 12 * 65536 := rfl
@[simp] theorem addr_ARM_NSGAIN (i : Nat) : (R.ARM_NSGAIN i).addr = 83886140 + i % 12 * 65536 := rfl
@[simp] theorem addr_ARM_SEGCUR (i : Nat) : (R.ARM_SEGCUR i).addr = 83886144 + i % 12 * 65536 := rfl
@[simp] theorem addr_ARM_SEGDONE (i : Nat) : (R.ARM_SEGDONE i).addr = 83886148 + i % 12 * 65536 := rfl
@[simp] theorem addr_ARM_TAU (i : Nat) : (R.ARM_TAU i).addr = 83886152 + i % 12 * 65536 := rfl
@[simp] theorem addr_ARM_POSE (i j : Nat) : (R.ARM_POSE i j).addr = 83886160 + i % 12 * 65536 + j % 6 * 4 := rfl
@[simp] theorem addr_ARM_IKRES (i : Nat) : (R.ARM_IKRES i).addr = 83886184 + i % 12 * 65536 := rfl
@[simp] theorem addr_ARM_SIGMA (i : Nat) : (R.ARM_SIGMA i).addr = 83886188 + i % 12 * 65536 := rfl
@[simp] theorem addr_ARM_CNT (i : Nat) : (R.ARM_CNT i).addr = 83886192 + i % 12 * 65536 := rfl
@[simp] theorem addr_ARM_QHOME (i j : Nat) : (R.ARM_QHOME i j).addr = 83886336 + i % 12 * 65536 + j % 9 * 4 := rfl
@[simp] theorem addr_TALL_CTL : R.TALL_CTL.addr = 100663296 := rfl
@[simp] theorem addr_TALL_ITEMS : R.TALL_ITEMS.addr = 100663300 := rfl
@[simp] theorem addr_TALL_ACTS : R.TALL_ACTS.addr = 100663304 := rfl
@[simp] theorem addr_TALL_PROJ_CFG : R.TALL_PROJ_CFG.addr = 100663308 := rfl
@[simp] theorem addr_TALL_CNT_FIRED : R.TALL_CNT_FIRED.addr = 100663312 := rfl
@[simp] theorem addr_TALL_CNT_LATE : R.TALL_CNT_LATE.addr = 100663316 := rfl
@[simp] theorem addr_TALL_CNT_DISC : R.TALL_CNT_DISC.addr = 100663320 := rfl
@[simp] theorem addr_TALL_CNT_DELAY : R.TALL_CNT_DELAY.addr = 100663324 := rfl
@[simp] theorem addr_TALL_CNT_DROP : R.TALL_CNT_DROP.addr = 100663328 := rfl
@[simp] theorem addr_TALL_CNT_MISS : R.TALL_CNT_MISS.addr = 100663332 := rfl
@[simp] theorem addr_TALL_CNT_TOLATE : R.TALL_CNT_TOLATE.addr = 100663336 := rfl
@[simp] theorem addr_TALL_CNT_TOBUSY : R.TALL_CNT_TOBUSY.addr = 100663340 := rfl
@[simp] theorem addr_TALL_ITEM_SEL : R.TALL_ITEM_SEL.addr = 100663360 := rfl
@[simp] theorem addr_TALL_ACT_SEL : R.TALL_ACT_SEL.addr = 100663364 := rfl
@[simp] theorem addr_TALL_ITEM_WIN (i : Nat) : (R.TALL_ITEM_WIN i).addr = 100663424 + i % 16 * 4 := rfl
@[simp] theorem addr_TALL_ACT_WIN (i : Nat) : (R.TALL_ACT_WIN i).addr = 100663488 + i % 8 * 4 := rfl
@[simp] theorem addr_TALL_TRK_CFG (i : Nat) : (R.TALL_TRK_CFG i).addr = 100728832 + i % 256 * 16 := rfl
@[simp] theorem addr_TALL_TRK_STAT (i : Nat) : (R.TALL_TRK_STAT i).addr = 100728836 + i % 256 * 16 := rfl
@[simp] theorem addr_TALL_TRK_ERRMAX (i : Nat) : (R.TALL_TRK_ERRMAX i).addr = 100728840 + i % 256 * 16 := rfl
@[simp] theorem addr_TALL_TRK_LASTERR (i : Nat) : (R.TALL_TRK_LASTERR i).addr = 100728844 + i % 256 * 16 := rfl
@[simp] theorem addr_TALL_TO_STAT (i : Nat) : (R.TALL_TO_STAT i).addr = 100794368 + i % 8192 * 16 := rfl
@[simp] theorem addr_TALL_TO_TFIRE (i : Nat) : (R.TALL_TO_TFIRE i).addr = 100794372 + i % 8192 * 16 := rfl
@[simp] theorem addr_TALL_TO_ACK (i : Nat) : (R.TALL_TO_ACK i).addr = 100794376 + i % 8192 * 16 := rfl
@[simp] theorem addr_TALL_TO_CNT (i : Nat) : (R.TALL_TO_CNT i).addr = 100794380 + i % 8192 * 16 := rfl
@[simp] theorem addr_GORSE_CTL : R.GORSE_CTL.addr = 117440512 := rfl
@[simp] theorem addr_GORSE_STAT : R.GORSE_STAT.addr = 117440516 := rfl
@[simp] theorem addr_GORSE_EVTIME : R.GORSE_EVTIME.addr = 117440520 := rfl
@[simp] theorem addr_GORSE_CNT_EVAL : R.GORSE_CNT_EVAL.addr = 117440528 := rfl
@[simp] theorem addr_GORSE_CNT_FAIL : R.GORSE_CNT_FAIL.addr = 117440532 := rfl
@[simp] theorem addr_GORSE_CNT_DUP : R.GORSE_CNT_DUP.addr = 117440536 := rfl
@[simp] theorem addr_GORSE_CNT_KAT : R.GORSE_CNT_KAT.addr = 117440540 := rfl
@[simp] theorem addr_GORSE_CNT_XCHK : R.GORSE_CNT_XCHK.addr = 117440544 := rfl
@[simp] theorem addr_GORSE_GCFG : R.GORSE_GCFG.addr = 117440560 := rfl
@[simp] theorem addr_GORSE_TOL : R.GORSE_TOL.addr = 117440564 := rfl
@[simp] theorem addr_GORSE_ARM_CFG (i : Nat) : (R.GORSE_ARM_CFG i).addr = 117444608 + i % 12 * 64 := rfl
@[simp] theorem addr_GORSE_ARM_SLOW (i : Nat) : (R.GORSE_ARM_SLOW i).addr = 117444612 + i % 12 * 64 := rfl
@[simp] theorem addr_GORSE_ARM_ZONE (i : Nat) : (R.GORSE_ARM_ZONE i).addr = 117444616 + i % 12 * 64 := rfl
@[simp] theorem addr_GORSE_ARM_STAT (i : Nat) : (R.GORSE_ARM_STAT i).addr = 117444620 + i % 12 * 64 := rfl
@[simp] theorem addr_GORSE_ARM_MARGIN (i : Nat) : (R.GORSE_ARM_MARGIN i).addr = 117444624 + i % 12 * 64 := rfl
@[simp] theorem addr_GORSE_ARM_DIST (i : Nat) : (R.GORSE_ARM_DIST i).addr = 117444628 + i % 12 * 64 := rfl
@[simp] theorem addr_GORSE_ARM_SP (i : Nat) : (R.GORSE_ARM_SP i).addr = 117444632 + i % 12 * 64 := rfl
@[simp] theorem addr_GORSE_ARM_PAIR (i : Nat) : (R.GORSE_ARM_PAIR i).addr = 117444636 + i % 12 * 64 := rfl
@[simp] theorem addr_GORSE_ARM_SPEED (i : Nat) : (R.GORSE_ARM_SPEED i).addr = 117444640 + i % 12 * 64 := rfl
@[simp] theorem addr_GORSE_ARM_CAPEN (i : Nat) : (R.GORSE_ARM_CAPEN i).addr = 117444644 + i % 12 * 64 := rfl
@[simp] theorem addr_GORSE_SEN_STAT (i : Nat) : (R.GORSE_SEN_STAT i).addr = 117448704 + i % 64 * 32 := rfl
@[simp] theorem addr_GORSE_SEN_TMEAS (i : Nat) : (R.GORSE_SEN_TMEAS i).addr = 117448708 + i % 64 * 32 := rfl
@[simp] theorem addr_LINE_CFG (i : Nat) : (R.LINE_CFG i).addr = 134217728 + i % 24 * 1048576 := rfl
@[simp] theorem addr_LINE_CTL (i : Nat) : (R.LINE_CTL i).addr = 134217732 + i % 24 * 1048576 := rfl
@[simp] theorem addr_LINE_STAT (i : Nat) : (R.LINE_STAT i).addr = 134217736 + i % 24 * 1048576 := rfl
@[simp] theorem addr_LINE_NODES (i : Nat) : (R.LINE_NODES i).addr = 134217740 + i % 24 * 1048576 := rfl
@[simp] theorem addr_LINE_LOOPDLY (i : Nat) : (R.LINE_LOOPDLY i).addr = 134217744 + i % 24 * 1048576 := rfl
@[simp] theorem addr_LINE_BREAKPOS (i : Nat) : (R.LINE_BREAKPOS i).addr = 134217748 + i % 24 * 1048576 := rfl
@[simp] theorem addr_LINE_CYCLE (i : Nat) : (R.LINE_CYCLE i).addr = 134217752 + i % 24 * 1048576 := rfl
@[simp] theorem addr_LINE_CNT_DRIFT (i : Nat) : (R.LINE_CNT_DRIFT i).addr = 134217760 + i % 24 * 1048576 := rfl
@[simp] theorem addr_LINE_CNT_DISC (i : Nat) : (R.LINE_CNT_DISC i).addr = 134217764 + i % 24 * 1048576 := rfl
@[simp] theorem addr_LINE_CNT_CRC (i : Nat) : (R.LINE_CNT_CRC i).addr = 134217768 + i % 24 * 1048576 := rfl
@[simp] theorem addr_LINE_CNT_MISS (i : Nat) : (R.LINE_CNT_MISS i).addr = 134217772 + i % 24 * 1048576 := rfl
@[simp] theorem addr_LINE_CNT_MUTE (i : Nat) : (R.LINE_CNT_MUTE i).addr = 134217776 + i % 24 * 1048576 := rfl
@[simp] theorem addr_LINE_CNT_HEAL (i : Nat) : (R.LINE_CNT_HEAL i).addr = 134217780 + i % 24 * 1048576 := rfl
@[simp] theorem addr_LINE_MARK_OFS (i j : Nat) : (R.LINE_MARK_OFS i j).addr = 134217984 + i % 24 * 1048576 + j % 16 * 8 := rfl
@[simp] theorem addr_LINE_MARK_CTL (i j : Nat) : (R.LINE_MARK_CTL i j).addr = 134217988 + i % 24 * 1048576 + j % 16 * 8 := rfl
@[simp] theorem addr_LINE_SLOT_STAT (i j : Nat) : (R.LINE_SLOT_STAT i j).addr = 134283264 + i % 24 * 1048576 + j % 6144 * 4 := rfl
@[simp] theorem addr_LINE_GCFG : R.LINE_GCFG.addr = 159383552 := rfl
@[simp] theorem addr_LINE_GSTAT : R.LINE_GSTAT.addr = 159383556 := rfl
@[simp] theorem addr_GRP_REQ (i : Nat) : (R.GRP_REQ i).addr = 159449088 + i % 256 * 16 := rfl
@[simp] theorem addr_GRP_CFG (i : Nat) : (R.GRP_CFG i).addr = 159449092 + i % 256 * 16 := rfl
@[simp] theorem addr_GRP_STAT (i : Nat) : (R.GRP_STAT i).addr = 159449096 + i % 256 * 16 := rfl
@[simp] theorem addr_GRP_SPLIT (i : Nat) : (R.GRP_SPLIT i).addr = 159449100 + i % 256 * 16 := rfl
@[simp] theorem addr_CAN_CFG (i : Nat) : (R.CAN_CFG i).addr = 167772160 + i % 8 * 65536 := rfl
@[simp] theorem addr_CAN_NBT (i : Nat) : (R.CAN_NBT i).addr = 167772164 + i % 8 * 65536 := rfl
@[simp] theorem addr_CAN_DBT (i : Nat) : (R.CAN_DBT i).addr = 167772168 + i % 8 * 65536 := rfl
@[simp] theorem addr_CAN_CTL (i : Nat) : (R.CAN_CTL i).addr = 167772172 + i % 8 * 65536 := rfl
@[simp] theorem addr_CAN_STAT (i : Nat) : (R.CAN_STAT i).addr = 167772176 + i % 8 * 65536 := rfl
@[simp] theorem addr_CAN_RATE (i : Nat) : (R.CAN_RATE i).addr = 167772180 + i % 8 * 65536 := rfl
@[simp] theorem addr_CAN_TDCV (i : Nat) : (R.CAN_TDCV i).addr = 167772184 + i % 8 * 65536 := rfl
@[simp] theorem addr_CAN_CNT_NOMATCH (i : Nat) : (R.CAN_CNT_NOMATCH i).addr = 167772192 + i % 8 * 65536 := rfl
@[simp] theorem addr_CAN_CNT_RXOVF (i : Nat) : (R.CAN_CNT_RXOVF i).addr = 167772196 + i % 8 * 65536 := rfl
@[simp] theorem addr_CAN_CNT_ACKERR (i : Nat) : (R.CAN_CNT_ACKERR i).addr = 167772200 + i % 8 * 65536 := rfl
@[simp] theorem addr_CAN_CNT_BITERR (i : Nat) : (R.CAN_CNT_BITERR i).addr = 167772204 + i % 8 * 65536 := rfl
@[simp] theorem addr_CAN_CNT_STUFF (i : Nat) : (R.CAN_CNT_STUFF i).addr = 167772208 + i % 8 * 65536 := rfl
@[simp] theorem addr_CAN_CNT_FORM (i : Nat) : (R.CAN_CNT_FORM i).addr = 167772212 + i % 8 * 65536 := rfl
@[simp] theorem addr_CAN_CNT_CRC (i : Nat) : (R.CAN_CNT_CRC i).addr = 167772216 + i % 8 * 65536 := rfl
@[simp] theorem addr_CAN_CLASH_ID (i j : Nat) : (R.CAN_CLASH_ID i j).addr = 167772224 + i % 8 * 65536 + j % 8 * 4 := rfl
@[simp] theorem addr_CAN_TXB_STAT (i j : Nat) : (R.CAN_TXB_STAT i j).addr = 167772288 + i % 8 * 65536 + j % 32 * 4 := rfl
@[simp] theorem addr_CAN_FLT_MATCH (i j : Nat) : (R.CAN_FLT_MATCH i j).addr = 167772416 + i % 8 * 65536 + j % 64 * 8 := rfl
@[simp] theorem addr_CAN_FLT_MASK (i j : Nat) : (R.CAN_FLT_MASK i j).addr = 167772420 + i % 8 * 65536 + j % 64 * 8 := rfl
@[simp] theorem addr_DIO_BANK_CFG (i : Nat) : (R.DIO_BANK_CFG i).addr = 176160768 + i % 4 * 64 := rfl
@[simp] theorem addr_DIO_BANK_STAT (i : Nat) : (R.DIO_BANK_STAT i).addr = 176160772 + i % 4 * 64 := rfl
@[simp] theorem addr_DIO_BANK_CTL (i : Nat) : (R.DIO_BANK_CTL i).addr = 176160776 + i % 4 * 64 := rfl
@[simp] theorem addr_DIO_IN (i : Nat) : (R.DIO_IN i).addr = 176160780 + i % 4 * 64 := rfl
@[simp] theorem addr_DIO_OUT (i : Nat) : (R.DIO_OUT i).addr = 176160784 + i % 4 * 64 := rfl
@[simp] theorem addr_DIO_OUT_SET (i : Nat) : (R.DIO_OUT_SET i).addr = 176160788 + i % 4 * 64 := rfl
@[simp] theorem addr_DIO_OUT_CLR (i : Nat) : (R.DIO_OUT_CLR i).addr = 176160792 + i % 4 * 64 := rfl
@[simp] theorem addr_DIO_RB (i : Nat) : (R.DIO_RB i).addr = 176160796 + i % 4 * 64 := rfl
@[simp] theorem addr_DIO_FLT_A (i : Nat) : (R.DIO_FLT_A i).addr = 176160800 + i % 4 * 64 := rfl
@[simp] theorem addr_DIO_FLT_B (i : Nat) : (R.DIO_FLT_B i).addr = 176160804 + i % 4 * 64 := rfl
@[simp] theorem addr_DIO_THCLR (i : Nat) : (R.DIO_THCLR i).addr = 176160808 + i % 4 * 64 := rfl
@[simp] theorem addr_DIO_CH_CFG (i : Nat) : (R.DIO_CH_CFG i).addr = 176164864 + i % 64 * 4 := rfl
@[simp] theorem addr_DIO_CAP_TIME (i : Nat) : (R.DIO_CAP_TIME i).addr = 176168960 + i % 64 * 8 := rfl
@[simp] theorem addr_DIO_CAP_STAT (i : Nat) : (R.DIO_CAP_STAT i).addr = 176168964 + i % 64 * 8 := rfl
@[simp] theorem addr_SAFE_STAT : R.SAFE_STAT.addr = 184549376 := rfl
@[simp] theorem addr_SAFE_CTL : R.SAFE_CTL.addr = 184549380 := rfl
@[simp] theorem addr_SAFE_SECTCRC : R.SAFE_SECTCRC.addr = 184549384 := rfl
@[simp] theorem addr_SAFE_CNT_CRC : R.SAFE_CNT_CRC.addr = 184549392 := rfl
@[simp] theorem addr_SAFE_CNT_SEQ : R.SAFE_CNT_SEQ.addr = 184549396 := rfl
@[simp] theorem addr_SAFE_CNT_REASM : R.SAFE_CNT_REASM.addr = 184549400 := rfl
@[simp] theorem addr_SAFE_CNT_DISC : R.SAFE_CNT_DISC.addr = 184549404 := rfl
@[simp] theorem addr_SAFE_SA_STAT (i : Nat) : (R.SAFE_SA_STAT i).addr = 184553472 + i % 256 * 16 := rfl
@[simp] theorem addr_SAFE_SA_POS (i : Nat) : (R.SAFE_SA_POS i).addr = 184553476 + i % 256 * 16 := rfl
@[simp] theorem addr_SAFE_SA_VEL (i : Nat) : (R.SAFE_SA_VEL i).addr = 184553480 + i % 256 * 16 := rfl
@[simp] theorem addr_SAFE_SA_DEV (i : Nat) : (R.SAFE_SA_DEV i).addr = 184553484 + i % 256 * 16 := rfl
@[simp] theorem addr_SAFE_IN (i : Nat) : (R.SAFE_IN i).addr = 184557568 + i % 16 * 4 := rfl
@[simp] theorem addr_SAFE_CONN_STAT (i : Nat) : (R.SAFE_CONN_STAT i).addr = 184561664 + i % 256 * 16 := rfl
@[simp] theorem addr_SAFE_CONN_TIME (i : Nat) : (R.SAFE_CONN_TIME i).addr = 184561668 + i % 256 * 16 := rfl
@[simp] theorem addr_SAFE_CONN_CNT (i : Nat) : (R.SAFE_CONN_CNT i).addr = 184561672 + i % 256 * 16 := rfl
@[simp] theorem addr_SAFE_FN (i : Nat) : (R.SAFE_FN i).addr = 184565760 + i % 128 * 4 := rfl
@[simp] theorem addr_CAP_CTL : R.CAP_CTL.addr = 201326592 := rfl
@[simp] theorem addr_CAP_CFG : R.CAP_CFG.addr = 201326596 := rfl
@[simp] theorem addr_CAP_LEN : R.CAP_LEN.addr = 201326600 := rfl
@[simp] theorem addr_CAP_PRE : R.CAP_PRE.addr = 201326604 := rfl
@[simp] theorem addr_CAP_NREC : R.CAP_NREC.addr = 201326608 := rfl
@[simp] theorem addr_CAP_AUTO : R.CAP_AUTO.addr = 201326612 := rfl
@[simp] theorem addr_CAP_MEMSIZE : R.CAP_MEMSIZE.addr = 201326616 := rfl
@[simp] theorem addr_CAP_STAT : R.CAP_STAT.addr = 201326620 := rfl
@[simp] theorem addr_CAP_CNT_DROP : R.CAP_CNT_DROP.addr = 201326624 := rfl
@[simp] theorem addr_CAP_CNT_HALF : R.CAP_CNT_HALF.addr = 201326628 := rfl
@[simp] theorem addr_CAP_STOL : R.CAP_STOL.addr = 201326632 := rfl
@[simp] theorem addr_CAP_TRIGMAP : R.CAP_TRIGMAP.addr = 201326636 := rfl
@[simp] theorem addr_CAP_CH (i : Nat) : (R.CAP_CH i).addr = 201326848 + i % 128 * 4 := rfl
@[simp] theorem addr_CAP_RAW (i : Nat) : (R.CAP_RAW i).addr = 201327360 + i % 16 * 4 := rfl
@[simp] theorem addr_CAP_TRIG_CFG (i : Nat) : (R.CAP_TRIG_CFG i).addr = 201327616 + i % 32 * 16 := rfl
@[simp] theorem addr_CAP_TRIG_LEVEL (i : Nat) : (R.CAP_TRIG_LEVEL i).addr = 201327620 + i % 32 * 16 := rfl
@[simp] theorem addr_CAP_TRIG_LEVEL2 (i : Nat) : (R.CAP_TRIG_LEVEL2 i).addr = 201327624 + i % 32 * 16 := rfl
@[simp] theorem addr_CAP_TRIG_STAMP (i : Nat) : (R.CAP_TRIG_STAMP i).addr = 201327628 + i % 32 * 16 := rfl
@[simp] theorem addr_EVT_CTL : R.EVT_CTL.addr = 209715200 := rfl
@[simp] theorem addr_EVT_CFG : R.EVT_CFG.addr = 209715204 := rfl
@[simp] theorem addr_EVT_STAT : R.EVT_STAT.addr = 209715208 := rfl
@[simp] theorem addr_EVT_OLDEST : R.EVT_OLDEST.addr = 209715212 := rfl
@[simp] theorem addr_EVT_NEWEST : R.EVT_NEWEST.addr = 209715216 := rfl
@[simp] theorem addr_EVT_COUNT : R.EVT_COUNT.addr = 209715220 := rfl
@[simp] theorem addr_EVT_BOOTNO : R.EVT_BOOTNO.addr = 209715224 := rfl
@[simp] theorem addr_EVT_LGCOUNT : R.EVT_LGCOUNT.addr = 209715228 := rfl
@[simp] theorem addr_EVT_OVF (i : Nat) : (R.EVT_OVF i).addr = 209715232 + i % 8 * 4 := rfl
@[simp] theorem addr_EVT_CURSOR : R.EVT_CURSOR.addr = 209715264 := rfl
@[simp] theorem addr_EVT_CNT_LOST : R.EVT_CNT_LOST.addr = 209715268 := rfl
@[simp] theorem addr_EVT_CNT_TORN : R.EVT_CNT_TORN.addr = 209715272 := rfl
@[simp] theorem addr_EVT_REGMAP (i : Nat) : (R.EVT_REGMAP i).addr = 209715328 + i % 16 * 4 := rfl
@[simp] theorem addr_EVT_WIN (i j : Nat) : (R.EVT_WIN i j).addr = 209716224 + i % 16 * 64 + j % 16 * 4 := rfl
@[simp] theorem addr_PAIR_CFG : R.PAIR_CFG.addr = 218103808 := rfl
@[simp] theorem addr_PAIR_CTL : R.PAIR_CTL.addr = 218103812 := rfl
@[simp] theorem addr_PAIR_STAT : R.PAIR_STAT.addr = 218103816 := rfl
@[simp] theorem addr_PAIR_MPOINT_LO : R.PAIR_MPOINT_LO.addr = 218103824 := rfl
@[simp] theorem addr_PAIR_MPOINT_HI : R.PAIR_MPOINT_HI.addr = 218103828 := rfl
@[simp] theorem addr_PAIR_PEER_SERIAL : R.PAIR_PEER_SERIAL.addr = 218103832 := rfl
@[simp] theorem addr_PAIR_LINKDLY : R.PAIR_LINKDLY.addr = 218103836 := rfl
@[simp] theorem addr_PAIR_TKO_TIME : R.PAIR_TKO_TIME.addr = 218103840 := rfl
@[simp] theorem addr_PAIR_TKO_CNT : R.PAIR_TKO_CNT.addr = 218103844 := rfl
@[simp] theorem addr_PAIR_CNT_RETX : R.PAIR_CNT_RETX.addr = 218103856 := rfl
@[simp] theorem addr_PAIR_CNT_GAP : R.PAIR_CNT_GAP.addr = 218103860 := rfl
@[simp] theorem addr_PAIR_CNT_RESYNC : R.PAIR_CNT_RESYNC.addr = 218103864 := rfl
@[simp] theorem addr_PAIR_CNT_WARN : R.PAIR_CNT_WARN.addr = 218103868 := rfl
@[simp] theorem addr_HOST_CFG : R.HOST_CFG.addr = 234881024 := rfl
@[simp] theorem addr_HOST_CFG2 : R.HOST_CFG2.addr = 234881028 := rfl
@[simp] theorem addr_HOST_CTL : R.HOST_CTL.addr = 234881032 := rfl
@[simp] theorem addr_HOST_STAT : R.HOST_STAT.addr = 234881036 := rfl
@[simp] theorem addr_HOST_P_MAC_LO (i : Nat) : (R.HOST_P_MAC_LO i).addr = 234881280 + i % 2 * 128 := rfl
@[simp] theorem addr_HOST_P_MAC_HI (i : Nat) : (R.HOST_P_MAC_HI i).addr = 234881284 + i % 2 * 128 := rfl
@[simp] theorem addr_HOST_P_IP4 (i : Nat) : (R.HOST_P_IP4 i).addr = 234881288 + i % 2 * 128 := rfl
@[simp] theorem addr_HOST_P_IP4PFX (i : Nat) : (R.HOST_P_IP4PFX i).addr = 234881292 + i % 2 * 128 := rfl
@[simp] theorem addr_HOST_P_IP4GW (i : Nat) : (R.HOST_P_IP4GW i).addr = 234881296 + i % 2 * 128 := rfl
@[simp] theorem addr_HOST_P_IP6 (i j : Nat) : (R.HOST_P_IP6 i j).addr = 234881312 + i % 2 * 128 + j % 4 * 4 := rfl
@[simp] theorem addr_HOST_P_IP6PFX (i : Nat) : (R.HOST_P_IP6PFX i).addr = 234881328 + i % 2 * 128 := rfl
@[simp] theorem addr_HOST_P_CNT_RX (i : Nat) : (R.HOST_P_CNT_RX i).addr = 234881344 + i % 2 * 128 := rfl
@[simp] theorem addr_HOST_P_CNT_TX (i : Nat) : (R.HOST_P_CNT_TX i).addr = 234881348 + i % 2 * 128 := rfl
@[simp] theorem addr_HOST_P_CNT_DROP (i : Nat) : (R.HOST_P_CNT_DROP i).addr = 234881352 + i % 2 * 128 := rfl
@[simp] theorem addr_HOST_S_STAT (i : Nat) : (R.HOST_S_STAT i).addr = 234881536 + i % 4 * 32 := rfl
@[simp] theorem addr_HOST_S_DROP (i : Nat) : (R.HOST_S_DROP i).addr = 234881540 + i % 4 * 32 := rfl
@[simp] theorem addr_HOST_S_REJ (i : Nat) : (R.HOST_S_REJ i).addr = 234881544 + i % 4 * 32 := rfl
@[simp] theorem addr_HOST_S_RETX (i : Nat) : (R.HOST_S_RETX i).addr = 234881548 + i % 4 * 32 := rfl
@[simp] theorem addr_HOST_Q_CFG (i : Nat) : (R.HOST_Q_CFG i).addr = 234885120 + i % 128 * 16 := rfl
@[simp] theorem addr_HOST_Q_POS (i : Nat) : (R.HOST_Q_POS i).addr = 234885124 + i % 128 * 16 := rfl
@[simp] theorem addr_HOST_Q_ACK (i : Nat) : (R.HOST_Q_ACK i).addr = 234885128 + i % 128 * 16 := rfl
@[simp] theorem addr_HOST_Q_CNT (i : Nat) : (R.HOST_Q_CNT i).addr = 234885132 + i % 128 * 16 := rfl

end Sys2Proof.Machine
end

