-- ==== Sys2Proof/Laws/State.lean ====
section
/-! SUPPORT. What each update of the device leaves as it is, one lemma per field and update, so that no proof unfolds a record update. -/

namespace Sys2Proof.Machine

open Sys2Proof

variable (d : Dev)

/-! ### setReg -/

@[simp] theorem Dev.setReg_clk (r : Reg) (w : Word) : (d.setReg r w).clk = d.clk := rfl
@[simp] theorem Dev.setReg_fresh (r : Reg) (w : Word) : (d.setReg r w).fresh = d.fresh := rfl
@[simp] theorem Dev.setReg_w1c (r : Reg) (w : Word) : (d.setReg r w).w1c = d.w1c := rfl
@[simp] theorem Dev.setReg_fil (r : Reg) (w : Word) : (d.setReg r w).fil = d.fil := rfl
@[simp] theorem Dev.setReg_out (r : Reg) (w : Word) : (d.setReg r w).out = d.out := rfl
@[simp] theorem Dev.setReg_evq (r : Reg) (w : Word) : (d.setReg r w).evq = d.evq := rfl
@[simp] theorem Dev.setReg_time (r : Reg) (w : Word) : (d.setReg r w).time = d.time := rfl
@[simp] theorem Dev.setReg_bureau (r : Reg) (w : Word) : (d.setReg r w).bureau = d.bureau := rfl
@[simp] theorem Dev.setReg_host (r : Reg) (w : Word) : (d.setReg r w).host = d.host := rfl
@[simp] theorem Dev.setReg_cap (r : Reg) (w : Word) : (d.setReg r w).cap = d.cap := rfl
@[simp] theorem Dev.setReg_loader (r : Reg) (w : Word) : (d.setReg r w).loader = d.loader := rfl
@[simp] theorem Dev.setReg_line (r : Reg) (w : Word) : (d.setReg r w).line = d.line := rfl
@[simp] theorem Dev.setReg_engs (r : Reg) (w : Word) : (d.setReg r w).engs = d.engs := rfl
@[simp] theorem Dev.setReg_axs (r : Reg) (w : Word) : (d.setReg r w).axs = d.axs := rfl
@[simp] theorem Dev.setReg_pwm (r : Reg) (w : Word) : (d.setReg r w).pwm = d.pwm := rfl
@[simp] theorem Dev.setReg_fbk (r : Reg) (w : Word) : (d.setReg r w).fbk = d.fbk := rfl
@[simp] theorem Dev.setReg_mot (r : Reg) (w : Word) : (d.setReg r w).mot = d.mot := rfl
@[simp] theorem Dev.setReg_arms (r : Reg) (w : Word) : (d.setReg r w).arms = d.arms := rfl
@[simp] theorem Dev.setReg_dio (r : Reg) (w : Word) : (d.setReg r w).dio = d.dio := rfl
@[simp] theorem Dev.setReg_tall (r : Reg) (w : Word) : (d.setReg r w).tall = d.tall := rfl
@[simp] theorem Dev.setReg_gorse (r : Reg) (w : Word) : (d.setReg r w).gorse = d.gorse := rfl
@[simp] theorem Dev.setReg_safe (r : Reg) (w : Word) : (d.setReg r w).safe = d.safe := rfl
@[simp] theorem Dev.setReg_can (r : Reg) (w : Word) : (d.setReg r w).can = d.can := rfl
@[simp] theorem Dev.setReg_duo (r : Reg) (w : Word) : (d.setReg r w).duo = d.duo := rfl
@[simp] theorem Dev.setReg_link (r : Reg) (w : Word) : (d.setReg r w).link = d.link := rfl
@[simp] theorem Dev.setReg_sec (r : Reg) (w : Word) : (d.setReg r w).sec = d.sec := rfl
@[simp] theorem Dev.setReg_pwr (r : Reg) (w : Word) : (d.setReg r w).pwr = d.pwr := rfl
@[simp] theorem Dev.setReg_sys (r : Reg) (w : Word) : (d.setReg r w).sys = d.sys := rfl

/-! ### setFld -/

@[simp] theorem Dev.setFld_clk (r : Reg) (f : Fld) (v : Nat) : (d.setFld r f v).clk = d.clk := rfl
@[simp] theorem Dev.setFld_fresh (r : Reg) (f : Fld) (v : Nat) : (d.setFld r f v).fresh = d.fresh := rfl
@[simp] theorem Dev.setFld_w1c (r : Reg) (f : Fld) (v : Nat) : (d.setFld r f v).w1c = d.w1c := rfl
@[simp] theorem Dev.setFld_fil (r : Reg) (f : Fld) (v : Nat) : (d.setFld r f v).fil = d.fil := rfl
@[simp] theorem Dev.setFld_out (r : Reg) (f : Fld) (v : Nat) : (d.setFld r f v).out = d.out := rfl
@[simp] theorem Dev.setFld_evq (r : Reg) (f : Fld) (v : Nat) : (d.setFld r f v).evq = d.evq := rfl
@[simp] theorem Dev.setFld_time (r : Reg) (f : Fld) (v : Nat) : (d.setFld r f v).time = d.time := rfl
@[simp] theorem Dev.setFld_bureau (r : Reg) (f : Fld) (v : Nat) : (d.setFld r f v).bureau = d.bureau := rfl
@[simp] theorem Dev.setFld_host (r : Reg) (f : Fld) (v : Nat) : (d.setFld r f v).host = d.host := rfl
@[simp] theorem Dev.setFld_cap (r : Reg) (f : Fld) (v : Nat) : (d.setFld r f v).cap = d.cap := rfl
@[simp] theorem Dev.setFld_loader (r : Reg) (f : Fld) (v : Nat) : (d.setFld r f v).loader = d.loader := rfl
@[simp] theorem Dev.setFld_line (r : Reg) (f : Fld) (v : Nat) : (d.setFld r f v).line = d.line := rfl
@[simp] theorem Dev.setFld_engs (r : Reg) (f : Fld) (v : Nat) : (d.setFld r f v).engs = d.engs := rfl
@[simp] theorem Dev.setFld_axs (r : Reg) (f : Fld) (v : Nat) : (d.setFld r f v).axs = d.axs := rfl
@[simp] theorem Dev.setFld_pwm (r : Reg) (f : Fld) (v : Nat) : (d.setFld r f v).pwm = d.pwm := rfl
@[simp] theorem Dev.setFld_fbk (r : Reg) (f : Fld) (v : Nat) : (d.setFld r f v).fbk = d.fbk := rfl
@[simp] theorem Dev.setFld_mot (r : Reg) (f : Fld) (v : Nat) : (d.setFld r f v).mot = d.mot := rfl
@[simp] theorem Dev.setFld_arms (r : Reg) (f : Fld) (v : Nat) : (d.setFld r f v).arms = d.arms := rfl
@[simp] theorem Dev.setFld_dio (r : Reg) (f : Fld) (v : Nat) : (d.setFld r f v).dio = d.dio := rfl
@[simp] theorem Dev.setFld_tall (r : Reg) (f : Fld) (v : Nat) : (d.setFld r f v).tall = d.tall := rfl
@[simp] theorem Dev.setFld_gorse (r : Reg) (f : Fld) (v : Nat) : (d.setFld r f v).gorse = d.gorse := rfl
@[simp] theorem Dev.setFld_safe (r : Reg) (f : Fld) (v : Nat) : (d.setFld r f v).safe = d.safe := rfl
@[simp] theorem Dev.setFld_can (r : Reg) (f : Fld) (v : Nat) : (d.setFld r f v).can = d.can := rfl
@[simp] theorem Dev.setFld_duo (r : Reg) (f : Fld) (v : Nat) : (d.setFld r f v).duo = d.duo := rfl
@[simp] theorem Dev.setFld_link (r : Reg) (f : Fld) (v : Nat) : (d.setFld r f v).link = d.link := rfl
@[simp] theorem Dev.setFld_sec (r : Reg) (f : Fld) (v : Nat) : (d.setFld r f v).sec = d.sec := rfl
@[simp] theorem Dev.setFld_pwr (r : Reg) (f : Fld) (v : Nat) : (d.setFld r f v).pwr = d.pwr := rfl
@[simp] theorem Dev.setFld_sys (r : Reg) (f : Fld) (v : Nat) : (d.setFld r f v).sys = d.sys := rfl

/-! ### clearReg -/

@[simp] theorem Dev.clearReg_clk (r : Reg) : (d.clearReg r).clk = d.clk := rfl
@[simp] theorem Dev.clearReg_fresh (r : Reg) : (d.clearReg r).fresh = d.fresh := rfl
@[simp] theorem Dev.clearReg_w1c (r : Reg) : (d.clearReg r).w1c = d.w1c := rfl
@[simp] theorem Dev.clearReg_fil (r : Reg) : (d.clearReg r).fil = d.fil := rfl
@[simp] theorem Dev.clearReg_out (r : Reg) : (d.clearReg r).out = d.out := rfl
@[simp] theorem Dev.clearReg_evq (r : Reg) : (d.clearReg r).evq = d.evq := rfl
@[simp] theorem Dev.clearReg_time (r : Reg) : (d.clearReg r).time = d.time := rfl
@[simp] theorem Dev.clearReg_bureau (r : Reg) : (d.clearReg r).bureau = d.bureau := rfl
@[simp] theorem Dev.clearReg_host (r : Reg) : (d.clearReg r).host = d.host := rfl
@[simp] theorem Dev.clearReg_cap (r : Reg) : (d.clearReg r).cap = d.cap := rfl
@[simp] theorem Dev.clearReg_loader (r : Reg) : (d.clearReg r).loader = d.loader := rfl
@[simp] theorem Dev.clearReg_line (r : Reg) : (d.clearReg r).line = d.line := rfl
@[simp] theorem Dev.clearReg_engs (r : Reg) : (d.clearReg r).engs = d.engs := rfl
@[simp] theorem Dev.clearReg_axs (r : Reg) : (d.clearReg r).axs = d.axs := rfl
@[simp] theorem Dev.clearReg_pwm (r : Reg) : (d.clearReg r).pwm = d.pwm := rfl
@[simp] theorem Dev.clearReg_fbk (r : Reg) : (d.clearReg r).fbk = d.fbk := rfl
@[simp] theorem Dev.clearReg_mot (r : Reg) : (d.clearReg r).mot = d.mot := rfl
@[simp] theorem Dev.clearReg_arms (r : Reg) : (d.clearReg r).arms = d.arms := rfl
@[simp] theorem Dev.clearReg_dio (r : Reg) : (d.clearReg r).dio = d.dio := rfl
@[simp] theorem Dev.clearReg_tall (r : Reg) : (d.clearReg r).tall = d.tall := rfl
@[simp] theorem Dev.clearReg_gorse (r : Reg) : (d.clearReg r).gorse = d.gorse := rfl
@[simp] theorem Dev.clearReg_safe (r : Reg) : (d.clearReg r).safe = d.safe := rfl
@[simp] theorem Dev.clearReg_can (r : Reg) : (d.clearReg r).can = d.can := rfl
@[simp] theorem Dev.clearReg_duo (r : Reg) : (d.clearReg r).duo = d.duo := rfl
@[simp] theorem Dev.clearReg_link (r : Reg) : (d.clearReg r).link = d.link := rfl
@[simp] theorem Dev.clearReg_sec (r : Reg) : (d.clearReg r).sec = d.sec := rfl
@[simp] theorem Dev.clearReg_pwr (r : Reg) : (d.clearReg r).pwr = d.pwr := rfl
@[simp] theorem Dev.clearReg_sys (r : Reg) : (d.clearReg r).sys = d.sys := rfl

/-! ### bump -/

@[simp] theorem Dev.bump_clk (r : Reg) (f : Fld) (n : Nat) : (d.bump r f n).clk = d.clk := rfl
@[simp] theorem Dev.bump_fresh (r : Reg) (f : Fld) (n : Nat) : (d.bump r f n).fresh = d.fresh := rfl
@[simp] theorem Dev.bump_w1c (r : Reg) (f : Fld) (n : Nat) : (d.bump r f n).w1c = d.w1c := rfl
@[simp] theorem Dev.bump_fil (r : Reg) (f : Fld) (n : Nat) : (d.bump r f n).fil = d.fil := rfl
@[simp] theorem Dev.bump_out (r : Reg) (f : Fld) (n : Nat) : (d.bump r f n).out = d.out := rfl
@[simp] theorem Dev.bump_evq (r : Reg) (f : Fld) (n : Nat) : (d.bump r f n).evq = d.evq := rfl
@[simp] theorem Dev.bump_time (r : Reg) (f : Fld) (n : Nat) : (d.bump r f n).time = d.time := rfl
@[simp] theorem Dev.bump_bureau (r : Reg) (f : Fld) (n : Nat) : (d.bump r f n).bureau = d.bureau := rfl
@[simp] theorem Dev.bump_host (r : Reg) (f : Fld) (n : Nat) : (d.bump r f n).host = d.host := rfl
@[simp] theorem Dev.bump_cap (r : Reg) (f : Fld) (n : Nat) : (d.bump r f n).cap = d.cap := rfl
@[simp] theorem Dev.bump_loader (r : Reg) (f : Fld) (n : Nat) : (d.bump r f n).loader = d.loader := rfl
@[simp] theorem Dev.bump_line (r : Reg) (f : Fld) (n : Nat) : (d.bump r f n).line = d.line := rfl
@[simp] theorem Dev.bump_engs (r : Reg) (f : Fld) (n : Nat) : (d.bump r f n).engs = d.engs := rfl
@[simp] theorem Dev.bump_axs (r : Reg) (f : Fld) (n : Nat) : (d.bump r f n).axs = d.axs := rfl
@[simp] theorem Dev.bump_pwm (r : Reg) (f : Fld) (n : Nat) : (d.bump r f n).pwm = d.pwm := rfl
@[simp] theorem Dev.bump_fbk (r : Reg) (f : Fld) (n : Nat) : (d.bump r f n).fbk = d.fbk := rfl
@[simp] theorem Dev.bump_mot (r : Reg) (f : Fld) (n : Nat) : (d.bump r f n).mot = d.mot := rfl
@[simp] theorem Dev.bump_arms (r : Reg) (f : Fld) (n : Nat) : (d.bump r f n).arms = d.arms := rfl
@[simp] theorem Dev.bump_dio (r : Reg) (f : Fld) (n : Nat) : (d.bump r f n).dio = d.dio := rfl
@[simp] theorem Dev.bump_tall (r : Reg) (f : Fld) (n : Nat) : (d.bump r f n).tall = d.tall := rfl
@[simp] theorem Dev.bump_gorse (r : Reg) (f : Fld) (n : Nat) : (d.bump r f n).gorse = d.gorse := rfl
@[simp] theorem Dev.bump_safe (r : Reg) (f : Fld) (n : Nat) : (d.bump r f n).safe = d.safe := rfl
@[simp] theorem Dev.bump_can (r : Reg) (f : Fld) (n : Nat) : (d.bump r f n).can = d.can := rfl
@[simp] theorem Dev.bump_duo (r : Reg) (f : Fld) (n : Nat) : (d.bump r f n).duo = d.duo := rfl
@[simp] theorem Dev.bump_link (r : Reg) (f : Fld) (n : Nat) : (d.bump r f n).link = d.link := rfl
@[simp] theorem Dev.bump_sec (r : Reg) (f : Fld) (n : Nat) : (d.bump r f n).sec = d.sec := rfl
@[simp] theorem Dev.bump_pwr (r : Reg) (f : Fld) (n : Nat) : (d.bump r f n).pwr = d.pwr := rfl
@[simp] theorem Dev.bump_sys (r : Reg) (f : Fld) (n : Nat) : (d.bump r f n).sys = d.sys := rfl

/-! ### inc -/

@[simp] theorem Dev.inc_clk (r : Reg) : (d.inc r).clk = d.clk := rfl
@[simp] theorem Dev.inc_fresh (r : Reg) : (d.inc r).fresh = d.fresh := rfl
@[simp] theorem Dev.inc_w1c (r : Reg) : (d.inc r).w1c = d.w1c := rfl
@[simp] theorem Dev.inc_fil (r : Reg) : (d.inc r).fil = d.fil := rfl
@[simp] theorem Dev.inc_out (r : Reg) : (d.inc r).out = d.out := rfl
@[simp] theorem Dev.inc_evq (r : Reg) : (d.inc r).evq = d.evq := rfl
@[simp] theorem Dev.inc_time (r : Reg) : (d.inc r).time = d.time := rfl
@[simp] theorem Dev.inc_bureau (r : Reg) : (d.inc r).bureau = d.bureau := rfl
@[simp] theorem Dev.inc_host (r : Reg) : (d.inc r).host = d.host := rfl
@[simp] theorem Dev.inc_cap (r : Reg) : (d.inc r).cap = d.cap := rfl
@[simp] theorem Dev.inc_loader (r : Reg) : (d.inc r).loader = d.loader := rfl
@[simp] theorem Dev.inc_line (r : Reg) : (d.inc r).line = d.line := rfl
@[simp] theorem Dev.inc_engs (r : Reg) : (d.inc r).engs = d.engs := rfl
@[simp] theorem Dev.inc_axs (r : Reg) : (d.inc r).axs = d.axs := rfl
@[simp] theorem Dev.inc_pwm (r : Reg) : (d.inc r).pwm = d.pwm := rfl
@[simp] theorem Dev.inc_fbk (r : Reg) : (d.inc r).fbk = d.fbk := rfl
@[simp] theorem Dev.inc_mot (r : Reg) : (d.inc r).mot = d.mot := rfl
@[simp] theorem Dev.inc_arms (r : Reg) : (d.inc r).arms = d.arms := rfl
@[simp] theorem Dev.inc_dio (r : Reg) : (d.inc r).dio = d.dio := rfl
@[simp] theorem Dev.inc_tall (r : Reg) : (d.inc r).tall = d.tall := rfl
@[simp] theorem Dev.inc_gorse (r : Reg) : (d.inc r).gorse = d.gorse := rfl
@[simp] theorem Dev.inc_safe (r : Reg) : (d.inc r).safe = d.safe := rfl
@[simp] theorem Dev.inc_can (r : Reg) : (d.inc r).can = d.can := rfl
@[simp] theorem Dev.inc_duo (r : Reg) : (d.inc r).duo = d.duo := rfl
@[simp] theorem Dev.inc_link (r : Reg) : (d.inc r).link = d.link := rfl
@[simp] theorem Dev.inc_sec (r : Reg) : (d.inc r).sec = d.sec := rfl
@[simp] theorem Dev.inc_pwr (r : Reg) : (d.inc r).pwr = d.pwr := rfl
@[simp] theorem Dev.inc_sys (r : Reg) : (d.inc r).sys = d.sys := rfl

/-! ### setRegI -/

@[simp] theorem Dev.setRegI_clk (r : Reg) (x : Int) : (d.setRegI r x).clk = d.clk := rfl
@[simp] theorem Dev.setRegI_fresh (r : Reg) (x : Int) : (d.setRegI r x).fresh = d.fresh := rfl
@[simp] theorem Dev.setRegI_w1c (r : Reg) (x : Int) : (d.setRegI r x).w1c = d.w1c := rfl
@[simp] theorem Dev.setRegI_fil (r : Reg) (x : Int) : (d.setRegI r x).fil = d.fil := rfl
@[simp] theorem Dev.setRegI_out (r : Reg) (x : Int) : (d.setRegI r x).out = d.out := rfl
@[simp] theorem Dev.setRegI_evq (r : Reg) (x : Int) : (d.setRegI r x).evq = d.evq := rfl
@[simp] theorem Dev.setRegI_time (r : Reg) (x : Int) : (d.setRegI r x).time = d.time := rfl
@[simp] theorem Dev.setRegI_bureau (r : Reg) (x : Int) : (d.setRegI r x).bureau = d.bureau := rfl
@[simp] theorem Dev.setRegI_host (r : Reg) (x : Int) : (d.setRegI r x).host = d.host := rfl
@[simp] theorem Dev.setRegI_cap (r : Reg) (x : Int) : (d.setRegI r x).cap = d.cap := rfl
@[simp] theorem Dev.setRegI_loader (r : Reg) (x : Int) : (d.setRegI r x).loader = d.loader := rfl
@[simp] theorem Dev.setRegI_line (r : Reg) (x : Int) : (d.setRegI r x).line = d.line := rfl
@[simp] theorem Dev.setRegI_engs (r : Reg) (x : Int) : (d.setRegI r x).engs = d.engs := rfl
@[simp] theorem Dev.setRegI_axs (r : Reg) (x : Int) : (d.setRegI r x).axs = d.axs := rfl
@[simp] theorem Dev.setRegI_pwm (r : Reg) (x : Int) : (d.setRegI r x).pwm = d.pwm := rfl
@[simp] theorem Dev.setRegI_fbk (r : Reg) (x : Int) : (d.setRegI r x).fbk = d.fbk := rfl
@[simp] theorem Dev.setRegI_mot (r : Reg) (x : Int) : (d.setRegI r x).mot = d.mot := rfl
@[simp] theorem Dev.setRegI_arms (r : Reg) (x : Int) : (d.setRegI r x).arms = d.arms := rfl
@[simp] theorem Dev.setRegI_dio (r : Reg) (x : Int) : (d.setRegI r x).dio = d.dio := rfl
@[simp] theorem Dev.setRegI_tall (r : Reg) (x : Int) : (d.setRegI r x).tall = d.tall := rfl
@[simp] theorem Dev.setRegI_gorse (r : Reg) (x : Int) : (d.setRegI r x).gorse = d.gorse := rfl
@[simp] theorem Dev.setRegI_safe (r : Reg) (x : Int) : (d.setRegI r x).safe = d.safe := rfl
@[simp] theorem Dev.setRegI_can (r : Reg) (x : Int) : (d.setRegI r x).can = d.can := rfl
@[simp] theorem Dev.setRegI_duo (r : Reg) (x : Int) : (d.setRegI r x).duo = d.duo := rfl
@[simp] theorem Dev.setRegI_link (r : Reg) (x : Int) : (d.setRegI r x).link = d.link := rfl
@[simp] theorem Dev.setRegI_sec (r : Reg) (x : Int) : (d.setRegI r x).sec = d.sec := rfl
@[simp] theorem Dev.setRegI_pwr (r : Reg) (x : Int) : (d.setRegI r x).pwr = d.pwr := rfl
@[simp] theorem Dev.setRegI_sys (r : Reg) (x : Int) : (d.setRegI r x).sys = d.sys := rfl

/-! ### setPair -/

@[simp] theorem Dev.setPair_clk (lo hi : Reg) (x : Int) : (d.setPair lo hi x).clk = d.clk := rfl
@[simp] theorem Dev.setPair_fresh (lo hi : Reg) (x : Int) : (d.setPair lo hi x).fresh = d.fresh := rfl
@[simp] theorem Dev.setPair_w1c (lo hi : Reg) (x : Int) : (d.setPair lo hi x).w1c = d.w1c := rfl
@[simp] theorem Dev.setPair_fil (lo hi : Reg) (x : Int) : (d.setPair lo hi x).fil = d.fil := rfl
@[simp] theorem Dev.setPair_out (lo hi : Reg) (x : Int) : (d.setPair lo hi x).out = d.out := rfl
@[simp] theorem Dev.setPair_evq (lo hi : Reg) (x : Int) : (d.setPair lo hi x).evq = d.evq := rfl
@[simp] theorem Dev.setPair_time (lo hi : Reg) (x : Int) : (d.setPair lo hi x).time = d.time := rfl
@[simp] theorem Dev.setPair_bureau (lo hi : Reg) (x : Int) : (d.setPair lo hi x).bureau = d.bureau := rfl
@[simp] theorem Dev.setPair_host (lo hi : Reg) (x : Int) : (d.setPair lo hi x).host = d.host := rfl
@[simp] theorem Dev.setPair_cap (lo hi : Reg) (x : Int) : (d.setPair lo hi x).cap = d.cap := rfl
@[simp] theorem Dev.setPair_loader (lo hi : Reg) (x : Int) : (d.setPair lo hi x).loader = d.loader := rfl
@[simp] theorem Dev.setPair_line (lo hi : Reg) (x : Int) : (d.setPair lo hi x).line = d.line := rfl
@[simp] theorem Dev.setPair_engs (lo hi : Reg) (x : Int) : (d.setPair lo hi x).engs = d.engs := rfl
@[simp] theorem Dev.setPair_axs (lo hi : Reg) (x : Int) : (d.setPair lo hi x).axs = d.axs := rfl
@[simp] theorem Dev.setPair_pwm (lo hi : Reg) (x : Int) : (d.setPair lo hi x).pwm = d.pwm := rfl
@[simp] theorem Dev.setPair_fbk (lo hi : Reg) (x : Int) : (d.setPair lo hi x).fbk = d.fbk := rfl
@[simp] theorem Dev.setPair_mot (lo hi : Reg) (x : Int) : (d.setPair lo hi x).mot = d.mot := rfl
@[simp] theorem Dev.setPair_arms (lo hi : Reg) (x : Int) : (d.setPair lo hi x).arms = d.arms := rfl
@[simp] theorem Dev.setPair_dio (lo hi : Reg) (x : Int) : (d.setPair lo hi x).dio = d.dio := rfl
@[simp] theorem Dev.setPair_tall (lo hi : Reg) (x : Int) : (d.setPair lo hi x).tall = d.tall := rfl
@[simp] theorem Dev.setPair_gorse (lo hi : Reg) (x : Int) : (d.setPair lo hi x).gorse = d.gorse := rfl
@[simp] theorem Dev.setPair_safe (lo hi : Reg) (x : Int) : (d.setPair lo hi x).safe = d.safe := rfl
@[simp] theorem Dev.setPair_can (lo hi : Reg) (x : Int) : (d.setPair lo hi x).can = d.can := rfl
@[simp] theorem Dev.setPair_duo (lo hi : Reg) (x : Int) : (d.setPair lo hi x).duo = d.duo := rfl
@[simp] theorem Dev.setPair_link (lo hi : Reg) (x : Int) : (d.setPair lo hi x).link = d.link := rfl
@[simp] theorem Dev.setPair_sec (lo hi : Reg) (x : Int) : (d.setPair lo hi x).sec = d.sec := rfl
@[simp] theorem Dev.setPair_pwr (lo hi : Reg) (x : Int) : (d.setPair lo hi x).pwr = d.pwr := rfl
@[simp] theorem Dev.setPair_sys (lo hi : Reg) (x : Int) : (d.setPair lo hi x).sys = d.sys := rfl

/-! ### maxReg -/

@[simp] theorem Dev.maxReg_clk (r : Reg) (n : Nat) : (d.maxReg r n).clk = d.clk := by unfold Dev.maxReg; split <;> rfl
@[simp] theorem Dev.maxReg_fresh (r : Reg) (n : Nat) : (d.maxReg r n).fresh = d.fresh := by unfold Dev.maxReg; split <;> rfl
@[simp] theorem Dev.maxReg_out (r : Reg) (n : Nat) : (d.maxReg r n).out = d.out := by unfold Dev.maxReg; split <;> rfl
@[simp] theorem Dev.maxReg_evq (r : Reg) (n : Nat) : (d.maxReg r n).evq = d.evq := by unfold Dev.maxReg; split <;> rfl
@[simp] theorem Dev.maxReg_time (r : Reg) (n : Nat) : (d.maxReg r n).time = d.time := by unfold Dev.maxReg; split <;> rfl
@[simp] theorem Dev.maxReg_bureau (r : Reg) (n : Nat) : (d.maxReg r n).bureau = d.bureau := by unfold Dev.maxReg; split <;> rfl
@[simp] theorem Dev.maxReg_host (r : Reg) (n : Nat) : (d.maxReg r n).host = d.host := by unfold Dev.maxReg; split <;> rfl
@[simp] theorem Dev.maxReg_cap (r : Reg) (n : Nat) : (d.maxReg r n).cap = d.cap := by unfold Dev.maxReg; split <;> rfl
@[simp] theorem Dev.maxReg_loader (r : Reg) (n : Nat) : (d.maxReg r n).loader = d.loader := by unfold Dev.maxReg; split <;> rfl
@[simp] theorem Dev.maxReg_line (r : Reg) (n : Nat) : (d.maxReg r n).line = d.line := by unfold Dev.maxReg; split <;> rfl
@[simp] theorem Dev.maxReg_engs (r : Reg) (n : Nat) : (d.maxReg r n).engs = d.engs := by unfold Dev.maxReg; split <;> rfl
@[simp] theorem Dev.maxReg_axs (r : Reg) (n : Nat) : (d.maxReg r n).axs = d.axs := by unfold Dev.maxReg; split <;> rfl
@[simp] theorem Dev.maxReg_pwm (r : Reg) (n : Nat) : (d.maxReg r n).pwm = d.pwm := by unfold Dev.maxReg; split <;> rfl
@[simp] theorem Dev.maxReg_fbk (r : Reg) (n : Nat) : (d.maxReg r n).fbk = d.fbk := by unfold Dev.maxReg; split <;> rfl
@[simp] theorem Dev.maxReg_mot (r : Reg) (n : Nat) : (d.maxReg r n).mot = d.mot := by unfold Dev.maxReg; split <;> rfl
@[simp] theorem Dev.maxReg_arms (r : Reg) (n : Nat) : (d.maxReg r n).arms = d.arms := by unfold Dev.maxReg; split <;> rfl
@[simp] theorem Dev.maxReg_dio (r : Reg) (n : Nat) : (d.maxReg r n).dio = d.dio := by unfold Dev.maxReg; split <;> rfl
@[simp] theorem Dev.maxReg_tall (r : Reg) (n : Nat) : (d.maxReg r n).tall = d.tall := by unfold Dev.maxReg; split <;> rfl
@[simp] theorem Dev.maxReg_gorse (r : Reg) (n : Nat) : (d.maxReg r n).gorse = d.gorse := by unfold Dev.maxReg; split <;> rfl
@[simp] theorem Dev.maxReg_safe (r : Reg) (n : Nat) : (d.maxReg r n).safe = d.safe := by unfold Dev.maxReg; split <;> rfl
@[simp] theorem Dev.maxReg_can (r : Reg) (n : Nat) : (d.maxReg r n).can = d.can := by unfold Dev.maxReg; split <;> rfl
@[simp] theorem Dev.maxReg_duo (r : Reg) (n : Nat) : (d.maxReg r n).duo = d.duo := by unfold Dev.maxReg; split <;> rfl
@[simp] theorem Dev.maxReg_sec (r : Reg) (n : Nat) : (d.maxReg r n).sec = d.sec := by unfold Dev.maxReg; split <;> rfl
@[simp] theorem Dev.maxReg_pwr (r : Reg) (n : Nat) : (d.maxReg r n).pwr = d.pwr := by unfold Dev.maxReg; split <;> rfl
@[simp] theorem Dev.maxReg_sys (r : Reg) (n : Nat) : (d.maxReg r n).sys = d.sys := by unfold Dev.maxReg; split <;> rfl

/-! ### markSet -/

@[simp] theorem Dev.markSet_regs (r : Reg) (m : Nat) : (d.markSet r m).regs = d.regs := rfl
@[simp] theorem Dev.markSet_clk (r : Reg) (m : Nat) : (d.markSet r m).clk = d.clk := rfl
@[simp] theorem Dev.markSet_fresh (r : Reg) (m : Nat) : (d.markSet r m).fresh = d.fresh := rfl
@[simp] theorem Dev.markSet_out (r : Reg) (m : Nat) : (d.markSet r m).out = d.out := rfl
@[simp] theorem Dev.markSet_evq (r : Reg) (m : Nat) : (d.markSet r m).evq = d.evq := rfl
@[simp] theorem Dev.markSet_fil (r : Reg) (m : Nat) : (d.markSet r m).fil = d.fil := rfl
@[simp] theorem Dev.markSet_time (r : Reg) (m : Nat) : (d.markSet r m).time = d.time := rfl
@[simp] theorem Dev.markSet_bureau (r : Reg) (m : Nat) : (d.markSet r m).bureau = d.bureau := rfl
@[simp] theorem Dev.markSet_host (r : Reg) (m : Nat) : (d.markSet r m).host = d.host := rfl
@[simp] theorem Dev.markSet_cap (r : Reg) (m : Nat) : (d.markSet r m).cap = d.cap := rfl
@[simp] theorem Dev.markSet_loader (r : Reg) (m : Nat) : (d.markSet r m).loader = d.loader := rfl
@[simp] theorem Dev.markSet_line (r : Reg) (m : Nat) : (d.markSet r m).line = d.line := rfl
@[simp] theorem Dev.markSet_engs (r : Reg) (m : Nat) : (d.markSet r m).engs = d.engs := rfl
@[simp] theorem Dev.markSet_axs (r : Reg) (m : Nat) : (d.markSet r m).axs = d.axs := rfl
@[simp] theorem Dev.markSet_pwm (r : Reg) (m : Nat) : (d.markSet r m).pwm = d.pwm := rfl
@[simp] theorem Dev.markSet_fbk (r : Reg) (m : Nat) : (d.markSet r m).fbk = d.fbk := rfl
@[simp] theorem Dev.markSet_mot (r : Reg) (m : Nat) : (d.markSet r m).mot = d.mot := rfl
@[simp] theorem Dev.markSet_arms (r : Reg) (m : Nat) : (d.markSet r m).arms = d.arms := rfl
@[simp] theorem Dev.markSet_dio (r : Reg) (m : Nat) : (d.markSet r m).dio = d.dio := rfl
@[simp] theorem Dev.markSet_tall (r : Reg) (m : Nat) : (d.markSet r m).tall = d.tall := rfl
@[simp] theorem Dev.markSet_gorse (r : Reg) (m : Nat) : (d.markSet r m).gorse = d.gorse := rfl
@[simp] theorem Dev.markSet_safe (r : Reg) (m : Nat) : (d.markSet r m).safe = d.safe := rfl
@[simp] theorem Dev.markSet_can (r : Reg) (m : Nat) : (d.markSet r m).can = d.can := rfl
@[simp] theorem Dev.markSet_duo (r : Reg) (m : Nat) : (d.markSet r m).duo = d.duo := rfl
@[simp] theorem Dev.markSet_link (r : Reg) (m : Nat) : (d.markSet r m).link = d.link := rfl
@[simp] theorem Dev.markSet_sec (r : Reg) (m : Nat) : (d.markSet r m).sec = d.sec := rfl
@[simp] theorem Dev.markSet_pwr (r : Reg) (m : Nat) : (d.markSet r m).pwr = d.pwr := rfl
@[simp] theorem Dev.markSet_sys (r : Reg) (m : Nat) : (d.markSet r m).sys = d.sys := rfl
@[simp] theorem Dev.markSet_reg (r : Reg) (m : Nat) (q : Reg) : (d.markSet r m).reg q = d.reg q := rfl

/-! ### emit -/

@[simp] theorem Dev.emit_regs (o : Out) : (d.emit o).regs = d.regs := rfl
@[simp] theorem Dev.emit_clk (o : Out) : (d.emit o).clk = d.clk := rfl
@[simp] theorem Dev.emit_fresh (o : Out) : (d.emit o).fresh = d.fresh := rfl
@[simp] theorem Dev.emit_w1c (o : Out) : (d.emit o).w1c = d.w1c := rfl
@[simp] theorem Dev.emit_fil (o : Out) : (d.emit o).fil = d.fil := rfl
@[simp] theorem Dev.emit_evq (o : Out) : (d.emit o).evq = d.evq := rfl
@[simp] theorem Dev.emit_time (o : Out) : (d.emit o).time = d.time := rfl
@[simp] theorem Dev.emit_bureau (o : Out) : (d.emit o).bureau = d.bureau := rfl
@[simp] theorem Dev.emit_host (o : Out) : (d.emit o).host = d.host := rfl
@[simp] theorem Dev.emit_cap (o : Out) : (d.emit o).cap = d.cap := rfl
@[simp] theorem Dev.emit_loader (o : Out) : (d.emit o).loader = d.loader := rfl
@[simp] theorem Dev.emit_line (o : Out) : (d.emit o).line = d.line := rfl
@[simp] theorem Dev.emit_engs (o : Out) : (d.emit o).engs = d.engs := rfl
@[simp] theorem Dev.emit_axs (o : Out) : (d.emit o).axs = d.axs := rfl
@[simp] theorem Dev.emit_pwm (o : Out) : (d.emit o).pwm = d.pwm := rfl
@[simp] theorem Dev.emit_fbk (o : Out) : (d.emit o).fbk = d.fbk := rfl
@[simp] theorem Dev.emit_mot (o : Out) : (d.emit o).mot = d.mot := rfl
@[simp] theorem Dev.emit_arms (o : Out) : (d.emit o).arms = d.arms := rfl
@[simp] theorem Dev.emit_dio (o : Out) : (d.emit o).dio = d.dio := rfl
@[simp] theorem Dev.emit_tall (o : Out) : (d.emit o).tall = d.tall := rfl
@[simp] theorem Dev.emit_gorse (o : Out) : (d.emit o).gorse = d.gorse := rfl
@[simp] theorem Dev.emit_safe (o : Out) : (d.emit o).safe = d.safe := rfl
@[simp] theorem Dev.emit_can (o : Out) : (d.emit o).can = d.can := rfl
@[simp] theorem Dev.emit_duo (o : Out) : (d.emit o).duo = d.duo := rfl
@[simp] theorem Dev.emit_link (o : Out) : (d.emit o).link = d.link := rfl
@[simp] theorem Dev.emit_sec (o : Out) : (d.emit o).sec = d.sec := rfl
@[simp] theorem Dev.emit_pwr (o : Out) : (d.emit o).pwr = d.pwr := rfl
@[simp] theorem Dev.emit_sys (o : Out) : (d.emit o).sys = d.sys := rfl

/-! ### answer -/

@[simp] theorem Dev.answer_regs (st : Status) : (d.answer st).regs = d.regs := rfl
@[simp] theorem Dev.answer_clk (st : Status) : (d.answer st).clk = d.clk := rfl
@[simp] theorem Dev.answer_fresh (st : Status) : (d.answer st).fresh = d.fresh := rfl
@[simp] theorem Dev.answer_w1c (st : Status) : (d.answer st).w1c = d.w1c := rfl
@[simp] theorem Dev.answer_fil (st : Status) : (d.answer st).fil = d.fil := rfl
@[simp] theorem Dev.answer_evq (st : Status) : (d.answer st).evq = d.evq := rfl
@[simp] theorem Dev.answer_time (st : Status) : (d.answer st).time = d.time := rfl
@[simp] theorem Dev.answer_bureau (st : Status) : (d.answer st).bureau = d.bureau := rfl
@[simp] theorem Dev.answer_host (st : Status) : (d.answer st).host = d.host := rfl
@[simp] theorem Dev.answer_cap (st : Status) : (d.answer st).cap = d.cap := rfl
@[simp] theorem Dev.answer_loader (st : Status) : (d.answer st).loader = d.loader := rfl
@[simp] theorem Dev.answer_line (st : Status) : (d.answer st).line = d.line := rfl
@[simp] theorem Dev.answer_engs (st : Status) : (d.answer st).engs = d.engs := rfl
@[simp] theorem Dev.answer_axs (st : Status) : (d.answer st).axs = d.axs := rfl
@[simp] theorem Dev.answer_pwm (st : Status) : (d.answer st).pwm = d.pwm := rfl
@[simp] theorem Dev.answer_fbk (st : Status) : (d.answer st).fbk = d.fbk := rfl
@[simp] theorem Dev.answer_mot (st : Status) : (d.answer st).mot = d.mot := rfl
@[simp] theorem Dev.answer_arms (st : Status) : (d.answer st).arms = d.arms := rfl
@[simp] theorem Dev.answer_dio (st : Status) : (d.answer st).dio = d.dio := rfl
@[simp] theorem Dev.answer_tall (st : Status) : (d.answer st).tall = d.tall := rfl
@[simp] theorem Dev.answer_gorse (st : Status) : (d.answer st).gorse = d.gorse := rfl
@[simp] theorem Dev.answer_safe (st : Status) : (d.answer st).safe = d.safe := rfl
@[simp] theorem Dev.answer_can (st : Status) : (d.answer st).can = d.can := rfl
@[simp] theorem Dev.answer_duo (st : Status) : (d.answer st).duo = d.duo := rfl
@[simp] theorem Dev.answer_link (st : Status) : (d.answer st).link = d.link := rfl
@[simp] theorem Dev.answer_sec (st : Status) : (d.answer st).sec = d.sec := rfl
@[simp] theorem Dev.answer_pwr (st : Status) : (d.answer st).pwr = d.pwr := rfl
@[simp] theorem Dev.answer_sys (st : Status) : (d.answer st).sys = d.sys := rfl

/-! ### raise -/

@[simp] theorem Dev.raise_regs (e : Ev) : (d.raise e).regs = d.regs := rfl
@[simp] theorem Dev.raise_clk (e : Ev) : (d.raise e).clk = d.clk := rfl
@[simp] theorem Dev.raise_fresh (e : Ev) : (d.raise e).fresh = d.fresh := rfl
@[simp] theorem Dev.raise_w1c (e : Ev) : (d.raise e).w1c = d.w1c := rfl
@[simp] theorem Dev.raise_fil (e : Ev) : (d.raise e).fil = d.fil := rfl
@[simp] theorem Dev.raise_out (e : Ev) : (d.raise e).out = d.out := rfl
@[simp] theorem Dev.raise_time (e : Ev) : (d.raise e).time = d.time := rfl
@[simp] theorem Dev.raise_bureau (e : Ev) : (d.raise e).bureau = d.bureau := rfl
@[simp] theorem Dev.raise_host (e : Ev) : (d.raise e).host = d.host := rfl
@[simp] theorem Dev.raise_cap (e : Ev) : (d.raise e).cap = d.cap := rfl
@[simp] theorem Dev.raise_loader (e : Ev) : (d.raise e).loader = d.loader := rfl
@[simp] theorem Dev.raise_line (e : Ev) : (d.raise e).line = d.line := rfl
@[simp] theorem Dev.raise_engs (e : Ev) : (d.raise e).engs = d.engs := rfl
@[simp] theorem Dev.raise_axs (e : Ev) : (d.raise e).axs = d.axs := rfl
@[simp] theorem Dev.raise_pwm (e : Ev) : (d.raise e).pwm = d.pwm := rfl
@[simp] theorem Dev.raise_fbk (e : Ev) : (d.raise e).fbk = d.fbk := rfl
@[simp] theorem Dev.raise_mot (e : Ev) : (d.raise e).mot = d.mot := rfl
@[simp] theorem Dev.raise_arms (e : Ev) : (d.raise e).arms = d.arms := rfl
@[simp] theorem Dev.raise_dio (e : Ev) : (d.raise e).dio = d.dio := rfl
@[simp] theorem Dev.raise_tall (e : Ev) : (d.raise e).tall = d.tall := rfl
@[simp] theorem Dev.raise_gorse (e : Ev) : (d.raise e).gorse = d.gorse := rfl
@[simp] theorem Dev.raise_safe (e : Ev) : (d.raise e).safe = d.safe := rfl
@[simp] theorem Dev.raise_can (e : Ev) : (d.raise e).can = d.can := rfl
@[simp] theorem Dev.raise_duo (e : Ev) : (d.raise e).duo = d.duo := rfl
@[simp] theorem Dev.raise_link (e : Ev) : (d.raise e).link = d.link := rfl
@[simp] theorem Dev.raise_sec (e : Ev) : (d.raise e).sec = d.sec := rfl
@[simp] theorem Dev.raise_pwr (e : Ev) : (d.raise e).pwr = d.pwr := rfl
@[simp] theorem Dev.raise_sys (e : Ev) : (d.raise e).sys = d.sys := rfl

/-! ### ev -/

@[simp] theorem Dev.ev_regs (code sev : Nat) (l : List Word) : (d.ev code sev l).regs = d.regs := rfl
@[simp] theorem Dev.ev_clk (code sev : Nat) (l : List Word) : (d.ev code sev l).clk = d.clk := rfl
@[simp] theorem Dev.ev_fresh (code sev : Nat) (l : List Word) : (d.ev code sev l).fresh = d.fresh := rfl
@[simp] theorem Dev.ev_w1c (code sev : Nat) (l : List Word) : (d.ev code sev l).w1c = d.w1c := rfl
@[simp] theorem Dev.ev_fil (code sev : Nat) (l : List Word) : (d.ev code sev l).fil = d.fil := rfl
@[simp] theorem Dev.ev_out (code sev : Nat) (l : List Word) : (d.ev code sev l).out = d.out := rfl
@[simp] theorem Dev.ev_time (code sev : Nat) (l : List Word) : (d.ev code sev l).time = d.time := rfl
@[simp] theorem Dev.ev_bureau (code sev : Nat) (l : List Word) : (d.ev code sev l).bureau = d.bureau := rfl
@[simp] theorem Dev.ev_host (code sev : Nat) (l : List Word) : (d.ev code sev l).host = d.host := rfl
@[simp] theorem Dev.ev_cap (code sev : Nat) (l : List Word) : (d.ev code sev l).cap = d.cap := rfl
@[simp] theorem Dev.ev_loader (code sev : Nat) (l : List Word) : (d.ev code sev l).loader = d.loader := rfl
@[simp] theorem Dev.ev_line (code sev : Nat) (l : List Word) : (d.ev code sev l).line = d.line := rfl
@[simp] theorem Dev.ev_engs (code sev : Nat) (l : List Word) : (d.ev code sev l).engs = d.engs := rfl
@[simp] theorem Dev.ev_axs (code sev : Nat) (l : List Word) : (d.ev code sev l).axs = d.axs := rfl
@[simp] theorem Dev.ev_pwm (code sev : Nat) (l : List Word) : (d.ev code sev l).pwm = d.pwm := rfl
@[simp] theorem Dev.ev_fbk (code sev : Nat) (l : List Word) : (d.ev code sev l).fbk = d.fbk := rfl
@[simp] theorem Dev.ev_mot (code sev : Nat) (l : List Word) : (d.ev code sev l).mot = d.mot := rfl
@[simp] theorem Dev.ev_arms (code sev : Nat) (l : List Word) : (d.ev code sev l).arms = d.arms := rfl
@[simp] theorem Dev.ev_dio (code sev : Nat) (l : List Word) : (d.ev code sev l).dio = d.dio := rfl
@[simp] theorem Dev.ev_tall (code sev : Nat) (l : List Word) : (d.ev code sev l).tall = d.tall := rfl
@[simp] theorem Dev.ev_gorse (code sev : Nat) (l : List Word) : (d.ev code sev l).gorse = d.gorse := rfl
@[simp] theorem Dev.ev_safe (code sev : Nat) (l : List Word) : (d.ev code sev l).safe = d.safe := rfl
@[simp] theorem Dev.ev_can (code sev : Nat) (l : List Word) : (d.ev code sev l).can = d.can := rfl
@[simp] theorem Dev.ev_duo (code sev : Nat) (l : List Word) : (d.ev code sev l).duo = d.duo := rfl
@[simp] theorem Dev.ev_link (code sev : Nat) (l : List Word) : (d.ev code sev l).link = d.link := rfl
@[simp] theorem Dev.ev_sec (code sev : Nat) (l : List Word) : (d.ev code sev l).sec = d.sec := rfl
@[simp] theorem Dev.ev_pwr (code sev : Nat) (l : List Word) : (d.ev code sev l).pwr = d.pwr := rfl
@[simp] theorem Dev.ev_sys (code sev : Nat) (l : List Word) : (d.ev code sev l).sys = d.sys := rfl

/-! ### evObj -/

@[simp] theorem Dev.evObj_regs (code sev obj : Nat) (l : List Word) : (d.evObj code sev obj l).regs = d.regs := rfl
@[simp] theorem Dev.evObj_clk (code sev obj : Nat) (l : List Word) : (d.evObj code sev obj l).clk = d.clk := rfl
@[simp] theorem Dev.evObj_fresh (code sev obj : Nat) (l : List Word) : (d.evObj code sev obj l).fresh = d.fresh := rfl
@[simp] theorem Dev.evObj_w1c (code sev obj : Nat) (l : List Word) : (d.evObj code sev obj l).w1c = d.w1c := rfl
@[simp] theorem Dev.evObj_fil (code sev obj : Nat) (l : List Word) : (d.evObj code sev obj l).fil = d.fil := rfl
@[simp] theorem Dev.evObj_out (code sev obj : Nat) (l : List Word) : (d.evObj code sev obj l).out = d.out := rfl
@[simp] theorem Dev.evObj_time (code sev obj : Nat) (l : List Word) : (d.evObj code sev obj l).time = d.time := rfl
@[simp] theorem Dev.evObj_bureau (code sev obj : Nat) (l : List Word) : (d.evObj code sev obj l).bureau = d.bureau := rfl
@[simp] theorem Dev.evObj_host (code sev obj : Nat) (l : List Word) : (d.evObj code sev obj l).host = d.host := rfl
@[simp] theorem Dev.evObj_cap (code sev obj : Nat) (l : List Word) : (d.evObj code sev obj l).cap = d.cap := rfl
@[simp] theorem Dev.evObj_loader (code sev obj : Nat) (l : List Word) : (d.evObj code sev obj l).loader = d.loader := rfl
@[simp] theorem Dev.evObj_line (code sev obj : Nat) (l : List Word) : (d.evObj code sev obj l).line = d.line := rfl
@[simp] theorem Dev.evObj_engs (code sev obj : Nat) (l : List Word) : (d.evObj code sev obj l).engs = d.engs := rfl
@[simp] theorem Dev.evObj_axs (code sev obj : Nat) (l : List Word) : (d.evObj code sev obj l).axs = d.axs := rfl
@[simp] theorem Dev.evObj_pwm (code sev obj : Nat) (l : List Word) : (d.evObj code sev obj l).pwm = d.pwm := rfl
@[simp] theorem Dev.evObj_fbk (code sev obj : Nat) (l : List Word) : (d.evObj code sev obj l).fbk = d.fbk := rfl
@[simp] theorem Dev.evObj_mot (code sev obj : Nat) (l : List Word) : (d.evObj code sev obj l).mot = d.mot := rfl
@[simp] theorem Dev.evObj_arms (code sev obj : Nat) (l : List Word) : (d.evObj code sev obj l).arms = d.arms := rfl
@[simp] theorem Dev.evObj_dio (code sev obj : Nat) (l : List Word) : (d.evObj code sev obj l).dio = d.dio := rfl
@[simp] theorem Dev.evObj_tall (code sev obj : Nat) (l : List Word) : (d.evObj code sev obj l).tall = d.tall := rfl
@[simp] theorem Dev.evObj_gorse (code sev obj : Nat) (l : List Word) : (d.evObj code sev obj l).gorse = d.gorse := rfl
@[simp] theorem Dev.evObj_safe (code sev obj : Nat) (l : List Word) : (d.evObj code sev obj l).safe = d.safe := rfl
@[simp] theorem Dev.evObj_can (code sev obj : Nat) (l : List Word) : (d.evObj code sev obj l).can = d.can := rfl
@[simp] theorem Dev.evObj_duo (code sev obj : Nat) (l : List Word) : (d.evObj code sev obj l).duo = d.duo := rfl
@[simp] theorem Dev.evObj_link (code sev obj : Nat) (l : List Word) : (d.evObj code sev obj l).link = d.link := rfl
@[simp] theorem Dev.evObj_sec (code sev obj : Nat) (l : List Word) : (d.evObj code sev obj l).sec = d.sec := rfl
@[simp] theorem Dev.evObj_pwr (code sev obj : Nat) (l : List Word) : (d.evObj code sev obj l).pwr = d.pwr := rfl
@[simp] theorem Dev.evObj_sys (code sev obj : Nat) (l : List Word) : (d.evObj code sev obj l).sys = d.sys := rfl

/-! ### evAt -/

@[simp] theorem Dev.evAt_regs (code sev obj : Nat) (place : Option Nat) (l : List Word) : (d.evAt code sev obj place l).regs = d.regs := rfl
@[simp] theorem Dev.evAt_clk (code sev obj : Nat) (place : Option Nat) (l : List Word) : (d.evAt code sev obj place l).clk = d.clk := rfl
@[simp] theorem Dev.evAt_fresh (code sev obj : Nat) (place : Option Nat) (l : List Word) : (d.evAt code sev obj place l).fresh = d.fresh := rfl
@[simp] theorem Dev.evAt_w1c (code sev obj : Nat) (place : Option Nat) (l : List Word) : (d.evAt code sev obj place l).w1c = d.w1c := rfl
@[simp] theorem Dev.evAt_fil (code sev obj : Nat) (place : Option Nat) (l : List Word) : (d.evAt code sev obj place l).fil = d.fil := rfl
@[simp] theorem Dev.evAt_out (code sev obj : Nat) (place : Option Nat) (l : List Word) : (d.evAt code sev obj place l).out = d.out := rfl
@[simp] theorem Dev.evAt_time (code sev obj : Nat) (place : Option Nat) (l : List Word) : (d.evAt code sev obj place l).time = d.time := rfl
@[simp] theorem Dev.evAt_bureau (code sev obj : Nat) (place : Option Nat) (l : List Word) : (d.evAt code sev obj place l).bureau = d.bureau := rfl
@[simp] theorem Dev.evAt_host (code sev obj : Nat) (place : Option Nat) (l : List Word) : (d.evAt code sev obj place l).host = d.host := rfl
@[simp] theorem Dev.evAt_cap (code sev obj : Nat) (place : Option Nat) (l : List Word) : (d.evAt code sev obj place l).cap = d.cap := rfl
@[simp] theorem Dev.evAt_loader (code sev obj : Nat) (place : Option Nat) (l : List Word) : (d.evAt code sev obj place l).loader = d.loader := rfl
@[simp] theorem Dev.evAt_line (code sev obj : Nat) (place : Option Nat) (l : List Word) : (d.evAt code sev obj place l).line = d.line := rfl
@[simp] theorem Dev.evAt_engs (code sev obj : Nat) (place : Option Nat) (l : List Word) : (d.evAt code sev obj place l).engs = d.engs := rfl
@[simp] theorem Dev.evAt_axs (code sev obj : Nat) (place : Option Nat) (l : List Word) : (d.evAt code sev obj place l).axs = d.axs := rfl
@[simp] theorem Dev.evAt_pwm (code sev obj : Nat) (place : Option Nat) (l : List Word) : (d.evAt code sev obj place l).pwm = d.pwm := rfl
@[simp] theorem Dev.evAt_fbk (code sev obj : Nat) (place : Option Nat) (l : List Word) : (d.evAt code sev obj place l).fbk = d.fbk := rfl
@[simp] theorem Dev.evAt_mot (code sev obj : Nat) (place : Option Nat) (l : List Word) : (d.evAt code sev obj place l).mot = d.mot := rfl
@[simp] theorem Dev.evAt_arms (code sev obj : Nat) (place : Option Nat) (l : List Word) : (d.evAt code sev obj place l).arms = d.arms := rfl
@[simp] theorem Dev.evAt_dio (code sev obj : Nat) (place : Option Nat) (l : List Word) : (d.evAt code sev obj place l).dio = d.dio := rfl
@[simp] theorem Dev.evAt_tall (code sev obj : Nat) (place : Option Nat) (l : List Word) : (d.evAt code sev obj place l).tall = d.tall := rfl
@[simp] theorem Dev.evAt_gorse (code sev obj : Nat) (place : Option Nat) (l : List Word) : (d.evAt code sev obj place l).gorse = d.gorse := rfl
@[simp] theorem Dev.evAt_safe (code sev obj : Nat) (place : Option Nat) (l : List Word) : (d.evAt code sev obj place l).safe = d.safe := rfl
@[simp] theorem Dev.evAt_can (code sev obj : Nat) (place : Option Nat) (l : List Word) : (d.evAt code sev obj place l).can = d.can := rfl
@[simp] theorem Dev.evAt_duo (code sev obj : Nat) (place : Option Nat) (l : List Word) : (d.evAt code sev obj place l).duo = d.duo := rfl
@[simp] theorem Dev.evAt_link (code sev obj : Nat) (place : Option Nat) (l : List Word) : (d.evAt code sev obj place l).link = d.link := rfl
@[simp] theorem Dev.evAt_sec (code sev obj : Nat) (place : Option Nat) (l : List Word) : (d.evAt code sev obj place l).sec = d.sec := rfl
@[simp] theorem Dev.evAt_pwr (code sev obj : Nat) (place : Option Nat) (l : List Word) : (d.evAt code sev obj place l).pwr = d.pwr := rfl
@[simp] theorem Dev.evAt_sys (code sev obj : Nat) (place : Option Nat) (l : List Word) : (d.evAt code sev obj place l).sys = d.sys := rfl

/-! ### pass -/

@[simp] theorem Dev.pass_regs (n : Nat) : (d.pass n).regs = d.regs := rfl
@[simp] theorem Dev.pass_fresh (n : Nat) : (d.pass n).fresh = d.fresh := rfl
@[simp] theorem Dev.pass_w1c (n : Nat) : (d.pass n).w1c = d.w1c := rfl
@[simp] theorem Dev.pass_fil (n : Nat) : (d.pass n).fil = d.fil := rfl
@[simp] theorem Dev.pass_out (n : Nat) : (d.pass n).out = d.out := rfl
@[simp] theorem Dev.pass_evq (n : Nat) : (d.pass n).evq = d.evq := rfl
@[simp] theorem Dev.pass_bureau (n : Nat) : (d.pass n).bureau = d.bureau := rfl
@[simp] theorem Dev.pass_host (n : Nat) : (d.pass n).host = d.host := rfl
@[simp] theorem Dev.pass_cap (n : Nat) : (d.pass n).cap = d.cap := rfl
@[simp] theorem Dev.pass_loader (n : Nat) : (d.pass n).loader = d.loader := rfl
@[simp] theorem Dev.pass_line (n : Nat) : (d.pass n).line = d.line := rfl
@[simp] theorem Dev.pass_engs (n : Nat) : (d.pass n).engs = d.engs := rfl
@[simp] theorem Dev.pass_axs (n : Nat) : (d.pass n).axs = d.axs := rfl
@[simp] theorem Dev.pass_pwm (n : Nat) : (d.pass n).pwm = d.pwm := rfl
@[simp] theorem Dev.pass_fbk (n : Nat) : (d.pass n).fbk = d.fbk := rfl
@[simp] theorem Dev.pass_mot (n : Nat) : (d.pass n).mot = d.mot := rfl
@[simp] theorem Dev.pass_arms (n : Nat) : (d.pass n).arms = d.arms := rfl
@[simp] theorem Dev.pass_dio (n : Nat) : (d.pass n).dio = d.dio := rfl
@[simp] theorem Dev.pass_tall (n : Nat) : (d.pass n).tall = d.tall := rfl
@[simp] theorem Dev.pass_gorse (n : Nat) : (d.pass n).gorse = d.gorse := rfl
@[simp] theorem Dev.pass_safe (n : Nat) : (d.pass n).safe = d.safe := rfl
@[simp] theorem Dev.pass_can (n : Nat) : (d.pass n).can = d.can := rfl
@[simp] theorem Dev.pass_duo (n : Nat) : (d.pass n).duo = d.duo := rfl
@[simp] theorem Dev.pass_link (n : Nat) : (d.pass n).link = d.link := rfl
@[simp] theorem Dev.pass_sec (n : Nat) : (d.pass n).sec = d.sec := rfl
@[simp] theorem Dev.pass_pwr (n : Nat) : (d.pass n).pwr = d.pwr := rfl
@[simp] theorem Dev.pass_sys (n : Nat) : (d.pass n).sys = d.sys := rfl

/-! ### Free values -/

@[simp] theorem Dev.free_regs : d.free.2.regs = d.regs := rfl
@[simp] theorem Dev.free_clk : d.free.2.clk = d.clk := rfl
@[simp] theorem Dev.free_out : d.free.2.out = d.out := rfl
@[simp] theorem Dev.free_evq : d.free.2.evq = d.evq := rfl
@[simp] theorem Dev.free_w1c : d.free.2.w1c = d.w1c := rfl
@[simp] theorem Dev.free_fil : d.free.2.fil = d.fil := rfl
@[simp] theorem Dev.free_link : d.free.2.link = d.link := rfl
@[simp] theorem Dev.free_time : d.free.2.time = d.time := rfl
@[simp] theorem Dev.free_bureau : d.free.2.bureau = d.bureau := rfl
@[simp] theorem Dev.free_host : d.free.2.host = d.host := rfl
@[simp] theorem Dev.free_cap : d.free.2.cap = d.cap := rfl
@[simp] theorem Dev.free_loader : d.free.2.loader = d.loader := rfl
@[simp] theorem Dev.free_line : d.free.2.line = d.line := rfl
@[simp] theorem Dev.free_engs : d.free.2.engs = d.engs := rfl
@[simp] theorem Dev.free_axs : d.free.2.axs = d.axs := rfl
@[simp] theorem Dev.free_pwm : d.free.2.pwm = d.pwm := rfl
@[simp] theorem Dev.free_fbk : d.free.2.fbk = d.fbk := rfl
@[simp] theorem Dev.free_mot : d.free.2.mot = d.mot := rfl
@[simp] theorem Dev.free_arms : d.free.2.arms = d.arms := rfl
@[simp] theorem Dev.free_dio : d.free.2.dio = d.dio := rfl
@[simp] theorem Dev.free_tall : d.free.2.tall = d.tall := rfl
@[simp] theorem Dev.free_gorse : d.free.2.gorse = d.gorse := rfl
@[simp] theorem Dev.free_safe : d.free.2.safe = d.safe := rfl
@[simp] theorem Dev.free_can : d.free.2.can = d.can := rfl
@[simp] theorem Dev.free_duo : d.free.2.duo = d.duo := rfl
@[simp] theorem Dev.free_sec : d.free.2.sec = d.sec := rfl
@[simp] theorem Dev.free_pwr : d.free.2.pwr = d.pwr := rfl
@[simp] theorem Dev.free_sys : d.free.2.sys = d.sys := rfl

@[simp] theorem Dev.emit_out (o : Out) : (d.emit o).out = d.out ++ [o] := rfl
@[simp] theorem Dev.answer_out (st : Status) : (d.answer st).out = d.out ++ [.status st] := rfl
@[simp] theorem Dev.raise_evq (e : Ev) : (d.raise e).evq = d.evq ++ [e] := rfl
@[simp] theorem Dev.pass_clk (n : Nat) : (d.pass n).clk = d.clk + n := rfl
@[simp] theorem Dev.free_fresh : d.free.2.fresh = d.fresh + 1 := rfl

/-! ### Registers -/

/-- Two devices with one register store hold one word in every register. -/
theorem Dev.reg_congr {d e : Dev} (h : d.regs = e.regs) (r : Reg) : d.reg r = e.reg r := by simp only [Dev.reg, h]

@[simp] theorem Dev.emit_reg (o : Out) (q : Reg) : (d.emit o).reg q = d.reg q := rfl
@[simp] theorem Dev.emit_fld (o : Out) (q : Reg) (g : Fld) : (d.emit o).fld q g = d.fld q g := rfl
@[simp] theorem Dev.emit_bit (o : Out) (q : Reg) (g : Fld) : (d.emit o).bit q g = d.bit q g := rfl
@[simp] theorem Dev.answer_reg (st : Status) (q : Reg) : (d.answer st).reg q = d.reg q := rfl
@[simp] theorem Dev.answer_fld (st : Status) (q : Reg) (g : Fld) : (d.answer st).fld q g = d.fld q g := rfl
@[simp] theorem Dev.answer_bit (st : Status) (q : Reg) (g : Fld) : (d.answer st).bit q g = d.bit q g := rfl
@[simp] theorem Dev.raise_reg (e : Ev) (q : Reg) : (d.raise e).reg q = d.reg q := rfl
@[simp] theorem Dev.raise_fld (e : Ev) (q : Reg) (g : Fld) : (d.raise e).fld q g = d.fld q g := rfl
@[simp] theorem Dev.raise_bit (e : Ev) (q : Reg) (g : Fld) : (d.raise e).bit q g = d.bit q g := rfl
@[simp] theorem Dev.ev_reg (code sev : Nat) (l : List Word) (q : Reg) : (d.ev code sev l).reg q = d.reg q := rfl
@[simp] theorem Dev.ev_fld (code sev : Nat) (l : List Word) (q : Reg) (g : Fld) : (d.ev code sev l).fld q g = d.fld q g := rfl
@[simp] theorem Dev.ev_bit (code sev : Nat) (l : List Word) (q : Reg) (g : Fld) : (d.ev code sev l).bit q g = d.bit q g := rfl
@[simp] theorem Dev.evObj_reg (code sev obj : Nat) (l : List Word) (q : Reg) : (d.evObj code sev obj l).reg q = d.reg q := rfl
@[simp] theorem Dev.evObj_fld (code sev obj : Nat) (l : List Word) (q : Reg) (g : Fld) : (d.evObj code sev obj l).fld q g = d.fld q g := rfl
@[simp] theorem Dev.evObj_bit (code sev obj : Nat) (l : List Word) (q : Reg) (g : Fld) : (d.evObj code sev obj l).bit q g = d.bit q g := rfl
@[simp] theorem Dev.evAt_reg (code sev obj : Nat) (place : Option Nat) (l : List Word) (q : Reg) : (d.evAt code sev obj place l).reg q = d.reg q := rfl
@[simp] theorem Dev.evAt_fld (code sev obj : Nat) (place : Option Nat) (l : List Word) (q : Reg) (g : Fld) : (d.evAt code sev obj place l).fld q g = d.fld q g := rfl
@[simp] theorem Dev.evAt_bit (code sev obj : Nat) (place : Option Nat) (l : List Word) (q : Reg) (g : Fld) : (d.evAt code sev obj place l).bit q g = d.bit q g := rfl
@[simp] theorem Dev.pass_reg (n : Nat) (q : Reg) : (d.pass n).reg q = d.reg q := rfl
@[simp] theorem Dev.pass_fld (n : Nat) (q : Reg) (g : Fld) : (d.pass n).fld q g = d.fld q g := rfl
@[simp] theorem Dev.pass_bit (n : Nat) (q : Reg) (g : Fld) : (d.pass n).bit q g = d.bit q g := rfl

end Sys2Proof.Machine
end

