-- ==== Sys2Proof/Laws/Tables.lean ====
section
/-! SUPPORT. The laws of the tables: what a read gives after a change, and that every change keeps the canonical form. -/

namespace Sys2Proof.Machine

open Sys2Proof

/-! ### A read after a change -/

@[simp] theorem tget?_nil {α : Type} (k : Nat) : tget? ([] : Tab α) k = none := rfl

@[simp] theorem tget_nil {α : Type} (k : Nat) (d : α) : tget ([] : Tab α) k d = d := rfl

@[simp] theorem tget?_tset_same {α : Type} (t : Tab α) (k : Nat) (v : α) : tget? (tset t k v) k = some v := by
  induction t with
  | nil => simp [tset, tget?]
  | cons e rest ih =>
    obtain ⟨n, u⟩ := e
    simp only [tset]
    split
    · simp [tget?]
    · split
      · simp [tget?]
      · have : n ≠ k := by omega
        simp [tget?, this, ih]

theorem tget?_tset_other {α : Type} (t : Tab α) {k j : Nat} (v : α) (h : k ≠ j) : tget? (tset t k v) j = tget? t j := by
  induction t with
  | nil => simp [tset, tget?, h]
  | cons e rest ih =>
    obtain ⟨n, u⟩ := e
    simp only [tset]
    split
    · simp [tget?, h]
    · split
      · subst_vars
        simp [tget?, h]
      · simp only [tget?, ih]

@[simp] theorem tget?_tdel_same {α : Type} (t : Tab α) (k : Nat) : tget? (tdel t k) k = none := by
  induction t with
  | nil => rfl
  | cons e rest ih =>
    obtain ⟨n, u⟩ := e
    simp only [tdel]
    split
    · exact ih
    · simp [tget?, *]

theorem tget?_tdel_other {α : Type} (t : Tab α) {k j : Nat} (h : k ≠ j) : tget? (tdel t k) j = tget? t j := by
  induction t with
  | nil => rfl
  | cons e rest ih =>
    obtain ⟨n, u⟩ := e
    simp only [tdel]
    split
    · subst_vars
      simp [tget?, h, ih]
    · simp only [tget?, ih]

@[simp] theorem tget_tset_same {α : Type} (t : Tab α) (k : Nat) (v d : α) : tget (tset t k v) k d = v := by simp [tget]

theorem tget_tset_other {α : Type} (t : Tab α) {k j : Nat} (v d : α) (h : k ≠ j) : tget (tset t k v) j d = tget t j d := by
  simp [tget, tget?_tset_other t v h]

@[simp] theorem tget_tdel_same {α : Type} (t : Tab α) (k : Nat) (d : α) : tget (tdel t k) k d = d := by simp [tget]

theorem tget_tdel_other {α : Type} (t : Tab α) {k j : Nat} (d : α) (h : k ≠ j) : tget (tdel t k) j d = tget t j d := by
  simp [tget, tget?_tdel_other t h]

/-- A change of an entry, read back: the changed entry is new, every other one is as before. -/
theorem tget_tset {α : Type} (t : Tab α) (k j : Nat) (v d : α) : tget (tset t k v) j d = if k = j then v else tget t j d := by
  split
  · subst_vars
    simp
  · exact tget_tset_other t v d ‹_›

@[simp] theorem tget_tupd_same {α : Type} (t : Tab α) (k : Nat) (d : α) (f : α → α) : tget (tupd t k d f) k d = f (tget t k d) := by
  simp [tupd]

theorem tget_tupd_other {α : Type} (t : Tab α) {k j : Nat} (d : α) (f : α → α) (h : k ≠ j) :
    tget (tupd t k d f) j d = tget t j d := by simp [tupd, tget_tset_other t _ d h]

/-- The canonical form of a table reads as the table. -/
@[simp] theorem tget?_tabNorm {α : Type} (t : Tab α) (k : Nat) : tget? (tabNorm t) k = tget? t k := by
  induction t with
  | nil => rfl
  | cons e rest ih =>
    obtain ⟨n, u⟩ := e
    have : tabNorm ((n, u) :: rest) = tset (tabNorm rest) n u := rfl
    rw [this]
    by_cases h : n = k
    · subst h
      simp [tget?]
    · rw [tget?_tset_other _ _ h, ih]
      simp [tget?, h]

@[simp] theorem tget_tabNorm {α : Type} (t : Tab α) (k : Nat) (d : α) : tget (tabNorm t) k d = tget t k d := by simp [tget]

/-! ### The canonical form -/

/-- The first number of a table lies above a bound, if there is one. -/
def tabAbove {α : Type} (b : Nat) : Tab α → Prop
  | [] => True
  | (n, _) :: _ => b < n

theorem tabWf_cons {α : Type} (n : Nat) (v : α) (t : Tab α) : tabWf ((n, v) :: t) = true ↔ tabAbove n t ∧ tabWf t = true := by
  cases t with
  | nil => simp [tabWf, tabAbove]
  | cons e rest => simp [tabWf, tabAbove]

theorem tabAbove_tset {α : Type} {b k : Nat} (v : α) {t : Tab α} (h : tabAbove b t) (hk : b < k) : tabAbove b (tset t k v) := by
  cases t with
  | nil => exact hk
  | cons e rest =>
    obtain ⟨n, u⟩ := e
    have hb : b < n := h
    simp only [tset]
    split
    · exact hk
    · split <;> assumption

/-- A change of an entry keeps the canonical form. -/
theorem tabWf_tset {α : Type} {t : Tab α} (k : Nat) (v : α) (h : tabWf t = true) : tabWf (tset t k v) = true := by
  induction t with
  | nil => rfl
  | cons e rest ih =>
    obtain ⟨n, u⟩ := e
    have ⟨ha, hr⟩ := (tabWf_cons n u rest).1 h
    simp only [tset]
    split
    · exact (tabWf_cons k v _).2 ⟨‹_›, h⟩
    · split
      · subst_vars
        exact (tabWf_cons _ v rest).2 ⟨ha, hr⟩
      · exact (tabWf_cons n u _).2 ⟨tabAbove_tset v ha (by omega), ih hr⟩

theorem tabAbove_tdel {α : Type} {b k : Nat} {t : Tab α} (h : tabAbove b t) (hw : tabWf t = true) : tabAbove b (tdel t k) := by
  induction t generalizing b with
  | nil => trivial
  | cons e rest ih =>
    obtain ⟨n, u⟩ := e
    have hb : b < n := h
    have ⟨ha, hr⟩ := (tabWf_cons n u rest).1 hw
    simp only [tdel]
    split
    · have h2 := ih ha hr
      cases hq : tdel rest k with
      | nil => trivial
      | cons x xs =>
        rw [hq] at h2
        obtain ⟨m, y⟩ := x
        have hm : n < m := h2
        exact Nat.lt_trans hb hm
    · exact hb

/-- The removal of an entry keeps the canonical form. -/
theorem tabWf_tdel {α : Type} {t : Tab α} (k : Nat) (h : tabWf t = true) : tabWf (tdel t k) = true := by
  induction t with
  | nil => rfl
  | cons e rest ih =>
    obtain ⟨n, u⟩ := e
    have ⟨ha, hr⟩ := (tabWf_cons n u rest).1 h
    simp only [tdel]
    split
    · exact ih hr
    · exact (tabWf_cons n u _).2 ⟨tabAbove_tdel ha hr, ih hr⟩

/-- What `tabNorm` answers is canonical. -/
@[simp] theorem tabWf_tabNorm {α : Type} (t : Tab α) : tabWf (tabNorm t) = true := by
  induction t with
  | nil => rfl
  | cons e rest ih => exact tabWf_tset e.1 e.2 ih

end Sys2Proof.Machine
end

