-- ==== Sys2Proof/Laws/Regs.lean ====
section
/-! SUPPORT. The laws of the register store and of the fields of a word. -/

namespace Sys2Proof.Machine

open Sys2Proof

variable (d : Dev)

/-! ### Words -/

@[simp] theorem Dev.reg_setReg_same (r : Reg) (w : Word) : (d.setReg r w).reg r = w := by
  unfold Dev.setReg
  split
  · subst_vars
    simp [Dev.reg]
  · simp [Dev.reg]

theorem Dev.reg_setReg_other {r q : Reg} (w : Word) (h : r.addr ≠ q.addr) : (d.setReg r w).reg q = d.reg q := by
  unfold Dev.setReg
  split
  · exact tget_tdel_other _ _ h
  · exact tget_tset_other _ _ _ h

@[simp] theorem Dev.reg_setFld_same (r : Reg) (f : Fld) (v : Nat) : (d.setFld r f v).reg r = putF (d.reg r) f v := by
  simp [Dev.setFld]

theorem Dev.reg_setFld_other {r q : Reg} (f : Fld) (v : Nat) (h : r.addr ≠ q.addr) : (d.setFld r f v).reg q = d.reg q :=
  Dev.reg_setReg_other d _ h

@[simp] theorem Dev.reg_setRegI_same (r : Reg) (x : Int) : (d.setRegI r x).reg r = wI x := by simp [Dev.setRegI]

theorem Dev.reg_setRegI_other {r q : Reg} (x : Int) (h : r.addr ≠ q.addr) : (d.setRegI r x).reg q = d.reg q :=
  Dev.reg_setReg_other d _ h

theorem Dev.reg_bump_other {r q : Reg} (f : Fld) (n : Nat) (h : r.addr ≠ q.addr) : (d.bump r f n).reg q = d.reg q :=
  Dev.reg_setReg_other d _ h

theorem Dev.reg_inc_other {r q : Reg} (h : r.addr ≠ q.addr) : (d.inc r).reg q = d.reg q := Dev.reg_setReg_other d _ h

theorem Dev.reg_maxReg_other {r q : Reg} (n : Nat) (h : r.addr ≠ q.addr) : (d.maxReg r n).reg q = d.reg q := by
  unfold Dev.maxReg
  split
  · exact Dev.reg_setReg_other d _ h
  · rfl

theorem Dev.reg_setPair_other {lo hi q : Reg} (x : Int) (h1 : lo.addr ≠ q.addr) (h2 : hi.addr ≠ q.addr) :
    (d.setPair lo hi x).reg q = d.reg q := by
  simp only [Dev.setPair]
  rw [Dev.reg_setReg_other _ _ h2, Dev.reg_setReg_other _ _ h1]

/-- A write of a register keeps the store canonical. -/
theorem Dev.tabWf_setReg (r : Reg) (w : Word) (h : tabWf d.regs = true) : tabWf (d.setReg r w).regs = true := by
  simp only [Dev.setReg]
  split
  · exact tabWf_tdel _ h
  · exact tabWf_tset _ _ h

/-! ### Fields -/

/-- Bit `i` of the mask of a field: the bits from `lo` to `hi`. -/
theorem testBit_maskF (hi lo i : Nat) : (maskF hi lo).testBit i = (decide (lo ≤ i) && decide (i - lo < hi - lo + 1)) := by
  rw [maskF, ← Nat.shiftLeft_eq, Nat.testBit_shiftLeft, Nat.testBit_two_pow_sub_one]

/-- Bit `i` of a field of a word. -/
theorem testBit_getF (w : Word) (f : Fld) (i : Nat) :
    (getF w f).testBit i = (decide (i < f.hi - f.lo + 1) && w.toNat.testBit (f.lo + i)) := by
  rw [getF, Nat.testBit_mod_two_pow, Nat.testBit_div_two_pow, Nat.add_comm i f.lo]

/-- Bit `i` of a word with a field replaced: the new value's bit within the field, the old bit elsewhere. -/
theorem testBit_putF (w : Word) (f : Fld) (v i : Nat) (hi : i < 32) :
    (putF w f v).toNat.testBit i =
      if decide (f.lo ≤ i) && decide (i - f.lo < f.hi - f.lo + 1) then v.testBit (i - f.lo) else w.toNat.testBit i := by
  have hv : (v % 2 ^ (f.hi - f.lo + 1) * 2 ^ f.lo).testBit i =
      (decide (f.lo ≤ i) && (decide (i - f.lo < f.hi - f.lo + 1) && v.testBit (i - f.lo))) := by
    rw [← Nat.shiftLeft_eq, Nat.testBit_shiftLeft, Nat.testBit_mod_two_pow]
  have hb (x : BitVec 32) : x.toNat.testBit i = x.getLsbD i := rfl
  rw [hb, putF, BitVec.getLsbD_or, BitVec.getLsbD_and, BitVec.getLsbD_not, BitVec.getLsbD_ofNat, BitVec.getLsbD_ofNat, testBit_maskF, hv,
    hb]
  simp only [hi, decide_true, Bool.true_and]
  cases decide (f.lo ≤ i) <;> cases decide (i - f.lo < f.hi - f.lo + 1) <;> cases w.getLsbD i <;> simp

/-- A field reads what was put there, cut to its width. -/
theorem getF_putF_same (w : Word) (f : Fld) (v : Nat) (h : f.hi < 32) (hl : f.lo ≤ f.hi) :
    getF (putF w f v) f = v % 2 ^ (f.hi - f.lo + 1) := by
  apply Nat.eq_of_testBit_eq
  intro i
  rw [testBit_getF, Nat.testBit_mod_two_pow]
  by_cases hi : i < f.hi - f.lo + 1
  · rw [testBit_putF _ _ _ _ (by omega)]
    simp [hi]
  · simp [hi]

/-- A field reads as before where another field, apart from it, was replaced. -/
theorem getF_putF_other (w : Word) (f g : Fld) (v : Nat) (h : f.hi < g.lo ∨ g.hi < f.lo) (hf : f.lo ≤ f.hi) (hg : g.lo ≤ g.hi)
    (h32 : g.hi < 32) : getF (putF w f v) g = getF w g := by
  apply Nat.eq_of_testBit_eq
  intro i
  rw [testBit_getF, testBit_getF]
  by_cases hi : i < g.hi - g.lo + 1
  · rw [testBit_putF _ _ _ _ (by omega)]
    have : (decide (f.lo ≤ g.lo + i) && decide (g.lo + i - f.lo < f.hi - f.lo + 1)) = false := by
      rw [Bool.and_eq_false_iff, decide_eq_false_iff_not, decide_eq_false_iff_not]
      omega
    rw [this]
    rfl
  · simp [hi]

/-- A field holds no more than its width. -/
theorem getF_lt (w : Word) (f : Fld) : getF w f < 2 ^ (f.hi - f.lo + 1) := Nat.mod_lt _ (Nat.two_pow_pos _)

@[simp] theorem getF_whole (w : Word) : getF w wholeF = w.toNat := by
  simp only [getF, Nat.pow_zero, Nat.div_one]
  exact Nat.mod_eq_of_lt w.isLt

@[simp] theorem putF_whole (w : Word) (v : Nat) : putF w wholeF v = BitVec.ofNat 32 v := by
  apply BitVec.eq_of_toNat_eq
  apply Nat.eq_of_testBit_eq
  intro i
  by_cases hi : i < 32
  · rw [testBit_putF _ _ _ _ hi]
    simp [Nat.testBit_mod_two_pow, hi, -Nat.reducePow]
  · have h1 := Nat.testBit_lt_two_pow (Nat.lt_of_lt_of_le (putF w wholeF v).isLt (Nat.pow_le_pow_right (by omega) (Nat.not_lt.1 hi)))
    have h2 := Nat.testBit_lt_two_pow (Nat.lt_of_lt_of_le (BitVec.ofNat 32 v).isLt (Nat.pow_le_pow_right (by omega) (Nat.not_lt.1 hi)))
    rw [h1, h2]

/-! ### Fields of registers -/

/-- A field of a register reads what was put there. -/
theorem Dev.fld_setFld_same (r : Reg) (f : Fld) (v : Nat) (h : f.hi < 32) (hl : f.lo ≤ f.hi) :
    (d.setFld r f v).fld r f = v % 2 ^ (f.hi - f.lo + 1) := by
  simp [Dev.fld, getF_putF_same _ _ _ h hl]

/-- A field of a register reads as before where another field of it was put. -/
theorem Dev.fld_setFld_apart (r : Reg) (f g : Fld) (v : Nat) (h : f.hi < g.lo ∨ g.hi < f.lo) (hf : f.lo ≤ f.hi) (hg : g.lo ≤ g.hi)
    (h32 : g.hi < 32) : (d.setFld r f v).fld r g = d.fld r g := by
  simp [Dev.fld, getF_putF_other _ _ _ _ h hf hg h32]

/-- A field of another register reads as before. -/
theorem Dev.fld_setFld_other {r q : Reg} (f g : Fld) (v : Nat) (h : r.addr ≠ q.addr) : (d.setFld r f v).fld q g = d.fld q g := by
  simp [Dev.fld, Dev.reg_setFld_other d f v h]

theorem Dev.fld_setReg_other {r q : Reg} (w : Word) (g : Fld) (h : r.addr ≠ q.addr) : (d.setReg r w).fld q g = d.fld q g := by
  simp [Dev.fld, Dev.reg_setReg_other d w h]

@[simp] theorem Dev.fld_setReg_same (r : Reg) (w : Word) (g : Fld) : (d.setReg r w).fld r g = getF w g := by simp [Dev.fld]

/-- A saturating counter goes up by one. -/
theorem Dev.inc_reg (r : Reg) : ((d.inc r).reg r).toNat = min ((d.reg r).toNat + 1) (2 ^ 32 - 1) := by
  simp only [Dev.inc, Dev.bump, Dev.reg_setFld_same, putF_whole, BitVec.toNat_ofNat, Dev.fld, getF_whole]
  omega

end Sys2Proof.Machine
end

