-- ==== Sys2Proof/Laws/Run.lean ====
section
/-! SUPPORT. What the running of a command adds to the command's own effect: the selection of the power state, the arming at start, the gates
of the legs and the pairing link (`Dev.settle`), the taking of events (`Dev.flush`) and the canonical form (`Dev.seal`). `run_next` says all of it once. -/

namespace Sys2Proof.Machine

open Sys2Proof

/-- The blocks that nothing after a command's own effect touches, but for gates that become inactive and frames that leave on the
pairing link. -/
structure Kept (d e : Dev) : Prop where
  clk : e.clk = d.clk
  fresh : d.link.q = [] → e.fresh = d.fresh
  fil : e.fil = d.fil
  time : e.time = d.time
  line : e.line = d.line
  engs : e.engs = d.engs
  axs : e.axs = d.axs
  pwm : { e.pwm with legs := [] } = { d.pwm with legs := [] }
  legs : ∀ l, (d.leg l).held (e.leg l)
  fbk : e.fbk = d.fbk
  mot : e.mot = d.mot
  arms : e.arms = d.arms
  dio : e.dio = d.dio
  tall : e.tall = d.tall
  gorse : e.gorse = d.gorse
  safe : e.safe = d.safe
  can : e.can = d.can
  duo : e.duo = d.duo
  link : d.link.q = [] → e.link = d.link
  sec : e.sec = d.sec
  sys : e.sys = d.sys

theorem LegSt.held.trans {x y z : LegSt} (h : x.held y) (k : y.held z) : x.held z := by
  rcases h with rfl | rfl
  · exact k
  · rcases k with rfl | rfl <;> exact .inr rfl

theorem Kept.refl (d : Dev) : Kept d d :=
  ⟨rfl, fun _ => rfl, rfl, rfl, rfl, rfl, rfl, rfl, fun _ => .inl rfl, rfl, rfl, rfl, rfl, rfl, rfl, rfl, rfl, rfl, fun _ => rfl, rfl, rfl⟩

theorem Kept.trans {a b c : Dev} (h : Kept a b) (k : Kept b c) : Kept a c where
  clk := k.clk.trans h.clk
  fresh q := (k.fresh (by rw [h.link q, q])).trans (h.fresh q)
  fil := k.fil.trans h.fil
  time := k.time.trans h.time
  line := k.line.trans h.line
  engs := k.engs.trans h.engs
  axs := k.axs.trans h.axs
  pwm := k.pwm.trans h.pwm
  legs l := (h.legs l).trans (k.legs l)
  fbk := k.fbk.trans h.fbk
  mot := k.mot.trans h.mot
  arms := k.arms.trans h.arms
  dio := k.dio.trans h.dio
  tall := k.tall.trans h.tall
  gorse := k.gorse.trans h.gorse
  safe := k.safe.trans h.safe
  can := k.can.trans h.can
  duo := k.duo.trans h.duo
  link q := (k.link (by rw [h.link q, q])).trans (h.link q)
  sec := k.sec.trans h.sec
  sys := k.sys.trans h.sys

/-- Only the registers, the power state's record, the outputs, the events and the blocks of the Bureau, the host, the capture and the
loader differ. -/
theorem Kept.plain {d e : Dev}
    (h : e = { d with
      regs := e.regs, w1c := e.w1c, out := e.out, evq := e.evq, bureau := e.bureau, host := e.host, cap := e.cap,
      loader := e.loader, pwr := e.pwr }) : Kept d e where
  clk := (congrArg Dev.clk h).trans rfl
  fresh _ := (congrArg Dev.fresh h).trans rfl
  fil := (congrArg Dev.fil h).trans rfl
  time := (congrArg Dev.time h).trans rfl
  line := (congrArg Dev.line h).trans rfl
  engs := (congrArg Dev.engs h).trans rfl
  axs := (congrArg Dev.axs h).trans rfl
  pwm := (congrArg (fun x => { x.pwm with legs := [] }) h).trans rfl
  legs l := .inl ((congrArg (fun x => x.leg l) h).trans rfl)
  fbk := (congrArg Dev.fbk h).trans rfl
  mot := (congrArg Dev.mot h).trans rfl
  arms := (congrArg Dev.arms h).trans rfl
  dio := (congrArg Dev.dio h).trans rfl
  tall := (congrArg Dev.tall h).trans rfl
  gorse := (congrArg Dev.gorse h).trans rfl
  safe := (congrArg Dev.safe h).trans rfl
  can := (congrArg Dev.can h).trans rfl
  duo := (congrArg Dev.duo h).trans rfl
  link _ := (congrArg Dev.link h).trans rfl
  sec := (congrArg Dev.sec h).trans rfl
  sys := (congrArg Dev.sys h).trans rfl

/-! ### Settling -/

/-- The selection of the power state writes PWR_STAT and the record of the selection, and nothing else (R608). -/
theorem selectPower_kept (d : Dev) :
    Kept d d.selectPower ∧ d.selectPower.out = d.out ∧ d.selectPower.evq = d.evq ∧ d.selectPower.bureau = d.bureau ∧
    d.selectPower.host = d.host ∧ d.selectPower.cap = d.cap ∧ d.selectPower.loader = d.loader ∧
    ∀ r : Reg, r.addr ≠ R.PWR_STAT.addr → d.selectPower.reg r = d.reg r := by
  have ho {r : Reg} (hr : r.addr ≠ R.PWR_STAT.addr) (e : Dev) (f : Fld) (u : Nat) :
      tget (e.setFld R.PWR_STAT f u).regs r.addr r.name.info.resetWord = tget e.regs r.addr r.name.info.resetWord :=
    Dev.reg_setFld_other e f u (Ne.symm hr)
  unfold Dev.selectPower
  dsimp only
  split
  · exact ⟨Kept.refl d, rfl, rfl, rfl, rfl, rfl, rfl, fun _ _ => rfl⟩
  · split <;> split <;>
      exact ⟨⟨rfl, fun _ => rfl, rfl, rfl, rfl, rfl, rfl, rfl, fun _ => .inl rfl, rfl, rfl, rfl, rfl, rfl, rfl, rfl, rfl, rfl,
          fun _ => rfl, rfl, rfl⟩,
        rfl, rfl, rfl, rfl, rfl, rfl, fun r hr => by simp only [Dev.reg, ho hr]⟩

/-- The arming at start writes FAB_IMG_STAT and the loader's job, and nothing else (R142). -/
theorem bootArm_kept (d : Dev) :
    Kept d d.bootArm ∧ d.bootArm.out = d.out ∧ d.bootArm.evq = d.evq ∧ d.bootArm.bureau = d.bureau ∧
    d.bootArm.host = d.host ∧ d.bootArm.cap = d.cap ∧ d.bootArm.pwr = d.pwr ∧
    (∃ j, d.bootArm.loader = { d.loader with job := j }) ∧
    ∀ r : Reg, r.addr ≠ R.FAB_IMG_STAT.addr → d.bootArm.reg r = d.reg r := by
  unfold Dev.bootArm
  split
  · exact ⟨Kept.plain rfl, rfl, rfl, rfl, rfl, rfl, rfl,
      ⟨_, rfl⟩, fun r hr => Dev.reg_setFld_other d _ _ (Ne.symm hr)⟩
  · exact ⟨Kept.refl d, rfl, rfl, rfl, rfl, rfl, rfl, ⟨d.loader.job, rfl⟩, fun _ _ => rfl⟩

/-- The gates of a leg that follow: its gates may become inactive, and nothing else changes. -/
theorem gateFollows_kept (d : Dev) (l : Nat) :
    Kept d (d.gateFollows l) ∧ (∃ m, (d.gateFollows l).out = d.out ++ m) ∧ (d.gateFollows l).evq = d.evq ∧
    (d.gateFollows l).cap = d.cap ∧ (d.gateFollows l).loader = d.loader ∧ (d.gateFollows l).regs = d.regs := by
  unfold Dev.gateFollows
  dsimp only
  split
  · exact ⟨Kept.refl d, ⟨[], (List.append_nil _).symm⟩, rfl, rfl, rfl, rfl⟩
  · refine ⟨⟨rfl, fun _ => rfl, rfl, rfl, rfl, rfl, rfl, rfl, fun j => ?_, rfl, rfl, rfl, rfl, rfl, rfl, rfl, rfl, rfl, fun _ => rfl, rfl, rfl⟩,
      ⟨_, rfl⟩, rfl, rfl, rfl, rfl⟩
    show (d.leg j).held (tget (tset d.pwm.legs l _) j {})
    rw [tget_tset]
    split
    · subst_vars
      exact .inr rfl
    · exact .inl rfl

/-- The gates of every leg. -/
theorem gatesFollow_kept (d : Dev) :
    Kept d d.gatesFollow ∧ (∃ m, d.gatesFollow.out = d.out ++ m) ∧ d.gatesFollow.evq = d.evq ∧
    d.gatesFollow.cap = d.cap ∧ d.gatesFollow.loader = d.loader ∧ d.gatesFollow.regs = d.regs := by
  unfold Dev.gatesFollow Dev.each
  generalize d.pwm.legs.map (·.1) = ks
  induction ks generalizing d with
  | nil => exact ⟨Kept.refl d, ⟨[], (List.append_nil _).symm⟩, rfl, rfl, rfl, rfl⟩
  | cons l rest ih =>
    obtain ⟨k1, ⟨m1, o1⟩, v1, c1, j1, r1⟩ := gateFollows_kept d l
    obtain ⟨k2, ⟨m2, o2⟩, v2, c2, j2, r2⟩ := ih (d.gateFollows l)
    exact ⟨k1.trans k2, ⟨m1 ++ m2, by rw [List.foldl_cons, o2, o1, List.append_assoc]⟩, v2.trans v1, c2.trans c1, j2.trans j1, r2.trans r1⟩

/-- Frames that leave change the link, the counter of free values and what is put out; with no frame waiting nothing changes. -/
theorem linkServe_kept (start fuel : Nat) : ∀ d : Dev,
    Kept d (d.linkServe start fuel) ∧ (∃ m, (d.linkServe start fuel).out = d.out ++ m) ∧ (d.linkServe start fuel).evq = d.evq ∧
    (d.linkServe start fuel).cap = d.cap ∧ (d.linkServe start fuel).loader = d.loader ∧ (d.linkServe start fuel).regs = d.regs := by
  induction fuel with
  | zero => exact fun d => ⟨Kept.refl d, ⟨[], (List.append_nil _).symm⟩, rfl, rfl, rfl, rfl⟩
  | succ n ih =>
    intro d
    have hq (x : Nat × Out) (h : nextFrame d.link.q = some x) : d.link.q ≠ [] := by
      intro h0
      rw [h0] at h
      cases h
    unfold Dev.linkServe
    split
    · exact ⟨Kept.refl d, ⟨[], (List.append_nil _).symm⟩, rfl, rfl, rfl, rfl⟩
    · rename_i x hx
      have hn := hq x hx
      split
      · exact ⟨⟨rfl, fun _ => rfl, rfl, rfl, rfl, rfl, rfl, rfl, fun _ => .inl rfl, rfl, rfl, rfl, rfl, rfl, rfl, rfl, rfl, rfl,
          fun h => absurd h hn, rfl, rfl⟩, ⟨[], (List.append_nil _).symm⟩, rfl, rfl, rfl, rfl⟩
      · split
        · exact ⟨Kept.refl d, ⟨[], (List.append_nil _).symm⟩, rfl, rfl, rfl, rfl⟩
        · dsimp only
          generalize hd : ({ d with fresh := _, link := _ } : Dev) = d1
          obtain ⟨k, ⟨m, o⟩, v, c, j, r⟩ := ih (d1.emit x.2)
          have k1 : Kept d (d1.emit x.2) := by
            subst hd
            exact ⟨rfl, fun h => absurd h hn, rfl, rfl, rfl, rfl, rfl, rfl, fun _ => .inl rfl, rfl, rfl, rfl, rfl, rfl, rfl, rfl, rfl, rfl,
              fun h => absurd h hn, rfl, rfl⟩
          refine ⟨k1.trans k, ⟨[x.2] ++ m, ?_⟩, v.trans ?_, c.trans ?_, j.trans ?_, r.trans ?_⟩ <;> subst hd <;> first | rfl | skip
          rw [o, ← List.append_assoc]
          rfl

/-! ### The taking of events -/

/-- What is put out when an event is offered comes after what was there. -/
theorem offerOne_out (clk slot : Nat) (e : Ev) (r : Rec) (n : Bool) (x : EvSink × List Ev) :
    ∃ l, (offerOne clk slot e r n x).1.out = x.1.out ++ l := by
  unfold offerOne
  split
  · exact ⟨[], (List.append_nil _).symm⟩
  · split
    · exact ⟨[], (List.append_nil _).symm⟩
    · split
      · dsimp only
        split
        · exact ⟨_, rfl⟩
        · exact ⟨[], (List.append_nil _).symm⟩
      · exact ⟨[], (List.append_nil _).symm⟩

theorem offer_out (clk : Nat) (e : Ev) (r : Rec) (n : Bool) (x : EvSink) : ∃ l, (offer clk e r n x).1.out = x.out ++ l := by
  have h : ∀ (ks : List Nat) (y : EvSink × List Ev), ∃ l, (ks.foldl (fun acc slot => offerOne clk slot e r n acc) y).1.out = y.1.out ++ l := by
    intro ks
    induction ks with
    | nil => exact fun y => ⟨[], (List.append_nil _).symm⟩
    | cons k rest ih =>
      intro y
      obtain ⟨l1, h1⟩ := offerOne_out clk k e r n y
      obtain ⟨l2, h2⟩ := ih (offerOne clk k e r n y)
      exact ⟨l1 ++ l2, by rw [List.foldl_cons, h2, h1, List.append_assoc]⟩
  exact h _ _

theorem sinkEv_out (d : Dev) (x : EvSink) (e : Ev) : ∃ l, (d.sinkEv x e).1.out = x.out ++ l := by
  unfold Dev.sinkEv
  split
  · exact ⟨[], (List.append_nil _).symm⟩
  · exact offer_out _ _ _ _ _

theorem sinkAll_out (d : Dev) (fuel : Nat) : ∀ (x : EvSink) (l : List Ev), ∃ m, (d.sinkAll fuel x l).out = x.out ++ m := by
  induction fuel with
  | zero => exact fun x _ => ⟨[], (List.append_nil _).symm⟩
  | succ n ih =>
    intro x l
    unfold Dev.sinkAll
    induction l generalizing x with
    | nil => exact ⟨[], (List.append_nil _).symm⟩
    | cons e rest ihl =>
      obtain ⟨l1, h1⟩ := sinkEv_out d x e
      obtain ⟨l2, h2⟩ := ih (d.sinkEv x e).1 (d.sinkEv x e).2
      obtain ⟨l3, h3⟩ := ihl (d.sinkAll n (d.sinkEv x e).1 (d.sinkEv x e).2)
      exact ⟨l1 ++ l2 ++ l3, by rw [List.foldl_cons, h3, h2, h1, List.append_assoc, List.append_assoc, List.append_assoc]⟩

/-- The counting of datagrams changes the counters of the host ports, and nothing else. -/
theorem countTx_kept (d : Dev) (outs : List Out) :
    Kept d (d.countTx outs) ∧ (d.countTx outs).out = d.out ∧ (d.countTx outs).evq = d.evq ∧ (d.countTx outs).bureau = d.bureau ∧
    (d.countTx outs).host = d.host ∧ (d.countTx outs).cap = d.cap ∧ (d.countTx outs).loader = d.loader ∧
    (d.countTx outs).pwr = d.pwr ∧
    ∀ r : Reg, (∀ p, r.addr ≠ (R.HOST_P_CNT_TX p).addr) → (d.countTx outs).reg r = d.reg r := by
  unfold Dev.countTx Dev.each
  induction outs generalizing d with
  | nil => exact ⟨Kept.refl d, rfl, rfl, rfl, rfl, rfl, rfl, rfl, fun _ _ => rfl⟩
  | cons o rest ih =>
    rw [List.foldl_cons]
    have inc1 (p : Nat) : Kept d (d.inc (R.HOST_P_CNT_TX p)) := Kept.plain rfl
    cases o with
    | placed q pos m =>
      dsimp only
      split
      · split
        · rename_i s _ _
          obtain ⟨k, h1, h2, h3, h4, h5, h6, h7, h8⟩ := ih (d.inc (R.HOST_P_CNT_TX s.peer.port))
          exact ⟨(inc1 _).trans k, h1, h2, h3, h4, h5, h6, h7, fun r hr => (h8 r hr).trans (Dev.reg_inc_other d (Ne.symm (hr _)))⟩
        · exact ih d
      · exact ih d
    | _ => exact ih d

/-- The taking of events leaves every block but the Bureau, the host's queues and subscriptions, and the capture's conditions; the
events are all taken, and what the command put out stands before what the events put out. -/
theorem flush_kept (d : Dev) :
    Kept d d.flush ∧ (∃ l, d.flush.out = d.out ++ l) ∧ d.flush.evq = [] ∧ (∃ m, d.flush.cap = { d.cap with met := m }) ∧
    d.flush.loader = d.loader ∧ d.flush.pwr = d.pwr ∧
    ∀ r : Reg, (∀ p, r.addr ≠ (R.HOST_P_CNT_TX p).addr) → d.flush.reg r = d.reg r := by
  obtain ⟨l, hl⟩ := sinkAll_out d 6 ⟨d.bureau, d.host, d.cap.met, d.out⟩ d.evOrder
  unfold Dev.flush
  generalize d.sinkAll 6 ⟨d.bureau, d.host, d.cap.met, d.out⟩ d.evOrder = x at hl
  dsimp only
  have hm : Kept d (if d.bureau.retired.length < x.bureau.retired.length then d.markSet R.EVT_STAT (2 ^ F.EVT_STAT.REGFAIL.lo) else d) ∧
      (if d.bureau.retired.length < x.bureau.retired.length then d.markSet R.EVT_STAT (2 ^ F.EVT_STAT.REGFAIL.lo) else d).regs = d.regs ∧
      (if d.bureau.retired.length < x.bureau.retired.length then d.markSet R.EVT_STAT (2 ^ F.EVT_STAT.REGFAIL.lo) else d).loader = d.loader ∧
      (if d.bureau.retired.length < x.bureau.retired.length then d.markSet R.EVT_STAT (2 ^ F.EVT_STAT.REGFAIL.lo) else d).pwr = d.pwr := by
    split
    · exact ⟨Kept.plain rfl, rfl, rfl, rfl⟩
    · exact ⟨Kept.refl d, rfl, rfl, rfl⟩
  generalize (if d.bureau.retired.length < x.bureau.retired.length then d.markSet R.EVT_STAT (2 ^ F.EVT_STAT.REGFAIL.lo) else d) = e at hm
  obtain ⟨m1, m2, m3, m4⟩ := hm
  have hc := countTx_kept
    { e with bureau := x.bureau, host := x.host, cap := { d.cap with met := x.met }, out := x.out, evq := [] } (x.out.drop d.out.length)
  dsimp only at hc
  obtain ⟨k, h1, h2, _, _, h5, h6, h7, h8⟩ := hc
  exact ⟨(m1.trans (Kept.plain rfl)).trans k, ⟨l, h1.trans hl⟩, h2, ⟨x.met, h5⟩, h6.trans m3, h7.trans m4,
    fun r hr => (h8 r hr).trans (Dev.reg_congr m2 r)⟩

/-! ### Running -/

/-- The registers that a command may find changed beside its own effect: the power state's, the loader's, and the counters of the
datagrams sent to hosts. -/
def OwnReg (r : Reg) : Prop :=
  r.addr ≠ R.PWR_STAT.addr ∧ r.addr ≠ R.FAB_IMG_STAT.addr ∧ ∀ p, r.addr ≠ (R.HOST_P_CNT_TX p).addr

theorem OwnReg.of {r : Reg} (h1 : r.addr ≠ 2097156) (h2 : r.addr ≠ 16777220) (h3 : r.addr < 234881348 ∨ (r.addr - 234881348) % 128 ≠ 0) :
    OwnReg r := by
  refine ⟨h1, h2, fun p => ?_⟩
  rw [addr_HOST_P_CNT_TX]
  omega

/-- What follows a command's own effect, which left `d`: `e` is the device that the command answers. -/
structure Follows (d e : Dev) : Prop where
  kept : Kept d e
  reg : ∀ r, OwnReg r → e.reg r = d.reg r
  out : ∃ l, e.out = d.out ++ l
  evq : e.evq = []
  cap : ∃ m, e.cap = { d.cap with met := m }
  loader : ∃ j, e.loader = { d.loader with job := j }
  wf : tabWf e.regs = true

theorem Follows.fld {d e : Dev} (h : Follows d e) {r : Reg} (hr : OwnReg r) (f : Fld) : e.fld r f = d.fld r f := by
  simp [Dev.fld, h.reg r hr]

theorem Follows.bit {d e : Dev} (h : Follows d e) {r : Reg} (hr : OwnReg r) (f : Fld) : e.bit r f = d.bit r f := by
  simp [Dev.bit, h.fld hr]

theorem post_follows (d : Dev) : Follows d d.settle.flush.seal := by
  obtain ⟨k1, o1, v1, _, _, c1, _, j1, r1⟩ := bootArm_kept d
  obtain ⟨k2, o2, v2, _, _, c2, l2, r2⟩ := selectPower_kept d.bootArm
  obtain ⟨k3, o3, v3, c3, l3, r3⟩ := gatesFollow_kept d.bootArm.selectPower
  obtain ⟨k4, o4, v4, c4, l4, r4⟩ := linkServe_kept d.bootArm.selectPower.gatesFollow.clk d.bootArm.selectPower.gatesFollow.link.q.length
    d.bootArm.selectPower.gatesFollow
  obtain ⟨k5, o5, v5, c5, l5, _, r5⟩ := flush_kept d.settle
  have hs : d.settle = d.bootArm.selectPower.gatesFollow.linkServe d.bootArm.selectPower.gatesFollow.clk
      d.bootArm.selectPower.gatesFollow.link.q.length := rfl
  rw [← hs] at k4 o4 v4 c4 l4 r4
  generalize d.settle = e at *
  have hk : Kept e.flush e.flush.seal := Kept.plain rfl
  refine ⟨((k1.trans (k2.trans (k3.trans k4))).trans k5).trans hk, fun r hr => ?_, ?_, v5, ?_, ?_, tabWf_tabNorm _⟩
  · have ht : e.flush.seal.reg r = e.flush.reg r := tget_tabNorm _ _ _
    rw [ht, r5 r hr.2.2]
    exact ((Dev.reg_congr r4 r).trans (Dev.reg_congr r3 r)).trans ((r2 r hr.1).trans (r1 r hr.2.1))
  · obtain ⟨m3, o3⟩ := o3
    obtain ⟨m4, o4⟩ := o4
    obtain ⟨m5, o5⟩ := o5
    exact ⟨m3 ++ m4 ++ m5, by rw [show e.flush.seal.out = e.flush.out from rfl, o5, o4, o3, o2, o1]; simp only [List.append_assoc]⟩
  · obtain ⟨m, hm⟩ := c5
    exact ⟨m, by rw [show e.flush.seal.cap = e.flush.cap from rfl, hm, c4, c3, c2, c1]⟩
  · obtain ⟨j, hj⟩ := j1
    exact ⟨j, by rw [show e.flush.seal.loader = e.flush.loader from rfl, l5, l4, l3, l2, hj]⟩

/-- The running of any command: it answers a next state, the queue stands, and the rest follows from the command's own effect. -/
theorem runAny_next (s : State) (f : Dev → Dev) :
    ∃ t, s.runAny f = .next t ∧ t.pending = s.pending ∧ Follows (f s.start) t.dev :=
  ⟨_, rfl, rfl, post_follows _⟩

/-- The running of a command while the regulated supply is on. -/
theorem run_next (s : State) (f : Dev → Dev) (h : s.start.sys.off = false) :
    ∃ t, s.run f = .next t ∧ t.pending = s.pending ∧ Follows (f s.start) t.dev := by
  obtain ⟨t, h1, h2, h3⟩ := runAny_next s (fun d => if d.sys.off then d else f d)
  refine ⟨t, h1, h2, ?_⟩
  simpa [h] using h3

/-- The running of a command on an object whose number is within its limit. -/
theorem runIf_next (s : State) (c : Bool) (f : Dev → Dev) (h : s.start.sys.off = false) (hc : c = true) :
    ∃ t, s.runIf c f = .next t ∧ t.pending = s.pending ∧ Follows (f s.start) t.dev := by
  obtain ⟨t, h1, h2, h3⟩ := run_next s (fun d => if c then f d else d.answer .badArg) h
  refine ⟨t, h1, h2, ?_⟩
  simpa [hc] using h3

end Sys2Proof.Machine
end

