-- ==== Sys2Proof/Laws/Access.lean ====
section
/-! SUPPORT. A host's access to a register, accepted: what it leaves. -/

namespace Sys2Proof.Machine

open Sys2Proof

/-! ### The block of an address (R7) -/

theorem blkOf_host {a : Nat} (h : 234881024 ≤ a) : blkOf a = .host := by
  simp [blkOf, blkBases, show 234881024 ≤ a from h]

theorem blkOf_pair {a : Nat} (h : 218103808 ≤ a) (k : a < 234881024) : blkOf a = .pair := by
  simp [blkOf, blkBases, show ¬(234881024 ≤ a) by omega, show 218103808 ≤ a from h]

theorem blkOf_evt {a : Nat} (h : 209715200 ≤ a) (k : a < 218103808) : blkOf a = .evt := by
  simp [blkOf, blkBases, show ¬(234881024 ≤ a) by omega, show ¬(218103808 ≤ a) by omega, show 209715200 ≤ a from h]

theorem blkOf_cap {a : Nat} (h : 201326592 ≤ a) (k : a < 209715200) : blkOf a = .cap := by
  simp [blkOf, blkBases, show ¬(234881024 ≤ a) by omega, show ¬(218103808 ≤ a) by omega, show ¬(209715200 ≤ a) by omega, show 201326592 ≤ a from h]

theorem blkOf_safe {a : Nat} (h : 184549376 ≤ a) (k : a < 201326592) : blkOf a = .safe := by
  simp [blkOf, blkBases, show ¬(234881024 ≤ a) by omega, show ¬(218103808 ≤ a) by omega, show ¬(209715200 ≤ a) by omega, show ¬(201326592 ≤ a) by omega, show 184549376 ≤ a from h]

theorem blkOf_dio {a : Nat} (h : 176160768 ≤ a) (k : a < 184549376) : blkOf a = .dio := by
  simp [blkOf, blkBases, show ¬(234881024 ≤ a) by omega, show ¬(218103808 ≤ a) by omega, show ¬(209715200 ≤ a) by omega, show ¬(201326592 ≤ a) by omega, show ¬(184549376 ≤ a) by omega, show 176160768 ≤ a from h]

theorem blkOf_can {a : Nat} (h : 167772160 ≤ a) (k : a < 176160768) : blkOf a = .can := by
  simp [blkOf, blkBases, show ¬(234881024 ≤ a) by omega, show ¬(218103808 ≤ a) by omega, show ¬(209715200 ≤ a) by omega, show ¬(201326592 ≤ a) by omega, show ¬(184549376 ≤ a) by omega, show ¬(176160768 ≤ a) by omega, show 167772160 ≤ a from h]

theorem blkOf_line {a : Nat} (h : 134217728 ≤ a) (k : a < 167772160) : blkOf a = .line := by
  simp [blkOf, blkBases, show ¬(234881024 ≤ a) by omega, show ¬(218103808 ≤ a) by omega, show ¬(209715200 ≤ a) by omega, show ¬(201326592 ≤ a) by omega, show ¬(184549376 ≤ a) by omega, show ¬(176160768 ≤ a) by omega, show ¬(167772160 ≤ a) by omega, show 134217728 ≤ a from h]

theorem blkOf_gorse {a : Nat} (h : 117440512 ≤ a) (k : a < 134217728) : blkOf a = .gorse := by
  simp [blkOf, blkBases, show ¬(234881024 ≤ a) by omega, show ¬(218103808 ≤ a) by omega, show ¬(209715200 ≤ a) by omega, show ¬(201326592 ≤ a) by omega, show ¬(184549376 ≤ a) by omega, show ¬(176160768 ≤ a) by omega, show ¬(167772160 ≤ a) by omega, show ¬(134217728 ≤ a) by omega, show 117440512 ≤ a from h]

theorem blkOf_tall {a : Nat} (h : 100663296 ≤ a) (k : a < 117440512) : blkOf a = .tall := by
  simp [blkOf, blkBases, show ¬(234881024 ≤ a) by omega, show ¬(218103808 ≤ a) by omega, show ¬(209715200 ≤ a) by omega, show ¬(201326592 ≤ a) by omega, show ¬(184549376 ≤ a) by omega, show ¬(176160768 ≤ a) by omega, show ¬(167772160 ≤ a) by omega, show ¬(134217728 ≤ a) by omega, show ¬(117440512 ≤ a) by omega, show 100663296 ≤ a from h]

theorem blkOf_arm {a : Nat} (h : 83886080 ≤ a) (k : a < 100663296) : blkOf a = .arm := by
  simp [blkOf, blkBases, show ¬(234881024 ≤ a) by omega, show ¬(218103808 ≤ a) by omega, show ¬(209715200 ≤ a) by omega, show ¬(201326592 ≤ a) by omega, show ¬(184549376 ≤ a) by omega, show ¬(176160768 ≤ a) by omega, show ¬(167772160 ≤ a) by omega, show ¬(134217728 ≤ a) by omega, show ¬(117440512 ≤ a) by omega, show ¬(100663296 ≤ a) by omega, show 83886080 ≤ a from h]

theorem blkOf_track {a : Nat} (h : 75497472 ≤ a) (k : a < 83886080) : blkOf a = .track := by
  simp [blkOf, blkBases, show ¬(234881024 ≤ a) by omega, show ¬(218103808 ≤ a) by omega, show ¬(209715200 ≤ a) by omega, show ¬(201326592 ≤ a) by omega, show ¬(184549376 ≤ a) by omega, show ¬(176160768 ≤ a) by omega, show ¬(167772160 ≤ a) by omega, show ¬(134217728 ≤ a) by omega, show ¬(117440512 ≤ a) by omega, show ¬(100663296 ≤ a) by omega, show ¬(83886080 ≤ a) by omega, show 75497472 ≤ a from h]

theorem blkOf_axis {a : Nat} (h : 67108864 ≤ a) (k : a < 75497472) : blkOf a = .axis := by
  simp [blkOf, blkBases, show ¬(234881024 ≤ a) by omega, show ¬(218103808 ≤ a) by omega, show ¬(209715200 ≤ a) by omega, show ¬(201326592 ≤ a) by omega, show ¬(184549376 ≤ a) by omega, show ¬(176160768 ≤ a) by omega, show ¬(167772160 ≤ a) by omega, show ¬(134217728 ≤ a) by omega, show ¬(117440512 ≤ a) by omega, show ¬(100663296 ≤ a) by omega, show ¬(83886080 ≤ a) by omega, show ¬(75497472 ≤ a) by omega, show 67108864 ≤ a from h]

theorem blkOf_fbk {a : Nat} (h : 51380224 ≤ a) (k : a < 67108864) : blkOf a = .fbk := by
  simp [blkOf, blkBases, show ¬(234881024 ≤ a) by omega, show ¬(218103808 ≤ a) by omega, show ¬(209715200 ≤ a) by omega, show ¬(201326592 ≤ a) by omega, show ¬(184549376 ≤ a) by omega, show ¬(176160768 ≤ a) by omega, show ¬(167772160 ≤ a) by omega, show ¬(134217728 ≤ a) by omega, show ¬(117440512 ≤ a) by omega, show ¬(100663296 ≤ a) by omega, show ¬(83886080 ≤ a) by omega, show ¬(75497472 ≤ a) by omega, show ¬(67108864 ≤ a) by omega, show 51380224 ≤ a from h]

theorem blkOf_pwm {a : Nat} (h : 50331648 ≤ a) (k : a < 51380224) : blkOf a = .pwm := by
  simp [blkOf, blkBases, show ¬(234881024 ≤ a) by omega, show ¬(218103808 ≤ a) by omega, show ¬(209715200 ≤ a) by omega, show ¬(201326592 ≤ a) by omega, show ¬(184549376 ≤ a) by omega, show ¬(176160768 ≤ a) by omega, show ¬(167772160 ≤ a) by omega, show ¬(134217728 ≤ a) by omega, show ¬(117440512 ≤ a) by omega, show ¬(100663296 ≤ a) by omega, show ¬(83886080 ≤ a) by omega, show ¬(75497472 ≤ a) by omega, show ¬(67108864 ≤ a) by omega, show ¬(51380224 ≤ a) by omega, show 50331648 ≤ a from h]

theorem blkOf_ce {a : Nat} (h : 33554432 ≤ a) (k : a < 50331648) : blkOf a = .ce := by
  simp [blkOf, blkBases, show ¬(234881024 ≤ a) by omega, show ¬(218103808 ≤ a) by omega, show ¬(209715200 ≤ a) by omega, show ¬(201326592 ≤ a) by omega, show ¬(184549376 ≤ a) by omega, show ¬(176160768 ≤ a) by omega, show ¬(167772160 ≤ a) by omega, show ¬(134217728 ≤ a) by omega, show ¬(117440512 ≤ a) by omega, show ¬(100663296 ≤ a) by omega, show ¬(83886080 ≤ a) by omega, show ¬(75497472 ≤ a) by omega, show ¬(67108864 ≤ a) by omega, show ¬(51380224 ≤ a) by omega, show ¬(50331648 ≤ a) by omega, show 33554432 ≤ a from h]

theorem blkOf_fab {a : Nat} (h : 16777216 ≤ a) (k : a < 33554432) : blkOf a = .fab := by
  simp [blkOf, blkBases, show ¬(234881024 ≤ a) by omega, show ¬(218103808 ≤ a) by omega, show ¬(209715200 ≤ a) by omega, show ¬(201326592 ≤ a) by omega, show ¬(184549376 ≤ a) by omega, show ¬(176160768 ≤ a) by omega, show ¬(167772160 ≤ a) by omega, show ¬(134217728 ≤ a) by omega, show ¬(117440512 ≤ a) by omega, show ¬(100663296 ≤ a) by omega, show ¬(83886080 ≤ a) by omega, show ¬(75497472 ≤ a) by omega, show ¬(67108864 ≤ a) by omega, show ¬(51380224 ≤ a) by omega, show ¬(50331648 ≤ a) by omega, show ¬(33554432 ≤ a) by omega, show 16777216 ≤ a from h]

theorem blkOf_time {a : Nat} (h : 8388608 ≤ a) (k : a < 16777216) : blkOf a = .time := by
  simp [blkOf, blkBases, show ¬(234881024 ≤ a) by omega, show ¬(218103808 ≤ a) by omega, show ¬(209715200 ≤ a) by omega, show ¬(201326592 ≤ a) by omega, show ¬(184549376 ≤ a) by omega, show ¬(176160768 ≤ a) by omega, show ¬(167772160 ≤ a) by omega, show ¬(134217728 ≤ a) by omega, show ¬(117440512 ≤ a) by omega, show ¬(100663296 ≤ a) by omega, show ¬(83886080 ≤ a) by omega, show ¬(75497472 ≤ a) by omega, show ¬(67108864 ≤ a) by omega, show ¬(51380224 ≤ a) by omega, show ¬(50331648 ≤ a) by omega, show ¬(33554432 ≤ a) by omega, show ¬(16777216 ≤ a) by omega, show 8388608 ≤ a from h]

theorem blkOf_sec {a : Nat} (h : 4194304 ≤ a) (k : a < 8388608) : blkOf a = .sec := by
  simp [blkOf, blkBases, show ¬(234881024 ≤ a) by omega, show ¬(218103808 ≤ a) by omega, show ¬(209715200 ≤ a) by omega, show ¬(201326592 ≤ a) by omega, show ¬(184549376 ≤ a) by omega, show ¬(176160768 ≤ a) by omega, show ¬(167772160 ≤ a) by omega, show ¬(134217728 ≤ a) by omega, show ¬(117440512 ≤ a) by omega, show ¬(100663296 ≤ a) by omega, show ¬(83886080 ≤ a) by omega, show ¬(75497472 ≤ a) by omega, show ¬(67108864 ≤ a) by omega, show ¬(51380224 ≤ a) by omega, show ¬(50331648 ≤ a) by omega, show ¬(33554432 ≤ a) by omega, show ¬(16777216 ≤ a) by omega, show ¬(8388608 ≤ a) by omega, show 4194304 ≤ a from h]

theorem blkOf_pwr {a : Nat} (h : 2097152 ≤ a) (k : a < 4194304) : blkOf a = .pwr := by
  simp [blkOf, blkBases, show ¬(234881024 ≤ a) by omega, show ¬(218103808 ≤ a) by omega, show ¬(209715200 ≤ a) by omega, show ¬(201326592 ≤ a) by omega, show ¬(184549376 ≤ a) by omega, show ¬(176160768 ≤ a) by omega, show ¬(167772160 ≤ a) by omega, show ¬(134217728 ≤ a) by omega, show ¬(117440512 ≤ a) by omega, show ¬(100663296 ≤ a) by omega, show ¬(83886080 ≤ a) by omega, show ¬(75497472 ≤ a) by omega, show ¬(67108864 ≤ a) by omega, show ¬(51380224 ≤ a) by omega, show ¬(50331648 ≤ a) by omega, show ¬(33554432 ≤ a) by omega, show ¬(16777216 ≤ a) by omega, show ¬(8388608 ≤ a) by omega, show ¬(4194304 ≤ a) by omega, show 2097152 ≤ a from h]

theorem blkOf_clk {a : Nat} (h : 1048576 ≤ a) (k : a < 2097152) : blkOf a = .clk := by
  simp [blkOf, blkBases, show ¬(234881024 ≤ a) by omega, show ¬(218103808 ≤ a) by omega, show ¬(209715200 ≤ a) by omega, show ¬(201326592 ≤ a) by omega, show ¬(184549376 ≤ a) by omega, show ¬(176160768 ≤ a) by omega, show ¬(167772160 ≤ a) by omega, show ¬(134217728 ≤ a) by omega, show ¬(117440512 ≤ a) by omega, show ¬(100663296 ≤ a) by omega, show ¬(83886080 ≤ a) by omega, show ¬(75497472 ≤ a) by omega, show ¬(67108864 ≤ a) by omega, show ¬(51380224 ≤ a) by omega, show ¬(50331648 ≤ a) by omega, show ¬(33554432 ≤ a) by omega, show ¬(16777216 ≤ a) by omega, show ¬(8388608 ≤ a) by omega, show ¬(4194304 ≤ a) by omega, show ¬(2097152 ≤ a) by omega, show 1048576 ≤ a from h]

theorem blkOf_sys {a : Nat} (k : a < 1048576) : blkOf a = .sys := by
  simp [blkOf, blkBases, show ¬(234881024 ≤ a) by omega, show ¬(218103808 ≤ a) by omega, show ¬(209715200 ≤ a) by omega, show ¬(201326592 ≤ a) by omega, show ¬(184549376 ≤ a) by omega, show ¬(176160768 ≤ a) by omega, show ¬(167772160 ≤ a) by omega, show ¬(134217728 ≤ a) by omega, show ¬(117440512 ≤ a) by omega, show ¬(100663296 ≤ a) by omega, show ¬(83886080 ≤ a) by omega, show ¬(75497472 ≤ a) by omega, show ¬(67108864 ≤ a) by omega, show ¬(51380224 ≤ a) by omega, show ¬(50331648 ≤ a) by omega, show ¬(33554432 ≤ a) by omega, show ¬(16777216 ≤ a) by omega, show ¬(8388608 ≤ a) by omega, show ¬(4194304 ≤ a) by omega, show ¬(2097152 ≤ a) by omega, show ¬(1048576 ≤ a) by omega]

/-! ### Checks and writes -/

/-- No check failed: every one of them answered OK. -/
theorem lowest_ok_iff (l : List Status) : lowest l = .ok ↔ ∀ x ∈ l, x = .ok := by
  induction l with
  | nil => simp [lowest]
  | cons x rest ih =>
    simp only [lowest, List.forall_mem_cons]
    constructor
    · intro h
      split at h
      · exact ⟨‹_›, ih.1 h⟩
      · split at h
        · exact absurd h ‹_›
        · split at h
          · exact absurd h ‹¬x = .ok›
          · exact absurd h ‹_›
    · intro ⟨h1, h2⟩
      rw [if_pos h1]
      exact ih.2 h2

theorem lowest_append_ok (a b : List Status) : lowest (a ++ b) = .ok ↔ lowest a = .ok ∧ lowest b = .ok := by
  simp only [lowest_ok_iff, List.mem_append]
  exact ⟨fun h => ⟨fun x hx => h x (.inl hx), fun x hx => h x (.inr hx)⟩, fun h x hx => hx.elim (h.1 x) (h.2 x)⟩

@[simp] theorem need_ok_iff (c : Bool) (st : Status) (h : st ≠ .ok) : need c st = .ok ↔ c = true := by
  cases c <;> simp [need, h]

/-- An accepted write of a register that is no half of a pair: the register holds the merged word, and what the write starts follows. -/
theorem writeWord_ok (d : Dev) (ses : Nat) (r : Reg) (w : Word) (ha : d.written r w ≠ d.reg r ∨ writeActs r.name.info w = true ∨ r.name.everyWrite = true)
    (hw : d.WriteOk r w) (hs : d.inSwitch = false)
    (hr : r.name.info.readOnly = false) (h1 : r.name ≠ .CAP_CTL) (h2 : r.name ≠ .FLT_CFG) :
    d.writeWord false ses r w = ((d.setReg r (d.written r w)).regDo ses r (d.reg r) (d.written r w) w, .ok) := by
  obtain ⟨hl, hc⟩ := hw
  have hn : ((d.written r w == d.reg r && !writeActs r.name.info w) && !r.name.everyWrite) = false := by
    rcases ha with h | h | h
    · simp [h]
    · simp [h]
    · simp [h]
  have hg : lowest ([need (false || !d.commit || !lockedChange r.name.info (d.reg r) w) .denied,
      need (false || !d.inSwitch || !switchBlks.contains (blkOf r.addr)) .busy] ++
      d.regCheck r (d.reg r) (d.written r w) w) = .ok := by
    rw [lowest_append_ok]
    refine ⟨?_, hc⟩
    rcases hl with h | h <;> simp [h, hs, need, lowest]
  unfold Dev.writeWord
  dsimp only
  rw [if_neg (by simp [hr]), if_neg (by simpa [Dev.written] using hn)]
  split
  · exact absurd ‹_› h1
  · exact absurd ‹_› h2
  · exact if_pos hg

/-- A register with a common write: not read only, no half of a pair, and neither of the two whose write answers a status of its own. -/
def plainName (n : RegName) : Bool := !n.info.readOnly && n != .CAP_CTL && n != .FLT_CFG && !n.isHi && n.hi? == none

/-- The register that an address reaches is the one that the address map gives. -/
theorem reach_regAt (d : Dev) {a : Nat} {r : Reg} (h : d.reach a = (.ok, some r)) : regAt a = some r := by
  unfold Dev.reach at h
  split at h
  · cases h
  · rename_i q hq
    rw [hq]
    by_cases hc : (d.present q && d.blkOn (blkOf a)) = true
    · rw [if_pos hc] at h
      exact congrArg Prod.snd h
    · rw [if_neg hc] at h
      exact absurd (congrArg Prod.snd h) (by simp)

/-- A register-write row on a register that is no half of a pair, accepted. -/
theorem hostWrite_ok (d : Dev) (ses : Nat) (r : Reg) (w : Word) (hm : d.MayWrite ses r) (ha : d.written r w ≠ d.reg r ∨ writeActs r.name.info w = true ∨ r.name.everyWrite = true)
    (hw : d.WriteOk r w)
    (hp : plainName r.name = true) :
    d.hostWrite ses r w = ((d.setReg r (d.written r w)).regDo ses r (d.reg r) (d.written r w) w).answer .ok := by
  obtain ⟨hc, hsb, hho, hsw, hre⟩ := hm
  obtain ⟨x, hx, hctl⟩ := (Option.any_eq_true _ _).1 hc
  simp only [plainName, Bool.and_eq_true, Bool.not_eq_true', bne_iff_ne, ne_eq, beq_iff_eq] at hp
  obtain ⟨⟨⟨⟨hr, h1⟩, h2⟩, h3⟩, h4⟩ := hp
  have hf : d.writeFor ses x r w = ((d.setReg r (d.written r w)).regDo ses r (d.reg r) (d.written r w) w, .ok) := by
    simp only [Dev.writeFor, h3, h4]
    exact writeWord_ok d ses r w ha hw hsw hr h1 h2
  have hg : lowest [need x.ctl .denied, need (!d.isStandby || standbyMay r w) .denied, need (!d.handingOver) .busy, .ok] = .ok := by
    simp [hctl, hsb, hho, need, lowest]
  unfold Dev.hostWrite Dev.writeAddr
  rw [hx, reach_regAt d hre, hre]
  dsimp only
  rw [hf]
  simp [hg]

/-- A write that changes nothing and does not act is answered OK and leaves all as it is (R661). -/
theorem hostWrite_same (d : Dev) (ses : Nat) (r : Reg) (w : Word) (hm : d.MayWrite ses r) (h1 : d.written r w = d.reg r)
    (h2 : writeActs r.name.info w = false) (h3 : r.name.everyWrite = false) (hp : plainName r.name = true) :
    d.hostWrite ses r w = d.answer .ok := by
  obtain ⟨hc, hsb, hho, hsw, hre⟩ := hm
  obtain ⟨x, hx, hctl⟩ := (Option.any_eq_true _ _).1 hc
  simp only [plainName, Bool.and_eq_true, Bool.not_eq_true', bne_iff_ne, ne_eq, beq_iff_eq] at hp
  obtain ⟨⟨⟨⟨hr, _⟩, _⟩, h5⟩, h6⟩ := hp
  have hf : d.writeFor ses x r w = (d, .ok) := by
    have hm : mergeWord r.name.info (d.reg r) w (d.heldSet r) = d.reg r := h1
    simp [Dev.writeFor, h5, h6, Dev.writeWord, hr, hm, h2, h3]
  have hg : lowest [need x.ctl .denied, need (!d.isStandby || standbyMay r w) .denied, need (!d.handingOver) .busy, .ok] = .ok := by
    simp [hctl, hsb, hho, need, lowest]
  unfold Dev.hostWrite Dev.writeAddr
  rw [hx, reach_regAt d hre, hre]
  dsimp only
  rw [hf]
  simp [hg]

end Sys2Proof.Machine
end

