-- ==== Sys2Proof/Tests/Slice0.lean ====
section
/-! SUPPORT. The model's own tests: the checks of well-formedness refuse ill-formed commands; every statement with hypotheses has, clause by clause, a
state and operands that meet them; a few commands give what the spec's own examples give. -/

namespace Sys2Proof.Tests

open Sys2Proof Sys2Proof.Machine

set_option Elab.async false
set_option linter.unusedVariables false

/-! ### Records that a witness falls back on -/

def axis0 : AxisRec := ⟨0, 0, 0, 0, 0, 0, 0, 0, 0, 0⟩
def hand0 : Handle := { obj := 0, dir := 0, index := 0, len := 0 }
def held0 : Held := { quote := false, tick := 0, clk := 0, typ := 0, status := 0, ref := 0, body := [] }
def item0 : ItemSt := { trk := 0, gen := 0, tag := 0, ref := 0, len := 0, addTime := 0, xfrTime := 0 }
def act0 : ActSt := { kind := 0, trk := 0, pol := 0, state := 0, item := 0, gen := 0, slot := 0, ofs := 0, target := 0, arg0 := 0, arg1 := 0 }
def queue0 : Queue := { slot := 0, depth := 0 }
def sess0 : Session := { sessId := 0 }
def slot0 : SlotRec := ⟨0, 0, 0, 0, 0, 0⟩

/-! ### RegisterAccessComplete -/

def dev1 : Dev := { host := { sess := [(0, { sessId := 0, ctl := true })] } }

theorem wit_RegisterAccessComplete_regWriteOther : ∃ (s : State) (d : Dev) (ses addr : Nat) (w : Word) (r : Reg),
    s.start = d ∧ s.On ∧ r.addr = addr ∧ r.name.quiet = true ∧ d.MayWrite ses r ∧ d.WriteOk r w :=
  ⟨{ dev := dev1 }, dev1, 0, 134217736, 0#32, ((regAt 134217736).getD R.PWR_STAT), rfl, by decide +kernel⟩

def dev2 : Dev := { host := { sess := [(0, { sessId := 0 })] }, loader := { image := some { tracks := [{ track := 3, mode := 0, mkind := 0, master := 0, modulus := 0, num := 0, den := 0 }] } } }

theorem wit_RegisterAccessComplete_loReadLatch : ∃ (s : State) (d : Dev) (ses addr : Nat) (r : Reg) (h : RegName),
    s.start = d ∧ s.On ∧ r.addr = addr ∧ r.name.hi? = some h ∧ d.MayRead ses r :=
  ⟨{ dev := dev2 }, dev2, 0, 75497672, ((regAt 75497672).getD R.PWR_STAT), ((((regAt 75497672).getD R.PWR_STAT).name.hi?).getD .PWR_STAT), rfl, by decide +kernel⟩

def dev3 : Dev := { host := { sess := [(0, { sessId := 0, ctl := true })] }, loader := { image := some { axes := [{ axis := 2, kind := 0, k := 0, bind := 0, group := 0, arm := 0, joint := 0, fb := 0, sp := 0, law := 0 }] } } }

theorem wit_RegisterAccessComplete_hiWriteHold_3 : ∃ (s : State) (d : Dev) (ses addr : Nat) (w : Word) (r : Reg),
    s.start = d ∧ s.On ∧ r.addr = addr ∧ r.name.isHi = true ∧ r.name.info.readOnly = false ∧ d.MayWrite ses r ∧ (r.name = .PWM_CMP_HI → d.bit (R.PWM_LEG_CFG r.i r.j) F.PWM_LEG_CFG.SRC = true) :=
  ⟨{ dev := dev3 }, dev3, 0, 71303512, 0#32, ((regAt 71303512).getD R.PWR_STAT), rfl, by decide +kernel⟩

theorem wit_RegisterAccessComplete_hiWriteHold_4 : ∃ (s : State) (d : Dev) (ses addr : Nat) (w : Word) (r : Reg),
    s.start = d ∧ s.On ∧ r.addr = addr ∧ r.name = .PWM_CMP_HI ∧ d.MayWrite ses r ∧ d.bit (R.PWM_LEG_CFG r.i r.j) F.PWM_LEG_CFG.SRC = false :=
  ⟨{ dev := dev1 }, dev1, 0, 50332684, 0#32, ((regAt 50332684).getD R.PWR_STAT), rfl, by decide +kernel⟩

def dev4 : Dev := { host := { sess := [(0, { sessId := 0, ctl := true })] }, loader := { image := some { axes := [{ axis := 3, kind := 0, k := 0, bind := 0, group := 0, arm := 0, joint := 0, fb := 0, sp := 0, law := 0 }] } } }

theorem wit_RegisterAccessComplete_loWriteCommit : ∃ (s : State) (d : Dev) (ses addr : Nat) (w : Word) (r : Reg) (h : RegName),
    s.start = d ∧ s.On ∧ r.addr = addr ∧ r.name.hi? = some h ∧ r.name ∈ [RegName.AXIS_MOT_TGT_LO, .AXIS_VL_MIN_LO, .AXIS_VL_MAX_LO, .AXIS_GEAR_AT_LO] ∧ d.MayWrite ses r ∧ lowest (d.pairCheck r (d.pairValue ses r { r with name := h } w)) = .ok :=
  ⟨{ dev := dev4 }, dev4, 0, 71303604, 0#32, ((regAt 71303604).getD R.PWR_STAT), ((((regAt 71303604).getD R.PWR_STAT).name.hi?).getD .PWR_STAT), rfl, by decide +kernel⟩

def dev5 : Dev := { host := { sess := [(0, { sessId := 0 })] } }

theorem wit_RegisterAccessComplete_counterReadClear : ∃ (s : State) (d : Dev) (ses addr : Nat) (r : Reg),
    s.start = d ∧ s.On ∧ r.addr = addr ∧ r.name.info.cor = true ∧ d.MayRead ses r :=
  ⟨{ dev := dev5 }, dev5, 0, 33554464, ((regAt 33554464).getD R.PWR_STAT), rfl, by decide +kernel⟩

/-! ### ReadRowsComplete -/

theorem wit_ReadRowsComplete_prbPosRead : ∃ (s : State) (d : Dev) (ses p : Nat),
    s.start = d ∧ s.On ∧ p < 16 ∧ d.MayRead ses (R.FBK_PRB_POS p) :=
  ⟨{ dev := dev5 }, dev5, 0, 0, rfl, by decide +kernel⟩

theorem wit_ReadRowsComplete_itemWinRead_a : ∃ (s : State) (d : Dev) (ses k : Nat),
    s.start = d ∧ s.On ∧ k < 16 ∧ d.MayRead ses (R.TALL_ITEM_WIN k) ∧ k ≠ 0 :=
  ⟨{ dev := dev5 }, dev5, 0, 1, rfl, by decide +kernel⟩

theorem wit_ReadRowsComplete_itemWinRead_b : ∃ (s : State) (d : Dev) (ses k : Nat),
    s.start = d ∧ s.On ∧ k < 16 ∧ d.MayRead ses (R.TALL_ITEM_WIN k) ∧ k = 0 :=
  ⟨{ dev := dev5 }, dev5, 0, 0, rfl, by decide +kernel⟩

theorem wit_ReadRowsComplete_dioCapRead : ∃ (s : State) (d : Dev) (ses k : Nat),
    s.start = d ∧ s.On ∧ k < 64 ∧ d.MayRead ses (R.DIO_CAP_STAT k) :=
  ⟨{ dev := dev5 }, dev5, 0, 0, rfl, by decide +kernel⟩

/-! ### TimeWritesComplete -/

theorem wit_TimeWritesComplete_refselWrite_a : ∃ (s : State) (d : Dev) (ses : Nat) (w : Word),
    s.start = d ∧ s.On ∧ d.MayWrite ses R.CLK_CTL ∧ getF w F.CLK_CTL.REFSEL ≠ 3 ∧ getF w F.CLK_CTL.REFSEL = 1 :=
  ⟨{ dev := dev1 }, dev1, 0, 1#32, rfl, by decide +kernel⟩

theorem wit_TimeWritesComplete_refselWrite_b : ∃ (s : State) (d : Dev) (ses : Nat) (w : Word),
    s.start = d ∧ s.On ∧ d.MayWrite ses R.CLK_CTL ∧ getF w F.CLK_CTL.REFSEL ≠ 3 ∧ getF w F.CLK_CTL.REFSEL = 2 :=
  ⟨{ dev := dev1 }, dev1, 0, 2#32, rfl, by decide +kernel⟩

def dev6 : Dev := { regs := [((R.TIME_CTL).addr, 0#32)], host := { sess := [(0, { sessId := 0, ctl := true })] } }

theorem wit_TimeWritesComplete_timeRateWrite : ∃ (s : State) (d : Dev) (ses : Nat) (w : Word),
    s.start = d ∧ s.On ∧ d.MayWrite ses R.TIME_RATE ∧ d.timeSrc < 2 ∧ w.toInt.natAbs ≤ 2147483 :=
  ⟨{ dev := dev6 }, dev6, 0, 0#32, rfl, by decide +kernel⟩

theorem wit_TimeWritesComplete_stepwinWrite : ∃ (s : State) (d : Dev) (ses : Nat) (w : Word),
    s.start = d ∧ s.On ∧ d.MayWrite ses R.TIME_CTL ∧ d.WriteOk R.TIME_CTL w :=
  ⟨{ dev := dev1 }, dev1, 0, 0#32, rfl, by decide +kernel⟩

theorem wit_TimeWritesComplete_close : ∃ (s : State) (d : Dev) (ses : Nat) (w : Word),
    s.start = d ∧ s.On ∧ d.MayWrite ses R.TIME_CTL ∧ d.WriteOk R.TIME_CTL (putF w F.TIME_CTL.CLOSE 1) :=
  ⟨{ dev := dev1 }, dev1, 0, 0#32, rfl, by decide +kernel⟩

theorem wit_TimeWritesComplete_cmpArm : ∃ (s : State) (d : Dev) (ses k : Nat) (w : Word),
    s.start = d ∧ s.On ∧ k < 64 ∧ d.MayWrite ses (R.TIME_CMP_CTL k) ∧ getF w F.TIME_CMP_CTL.DISARM = 0 ∧ d.WriteOk (R.TIME_CMP_CTL k) (putF w F.TIME_CMP_CTL.ARM 1) :=
  ⟨{ dev := dev1 }, dev1, 0, 0, 1048576#32, rfl, by decide +kernel⟩

theorem wit_TimeWritesComplete_cmpDisarm : ∃ (s : State) (d : Dev) (ses k : Nat) (w : Word),
    s.start = d ∧ s.On ∧ k < 64 ∧ d.MayWrite ses (R.TIME_CMP_CTL k) ∧ d.WriteOk (R.TIME_CMP_CTL k) (putF w F.TIME_CMP_CTL.DISARM 1) :=
  ⟨{ dev := dev1 }, dev1, 0, 0, 0#32, rfl, by decide +kernel⟩

/-! ### TimeRateRule -/

theorem wit_TimeRateRule_timeRateWrite_1 : ∃ (s : State) (d : Dev) (ses : Nat) (w : Word),
    s.start = d ∧ s.On ∧ d.MayWrite ses R.TIME_RATE ∧ d.reg R.TIME_RATE ≠ w ∧ (w.toInt < -2147483 ∨ 2147483 < w.toInt) :=
  ⟨{ dev := dev1 }, dev1, 0, 2147520#32, rfl, by decide +kernel⟩

theorem wit_TimeRateRule_timeRateWrite_2 : ∃ (s : State) (d : Dev) (ses : Nat) (w : Word),
    s.start = d ∧ s.On ∧ d.MayWrite ses R.TIME_RATE ∧ d.reg R.TIME_RATE ≠ w ∧ -2147483 ≤ w.toInt ∧ w.toInt ≤ 2147483 ∧ 2 ≤ d.timeSrc :=
  ⟨{ dev := dev1 }, dev1, 0, 1#32, rfl, by decide +kernel⟩

theorem wit_TimeRateRule_timeRateWrite_3 : ∃ (s : State) (d : Dev) (ses : Nat) (w : Word),
    s.start = d ∧ s.On ∧ d.MayWrite ses R.TIME_RATE ∧ -2147483 ≤ w.toInt ∧ w.toInt ≤ 2147483 ∧ d.timeSrc < 2 :=
  ⟨{ dev := dev6 }, dev6, 0, 0#32, rfl, by decide +kernel⟩

/-! ### ComparatorArmRule -/

def dev7 : Dev := { regs := [((R.TIME_CMP_TGT 2).addr, 637534208#32)], time := { tns := 8589841670073313394688 }, host := { sess := [(0, { sessId := 0, ctl := true })] } }

theorem wit_ComparatorArmRule_cmpArm_1 : ∃ (s : State) (d : Dev) (ses k : Nat) (w : Word),
    s.start = d ∧ s.On ∧ k < 64 ∧ d.MayWrite ses (R.TIME_CMP_CTL k) ∧ getF w F.TIME_CMP_CTL.DISARM = 0 ∧ d.cmpArmed k = false ∧ 2100000000 < tsDiff (d.reg (R.TIME_CMP_TGT k)) d.ts :=
  ⟨{ dev := dev7 }, dev7, 0, 2, 0#32, rfl, by decide +kernel⟩

def dev8 : Dev := { regs := [((R.TIME_CMP_PER 0).addr, 1#32)], host := { sess := [(0, { sessId := 0, ctl := true })] } }

theorem wit_ComparatorArmRule_cmpArm_2 : ∃ (s : State) (d : Dev) (ses k : Nat) (w : Word),
    s.start = d ∧ s.On ∧ k < 64 ∧ d.MayWrite ses (R.TIME_CMP_CTL k) ∧ getF w F.TIME_CMP_CTL.DISARM = 0 ∧ d.cmpArmed k = false ∧ d.reg (R.TIME_CMP_PER k) ≠ 0 ∧ ((d.reg (R.TIME_CMP_PER k)).toNat < 1000 ∨ 2100000000 < (d.reg (R.TIME_CMP_PER k)).toNat) :=
  ⟨{ dev := dev8 }, dev8, 0, 0, 0#32, rfl, by decide +kernel⟩

def dev9 : Dev := { time := { tns := 4294967296 }, host := { sess := [(0, { sessId := 0, ctl := true })] } }

theorem wit_ComparatorArmRule_cmpArm_3 : ∃ (s : State) (d : Dev) (ses k : Nat) (w : Word),
    s.start = d ∧ s.On ∧ k < 64 ∧ d.MayWrite ses (R.TIME_CMP_CTL k) ∧ getF w F.TIME_CMP_CTL.DISARM = 0 ∧ d.cmpArmed k = false ∧ d.cmpOwned k = false ∧ 1 ≤ getF w F.TIME_CMP_CTL.ACT ∧ getF w F.TIME_CMP_CTL.ACT ≤ 5 ∧ (getF w F.TIME_CMP_CTL.ACT = 4 → d.hostMayStart (getF w F.TIME_CMP_CTL.OBJ) = true) ∧ (d.reg (R.TIME_CMP_PER k) = 0 ∨ (1000 ≤ (d.reg (R.TIME_CMP_PER k)).toNat ∧ (d.reg (R.TIME_CMP_PER k)).toNat ≤ 2100000000)) ∧ tsDiff (d.reg (R.TIME_CMP_TGT k)) d.ts < 0 ∧ getF w F.TIME_CMP_CTL.LATEPOL = 0 :=
  ⟨{ dev := dev9 }, dev9, 0, 0, 1048576#32, rfl, by decide +kernel⟩

theorem wit_ComparatorArmRule_cmpArm_4 : ∃ (s : State) (d : Dev) (ses k : Nat) (w : Word),
    s.start = d ∧ s.On ∧ k < 64 ∧ d.MayWrite ses (R.TIME_CMP_CTL k) ∧ getF w F.TIME_CMP_CTL.DISARM = 0 ∧ d.cmpArmed k = false ∧ d.cmpOwned k = false ∧ 1 ≤ getF w F.TIME_CMP_CTL.ACT ∧ getF w F.TIME_CMP_CTL.ACT ≤ 5 ∧ (getF w F.TIME_CMP_CTL.ACT = 4 → d.hostMayStart (getF w F.TIME_CMP_CTL.OBJ) = true) ∧ (d.reg (R.TIME_CMP_PER k) = 0 ∨ (1000 ≤ (d.reg (R.TIME_CMP_PER k)).toNat ∧ (d.reg (R.TIME_CMP_PER k)).toNat ≤ 2100000000)) ∧ tsDiff (d.reg (R.TIME_CMP_TGT k)) d.ts < 0 ∧ getF w F.TIME_CMP_CTL.LATEPOL = 1 :=
  ⟨{ dev := dev9 }, dev9, 0, 0, 17825792#32, rfl, by decide +kernel⟩

def dev10 : Dev := { regs := [((R.TIME_CMP_CTL 3).addr, 1073741824#32)], time := { cmpTgt := [(3, 0#32)] } }

theorem wit_ComparatorArmRule_cmpFire : ∃ (s : State) (d : Dev),
    s.start = d ∧ s.On ∧ (∃ k ∈ List.range 64, d.cmpArmed k = true ∧ (tget? d.time.cmpTgt k).any (fun t => decide (0 ≤ tsDiff d.ts t)) = true ∧ d.reg (R.TIME_CMP_PER k) = 0) :=
  ⟨{ dev := dev10 }, dev10, rfl, by decide +kernel⟩

/-! ### TimeEventsComplete -/

def dev11 : Dev := { time := { ext := some 0 } }

theorem wit_TimeEventsComplete_extRefLost : ∃ (s : State) (d : Dev),
    s.start = d ∧ s.On ∧ d.time.ext.isSome = true :=
  ⟨{ dev := dev11 }, dev11, rfl, by decide +kernel⟩

theorem wit_TimeEventsComplete_extRefRestored : ∃ (s : State) (d : Dev),
    s.start = d ∧ s.On ∧ d.fld R.CLK_CTL F.CLK_CTL.REFSEL = 0 :=
  ⟨{ dev := {} }, {}, rfl, by decide +kernel⟩

def dev12 : Dev := { regs := [((R.TIME_CTL).addr, 1#32)], host := { sess := [(0, { sessId := 0, ctl := true })] } }

theorem wit_TimeEventsComplete_timeStepWrite : ∃ (s : State) (d : Dev) (ses : Nat) (w : Word),
    s.start = d ∧ s.On ∧ d.MayWrite ses R.TIME_STEP_LO ∧ lowest (d.hostStepCheck (d.pairValue ses R.TIME_STEP_LO R.TIME_STEP_HI w)) = .ok :=
  ⟨{ dev := dev12 }, dev12, 0, 0#32, rfl, by decide +kernel⟩

def dev13 : Dev := { clk := 1000000000 }

theorem wit_TimeEventsComplete_stepWindowExpiry : ∃ (s : State) (d : Dev),
    s.start = d ∧ s.On ∧ d.winOpen = true ∧ d.winElapsed = true :=
  ⟨{ dev := dev13 }, dev13, rfl, by decide +kernel⟩

theorem wit_TimeEventsComplete_cmpFire_a : ∃ (s : State) (d : Dev),
    s.start = d ∧ s.On ∧ (∃ k ∈ List.range 64, d.cmpArmed k = true ∧ (tget? d.time.cmpTgt k).any (fun t => decide (0 ≤ tsDiff d.ts t)) = true ∧ d.reg (R.TIME_CMP_PER k) = 0) :=
  ⟨{ dev := dev10 }, dev10, rfl, by decide +kernel⟩

def dev14 : Dev := { regs := [((R.TIME_CMP_CTL 0).addr, 1073741824#32)], time := { tns := 83010348331692982272, cmpTgt := [(0, 0#32)] } }

theorem wit_TimeEventsComplete_cmpFire_b : ∃ (s : State) (d : Dev),
    s.start = d ∧ s.On ∧ (∃ k ∈ List.range 64, d.cmpArmed k = true ∧ (tget? d.time.cmpTgt k).any (fun t => decide (tsDiff d.ts t < 0)) = true) :=
  ⟨{ dev := dev14 }, dev14, rfl, by decide +kernel⟩

theorem wit_TimeEventsComplete_cmpStatRead : ∃ (s : State) (d : Dev) (ses k : Nat),
    s.start = d ∧ s.On ∧ k < 64 ∧ d.MayRead ses (R.TIME_CMP_STAT k) :=
  ⟨{ dev := dev5 }, dev5, 0, 0, rfl, by decide +kernel⟩

theorem wit_TimeEventsComplete_baseTick : ∃ (s : State) (d : Dev) (sd : List (Nat × Nat × List Bool)),
    s.start = d ∧ s.On :=
  ⟨{ dev := {} }, {}, [], rfl, by decide +kernel⟩

/-! ### PtpComplete -/

theorem wit_PtpComplete_ptpAnnounce : ∃ (s : State) (d : Dev) (m : PtpHdr) (data : List Nat) (logInt utc : Int),
    s.start = d ∧ s.On ∧ d.ptpTakes m = true ∧ d.ptpHears m.port = true :=
  ⟨{ dev := {} }, {}, { port := 0, trans := 0, domain := 0, sdoId := 0, src := 0, seq := 0 }, [], 0, 0, rfl, by decide +kernel⟩

def dev15 : Dev := { regs := [((R.TIME_PTP_CFG).addr, 1916796937#32)], time := { gm := some 13617764509953163264 } }

theorem wit_PtpComplete_ptpSync : ∃ (s : State) (d : Dev) (m : PtpHdr) (logInt : Int) (twoStep : Bool) (t1 : Int),
    s.start = d ∧ s.On ∧ d.ptpFromGm m = true ∧ -4 ≤ logInt ∧ logInt ≤ 1 :=
  ⟨{ dev := dev15 }, dev15, { port := 1, trans := 1, domain := 9, sdoId := 7, src := 13617764509953163264, seq := 0 }, 0, false, 0, rfl, by decide +kernel⟩

def dev16 : Dev := { regs := [((R.TIME_PTP_CFG).addr, 843055142#32)], time := { gm := some 1, syncSeq := some (14, (0, none)) } }

theorem wit_PtpComplete_ptpFollowUp : ∃ (s : State) (d : Dev) (m : PtpHdr) (t1 : Int) (t2 : Int),
    s.start = d ∧ s.On ∧ d.ptpFromGm m = true ∧ d.time.syncSeq = some (m.seq, t2, none) :=
  ⟨{ dev := dev16 }, dev16, { port := 1, trans := 1, domain := 38, sdoId := 3, src := 1, seq := 14 }, 0, ((dev16.time.syncSeq.getD (0, 0, none)).2.1), rfl, by decide +kernel⟩

def dev17 : Dev := { time := { gm := some 0, syncSeq := some (0, (0, some 0)) } }

theorem wit_PtpComplete_delayReqSend : ∃ (s : State) (d : Dev),
    s.start = d ∧ s.On ∧ d.time.gm.isSome = true ∧ d.time.syncSeq.any (fun x => x.2.2.isSome) = true :=
  ⟨{ dev := dev17 }, dev17, rfl, by decide +kernel⟩

def dev18 : Dev := { time := { gm := some 0 } }

theorem wit_PtpComplete_announceTimeout : ∃ (s : State) (d : Dev) (g : Nat),
    s.start = d ∧ s.On ∧ d.time.gm = some g ∧ d.heardOf (tget d.time.masters g {}) = false :=
  ⟨{ dev := dev18 }, dev18, (dev18.time.gm.getD 0), rfl, by decide +kernel⟩

/-! ### ResetsComplete -/

theorem wit_ResetsComplete_coldReset : ∃ (s : State) (d : Dev) (cut : Bool),
    s.start = d ∧ s.On :=
  ⟨{ dev := {} }, {}, false, rfl, by decide +kernel⟩

theorem wit_ResetsComplete_pinReset : ∃ (s : State) (d : Dev) (ns : Nat),
    s.start = d ∧ s.On ∧ 10000 ≤ ns :=
  ⟨{ dev := {} }, {}, 16384, rfl, by decide +kernel⟩

def dev19 : Dev := { sys := { resetDue := some 0 } }

theorem wit_ResetsComplete_warmReset : ∃ (s : State) (d : Dev),
    s.start = d ∧ s.On ∧ d.warmDue = true ∧ d.wdExpired = false :=
  ⟨{ dev := dev19 }, dev19, rfl, by decide +kernel⟩

def dev20 : Dev := { clk := 250000000 }

theorem wit_ResetsComplete_watchdogReset : ∃ (s : State) (d : Dev),
    s.start = d ∧ s.On ∧ d.wdExpired = true :=
  ⟨{ dev := dev20 }, dev20, rfl, by decide +kernel⟩

theorem wit_ResetsComplete_watchdogService : ∃ (s : State) (d : Dev),
    s.start = d ∧ s.On :=
  ⟨{ dev := {} }, {}, rfl, by decide +kernel⟩

theorem wit_ResetsComplete_warmResetReq : ∃ (s : State) (d : Dev) (ses : Nat) (w : Word),
    s.start = d ∧ s.On ∧ d.MayWrite ses R.SYS_RST_CTL ∧ getF w F.SYS_RST_CTL.KEY = 0x5741 ∧ d.anyEnabled = false ∧ d.bit R.SYS_PF_STAT F.SYS_PF_STAT.PFW = false :=
  ⟨{ dev := dev1 }, dev1, 0, 1463877632#32, rfl, by decide +kernel⟩

def dev21 : Dev := { clk := 34359738368, sys := { off := true, coolClk := some 0 } }

theorem wit_ResetsComplete_overtempRestart : ∃ (s : State) (d : Dev) (c : Nat),
    s.start = d ∧ d.sys.off = true ∧ d.sys.coolClk = some c ∧ d.since c (60 * fabHz) = true :=
  ⟨{ dev := dev21 }, dev21, (dev21.sys.coolClk.getD 0), rfl, by decide +kernel⟩

/-! ### LinesComplete -/

theorem wit_LinesComplete_linkUp : ∃ (s : State) (d : Dev) (p : Nat),
    s.start = d ∧ s.On ∧ p < 24 ∧ (d.port p).linkUp = false :=
  ⟨{ dev := {} }, {}, 0, rfl, by decide +kernel⟩

theorem wit_LinesComplete_linkDown : ∃ (s : State) (d : Dev) (p : Nat),
    s.start = d ∧ s.On ∧ p < 24 :=
  ⟨{ dev := {} }, {}, 0, rfl, by decide +kernel⟩

theorem wit_LinesComplete_lineStart : ∃ (s : State) (d : Dev) (ses p : Nat) (w : Word),
    s.start = d ∧ s.On ∧ p < 24 ∧ d.MayWrite ses (R.LINE_CTL p) ∧ getF w F.LINE_CTL.STOP = 0 ∧ d.WriteOk (R.LINE_CTL p) (putF w F.LINE_CTL.START 1) :=
  ⟨{ dev := dev1 }, dev1, 0, 0, 0#32, rfl, by decide +kernel⟩

theorem wit_LinesComplete_lineStop : ∃ (s : State) (d : Dev) (ses p : Nat) (w : Word),
    s.start = d ∧ s.On ∧ p < 24 ∧ d.MayWrite ses (R.LINE_CTL p) ∧ d.WriteOk (R.LINE_CTL p) (putF w F.LINE_CTL.STOP 1) :=
  ⟨{ dev := dev1 }, dev1, 0, 0, 0#32, rfl, by decide +kernel⟩

def dev22 : Dev := { regs := [((R.LINE_STAT 1).addr, 1073741824#32)], host := { sess := [(0, { sessId := 0, ctl := true })] } }

theorem wit_LinesComplete_redisc : ∃ (s : State) (d : Dev) (ses p : Nat) (w : Word),
    s.start = d ∧ s.On ∧ p < 24 ∧ d.MayWrite ses (R.LINE_CTL p) ∧ getF w F.LINE_CTL.STOP = 0 ∧ getF w F.LINE_CTL.START = 0 ∧ d.WriteOk (R.LINE_CTL p) (putF w F.LINE_CTL.REDISC 1) ∧ (d.phase p = 4 ∨ d.phase p = 5) :=
  ⟨{ dev := dev22 }, dev22, 0, 1, 0#32, rfl, by decide +kernel⟩

def dev23 : Dev := { regs := [((R.TIME_STAT).addr, 0#32), ((R.LINE_CFG 2).addr, 8192#32), ((R.LINE_STAT 2).addr, 268435456#32)], clk := 32768, loader := { image := some {} }, line := { ports := [(2, { listening := true })] } }

theorem wit_LinesComplete_listenExpiry : ∃ (s : State) (d : Dev),
    s.start = d ∧ s.On ∧ d.mayCycle = true ∧ (∃ p ∈ allPorts, d.portState p = 1 ∧ (d.port p).listening = true ∧ d.nodes p ≠ 0 ∧ d.since (d.port p).listenClk (clksOfNs (2 * periodNs (d.portK p))) = true) :=
  ⟨{ dev := dev23 }, dev23, rfl, by decide +kernel⟩

def dev24 : Dev := { regs := [((R.LINE_STAT 3).addr, 1879048192#32)], line := { ports := [(3, { backoffEnd := some 0 })] } }

theorem wit_LinesComplete_clashBackoffExpiry : ∃ (s : State) (d : Dev),
    s.start = d ∧ s.On ∧ (∃ p ∈ allPorts, d.portState p = 7 ∧ (d.port p).backoffEnd.any (fun c => decide (c ≤ d.clk)) = true) :=
  ⟨{ dev := dev24 }, dev24, rfl, by decide +kernel⟩

def dev25 : Dev := { regs := [((R.LINE_STAT 1).addr, 536870912#32)], line := { ports := [(1, { stopAsked := true })] } }

theorem wit_LinesComplete_cycleStart_a : ∃ (s : State) (d : Dev) (p : Nat) (n : Nat),
    s.start = d ∧ s.On ∧ p < 24 ∧ d.cycleDue p = some n ∧ d.basePort p = p ∧ d.sends p = true ∧ (d.port p).stopAsked = true :=
  ⟨{ dev := dev25 }, dev25, 1, ((dev25.cycleDue 1).getD 0), rfl, by decide +kernel⟩

def dev26 : Dev := { regs := [((R.LINE_STAT 1).addr, 536870912#32)] }

theorem wit_LinesComplete_cycleStart_b : ∃ (s : State) (d : Dev) (p : Nat) (n : Nat),
    s.start = d ∧ s.On ∧ p < 24 ∧ d.cycleDue p = some n ∧ d.basePort p = p ∧ d.sends p = true ∧ (d.port p).stopAsked = false :=
  ⟨{ dev := dev26 }, dev26, 1, ((dev26.cycleDue 1).getD 0), rfl, by decide +kernel⟩

theorem wit_LinesComplete_cycleStart_c : ∃ (s : State) (d : Dev) (p : Nat) (n : Nat),
    s.start = d ∧ s.On ∧ p < 24 ∧ d.cycleDue p = some n ∧ d.basePort p = p ∧ d.sends p = true ∧ (d.port p).stopAsked = false ∧ (d.port p).relaying = false :=
  ⟨{ dev := dev26 }, dev26, 1, ((dev26.cycleDue 1).getD 0), rfl, by decide +kernel⟩

def dev27 : Dev := { regs := [((R.LINE_STAT 1).addr, 536870912#32)], time := { tns := 140737488355328 } }

theorem wit_LinesComplete_cycleEndMarkerSend : ∃ (s : State) (d : Dev) (p : Nat),
    s.start = d ∧ s.On ∧ p < 24 ∧ d.sends p = true ∧ (d.port p).cycleNs + d.portNs (d.basePort p) - 256 ≤ d.ns :=
  ⟨{ dev := dev27 }, dev27, 1, rfl, by decide +kernel⟩

def dev28 : Dev := { line := { ports := [(2, { markerNs := some 0 })] } }

theorem wit_LinesComplete_markerReturn : ∃ (s : State) (d : Dev) (p : Nat) (head crc tail : List (BitVec 8)) (t : Nat),
    s.start = d ∧ s.On ∧ p < 24 ∧ (d.port p).markerNs = some t :=
  ⟨{ dev := dev28 }, dev28, 2, [], [], [], ((dev28.port 2).markerNs.getD 0), rfl, by decide +kernel⟩

def dev29 : Dev := { regs := [((R.LINE_STAT 1).addr, 805306368#32)] }

theorem wit_LinesComplete_linkDownFrame : ∃ (s : State) (d : Dev) (p : Nat) (w : List (BitVec 8)) (i : Nat) (b : List Byte),
    s.start = d ∧ s.On ∧ p < 24 ∧ acyclicIn 0x1A 3 w = some (i, b) ∧ sendingState (d.portState (d.basePort p)) = true ∧ (d.phase (d.basePort p) ≠ 2 ∨ d.noneHeld (d.basePort p) = false) ∧ (d.port (d.basePort p)).brk = false :=
  ⟨{ dev := dev29 }, dev29, 1, [251#8, 26#8, 2#8, 0#8, 3#8, 0#8, 3#8, 0#8, 0#8, 42#8, 39#8, 32#8, 90#8, 253#8], (((acyclicIn 0x1A 3 [251#8, 26#8, 2#8, 0#8, 3#8, 0#8, 3#8, 0#8, 0#8, 42#8, 39#8, 32#8, 90#8, 253#8]).getD (0, [])).1), (((acyclicIn 0x1A 3 [251#8, 26#8, 2#8, 0#8, 3#8, 0#8, 3#8, 0#8, 0#8, 42#8, 39#8, 32#8, 90#8, 253#8]).getD (0, [])).2), rfl, by decide +kernel⟩

def dev30 : Dev := { regs := [((R.LINE_STAT 2).addr, 1073741824#32)], clk := 536870912, line := { ports := [(2, { linkUp := true })] } }

theorem wit_LinesComplete_ringRestore : ∃ (s : State) (d : Dev) (p : Nat),
    s.start = d ∧ s.On ∧ p < 24 ∧ d.bit (R.LINE_CFG p) F.LINE_CFG.AUTORST = true ∧ d.allLinksUp p = true ∧ (d.phase p = 4 ∨ d.phase p = 5) :=
  ⟨{ dev := dev30 }, dev30, 2, rfl, by decide +kernel⟩

/-! ### SlotsComplete -/

def dev31 : Dev := { regs := [((R.LINE_SLOT_STAT 1 2).addr, 2147483648#32)] }

theorem wit_SlotsComplete_slotArrival_a : ∃ (s : State) (d : Dev) (p i : Nat) (f : SlotFrame),
    s.start = d ∧ s.On ∧ p < 24 ∧ i < 6144 ∧ d.basePort p = p ∧ (d.port p).relaying = false ∧ (d.port p).keepAlive = false ∧ d.slotState p i = 2 ∧ (∃ b ∈ (slotBodyOf f.wire).toList, True) :=
  ⟨{ dev := dev31 }, dev31, 1, 2, { e := 0, nextE := none, wire := (List.replicate 6 0#8 ++ [251#8, 0#8, 32#8, 0#8, 1#8, 5#8] ++ List.replicate 23 0#8 ++ [53#8, 74#8, 49#8, 113#8, 253#8]) }, rfl, by decide +kernel⟩

def dev32 : Dev := { regs := [((R.LINE_SLOT_STAT 3 2).addr, 2147483648#32)] }

theorem wit_SlotsComplete_slotArrival_b : ∃ (s : State) (d : Dev) (p i : Nat) (f : SlotFrame),
    s.start = d ∧ s.On ∧ p < 24 ∧ i < 6144 ∧ d.basePort p = p ∧ (d.port p).relaying = false ∧ (d.port p).keepAlive = false ∧ d.slotState p i = 2 ∧ slotBodyOf f.wire = none :=
  ⟨{ dev := dev32 }, dev32, 3, 2, { e := 0, nextE := none, wire := [] }, rfl, by decide +kernel⟩

def dev33 : Dev := { regs := [((R.LINE_STAT 1).addr, 1342177280#32), ((R.LINE_SLOT_STAT 1 2).addr, 2147483648#32)] }

theorem wit_SlotsComplete_relaySlot : ∃ (s : State) (d : Dev) (p i : Nat) (f : SlotFrame),
    s.start = d ∧ s.On ∧ p < 24 ∧ i < 6144 ∧ d.phase p = 5 ∧ (d.port p).keepAlive = false ∧ d.slotState p i = 2 :=
  ⟨{ dev := dev33 }, dev33, 1, 2, { e := 0, nextE := none, wire := [] }, rfl, by decide +kernel⟩

def dev34 : Dev := { regs := [((R.LINE_SLOT_STAT 1 2).addr, 2147483648#32)], line := { slots := [(6146, { noUse := 3 })] } }

theorem wit_SlotsComplete_slotStale : ∃ (s : State) (d : Dev) (p i : Nat),
    s.start = d ∧ s.On ∧ p < 24 ∧ i < 6144 ∧ (d.port p).keepAlive = false ∧ 2 ≤ d.slotState p i ∧ (d.slot p i).usable = false ∧ d.fld (R.LINE_CFG p) F.LINE_CFG.MISSLIM ≤ (d.slot p i).noUse :=
  ⟨{ dev := dev34 }, dev34, 1, 2, rfl, by decide +kernel⟩

def dev35 : Dev := { regs := [((R.LINE_SLOT_STAT 1 2).addr, 1073741824#32)], line := { slots := [(6146, { absent := 16 })] } }

theorem wit_SlotsComplete_nodeLost : ∃ (s : State) (d : Dev) (p i : Nat),
    s.start = d ∧ s.On ∧ p < 24 ∧ i < 6144 ∧ (d.port p).keepAlive = false ∧ d.slotState p i ≠ 0 ∧ (d.slot p i).any = false ∧ 16 ≤ (d.slot p i).absent :=
  ⟨{ dev := dev35 }, dev35, 1, 2, rfl, by decide +kernel⟩

def dev36 : Dev := { regs := [((R.LINE_STAT 1).addr, 536870912#32)], time := { tns := 8589934556815627911168 }, line := { ports := [(1, { cycleNs := 1999999963136, queue := [{ prio := 0, typ := 23, adr := 0, body := [] }] })] } }

theorem wit_SlotsComplete_fallowWindow : ∃ (s : State) (d : Dev) (p : Nat),
    s.start = d ∧ s.On ∧ p < 24 ∧ d.sends p = true ∧ (d.port p).fallowNs ≠ some (d.port p).cycleNs ∧ (d.port p).cycleNs + (if (d.port (d.basePort p)).keepAlive then 192 else slotsEnd (d.nodes (d.basePort p))) ≤ d.ns ∧ d.ns < (d.port p).cycleNs + (d.portNs (d.basePort p) - 256) ∧ (∃ a ∈ (d.port p).queue, (d.port p).queue = [a] ∧ a.typ = 0x17 ∧ a.prio ≤ 4 ∧ (d.port (d.basePort p)).keepAlive = false ∧ d.wireMarks (d.basePort p) = [] ∧ (d.port (d.basePort p)).joinSusp = false ∧ slotsEnd (d.nodes (d.basePort p)) + a.ns ≤ d.portNs (d.basePort p) - 256) :=
  ⟨{ dev := dev36 }, dev36, 1, rfl, by decide +kernel⟩

theorem wit_SlotsComplete_delayProbeCycle : ∃ (s : State) (d : Dev) (p : Nat),
    s.start = d ∧ s.On ∧ p < 24 ∧ d.basePort p = p ∧ sendingState (d.portState p) = true ∧ ((d.port p).remeasure = true ∨ (d.reg (R.LINE_CYCLE p)).toNat % 2 ^ d.fld (R.LINE_CFG p) F.LINE_CFG.DLYPER = 0) :=
  ⟨{ dev := dev26 }, dev26, 1, rfl, by decide +kernel⟩

def dev37 : Dev := { regs := [((R.LINE_SLOT_STAT 3 1).addr, 2147483648#32)] }

theorem wit_SlotsComplete_delayRpt : ∃ (s : State) (d : Dev) (p i : Nat) (head tail : List (BitVec 8)) (w : List Byte) (b : List Byte),
    s.start = d ∧ s.On ∧ w = head ++ tail ∧ p < 24 ∧ i < 6144 ∧ acyclicIn 0x15 6 w = some (i, b) ∧ d.slotState (d.basePort p) i = 2 :=
  ⟨{ dev := dev37 }, dev37, 3, 1, [251#8, 21#8, 1#8, 0#8, 6#8, 0#8, 1#8, 0#8, 9#8, 3#8, 0#8, 0#8], [170#8, 153#8, 153#8, 41#8, 253#8], ([251#8, 21#8, 1#8, 0#8, 6#8, 0#8, 1#8, 0#8, 9#8, 3#8, 0#8, 0#8] ++ [170#8, 153#8, 153#8, 41#8, 253#8]), (((acyclicIn 0x15 6 ([251#8, 21#8, 1#8, 0#8, 6#8, 0#8, 1#8, 0#8, 9#8, 3#8, 0#8, 0#8] ++ [170#8, 153#8, 153#8, 41#8, 253#8])).getD (0, [])).2), rfl, by decide +kernel⟩

def dev38 : Dev := { regs := [((R.LINE_STAT 3).addr, 536870912#32)], loader := { image := some { slots := [{ port := 3, slot := 0, epCount := 1, nodeAlias := 2, typeCode := 1, firstEp := 0 }] } } }

theorem wit_SlotsComplete_joinReq : ∃ (s : State) (d : Dev) (p : Nat) (head body crc tail : List (BitVec 8)) (w : List Byte) (q : Nat) (b : List Byte) (r : SlotRec),
    s.start = d ∧ s.On ∧ w = head ++ body ++ crc ++ tail ∧ p < 24 ∧ acyclicIn 0x11 11 w = some (q, b) ∧ sendingState (d.portState (d.basePort p)) = true ∧ (d.port (d.basePort p)).keepAlive = false ∧ (d.port (d.basePort p)).joinSusp = false ∧ d.bit (R.LINE_CTL (d.basePort p)) F.LINE_CTL.JOINEN = true ∧ d.slotOfAlias (d.basePort p) (uAt b 0 2) = some r ∧ r.typeCode = uAt b 2 4 ∧ r.epCount = uAt b 10 1 ∧ (d.slotState (d.basePort p) r.slot = 0 ∨ d.slotState (d.basePort p) r.slot = 3) :=
  ⟨{ dev := dev38 }, dev38, 3, [251#8, 17#8, 2#8, 0#8, 11#8, 0#8], [2#8, 0#8, 1#8, 0#8, 0#8, 0#8, 99#8, 0#8, 0#8, 0#8, 1#8], [225#8, 122#8, 57#8, 13#8], [253#8], ([251#8, 17#8, 2#8, 0#8, 11#8, 0#8] ++ [2#8, 0#8, 1#8, 0#8, 0#8, 0#8, 99#8, 0#8, 0#8, 0#8, 1#8] ++ [225#8, 122#8, 57#8, 13#8] ++ [253#8]), (((acyclicIn 0x11 11 ([251#8, 17#8, 2#8, 0#8, 11#8, 0#8] ++ [2#8, 0#8, 1#8, 0#8, 0#8, 0#8, 99#8, 0#8, 0#8, 0#8, 1#8] ++ [225#8, 122#8, 57#8, 13#8] ++ [253#8])).getD (0, [])).1), (((acyclicIn 0x11 11 ([251#8, 17#8, 2#8, 0#8, 11#8, 0#8] ++ [2#8, 0#8, 1#8, 0#8, 0#8, 0#8, 99#8, 0#8, 0#8, 0#8, 1#8] ++ [225#8, 122#8, 57#8, 13#8] ++ [253#8])).getD (0, [])).2), ((dev38.slotOfAlias (dev38.basePort 3) (uAt (((acyclicIn 0x11 11 ([251#8, 17#8, 2#8, 0#8, 11#8, 0#8] ++ [2#8, 0#8, 1#8, 0#8, 0#8, 0#8, 99#8, 0#8, 0#8, 0#8, 1#8] ++ [225#8, 122#8, 57#8, 13#8] ++ [253#8])).getD (0, [])).2) 0 2)).getD slot0), rfl, by decide +kernel⟩

def dev39 : Dev := { regs := [((R.LINE_SLOT_STAT 3 2).addr, 1073741824#32)], line := { slots := [(18434, { join := some { step := 4, sent := true } })] } }

theorem wit_SlotsComplete_testSlot : ∃ (s : State) (d : Dev) (p i : Nat) (err : Int) (w : List (BitVec 8)) (j : JoinSt) (b : SlotBody),
    s.start = d ∧ s.On ∧ p < 24 ∧ i < 6144 ∧ d.slotState (d.basePort p) i = 1 ∧ (d.slot (d.basePort p) i).join = some j ∧ j.step = 4 ∧ j.sent = true ∧ (d.port (d.basePort p)).keepAlive = false ∧ (d.port (d.basePort p)).joinSusp = false ∧ slotBodyOf w = some b ∧ err.natAbs ≤ 24 :=
  ⟨{ dev := dev39 }, dev39, 3, 2, 0, (List.replicate 6 0#8 ++ [251#8, 3#8, 32#8, 0#8, 1#8, 5#8] ++ List.replicate 23 0#8 ++ [18#8, 77#8, 239#8, 115#8, 253#8]), (((dev39.slot (dev39.basePort 3) 2).join).getD { step := 0, serial := 0, cycle := 0 }), ((slotBodyOf (List.replicate 6 0#8 ++ [251#8, 3#8, 32#8, 0#8, 1#8, 5#8] ++ List.replicate 23 0#8 ++ [18#8, 77#8, 239#8, 115#8, 253#8])).getD ⟨0, 0, false, false, 0, 0, []⟩), rfl, by decide +kernel⟩

def dev40 : Dev := { regs := [((R.LINE_CYCLE 0).addr, 3#32), ((R.LINE_SLOT_STAT 0 1).addr, 1073741824#32)], line := { slots := [(1, { join := some { step := 0, sent := true } })] } }

theorem wit_SlotsComplete_joinTimeout : ∃ (s : State) (d : Dev) (p i : Nat) (j : JoinSt),
    s.start = d ∧ s.On ∧ p < 24 ∧ i < 6144 ∧ d.slotState p i = 1 ∧ (d.slot p i).join = some j ∧ j.step ≤ 4 ∧ j.sent = true ∧ (d.port p).keepAlive = false ∧ 2 < tsDiff (d.reg (R.LINE_CYCLE p)) (wN j.cycle) :=
  ⟨{ dev := dev40 }, dev40, 0, 1, (((dev40.slot 0 1).join).getD { step := 0, serial := 0, cycle := 0 }), rfl, by decide +kernel⟩

theorem wit_SlotsComplete_joinSuspendEnd : ∃ (s : State) (d : Dev),
    s.start = d ∧ s.On :=
  ⟨{ dev := {} }, {}, rfl, by decide +kernel⟩

def dev41 : Dev := { regs := [((R.LINE_GSTAT).addr, 2#32), ((R.PAIR_CFG).addr, 1#32)] }

theorem wit_SlotsComplete_relayBlk : ∃ (s : State) (d : Dev) (p cycle : Nat) (blocks : List (Nat × List (BitVec 8))),
    s.start = d ∧ s.On ∧ p < 24 ∧ d.isStandby = true :=
  ⟨{ dev := dev41 }, dev41, 0, 0, [], rfl, by decide +kernel⟩

theorem wit_SlotsComplete_mbxUp : ∃ (s : State) (d : Dev) (p : Nat) (head body tail : List (BitVec 8)) (w : List Byte) (i : Nat) (b : List Byte),
    s.start = d ∧ s.On ∧ w = head ++ body ++ tail ∧ p < 24 ∧ acyclicIn 0x38 1 w = some (i, b) :=
  ⟨{ dev := {} }, {}, 0, [251#8, 56#8, 3#8, 0#8, 5#8, 0#8], [77#8, 0#8, 0#8, 0#8, 0#8], [32#8, 37#8, 120#8, 83#8, 253#8], ([251#8, 56#8, 3#8, 0#8, 5#8, 0#8] ++ [77#8, 0#8, 0#8, 0#8, 0#8] ++ [32#8, 37#8, 120#8, 83#8, 253#8]), (((acyclicIn 0x38 1 ([251#8, 56#8, 3#8, 0#8, 5#8, 0#8] ++ [77#8, 0#8, 0#8, 0#8, 0#8] ++ [32#8, 37#8, 120#8, 83#8, 253#8])).getD (0, [])).1), (((acyclicIn 0x38 1 ([251#8, 56#8, 3#8, 0#8, 5#8, 0#8] ++ [77#8, 0#8, 0#8, 0#8, 0#8] ++ [32#8, 37#8, 120#8, 83#8, 253#8])).getD (0, [])).2), rfl, by decide +kernel⟩

def dev42 : Dev := { regs := [((R.LINE_STAT 1).addr, 536870912#32), ((R.LINE_MARK_CTL 1 2).addr, 2147483648#32)] }

theorem wit_SlotsComplete_cycleMark : ∃ (s : State) (d : Dev) (p k : Nat),
    s.start = d ∧ s.On ∧ p < 24 ∧ k < 16 ∧ d.basePort p = p ∧ sendingState (d.portState p) = true ∧ d.bit (R.LINE_MARK_CTL p k) F.LINE_MARK_CTL.EN = true ∧ (d.port p).marks.contains k = false ∧ (d.port p).cycleNs + d.fld (R.LINE_MARK_OFS p k) F.LINE_MARK_OFS.OFS ≤ d.ns ∧ d.fld (R.LINE_MARK_OFS p k) F.LINE_MARK_OFS.OFS < d.portNs p ∧ (d.port p).keepAlive = false ∧ d.fld (R.LINE_MARK_CTL p k) F.LINE_MARK_CTL.ACT % 2 = 0 :=
  ⟨{ dev := dev42 }, dev42, 1, 2, rfl, by decide +kernel⟩

/-! ### GroupsComplete -/

def dev43 : Dev := { host := { sess := [(0, { sessId := 0, ctl := true })] }, loader := { image := some { groups := [{ group := 2, stageDl := 0, fallback := 0 }] } } }

theorem wit_GroupsComplete_grpReq : ∃ (s : State) (d : Dev) (ses g : Nat) (w : Word),
    s.start = d ∧ s.On ∧ g < 256 ∧ d.MayWrite ses (R.GRP_REQ g) ∧ d.WriteOk (R.GRP_REQ g) (putF w F.GRP_REQ.REQ 1) :=
  ⟨{ dev := dev43 }, dev43, 0, 2, 0#32, rfl, by decide +kernel⟩

def dev44 : Dev := { regs := [((R.GRP_STAT 2).addr, 536870912#32)], loader := { image := some { axes := [{ axis := 0, kind := 1, k := 0, bind := 5, group := 2, arm := 0, joint := 0, fb := 0, sp := 0, law := 0 }], slots := [{ port := 3, slot := 0, epCount := 1, nodeAlias := 0, typeCode := 0, firstEp := 5 }] } }, line := { groups := [(2, { token := 9 })] } }

theorem wit_GroupsComplete_grpStaged : ∃ (s : State) (d : Dev) (p : Nat) (head body crc tail : List (BitVec 8)) (w : List Byte) (i : Nat) (b : List Byte) (g : Nat),
    s.start = d ∧ s.On ∧ w = head ++ body ++ crc ++ tail ∧ p < 24 ∧ acyclicIn 0x21 5 w = some (i, b) ∧ g = uAt b 0 1 ∧ d.grpState g = 1 ∧ uAt b 1 2 = (d.grp g).token ∧ (d.grpNodes g).contains (d.basePort p, i, uAt b 3 2) = true ∧ (d.grp g).staged.contains (d.basePort p, i) = false ∧ (d.grpNodes g).all (fun m => ((d.grp g).staged ++ [(d.basePort p, i)]).contains (m.1, m.2.1)) = true :=
  ⟨{ dev := dev44 }, dev44, 3, [251#8, 33#8, 0#8, 0#8, 5#8, 0#8], [2#8, 9#8, 0#8, 1#8, 0#8], [148#8, 2#8, 254#8, 15#8], [253#8], ([251#8, 33#8, 0#8, 0#8, 5#8, 0#8] ++ [2#8, 9#8, 0#8, 1#8, 0#8] ++ [148#8, 2#8, 254#8, 15#8] ++ [253#8]), (((acyclicIn 0x21 5 ([251#8, 33#8, 0#8, 0#8, 5#8, 0#8] ++ [2#8, 9#8, 0#8, 1#8, 0#8] ++ [148#8, 2#8, 254#8, 15#8] ++ [253#8])).getD (0, [])).1), (((acyclicIn 0x21 5 ([251#8, 33#8, 0#8, 0#8, 5#8, 0#8] ++ [2#8, 9#8, 0#8, 1#8, 0#8] ++ [148#8, 2#8, 254#8, 15#8] ++ [253#8])).getD (0, [])).2), (uAt (((acyclicIn 0x21 5 ([251#8, 33#8, 0#8, 0#8, 5#8, 0#8] ++ [2#8, 9#8, 0#8, 1#8, 0#8] ++ [148#8, 2#8, 254#8, 15#8] ++ [253#8])).getD (0, [])).2) 0 1), rfl, by decide +kernel⟩

def dev45 : Dev := { regs := [((R.GRP_STAT 1).addr, 536870912#32)], time := { tns := 2147483648000000 } }

theorem wit_GroupsComplete_grpStageDeadline : ∃ (s : State) (d : Dev) (g : Nat),
    s.start = d ∧ s.On ∧ g < 256 ∧ d.grpState g = 1 ∧ (d.grp g).s + d.fld (R.GRP_CFG g) F.GRP_CFG.STAGEDL ≤ d.grpIdx g :=
  ⟨{ dev := dev45 }, dev45, 1, rfl, by decide +kernel⟩

def dev46 : Dev := { regs := [((R.GRP_STAT 1).addr, 1073741824#32)], line := { groups := [(1, { n := some 0 })] } }

theorem wit_GroupsComplete_grpApplyBoundary : ∃ (s : State) (d : Dev) (g : Nat),
    s.start = d ∧ s.On ∧ g < 256 ∧ (d.grp g).n.any (fun n => decide (n ≤ d.grpIdx g)) = true ∧ d.grpState g = 2 ∧ (d.grp g).stop = 0 ∧ (d.grp g).boundaryDone = false :=
  ⟨{ dev := dev46 }, dev46, 1, rfl, by decide +kernel⟩

def dev47 : Dev := { regs := [((R.GRP_STAT 0).addr, 1073741824#32)], loader := { image := some { axes := [{ axis := 0, kind := 1, k := 0, bind := 5, group := 0, arm := 0, joint := 0, fb := 0, sp := 0, law := 0 }], slots := [{ port := 2, slot := 1, epCount := 1, nodeAlias := 0, typeCode := 0, firstEp := 5 }] } }, line := { groups := [(0, { token := 9 })] } }

theorem wit_GroupsComplete_grpApplyRpt : ∃ (s : State) (d : Dev) (p : Nat) (head body crc tail : List (BitVec 8)) (w : List Byte) (i : Nat) (b : List Byte) (g : Nat),
    s.start = d ∧ s.On ∧ w = head ++ body ++ crc ++ tail ∧ p < 24 ∧ acyclicIn 0x24 5 w = some (i, b) ∧ g = uAt b 0 1 ∧ d.grpState g = 2 ∧ uAt b 1 2 = (d.grp g).token ∧ (d.grpNodes g).contains (d.basePort p, i, uAt b 3 2) = true :=
  ⟨{ dev := dev47 }, dev47, 2, [251#8, 36#8, 1#8, 0#8, 5#8, 0#8], [0#8, 9#8, 0#8, 1#8, 0#8], [243#8, 142#8, 108#8, 132#8], [253#8], ([251#8, 36#8, 1#8, 0#8, 5#8, 0#8] ++ [0#8, 9#8, 0#8, 1#8, 0#8] ++ [243#8, 142#8, 108#8, 132#8] ++ [253#8]), (((acyclicIn 0x24 5 ([251#8, 36#8, 1#8, 0#8, 5#8, 0#8] ++ [0#8, 9#8, 0#8, 1#8, 0#8] ++ [243#8, 142#8, 108#8, 132#8] ++ [253#8])).getD (0, [])).1), (((acyclicIn 0x24 5 ([251#8, 36#8, 1#8, 0#8, 5#8, 0#8] ++ [0#8, 9#8, 0#8, 1#8, 0#8] ++ [243#8, 142#8, 108#8, 132#8] ++ [253#8])).getD (0, [])).2), (uAt (((acyclicIn 0x24 5 ([251#8, 36#8, 1#8, 0#8, 5#8, 0#8] ++ [0#8, 9#8, 0#8, 1#8, 0#8] ++ [243#8, 142#8, 108#8, 132#8] ++ [253#8])).getD (0, [])).2) 0 1), rfl, by decide +kernel⟩

def dev48 : Dev := { regs := [((R.GRP_STAT 1).addr, 1073741824#32)], time := { tns := 8589933993865674489856 }, loader := { image := some { axes := [{ axis := 0, kind := 1, k := 0, bind := 5, group := 1, arm := 0, joint := 0, fb := 0, sp := 0, law := 0 }], slots := [{ port := 0, slot := 0, epCount := 1, nodeAlias := 0, typeCode := 0, firstEp := 5 }] } }, line := { groups := [(1, { n := some 15999996 })] } }

theorem wit_GroupsComplete_grpRetry : ∃ (s : State) (d : Dev) (g : Nat) (n : Nat),
    s.start = d ∧ s.On ∧ g < 256 ∧ (d.grp g).n = some n ∧ d.grpState g = 2 ∧ n < d.grpIdx g ∧ d.grpIdx g ≤ n + 4 ∧ (d.grp g).retries < d.grpIdx g - n ∧ d.grpOpen g ≠ [] :=
  ⟨{ dev := dev48 }, dev48, 1, ((dev48.grp 1).n.getD 0), rfl, by decide +kernel⟩

def dev49 : Dev := { regs := [((R.GRP_STAT 0).addr, 1073741824#32)], time := { tns := 2814749767106560 }, line := { groups := [(0, { n := some 0 })] } }

theorem wit_GroupsComplete_grpConverge_a : ∃ (s : State) (d : Dev) (g : Nat) (n : Nat),
    s.start = d ∧ s.On ∧ g < 256 ∧ (d.grp g).n = some n ∧ d.grpState g = 2 ∧ (d.grp g).stop = 0 ∧ n + 5 ≤ d.grpIdx g ∧ d.grpOpen g = [] :=
  ⟨{ dev := dev49 }, dev49, 0, ((dev49.grp 0).n.getD 0), rfl, by decide +kernel⟩

def dev50 : Dev := { regs := [((R.GRP_STAT 1).addr, 1073741824#32)], time := { tns := 2814749767106560 }, loader := { image := some { axes := [{ axis := 0, kind := 1, k := 0, bind := 5, group := 1, arm := 0, joint := 0, fb := 0, sp := 0, law := 0 }], slots := [{ port := 0, slot := 0, epCount := 1, nodeAlias := 0, typeCode := 0, firstEp := 5 }] } }, line := { groups := [(1, { n := some 0 })] } }

theorem wit_GroupsComplete_grpConverge_b : ∃ (s : State) (d : Dev) (g : Nat) (n : Nat),
    s.start = d ∧ s.On ∧ g < 256 ∧ (d.grp g).n = some n ∧ d.grpState g = 2 ∧ (d.grp g).stop = 0 ∧ n + 5 ≤ d.grpIdx g ∧ d.grpOpen g ≠ [] :=
  ⟨{ dev := dev50 }, dev50, 1, ((dev50.grp 1).n.getD 0), rfl, by decide +kernel⟩

/-! ### ImageCommandsComplete -/

def dev51 : Dev := { host := { sess := [(0, { sessId := 0, ctl := true })] }, loader := { bootDone := true } }

theorem wit_ImageCommandsComplete_imageCheck : ∃ (s : State) (d : Dev) (ses : Nat) (w : Word),
    s.start = d ∧ s.On ∧ d.MayWrite ses R.FAB_IMG_CTL ∧ getF w F.FAB_IMG_CTL.ACTIVATE = 0 ∧ d.WriteOk R.FAB_IMG_CTL (putF w F.FAB_IMG_CTL.CHECK 1) :=
  ⟨{ dev := dev51 }, dev51, 0, 0#32, rfl, by decide +kernel⟩

theorem wit_ImageCommandsComplete_activate : ∃ (s : State) (d : Dev) (ses : Nat) (w : Word),
    s.start = d ∧ s.On ∧ d.MayWrite ses R.FAB_IMG_CTL ∧ d.WriteOk R.FAB_IMG_CTL (putF w F.FAB_IMG_CTL.ACTIVATE 1) :=
  ⟨{ dev := dev51 }, dev51, 0, 0#32, rfl, by decide +kernel⟩

theorem wit_ImageCommandsComplete_erase_a : ∃ (s : State) (d : Dev) (ses : Nat) (w : Word),
    s.start = d ∧ s.On ∧ d.MayWrite ses R.FAB_IMG_CTL ∧ getF w F.FAB_IMG_CTL.ACTIVATE = 0 ∧ getF w F.FAB_IMG_CTL.CHECK = 0 ∧ d.WriteOk R.FAB_IMG_CTL (putF w F.FAB_IMG_CTL.ERASE 1) ∧ getF w F.FAB_IMG_CTL.SLOT = 0 :=
  ⟨{ dev := dev1 }, dev1, 0, 0#32, rfl, by decide +kernel⟩

theorem wit_ImageCommandsComplete_erase_b : ∃ (s : State) (d : Dev) (ses : Nat) (w : Word),
    s.start = d ∧ s.On ∧ d.MayWrite ses R.FAB_IMG_CTL ∧ getF w F.FAB_IMG_CTL.ACTIVATE = 0 ∧ getF w F.FAB_IMG_CTL.CHECK = 0 ∧ d.WriteOk R.FAB_IMG_CTL (putF w F.FAB_IMG_CTL.ERASE 1) ∧ getF w F.FAB_IMG_CTL.SLOT = 1 :=
  ⟨{ dev := dev1 }, dev1, 0, 256#32, rfl, by decide +kernel⟩

def dev52 : Dev := { host := { sess := [(0, { sessId := 0, ctl := true })] }, loader := { image := some { params := [{ engine := 0, mem := 1, task := 0, addr := 0, len := 4 }] } } }

theorem wit_ImageCommandsComplete_paramsWrite : ∃ (s : State) (d : Dev) (ses n mem a : Nat) (w : Word),
    s.start = d ∧ s.On ∧ n < 16 ∧ mem < 2 ∧ (tget? d.host.sess ses).any (fun x => x.ctl) = true ∧ d.paramsHold n mem a = true ∧ d.isStandby = false ∧ d.handingOver = false ∧ d.inSwitch = false ∧ d.blkOn .ce = true :=
  ⟨{ dev := dev52 }, dev52, 0, 0, 1, 0, 0#32, rfl, by decide +kernel⟩

/-! ### ActivationComplete -/

def dev53 : Dev := { regs := [((R.TRACK_STAT 0).addr, 0#32)], loader := { job := (.armed 0 true), image := some { tracks := [{ track := 0, mode := 0, mkind := 0, master := 0, modulus := 0, num := 0, den := 0 }] } } }

theorem wit_ActivationComplete_keepitemsStillCheck : ∃ (s : State) (d : Dev) (t k : Nat),
    s.start = d ∧ s.On ∧ d.loader.job = .armed t true ∧ t ≤ d.ns + 125000 ∧ d.movingTrack = some k :=
  ⟨{ dev := dev53 }, dev53, ((match dev53.loader.job with | .armed a _ => a | _ => 0)), (dev53.movingTrack.getD 999), rfl, by decide +kernel⟩

def dev54 : Dev := { loader := { job := (.armed 0 false), nextImage := some {} } }

theorem wit_ActivationComplete_activationSwitch : ∃ (s : State) (d : Dev) (t : Nat) (keep : Bool) (i : Image),
    s.start = d ∧ s.On ∧ d.loader.job = .armed t keep ∧ d.loader.nextImage = some i ∧ t ≤ d.ns ∧ keep = false :=
  ⟨{ dev := dev54 }, dev54, ((match dev54.loader.job with | .armed a _ => a | _ => 0)), ((match dev54.loader.job with | .armed _ b => b | _ => false)), (dev54.loader.nextImage.getD {}), rfl, by decide +kernel⟩

def dev55 : Dev := { time := { tns := 18014398509481984 }, loader := { job := (.switching 0 false false), nextImage := some {} } }

theorem wit_ActivationComplete_activationCommit : ∃ (s : State) (d : Dev) (t : Nat) (keep : Bool) (i : Image),
    s.start = d ∧ s.On ∧ d.loader.job = .switching t keep false ∧ d.loader.nextImage = some i ∧ t + 3800000 ≤ d.ns :=
  ⟨{ dev := dev55 }, dev55, ((match dev55.loader.job with | .switching a _ _ => a | _ => 0)), ((match dev55.loader.job with | .switching _ b _ => b | _ => false)), (dev55.loader.nextImage.getD {}), rfl, by decide +kernel⟩

def dev56 : Dev := { time := { tns := 18014398509481984 }, loader := { job := (.switching 0 false true), image := some {} } }

theorem wit_ActivationComplete_activationRelease : ∃ (s : State) (d : Dev) (t : Nat) (keep : Bool),
    s.start = d ∧ s.On ∧ d.loader.job = .switching t keep true ∧ t + 4000000 ≤ d.ns ∧ d.loader.image.isSome = true :=
  ⟨{ dev := dev56 }, dev56, ((match dev56.loader.job with | .switching a _ _ => a | _ => 0)), ((match dev56.loader.job with | .switching _ b _ => b | _ => false)), rfl, by decide +kernel⟩

/-! ### EnginesComplete -/

def dev57 : Dev := { loader := { image := some { tasks := [{ task := 1, engine := 0, k := 0, phase := 0, trig := 0, order := 0, entry := 0, wcet := 0, deadline := 0, dep0 := 0, dep1 := 0, ctx := 0, hostOk := false }] } } }

theorem wit_EnginesComplete_taskRelease : ∃ (s : State) (d : Dev) (t : Nat) (ms : List (Nat × Int × Int)) (r : TaskRec),
    s.start = d ∧ s.On ∧ t < 4096 ∧ d.taskRec t = some r ∧ d.running = true ∧ d.engineOff r.engine = false ∧ r.ctx ≠ 2 ∧ (d.tstat t).suspended = false ∧ d.releaseDue r = true ∧ (d.eng r.engine).halted = false ∧ (d.eng r.engine).insts.any (fun i => i.task == t) = false ∧ d.tooSoon r = false :=
  ⟨{ dev := dev57 }, dev57, 1, [], ((dev57.taskRec 1).getD ⟨0, 0, 0, 0, 0, 0, 0, 0, 0, 0, 0, 0, false⟩), rfl, by decide +kernel⟩

def dev58 : Dev := { engs := { eng := [(1, { plen := 1, insts := [{ task := 0, ctx := 0, order := 0, release := 0, begun := true }] })] } }

theorem wit_EnginesComplete_bundleIssue : ∃ (s : State) (d : Dev) (n : Nat) (err : Option (Nat × Nat × Bool)) (i : Inst) (u : Issued),
    s.start = d ∧ s.On ∧ n < 16 ∧ (d.eng n).halted = false ∧ d.engineOff n = false ∧ pickInst (d.eng n).insts = some i ∧ (i.begun = true ∨ (d.taskRec i.task).isSome = true) ∧ ((d.eng n).pass = true ∨ (d.eng n).breaks.contains (d.issueCtx n i).pc = false) ∧ (d.issueCtx n i).pc < (d.eng n).plen ∧ d.nextBundle n i = .inr u ∧ err.any (fun x => x.2.2) = false :=
  ⟨{ dev := dev58 }, dev58, 1, none, ((pickInst (dev58.eng 1).insts).getD { task := 9999, ctx := 0, order := 0, release := 0 }), ((match dev58.nextBundle 1 ((pickInst (dev58.eng 1).insts).getD { task := 9999, ctx := 0, order := 0, release := 0 }) with | .inr u => u | .inl _ => { ctx := {} })), rfl, by decide +kernel⟩

def dev59 : Dev := { loader := { image := some { tasks := [{ task := 0, engine := 0, k := 0, phase := 0, trig := 0, order := 0, entry := 0, wcet := 0, deadline := 0, dep0 := 0, dep1 := 0, ctx := 0, hostOk := false }] } }, engs := { eng := [(0, { insts := [{ task := 0, ctx := 1, order := 0, release := 0 }] })] } }

theorem wit_EnginesComplete_taskDeadline : ∃ (s : State) (d : Dev) (t : Nat) (r : TaskRec) (i : Inst),
    s.start = d ∧ s.On ∧ t < 4096 ∧ d.taskRec t = some r ∧ (d.eng r.engine).insts.find? (fun i => i.task == t) = some i ∧ i.ctx ≠ 0 ∧ i.release + r.deadline ≤ d.ns :=
  ⟨{ dev := dev59 }, dev59, 0, ((dev59.taskRec 0).getD ⟨0, 0, 0, 0, 0, 0, 0, 0, 0, 0, 0, 0, false⟩), (((dev59.eng ((dev59.taskRec 0).getD ⟨0, 0, 0, 0, 0, 0, 0, 0, 0, 0, 0, 0, false⟩).engine).insts.find? (fun i => i.task == 0)).getD { task := 9999, ctx := 0, order := 0, release := 0 }), rfl, by decide +kernel⟩

theorem wit_EnginesComplete_ceResume : ∃ (s : State) (d : Dev) (ses n : Nat) (w : Word),
    s.start = d ∧ s.On ∧ n < 16 ∧ d.MayWrite ses (R.CE_CTL n) ∧ d.WriteOk (R.CE_CTL n) (putF w F.CE_CTL.RESUME 1) :=
  ⟨{ dev := dev1 }, dev1, 0, 0, 0#32, rfl, by decide +kernel⟩

theorem wit_EnginesComplete_ceClrmax : ∃ (s : State) (d : Dev) (ses n : Nat) (w : Word),
    s.start = d ∧ s.On ∧ n < 16 ∧ d.MayWrite ses (R.CE_CTL n) ∧ d.WriteOk (R.CE_CTL n) (putF w F.CE_CTL.CLRMAX 1) :=
  ⟨{ dev := dev1 }, dev1, 0, 0, 0#32, rfl, by decide +kernel⟩

def dev60 : Dev := { regs := [((R.SEC_STAT).addr, 524288#32)], sec := { open_ := some 0 } }

theorem wit_EnginesComplete_engineHalt_6 : ∃ (s : State) (d : Dev) (n : Nat),
    s.start = d ∧ s.On ∧ n < 16 ∧ bitAt d.debugScope 3 = true ∧ d.engineOff n = false ∧ (d.bit R.SAFE_STAT F.SAFE_STAT.ARMED = false ∨ d.safeTasksOf n = []) :=
  ⟨{ dev := dev60 }, dev60, 0, rfl, by decide +kernel⟩

def dev61 : Dev := { regs := [((R.SEC_STAT).addr, 524288#32), ((R.SAFE_STAT).addr, 134217728#32)], loader := { image := some { tasks := [{ task := 0, engine := 0, k := 0, phase := 0, trig := 0, order := 0, entry := 0, wcet := 0, deadline := 0, dep0 := 0, dep1 := 0, ctx := 0, hostOk := false }], axes := [{ axis := 0, kind := 0, k := 0, bind := 0, group := 0, arm := 0, joint := 0, fb := 0, sp := 0, law := 0 }], safety := [[2#8]] } }, sec := { open_ := some 0 } }

theorem wit_EnginesComplete_engineHalt_7 : ∃ (s : State) (d : Dev) (n : Nat),
    s.start = d ∧ s.On ∧ n < 16 ∧ bitAt d.debugScope 3 = true ∧ d.engineOff n = false ∧ d.bit R.SAFE_STAT F.SAFE_STAT.ARMED = true ∧ d.safeTasksOf n ≠ [] :=
  ⟨{ dev := dev61 }, dev61, 0, rfl, by decide +kernel⟩

def dev62 : Dev := { regs := [((R.SEC_STAT).addr, 524288#32)], engs := { eng := [(1, { plen := 1, insts := [{ task := 0, ctx := 0, order := 0, release := 0 }], halted := true })] }, sec := { open_ := some 0 } }

theorem wit_EnginesComplete_engineStep : ∃ (s : State) (d : Dev) (n : Nat) (err : Option (Nat × Nat × Bool)) (i : Inst) (u : Issued),
    s.start = d ∧ s.On ∧ n < 16 ∧ bitAt d.debugScope 3 = true ∧ (d.eng n).halted = true ∧ pickInst (d.eng n).insts = some i ∧ (d.issueCtx n i).pc < (d.eng n).plen ∧ d.nextBundle n i = .inr u ∧ err.any (fun x => x.2.2) = false :=
  ⟨{ dev := dev62 }, dev62, 1, none, ((pickInst (dev62.eng 1).insts).getD { task := 9999, ctx := 0, order := 0, release := 0 }), ((match dev62.nextBundle 1 ((pickInst (dev62.eng 1).insts).getD { task := 9999, ctx := 0, order := 0, release := 0 }) with | .inr u => u | .inl _ => { ctx := {} })), rfl, by decide +kernel⟩

def dev63 : Dev := { regs := [((R.SEC_STAT).addr, 524288#32)], engs := { eng := [(1, { halted := true })] }, sec := { open_ := some 0 } }

theorem wit_EnginesComplete_engineResume : ∃ (s : State) (d : Dev) (n : Nat),
    s.start = d ∧ s.On ∧ n < 16 ∧ bitAt d.debugScope 3 = true ∧ (d.eng n).halted = true :=
  ⟨{ dev := dev63 }, dev63, 1, rfl, by decide +kernel⟩

theorem wit_EnginesComplete_breakpointSet : ∃ (s : State) (d : Dev) (n pc : Nat),
    s.start = d ∧ s.On ∧ n < 16 ∧ pc < 32768 ∧ bitAt d.debugScope 3 = true ∧ (d.bit R.SAFE_STAT F.SAFE_STAT.ARMED = false ∨ d.safeTasksOf n = []) :=
  ⟨{ dev := dev60 }, dev60, 0, 0, rfl, by decide +kernel⟩

/-! ### AxisControlComplete -/

def dev64 : Dev := { host := { sess := [(0, { sessId := 0, ctl := true })] }, loader := { image := some { axes := [{ axis := 2, kind := 1, k := 0, bind := 0, group := 0, arm := 0, joint := 0, fb := 0, sp := 0, law := 0 }], slots := [{ port := 0, slot := 0, epCount := 1, nodeAlias := 0, typeCode := 0, firstEp := 0 }] } } }

theorem wit_AxisControlComplete_axisEnable : ∃ (s : State) (d : Dev) (ses a : Nat) (w : Word),
    s.start = d ∧ s.On ∧ a < 8192 ∧ d.MayWrite ses (R.AXIS_CTL a) ∧ d.bit (R.AXIS_CTL a) F.AXIS_CTL.EN = false ∧ d.WriteOk (R.AXIS_CTL a) (putF w F.AXIS_CTL.EN 1) :=
  ⟨{ dev := dev64 }, dev64, 0, 2, 0#32, rfl, by decide +kernel⟩

def dev65 : Dev := { regs := [((R.AXIS_CTL 2).addr, 2147483648#32)], host := { sess := [(0, { sessId := 0, ctl := true })] }, loader := { image := some { axes := [{ axis := 2, kind := 0, k := 0, bind := 0, group := 0, arm := 0, joint := 0, fb := 0, sp := 0, law := 0 }] } } }

theorem wit_AxisControlComplete_axisDisable : ∃ (s : State) (d : Dev) (ses a : Nat) (w : Word),
    s.start = d ∧ s.On ∧ a < 8192 ∧ d.MayWrite ses (R.AXIS_CTL a) ∧ d.bit (R.AXIS_CTL a) F.AXIS_CTL.EN = true ∧ d.WriteOk (R.AXIS_CTL a) (putF w F.AXIS_CTL.EN 0) :=
  ⟨{ dev := dev65 }, dev65, 0, 2, 0#32, rfl, by decide +kernel⟩

theorem wit_AxisControlComplete_manOn : ∃ (s : State) (d : Dev) (ses a : Nat) (w : Word),
    s.start = d ∧ s.On ∧ a < 8192 ∧ d.MayWrite ses (R.AXIS_CTL a) ∧ d.WriteOk (R.AXIS_CTL a) (putF w F.AXIS_CTL.MAN 1) :=
  ⟨{ dev := dev3 }, dev3, 0, 2, 0#32, rfl, by decide +kernel⟩

theorem wit_AxisControlComplete_manOff : ∃ (s : State) (d : Dev) (ses a : Nat) (w : Word),
    s.start = d ∧ s.On ∧ a < 8192 ∧ d.MayWrite ses (R.AXIS_CTL a) ∧ d.WriteOk (R.AXIS_CTL a) (putF w F.AXIS_CTL.MAN 0) :=
  ⟨{ dev := dev3 }, dev3, 0, 2, 0#32, rfl, by decide +kernel⟩

theorem wit_AxisControlComplete_clrflt : ∃ (s : State) (d : Dev) (ses a : Nat) (w : Word),
    s.start = d ∧ s.On ∧ a < 8192 ∧ d.MayWrite ses (R.AXIS_CTL a) ∧ getF w F.AXIS_CTL.EN = d.fld (R.AXIS_CTL a) F.AXIS_CTL.EN ∧ d.WriteOk (R.AXIS_CTL a) (putF w F.AXIS_CTL.CLRFLT 1) ∧ d.axEnabled a = false :=
  ⟨{ dev := dev3 }, dev3, 0, 2, 0#32, rfl, by decide +kernel⟩

def dev66 : Dev := { host := { sess := [(0, { sessId := 0, ctl := true })] }, loader := { image := some { axes := [{ axis := 0, kind := 0, k := 0, bind := 0, group := 0, arm := 0, joint := 0, fb := 0, sp := 0, law := 0 }] } } }

theorem wit_AxisControlComplete_bankWrite : ∃ (s : State) (d : Dev) (ses a : Nat) (w : Word),
    s.start = d ∧ s.On ∧ a < 8192 ∧ d.MayWrite ses (R.AXIS_CTL a) ∧ d.WriteOk (R.AXIS_CTL a) w ∧ getF w F.AXIS_CTL.BANK ≠ d.fld (R.AXIS_CTL a) F.AXIS_CTL.BANK :=
  ⟨{ dev := dev66 }, dev66, 0, 0, 536870912#32, rfl, by decide +kernel⟩

theorem wit_AxisControlComplete_lawWrite : ∃ (s : State) (d : Dev) (ses a lvl : Nat) (w : Word),
    s.start = d ∧ s.On ∧ a < 8192 ∧ lvl < 3 ∧ d.MayWrite ses (R.LVL_CFG a lvl) ∧ d.WriteOk (R.LVL_CFG a lvl) w ∧ getF w F.LVL_CFG.LAW ≠ d.fld (R.LVL_CFG a lvl) F.LVL_CFG.LAW :=
  ⟨{ dev := dev66 }, dev66, 0, 0, 0, 268435456#32, rfl, by decide +kernel⟩

theorem wit_AxisControlComplete_filterCommit : ∃ (s : State) (d : Dev) (ses a k : Nat) (w : Word),
    s.start = d ∧ s.On ∧ a < 8192 ∧ k < 8 ∧ d.MayWrite ses (R.FLT_CFG a k) ∧ (d.filterCheck a k w).1 = .ok :=
  ⟨{ dev := dev3 }, dev3, 0, 2, 0, 0#32, rfl, by decide +kernel⟩

/-! ### AxisSamplesComplete -/

def dev67 : Dev := { regs := [((R.AXIS_STAT 0).addr, 268435456#32)], loader := { image := some { axes := [{ axis := 0, kind := 0, k := 0, bind := 0, group := 0, arm := 0, joint := 0, fb := 0, sp := 0, law := 0 }] } } }

theorem wit_AxisSamplesComplete_setpointUpdate : ∃ (s : State) (d : Dev) (a : Nat) (r : AxisRec),
    s.start = d ∧ s.On ∧ a < 8192 ∧ d.axisRec a = some r ∧ r.kind ≠ 1 ∧ isBoundary d.time.tick r.period = true ∧ (d.ms a).tick ≠ some d.time.tick ∧ d.axEnabled a = true :=
  ⟨{ dev := dev67 }, dev67, 0, ((dev67.axisRec 0).getD (dev67.img.axes.headD axis0)), rfl, by decide +kernel⟩

def dev68 : Dev := { regs := [((R.AXIS_STAT 1).addr, 1073741824#32)], axs := { axes := [(1, { still := 8 })] } }

theorem wit_AxisSamplesComplete_stopComplete : ∃ (s : State) (d : Dev) (a : Nat),
    s.start = d ∧ s.On ∧ a < 8192 ∧ d.axState a = 4 ∧ 8 ≤ (d.axSt a).still :=
  ⟨{ dev := dev68 }, dev68, 1, rfl, by decide +kernel⟩

def dev69 : Dev := { regs := [((R.AXIS_STAT 2).addr, 285212672#32), ((R.PCFG 2).addr, 1073741824#32)], time := { tns := 4503599627370496 }, loader := { image := some { axes := [{ axis := 2, kind := 0, k := 0, bind := 0, group := 0, arm := 0, joint := 0, fb := 0, sp := 0, law := 0 }] } }, axs := { axes := [(2, { primed := true })] } }

theorem wit_AxisSamplesComplete_plausibilitySample : ∃ (s : State) (d : Dev) (a : Nat) (r : AxisRec),
    s.start = d ∧ s.On ∧ a < 8192 ∧ d.axisRec a = some r ∧ d.fld (R.PCFG a) F.PCFG.MODEL ≠ 0 ∧ d.axState a ≠ 0 ∧ d.axState a ≠ 6 ∧ (d.axSt a).primed = true ∧ isBoundary d.time.tick (d.modelK r) = true ∧ d.fbValid a = true ∧ (d.axSt a).primedNs + periodNs (d.modelK r) ≤ d.ns :=
  ⟨{ dev := dev69 }, dev69, 2, ((dev69.axisRec 2).getD (dev69.img.axes.headD axis0)), rfl, by decide +kernel⟩

def dev70 : Dev := { regs := [((R.AXIS_STAT 2).addr, 268435456#32)], time := { tns := 8589934592000000000000, tick := 64000000 }, loader := { image := some { axes := [{ axis := 2, kind := 0, k := 0, bind := 0, group := 0, arm := 0, joint := 0, fb := 0, sp := 0, law := 0 }] } }, axs := { axes := [(2, { levels := [(2, { fresh := true, sampleNs := some 2000000000000 })] })] } }

theorem wit_AxisSamplesComplete_classFOutputTake : ∃ (s : State) (d : Dev) (a lvl : Nat) (r : AxisRec),
    s.start = d ∧ s.On ∧ a < 8192 ∧ lvl < 3 ∧ d.axisRec a = some r ∧ d.classA a lvl = false ∧ (d.levels a).contains lvl = true ∧ d.axEnabled a = true ∧ d.periodStart (r.levelK lvl) + 2 * d.fld (R.LVL_CFG a lvl) F.LVL_CFG.OUTPH ≤ d.ns ∧ ((d.axSt a).level lvl).fresh = true ∧ ((d.axSt a).level lvl).sampleNs = some (d.periodStart (r.levelK lvl)) ∧ ((d.axSt a).level lvl).takeNs ≠ some (d.periodStart (r.levelK lvl)) :=
  ⟨{ dev := dev70 }, dev70, 2, 2, ((dev70.axisRec 2).getD (dev70.img.axes.headD axis0)), rfl, by decide +kernel⟩

def dev71 : Dev := { regs := [((R.LINE_CFG 1).addr, 8192#32), ((R.LINE_STAT 1).addr, 536870912#32)], time := { tns := 8589934723941395333120 }, loader := { image := some { slots := [{ port := 1, slot := 0, epCount := 0, nodeAlias := 0, typeCode := 0, firstEp := 0 }] } } }

theorem wit_AxisSamplesComplete_downstreamTake : ∃ (s : State) (d : Dev) (p : Nat) (relayed : Bool),
    s.start = d ∧ s.On ∧ p < 24 ∧ d.basePort p = p ∧ d.sends p = true ∧ (d.ns / d.portNs p + 1) * d.portNs p - takeLead relayed ≤ d.ns ∧ tget? d.tall.takes (2 * p + (if relayed then 1 else 0)) ≠ some ((d.ns / d.portNs p + 1) * d.portNs p) ∧ (∃ i ∈ List.range (d.nodes p), d.slotRelayed p i = relayed ∧ (d.slotRec p i).isSome = true) :=
  ⟨{ dev := dev71 }, dev71, 1, false, rfl, by decide +kernel⟩

/-! ### PwmComplete -/

def dev72 : Dev := { regs := [((R.PWM_LEG_CFG 0 4).addr, 2147483648#32)], host := { sess := [(0, { sessId := 0, ctl := true })] } }

theorem wit_PwmComplete_pwmCmpLoWrite : ∃ (s : State) (d : Dev) (ses l : Nat) (w : Word),
    s.start = d ∧ s.On ∧ l < 96 ∧ d.MayWrite ses (legReg R.PWM_CMP_LO l) ∧ lowest (d.pairCheck (legReg R.PWM_CMP_LO l) (d.pairValue ses (legReg R.PWM_CMP_LO l) (legReg R.PWM_CMP_HI l) w)) = .ok :=
  ⟨{ dev := dev72 }, dev72, 0, 4, 0#32, rfl, by decide +kernel⟩

def dev73 : Dev := { regs := [((R.PWM_LEG_CFG 0 2).addr, 2147483648#32)], host := { sess := [(0, { sessId := 0, ctl := true })] } }

theorem wit_PwmComplete_legCommit : ∃ (s : State) (d : Dev) (ses l : Nat) (w : Word),
    s.start = d ∧ s.On ∧ l < 96 ∧ d.MayWrite ses (legReg R.PWM_LEG_CTL l) ∧ d.WriteOk (legReg R.PWM_LEG_CTL l) (putF w F.PWM_LEG_CTL.COMMIT 1) :=
  ⟨{ dev := dev73 }, dev73, 0, 2, 0#32, rfl, by decide +kernel⟩

theorem wit_PwmComplete_clracc_a : ∃ (s : State) (d : Dev) (ses l : Nat) (w : Word),
    s.start = d ∧ s.On ∧ l < 96 ∧ d.MayWrite ses (legReg R.PWM_LEG_CTL l) ∧ d.WriteOk (legReg R.PWM_LEG_CTL l) (putF w F.PWM_LEG_CTL.CLRACC 1) ∧ (d.car (l / 12)).startClk ≠ some d.clk :=
  ⟨{ dev := dev1 }, dev1, 0, 0, 0#32, rfl, by decide +kernel⟩

def dev74 : Dev := { clk := 1000000000000, host := { sess := [(0, { sessId := 0, ctl := true })] }, pwm := { cars := [(0, { startClk := some 1000000000000 })] } }

theorem wit_PwmComplete_clracc_b : ∃ (s : State) (d : Dev) (ses l : Nat) (w : Word),
    s.start = d ∧ s.On ∧ l < 96 ∧ d.MayWrite ses (legReg R.PWM_LEG_CTL l) ∧ d.WriteOk (legReg R.PWM_LEG_CTL l) (putF w F.PWM_LEG_CTL.CLRACC 1) ∧ (d.car (l / 12)).startClk = some d.clk :=
  ⟨{ dev := dev74 }, dev74, 0, 0, 0#32, rfl, by decide +kernel⟩

def dev75 : Dev := { clk := 1 }

theorem wit_PwmComplete_reloadSample_a : ∃ (s : State) (d : Dev) (c : Nat),
    s.start = d ∧ s.On ∧ c < 8 ∧ (d.car c).lastReload ≠ some ((d.ns + 2048) / d.pwmNs c) ∧ (∃ l ∈ legsOf c, (d.leg l).commClk < d.clk) :=
  ⟨{ dev := dev75 }, dev75, 0, rfl, by decide +kernel⟩

theorem wit_PwmComplete_reloadSample_b : ∃ (s : State) (d : Dev) (c : Nat),
    s.start = d ∧ s.On ∧ c < 8 ∧ (d.car c).lastReload ≠ some ((d.ns + 2048) / d.pwmNs c) ∧ (∃ l ∈ legsOf c, d.clk ≤ (d.leg l).commClk) :=
  ⟨{ dev := {} }, {}, 0, rfl, by decide +kernel⟩

theorem wit_PwmComplete_pwmPeriodStart_a : ∃ (s : State) (d : Dev) (c : Nat),
    s.start = d ∧ s.On ∧ c < 8 ∧ (d.car c).lastStart ≠ some (d.ns / d.pwmNs c) ∧ (∃ l ∈ legsOf c, True) :=
  ⟨{ dev := {} }, {}, 0, rfl, by decide +kernel⟩

def dev76 : Dev := { regs := [((R.AXIS_STAT 3).addr, 268435456#32)], loader := { image := some { axes := [{ axis := 3, kind := 0, k := 0, bind := 3, group := 0, arm := 0, joint := 0, fb := 0, sp := 0, law := 0 }] } } }

theorem wit_PwmComplete_pwmPeriodStart_b : ∃ (s : State) (d : Dev) (c : Nat),
    s.start = d ∧ s.On ∧ c < 8 ∧ (d.car c).lastStart ≠ some (d.ns / d.pwmNs c) ∧ (∃ l ∈ legsOf c, d.legRuns l = true) :=
  ⟨{ dev := dev76 }, dev76, 3, rfl, by decide +kernel⟩

theorem wit_PwmComplete_delayLineCal_a : ∃ (s : State) (d : Dev) (c : Nat) (map : Option Nat),
    s.start = d ∧ s.On ∧ c < 8 ∧ ((d.car c).calClk = 0 ∨ (d.car c).calClk + 2000 ≤ d.clk) ∧ map.isSome = true ∧ (d.car c).startClk ≠ some d.clk :=
  ⟨{ dev := {} }, {}, 0, some 0, rfl, by decide +kernel⟩

def dev77 : Dev := { clk := 1000000000000, pwm := { cars := [(0, { startClk := some 1000000000000 })] } }

theorem wit_PwmComplete_delayLineCal_b : ∃ (s : State) (d : Dev) (c : Nat) (map : Option Nat),
    s.start = d ∧ s.On ∧ c < 8 ∧ ((d.car c).calClk = 0 ∨ (d.car c).calClk + 2000 ≤ d.clk) ∧ map.isSome = true ∧ (d.car c).startClk = some d.clk :=
  ⟨{ dev := dev77 }, dev77, 0, some 0, rfl, by decide +kernel⟩

def dev78 : Dev := { regs := [((R.PWM_LEG_STAT 0 1).addr, 65536#32), ((R.AXIS_STAT 0).addr, 268435456#32)], loader := { image := some { axes := [{ axis := 0, kind := 0, k := 0, bind := 0, group := 0, arm := 0, joint := 0, fb := 0, sp := 0, law := 0 }] } } }

theorem wit_PwmComplete_swnEdge : ∃ (s : State) (d : Dev) (l : Nat) (low : Bool) (ns : Nat),
    s.start = d ∧ s.On ∧ l < 96 ∧ d.legRuns l = true ∧ d.bit (legReg R.PWM_LEG_CFG l) F.PWM_LEG_CFG.DTMODE = false ∧ low = true ∧ ns < 2 * d.fld (legReg R.PWM_LEG_STAT l) F.PWM_LEG_STAT.DTHL :=
  ⟨{ dev := dev78 }, dev78, 1, true, 0, rfl, by decide +kernel⟩

def dev79 : Dev := { regs := [((R.AXIS_STAT 0).addr, 268435456#32)], loader := { image := some { axes := [{ axis := 0, kind := 0, k := 0, bind := 0, group := 0, arm := 0, joint := 0, fb := 0, sp := 0, law := 0 }] } }, pwm := { legs := [(1, { miss := 16 })] } }

theorem wit_PwmComplete_swnMiss : ∃ (s : State) (d : Dev) (l : Nat),
    s.start = d ∧ s.On ∧ l < 96 ∧ d.legRuns l = true ∧ d.bit (legReg R.PWM_LEG_CFG l) F.PWM_LEG_CFG.DTMODE = false ∧ 16 ≤ (d.leg l).miss + 1 :=
  ⟨{ dev := dev79 }, dev79, 1, rfl, by decide +kernel⟩

def dev80 : Dev := { regs := [((R.PWM_TRIP_CFG 0 3).addr, 2147483648#32)] }

theorem wit_PwmComplete_tripActive : ∃ (s : State) (d : Dev) (c t : Nat) (high : Bool),
    s.start = d ∧ s.On ∧ c < 8 ∧ t < 4 ∧ d.fld (R.PWM_TRIP_CFG c t) F.PWM_TRIP_CFG.FILT = 0 ∧ (d.filOf (4 * c + t)).clk ≤ d.clk ∧ d.pstate ≠ 4 ∧ d.tripActive c t = false ∧ high = d.bit (R.PWM_TRIP_CFG c t) F.PWM_TRIP_CFG.POL ∧ d.bit (R.PWM_TRIP_CFG c t) F.PWM_TRIP_CFG.EN = true ∧ bitAt (d.car c).tripOn t = false :=
  ⟨{ dev := dev80 }, dev80, 0, 3, false, rfl, by decide +kernel⟩

/-! ### CarriersComplete -/

def dev81 : Dev := { regs := [((R.PWM_DRV_STAT 1).addr, 2147483648#32)] }

theorem wit_CarriersComplete_carrierRemoved : ∃ (s : State) (d : Dev) (c : Nat),
    s.start = d ∧ s.On ∧ c < 8 ∧ d.bit (R.PWM_DRV_STAT c) F.PWM_DRV_STAT.PRESENT = true ∧ (∃ l ∈ legsOf c, True) :=
  ⟨{ dev := dev81 }, dev81, 1, rfl, by decide +kernel⟩

theorem wit_CarriersComplete_carrierInserted : ∃ (s : State) (d : Dev) (c : Nat),
    s.start = d ∧ s.On ∧ c < 8 ∧ d.bit (R.PWM_DRV_STAT c) F.PWM_DRV_STAT.PRESENT = false :=
  ⟨{ dev := {} }, {}, 0, rfl, by decide +kernel⟩

def dev82 : Dev := { pwm := { cars := [(0, { reading := true })] } }

theorem wit_CarriersComplete_carrierIdReadDone : ∃ (s : State) (d : Dev) (c : Nat) (bytes : List (BitVec 8)),
    s.start = d ∧ s.On ∧ c < 8 ∧ (d.car c).reading = true :=
  ⟨{ dev := dev82 }, dev82, 0, [], rfl, by decide +kernel⟩

theorem wit_CarriersComplete_sdLoss : ∃ (s : State) (d : Dev) (c j : Nat),
    s.start = d ∧ s.On ∧ c < 8 ∧ j < 13 ∧ d.bit (R.SD_CFG c j) F.SD_CFG.LOSS = false :=
  ⟨{ dev := {} }, {}, 0, 0, rfl, by decide +kernel⟩

def dev83 : Dev := { loader := { image := some { chans := [{ chan := 0, kind := 0, fmt := 0, src := 16777219, producer := 0, dst := [] }] } } }

theorem wit_CarriersComplete_sdLossClear : ∃ (s : State) (d : Dev) (c j : Nat),
    s.start = d ∧ s.On ∧ c < 8 ∧ j < 13 ∧ (∃ k ∈ d.chansOf 0 (sdSrc c j), True) :=
  ⟨{ dev := dev83 }, dev83, 0, 3, rfl, by decide +kernel⟩

/-! ### EncodersComplete -/

def dev84 : Dev := { regs := [((R.FBK_ENC_CFG 3).addr, 536870912#32)] }

theorem wit_EncodersComplete_quadTransition_a : ∃ (s : State) (d : Dev) (k : Nat) (a b : Bool) (code : Nat) (old : Nat),
    s.start = d ∧ s.On ∧ code = a.toNat + 2 * b.toNat ∧ k < 32 ∧ d.encMode k = 1 ∧ d.fld (R.FBK_ENC_CFG k) F.FBK_ENC_CFG.FILT = 0 ∧ (d.filOf (32 + 4 * k)).clk ≤ d.clk ∧ (d.filOf (32 + 4 * k + 1)).clk ≤ d.clk ∧ d.pstate ≠ 4 ∧ old = d.encCode k % 4 ∧ (old, code) ∈ [(0, 1), (1, 3), (3, 2), (2, 0)] :=
  ⟨{ dev := dev84 }, dev84, 3, true, false, (true.toNat + 2 * false.toNat), (dev84.encCode 3 % 4), rfl, by decide +kernel⟩

theorem wit_EncodersComplete_quadTransition_b : ∃ (s : State) (d : Dev) (k : Nat) (a b : Bool) (code : Nat) (old : Nat),
    s.start = d ∧ s.On ∧ code = a.toNat + 2 * b.toNat ∧ k < 32 ∧ d.encMode k = 1 ∧ d.fld (R.FBK_ENC_CFG k) F.FBK_ENC_CFG.FILT = 0 ∧ (d.filOf (32 + 4 * k)).clk ≤ d.clk ∧ (d.filOf (32 + 4 * k + 1)).clk ≤ d.clk ∧ d.pstate ≠ 4 ∧ old = d.encCode k % 4 ∧ (old, code) ∈ [(1, 0), (3, 1), (2, 3), (0, 2)] :=
  ⟨{ dev := dev84 }, dev84, 3, false, true, (false.toNat + 2 * true.toNat), (dev84.encCode 3 % 4), rfl, by decide +kernel⟩

theorem wit_EncodersComplete_quadTransition_c : ∃ (s : State) (d : Dev) (k : Nat) (a b : Bool) (code : Nat) (old : Nat),
    s.start = d ∧ s.On ∧ code = a.toNat + 2 * b.toNat ∧ k < 32 ∧ d.encMode k = 1 ∧ d.fld (R.FBK_ENC_CFG k) F.FBK_ENC_CFG.FILT = 0 ∧ (d.filOf (32 + 4 * k)).clk ≤ d.clk ∧ (d.filOf (32 + 4 * k + 1)).clk ≤ d.clk ∧ d.pstate ≠ 4 ∧ old = d.encCode k % 4 ∧ old + code = 3 :=
  ⟨{ dev := dev84 }, dev84, 3, true, true, (true.toNat + 2 * true.toNat), (dev84.encCode 3 % 4), rfl, by decide +kernel⟩

def dev85 : Dev := { regs := [((R.FBK_ENC_CFG 3).addr, 1610612736#32)], fil := [(44, { out := true }), (45, { out := true })] }

theorem wit_EncodersComplete_hallChange_a : ∃ (s : State) (d : Dev) (k : Nat) (a : Bool) (bc : Bool × Bool) (code : Nat) (old : Nat),
    s.start = d ∧ s.On ∧ code = a.toNat + 2 * bc.1.toNat + 4 * bc.2.toNat ∧ k < 32 ∧ d.encMode k = 3 ∧ d.fld (R.FBK_ENC_CFG k) F.FBK_ENC_CFG.FILT = 0 ∧ (d.filOf (32 + 4 * k)).clk ≤ d.clk ∧ (d.filOf (32 + 4 * k + 1)).clk ≤ d.clk ∧ (d.filOf (32 + 4 * k + 2)).clk ≤ d.clk ∧ d.pstate ≠ 4 ∧ old = d.encCode k ∧ (old, code) ∈ [(1, 3), (3, 2), (2, 6), (6, 4), (4, 5), (5, 1)] :=
  ⟨{ dev := dev85 }, dev85, 3, false, (true, false), (false.toNat + 2 * (true, false).1.toNat + 4 * (true, false).2.toNat), (dev85.encCode 3), rfl, by decide +kernel⟩

def dev86 : Dev := { regs := [((R.FBK_ENC_CFG 3).addr, 1610612736#32)] }

theorem wit_EncodersComplete_hallChange_b : ∃ (s : State) (d : Dev) (k : Nat) (a : Bool) (bc : Bool × Bool) (code : Nat) (old : Nat),
    s.start = d ∧ s.On ∧ code = a.toNat + 2 * bc.1.toNat + 4 * bc.2.toNat ∧ k < 32 ∧ d.encMode k = 3 ∧ d.fld (R.FBK_ENC_CFG k) F.FBK_ENC_CFG.FILT = 0 ∧ (d.filOf (32 + 4 * k)).clk ≤ d.clk ∧ (d.filOf (32 + 4 * k + 1)).clk ≤ d.clk ∧ (d.filOf (32 + 4 * k + 2)).clk ≤ d.clk ∧ d.pstate ≠ 4 ∧ old = d.encCode k ∧ (old ≠ code ∧ (code = 0 ∨ code = 7)) :=
  ⟨{ dev := dev86 }, dev86, 3, true, (true, true), (true.toNat + 2 * (true, true).1.toNat + 4 * (true, true).2.toNat), (dev86.encCode 3), rfl, by decide +kernel⟩

def dev87 : Dev := { regs := [((R.FBK_ENC_CFG 0).addr, 1073741824#32)] }

theorem wit_EncodersComplete_ssiFrameStart : ∃ (s : State) (d : Dev) (k : Nat),
    s.start = d ∧ s.On ∧ k < 32 ∧ d.encMode k = 2 ∧ (d.enc k).frame = none ∧ (d.enc k).frameNo ≠ some ((d.ns + d.ssiLead k) / periodNs (d.fld (R.FBK_ENC_CFG k) F.FBK_ENC_CFG.PER)) :=
  ⟨{ dev := dev87 }, dev87, 0, rfl, by decide +kernel⟩

def dev88 : Dev := { fbk := { enc := [(3, { frame := some 0 })] } }

theorem wit_EncodersComplete_ssiFrameEnd_a : ∃ (s : State) (d : Dev) (k : Nat) (td : Option Nat) (data : Nat) (err par high : Bool),
    s.start = d ∧ s.On ∧ k < 32 ∧ (d.enc k).frame.isSome = true ∧ d.ssiError k td data err par high ≠ 0 :=
  ⟨{ dev := dev88 }, dev88, 3, none, 0, false, false, false, rfl, by decide +kernel⟩

def dev89 : Dev := { fbk := { enc := [(1, { frame := some 0 })] } }

theorem wit_EncodersComplete_ssiFrameEnd_b : ∃ (s : State) (d : Dev) (k : Nat) (td : Option Nat) (data : Nat) (err par high : Bool),
    s.start = d ∧ s.On ∧ k < 32 ∧ (d.enc k).frame.isSome = true ∧ d.ssiError k td data err par high = 0 :=
  ⟨{ dev := dev89 }, dev89, 1, some 0, 0, false, false, true, rfl, by decide +kernel⟩

def dev90 : Dev := { regs := [((R.FBK_ENC_CFG 1).addr, 536870912#32)] }

theorem wit_EncodersComplete_speedWindow : ∃ (s : State) (d : Dev) (k : Nat),
    s.start = d ∧ s.On ∧ k < 32 ∧ (d.encMode k = 1 ∨ d.encMode k = 3) ∧ d.time.tick % 2 ^ d.fld (R.FBK_ENC_CFG k) F.FBK_ENC_CFG.PER = 0 ∧ (d.enc k).win ≠ some (d.time.tick / 2 ^ d.fld (R.FBK_ENC_CFG k) F.FBK_ENC_CFG.PER) :=
  ⟨{ dev := dev90 }, dev90, 1, rfl, by decide +kernel⟩

def dev91 : Dev := { regs := [((R.FBK_REM_CFG 0).addr, 2147483650#32), ((R.LINE_SLOT_STAT 0 1).addr, 268435456#32)], loader := { image := some { slots := [{ port := 0, slot := 1, epCount := 1, nodeAlias := 0, typeCode := 0, firstEp := 5 }], io := [{ ep := 5, fn := 0, dir := 1, byte := 0, bit := 0, width := 0, chan := 2, fmt := 0 }] } } }

theorem wit_EncodersComplete_remoteEncoderCycle : ∃ (s : State) (d : Dev) (r : Nat) (x : SlotRec),
    s.start = d ∧ s.On ∧ r < 256 ∧ d.bit (R.FBK_REM_CFG r) F.FBK_REM_CFG.EN = true ∧ d.slotOfChan (d.fld (R.FBK_REM_CFG r) F.FBK_REM_CFG.POSCHAN) = some x ∧ (d.rem r).cyc ≠ some (d.reg (R.LINE_CYCLE x.port)).toNat ∧ d.bit (R.LINE_SLOT_STAT x.port x.slot) F.LINE_SLOT_STAT.STALE = true :=
  ⟨{ dev := dev91 }, dev91, 0, ((dev91.slotOfChan (dev91.fld (R.FBK_REM_CFG 0) F.FBK_REM_CFG.POSCHAN)).getD slot0), rfl, by decide +kernel⟩

theorem wit_EncodersComplete_encOvercurrent : ∃ (s : State) (d : Dev) (c : Nat),
    s.start = d ∧ s.On ∧ c < 8 :=
  ⟨{ dev := {} }, {}, 0, rfl, by decide +kernel⟩

/-! ### ProbesComplete -/

def dev92 : Dev := { regs := [((R.FBK_PRB_CFG 0).addr, 2684354560#32), ((R.FBK_PRB_STAT 0).addr, 3221225472#32)] }

theorem wit_ProbesComplete_probeEdge_a : ∃ (s : State) (d : Dev) (p : Nat) (high : Bool),
    s.start = d ∧ s.On ∧ p < 16 ∧ d.bit (R.FBK_PRB_CFG p) F.FBK_PRB_CFG.EN = true ∧ d.bit (R.FBK_PRB_STAT p) F.FBK_PRB_STAT.ARMED = true ∧ (if high then d.fld (R.FBK_PRB_CFG p) F.FBK_PRB_CFG.EDGE % 2 = 1 else 2 ≤ d.fld (R.FBK_PRB_CFG p) F.FBK_PRB_CFG.EDGE) ∧ d.fld (R.FBK_PRB_CFG p) F.FBK_PRB_CFG.FILT = 0 ∧ (d.filOf (160 + p)).clk ≤ d.clk ∧ (d.filOf (160 + p)).out = !high ∧ d.pstate ≠ 4 ∧ d.bit (R.FBK_PRB_STAT p) F.FBK_PRB_STAT.LATCHED = true :=
  ⟨{ dev := dev92 }, dev92, 0, true, rfl, by decide +kernel⟩

def dev93 : Dev := { regs := [((R.FBK_PRB_CFG 1).addr, 2684354560#32), ((R.FBK_PRB_STAT 1).addr, 2147483648#32)] }

theorem wit_ProbesComplete_probeEdge_b : ∃ (s : State) (d : Dev) (p : Nat) (high : Bool),
    s.start = d ∧ s.On ∧ p < 16 ∧ d.bit (R.FBK_PRB_CFG p) F.FBK_PRB_CFG.EN = true ∧ d.bit (R.FBK_PRB_STAT p) F.FBK_PRB_STAT.ARMED = true ∧ (if high then d.fld (R.FBK_PRB_CFG p) F.FBK_PRB_CFG.EDGE % 2 = 1 else 2 ≤ d.fld (R.FBK_PRB_CFG p) F.FBK_PRB_CFG.EDGE) ∧ d.fld (R.FBK_PRB_CFG p) F.FBK_PRB_CFG.FILT = 0 ∧ (d.filOf (160 + p)).clk ≤ d.clk ∧ (d.filOf (160 + p)).out = !high ∧ d.pstate ≠ 4 ∧ d.bit (R.FBK_PRB_STAT p) F.FBK_PRB_STAT.LATCHED = false :=
  ⟨{ dev := dev93 }, dev93, 1, true, rfl, by decide +kernel⟩

def dev94 : Dev := { regs := [((R.FBK_PRB_CFG 1).addr, 2952790016#32), ((R.FBK_PRB_STAT 1).addr, 2147483648#32)] }

theorem wit_ProbesComplete_probeEdge_c : ∃ (s : State) (d : Dev) (p : Nat) (high : Bool),
    s.start = d ∧ s.On ∧ p < 16 ∧ d.bit (R.FBK_PRB_CFG p) F.FBK_PRB_CFG.EN = true ∧ d.bit (R.FBK_PRB_STAT p) F.FBK_PRB_STAT.ARMED = true ∧ (if high then d.fld (R.FBK_PRB_CFG p) F.FBK_PRB_CFG.EDGE % 2 = 1 else 2 ≤ d.fld (R.FBK_PRB_CFG p) F.FBK_PRB_CFG.EDGE) ∧ d.fld (R.FBK_PRB_CFG p) F.FBK_PRB_CFG.FILT = 0 ∧ (d.filOf (160 + p)).clk ≤ d.clk ∧ (d.filOf (160 + p)).out = !high ∧ d.pstate ≠ 4 ∧ d.bit (R.FBK_PRB_CFG p) F.FBK_PRB_CFG.ONESHOT = true :=
  ⟨{ dev := dev94 }, dev94, 1, true, rfl, by decide +kernel⟩

def dev95 : Dev := { regs := [((R.FBK_ENC_CFG 0).addr, 536870912#32)], host := { sess := [(0, { sessId := 0, ctl := true })] } }

theorem wit_ProbesComplete_probeArm : ∃ (s : State) (d : Dev) (ses p : Nat) (w : Word),
    s.start = d ∧ s.On ∧ p < 16 ∧ d.MayWrite ses (R.FBK_PRB_CTL p) ∧ getF w F.FBK_PRB_CTL.DISARM = 0 ∧ d.WriteOk (R.FBK_PRB_CTL p) (putF w F.FBK_PRB_CTL.ARM 1) :=
  ⟨{ dev := dev95 }, dev95, 0, 0, 0#32, rfl, by decide +kernel⟩

theorem wit_ProbesComplete_probeDisarm : ∃ (s : State) (d : Dev) (ses p : Nat) (w : Word),
    s.start = d ∧ s.On ∧ p < 16 ∧ d.MayWrite ses (R.FBK_PRB_CTL p) ∧ d.WriteOk (R.FBK_PRB_CTL p) (putF w F.FBK_PRB_CTL.DISARM 1) :=
  ⟨{ dev := dev1 }, dev1, 0, 0, 0#32, rfl, by decide +kernel⟩

theorem wit_ProbesComplete_restore : ∃ (s : State) (d : Dev) (ses : Nat) (w : Word),
    s.start = d ∧ s.On ∧ d.MayWrite ses R.FBK_SUP ∧ d.WriteOk R.FBK_SUP w ∧ (∃ c ∈ List.range 8, bitAt (getF w F.FBK_SUP.RESTORE) c = true) :=
  ⟨{ dev := dev1 }, dev1, 0, 256#32, rfl, by decide +kernel⟩

def dev96 : Dev := { regs := [((R.SYS_ENV_ENC).addr, 1#32)], host := { sess := [(0, { sessId := 0, ctl := true })] } }

theorem wit_ProbesComplete_encClrinv : ∃ (s : State) (d : Dev) (ses k : Nat) (w : Word),
    s.start = d ∧ s.On ∧ k < 32 ∧ d.MayWrite ses (R.FBK_ENC_CTL k) ∧ d.WriteOk (R.FBK_ENC_CTL k) (putF w F.FBK_ENC_CTL.CLRINV 1) ∧ (d.enc k).errClk.all (fun c => decide (c + clksOfMs 1 < d.clk)) = true ∧ (d.encMode k ≠ 2 ∨ (d.enc k).good = true) ∧ d.encSupply (encConn k) = true :=
  ⟨{ dev := dev96 }, dev96, 0, 0, 0#32, rfl, by decide +kernel⟩

theorem wit_ProbesComplete_encPreset : ∃ (s : State) (d : Dev) (ses k : Nat) (w : Word),
    s.start = d ∧ s.On ∧ k < 32 ∧ d.MayWrite ses (R.FBK_ENC_PRESET k) ∧ d.WriteOk (R.FBK_ENC_PRESET k) w :=
  ⟨{ dev := dev1 }, dev1, 0, 0, 0#32, rfl, by decide +kernel⟩

/-! ### MotionComplete -/

def dev97 : Dev := { regs := [((R.AXIS_STAT 0).addr, 536870912#32), ((R.AXIS_MOT_VMAX 0).addr, 1#32), ((R.AXIS_MOT_AMAX 0).addr, 1#32), ((R.AXIS_MOT_DMAX 0).addr, 1#32)], host := { sess := [(0, { sessId := 0, ctl := true })] }, loader := { image := some { axes := [{ axis := 0, kind := 0, k := 0, bind := 0, group := 0, arm := 0, joint := 0, fb := 0, sp := 0, law := 0 }] } } }

theorem wit_MotionComplete_go : ∃ (s : State) (d : Dev) (ses a : Nat) (w : Word),
    s.start = d ∧ s.On ∧ a < 8192 ∧ d.MayWrite ses (R.AXIS_MOT_CTL a) ∧ getF w F.AXIS_MOT_CTL.HALT = 0 ∧ d.WriteOk (R.AXIS_MOT_CTL a) (putF w F.AXIS_MOT_CTL.GO 1) :=
  ⟨{ dev := dev97 }, dev97, 0, 0, 0#32, rfl, by decide +kernel⟩

def dev98 : Dev := { regs := [((R.AXIS_STAT 2).addr, 536870912#32), ((R.AXIS_MOT_DMAX 2).addr, 1#32)], host := { sess := [(0, { sessId := 0, ctl := true })] }, loader := { image := some { axes := [{ axis := 2, kind := 0, k := 0, bind := 0, group := 0, arm := 0, joint := 0, fb := 0, sp := 0, law := 0 }] } } }

theorem wit_MotionComplete_halt : ∃ (s : State) (d : Dev) (ses a : Nat) (w : Word),
    s.start = d ∧ s.On ∧ a < 8192 ∧ d.MayWrite ses (R.AXIS_MOT_CTL a) ∧ d.WriteOk (R.AXIS_MOT_CTL a) (putF w F.AXIS_MOT_CTL.HALT 1) :=
  ⟨{ dev := dev98 }, dev98, 0, 2, 0#32, rfl, by decide +kernel⟩

def dev99 : Dev := { regs := [((R.AXIS_STAT 3).addr, 536870912#32)], host := { sess := [(0, { sessId := 0, ctl := true })] }, loader := { image := some { axes := [{ axis := 3, kind := 0, k := 0, bind := 0, group := 0, arm := 0, joint := 0, fb := 0, sp := 0, law := 0 }], tracks := [{ track := 0, mode := 0, mkind := 0, master := 0, modulus := 0, num := 0, den := 0 }] } } }

theorem wit_MotionComplete_engage : ∃ (s : State) (d : Dev) (ses a : Nat) (w : Word),
    s.start = d ∧ s.On ∧ a < 8192 ∧ d.MayWrite ses (R.AXIS_GEAR_CTL a) ∧ d.WriteOk (R.AXIS_GEAR_CTL a) (putF w F.AXIS_GEAR_CTL.ENGAGE 1) :=
  ⟨{ dev := dev99 }, dev99, 0, 3, 0#32, rfl, by decide +kernel⟩

def dev100 : Dev := { regs := [((R.AXIS_MOT_STAT 2).addr, 1073741824#32)], host := { sess := [(0, { sessId := 0, ctl := true })] }, loader := { image := some { axes := [{ axis := 2, kind := 0, k := 0, bind := 0, group := 0, arm := 0, joint := 0, fb := 0, sp := 0, law := 0 }], tracks := [{ track := 0, mode := 0, mkind := 0, master := 0, modulus := 0, num := 0, den := 0 }] } } }

theorem wit_MotionComplete_gearArm : ∃ (s : State) (d : Dev) (ses a : Nat) (w : Word),
    s.start = d ∧ s.On ∧ a < 8192 ∧ d.MayWrite ses (R.AXIS_GEAR_CTL a) ∧ d.WriteOk (R.AXIS_GEAR_CTL a) (putF w F.AXIS_GEAR_CTL.ARM 1) :=
  ⟨{ dev := dev100 }, dev100, 0, 2, 0#32, rfl, by decide +kernel⟩

def dev101 : Dev := { host := { sess := [(0, { sessId := 0, ctl := true })] }, loader := { image := some { axes := [{ axis := 3, kind := 0, k := 0, bind := 0, group := 0, arm := 0, joint := 0, fb := 0, sp := 0, law := 0 }] } }, mot := { axes := [(3, { change := some { q := 0, num := 0, den := 0, blend := 0 } })] } }

theorem wit_MotionComplete_gearCancel : ∃ (s : State) (d : Dev) (ses a : Nat) (w : Word),
    s.start = d ∧ s.On ∧ a < 8192 ∧ d.MayWrite ses (R.AXIS_GEAR_CTL a) ∧ d.WriteOk (R.AXIS_GEAR_CTL a) (putF w F.AXIS_GEAR_CTL.CANCEL 1) :=
  ⟨{ dev := dev101 }, dev101, 0, 3, 0#32, rfl, by decide +kernel⟩

def dev102 : Dev := { regs := [((R.AXIS_MOT_STAT 2).addr, 1073741824#32)], host := { sess := [(0, { sessId := 0, ctl := true })] }, loader := { image := some { axes := [{ axis := 2, kind := 0, k := 0, bind := 0, group := 0, arm := 0, joint := 0, fb := 0, sp := 0, law := 0 }] } } }

theorem wit_MotionComplete_disengage : ∃ (s : State) (d : Dev) (ses a : Nat) (w : Word),
    s.start = d ∧ s.On ∧ a < 8192 ∧ d.MayWrite ses (R.AXIS_GEAR_CTL a) ∧ d.WriteOk (R.AXIS_GEAR_CTL a) (putF w F.AXIS_GEAR_CTL.DISENGAGE 1) :=
  ⟨{ dev := dev102 }, dev102, 0, 2, 0#32, rfl, by decide +kernel⟩

/-! ### TracksComplete -/

def dev103 : Dev := { host := { sess := [(0, { sessId := 0, ctl := true })] }, loader := { image := some { tracks := [{ track := 2, mode := 0, mkind := 0, master := 0, modulus := 0, num := 0, den := 0 }] } } }

theorem wit_TracksComplete_trackSet : ∃ (s : State) (d : Dev) (ses t : Nat) (w : Word),
    s.start = d ∧ s.On ∧ t < 256 ∧ d.MayWrite ses (R.TRACK_SET_LO t) ∧ lowest (d.pairCheck (R.TRACK_SET_LO t) (d.pairValue ses (R.TRACK_SET_LO t) (R.TRACK_SET_HI t) w)) = .ok :=
  ⟨{ dev := dev103 }, dev103, 0, 2, 0#32, rfl, by decide +kernel⟩

theorem wit_TracksComplete_trackCorr : ∃ (s : State) (d : Dev) (ses t : Nat) (w : Word),
    s.start = d ∧ s.On ∧ t < 256 ∧ d.MayWrite ses (R.TRACK_CORR t) ∧ d.WriteOk (R.TRACK_CORR t) w :=
  ⟨{ dev := dev103 }, dev103, 0, 2, 0#32, rfl, by decide +kernel⟩

def dev104 : Dev := { host := { sess := [(0, { sessId := 0, ctl := true })] }, loader := { image := some { tracks := [{ track := 2, mode := 0, mkind := 2, master := 0, modulus := 0, num := 0, den := 0 }] } }, mot := { tracks := [(2, { frozen := true })] } }

theorem wit_TracksComplete_trackClrinv_a : ∃ (s : State) (d : Dev) (ses t : Nat) (w : Word) (r : TrackRec),
    s.start = d ∧ s.On ∧ t < 256 ∧ d.MayWrite ses (R.TRACK_CTL t) ∧ d.WriteOk (R.TRACK_CTL t) (putF w F.TRACK_CTL.CLRINV 1) ∧ d.trackRec t = some r ∧ (d.trk t).frozen = true ∧ (d.trackMaster r).valid = true :=
  ⟨{ dev := dev104 }, dev104, 0, 2, 0#32, ((dev104.trackRec 2).getD ⟨0,0,0,0,0,0,0⟩), rfl, by decide +kernel⟩

def dev105 : Dev := { host := { sess := [(0, { sessId := 0, ctl := true })] }, loader := { image := some { tracks := [{ track := 1, mode := 0, mkind := 0, master := 0, modulus := 0, num := 0, den := 0 }] } }, mot := { tracks := [(1, { frozen := true })] } }

theorem wit_TracksComplete_trackClrinv_b : ∃ (s : State) (d : Dev) (ses t : Nat) (w : Word) (r : TrackRec),
    s.start = d ∧ s.On ∧ t < 256 ∧ d.MayWrite ses (R.TRACK_CTL t) ∧ d.WriteOk (R.TRACK_CTL t) (putF w F.TRACK_CTL.CLRINV 1) ∧ d.trackRec t = some r ∧ (d.trk t).frozen = true ∧ (d.trackMaster r).valid = false :=
  ⟨{ dev := dev105 }, dev105, 0, 1, 0#32, ((dev105.trackRec 1).getD ⟨0,0,0,0,0,0,0⟩), rfl, by decide +kernel⟩

def dev106 : Dev := { loader := { image := some {} } }

theorem wit_TracksComplete_trackUpdate : ∃ (s : State) (d : Dev),
    s.start = d ∧ s.On ∧ d.time.tick % 4 = 0 ∧ d.pstate < 3 ∧ d.running = true :=
  ⟨{ dev := dev106 }, dev106, rfl, by decide +kernel⟩

def dev107 : Dev := { regs := [((R.TRACK_CFG 1).addr, 0#32), ((R.TRACK_STAT 1).addr, 2147483648#32)], loader := { image := some { tracks := [{ track := 1, mode := 0, mkind := 0, master := 0, modulus := 0, num := 0, den := 0 }] } } }

theorem wit_TracksComplete_trkMasterLost : ∃ (s : State) (d : Dev) (t : Nat),
    s.start = d ∧ s.On ∧ t < 256 ∧ d.freezeDue t = true :=
  ⟨{ dev := dev107 }, dev107, 1, rfl, by decide +kernel⟩

theorem wit_TracksComplete_vmUpdate : ∃ (s : State) (d : Dev),
    s.start = d ∧ s.On ∧ d.time.tick % 4 = 0 ∧ d.pstate < 3 ∧ d.mot.vmTick ≠ some d.time.tick ∧ ∃ v ∈ List.range 64, d.bit (R.VM_CTL v) F.VM_CTL.RUN = false ∧ (d.vm v).v = 0 ∧ (d.vm v).acc = 0 :=
  ⟨{ dev := {} }, {}, rfl, by decide +kernel⟩

theorem wit_TracksComplete_vmRunWrite : ∃ (s : State) (d : Dev) (ses v : Nat) (w : Word),
    s.start = d ∧ s.On ∧ v < 64 ∧ d.MayWrite ses (R.VM_CTL v) ∧ d.WriteOk (R.VM_CTL v) w :=
  ⟨{ dev := dev1 }, dev1, 0, 0, 0#32, rfl, by decide +kernel⟩

theorem wit_TracksComplete_vmSet : ∃ (s : State) (d : Dev) (ses v : Nat) (w : Word),
    s.start = d ∧ s.On ∧ v < 64 ∧ d.MayWrite ses (R.VM_SET_LO v) ∧ lowest (d.pairCheck (R.VM_SET_LO v) (d.pairValue ses (R.VM_SET_LO v) (R.VM_SET_HI v) w)) = .ok :=
  ⟨{ dev := dev1 }, dev1, 0, 0, 0#32, rfl, by decide +kernel⟩

/-! ### ArmsComplete -/

def dev108 : Dev := { regs := [((R.ARM_STAT 0).addr, 268435456#32)], host := { sess := [(0, { sessId := 0, ctl := true })] }, loader := { image := some { arms := [{ arm := 0, model := 0, port := 0, base := [], tool := [], joints := [] }] } } }

theorem wit_ArmsComplete_hold : ∃ (s : State) (d : Dev) (ses m : Nat) (w : Word),
    s.start = d ∧ s.On ∧ m < 12 ∧ d.MayWrite ses (R.ARM_CTL m) ∧ d.WriteOk (R.ARM_CTL m) (putF w F.ARM_CTL.HOLD 1) :=
  ⟨{ dev := dev108 }, dev108, 0, 0, 0#32, rfl, by decide +kernel⟩

def dev109 : Dev := { regs := [((R.ARM_STAT 0).addr, 536870912#32)], host := { sess := [(0, { sessId := 0, ctl := true })] }, loader := { image := some { arms := [{ arm := 0, model := 0, port := 0, base := [], tool := [], joints := [] }] } } }

theorem wit_ArmsComplete_armResume : ∃ (s : State) (d : Dev) (ses m : Nat) (w : Word),
    s.start = d ∧ s.On ∧ m < 12 ∧ d.MayWrite ses (R.ARM_CTL m) ∧ getF w F.ARM_CTL.HOLD = 0 ∧ d.WriteOk (R.ARM_CTL m) (putF w F.ARM_CTL.RESUME 1) :=
  ⟨{ dev := dev109 }, dev109, 0, 0, 0#32, rfl, by decide +kernel⟩

def dev110 : Dev := { regs := [((R.ARM_STAT 0).addr, 1073741824#32)], host := { sess := [(0, { sessId := 0, ctl := true })] }, loader := { image := some { arms := [{ arm := 0, model := 0, port := 0, base := [], tool := [], joints := [] }] } } }

theorem wit_ArmsComplete_armFlush : ∃ (s : State) (d : Dev) (ses m : Nat) (w : Word),
    s.start = d ∧ s.On ∧ m < 12 ∧ d.MayWrite ses (R.ARM_CTL m) ∧ d.WriteOk (R.ARM_CTL m) (putF w F.ARM_CTL.FLUSH 1) :=
  ⟨{ dev := dev110 }, dev110, 0, 0, 0#32, rfl, by decide +kernel⟩

def dev111 : Dev := { regs := [((R.ARM_STAT 0).addr, 268435456#32)], loader := { image := some { arms := [{ arm := 0, model := 0, port := 0, base := [], tool := [], joints := [] }] } } }

theorem wit_ArmsComplete_pathPeriod : ∃ (s : State) (d : Dev) (m : Nat) (r : ArmRec),
    s.start = d ∧ s.On ∧ m < 12 ∧ d.armRec m = some r ∧ d.time.tick % 4 = 0 ∧ d.pstate < 3 ∧ d.running = true ∧ (d.arm m).tick ≠ some d.time.tick ∧ d.armState m = 1 ∧ (d.arm m).queue = [] ∧ tget? d.axs.armReq m = none ∧ r.axes.all (fun a => d.axState a == 2) = true :=
  ⟨{ dev := dev111 }, dev111, 0, ((dev111.armRec 0).getD ⟨0, 0, 0, [], [], []⟩), rfl, by decide +kernel⟩

/-! ### ItemMessagesComplete -/

def dev112 : Dev := { regs := [((R.ARM_STAT 1).addr, 268435456#32)], host := { sess := [(0, { sessId := 0, ctl := true })], queues := [(0, { slot := 0, depth := 0, respQ := 64, stored := [([1#8, 7#8, 2#8] ++ List.replicate 13 0#8 ++ [1#8, 4#8] ++ List.replicate 70 0#8 ++ [77#8] ++ List.replicate 39 0#8)] }), (64, { slot := 0, depth := 1 })] }, loader := { image := some { arms := [{ arm := 1, model := 0, port := 0, base := [], tool := [], joints := [] }] } } }

theorem wit_ItemMessagesComplete_armSeg_a : ∃ (s : State) (d : Dev) (src : Nat × Nat × Nat) (m : List (BitVec 8)) (x : Queue),
    s.start = d ∧ s.On ∧ d.Executes 0x0701 1 m x ∧ lowest (d.segCheck m) = .ok ∧ d.tied 0x0701 .ok = false :=
  ⟨{ dev := dev112 }, dev112, (0, (0, 0)), ([1#8, 7#8, 2#8] ++ List.replicate 13 0#8 ++ [1#8, 4#8] ++ List.replicate 70 0#8 ++ [77#8] ++ List.replicate 39 0#8), ((dev112.queue? (uAt ([1#8, 7#8, 2#8] ++ List.replicate 13 0#8 ++ [1#8, 4#8] ++ List.replicate 70 0#8 ++ [77#8] ++ List.replicate 39 0#8) 3 1)).getD queue0), rfl, by decide +kernel⟩

def dev113 : Dev := { regs := [((R.ARM_STAT 0).addr, 268435456#32), ((R.LINE_GSTAT).addr, 1#32), ((R.PAIR_STAT).addr, 8192#32)], host := { sess := [(0, { sessId := 0, ctl := true })], queues := [(0, { slot := 0, depth := 0, respQ := 64, stored := [([1#8, 7#8, 2#8] ++ List.replicate 14 0#8 ++ [4#8] ++ List.replicate 70 0#8 ++ [77#8] ++ List.replicate 39 0#8)] }), (64, { slot := 0, depth := 1 })] }, loader := { image := some { arms := [{ arm := 0, model := 0, port := 0, base := [], tool := [], joints := [] }] } } }

theorem wit_ItemMessagesComplete_armSeg_b : ∃ (s : State) (d : Dev) (src : Nat × Nat × Nat) (m : List (BitVec 8)) (x : Queue),
    s.start = d ∧ s.On ∧ d.Executes 0x0701 1 m x ∧ lowest (d.segCheck m) = .ok ∧ d.tied 0x0701 .ok = true :=
  ⟨{ dev := dev113 }, dev113, (0, (0, 0)), ([1#8, 7#8, 2#8] ++ List.replicate 14 0#8 ++ [4#8] ++ List.replicate 70 0#8 ++ [77#8] ++ List.replicate 39 0#8), ((dev113.queue? (uAt ([1#8, 7#8, 2#8] ++ List.replicate 14 0#8 ++ [4#8] ++ List.replicate 70 0#8 ++ [77#8] ++ List.replicate 39 0#8) 3 1)).getD queue0), rfl, by decide +kernel⟩

def dev114 : Dev := { host := { sess := [(0, { sessId := 0, ctl := true })], queues := [(0, { slot := 0, depth := 0, respQ := 64, stored := [([1#8, 8#8, 3#8] ++ List.replicate 187 0#8)] }), (64, { slot := 0, depth := 1 })] }, loader := { image := some { tracks := [{ track := 0, mode := 0, mkind := 0, master := 0, modulus := 0, num := 0, den := 0 }] } } }

theorem wit_ItemMessagesComplete_itemAdd_a : ∃ (s : State) (d : Dev) (src : Nat × Nat × Nat) (m : List (BitVec 8)) (x : Queue) (h : Nat),
    s.start = d ∧ s.On ∧ d.Executes 0x0801 1 m x ∧ h = lowestFree d.tall.items 0 ∧ lowest (d.scanAll.itemChecks m ++ d.scanAll.itemSpecs m) = .ok ∧ d.tied 0x0801 .ok = false :=
  ⟨{ dev := dev114 }, dev114, (0, (0, 0)), ([1#8, 8#8, 3#8] ++ List.replicate 187 0#8), ((dev114.queue? (uAt ([1#8, 8#8, 3#8] ++ List.replicate 187 0#8) 3 1)).getD queue0), (lowestFree dev114.tall.items 0), rfl, by decide +kernel⟩

def dev115 : Dev := { regs := [((R.LINE_GSTAT).addr, 1#32), ((R.PAIR_STAT).addr, 8192#32)], host := { sess := [(0, { sessId := 0, ctl := true })], queues := [(0, { slot := 0, depth := 0, respQ := 64, stored := [([1#8, 8#8, 3#8] ++ List.replicate 187 0#8)] }), (64, { slot := 0, depth := 1 })] }, loader := { image := some { tracks := [{ track := 0, mode := 0, mkind := 0, master := 0, modulus := 0, num := 0, den := 0 }] } } }

theorem wit_ItemMessagesComplete_itemAdd_b : ∃ (s : State) (d : Dev) (src : Nat × Nat × Nat) (m : List (BitVec 8)) (x : Queue) (h : Nat),
    s.start = d ∧ s.On ∧ d.Executes 0x0801 1 m x ∧ h = lowestFree d.tall.items 0 ∧ lowest (d.scanAll.itemChecks m ++ d.scanAll.itemSpecs m) = .ok ∧ d.tied 0x0801 .ok = true :=
  ⟨{ dev := dev115 }, dev115, (0, (0, 0)), ([1#8, 8#8, 3#8] ++ List.replicate 187 0#8), ((dev115.queue? (uAt ([1#8, 8#8, 3#8] ++ List.replicate 187 0#8) 3 1)).getD queue0), (lowestFree dev115.tall.items 0), rfl, by decide +kernel⟩

def dev116 : Dev := { host := { sess := [(0, { sessId := 0, ctl := true })], queues := [(0, { slot := 0, depth := 0, respQ := 64, stored := [([2#8, 8#8, 1#8] ++ List.replicate 13 0#8 ++ [3#8, 0#8, 2#8] ++ List.replicate 13 0#8 ++ [1#8] ++ List.replicate 31 0#8)] }), (64, { slot := 0, depth := 1 })] }, loader := { image := some { tracks := [{ track := 0, mode := 0, mkind := 0, master := 0, modulus := 0, num := 0, den := 0 }] } }, tall := { items := [(3, { trk := 0, gen := 1, tag := 0, ref := 0, len := 0, addTime := 0, xfrTime := 0 })] } }

theorem wit_ItemMessagesComplete_actArm_a : ∃ (s : State) (d : Dev) (src : Nat × Nat × Nat) (m : List (BitVec 8)) (x : Queue) (i : ItemSt) (k : Nat),
    s.start = d ∧ s.On ∧ d.Executes 0x0802 1 m x ∧ d.item? (uAt m 16 4 % 2 ^ 17) = some i ∧ i.freeSlot = some k ∧ lowest (d.scanAll.actArmChecks m) = .ok ∧ d.tied 0x0802 .ok = false :=
  ⟨{ dev := dev116 }, dev116, (0, (0, 0)), ([2#8, 8#8, 1#8] ++ List.replicate 13 0#8 ++ [3#8, 0#8, 2#8] ++ List.replicate 13 0#8 ++ [1#8] ++ List.replicate 31 0#8), ((dev116.queue? (uAt ([2#8, 8#8, 1#8] ++ List.replicate 13 0#8 ++ [3#8, 0#8, 2#8] ++ List.replicate 13 0#8 ++ [1#8] ++ List.replicate 31 0#8) 3 1)).getD queue0), ((dev116.item? (uAt ([2#8, 8#8, 1#8] ++ List.replicate 13 0#8 ++ [3#8, 0#8, 2#8] ++ List.replicate 13 0#8 ++ [1#8] ++ List.replicate 31 0#8) 16 4 % 2 ^ 17)).getD item0), (((dev116.item? (uAt ([2#8, 8#8, 1#8] ++ List.replicate 13 0#8 ++ [3#8, 0#8, 2#8] ++ List.replicate 13 0#8 ++ [1#8] ++ List.replicate 31 0#8) 16 4 % 2 ^ 17)).getD item0).freeSlot.getD 0), rfl, by decide +kernel⟩

def dev117 : Dev := { regs := [((R.LINE_GSTAT).addr, 1#32), ((R.PAIR_STAT).addr, 8192#32)], host := { sess := [(0, { sessId := 0, ctl := true })], queues := [(0, { slot := 0, depth := 0, respQ := 64, stored := [([2#8, 8#8, 1#8] ++ List.replicate 13 0#8 ++ [1#8, 0#8, 2#8] ++ List.replicate 13 0#8 ++ [1#8] ++ List.replicate 31 0#8)] }), (64, { slot := 0, depth := 1 })] }, loader := { image := some { tracks := [{ track := 0, mode := 0, mkind := 0, master := 0, modulus := 0, num := 0, den := 0 }] } }, tall := { items := [(1, { trk := 0, gen := 1, tag := 0, ref := 0, len := 0, addTime := 0, xfrTime := 0 })] } }

theorem wit_ItemMessagesComplete_actArm_b : ∃ (s : State) (d : Dev) (src : Nat × Nat × Nat) (m : List (BitVec 8)) (x : Queue) (i : ItemSt) (k : Nat),
    s.start = d ∧ s.On ∧ d.Executes 0x0802 1 m x ∧ d.item? (uAt m 16 4 % 2 ^ 17) = some i ∧ i.freeSlot = some k ∧ lowest (d.scanAll.actArmChecks m) = .ok ∧ d.tied 0x0802 .ok = true :=
  ⟨{ dev := dev117 }, dev117, (0, (0, 0)), ([2#8, 8#8, 1#8] ++ List.replicate 13 0#8 ++ [1#8, 0#8, 2#8] ++ List.replicate 13 0#8 ++ [1#8] ++ List.replicate 31 0#8), ((dev117.queue? (uAt ([2#8, 8#8, 1#8] ++ List.replicate 13 0#8 ++ [1#8, 0#8, 2#8] ++ List.replicate 13 0#8 ++ [1#8] ++ List.replicate 31 0#8) 3 1)).getD queue0), ((dev117.item? (uAt ([2#8, 8#8, 1#8] ++ List.replicate 13 0#8 ++ [1#8, 0#8, 2#8] ++ List.replicate 13 0#8 ++ [1#8] ++ List.replicate 31 0#8) 16 4 % 2 ^ 17)).getD item0), (((dev117.item? (uAt ([2#8, 8#8, 1#8] ++ List.replicate 13 0#8 ++ [1#8, 0#8, 2#8] ++ List.replicate 13 0#8 ++ [1#8] ++ List.replicate 31 0#8) 16 4 % 2 ^ 17)).getD item0).freeSlot.getD 0), rfl, by decide +kernel⟩

def dev118 : Dev := { host := { sess := [(0, { sessId := 0, ctl := true })], queues := [(0, { slot := 0, depth := 0, respQ := 64, stored := [([3#8, 8#8, 1#8] ++ List.replicate 13 0#8 ++ [1#8, 0#8, 2#8, 0#8, 3#8] ++ List.replicate 43 0#8)] }), (64, { slot := 0, depth := 1 })] }, tall := { items := [(1, { trk := 0, gen := 1, tag := 0, ref := 0, len := 0, addTime := 0, xfrTime := 0, acts := [none, none, none, some 5] })], acts := [(5, { kind := 0, trk := 0, pol := 0, state := 0, item := 0, gen := 0, slot := 0, ofs := 0, target := 0, arg0 := 0, arg1 := 0 })] } }

theorem wit_ItemMessagesComplete_actCancel_a : ∃ (s : State) (d : Dev) (src : Nat × Nat × Nat) (m : List (BitVec 8)) (x : Queue) (k : Nat),
    s.start = d ∧ s.On ∧ d.Executes 0x0803 1 m x ∧ lowest (d.scanAll.actCancelChecks m) = .ok ∧ d.scanAll.slotAct (uAt m 16 4 % 2 ^ 17) (uAt m 20 1) = some k ∧ d.tied 0x0803 .ok = false :=
  ⟨{ dev := dev118 }, dev118, (0, (0, 0)), ([3#8, 8#8, 1#8] ++ List.replicate 13 0#8 ++ [1#8, 0#8, 2#8, 0#8, 3#8] ++ List.replicate 43 0#8), ((dev118.queue? (uAt ([3#8, 8#8, 1#8] ++ List.replicate 13 0#8 ++ [1#8, 0#8, 2#8, 0#8, 3#8] ++ List.replicate 43 0#8) 3 1)).getD queue0), ((dev118.scanAll.slotAct (uAt ([3#8, 8#8, 1#8] ++ List.replicate 13 0#8 ++ [1#8, 0#8, 2#8, 0#8, 3#8] ++ List.replicate 43 0#8) 16 4 % 2 ^ 17) (uAt ([3#8, 8#8, 1#8] ++ List.replicate 13 0#8 ++ [1#8, 0#8, 2#8, 0#8, 3#8] ++ List.replicate 43 0#8) 20 1)).getD 0), rfl, by decide +kernel⟩

def dev119 : Dev := { regs := [((R.LINE_GSTAT).addr, 1#32), ((R.PAIR_STAT).addr, 8192#32)], host := { sess := [(0, { sessId := 0, ctl := true })], queues := [(0, { slot := 0, depth := 0, respQ := 64, stored := [([3#8, 8#8, 1#8] ++ List.replicate 13 0#8 ++ [1#8, 0#8, 2#8, 0#8, 2#8] ++ List.replicate 43 0#8)] }), (64, { slot := 0, depth := 1 })] }, tall := { items := [(1, { trk := 0, gen := 1, tag := 0, ref := 0, len := 0, addTime := 0, xfrTime := 0, acts := [none, none, some 5] })], acts := [(5, { kind := 0, trk := 0, pol := 0, state := 0, item := 0, gen := 0, slot := 0, ofs := 0, target := 0, arg0 := 0, arg1 := 0 })] } }

theorem wit_ItemMessagesComplete_actCancel_b : ∃ (s : State) (d : Dev) (src : Nat × Nat × Nat) (m : List (BitVec 8)) (x : Queue) (k : Nat),
    s.start = d ∧ s.On ∧ d.Executes 0x0803 1 m x ∧ lowest (d.scanAll.actCancelChecks m) = .ok ∧ d.scanAll.slotAct (uAt m 16 4 % 2 ^ 17) (uAt m 20 1) = some k ∧ d.tied 0x0803 .ok = true :=
  ⟨{ dev := dev119 }, dev119, (0, (0, 0)), ([3#8, 8#8, 1#8] ++ List.replicate 13 0#8 ++ [1#8, 0#8, 2#8, 0#8, 2#8] ++ List.replicate 43 0#8), ((dev119.queue? (uAt ([3#8, 8#8, 1#8] ++ List.replicate 13 0#8 ++ [1#8, 0#8, 2#8, 0#8, 2#8] ++ List.replicate 43 0#8) 3 1)).getD queue0), ((dev119.scanAll.slotAct (uAt ([3#8, 8#8, 1#8] ++ List.replicate 13 0#8 ++ [1#8, 0#8, 2#8, 0#8, 2#8] ++ List.replicate 43 0#8) 16 4 % 2 ^ 17) (uAt ([3#8, 8#8, 1#8] ++ List.replicate 13 0#8 ++ [1#8, 0#8, 2#8, 0#8, 2#8] ++ List.replicate 43 0#8) 20 1)).getD 0), rfl, by decide +kernel⟩

def dev120 : Dev := { host := { sess := [(0, { sessId := 0, ctl := true })], queues := [(0, { slot := 0, depth := 0, respQ := 64, stored := [([4#8, 8#8, 1#8] ++ List.replicate 13 0#8 ++ [1#8, 0#8, 2#8] ++ List.replicate 45 0#8)] }), (64, { slot := 0, depth := 1 })] }, tall := { items := [(1, { trk := 0, gen := 1, tag := 0, ref := 0, len := 0, addTime := 0, xfrTime := 0 })] } }

theorem wit_ItemMessagesComplete_itemRemove_a : ∃ (s : State) (d : Dev) (src : Nat × Nat × Nat) (m : List (BitVec 8)) (x : Queue),
    s.start = d ∧ s.On ∧ d.Executes 0x0804 1 m x ∧ lowest (d.scanAll.itemRemoveChecks m) = .ok ∧ d.tied 0x0804 .ok = false :=
  ⟨{ dev := dev120 }, dev120, (0, (0, 0)), ([4#8, 8#8, 1#8] ++ List.replicate 13 0#8 ++ [1#8, 0#8, 2#8] ++ List.replicate 45 0#8), ((dev120.queue? (uAt ([4#8, 8#8, 1#8] ++ List.replicate 13 0#8 ++ [1#8, 0#8, 2#8] ++ List.replicate 45 0#8) 3 1)).getD queue0), rfl, by decide +kernel⟩

def dev121 : Dev := { regs := [((R.LINE_GSTAT).addr, 1#32), ((R.PAIR_STAT).addr, 8192#32)], host := { sess := [(0, { sessId := 0, ctl := true })], queues := [(0, { slot := 0, depth := 0, respQ := 64, stored := [([4#8, 8#8, 1#8] ++ List.replicate 13 0#8 ++ [1#8, 0#8, 2#8] ++ List.replicate 45 0#8)] }), (64, { slot := 0, depth := 1 })] }, tall := { items := [(1, { trk := 0, gen := 1, tag := 0, ref := 0, len := 0, addTime := 0, xfrTime := 0 })] } }

theorem wit_ItemMessagesComplete_itemRemove_b : ∃ (s : State) (d : Dev) (src : Nat × Nat × Nat) (m : List (BitVec 8)) (x : Queue),
    s.start = d ∧ s.On ∧ d.Executes 0x0804 1 m x ∧ lowest (d.scanAll.itemRemoveChecks m) = .ok ∧ d.tied 0x0804 .ok = true :=
  ⟨{ dev := dev121 }, dev121, (0, (0, 0)), ([4#8, 8#8, 1#8] ++ List.replicate 13 0#8 ++ [1#8, 0#8, 2#8] ++ List.replicate 45 0#8), ((dev121.queue? (uAt ([4#8, 8#8, 1#8] ++ List.replicate 13 0#8 ++ [1#8, 0#8, 2#8] ++ List.replicate 45 0#8) 3 1)).getD queue0), rfl, by decide +kernel⟩

def dev122 : Dev := { host := { sess := [(0, { sessId := 0, ctl := true })], queues := [(0, { slot := 0, depth := 0, respQ := 64, stored := [([5#8, 8#8, 1#8] ++ List.replicate 13 0#8 ++ [1#8, 0#8, 2#8] ++ List.replicate 45 0#8)] }), (64, { slot := 0, depth := 1 })] }, tall := { items := [(1, { trk := 0, gen := 1, tag := 0, ref := 0, len := 0, addTime := 0, xfrTime := 0 })] } }

theorem wit_ItemMessagesComplete_itemShift_a : ∃ (s : State) (d : Dev) (src : Nat × Nat × Nat) (m : List (BitVec 8)) (x : Queue) (i : ItemSt),
    s.start = d ∧ s.On ∧ d.Executes 0x0805 1 m x ∧ lowest (d.scanAll.itemShiftChecks m) = .ok ∧ d.item? (uAt m 16 4 % 2 ^ 17) = some i ∧ d.tied 0x0805 .ok = false :=
  ⟨{ dev := dev122 }, dev122, (0, (0, 0)), ([5#8, 8#8, 1#8] ++ List.replicate 13 0#8 ++ [1#8, 0#8, 2#8] ++ List.replicate 45 0#8), ((dev122.queue? (uAt ([5#8, 8#8, 1#8] ++ List.replicate 13 0#8 ++ [1#8, 0#8, 2#8] ++ List.replicate 45 0#8) 3 1)).getD queue0), ((dev122.item? (uAt ([5#8, 8#8, 1#8] ++ List.replicate 13 0#8 ++ [1#8, 0#8, 2#8] ++ List.replicate 45 0#8) 16 4 % 2 ^ 17)).getD item0), rfl, by decide +kernel⟩

def dev123 : Dev := { regs := [((R.LINE_GSTAT).addr, 1#32), ((R.PAIR_STAT).addr, 8192#32)], host := { sess := [(0, { sessId := 0, ctl := true })], queues := [(0, { slot := 0, depth := 0, respQ := 64, stored := [([5#8, 8#8, 1#8] ++ List.replicate 13 0#8 ++ [1#8, 0#8, 2#8] ++ List.replicate 45 0#8)] }), (64, { slot := 0, depth := 1 })] }, tall := { items := [(1, { trk := 0, gen := 1, tag := 0, ref := 0, len := 0, addTime := 0, xfrTime := 0 })] } }

theorem wit_ItemMessagesComplete_itemShift_b : ∃ (s : State) (d : Dev) (src : Nat × Nat × Nat) (m : List (BitVec 8)) (x : Queue) (i : ItemSt),
    s.start = d ∧ s.On ∧ d.Executes 0x0805 1 m x ∧ lowest (d.scanAll.itemShiftChecks m) = .ok ∧ d.item? (uAt m 16 4 % 2 ^ 17) = some i ∧ d.tied 0x0805 .ok = true :=
  ⟨{ dev := dev123 }, dev123, (0, (0, 0)), ([5#8, 8#8, 1#8] ++ List.replicate 13 0#8 ++ [1#8, 0#8, 2#8] ++ List.replicate 45 0#8), ((dev123.queue? (uAt ([5#8, 8#8, 1#8] ++ List.replicate 13 0#8 ++ [1#8, 0#8, 2#8] ++ List.replicate 45 0#8) 3 1)).getD queue0), ((dev123.item? (uAt ([5#8, 8#8, 1#8] ++ List.replicate 13 0#8 ++ [1#8, 0#8, 2#8] ++ List.replicate 45 0#8) 16 4 % 2 ^ 17)).getD item0), rfl, by decide +kernel⟩

def dev124 : Dev := { host := { queues := [(0, { slot := 0, depth := 0, respQ := 64, stored := [([6#8, 8#8, 1#8] ++ List.replicate 13 0#8 ++ [1#8, 0#8, 2#8] ++ List.replicate 45 0#8)] }), (64, { slot := 0, depth := 2 })] }, tall := { items := [(1, { trk := 0, gen := 1, tag := 0, ref := 0, len := 0, addTime := 0, xfrTime := 0 })] } }

theorem wit_ItemMessagesComplete_itemRead : ∃ (s : State) (d : Dev) (src : Nat × Nat × Nat) (m : List (BitVec 8)) (x : Queue),
    s.start = d ∧ s.On ∧ d.Executes 0x0806 2 m x ∧ lowest (d.itemReadChecks m) = .ok :=
  ⟨{ dev := dev124 }, dev124, (0, (0, 0)), ([6#8, 8#8, 1#8] ++ List.replicate 13 0#8 ++ [1#8, 0#8, 2#8] ++ List.replicate 45 0#8), ((dev124.queue? (uAt ([6#8, 8#8, 1#8] ++ List.replicate 13 0#8 ++ [1#8, 0#8, 2#8] ++ List.replicate 45 0#8) 3 1)).getD queue0), rfl, by decide +kernel⟩

/-! ### TallboyComplete -/

def dev125 : Dev := { host := { sess := [(0, { sessId := 0, ctl := true })] }, tall := { items := [(0, { trk := 0, gen := 0, tag := 0, ref := 0, len := 0, addTime := 0, xfrTime := 0 })] } }

theorem wit_TallboyComplete_tallFlush : ∃ (s : State) (d : Dev) (ses : Nat) (w : Word),
    s.start = d ∧ s.On ∧ d.MayWrite ses R.TALL_CTL ∧ d.WriteOk R.TALL_CTL (putF w F.TALL_CTL.FLUSH 1) ∧ (∃ h ∈ d.tall.items.map (fun (x : Nat × ItemSt) => x.1), True) :=
  ⟨{ dev := dev125 }, dev125, 0, 0#32, rfl, by decide +kernel⟩

theorem wit_TallboyComplete_tallClrmax : ∃ (s : State) (d : Dev) (ses : Nat) (w : Word),
    s.start = d ∧ s.On ∧ d.MayWrite ses R.TALL_CTL ∧ d.WriteOk R.TALL_CTL (putF w F.TALL_CTL.CLRMAX 1) :=
  ⟨{ dev := dev1 }, dev1, 0, 0#32, rfl, by decide +kernel⟩

def dev126 : Dev := { tall := { acts := [(5, { kind := 0, trk := 0, pol := 0, state := 0, item := 0, gen := 0, slot := 0, ofs := 0, target := 0, arg0 := 0, arg1 := 0 })], fires := [{ act := 5, clk := 0, ns := 0, pos := 0 }] } }

theorem wit_TallboyComplete_actionFiring : ∃ (s : State) (d : Dev) (f : FireSt) (l : List FireSt),
    s.start = d ∧ s.On ∧ d.scanAll.mayFire = true ∧ d.scanAll.tall.fires = f :: l ∧ (d.scanAll.act? f.act).isSome = true :=
  ⟨{ dev := dev126 }, dev126, ((dev126.scanAll.tall.fires).headD ⟨0, 0, 0, 0, 0⟩), ((dev126.scanAll.tall.fires).drop 1), rfl, by decide +kernel⟩

def dev127 : Dev := { dio := { ch := [(3, { pulseEnd := some 0 })] } }

theorem wit_TallboyComplete_pulseEnd : ∃ (s : State) (d : Dev) (k : Nat),
    s.start = d ∧ s.On ∧ k < 64 ∧ (d.dioCh k).pulseEnd.any (fun c => decide (c ≤ d.clk)) = true :=
  ⟨{ dev := dev127 }, dev127, 3, rfl, by decide +kernel⟩

def dev128 : Dev := { tall := { acts := [(1, { kind := 0, trk := 0, pol := 0, state := 4, item := 0, gen := 0, slot := 0, ofs := 0, target := 0, arg0 := 0, arg1 := 0, tc := some 0 })] } }

theorem wit_TallboyComplete_commitMeasure : ∃ (s : State) (d : Dev) (i : Nat) (x : ActSt) (c : Nat),
    s.start = d ∧ s.On ∧ i < 262144 ∧ d.scanAll.act? i = some x ∧ x.state = 4 ∧ x.tc = some c ∧ x.ep = none ∧ c ≤ d.ns :=
  ⟨{ dev := dev128 }, dev128, 1, ((dev128.scanAll.act? 1).getD act0), (((dev128.scanAll.act? 1).getD act0).tc.getD 0), rfl, by decide +kernel⟩

theorem wit_TallboyComplete_tackReceived : ∃ (s : State) (d : Dev) (o : Nat) (w : Word),
    s.start = d ∧ s.On ∧ o < 8192 ∧ (w.toNat / 2 ^ 24) % 256 = (d.toState o).last ∧ bitAt w.toNat 23 = true :=
  ⟨{ dev := {} }, {}, 0, 8388608#32, rfl, by decide +kernel⟩

def dev129 : Dev := { tall := { acts := [(2, { kind := 0, trk := 0, pol := 0, state := 4, item := 0, gen := 0, slot := 0, ofs := 0, target := 0, arg0 := 0, arg1 := 0, cross := some (0, 0), tc := some 0, ep := some 0 })] } }

theorem wit_TallboyComplete_remoteActionCrossing : ∃ (s : State) (d : Dev) (i : Nat) (x : ActSt),
    s.start = d ∧ s.On ∧ i < 262144 ∧ d.scanAll.act? i = some x ∧ x.state = 4 ∧ x.ep.isSome = true ∧ (d.scanAll.crossErr x).isSome = true :=
  ⟨{ dev := dev129 }, dev129, 2, ((dev129.scanAll.act? 2).getD act0), rfl, by decide +kernel⟩

theorem wit_TallboyComplete_commitWindowExpiry : ∃ (s : State) (d : Dev) (i : Nat) (x : ActSt) (c : Nat),
    s.start = d ∧ s.On ∧ i < 262144 ∧ d.scanAll.act? i = some x ∧ x.state = 4 ∧ x.tc = some c ∧ c + d.scanAll.actHorizon x ≤ d.ns :=
  ⟨{ dev := dev128 }, dev128, 1, ((dev128.scanAll.act? 1).getD act0), (((dev128.scanAll.act? 1).getD act0).tc.getD 0), rfl, by decide +kernel⟩

theorem wit_TallboyComplete_tallEcc_a : ∃ (s : State) (d : Dev) (isItem : Bool) (k : Nat),
    s.start = d ∧ s.On ∧ k < 262144 ∧ isItem = true :=
  ⟨{ dev := {} }, {}, true, 0, rfl, by decide +kernel⟩

theorem wit_TallboyComplete_tallEcc_b : ∃ (s : State) (d : Dev) (isItem : Bool) (k : Nat),
    s.start = d ∧ s.On ∧ k < 262144 ∧ isItem = false :=
  ⟨{ dev := {} }, {}, false, 0, rfl, by decide +kernel⟩

/-! ### GorseComplete -/

theorem wit_GorseComplete_gorseEvaluation : ∃ (s : State) (d : Dev) (us : Nat) (dup : Option (Nat × Nat × Nat × Nat)) (kat ecc : Bool),
    s.start = d ∧ s.On ∧ d.gorseOn = true ∧ d.gorse.tick ≠ some d.gorseTick ∧ us ≤ 400 :=
  ⟨{ dev := dev106 }, dev106, 0, none, false, false, rfl, by decide +kernel⟩

def dev130 : Dev := { time := { tns := 1970324836974592 }, loader := { image := some {} } }

theorem wit_GorseComplete_evalDeadline : ∃ (s : State) (d : Dev),
    s.start = d ∧ s.On ∧ d.gorseOn = true ∧ d.gorse.tick ≠ some d.gorseTick ∧ d.gorseTick * 31250 + 400000 ≤ d.ns :=
  ⟨{ dev := dev130 }, dev130, rfl, by decide +kernel⟩

def dev131 : Dev := { regs := [((R.GORSE_STAT).addr, 1073741824#32)], host := { sess := [(0, { sessId := 0, ctl := true })] } }

theorem wit_GorseComplete_clrfail_a : ∃ (s : State) (d : Dev) (ses : Nat) (w : Word),
    s.start = d ∧ s.On ∧ d.MayWrite ses R.GORSE_CTL ∧ d.WriteOk R.GORSE_CTL (putF w F.GORSE_CTL.CLRFAIL 1) ∧ d.gorseState = 4 :=
  ⟨{ dev := dev131 }, dev131, 0, 0#32, rfl, by decide +kernel⟩

theorem wit_GorseComplete_clrfail_b : ∃ (s : State) (d : Dev) (ses : Nat) (w : Word),
    s.start = d ∧ s.On ∧ d.MayWrite ses R.GORSE_CTL ∧ d.WriteOk R.GORSE_CTL (putF w F.GORSE_CTL.CLRFAIL 1) ∧ d.gorseState ≠ 4 :=
  ⟨{ dev := dev1 }, dev1, 0, 0#32, rfl, by decide +kernel⟩

theorem wit_GorseComplete_gorseClrmax : ∃ (s : State) (d : Dev) (ses : Nat) (w : Word),
    s.start = d ∧ s.On ∧ d.MayWrite ses R.GORSE_CTL ∧ d.WriteOk R.GORSE_CTL (putF w F.GORSE_CTL.CLRMAX 1) :=
  ⟨{ dev := dev1 }, dev1, 0, 0#32, rfl, by decide +kernel⟩

def dev132 : Dev := { host := { sess := [(0, { sessId := 0, ctl := true })] }, loader := { image := some { arms := [{ arm := 0, model := 0, port := 0, base := [], tool := [], joints := [] }] } } }

theorem wit_GorseComplete_capenWrite : ∃ (s : State) (d : Dev) (ses m : Nat) (w : Word),
    s.start = d ∧ s.On ∧ m < 12 ∧ d.MayWrite ses (R.GORSE_ARM_CAPEN m) ∧ d.WriteOk (R.GORSE_ARM_CAPEN m) w :=
  ⟨{ dev := dev132 }, dev132, 0, 0, 0#32, rfl, by decide +kernel⟩

/-! ### SafetyComplete -/

def dev133 : Dev := { regs := [((R.SAFE_STAT).addr, 268435456#32)], loader := { image := some {} } }

theorem wit_SafetyComplete_safetyCycle : ∃ (s : State) (d : Dev) (stofb : List Nat) (xc : List (Nat × Int × Int × Option (Int × Int))),
    s.start = d ∧ s.On ∧ d.time.tick % 4 = 0 ∧ d.safe.tick ≠ some d.time.tick ∧ d.safeState = 1 ∧ d.running = true ∧ d.sec.haltAsk = [] :=
  ⟨{ dev := dev133 }, dev133, [], [], rfl, by decide +kernel⟩

def dev134 : Dev := { host := { sess := [(0, { sessId := 0, ctl := true })] }, loader := { image := some { safety := [[1#8, 0#8, 1#8]] } } }

theorem wit_SafetyComplete_safeAckWrite : ∃ (s : State) (d : Dev) (ses : Nat) (w : Word),
    s.start = d ∧ s.On ∧ d.MayWrite ses R.SAFE_CTL ∧ d.WriteOk R.SAFE_CTL (putF w F.SAFE_CTL.ACK 1) :=
  ⟨{ dev := dev134 }, dev134, 0, 0#32, rfl, by decide +kernel⟩

def dev135 : Dev := { regs := [((R.SAFE_STAT).addr, 536870912#32)], loader := { image := some { safety := [[1#8]] } }, safe := { ackLvl := true } }

theorem wit_SafetyComplete_ackInputEdge : ∃ (s : State) (d : Dev),
    s.start = d ∧ s.On ∧ d.safeGlobal.1 < 64 ∧ d.safe.ackLvl = true ∧ d.dioIn d.safeGlobal.1 = false ∧ d.safeState = 2 :=
  ⟨{ dev := dev135 }, dev135, rfl, by decide +kernel⟩

def dev136 : Dev := { loader := { image := some { safety := [[2#8]] } } }

theorem wit_SafetyComplete_processorFault : ∃ (s : State) (d : Dev) (cause : Nat),
    s.start = d ∧ s.On ∧ 1 ≤ cause ∧ cause ≤ 7 ∧ d.safeState ≠ 3 ∧ (∃ k ∈ d.saxes, True) :=
  ⟨{ dev := dev136 }, dev136, 1, rfl, by decide +kernel⟩

def dev137 : Dev := { clk := 5000000000 }

theorem wit_SafetyComplete_romCheck : ∃ (s : State) (d : Dev) (fwOk : Bool),
    s.start = d ∧ s.On ∧ d.safeState ≠ 3 ∧ d.since d.safe.romClk (clksOfMs 10000) = true ∧ fwOk = false :=
  ⟨{ dev := dev137 }, dev137, false, rfl, by decide +kernel⟩

def dev138 : Dev := { clk := 50000000 }

theorem wit_SafetyComplete_cpuSelfTest : ∃ (s : State) (d : Dev) (ok : Bool),
    s.start = d ∧ s.On ∧ d.safeState ≠ 3 ∧ d.since d.safe.testClk (clksOfMs 100) = true ∧ ok = false :=
  ⟨{ dev := dev138 }, dev138, false, rfl, by decide +kernel⟩

theorem wit_SafetyComplete_safeDiagComplete : ∃ (s : State) (d : Dev) (cause : Nat),
    s.start = d ∧ s.On ∧ cause ≤ 7 ∧ d.safeState = 0 :=
  ⟨{ dev := {} }, {}, 0, rfl, by decide +kernel⟩

def dev139 : Dev := { safe := { conns := [(0, { inbox := [([], 0#32)] })] } }

theorem wit_SafetyComplete_safetyFragment : ∃ (s : State) (d : Dev) (c : Nat),
    s.start = d ∧ s.On ∧ c < 256 ∧ (d.conn c).inbox ≠ [] :=
  ⟨{ dev := dev139 }, dev139, 0, rfl, by decide +kernel⟩

def dev140 : Dev := { loader := { image := some { safety := [[4#8, 1#8]] } }, safe := { conns := [(1, { full := [([], (0#32, 0))] })] } }

theorem wit_SafetyComplete_safetyMessage : ∃ (s : State) (d : Dev) (c : Nat),
    s.start = d ∧ s.On ∧ c < 256 ∧ (d.sconn c).isSome = true ∧ (d.conn c).full ≠ [] :=
  ⟨{ dev := dev140 }, dev140, 1, rfl, by decide +kernel⟩

def dev141 : Dev := { regs := [((R.SAFE_CONN_STAT 1).addr, 1073741824#32)], time := { tns := 4294967296 }, loader := { image := some { safety := [[4#8, 1#8]] } } }

theorem wit_SafetyComplete_safetyWatchdog : ∃ (s : State) (d : Dev) (c : Nat) (r : List Byte),
    s.start = d ∧ s.On ∧ c < 256 ∧ d.sconn c = some r ∧ (d.connState c = 1 ∨ d.connState c = 2) ∧ (d.conn c).arr + connWdNs r (d.conn c) < d.ns :=
  ⟨{ dev := dev141 }, dev141, 1, ((dev141.sconn 1).getD []), rfl, by decide +kernel⟩

def dev142 : Dev := { loader := { image := some { safety := [[4#8, 1#8]] } } }

theorem wit_SafetyComplete_safetySend : ∃ (s : State) (d : Dev) (c : Nat) (r : List Byte),
    s.start = d ∧ s.On ∧ c < 256 ∧ d.sconn c = some r ∧ d.time.tick % 2 ^ uAt r 23 1 = 0 :=
  ⟨{ dev := dev142 }, dev142, 1, ((dev142.sconn 1).getD []), rfl, by decide +kernel⟩

/-! ### FieldOutputsComplete -/

def dev143 : Dev := { regs := [((R.DIO_CH_CFG 0).addr, 1073741824#32)], host := { sess := [(0, { sessId := 0, ctl := true })] } }

theorem wit_FieldOutputsComplete_dioOutWrite : ∃ (s : State) (d : Dev) (ses b : Nat) (w : Word),
    s.start = d ∧ s.On ∧ b < 4 ∧ d.MayWrite ses (R.DIO_OUT b) ∧ d.WriteOk (R.DIO_OUT b) w ∧ (∃ i ∈ List.range 16, d.dioDir (16 * b + i) = 1 ∧ d.fld (R.DIO_CH_CFG (16 * b + i)) F.DIO_CH_CFG.SRC = 0 ∧ (d.dioCh (16 * b + i)).clrPer ≠ some d.perClk) :=
  ⟨{ dev := dev143 }, dev143, 0, 0, 0#32, rfl, by decide +kernel⟩

def dev144 : Dev := { regs := [((R.DIO_CH_CFG 1).addr, 1073741824#32)], host := { sess := [(0, { sessId := 0, ctl := true })] } }

theorem wit_FieldOutputsComplete_dioOutSetWrite_a : ∃ (s : State) (d : Dev) (ses b : Nat) (w : Word),
    s.start = d ∧ s.On ∧ b < 4 ∧ d.MayWrite ses (R.DIO_OUT_SET b) ∧ d.WriteOk (R.DIO_OUT_SET b) w ∧ (∃ i ∈ List.range 16, d.dioDir (16 * b + i) = 1 ∧ d.fld (R.DIO_CH_CFG (16 * b + i)) F.DIO_CH_CFG.SRC = 0 ∧ (d.dioCh (16 * b + i)).clrPer ≠ some d.perClk ∧ bitAt w.toNat i = true) :=
  ⟨{ dev := dev144 }, dev144, 0, 0, 2#32, rfl, by decide +kernel⟩

theorem wit_FieldOutputsComplete_dioOutSetWrite_b : ∃ (s : State) (d : Dev) (ses b : Nat) (w : Word),
    s.start = d ∧ s.On ∧ b < 4 ∧ d.MayWrite ses (R.DIO_OUT_SET b) ∧ d.WriteOk (R.DIO_OUT_SET b) w ∧ (∃ i ∈ List.range 16, bitAt w.toNat i = false) :=
  ⟨{ dev := dev1 }, dev1, 0, 0, 0#32, rfl, by decide +kernel⟩

theorem wit_FieldOutputsComplete_dioOutClrWrite_a : ∃ (s : State) (d : Dev) (ses b : Nat) (w : Word),
    s.start = d ∧ s.On ∧ b < 4 ∧ d.MayWrite ses (R.DIO_OUT_CLR b) ∧ d.WriteOk (R.DIO_OUT_CLR b) w ∧ (∃ i ∈ List.range 16, d.dioDir (16 * b + i) = 1 ∧ d.fld (R.DIO_CH_CFG (16 * b + i)) F.DIO_CH_CFG.SRC = 0 ∧ bitAt w.toNat i = true) :=
  ⟨{ dev := dev144 }, dev144, 0, 0, 2#32, rfl, by decide +kernel⟩

theorem wit_FieldOutputsComplete_dioOutClrWrite_b : ∃ (s : State) (d : Dev) (ses b : Nat) (w : Word),
    s.start = d ∧ s.On ∧ b < 4 ∧ d.MayWrite ses (R.DIO_OUT_CLR b) ∧ d.WriteOk (R.DIO_OUT_CLR b) w ∧ (∃ i ∈ List.range 16, bitAt w.toNat i = false) :=
  ⟨{ dev := dev1 }, dev1, 0, 0, 0#32, rfl, by decide +kernel⟩

def dev145 : Dev := { regs := [((R.DIO_BANK_STAT 2).addr, 536870912#32)], host := { sess := [(0, { sessId := 0, ctl := true })] } }

theorem wit_FieldOutputsComplete_rearm : ∃ (s : State) (d : Dev) (ses b : Nat) (w : Word),
    s.start = d ∧ s.On ∧ b < 4 ∧ d.MayWrite ses (R.DIO_BANK_CTL b) ∧ d.WriteOk (R.DIO_BANK_CTL b) (putF w F.DIO_BANK_CTL.REARM 1) :=
  ⟨{ dev := dev145 }, dev145, 0, 2, 0#32, rfl, by decide +kernel⟩

def dev146 : Dev := { host := { sess := [(0, { sessId := 0, ctl := true })] }, loader := { image := some {} }, dio := { bank := [(2, { refresh := some 0 })] } }

theorem wit_FieldOutputsComplete_wdresume : ∃ (s : State) (d : Dev) (ses b : Nat) (w : Word),
    s.start = d ∧ s.On ∧ b < 4 ∧ d.MayWrite ses (R.DIO_BANK_CTL b) ∧ d.WriteOk (R.DIO_BANK_CTL b) (putF w F.DIO_BANK_CTL.WDRESUME 1) :=
  ⟨{ dev := dev146 }, dev146, 0, 2, 0#32, rfl, by decide +kernel⟩

theorem wit_FieldOutputsComplete_clrtherm : ∃ (s : State) (d : Dev) (ses b : Nat) (w : Word),
    s.start = d ∧ s.On ∧ b < 4 ∧ d.MayWrite ses (R.DIO_THCLR b) ∧ d.WriteOk (R.DIO_THCLR b) w ∧ (∃ i ∈ List.range 16, bitAt w.toNat i = true ∧ (d.dioCh (16 * b + i)).hot = false) :=
  ⟨{ dev := dev1 }, dev1, 0, 0, 1#32, rfl, by decide +kernel⟩

theorem wit_FieldOutputsComplete_dioFltClear_a : ∃ (s : State) (d : Dev) (ses b : Nat) (hi : Bool) (w : Word),
    s.start = d ∧ s.On ∧ b < 4 ∧ d.MayWrite ses (if hi then R.DIO_FLT_B b else R.DIO_FLT_A b) ∧ d.WriteOk (if hi then R.DIO_FLT_B b else R.DIO_FLT_A b) w ∧ hi = false ∧ ∃ i ∈ List.range 16, bitAt (getF w F.DIO_FLT_A.THERM) i = true ∧ (d.dioCh (16 * b + i)).hot = false ∧ bitAt (d.setNow (R.DIO_FLT_A b)) (F.DIO_FLT_A.THERM.lo + i) = false :=
  ⟨{ dev := dev1 }, dev1, 0, 0, false, 65536#32, rfl, by decide +kernel⟩

theorem wit_FieldOutputsComplete_dioFltClear_b : ∃ (s : State) (d : Dev) (ses b : Nat) (hi : Bool) (w : Word),
    s.start = d ∧ s.On ∧ b < 4 ∧ d.MayWrite ses (if hi then R.DIO_FLT_B b else R.DIO_FLT_A b) ∧ d.WriteOk (if hi then R.DIO_FLT_B b else R.DIO_FLT_A b) w ∧ hi = true ∧ ∃ i ∈ List.range 16, bitAt (getF w F.DIO_FLT_B.CROSS) i = true ∧ bitAt (d.setNow (R.DIO_FLT_B b)) (F.DIO_FLT_B.CROSS.lo + i) = false :=
  ⟨{ dev := dev1 }, dev1, 0, 0, true, 65536#32, rfl, by decide +kernel⟩

/-! ### FieldEventsComplete -/

def dev147 : Dev := { regs := [((R.DIO_CH_CFG 0).addr, 0#32)] }

theorem wit_FieldEventsComplete_fieldSample : ∃ (s : State) (d : Dev) (contacts rb limit : Nat) (lplus : List Nat),
    s.start = d ∧ s.On ∧ d.dio.sample ≠ some (d.ns / 100000) ∧ d.pstate ≠ 4 ∧ (∃ k ∈ List.range 64, d.dioDir k = 0 ∧ d.fld (R.DIO_CH_CFG k) F.DIO_CH_CFG.FILT = 0) :=
  ⟨{ dev := dev147 }, dev147, 0, 0, 0, [], rfl, by decide +kernel⟩

theorem wit_FieldEventsComplete_bankOff : ∃ (s : State) (d : Dev) (b : Nat),
    s.start = d ∧ s.On ∧ b < 4 ∧ d.bit (R.DIO_BANK_STAT b) F.DIO_BANK_STAT.BANKOFF = false :=
  ⟨{ dev := {} }, {}, 0, rfl, by decide +kernel⟩

def dev148 : Dev := { dio := { bank := [(2, { refresh := some 0, wdt := 0 })] } }

theorem wit_FieldEventsComplete_fieldWdExpiry : ∃ (s : State) (d : Dev) (b : Nat),
    s.start = d ∧ s.On ∧ b < 4 ∧ (d.dioBank b).refresh.any (fun c => d.since c (clksOfMs (d.dioBank b).wdt)) = true ∧ (d.dioBank b).holding = false :=
  ⟨{ dev := dev148 }, dev148, 2, rfl, by decide +kernel⟩

def dev149 : Dev := { regs := [((R.DIO_CH_CFG 1).addr, 1073741824#32)], dio := { ch := [(1, { level := true })] } }

theorem wit_FieldEventsComplete_thermalShutdown : ∃ (s : State) (d : Dev) (k : Nat),
    s.start = d ∧ s.On ∧ k < 64 ∧ d.dioDir k = 1 ∧ (d.dioCh k).level = true :=
  ⟨{ dev := dev149 }, dev149, 1, rfl, by decide +kernel⟩

theorem wit_FieldEventsComplete_thermalRestart : ∃ (s : State) (d : Dev) (k : Nat),
    s.start = d ∧ s.On ∧ k < 64 :=
  ⟨{ dev := {} }, {}, 0, rfl, by decide +kernel⟩

def dev150 : Dev := { regs := [((R.DIO_CH_CFG 1).addr, 268435456#32)], time := { tns := 281474976710656 }, dio := { ch := [(1, { level := true })] } }

theorem wit_FieldEventsComplete_testPulse : ∃ (s : State) (d : Dev) (k : Nat),
    s.start = d ∧ s.On ∧ k < 64 ∧ d.dioSafety k = true ∧ (d.dioCh k).level = true ∧ d.dio.pulse = none ∧ 50000 ≤ d.ns % 100000 ∧ ((d.dioCh k).lastPulse = 0 ∨ (d.dioCh k).lastPulse + d.fld (R.DIO_BANK_CFG (k / 16)) F.DIO_BANK_CFG.TPPER * 1000000 ≤ d.ns) :=
  ⟨{ dev := dev150 }, dev150, 1, rfl, by decide +kernel⟩

/-! ### CanSendComplete -/

def dev151 : Dev := { regs := [((R.CAN_CFG 0).addr, 1073741824#32)], host := { sess := [(0, { sessId := 0, ctl := true })], queues := [(0, { slot := 0, depth := 0, respQ := 64, stored := [([1#8, 11#8, 2#8] ++ List.replicate 125 0#8)] }), (64, { slot := 0, depth := 1 })] } }

theorem wit_CanSendComplete_canTx : ∃ (s : State) (d : Dev) (src : Nat × Nat × Nat) (m : List (BitVec 8)) (x : Queue) (b : Nat),
    s.start = d ∧ s.On ∧ d.Executes 0x0B01 1 m x ∧ lowest (d.canTxChecks m) = .ok ∧ (if uAt m 17 1 = 0xFF then d.canFreeBuf (uAt m 16 1) = some b else b = uAt m 17 1) :=
  ⟨{ dev := dev151 }, dev151, (0, (0, 0)), ([1#8, 11#8, 2#8] ++ List.replicate 125 0#8), ((dev151.queue? (uAt ([1#8, 11#8, 2#8] ++ List.replicate 125 0#8) 3 1)).getD queue0), (if uAt ([1#8, 11#8, 2#8] ++ List.replicate 125 0#8) 17 1 = 0xFF then (dev151.canFreeBuf (uAt ([1#8, 11#8, 2#8] ++ List.replicate 125 0#8) 16 1)).getD 99 else uAt ([1#8, 11#8, 2#8] ++ List.replicate 125 0#8) 17 1), rfl, by decide +kernel⟩

def dev152 : Dev := { regs := [((R.CAN_TXB_STAT 0 0).addr, 1073741824#32)], host := { sess := [(0, { sessId := 0, ctl := true })], queues := [(0, { slot := 0, depth := 0, respQ := 64, stored := [([2#8, 11#8, 1#8] ++ List.replicate 61 0#8)] }), (64, { slot := 0, depth := 1 })] }, can := [(0, { bufs := [(0, { flags := 0, dlc := 0, id := 0 })] })] }

theorem wit_CanSendComplete_canCancel : ∃ (s : State) (d : Dev) (src : Nat × Nat × Nat) (m : List (BitVec 8)) (x : Queue),
    s.start = d ∧ s.On ∧ d.Executes 0x0B02 1 m x ∧ uAt m 16 1 < 8 ∧ uAt m 17 1 < 32 ∧ d.inSwitch = false ∧ (tget? (d.canCh (uAt m 16 1)).bufs (uAt m 17 1)).isSome = true ∧ d.fld (R.CAN_TXB_STAT (uAt m 16 1) (uAt m 17 1)) F.CAN_TXB_STAT.STATE = 1 :=
  ⟨{ dev := dev152 }, dev152, (0, (0, 0)), ([2#8, 11#8, 1#8] ++ List.replicate 61 0#8), ((dev152.queue? (uAt ([2#8, 11#8, 1#8] ++ List.replicate 61 0#8) 3 1)).getD queue0), rfl, by decide +kernel⟩

def dev153 : Dev := { can := [(0, { bufs := [(1, { flags := 0, dlc := 0, id := 0 })], cur := some (.buffer 1) })] }

theorem wit_CanSendComplete_canTxEnd_a : ∃ (s : State) (d : Dev) (c r : Nat) (tdc : Option Nat) (quiet : Bool) (b : Nat) (f : CanFrame),
    s.start = d ∧ s.On ∧ c < 8 ∧ b < 32 ∧ (d.canCh c).cur = some (CanSrc.buffer b) ∧ tget? (d.canCh c).bufs b = some f ∧ tdc = none ∧ r = 0 :=
  ⟨{ dev := dev153 }, dev153, 0, 0, none, false, (match (dev153.canCh 0).cur with | some (CanSrc.buffer b) => b | _ => 99), ((tget? (dev153.canCh 0).bufs (match (dev153.canCh 0).cur with | some (CanSrc.buffer b) => b | _ => 99)).getD ⟨0, 0, 0, []⟩), rfl, by decide +kernel⟩

def dev154 : Dev := { can := [(0, { bufs := [(0, { flags := 0, dlc := 0, id := 0 })], cur := some (.buffer 0) })] }

theorem wit_CanSendComplete_canTxEnd_b : ∃ (s : State) (d : Dev) (c r : Nat) (tdc : Option Nat) (quiet : Bool) (b : Nat) (f : CanFrame),
    s.start = d ∧ s.On ∧ c < 8 ∧ b < 32 ∧ (d.canCh c).cur = some (CanSrc.buffer b) ∧ tget? (d.canCh c).bufs b = some f ∧ tdc = none ∧ r = 1 ∧ d.bit (R.CAN_TXB_STAT c b) F.CAN_TXB_STAT.CANREQ = false ∧ bitAt f.flags 6 = false :=
  ⟨{ dev := dev154 }, dev154, 0, 1, none, false, (match (dev154.canCh 0).cur with | some (CanSrc.buffer b) => b | _ => 99), ((tget? (dev154.canCh 0).bufs (match (dev154.canCh 0).cur with | some (CanSrc.buffer b) => b | _ => 99)).getD ⟨0, 0, 0, []⟩), rfl, by decide +kernel⟩

def dev155 : Dev := { regs := [((R.CAN_CFG 1).addr, 1073741824#32), ((R.CAN_STAT 1).addr, 1342177280#32), ((R.CAN_TXB_STAT 1 0).addr, 1073741824#32)], clk := 67108864, can := [(1, { bufs := [(0, { flags := 0, dlc := 0, id := 0 })] })] }

theorem wit_CanSendComplete_canLoneRetry : ∃ (s : State) (d : Dev) (c : Nat),
    s.start = d ∧ s.On ∧ c < 8 ∧ d.bit (R.CAN_STAT c) F.CAN_STAT.LONE = true ∧ d.canMode c = 1 ∧ (d.canState c = 2 ∨ d.canState c = 3) ∧ (d.canCh c).cur = none ∧ d.bit (R.CAN_STAT c) F.CAN_STAT.CLASHFULL = false ∧ d.since (d.canCh c).loneClk (clksOfMs 100) = true ∧ d.canPending c ≠ [] :=
  ⟨{ dev := dev155 }, dev155, 1, rfl, by decide +kernel⟩

def dev156 : Dev := { regs := [((R.CAN_STAT 1).addr, 2147483648#32)], can := [(1, { recovering := true })] }

theorem wit_CanSendComplete_canRecovered : ∃ (s : State) (d : Dev) (c : Nat),
    s.start = d ∧ s.On ∧ c < 8 ∧ d.canState c = 4 ∧ (d.canCh c).recovering = true :=
  ⟨{ dev := dev156 }, dev156, 1, rfl, by decide +kernel⟩

def dev157 : Dev := { regs := [((R.CAN_STAT 3).addr, 2147483648#32)], host := { sess := [(0, { sessId := 0, ctl := true })] } }

theorem wit_CanSendComplete_recover_a : ∃ (s : State) (d : Dev) (ses c : Nat) (w : Word),
    s.start = d ∧ s.On ∧ c < 8 ∧ d.MayWrite ses (R.CAN_CTL c) ∧ getF w F.CAN_CTL.RATERESTART = 0 ∧ d.WriteOk (R.CAN_CTL c) (putF w F.CAN_CTL.RECOVER 1) ∧ d.canState c = 4 :=
  ⟨{ dev := dev157 }, dev157, 0, 3, 0#32, rfl, by decide +kernel⟩

theorem wit_CanSendComplete_recover_b : ∃ (s : State) (d : Dev) (ses c : Nat) (w : Word),
    s.start = d ∧ s.On ∧ c < 8 ∧ d.MayWrite ses (R.CAN_CTL c) ∧ getF w F.CAN_CTL.RATERESTART = 0 ∧ d.WriteOk (R.CAN_CTL c) (putF w F.CAN_CTL.RECOVER 1) ∧ d.canState c ≠ 4 :=
  ⟨{ dev := dev1 }, dev1, 0, 0, 0#32, rfl, by decide +kernel⟩

theorem wit_CanSendComplete_clashclr : ∃ (s : State) (d : Dev) (ses c : Nat) (w : Word),
    s.start = d ∧ s.On ∧ c < 8 ∧ d.MayWrite ses (R.CAN_CTL c) ∧ d.WriteOk (R.CAN_CTL c) (putF w F.CAN_CTL.CLASHCLR 1) :=
  ⟨{ dev := dev1 }, dev1, 0, 0, 0#32, rfl, by decide +kernel⟩

/-! ### CanReceiveComplete -/

def dev158 : Dev := { regs := [((R.CAN_STAT 1).addr, 1073741824#32), ((R.CAN_FLT_MATCH 1 0).addr, 2147483648#32)] }

theorem wit_CanReceiveComplete_canFrameReceived_a : ∃ (s : State) (d : Dev) (c flags dlc id : Nat) (data : List (BitVec 8)) (ago edge : Nat) (time : Word),
    s.start = d ∧ s.On ∧ c < 8 ∧ (d.canState c = 2 ∨ d.canState c = 3) ∧ (bitAt flags 1 = false ∨ d.bit (R.CAN_CFG c) F.CAN_CFG.FDEN = true) ∧ (bitAt flags 2 = false ∨ d.bit (R.CAN_CFG c) F.CAN_CFG.AUTOBAUD = false ∨ (d.canCh c).dbt = true) ∧ d.connOfId c (canKey flags (id % 2 ^ 29)) = none ∧ time = wN ((d.ns - 5 * ago) / 5 * 5) ∧ (∃ i ∈ List.range 64, d.canMatch c flags (id % 2 ^ 29) ((d.ns - 5 * ago) / 5 * 5) = some (i, false) ∧ (d.canCh c).rxa.length < 128) :=
  ⟨{ dev := dev158 }, dev158, 1, 0, 0, 0, [], 0, 0, (wN ((dev158.ns - 5 * 0) / 5 * 5)), rfl, by decide +kernel⟩

def dev159 : Dev := { regs := [((R.CAN_STAT 2).addr, 1073741824#32), ((R.CAN_FLT_MATCH 2 0).addr, 3221225472#32)] }

theorem wit_CanReceiveComplete_canFrameReceived_b : ∃ (s : State) (d : Dev) (c flags dlc id : Nat) (data : List (BitVec 8)) (ago edge : Nat) (time : Word),
    s.start = d ∧ s.On ∧ c < 8 ∧ (d.canState c = 2 ∨ d.canState c = 3) ∧ (bitAt flags 1 = false ∨ d.bit (R.CAN_CFG c) F.CAN_CFG.FDEN = true) ∧ (bitAt flags 2 = false ∨ d.bit (R.CAN_CFG c) F.CAN_CFG.AUTOBAUD = false ∨ (d.canCh c).dbt = true) ∧ d.connOfId c (canKey flags (id % 2 ^ 29)) = none ∧ time = wN ((d.ns - 5 * ago) / 5 * 5) ∧ (∃ i ∈ List.range 64, d.canMatch c flags (id % 2 ^ 29) ((d.ns - 5 * ago) / 5 * 5) = some (i, true) ∧ (d.canCh c).rxb.length < 128) :=
  ⟨{ dev := dev159 }, dev159, 2, 0, 0, 0, [], 0, 0, (wN ((dev159.ns - 5 * 0) / 5 * 5)), rfl, by decide +kernel⟩

def dev160 : Dev := { regs := [((R.CAN_STAT 1).addr, 1073741824#32)] }

theorem wit_CanReceiveComplete_canFrameReceived_c : ∃ (s : State) (d : Dev) (c flags dlc id : Nat) (data : List (BitVec 8)) (ago edge : Nat) (time : Word),
    s.start = d ∧ s.On ∧ c < 8 ∧ (d.canState c = 2 ∨ d.canState c = 3) ∧ (bitAt flags 1 = false ∨ d.bit (R.CAN_CFG c) F.CAN_CFG.FDEN = true) ∧ (bitAt flags 2 = false ∨ d.bit (R.CAN_CFG c) F.CAN_CFG.AUTOBAUD = false ∨ (d.canCh c).dbt = true) ∧ d.connOfId c (canKey flags (id % 2 ^ 29)) = none ∧ time = wN ((d.ns - 5 * ago) / 5 * 5) ∧ d.canMatch c flags (id % 2 ^ 29) ((d.ns - 5 * ago) / 5 * 5) = none ∧ d.bit (R.CAN_CFG c) F.CAN_CFG.ACCEPTALL = false :=
  ⟨{ dev := dev160 }, dev160, 1, 0, 0, 0, [], 0, 0, (wN ((dev160.ns - 5 * 0) / 5 * 5)), rfl, by decide +kernel⟩

def dev161 : Dev := { host := { queues := [(64, { slot := 0, depth := 1 })] }, can := [(0, { rxa := [[]] })] }

theorem wit_CanReceiveComplete_canRx : ∃ (s : State) (d : Dev) (c : Nat) (b : List Byte) (l : List (List Byte)),
    s.start = d ∧ s.On ∧ c < 8 ∧ d.hasRoom (d.fld (R.CAN_CFG c) F.CAN_CFG.HOSTQ) = true ∧ (d.canCh c).done = [] ∧ (d.canCh c).rxa = b :: l :=
  ⟨{ dev := dev161 }, dev161, 0, ((dev161.canCh 0).rxa.headD []), ((dev161.canCh 0).rxa.drop 1), rfl, by decide +kernel⟩

theorem wit_CanReceiveComplete_canRxFrameError : ∃ (s : State) (d : Dev) (c kind : Nat) (heavy : Bool),
    s.start = d ∧ s.On ∧ c < 8 ∧ kind < 4 ∧ (d.canState c = 2 ∨ d.canState c = 3) :=
  ⟨{ dev := dev160 }, dev160, 1, 0, false, rfl, by decide +kernel⟩

def dev162 : Dev := { regs := [((R.CAN_STAT 1).addr, 536870912#32)] }

theorem wit_CanReceiveComplete_canBusIntegration : ∃ (s : State) (d : Dev) (c : Nat),
    s.start = d ∧ s.On ∧ c < 8 ∧ d.canState c = 1 ∧ d.canTec c < 128 ∧ d.canRec c < 128 :=
  ⟨{ dev := dev162 }, dev162, 1, rfl, by decide +kernel⟩

def dev163 : Dev := { regs := [((R.CAN_CFG 2).addr, 2415919104#32)], host := { sess := [(0, { sessId := 0, ctl := true })] } }

theorem wit_CanReceiveComplete_raterestart : ∃ (s : State) (d : Dev) (ses c : Nat) (w : Word),
    s.start = d ∧ s.On ∧ c < 8 ∧ d.MayWrite ses (R.CAN_CTL c) ∧ d.bit (R.CAN_CFG c) F.CAN_CFG.AUTOBAUD = true ∧ d.fld (R.CAN_CFG c) F.CAN_CFG.MODE = 2 ∧ d.WriteOk (R.CAN_CTL c) (putF w F.CAN_CTL.RATERESTART 1) :=
  ⟨{ dev := dev163 }, dev163, 0, 2, 0#32, rfl, by decide +kernel⟩

def dev164 : Dev := { regs := [((R.CAN_STAT 1).addr, 2684354560#32)], clk := 8589934592 }

theorem wit_CanReceiveComplete_canRateFail : ∃ (s : State) (d : Dev) (c : Nat),
    s.start = d ∧ s.On ∧ c < 8 ∧ d.canState c = 5 ∧ d.since (d.canCh c).detClk (clksOfMs 10000) = true :=
  ⟨{ dev := dev164 }, dev164, 1, rfl, by decide +kernel⟩

/-! ### CanFilterRule -/

theorem wit_CanFilterRule_canFrameReceived_1_a : ∃ (s : State) (d : Dev) (c flags dlc id : Nat) (data : List (BitVec 8)) (ago edge : Nat) (i : Nat) (time : Word),
    s.start = d ∧ s.On ∧ c < 8 ∧ (d.canState c = 2 ∨ d.canState c = 3) ∧ (bitAt flags 1 = true → d.bit (R.CAN_CFG c) F.CAN_CFG.FDEN = true) ∧ d.bit (R.CAN_CFG c) F.CAN_CFG.AUTOBAUD = false ∧ d.connOfId c (canKey flags (id % 2 ^ 29)) = none ∧ (d.canCh c).fltOld.all (fun x => decide (x.1 < (d.ns - 5 * ago) / 5 * 5)) = true ∧ time = wN ((d.ns - 5 * ago) / 5 * 5) ∧ i < 64 ∧ d.PairMatches c i (bitAt flags 0) (id % 2 ^ 29) ∧ ∀ j ∈ List.range i, ¬ d.PairMatches c j (bitAt flags 0) (id % 2 ^ 29) ∧ d.bit (R.CAN_FLT_MATCH c i) F.CAN_FLT_MATCH.DEST = false ∧ (d.canCh c).rxa.length < 128 :=
  ⟨{ dev := dev158 }, dev158, 1, 0, 0, 0, [], 0, 0, (((List.range 64).find? (fun i => decide (dev158.PairMatches 1 i (bitAt 0 0) (0 % 2 ^ 29)))).getD 99), (wN ((dev158.ns - 5 * 0) / 5 * 5)), rfl, by decide +kernel⟩

theorem wit_CanFilterRule_canFrameReceived_1_b : ∃ (s : State) (d : Dev) (c flags dlc id : Nat) (data : List (BitVec 8)) (ago edge : Nat) (i : Nat) (time : Word),
    s.start = d ∧ s.On ∧ c < 8 ∧ (d.canState c = 2 ∨ d.canState c = 3) ∧ (bitAt flags 1 = true → d.bit (R.CAN_CFG c) F.CAN_CFG.FDEN = true) ∧ d.bit (R.CAN_CFG c) F.CAN_CFG.AUTOBAUD = false ∧ d.connOfId c (canKey flags (id % 2 ^ 29)) = none ∧ (d.canCh c).fltOld.all (fun x => decide (x.1 < (d.ns - 5 * ago) / 5 * 5)) = true ∧ time = wN ((d.ns - 5 * ago) / 5 * 5) ∧ i < 64 ∧ d.PairMatches c i (bitAt flags 0) (id % 2 ^ 29) ∧ ∀ j ∈ List.range i, ¬ d.PairMatches c j (bitAt flags 0) (id % 2 ^ 29) ∧ d.bit (R.CAN_FLT_MATCH c i) F.CAN_FLT_MATCH.DEST = true ∧ (d.canCh c).rxb.length < 128 :=
  ⟨{ dev := dev159 }, dev159, 2, 0, 0, 0, [], 0, 0, (((List.range 64).find? (fun i => decide (dev159.PairMatches 2 i (bitAt 0 0) (0 % 2 ^ 29)))).getD 99), (wN ((dev159.ns - 5 * 0) / 5 * 5)), rfl, by decide +kernel⟩

def dev165 : Dev := { regs := [((R.CAN_CFG 3).addr, 67108864#32), ((R.CAN_STAT 3).addr, 1073741824#32)] }

theorem wit_CanFilterRule_canFrameReceived_2_a : ∃ (s : State) (d : Dev) (c flags dlc id : Nat) (data : List (BitVec 8)) (ago edge : Nat) (time : Word),
    s.start = d ∧ s.On ∧ c < 8 ∧ (d.canState c = 2 ∨ d.canState c = 3) ∧ (bitAt flags 1 = true → d.bit (R.CAN_CFG c) F.CAN_CFG.FDEN = true) ∧ d.bit (R.CAN_CFG c) F.CAN_CFG.AUTOBAUD = false ∧ d.connOfId c (canKey flags (id % 2 ^ 29)) = none ∧ (d.canCh c).fltOld.all (fun x => decide (x.1 < (d.ns - 5 * ago) / 5 * 5)) = true ∧ time = wN ((d.ns - 5 * ago) / 5 * 5) ∧ ∀ j ∈ List.range 64, ¬ d.PairMatches c j (bitAt flags 0) (id % 2 ^ 29) ∧ d.bit (R.CAN_CFG c) F.CAN_CFG.ACCEPTALL = true ∧ (d.canCh c).rxb.length < 128 :=
  ⟨{ dev := dev165 }, dev165, 3, 0, 0, 0, [], 0, 0, (wN ((dev165.ns - 5 * 0) / 5 * 5)), rfl, by decide +kernel⟩

theorem wit_CanFilterRule_canFrameReceived_2_b : ∃ (s : State) (d : Dev) (c flags dlc id : Nat) (data : List (BitVec 8)) (ago edge : Nat) (time : Word),
    s.start = d ∧ s.On ∧ c < 8 ∧ (d.canState c = 2 ∨ d.canState c = 3) ∧ (bitAt flags 1 = true → d.bit (R.CAN_CFG c) F.CAN_CFG.FDEN = true) ∧ d.bit (R.CAN_CFG c) F.CAN_CFG.AUTOBAUD = false ∧ d.connOfId c (canKey flags (id % 2 ^ 29)) = none ∧ (d.canCh c).fltOld.all (fun x => decide (x.1 < (d.ns - 5 * ago) / 5 * 5)) = true ∧ time = wN ((d.ns - 5 * ago) / 5 * 5) ∧ ∀ j ∈ List.range 64, ¬ d.PairMatches c j (bitAt flags 0) (id % 2 ^ 29) ∧ d.bit (R.CAN_CFG c) F.CAN_CFG.ACCEPTALL = false :=
  ⟨{ dev := dev160 }, dev160, 1, 0, 0, 0, [], 0, 0, (wN ((dev160.ns - 5 * 0) / 5 * 5)), rfl, by decide +kernel⟩

/-! ### CaptureComplete -/

def dev166 : Dev := { regs := [((R.CAP_CFG).addr, 512#32), ((R.CAP_MEMSIZE).addr, 3#32)], host := { sess := [(0, { sessId := 0, ctl := true })] }, loader := { image := some { axes := [{ axis := 0, kind := 0, k := 0, bind := 0, group := 0, arm := 0, joint := 0, fb := 0, sp := 0, law := 0 }] } } }

theorem wit_CaptureComplete_capArm : ∃ (s : State) (d : Dev) (ses : Nat) (w : Word),
    s.start = d ∧ s.On ∧ d.MayWrite ses R.CAP_CTL ∧ lowest d.armCaptureChecks = .ok ∧ getF w F.CAP_CTL.STOP = 0 ∧ getF w F.CAP_CTL.CLR = 0 :=
  ⟨{ dev := dev166 }, dev166, 0, 0#32, rfl, by decide +kernel⟩

def dev167 : Dev := { regs := [((R.CAP_STAT).addr, 268435456#32)], host := { sess := [(0, { sessId := 0, ctl := true })] } }

theorem wit_CaptureComplete_capStop : ∃ (s : State) (d : Dev) (ses : Nat) (w : Word),
    s.start = d ∧ s.On ∧ d.MayWrite ses R.CAP_CTL ∧ getF w F.CAP_CTL.ARM = 0 ∧ getF w F.CAP_CTL.CLR = 0 ∧ d.capRuns = true :=
  ⟨{ dev := dev167 }, dev167, 0, 0#32, rfl, by decide +kernel⟩

theorem wit_CaptureComplete_capForce : ∃ (s : State) (d : Dev) (ses : Nat) (w : Word),
    s.start = d ∧ s.On ∧ d.MayWrite ses R.CAP_CTL ∧ getF w F.CAP_CTL.ARM = 0 ∧ getF w F.CAP_CTL.CLR = 0 ∧ getF w F.CAP_CTL.STOP = 0 ∧ (d.capState = 1 ∨ d.capState = 2) :=
  ⟨{ dev := dev167 }, dev167, 0, 0#32, rfl, by decide +kernel⟩

theorem wit_CaptureComplete_capClr : ∃ (s : State) (d : Dev) (ses : Nat) (w : Word),
    s.start = d ∧ s.On ∧ d.MayWrite ses R.CAP_CTL ∧ getF w F.CAP_CTL.ARM = 0 ∧ d.capRuns = false :=
  ⟨{ dev := dev1 }, dev1, 0, 0#32, rfl, by decide +kernel⟩

def dev168 : Dev := { regs := [((R.CAP_STAT).addr, 268435456#32)], cap := { cur := some { recNo := 0 } } }

theorem wit_CaptureComplete_captureSample : ∃ (s : State) (d : Dev) (raws : List (List Int)) (fill : Nat) (lost : Bool) (r : CapRec) (n : Nat),
    s.start = d ∧ s.On ∧ d.capRuns = true ∧ n = d.time.tick / 2 ^ d.fld R.CAP_CFG F.CAP_CFG.KPER * 2 ^ d.fld R.CAP_CFG F.CAP_CFG.KPER ∧ d.cap.tick ≠ some n ∧ d.cap.cur = some r ∧ d.capState = 1 ∧ d.capMode ≠ 2 ∧ lost = false ∧ fill ≤ 75 ∧ d.cap.phase % 2 ^ r.dec.length = 0 :=
  ⟨{ dev := dev168 }, dev168, [], 0, false, (dev168.cap.cur.getD { recNo := 0 }), (dev168.time.tick / 2 ^ dev168.fld R.CAP_CFG F.CAP_CFG.KPER * 2 ^ dev168.fld R.CAP_CFG F.CAP_CFG.KPER), rfl, by decide +kernel⟩

def dev169 : Dev := { regs := [((R.CAP_AUTO).addr, 1#32), ((R.CAP_STAT).addr, 536870912#32)], clk := 500000 }

theorem wit_CaptureComplete_autoTrigger : ∃ (s : State) (d : Dev),
    s.start = d ∧ s.On ∧ d.capState = 2 ∧ d.fld R.CAP_AUTO F.CAP_AUTO.AUTOTO ≠ 0 ∧ d.since d.cap.waitClk (clksOfMs (d.fld R.CAP_AUTO F.CAP_AUTO.AUTOTO)) = true :=
  ⟨{ dev := dev169 }, dev169, rfl, by decide +kernel⟩

/-! ### BureauComplete -/

theorem wit_BureauComplete_eventReceived_1 : ∃ (s : State) (d : Dev) (code sev : Nat) (source : Word) (data : List Word) (bad : List Nat),
    s.start = d ∧ s.On ∧ code < 65536 ∧ sev < 8 ∧ bad = [] ∧ d.bureau.store = .mram ∧ d.bureau.retired = [] ∧ d.fld R.EVT_CFG F.EVT_CFG.RECMIN ≤ sev ∧ d.bureau.newest.all (fun r => !repeatsRec r { code := code, sev := sev, source := source, data := data } (d.reg R.EVT_BOOTNO).toNat) = true ∧ (freePlace (d.bureau.mram.map (·.place)) [] (d.bureau.mram.length + 513) 0).isSome = true ∧ d.host.sess.all (fun x => x.2.sub.all (fun u => (tget? d.host.queues u.1).any (fun q => decide (q.resv + 6 < q.freeEntries)))) = true :=
  ⟨{ dev := {} }, {}, 0, 0, 0#32, [], [], rfl, by decide +kernel⟩

def dev170 : Dev := { regs := [((R.EVT_BOOTNO).addr, 32#32)], bureau := { mram := [{ seq := 0#32, ts := 0#32, uptime := 0#32, code := 2, sev := 4, source := 197#32, lastTs := 0#32, bootNo := 32 }] } }

theorem wit_BureauComplete_eventReceived_2 : ∃ (s : State) (d : Dev) (code sev : Nat) (source : Word) (data : List Word) (bad : List Nat) (r : Rec),
    s.start = d ∧ s.On ∧ code < 65536 ∧ sev < 8 ∧ d.fld R.EVT_CFG F.EVT_CFG.RECMIN ≤ sev ∧ d.bureau.store ≠ .copying ∧ d.bureau.newest = some r ∧ repeatsRec r { code := code, sev := sev, source := source, data := data } (d.reg R.EVT_BOOTNO).toNat = true ∧ bad = [] ∧ d.host.sess.all (fun x => x.2.sub.all (fun u => (tget? d.host.queues u.1).any (fun q => decide (q.resv + 6 < q.freeEntries)))) = true :=
  ⟨{ dev := dev170 }, dev170, 2, 4, 197#32, [], [], (dev170.bureau.newest.getD (newRec dev170.evCtx dev170.bureau { code := 2, sev := 4, source := 197#32, data := [] })), rfl, by decide +kernel⟩

def dev171 : Dev := { bureau := { store := .lastGasp } }

theorem wit_BureauComplete_eventReceived_3 : ∃ (s : State) (d : Dev) (code sev : Nat) (source : Word) (data : List Word) (bad : List Nat),
    s.start = d ∧ s.On ∧ code < 65536 ∧ sev < 8 ∧ d.fld R.EVT_CFG F.EVT_CFG.RECMIN ≤ sev ∧ d.bureau.store = .lastGasp ∧ d.bureau.lg.length < 64 ∧ d.bureau.newest.all (fun r => !repeatsRec r { code := code, sev := sev, source := source, data := data } (d.reg R.EVT_BOOTNO).toNat) = true ∧ d.host.sess.all (fun x => x.2.sub.all (fun u => (tget? d.host.queues u.1).any (fun q => decide (q.resv + 6 < q.freeEntries)))) = true :=
  ⟨{ dev := dev171 }, dev171, 0, 0, 0#32, [], [], rfl, by decide +kernel⟩

theorem wit_BureauComplete_evtClear : ∃ (s : State) (d : Dev) (ses : Nat) (w : Word),
    s.start = d ∧ s.On ∧ d.MayWrite ses R.EVT_CTL ∧ d.bureau.store = .mram ∧ d.bureau.retired = [] ∧ d.bureau.badRegions = [] ∧ d.fld R.EVT_CFG F.EVT_CFG.RECMIN ≤ 5 ∧ d.WriteOk R.EVT_CTL (putF w F.EVT_CTL.CLEAR 1) ∧ d.host.sess.all (fun x => x.2.sub.all (fun u => (tget? d.host.queues u.1).any (fun q => decide (q.resv + 6 < q.freeEntries)))) = true :=
  ⟨{ dev := dev1 }, dev1, 0, 0#32, rfl, by decide +kernel⟩

theorem wit_BureauComplete_retest : ∃ (s : State) (d : Dev) (ses : Nat) (bad : List Nat) (w : Word),
    s.start = d ∧ s.On ∧ d.MayWrite ses R.EVT_CTL ∧ getF w F.EVT_CTL.CLEAR = 0 ∧ d.WriteOk R.EVT_CTL (putF w F.EVT_CTL.RETEST 1) :=
  ⟨{ dev := dev1 }, dev1, 0, [], 0#32, rfl, by decide +kernel⟩

def dev172 : Dev := { bureau := { win := [(15, [1#32])] }, host := { sess := [(0, { sessId := 0, ctl := true })] } }

theorem wit_BureauComplete_next_a : ∃ (s : State) (d : Dev) (ses : Nat) (w : Word),
    s.start = d ∧ s.On ∧ d.MayWrite ses R.EVT_CTL ∧ getF w F.EVT_CTL.CLEAR = 0 ∧ d.WriteOk R.EVT_CTL (putF w F.EVT_CTL.NEXT 1) ∧ (tget d.bureau.win 15 []).getD 0 0 ≠ 0 :=
  ⟨{ dev := dev172 }, dev172, 0, 0#32, rfl, by decide +kernel⟩

theorem wit_BureauComplete_next_b : ∃ (s : State) (d : Dev) (ses : Nat) (w : Word),
    s.start = d ∧ s.On ∧ d.MayWrite ses R.EVT_CTL ∧ getF w F.EVT_CTL.CLEAR = 0 ∧ d.WriteOk R.EVT_CTL (putF w F.EVT_CTL.NEXT 1) ∧ (tget d.bureau.win 15 []).getD 0 0 = 0 :=
  ⟨{ dev := dev1 }, dev1, 0, 0#32, rfl, by decide +kernel⟩

theorem wit_BureauComplete_evtWinRead_a : ∃ (s : State) (d : Dev) (place : Nat × Nat) (fails : Bool) (w k : Nat) (x : Dev),
    s.start = d ∧ s.On ∧ place = (w, k) ∧ w < 16 ∧ k < 16 ∧ x = (if fails && k == 0 then d.winFails w else d) ∧ k = 0 :=
  ⟨{ dev := {} }, {}, (0, 0), false, ((0, 0).1), ((0, 0).2), ((if false && ((0, 0).2) == 0 then ({} : Dev).winFails ((0, 0).1) else ({} : Dev))), rfl, by decide +kernel⟩

theorem wit_BureauComplete_evtWinRead_b : ∃ (s : State) (d : Dev) (place : Nat × Nat) (fails : Bool) (w k : Nat) (x : Dev),
    s.start = d ∧ s.On ∧ place = (w, k) ∧ w < 16 ∧ k < 16 ∧ x = (if fails && k == 0 then d.winFails w else d) ∧ k ≠ 0 :=
  ⟨{ dev := {} }, {}, (0, 1), false, ((0, 1).1), ((0, 1).2), ((if false && ((0, 1).2) == 0 then ({} : Dev).winFails ((0, 1).1) else ({} : Dev))), rfl, by decide +kernel⟩

def dev173 : Dev := { bureau := { mram := [{ seq := 0#32, ts := 0#32, uptime := 0#32, code := 0, sev := 0, source := 0#32, lastTs := 0#32, bootNo := 0 }] } }

theorem wit_BureauComplete_evtWinRead_c : ∃ (s : State) (d : Dev) (place : Nat × Nat) (fails : Bool) (w k : Nat) (x : Dev),
    s.start = d ∧ s.On ∧ place = (w, k) ∧ w < 16 ∧ k < 16 ∧ x = (if fails && k == 0 then d.winFails w else d) ∧ fails = true ∧ k = 0 ∧ ∃ r ∈ ((d.bureau.fromCursor (d.reg R.EVT_CURSOR))[w]?).toList, d.bureau.mram.contains r = true :=
  ⟨{ dev := dev173 }, dev173, (0, 0), true, ((0, 0).1), ((0, 0).2), ((if true && ((0, 0).2) == 0 then dev173.winFails ((0, 0).1) else dev173)), rfl, by decide +kernel⟩

theorem wit_BureauComplete_mramTimeout : ∃ (s : State) (d : Dev),
    s.start = d ∧ s.On ∧ d.bureau.store = .mram :=
  ⟨{ dev := {} }, {}, rfl, by decide +kernel⟩

def dev174 : Dev := { clk := 500000000, bureau := { store := .lastGasp } }

theorem wit_BureauComplete_mramProbe : ∃ (s : State) (d : Dev) (answers : Bool),
    s.start = d ∧ s.On ∧ d.bureau.store = .lastGasp ∧ d.since d.bureau.probeClk fabHz = true ∧ answers = true ∧ d.bureau.retired.length < 512 :=
  ⟨{ dev := dev174 }, dev174, true, rfl, by decide +kernel⟩

def dev175 : Dev := { bureau := { store := .copying } }

theorem wit_BureauComplete_mramCopyDone : ∃ (s : State) (d : Dev) (bad : List Nat),
    s.start = d ∧ s.On ∧ d.bureau.store = .copying ∧ bad = [] ∧ d.bureau.retired.length < 512 :=
  ⟨{ dev := dev175 }, dev175, [], rfl, by decide +kernel⟩

/-! ### KeptRecordsRule -/

def dev176 : Dev := { regs := [((R.EVT_CFG).addr, 64#32)] }

theorem wit_KeptRecordsRule_eventReceived_1 : ∃ (s : State) (d : Dev) (code sev : Nat) (source : Word) (data : List Word) (bad : List Nat),
    s.start = d ∧ s.On ∧ code < 65536 ∧ sev < 8 ∧ sev < d.fld R.EVT_CFG F.EVT_CFG.RECMIN ∧ ∀ k ∈ List.range 4, (tget? d.host.sess k).all (fun x => x.sub.all (fun y => decide (sev < y.2.1) || (tget? d.host.queues y.1).any (fun q => decide (q.resv + 8 ≤ q.freeEntries)))) = true :=
  ⟨{ dev := dev176 }, dev176, 0, 0, 0#32, [], [], rfl, by decide +kernel⟩

theorem wit_KeptRecordsRule_eventReceived_2 : ∃ (s : State) (d : Dev) (code sev : Nat) (source : Word) (data : List Word) (bad : List Nat),
    s.start = d ∧ s.On ∧ code < 65536 ∧ sev < 8 ∧ d.bureau.mram.all (fun r => !bad.contains (r.place / regionSize)) = true :=
  ⟨{ dev := {} }, {}, 0, 0, 0#32, [], [], rfl, by decide +kernel⟩

/-! ### MirrorComplete -/

def dev177 : Dev := { regs := [((R.SYS_ENV_STAT).addr, 4#32), ((R.TIME_STAT).addr, 0#32)], clk := 500000 }

theorem wit_MirrorComplete_pairHelloSend : ∃ (s : State) (d : Dev),
    s.start = d ∧ s.On ∧ d.x4 = true ∧ d.winOpen = false ∧ d.since d.duo.helloClk (clksOfMs 1) = true :=
  ⟨{ dev := dev177 }, dev177, rfl, by decide +kernel⟩

def dev178 : Dev := { regs := [((R.SYS_ENV_STAT).addr, 4#32)] }

theorem wit_MirrorComplete_pairHello_a : ∃ (s : State) (d : Dev) (h : Machine.PairHello) (ok : Bool),
    s.start = d ∧ s.On ∧ d.x4 = true ∧ ok = true :=
  ⟨{ dev := dev178 }, dev178, { rank := 0, serial := 0, role := 0, mstate := 0, hash := [], checked := [], pwr := 0 }, true, rfl, by decide +kernel⟩

theorem wit_MirrorComplete_pairHello_b : ∃ (s : State) (d : Dev) (h : Machine.PairHello) (ok : Bool),
    s.start = d ∧ s.On ∧ d.x4 = true ∧ ok = false :=
  ⟨{ dev := dev178 }, dev178, { rank := 0, serial := 0, role := 0, mstate := 0, hash := [], checked := [], pwr := 0 }, false, rfl, by decide +kernel⟩

def dev179 : Dev := { regs := [((R.SYS_ENV_STAT).addr, 4#32), ((R.LINE_GSTAT).addr, 1#32), ((R.PAIR_CFG).addr, 1#32)], time := { tick := 1 } }

theorem wit_MirrorComplete_mirrorSend : ∃ (s : State) (d : Dev),
    s.start = d ∧ s.On ∧ d.mirrors = true ∧ d.time.tick ≠ 0 ∧ d.duo.sentTick ≠ some (d.time.tick - 1) :=
  ⟨{ dev := dev179 }, dev179, rfl, by decide +kernel⟩

def dev180 : Dev := { regs := [((R.SYS_ENV_STAT).addr, 4#32), ((R.LINE_GSTAT).addr, 2#32), ((R.PAIR_CFG).addr, 1#32)], duo := { expect := 2 } }

theorem wit_MirrorComplete_mirrorFrame : ∃ (s : State) (d : Dev) (f : Machine.MirFrame) (ok : Bool),
    s.start = d ∧ s.On ∧ d.x4 = true ∧ ok = true ∧ d.isStandby = true ∧ d.duo.copyWait = false ∧ d.duo.early = [] ∧ f.fseq = d.duo.expect :=
  ⟨{ dev := dev180 }, dev180, { fseq := 2, tick := 0, last := false, copy := false, objs := [] }, true, rfl, by decide +kernel⟩

def dev181 : Dev := { regs := [((R.SYS_ENV_STAT).addr, 4#32), ((R.LINE_GSTAT).addr, 1#32)] }

theorem wit_MirrorComplete_pairAck : ∃ (s : State) (d : Dev) (tick : Nat) (want : Option Nat) (hand ok : Bool),
    s.start = d ∧ s.On ∧ d.x4 = true ∧ ok = true ∧ d.role = 1 :=
  ⟨{ dev := dev181 }, dev181, 0, none, false, true, rfl, by decide +kernel⟩

def dev182 : Dev := { regs := [((R.LINE_GSTAT).addr, 2#32), ((R.PAIR_CFG).addr, 1#32)], time := { tick := 64 }, duo := { gapTick := some 0 } }

theorem wit_MirrorComplete_mirrorGapTimeout : ∃ (s : State) (d : Dev),
    s.start = d ∧ s.On ∧ d.duo.gapTick.any (fun t => decide (t + 32 ≤ d.time.tick)) = true ∧ d.isStandby = true :=
  ⟨{ dev := dev182 }, dev182, rfl, by decide +kernel⟩

def dev183 : Dev := { regs := [((R.SYS_ENV_STAT).addr, 4#32), ((R.LINE_GSTAT).addr, 1#32), ((R.PAIR_CFG).addr, 1#32)] }

theorem wit_MirrorComplete_syncreq : ∃ (s : State) (d : Dev) (ok : Bool),
    s.start = d ∧ s.On ∧ d.x4 = true ∧ ok = true ∧ d.mirrors = true :=
  ⟨{ dev := dev183 }, dev183, true, rfl, by decide +kernel⟩

theorem wit_MirrorComplete_pairLinkDelay : ∃ (s : State) (d : Dev) (rtt : Nat) (ofs : Int),
    s.start = d ∧ s.On ∧ d.x4 = true :=
  ⟨{ dev := dev178 }, dev178, 0, 0, rfl, by decide +kernel⟩

def dev184 : Dev := { regs := [((R.LINE_GSTAT).addr, 1#32), ((R.PAIR_CFG).addr, 1#32)], duo := { acked := some 0 } }

theorem wit_MirrorComplete_standbyAckTimeout : ∃ (s : State) (d : Dev),
    s.start = d ∧ s.On ∧ d.role = 1 ∧ d.paired = true ∧ d.duo.acked.isSome = true ∧ d.duo.standbyLost = false ∧ d.since d.duo.ackClk d.linkTo = true :=
  ⟨{ dev := dev184 }, dev184, rfl, by decide +kernel⟩

/-! ### TakeoverComplete -/

def dev185 : Dev := { regs := [((R.LINE_GSTAT).addr, 2#32), ((R.PAIR_CFG).addr, 1#32), ((R.PAIR_STAT).addr, 536879104#32)], duo := { lineLost := true } }

theorem wit_TakeoverComplete_linkPathLost : ∃ (s : State) (d : Dev) (down : Bool),
    s.start = d ∧ s.On ∧ d.bit R.PAIR_STAT F.PAIR_STAT.LINKUP = true ∧ (down = true ∨ d.linkSilent = true) ∧ d.isStandby = true ∧ d.duo.lineLost = true ∧ d.mstate = 2 ∧ d.pstate ≠ 4 ∧ d.bit R.SYS_PF_STAT F.SYS_PF_STAT.PFW = false ∧ d.bit R.PAIR_STAT F.PAIR_STAT.MISMATCH = false :=
  ⟨{ dev := dev185 }, dev185, false, rfl, by decide +kernel⟩

def dev186 : Dev := { regs := [((R.LINE_GSTAT).addr, 2#32), ((R.PAIR_CFG).addr, 1#32), ((R.PAIR_STAT).addr, 268435456#32)] }

theorem wit_TakeoverComplete_linePathLost : ∃ (s : State) (d : Dev),
    s.start = d ∧ s.On ∧ d.isStandby = true ∧ d.pstate ≠ 4 ∧ d.bit R.PAIR_STAT F.PAIR_STAT.LINESUP = true ∧ d.linesSilent = true :=
  ⟨{ dev := dev186 }, dev186, rfl, by decide +kernel⟩

def dev187 : Dev := { duo := { heardClk := some 0, linkLost := true } }

theorem wit_TakeoverComplete_pairPathBack_a : ∃ (s : State) (d : Dev),
    s.start = d ∧ s.On ∧ d.duo.linkLost = true ∧ d.linkSilent = false :=
  ⟨{ dev := dev187 }, dev187, rfl, by decide +kernel⟩

def dev188 : Dev := { line := { ports := [(0, { heardNs := some 0 })] }, duo := { lineLost := true } }

theorem wit_TakeoverComplete_pairPathBack_b : ∃ (s : State) (d : Dev),
    s.start = d ∧ s.On ∧ d.duo.lineLost = true ∧ d.linesSilent = false :=
  ⟨{ dev := dev188 }, dev188, rfl, by decide +kernel⟩

def dev189 : Dev := { regs := [((R.LINE_CFG 1).addr, 268435456#32), ((R.LINE_STAT 1).addr, 536870912#32), ((R.LINE_GSTAT).addr, 1#32), ((R.PAIR_STAT).addr, 536879104#32)], host := { sess := [(0, { sessId := 0, ctl := true })] }, line := { ports := [(1, { goodLast := true })] } }

theorem wit_TakeoverComplete_switch : ∃ (s : State) (d : Dev) (ses : Nat) (w : Word),
    s.start = d ∧ s.On ∧ d.MayWrite ses R.PAIR_CTL ∧ d.WriteOk R.PAIR_CTL (putF w F.PAIR_CTL.SWITCH 1) :=
  ⟨{ dev := dev189 }, dev189, 0, 0#32, rfl, by decide +kernel⟩

def dev190 : Dev := { regs := [((R.LINE_GSTAT).addr, 2#32), ((R.PAIR_CFG).addr, 1#32)], host := { sess := [(0, { sessId := 0, ctl := true })] } }

theorem wit_TakeoverComplete_pairResyncWrite : ∃ (s : State) (d : Dev) (ses : Nat) (w : Word),
    s.start = d ∧ s.On ∧ (tget? d.host.sess ses).any (fun x => x.ctl) = true ∧ d.isStandby = true ∧ d.inSwitch = false ∧ d.handingOver = false ∧ d.Reachable R.PAIR_CTL ∧ getF w F.PAIR_CTL.SWITCH = 0 :=
  ⟨{ dev := dev190 }, dev190, 0, 0#32, rfl, by decide +kernel⟩

def dev191 : Dev := { regs := [((R.SYS_ENV_STAT).addr, 4#32), ((R.LINE_GSTAT).addr, 2#32), ((R.PAIR_CFG).addr, 1#32), ((R.PAIR_STAT).addr, 8192#32)] }

theorem wit_TakeoverComplete_handover : ∃ (s : State) (d : Dev) (t : Nat) (ok : Bool),
    s.start = d ∧ s.On ∧ d.x4 = true ∧ ok = true ∧ d.isStandby = true ∧ d.mstate = 2 :=
  ⟨{ dev := dev191 }, dev191, 0, true, rfl, by decide +kernel⟩

def dev192 : Dev := { regs := [((R.LINE_GSTAT).addr, 2#32), ((R.PAIR_CFG).addr, 1#32)], duo := { takeT := some 0 } }

theorem wit_TakeoverComplete_handoverBoundary_a : ∃ (s : State) (d : Dev),
    s.start = d ∧ s.On ∧ d.duo.demoteT = none ∧ d.isStandby = true ∧ ∃ t ∈ d.duo.takeT.toList, t ≤ d.ns :=
  ⟨{ dev := dev192 }, dev192, rfl, by decide +kernel⟩

def dev193 : Dev := { duo := { switchT := some 0, handAcked := true } }

theorem wit_TakeoverComplete_handoverBoundary_b : ∃ (s : State) (d : Dev),
    s.start = d ∧ s.On ∧ d.duo.demoteT = none ∧ d.duo.takeT = none ∧ d.duo.handAcked = true ∧ ∃ t ∈ d.duo.switchT.toList, t ≤ d.ns :=
  ⟨{ dev := dev193 }, dev193, rfl, by decide +kernel⟩

def dev194 : Dev := { duo := { demoteT := some 0 } }

theorem wit_TakeoverComplete_handoverBoundary_c : ∃ (s : State) (d : Dev),
    s.start = d ∧ s.On ∧ (∃ t ∈ d.duo.demoteT.toList, t ≤ d.ns) :=
  ⟨{ dev := dev194 }, dev194, rfl, by decide +kernel⟩

def dev195 : Dev := { duo := { switchT := some 0 } }

theorem wit_TakeoverComplete_handoverAckTimeout : ∃ (s : State) (d : Dev),
    s.start = d ∧ s.On ∧ d.duo.switchT.any (fun t => decide (t ≤ d.ns + 10000)) = true ∧ d.duo.handAcked = false ∧ d.duo.demoteT = none :=
  ⟨{ dev := dev195 }, dev195, rfl, by decide +kernel⟩

/-! ### SessionsComplete -/

def dev196 : Dev := { regs := [((R.HOST_STAT).addr, 1#32)] }

theorem wit_SessionsComplete_sessOpen : ∃ (s : State) (d : Dev) (src : Nat × Nat × Nat) (m : List (BitVec 8)) (k : Nat),
    s.start = d ∧ s.On ∧ d.hostLink (peerOf src).port = true ∧ m.length = 64 ∧ uAt m 0 2 = 0x0F01 ∧ uAt m 2 1 = 1 ∧ d.host.sess.all (fun e => e.2.nonce != uAt m 16 4) = true ∧ [0, 1, 2, 3].find? (fun k => (d.sess? k).isNone) = some k ∧ (uAt m 20 1 = 0 ∨ (uAt m 20 1 = 1 ∧ d.ctlSlot = none)) :=
  ⟨{ dev := dev196 }, dev196, (0, (0, 0)), ([1#8, 15#8, 1#8] ++ List.replicate 61 0#8), (([0, 1, 2, 3].find? (fun k => (dev196.sess? k).isNone)).getD 9), rfl, by decide +kernel⟩

def dev197 : Dev := { regs := [((R.HOST_STAT).addr, 1#32)], host := { sess := [(0, { sessId := 7 })], queues := [(0, { slot := 0, depth := 0 })] } }

theorem wit_SessionsComplete_sessClose : ∃ (s : State) (d : Dev) (src : Nat × Nat × Nat) (m : List (BitVec 8)) (k : Nat),
    s.start = d ∧ s.On ∧ d.Arrives 0x0F02 src m k ∧ (∃ q ∈ d.queuesOf k, True) :=
  ⟨{ dev := dev197 }, dev197, (0, (0, 0)), ([2#8, 15#8, 1#8, 0#8, 7#8] ++ List.replicate 59 0#8), ((dev197.slotOfId (uAt ([2#8, 15#8, 1#8, 0#8, 7#8] ++ List.replicate 59 0#8) 4 2)).getD 9), rfl, by decide +kernel⟩

def dev198 : Dev := { regs := [((R.HOST_STAT).addr, 1#32)], host := { sess := [(0, { sessId := 7 })] } }

theorem wit_SessionsComplete_keepalive : ∃ (s : State) (d : Dev) (src : Nat × Nat × Nat) (m : List (BitVec 8)) (k : Nat),
    s.start = d ∧ s.On ∧ d.Arrives 0x0F03 src m k ∧ uAt m 16 1 = 0 :=
  ⟨{ dev := dev198 }, dev198, (0, (0, 0)), ([3#8, 15#8, 1#8, 0#8, 7#8] ++ List.replicate 59 0#8), ((dev198.slotOfId (uAt ([3#8, 15#8, 1#8, 0#8, 7#8] ++ List.replicate 59 0#8) 4 2)).getD 9), rfl, by decide +kernel⟩

theorem wit_SessionsComplete_claim : ∃ (s : State) (d : Dev) (src : Nat × Nat × Nat) (m : List (BitVec 8)) (k : Nat),
    s.start = d ∧ s.On ∧ d.Arrives 0x0F03 src m k ∧ uAt m 16 1 = 1 ∧ (d.ctlSlot = none ∨ d.ctlSlot = some k) :=
  ⟨{ dev := dev198 }, dev198, (0, (0, 0)), ([3#8, 15#8, 1#8, 0#8, 7#8] ++ List.replicate 11 0#8 ++ [1#8] ++ List.replicate 47 0#8), ((dev198.slotOfId (uAt ([3#8, 15#8, 1#8, 0#8, 7#8] ++ List.replicate 11 0#8 ++ [1#8] ++ List.replicate 47 0#8) 4 2)).getD 9), rfl, by decide +kernel⟩

theorem wit_SessionsComplete_release : ∃ (s : State) (d : Dev) (src : Nat × Nat × Nat) (m : List (BitVec 8)) (k : Nat),
    s.start = d ∧ s.On ∧ d.Arrives 0x0F03 src m k ∧ uAt m 16 1 = 2 :=
  ⟨{ dev := dev198 }, dev198, (0, (0, 0)), ([3#8, 15#8, 1#8, 0#8, 7#8] ++ List.replicate 11 0#8 ++ [2#8] ++ List.replicate 47 0#8), ((dev198.slotOfId (uAt ([3#8, 15#8, 1#8, 0#8, 7#8] ++ List.replicate 11 0#8 ++ [2#8] ++ List.replicate 47 0#8) 4 2)).getD 9), rfl, by decide +kernel⟩

def dev199 : Dev := { regs := [((R.HOST_STAT).addr, 1#32)], host := { sess := [(0, { sessId := 7 }), (1, { sessId := 0, ctl := true })] } }

theorem wit_SessionsComplete_force : ∃ (s : State) (d : Dev) (src : Nat × Nat × Nat) (m : List (BitVec 8)) (k : Nat),
    s.start = d ∧ s.On ∧ d.Arrives 0x0F03 src m k ∧ uAt m 16 1 = 3 ∧ (∃ j ∈ d.ctlSlot.toList, j ≠ k) :=
  ⟨{ dev := dev199 }, dev199, (0, (0, 0)), ([3#8, 15#8, 1#8, 0#8, 7#8] ++ List.replicate 11 0#8 ++ [3#8] ++ List.replicate 47 0#8), ((dev199.slotOfId (uAt ([3#8, 15#8, 1#8, 0#8, 7#8] ++ List.replicate 11 0#8 ++ [3#8] ++ List.replicate 47 0#8) 4 2)).getD 9), rfl, by decide +kernel⟩

def dev200 : Dev := { regs := [((R.HOST_STAT).addr, 1#32)], host := { sess := [(0, { sessId := 7 })], queues := [(64, { slot := 0, depth := 0 })] } }

theorem wit_SessionsComplete_queueOpen : ∃ (s : State) (d : Dev) (src : Nat × Nat × Nat) (m : List (BitVec 8)) (k : Nat),
    s.start = d ∧ s.On ∧ d.Arrives 0x0F04 src m k ∧ uAt m 16 1 < 128 ∧ 8 ≤ uAt m 17 1 ∧ uAt m 17 1 ≤ 16 ∧ (if uAt m 16 1 < 64 then uAt m 19 1 = 0 ∧ d.ownsResp k (uAt m 18 1) = true else uAt m 18 1 = 0 ∧ 4 ≤ uAt m 19 1) ∧ d.queue? (uAt m 16 1) = none ∧ (d.host.queues.map (fun x => x.2.depth)).foldl (· + ·) 0 + 2 ^ uAt m 17 1 ≤ 16777216 :=
  ⟨{ dev := dev200 }, dev200, (0, (0, 0)), ([4#8, 15#8, 1#8, 0#8, 7#8] ++ List.replicate 12 0#8 ++ [8#8, 64#8] ++ List.replicate 45 0#8), ((dev200.slotOfId (uAt ([4#8, 15#8, 1#8, 0#8, 7#8] ++ List.replicate 12 0#8 ++ [8#8, 64#8] ++ List.replicate 45 0#8) 4 2)).getD 9), rfl, by decide +kernel⟩

theorem wit_SessionsComplete_queueClose : ∃ (s : State) (d : Dev) (src : Nat × Nat × Nat) (m : List (BitVec 8)) (k : Nat) (x : Queue),
    s.start = d ∧ s.On ∧ d.Arrives 0x0F05 src m k ∧ d.queue? (uAt m 16 1) = some x ∧ x.slot = k ∧ (if uAt m 16 1 < 64 then x.wait = none else d.respNeeded (uAt m 16 1) = false) :=
  ⟨{ dev := dev197 }, dev197, (0, (0, 0)), ([5#8, 15#8, 1#8, 0#8, 7#8] ++ List.replicate 59 0#8), ((dev197.slotOfId (uAt ([5#8, 15#8, 1#8, 0#8, 7#8] ++ List.replicate 59 0#8) 4 2)).getD 9), ((dev197.queue? (uAt ([5#8, 15#8, 1#8, 0#8, 7#8] ++ List.replicate 59 0#8) 16 1)).getD queue0), rfl, by decide +kernel⟩

theorem wit_SessionsComplete_hostAck : ∃ (s : State) (d : Dev) (src : Nat × Nat × Nat) (m : List (BitVec 8)) (k : Nat) (x : Queue),
    s.start = d ∧ s.On ∧ d.Arrives 0x0F06 src m k ∧ d.queue? (uAt m 16 1) = some x ∧ d.ownsResp k (uAt m 16 1) = true ∧ tsDiff (wN (uAt m 20 4)) (wN x.pos) ≤ 0 ∧ 0 ≤ tsDiff (wN (uAt m 20 4)) (wN x.ack) ∧ uAt m 24 1 = 0xFF :=
  ⟨{ dev := dev200 }, dev200, (0, (0, 0)), ([6#8, 15#8, 1#8, 0#8, 7#8] ++ List.replicate 11 0#8 ++ [64#8] ++ List.replicate 7 0#8 ++ [255#8] ++ List.replicate 39 0#8), ((dev200.slotOfId (uAt ([6#8, 15#8, 1#8, 0#8, 7#8] ++ List.replicate 11 0#8 ++ [64#8] ++ List.replicate 7 0#8 ++ [255#8] ++ List.replicate 39 0#8) 4 2)).getD 9), ((dev200.queue? (uAt ([6#8, 15#8, 1#8, 0#8, 7#8] ++ List.replicate 11 0#8 ++ [64#8] ++ List.replicate 7 0#8 ++ [255#8] ++ List.replicate 39 0#8) 16 1)).getD queue0), rfl, by decide +kernel⟩

theorem wit_SessionsComplete_evtSub : ∃ (s : State) (d : Dev) (src : Nat × Nat × Nat) (m : List (BitVec 8)) (k : Nat),
    s.start = d ∧ s.On ∧ d.Arrives 0x0F07 src m k ∧ (uAt m 16 1 = 0xFF ∨ d.ownsResp k (uAt m 16 1) = true) ∧ uAt m 17 1 ≤ 7 :=
  ⟨{ dev := dev200 }, dev200, (0, (0, 0)), ([7#8, 15#8, 1#8, 0#8, 7#8] ++ List.replicate 11 0#8 ++ [64#8] ++ List.replicate 47 0#8), ((dev200.slotOfId (uAt ([7#8, 15#8, 1#8, 0#8, 7#8] ++ List.replicate 11 0#8 ++ [64#8] ++ List.replicate 47 0#8) 4 2)).getD 9), rfl, by decide +kernel⟩

/-! ### HostEventsComplete -/

def dev201 : Dev := { regs := [((R.HOST_STAT).addr, 2#32)] }

theorem wit_HostEventsComplete_sapexDatagram_a : ∃ (s : State) (d : Dev) (src : Nat × Nat × Nat) (m : List (BitVec 8)),
    s.start = d ∧ s.On ∧ d.hostLink (peerOf src).port = true ∧ (m = [] ∨ m.length % 64 ≠ 0) :=
  ⟨{ dev := dev201 }, dev201, (1, (0, 0)), [], rfl, by decide +kernel⟩

def dev202 : Dev := { regs := [((R.HOST_STAT).addr, 1#32)], host := { sess := [(0, { sessId := 7 })], queues := [(0, { slot := 0, depth := 1, pos := 1, ack := 1 })] } }

theorem wit_HostEventsComplete_sapexDatagram_b : ∃ (s : State) (d : Dev) (src : Nat × Nat × Nat) (m : List (BitVec 8)),
    s.start = d ∧ s.On ∧ d.hostLink (peerOf src).port = true ∧ (∃ k ∈ (d.slotOfId (uAt m 4 2)).toList, ∃ x ∈ (d.queue? (uAt m 3 1)).toList, (queuedUnits (uAt m 0 2)).isSome = true ∧ m.length = 64 * uAt m 2 1 ∧ uAt m 2 1 ≠ 0 ∧ (d.sess? k).any (fun y => !d.since y.lastClk d.sessTo) = true ∧ uAt m 3 1 < 64 ∧ x.slot = k ∧ uAt m 8 4 = x.pos ∧ x.pos < 2 ^ 32 ∧ uAt m 2 1 + (x.pos + 2 ^ 32 - x.ack) % 2 ^ 32 ≤ x.depth) :=
  ⟨{ dev := dev202 }, dev202, (0, (0, 0)), ([16#8, 15#8, 1#8, 0#8, 7#8, 0#8, 0#8, 0#8, 1#8] ++ List.replicate 55 0#8), rfl, by decide +kernel⟩

def dev203 : Dev := { clk := 4294967296, host := { sess := [(0, { sessId := 0 })], queues := [(0, { slot := 0, depth := 0 })] } }

theorem wit_HostEventsComplete_sessionTimeout : ∃ (s : State) (d : Dev) (k : Nat) (x : Session),
    s.start = d ∧ s.On ∧ k < 4 ∧ d.sess? k = some x ∧ d.since x.lastClk d.sessTo = true ∧ (∃ q ∈ d.queuesOf k, True) :=
  ⟨{ dev := dev203 }, dev203, 0, ((dev203.sess? 0).getD sess0), rfl, by decide +kernel⟩

def dev204 : Dev := { clk := 8388608, host := { queues := [(65, { slot := 0, depth := 0, unacked := [(0, [])] })] } }

theorem wit_HostEventsComplete_ackTimeout : ∃ (s : State) (d : Dev) (q : Nat) (x : Queue),
    s.start = d ∧ s.On ∧ 64 ≤ q ∧ q < 128 ∧ d.queue? q = some x ∧ x.unacked ≠ [] ∧ x.rounds < 8 ∧ d.since x.ackClk (clksOfMs (d.fld R.HOST_CFG2 F.HOST_CFG2.ACKTO)) = true :=
  ⟨{ dev := dev204 }, dev204, 65, ((dev204.queue? 65).getD queue0), rfl, by decide +kernel⟩

theorem wit_HostEventsComplete_hostHello : ∃ (s : State) (d : Dev),
    s.start = d ∧ s.On ∧ d.ctlSlot = none ∧ (d.host.helloClk.all (fun c => d.since c (d.fld R.HOST_CFG F.HOST_CFG.HELLOPER * clksOfMs 100))) = true ∧ (d.hostLink 0 = true ∨ d.hostLink 1 = true) ∧ (∃ p ∈ [0, 1], d.hostLink p = true) :=
  ⟨{ dev := dev196 }, dev196, rfl, by decide +kernel⟩

def dev205 : Dev := { regs := [((R.SYS_ENV_STAT).addr, 1#32)] }

theorem wit_HostEventsComplete_hostLinkUp : ∃ (s : State) (d : Dev) (p : Nat),
    s.start = d ∧ s.On ∧ p < 2 ∧ bitAt (d.fld R.SYS_ENV_STAT F.SYS_ENV_STAT.SFPOK) p = true :=
  ⟨{ dev := dev205 }, dev205, 0, rfl, by decide +kernel⟩

theorem wit_HostEventsComplete_hostLinkDown : ∃ (s : State) (d : Dev) (p : Nat),
    s.start = d ∧ s.On ∧ p < 2 :=
  ⟨{ dev := {} }, {}, 0, rfl, by decide +kernel⟩

theorem wit_HostEventsComplete_apply : ∃ (s : State) (d : Dev) (ses : Nat) (w : Word),
    s.start = d ∧ s.On ∧ d.MayWrite ses R.HOST_CTL ∧ d.WriteOk R.HOST_CTL (putF w F.HOST_CTL.APPLY 1) :=
  ⟨{ dev := dev1 }, dev1, 0, 0#32, rfl, by decide +kernel⟩

theorem wit_HostEventsComplete_imageEraseDone : ∃ (s : State) (d : Dev) (k : Nat),
    s.start = d ∧ s.On ∧ k < 2 :=
  ⟨{ dev := {} }, {}, 0, rfl, by decide +kernel⟩

def dev206 : Dev := { clk := 34359738368, host := { sess := [(0, { sessId := 0, handles := [(0, { obj := 0, dir := 0, index := 0, len := 0 })] })] } }

theorem wit_HostEventsComplete_bulkIdleTimeout : ∃ (s : State) (d : Dev) (k h : Nat) (x : Handle),
    s.start = d ∧ s.On ∧ k < 4 ∧ d.handle? k h = some x ∧ d.since x.lastUse (60 * fabHz) = true :=
  ⟨{ dev := dev206 }, dev206, 0, 0, ((dev206.handle? 0 0).getD hand0), rfl, by decide +kernel⟩

def dev207 : Dev := { host := { queues := [(1, { slot := 0, depth := 0, respQ := 65, wait := some { quote := true, tick := 0, clk := 0, typ := 0, status := 0, ref := 0, body := [] } }), (65, { slot := 0, depth := 1 })] } }

theorem wit_HostEventsComplete_quoteComplete : ∃ (s : State) (d : Dev) (q : Nat) (x : Queue) (w : Held),
    s.start = d ∧ s.On ∧ q < 128 ∧ d.queue? q = some x ∧ x.closing = none ∧ x.wait = some w ∧ w.quote = true ∧ (d.queue? x.respQ).any (fun r => decide ((16 + w.body.length + 63) / 64 ≤ r.freeEntries)) = true :=
  ⟨{ dev := dev207 }, dev207, 1, ((dev207.queue? 1).getD queue0), (((dev207.queue? 1).getD queue0).wait.getD held0), rfl, by decide +kernel⟩

/-! ### MessagesComplete -/

def dev208 : Dev := { host := { sess := [(0, { sessId := 0 })], queues := [(0, { slot := 0, depth := 0, respQ := 64, stored := [([16#8, 15#8, 1#8] ++ List.replicate 16 0#8 ++ [5#8, 1#8] ++ List.replicate 43 0#8)] }), (64, { slot := 0, depth := 2 })] }, loader := { image := some { arms := [{ arm := 0, model := 0, port := 0, base := [], tool := [], joints := [] }] } } }

theorem wit_MessagesComplete_regRead : ∃ (s : State) (d : Dev) (src : Nat × Nat × Nat) (m : List (BitVec 8)) (x : Queue) (r : Reg),
    s.start = d ∧ s.On ∧ d.Executes 0x0F10 2 m x ∧ uAt m 20 2 = 1 ∧ uAt m 16 4 = r.addr ∧ uAt m 16 4 % 4 = 0 ∧ d.MayRead x.slot r :=
  ⟨{ dev := dev208 }, dev208, (0, (0, 0)), ([16#8, 15#8, 1#8] ++ List.replicate 16 0#8 ++ [5#8, 1#8] ++ List.replicate 43 0#8), ((dev208.queue? (uAt ([16#8, 15#8, 1#8] ++ List.replicate 16 0#8 ++ [5#8, 1#8] ++ List.replicate 43 0#8) 3 1)).getD queue0), ((regAt (uAt ([16#8, 15#8, 1#8] ++ List.replicate 16 0#8 ++ [5#8, 1#8] ++ List.replicate 43 0#8) 16 4)).getD R.PWR_STAT), rfl, by decide +kernel⟩

def dev209 : Dev := { host := { sess := [(0, { sessId := 0, ctl := true })], queues := [(0, { slot := 0, depth := 0, respQ := 64, stored := [([17#8, 15#8, 2#8] ++ List.replicate 13 0#8 ++ [224#8, 5#8, 0#8, 4#8, 1#8] ++ List.replicate 107 0#8)] }), (64, { slot := 0, depth := 1 })] }, loader := { image := some { axes := [{ axis := 2, kind := 0, k := 0, bind := 0, group := 0, arm := 0, joint := 0, fb := 0, sp := 0, law := 0 }] } } }

theorem wit_MessagesComplete_regWrite : ∃ (s : State) (d : Dev) (src : Nat × Nat × Nat) (m : List (BitVec 8)) (x : Queue) (r : Reg),
    s.start = d ∧ s.On ∧ d.Executes 0x0F11 1 m x ∧ uAt m 20 2 = 1 ∧ uAt m 2 1 = 2 ∧ uAt m 16 4 = r.addr ∧ uAt m 16 4 % 4 = 0 ∧ d.MayWrite x.slot r ∧ d.WriteOk r (wN (uAt m 64 4)) ∧ r.name.quiet = true :=
  ⟨{ dev := dev209 }, dev209, (0, (0, 0)), ([17#8, 15#8, 2#8] ++ List.replicate 13 0#8 ++ [224#8, 5#8, 0#8, 4#8, 1#8] ++ List.replicate 107 0#8), ((dev209.queue? (uAt ([17#8, 15#8, 2#8] ++ List.replicate 13 0#8 ++ [224#8, 5#8, 0#8, 4#8, 1#8] ++ List.replicate 107 0#8) 3 1)).getD queue0), ((regAt (uAt ([17#8, 15#8, 2#8] ++ List.replicate 13 0#8 ++ [224#8, 5#8, 0#8, 4#8, 1#8] ++ List.replicate 107 0#8) 16 4)).getD R.PWR_STAT), rfl, by decide +kernel⟩

def dev210 : Dev := { host := { sess := [(0, { sessId := 0, ctl := true })], queues := [(0, { slot := 0, depth := 0, respQ := 64, stored := [([18#8, 15#8, 1#8] ++ List.replicate 13 0#8 ++ [32#8] ++ List.replicate 47 0#8)] }), (64, { slot := 0, depth := 1 })] } }

theorem wit_MessagesComplete_regRmw : ∃ (s : State) (d : Dev) (src : Nat × Nat × Nat) (m : List (BitVec 8)) (x : Queue) (r : Reg) (v : Word),
    s.start = d ∧ s.On ∧ d.Executes 0x0F12 1 m x ∧ uAt m 16 4 = r.addr ∧ uAt m 16 4 % 4 = 0 ∧ d.MayWrite x.slot r ∧ wN (uAt m 20 4) &&& ~~~ d.rmwBits r.name.info = 0 ∧ v = ((d.readFor x.slot r).2 &&& ~~~ wN (uAt m 20 4)) ||| (wN (uAt m 24 4) &&& wN (uAt m 20 4)) ∧ d.WriteOk r v ∧ r.name.quiet = true :=
  ⟨{ dev := dev210 }, dev210, (0, (0, 0)), ([18#8, 15#8, 1#8] ++ List.replicate 13 0#8 ++ [32#8] ++ List.replicate 47 0#8), ((dev210.queue? (uAt ([18#8, 15#8, 1#8] ++ List.replicate 13 0#8 ++ [32#8] ++ List.replicate 47 0#8) 3 1)).getD queue0), ((regAt (uAt ([18#8, 15#8, 1#8] ++ List.replicate 13 0#8 ++ [32#8] ++ List.replicate 47 0#8) 16 4)).getD R.PWR_STAT), (((dev210.readFor ((dev210.queue? (uAt ([18#8, 15#8, 1#8] ++ List.replicate 13 0#8 ++ [32#8] ++ List.replicate 47 0#8) 3 1)).getD queue0).slot ((regAt (uAt ([18#8, 15#8, 1#8] ++ List.replicate 13 0#8 ++ [32#8] ++ List.replicate 47 0#8) 16 4)).getD R.PWR_STAT)).2 &&& ~~~ wN (uAt ([18#8, 15#8, 1#8] ++ List.replicate 13 0#8 ++ [32#8] ++ List.replicate 47 0#8) 20 4)) ||| (wN (uAt ([18#8, 15#8, 1#8] ++ List.replicate 13 0#8 ++ [32#8] ++ List.replicate 47 0#8) 24 4) &&& wN (uAt ([18#8, 15#8, 1#8] ++ List.replicate 13 0#8 ++ [32#8] ++ List.replicate 47 0#8) 20 4))), rfl, by decide +kernel⟩

def dev211 : Dev := { host := { sess := [(0, { sessId := 0 })], queues := [(0, { slot := 0, depth := 0, respQ := 64, stored := [([32#8, 15#8, 1#8] ++ List.replicate 13 0#8 ++ [1#8] ++ List.replicate 47 0#8)] }), (64, { slot := 0, depth := 1 })] } }

theorem wit_MessagesComplete_bulkOpen : ∃ (s : State) (d : Dev) (src : Nat × Nat × Nat) (m : List (BitVec 8)) (x : Queue) (s' : Session) (k : Nat),
    s.start = d ∧ s.On ∧ d.Executes 0x0F20 1 m x ∧ d.sess? x.slot = some s' ∧ s'.freeHandle = some k ∧ lowest (d.bulkOpenChecks s' m) = .ok :=
  ⟨{ dev := dev211 }, dev211, (0, (0, 0)), ([32#8, 15#8, 1#8] ++ List.replicate 13 0#8 ++ [1#8] ++ List.replicate 47 0#8), ((dev211.queue? (uAt ([32#8, 15#8, 1#8] ++ List.replicate 13 0#8 ++ [1#8] ++ List.replicate 47 0#8) 3 1)).getD queue0), ((dev211.sess? ((dev211.queue? (uAt ([32#8, 15#8, 1#8] ++ List.replicate 13 0#8 ++ [1#8] ++ List.replicate 47 0#8) 3 1)).getD queue0).slot).getD sess0), (((dev211.sess? ((dev211.queue? (uAt ([32#8, 15#8, 1#8] ++ List.replicate 13 0#8 ++ [1#8] ++ List.replicate 47 0#8) 3 1)).getD queue0).slot).getD sess0).freeHandle.getD 9), rfl, by decide +kernel⟩

def dev212 : Dev := { host := { sess := [(0, { sessId := 0, ctl := true, handles := [(0, { obj := 0, dir := 1, index := 0, len := 64 })] })], queues := [(0, { slot := 0, depth := 0, respQ := 64, stored := [([33#8, 15#8, 2#8] ++ List.replicate 21 0#8 ++ [64#8] ++ List.replicate 103 0#8)] }), (64, { slot := 0, depth := 1 })] } }

theorem wit_MessagesComplete_bulkWrite_a : ∃ (s : State) (d : Dev) (src : Nat × Nat × Nat) (m : List (BitVec 8)) (x : Queue) (h : Handle),
    s.start = d ∧ s.On ∧ d.Executes 0x0F21 1 m x ∧ d.handle? x.slot (uAt m 16 1) = some h ∧ lowest (d.bulkWriteChecks h m) = .ok ∧ h.obj ≠ 1 :=
  ⟨{ dev := dev212 }, dev212, (0, (0, 0)), ([33#8, 15#8, 2#8] ++ List.replicate 21 0#8 ++ [64#8] ++ List.replicate 103 0#8), ((dev212.queue? (uAt ([33#8, 15#8, 2#8] ++ List.replicate 21 0#8 ++ [64#8] ++ List.replicate 103 0#8) 3 1)).getD queue0), ((dev212.handle? ((dev212.queue? (uAt ([33#8, 15#8, 2#8] ++ List.replicate 21 0#8 ++ [64#8] ++ List.replicate 103 0#8) 3 1)).getD queue0).slot (uAt ([33#8, 15#8, 2#8] ++ List.replicate 21 0#8 ++ [64#8] ++ List.replicate 103 0#8) 16 1)).getD hand0), rfl, by decide +kernel⟩

def dev213 : Dev := { host := { sess := [(0, { sessId := 0, ctl := true, handles := [(1, { obj := 1, dir := 1, index := 0, len := 64 })] })], queues := [(0, { slot := 0, depth := 0, respQ := 64, stored := [([33#8, 15#8, 2#8] ++ List.replicate 13 0#8 ++ [1#8] ++ List.replicate 7 0#8 ++ [64#8] ++ List.replicate 103 0#8)] }), (64, { slot := 0, depth := 1 })] } }

theorem wit_MessagesComplete_bulkWrite_b : ∃ (s : State) (d : Dev) (src : Nat × Nat × Nat) (m : List (BitVec 8)) (x : Queue) (h : Handle),
    s.start = d ∧ s.On ∧ d.Executes 0x0F21 1 m x ∧ d.handle? x.slot (uAt m 16 1) = some h ∧ lowest (d.bulkWriteChecks h m) = .ok ∧ h.obj = 1 :=
  ⟨{ dev := dev213 }, dev213, (0, (0, 0)), ([33#8, 15#8, 2#8] ++ List.replicate 13 0#8 ++ [1#8] ++ List.replicate 7 0#8 ++ [64#8] ++ List.replicate 103 0#8), ((dev213.queue? (uAt ([33#8, 15#8, 2#8] ++ List.replicate 13 0#8 ++ [1#8] ++ List.replicate 7 0#8 ++ [64#8] ++ List.replicate 103 0#8) 3 1)).getD queue0), ((dev213.handle? ((dev213.queue? (uAt ([33#8, 15#8, 2#8] ++ List.replicate 13 0#8 ++ [1#8] ++ List.replicate 7 0#8 ++ [64#8] ++ List.replicate 103 0#8) 3 1)).getD queue0).slot (uAt ([33#8, 15#8, 2#8] ++ List.replicate 13 0#8 ++ [1#8] ++ List.replicate 7 0#8 ++ [64#8] ++ List.replicate 103 0#8) 16 1)).getD hand0), rfl, by decide +kernel⟩

def dev214 : Dev := { host := { sess := [(0, { sessId := 0, handles := [(1, { obj := 0, dir := 0, index := 0, len := 0 })] })], queues := [(0, { slot := 0, depth := 0, respQ := 64, stored := [([34#8, 15#8, 1#8] ++ List.replicate 13 0#8 ++ [1#8] ++ List.replicate 7 0#8 ++ [64#8] ++ List.replicate 203 0#8)] }), (64, { slot := 0, depth := 2 })] } }

theorem wit_MessagesComplete_bulkRead : ∃ (s : State) (d : Dev) (src : Nat × Nat × Nat) (m : List (BitVec 8)) (x : Queue) (h : Handle),
    s.start = d ∧ s.On ∧ d.Executes 0x0F22 (1 + uAt m 24 4 / 64) m x ∧ d.handle? x.slot (uAt m 16 1) = some h ∧ h.dir = 0 ∧ lowest (lenChecks (uAt m 24 4)) = .ok :=
  ⟨{ dev := dev214 }, dev214, (0, (0, 0)), ([34#8, 15#8, 1#8] ++ List.replicate 13 0#8 ++ [1#8] ++ List.replicate 7 0#8 ++ [64#8] ++ List.replicate 203 0#8), ((dev214.queue? (uAt ([34#8, 15#8, 1#8] ++ List.replicate 13 0#8 ++ [1#8] ++ List.replicate 7 0#8 ++ [64#8] ++ List.replicate 203 0#8) 3 1)).getD queue0), ((dev214.handle? ((dev214.queue? (uAt ([34#8, 15#8, 1#8] ++ List.replicate 13 0#8 ++ [1#8] ++ List.replicate 7 0#8 ++ [64#8] ++ List.replicate 203 0#8) 3 1)).getD queue0).slot (uAt ([34#8, 15#8, 1#8] ++ List.replicate 13 0#8 ++ [1#8] ++ List.replicate 7 0#8 ++ [64#8] ++ List.replicate 203 0#8) 16 1)).getD hand0), rfl, by decide +kernel⟩

def dev215 : Dev := { host := { sess := [(0, { sessId := 0, handles := [(0, { obj := 0, dir := 0, index := 0, len := 0 })] })], queues := [(0, { slot := 0, depth := 0, respQ := 64, stored := [([35#8, 15#8, 1#8] ++ List.replicate 61 0#8)] }), (64, { slot := 0, depth := 1 })] } }

theorem wit_MessagesComplete_bulkClose : ∃ (s : State) (d : Dev) (src : Nat × Nat × Nat) (m : List (BitVec 8)) (x : Queue) (h : Handle),
    s.start = d ∧ s.On ∧ d.Executes 0x0F23 1 m x ∧ d.handle? x.slot (uAt m 16 1) = some h ∧ (h.dir = 0 ∨ (h.written = h.len ∧ (h.obj ≠ 2 ∨ (d.inSwitch = false ∧ d.blkOn .cap = true)))) :=
  ⟨{ dev := dev215 }, dev215, (0, (0, 0)), ([35#8, 15#8, 1#8] ++ List.replicate 61 0#8), ((dev215.queue? (uAt ([35#8, 15#8, 1#8] ++ List.replicate 61 0#8) 3 1)).getD queue0), ((dev215.handle? ((dev215.queue? (uAt ([35#8, 15#8, 1#8] ++ List.replicate 61 0#8) 3 1)).getD queue0).slot (uAt ([35#8, 15#8, 1#8] ++ List.replicate 61 0#8) 16 1)).getD hand0), rfl, by decide +kernel⟩

/-! ### SecurityComplete -/

def dev216 : Dev := { host := { sess := [(0, { sessId := 0, ctl := true })], queues := [(0, { slot := 0, depth := 0, respQ := 64, stored := [([51#8, 15#8, 1#8] ++ List.replicate 53 0#8 ++ [2#8] ++ List.replicate 7 0#8)] }), (64, { slot := 0, depth := 1 })] } }

theorem wit_SecurityComplete_ownerSet : ∃ (s : State) (d : Dev) (src : Nat × Nat × Nat) (m : List (BitVec 8)) (x : Queue),
    s.start = d ∧ s.On ∧ d.Executes 0x0F33 1 m x ∧ lowest (d.ownerSetChecks m) = .ok :=
  ⟨{ dev := dev216 }, dev216, (0, (0, 0)), ([51#8, 15#8, 1#8] ++ List.replicate 53 0#8 ++ [2#8] ++ List.replicate 7 0#8), ((dev216.queue? (uAt ([51#8, 15#8, 1#8] ++ List.replicate 53 0#8 ++ [2#8] ++ List.replicate 7 0#8) 3 1)).getD queue0), rfl, by decide +kernel⟩

def dev217 : Dev := { host := { sess := [(0, { sessId := 0, ctl := true })], queues := [(0, { slot := 0, depth := 0, respQ := 64, stored := [([49#8, 15#8, 1#8] ++ List.replicate 61 0#8)] }), (64, { slot := 0, depth := 1 })] } }

theorem wit_SecurityComplete_secChal : ∃ (s : State) (d : Dev) (src : Nat × Nat × Nat) (m : List (BitVec 8)) (x : Queue),
    s.start = d ∧ s.On ∧ d.Executes 0x0F31 1 m x :=
  ⟨{ dev := dev217 }, dev217, (0, (0, 0)), ([49#8, 15#8, 1#8] ++ List.replicate 61 0#8), ((dev217.queue? (uAt ([49#8, 15#8, 1#8] ++ List.replicate 61 0#8) 3 1)).getD queue0), rfl, by decide +kernel⟩

def dev218 : Dev := { host := { queues := [(0, { slot := 0, depth := 0, respQ := 64, stored := [([48#8, 15#8, 1#8] ++ List.replicate 61 0#8)] }), (64, { slot := 0, depth := 16 })] } }

theorem wit_SecurityComplete_quote : ∃ (s : State) (d : Dev) (src : Nat × Nat × Nat) (m : List (BitVec 8)) (x : Queue),
    s.start = d ∧ s.On ∧ d.Executes 0x0F30 10 m x :=
  ⟨{ dev := dev218 }, dev218, (0, (0, 0)), ([48#8, 15#8, 1#8] ++ List.replicate 61 0#8), ((dev218.queue? (uAt ([48#8, 15#8, 1#8] ++ List.replicate 61 0#8) 3 1)).getD queue0), rfl, by decide +kernel⟩

def dev219 : Dev := { host := { sess := [(0, { sessId := 0, ctl := true })], queues := [(0, { slot := 0, depth := 0, respQ := 64, stored := [([53#8, 15#8, 2#8] ++ List.replicate 13 0#8 ++ [6#8] ++ List.replicate 111 0#8)] }), (64, { slot := 0, depth := 1 })] } }

theorem wit_SecurityComplete_msExtend : ∃ (s : State) (d : Dev) (src : Nat × Nat × Nat) (m : List (BitVec 8)) (x : Queue),
    s.start = d ∧ s.On ∧ d.Executes 0x0F35 1 m x ∧ uAt m 16 1 = 6 :=
  ⟨{ dev := dev219 }, dev219, (0, (0, 0)), ([53#8, 15#8, 2#8] ++ List.replicate 13 0#8 ++ [6#8] ++ List.replicate 111 0#8), ((dev219.queue? (uAt ([53#8, 15#8, 2#8] ++ List.replicate 13 0#8 ++ [6#8] ++ List.replicate 111 0#8) 3 1)).getD queue0), rfl, by decide +kernel⟩

def dev220 : Dev := { regs := [((R.SEC_STAT).addr, 536870912#32)], host := { sess := [(0, { sessId := 0, ctl := true })] } }

theorem wit_SecurityComplete_lock : ∃ (s : State) (d : Dev) (ses : Nat) (w : Word),
    s.start = d ∧ s.On ∧ d.MayWrite ses R.SEC_CTL ∧ d.WriteOk R.SEC_CTL (putF w F.SEC_CTL.LOCK 1) :=
  ⟨{ dev := dev220 }, dev220, 0, 0#32, rfl, by decide +kernel⟩

def dev221 : Dev := { regs := [((R.SEC_STAT).addr, 2147483648#32)], host := { sess := [(0, { sessId := 0, ctl := true })] } }

theorem wit_SecurityComplete_endsvc : ∃ (s : State) (d : Dev) (ses : Nat) (w : Word),
    s.start = d ∧ s.On ∧ d.MayWrite ses R.SEC_CTL ∧ d.secState = 2 ∧ d.WriteOk R.SEC_CTL (putF w F.SEC_CTL.ENDSVC 1) :=
  ⟨{ dev := dev221 }, dev221, 0, 0#32, rfl, by decide +kernel⟩

def dev222 : Dev := { regs := [((R.SEC_STAT).addr, 2147483648#32)], sec := { svcEnd := some 0 } }

theorem wit_SecurityComplete_serviceExpiry : ∃ (s : State) (d : Dev),
    s.start = d ∧ s.On ∧ d.sec.svcEnd.any (fun t => decide (t ≤ d.ns)) = true ∧ d.secState = 2 :=
  ⟨{ dev := dev222 }, dev222, rfl, by decide +kernel⟩

/-! ### DebugComplete -/

theorem wit_DebugComplete_dbgclose : ∃ (s : State) (d : Dev) (ses : Nat) (w : Word),
    s.start = d ∧ s.On ∧ d.MayWrite ses R.SEC_CTL ∧ d.WriteOk R.SEC_CTL (putF w F.SEC_CTL.DBGCLOSE 1) :=
  ⟨{ dev := dev1 }, dev1, 0, 0#32, rfl, by decide +kernel⟩

def dev223 : Dev := { regs := [((R.SEC_STAT).addr, 1073741824#32)], sec := { dbgEnd := some 0 } }

theorem wit_DebugComplete_debugPermitExpiry : ∃ (s : State) (d : Dev),
    s.start = d ∧ s.On ∧ d.sec.dbgEnd.any (fun t => decide (t ≤ d.ns)) = true ∧ d.secState = 1 :=
  ⟨{ dev := dev223 }, dev223, rfl, by decide +kernel⟩

theorem wit_DebugComplete_debugRequest : ∃ (s : State) (d : Dev),
    s.start = d ∧ s.On ∧ d.bit R.SEC_STAT F.SEC_STAT.ATTACH = false :=
  ⟨{ dev := {} }, {}, rfl, by decide +kernel⟩

theorem wit_DebugComplete_debugRequestEnd : ∃ (s : State) (d : Dev),
    s.start = d ∧ s.On :=
  ⟨{ dev := {} }, {}, rfl, by decide +kernel⟩

theorem wit_DebugComplete_tapInstruction_a : ∃ (s : State) (d : Dev) (ins : Nat),
    s.start = d ∧ s.On ∧ ins ≤ 1 :=
  ⟨{ dev := {} }, {}, 0, rfl, by decide +kernel⟩

def dev224 : Dev := { regs := [((R.SEC_STAT).addr, 65536#32)], sec := { open_ := some 0 } }

theorem wit_DebugComplete_tapInstruction_b : ∃ (s : State) (d : Dev) (ins : Nat),
    s.start = d ∧ s.On ∧ ins = 2 ∧ bitAt d.debugScope 0 = true :=
  ⟨{ dev := dev224 }, dev224, 2, rfl, by decide +kernel⟩

theorem wit_DebugComplete_tapInstruction_c : ∃ (s : State) (d : Dev) (ins : Nat),
    s.start = d ∧ s.On ∧ ins = 2 ∧ bitAt d.debugScope 0 = false ∧ d.sec.denied.contains 18 = false :=
  ⟨{ dev := {} }, {}, 2, rfl, by decide +kernel⟩

/-! ### PowerComplete -/

theorem wit_PowerComplete_pwrLattolWrite : ∃ (s : State) (d : Dev) (ses : Nat) (w : Word),
    s.start = d ∧ s.On ∧ d.MayWrite ses R.PWR_LATTOL ∧ d.WriteOk R.PWR_LATTOL w :=
  ⟨{ dev := dev1 }, dev1, 0, 0#32, rfl, by decide +kernel⟩

def dev225 : Dev := { regs := [((R.PWR_STAT).addr, 16777216#32)], time := { tns := 140737488355328 } }

theorem wit_PowerComplete_powerStateEntry : ∃ (s : State) (d : Dev),
    s.start = d ∧ s.On ∧ d.bit R.PWR_STAT F.PWR_STAT.TRANS = false ∧ d.pstate < d.fld R.PWR_STAT F.PWR_STAT.TARGET ∧ d.pwr.selNs / (if d.fld R.PWR_STAT F.PWR_STAT.TARGET = 1 then 31250 else 4000000) < d.ns / (if d.fld R.PWR_STAT F.PWR_STAT.TARGET = 1 then 31250 else 4000000) ∧ (d.loader.job = .idle ∨ d.fld R.PWR_STAT F.PWR_STAT.TARGET = 1) ∧ d.fld R.PWR_STAT F.PWR_STAT.TARGET ≤ 4 :=
  ⟨{ dev := dev225 }, dev225, rfl, by decide +kernel⟩

def dev226 : Dev := { pwr := { exitFrom := some 0 } }

theorem wit_PowerComplete_powerExitComplete : ∃ (s : State) (d : Dev),
    s.start = d ∧ s.On ∧ d.pwr.exitFrom.isSome = true ∧ d.fld R.PWR_STAT F.PWR_STAT.TARGET < 4 :=
  ⟨{ dev := dev226 }, dev226, rfl, by decide +kernel⟩

theorem wit_PowerComplete_lineResume : ∃ (s : State) (d : Dev),
    s.start = d ∧ s.On ∧ d.ns / 31250 % 128 = 0 ∧ d.pstate < 2 :=
  ⟨{ dev := {} }, {}, rfl, by decide +kernel⟩

/-! ### SupplyComplete -/

theorem wit_SupplyComplete_powerFailWarning : ∃ (s : State) (d : Dev) (bulk : Nat),
    s.start = d ∧ s.On ∧ bulk < 300 ∧ d.bit R.SYS_PF_STAT F.SYS_PF_STAT.PFW = false ∧ (d.sys.pfClk = none ∨ d.bit R.SYS_PF_STAT F.SYS_PF_STAT.PFDONE = true) :=
  ⟨{ dev := {} }, {}, 0, rfl, by decide +kernel⟩

def dev227 : Dev := { clk := 8388608, loader := { image := some { safety := [[2#8]] } }, sys := { pfClk := some 0 } }

theorem wit_SupplyComplete_pfPermitWithdraw : ∃ (s : State) (d : Dev),
    s.start = d ∧ s.On ∧ d.sys.pfClk.any (fun c => d.since c (clksOfMs 15)) = true ∧ d.bit R.SYS_PF_STAT F.SYS_PF_STAT.PFDONE = false ∧ (∃ k ∈ d.saxes, True) :=
  ⟨{ dev := dev227 }, dev227, rfl, by decide +kernel⟩

theorem wit_SupplyComplete_pfRecovered : ∃ (s : State) (d : Dev) (bulk : Nat),
    s.start = d ∧ s.On ∧ 320 < bulk ∧ d.sys.crit = none :=
  ⟨{ dev := {} }, {}, 321, rfl, by decide +kernel⟩

def dev228 : Dev := { sys := { tempClk := some 0 } }

theorem wit_SupplyComplete_tempMeasure_a : ∃ (s : State) (d : Dev) (t : Int),
    s.start = d ∧ s.On ∧ -32768 ≤ t ∧ t < 32768 ∧ d.sys.tempClk.isSome = true :=
  ⟨{ dev := dev228 }, dev228, 0, rfl, by decide +kernel⟩

theorem wit_SupplyComplete_tempMeasure_b : ∃ (s : State) (d : Dev) (t : Int),
    s.start = d ∧ s.On ∧ -32768 ≤ t ∧ t < 32768 ∧ 800 ≤ t :=
  ⟨{ dev := {} }, {}, 800, rfl, by decide +kernel⟩

theorem wit_SupplyComplete_tempMeasure_c : ∃ (s : State) (d : Dev) (t : Int),
    s.start = d ∧ s.On ∧ -32768 ≤ t ∧ t < 32768 ∧ 950 ≤ t :=
  ⟨{ dev := {} }, {}, 1024, rfl, by decide +kernel⟩

def dev229 : Dev := { clk := 10000384, sys := { crit := some 0 } }

theorem wit_SupplyComplete_tempcritSupplyOff : ∃ (s : State) (d : Dev),
    s.start = d ∧ s.On ∧ d.sys.crit.any (fun c => d.since c (clksOfMs 20)) = true :=
  ⟨{ dev := dev229 }, dev229, rfl, by decide +kernel⟩

theorem wit_SupplyComplete_fanFailure : ∃ (s : State) (d : Dev) (f : Nat),
    s.start = d ∧ s.On ∧ f < 3 :=
  ⟨{ dev := {} }, {}, 0, rfl, by decide +kernel⟩

theorem wit_SupplyComplete_fanRestored : ∃ (s : State) (d : Dev) (f : Nat),
    s.start = d ∧ s.On ∧ f < 3 :=
  ⟨{ dev := {} }, {}, 0, rfl, by decide +kernel⟩

theorem wit_SupplyComplete_sfpInserted : ∃ (s : State) (d : Dev) (c typ : Nat),
    s.start = d ∧ s.On ∧ c < 3 :=
  ⟨{ dev := {} }, {}, 0, 0, rfl, by decide +kernel⟩

theorem wit_SupplyComplete_sfpRemoved : ∃ (s : State) (d : Dev) (c : Nat),
    s.start = d ∧ s.On ∧ c < 3 ∧ c < 2 :=
  ⟨{ dev := {} }, {}, 0, rfl, by decide +kernel⟩

/-! ### SHA-384 and ECDSA in the kernel

The kernel puts off what it computes; the same functions, with each number computed before it is used, let it check a signature in a second. -/

/-- A number brought to a numeral before it is used. -/
def strict {α : Type} (n : Nat) (f : Nat → α) : α := match n with | 0 => f 0 | k + 1 => f (k + 1)
theorem strict_eq {α : Type} (n : Nat) (f : Nat → α) : strict n f = f n := by cases n <;> rfl
def strictW {α : Type} : List (BitVec 64) → (List (BitVec 64) → α) → α
  | [], f => f []
  | a :: l, f => strict a.toNat (fun n => strictW l (fun m => f (BitVec.ofNat 64 n :: m)))
theorem strictW_eq {α : Type} (l : List (BitVec 64)) (f : List (BitVec 64) → α) : strictW l f = f l := by
  induction l generalizing f with
  | nil => rfl
  | cons a l ih => simp [strictW, strict_eq, ih]
def strictP {α : Type} (p : EcPoint) (f : EcPoint → α) : α := strict p.x (fun x => strict p.y (fun y => strict p.z (fun z => f ⟨x, y, z⟩)))
theorem strictP_eq {α : Type} (p : EcPoint) (f : EcPoint → α) : strictP p f = f p := by simp [strictP, strict_eq]
def powS (m : Nat) : Nat → Nat → Nat → Nat
  | 0, _, _ => 1 % m
  | n + 1, b, e => strict (b * b % m) (fun b2 => strict (e / 2) (fun e2 => strict (powS m n b2 e2) (fun q => (if e % 2 == 1 then b else 1) * q % m)))
theorem powMod_eq (m n b e : Nat) : powMod m n b e = powS m n b e := by
  induction n generalizing b e with
  | zero => rfl
  | succ n ih => simp [powMod, powS, strict_eq, ih]
def mulS : Nat → Nat → EcPoint → EcPoint
  | 0, _, _ => EcPoint.zero
  | n + 1, k, p => strictP p.double (fun p2 => strict (k / 2) (fun k2 => strictP (mulS n k2 p2) (fun r => if k % 2 == 1 then strictP (r.add p) id else r)))
theorem mul_eq (n k : Nat) (p : EcPoint) : EcPoint.mul n k p = mulS n k p := by
  induction n generalizing k p with
  | zero => rfl
  | succ n ih => simp [EcPoint.mul, mulS, strictP_eq, strict_eq, ih]
def schedS : Nat → List (BitVec 64) → List (BitVec 64)
  | 0, w => w
  | n + 1, w => strictW (shaSched 1 w) (schedS n)
theorem sched_eq (n : Nat) (w : List (BitVec 64)) : shaSched n w = schedS n w := by
  induction n generalizing w with
  | zero => rfl
  | succ n ih => simp only [schedS, strictW_eq, ← ih]; rfl
def roundsS : List (BitVec 64 × BitVec 64) → List (BitVec 64) → List (BitVec 64)
  | [], v => v
  | k :: l, v => strictW (shaRound v k) (roundsS l)
theorem rounds_eq (l : List (BitVec 64 × BitVec 64)) (v : List (BitVec 64)) : l.foldl shaRound v = roundsS l v := by
  induction l generalizing v with
  | nil => rfl
  | cons k l ih => simp [roundsS, strictW_eq, ih]
def blocksS (ks : List (BitVec 64)) : Nat → List (BitVec 64) → List Byte → List (BitVec 64)
  | 0, h, _ => h
  | n + 1, h, l =>
    strictW (schedS 64 (shaWords (l.take 128)).reverse) (fun w => strictW (List.zipWith (· + ·) h (roundsS (ks.zip w.reverse) h)) (fun h2 =>
      blocksS ks n h2 (l.drop 128)))
theorem blocks_eq (n : Nat) (h : List (BitVec 64)) (l : List Byte) : shaBlocks n h l = blocksS shaK n h l := by
  induction n generalizing h l with
  | zero => rfl
  | succ n ih => simp only [shaBlocks, blocksS, strictW_eq, shaBlock, sched_eq, rounds_eq, ih]
def shaS (ks : List (BitVec 64)) (l : List Byte) : List Byte :=
  ((blocksS ks ((shaPad l).length / 128) shaInit (shaPad l)).take 6).flatMap be64
theorem sha_eq (l : List Byte) : sha384 l = strictW shaK (fun ks => shaS ks l) := by
  simp only [strictW_eq, sha384, blocks_eq, shaS]
def beBytes (n : Nat) : List Byte := (List.range 48).map (fun i => BitVec.ofNat 8 (n / 256 ^ (47 - i)))
def keyG : List Byte := [4#8] ++ beBytes ecBase.x ++ beBytes ecBase.y

/-- A token (R601) of the unit of SERIAL 0 with a challenge of zeros, signed with `s` under the key of the base point. -/
def token (kind dur scope s : Nat) : List Byte :=
  [50#8, 15#8, 5#8] ++ List.replicate 13 0#8 ++ le 8 kind ++ le 2 dur ++ le 2 scope ++ List.replicate 36 0#8 ++ keyG ++ List.replicate 31 0#8 ++
    beBytes ecBase.x ++ beBytes s ++ List.replicate 32 0#8

def token1 : List Byte := token 1 1 1 0x8a721f0a66d15a4611f5a33ceca04d59b7831c45f3a855f43f921b0377c85240635a90c62d7bbb02ae5c2114cb1d0714

def token2 : List Byte := token 2 1 1 0x8e02868dc68acfef9016c3f9478b4f34a87f0aacd1828b8b4bcff44b2faaf5f55a3b4fa5b5fc4cdc5779f9beb3a1467a

def token3 : List Byte := token 3 0 0 0xe3bc6d78d5cd58fabc22b6ff31f3b30dc83e373afad5b1246e139dbe0de279e19d23f847cef76588591239819484d6c3

/-- An image (R121 to R123) without sections. -/
def image0 : List Byte :=
  le 4 0x4D495351 ++ le 2 1 ++ le 2 256 ++ le 4 512 ++ List.replicate 12 0#8 ++ le 4 0x9648 ++ List.replicate 20 0#8 ++
    beBytes 0x4a4455263d377ae6f8e89ab62893f13b0942e77fcaa285447753537c0a7e01e4598878fb8594ad2b90b56616df0ab319 ++ List.replicate 160 0#8 ++
    le 4 1 ++ keyG ++ List.replicate 3 0#8 ++ beBytes ecBase.x ++ beBytes 0xf4cc1f48fbc2801e879a61d51bb49eaf776022e2564a20dcd14a955c8cd22c1cae8b6b5944e9d697cb09c44f5180bdd0 ++ List.replicate 56 0#8

/-- The digest of the three bytes "abc" that the standard of SHA-384 gives, and the digests that the signatures below are made over. -/
theorem test_sha384 :
    sha384 [0x61#8, 0x62#8, 0x63#8] = beBytes 0xcb00753f45a35e8bb5a03d699ac65007272c32ab0eded1631a8b605a43ff5bed8086072ba1e7cc2358baeca134c825a7 ∧
    sha384 keyG = beBytes 0x8c4f262412b7f9ed867606705a130de5212fd048fbaf8c3842f4a240f4b45ba0c90f82194ccdda3ed89c96b0afe1d51d ∧
    sha384 (slice token1 16 48) = beBytes 0xdfea54e7a846550e8343dc1df97f9fe54965e0e36800ba5bacfe26a4e9ab55e76671ac1ab6d7391160f3dc47256c25d0 ∧
    sha384 (slice token2 16 48) = beBytes 0xe37abc6b07ffcab80164fcda546aa1c03a61cf4a45daeff2b93bffeca18df99c5d526afa3f57caeb0a11b4f10df06536 ∧
    sha384 (slice token3 16 48) = beBytes 0x3934a356174253c32d70efe03ed305995a20fbd86f2e158c141c5bdd8b8e4fa9482105ea0fa23c1c1ebddb49220ecc0c ∧
    sha384 (hashedBytes image0) = imgHash image0 := by
  simp only [sha_eq]; decide +kernel

theorem token1_signed : ecdsaVerify keyG (sha384 (slice token1 16 48)) (slice token1 192 96) = true := by
  rw [test_sha384.2.2.1]; simp only [ecdsaVerify, powMod_eq, mul_eq]; decide +kernel

theorem token2_signed : ecdsaVerify keyG (sha384 (slice token2 16 48)) (slice token2 192 96) = true := by
  rw [test_sha384.2.2.2.1]; simp only [ecdsaVerify, powMod_eq, mul_eq]; decide +kernel

theorem token3_signed : ecdsaVerify keyG (sha384 (slice token3 16 48)) (slice token3 192 96) = true := by
  rw [test_sha384.2.2.2.2.1]; simp only [ecdsaVerify, powMod_eq, mul_eq]; decide +kernel

theorem image0_signed : ecdsaVerify (slice image0 260 97) (imgHash image0) (slice image0 360 96) = true := by
  simp only [ecdsaVerify, powMod_eq, mul_eq]; decide +kernel

/-- A signature over another digest does not verify. -/
theorem test_ecdsa_refuses : ecdsaVerify keyG (List.replicate 48 1#8) (slice token1 192 96) = false := by
  simp only [ecdsaVerify, powMod_eq, mul_eq]; decide +kernel

def devTok (m : List Byte) : Dev :=
  { regs := (R.SEC_STAT.addr, 1610612736#32) :: [606490508#32, 3992565522#32, 1879471750#32, 3842839386#32, 1221603105#32, 948744187#32, 1084421186#32, 2690364660#32, 427954121#32, 1054526796#32, 2962660568#32, 500556207#32].zipIdx.map (fun e => ((R.SEC_OWNER_HASH e.2).addr, e.1)),
    host := { sess := [(0, { sessId := 0, ctl := true })], queues := [(0, { slot := 0, depth := 0, respQ := 64, stored := [m] }), (64, { slot := 0, depth := 1 })] },
    sec := { chal := some (List.replicate 32 0#8, 0) } }

theorem token1_ok (h : Config.serial = 0#32) : (devTok token1).tokenCheck true token1 = .ok := by
  have hk : slice token1 64 97 = keyG := by decide +kernel
  simp only [Dev.tokenCheck, h, hk, token1_signed, test_sha384.2.1]
  decide +kernel

/-- SERIAL is a constant of the unit that nothing evaluates: the token is one of the unit whose SERIAL is 0. -/
theorem wit_SecurityComplete_secToken_a (h : Config.serial = 0#32) : ∃ (s : State) (d : Dev) (src : Nat × Nat × Nat) (m : List (BitVec 8)) (x : Queue),
    s.start = d ∧ s.On ∧ d.Executes 0x0F32 1 m x ∧ d.tokenCheck (d.isCtl x.slot) m = .ok ∧ uAt m 16 1 = 1 :=
  ⟨{ dev := devTok token1 }, devTok token1, (0, 0, 0), token1, { slot := 0, depth := 0, respQ := 64, stored := [token1] }, rfl, by decide +kernel,
    by decide +kernel, token1_ok h, by decide +kernel⟩

theorem token2_ok (h : Config.serial = 0#32) : (devTok token2).tokenCheck true token2 = .ok := by
  have hk : slice token2 64 97 = keyG := by decide +kernel
  simp only [Dev.tokenCheck, h, hk, token2_signed, test_sha384.2.1]
  decide +kernel

/-- SERIAL is a constant of the unit that nothing evaluates: the token is one of the unit whose SERIAL is 0. -/
theorem wit_SecurityComplete_secToken_b (h : Config.serial = 0#32) : ∃ (s : State) (d : Dev) (src : Nat × Nat × Nat) (m : List (BitVec 8)) (x : Queue),
    s.start = d ∧ s.On ∧ d.Executes 0x0F32 1 m x ∧ d.tokenCheck (d.isCtl x.slot) m = .ok ∧ uAt m 16 1 = 2 :=
  ⟨{ dev := devTok token2 }, devTok token2, (0, 0, 0), token2, { slot := 0, depth := 0, respQ := 64, stored := [token2] }, rfl, by decide +kernel,
    by decide +kernel, token2_ok h, by decide +kernel⟩

theorem token3_ok (h : Config.serial = 0#32) : (devTok token3).tokenCheck true token3 = .ok := by
  have hk : slice token3 64 97 = keyG := by decide +kernel
  simp only [Dev.tokenCheck, h, hk, token3_signed, test_sha384.2.1]
  decide +kernel

/-- SERIAL is a constant of the unit that nothing evaluates: the token is one of the unit whose SERIAL is 0. -/
theorem wit_SecurityComplete_secToken_c (h : Config.serial = 0#32) : ∃ (s : State) (d : Dev) (src : Nat × Nat × Nat) (m : List (BitVec 8)) (x : Queue),
    s.start = d ∧ s.On ∧ d.Executes 0x0F32 1 m x ∧ d.tokenCheck (d.isCtl x.slot) m = .ok ∧ uAt m 16 1 = 3 :=
  ⟨{ dev := devTok token3 }, devTok token3, (0, 0, 0), token3, { slot := 0, depth := 0, respQ := 64, stored := [token3] }, rfl, by decide +kernel,
    by decide +kernel, token3_ok h, by decide +kernel⟩

/-- The image without sections passes every stage of the loader's check (R134). -/
theorem test_image0 : checkImage 0 image0 = none := by
  have h1 : worstFail (stage1 image0) = none := by decide +kernel
  have h2 : worstFail (stage2 image0) = none := by
    simp only [stage2, test_sha384.2.2.2.2.2, show imgLen image0 - 256 + 4 = 260 by decide +kernel, show imgLen image0 - 256 + 104 = 360 by decide +kernel,
      image0_signed]
    decide +kernel
  have h3 : worstFail (stage3 image0 (imageOf 0 image0)) = none := by decide +kernel
  have h4 : worstFail (stage4 (imageOf 0 image0)) = none := by decide +kernel
  have h5 : worstFail (stage5 (imageOf 0 image0)) = none := by decide +kernel
  simp only [checkImage, h1, h2, h3, h4, h5, Option.map_none]

def devBoot : Dev := { loader := { flash := [(0, image0)] } }

def devCheck : Dev := { loader := { flash := [(0, image0)], job := .checking 0 true false } }

theorem wit_ImageCommandsComplete_bootCheckComplete : ∃ (s : State) (d : Dev) (slot : Nat),
    s.start = d ∧ s.On ∧ d.loader.bootDone = false ∧ d.loader.image = none ∧ d.loader.job = .idle ∧ d.bit R.SYS_PF_STAT F.SYS_PF_STAT.PFW = false ∧
      d.loader.bootTry = [] ∧ d.bootOrder.head? = some slot ∧ checkImage slot (d.slotFull slot) = none :=
  ⟨{ dev := devBoot }, devBoot, 0, rfl, by decide +kernel, rfl, rfl, rfl,
    by decide +kernel, rfl, by decide +kernel,
    by rw [show devBoot.slotFull 0 = image0 by decide +kernel]; exact test_image0⟩

theorem wit_ImageCommandsComplete_checkComplete : ∃ (s : State) (d : Dev) (slot : Nat) (keep : Bool),
    s.start = d ∧ s.On ∧ d.loader.job = .checking slot true keep ∧ checkImage slot (d.slotFull slot) = none :=
  ⟨{ dev := devCheck }, devCheck,
    0, false, rfl, by decide +kernel, rfl,
    by rw [show devCheck.slotFull 0 = image0 by decide +kernel]; exact test_image0⟩

/-! ### Witnesses that rest on the unit's own identity -/

theorem unit_other : 0 ≠ Config.serial.toNat % 65536 ∨ 1 ≠ Config.serial.toNat % 65536 := by omega

def devHear (state rank : Nat) (listening : Bool) : Dev :=
  { regs := [(R.LINE_GCFG.addr, putF 0 F.LINE_GCFG.RANK rank), ((R.LINE_CFG 1).addr, 8192#32), ((R.LINE_STAT 1).addr, putF 0 F.LINE_STAT.STATE state)],
    line := { ports := [(1, { listening := listening })] } }

def cycleBy (rank unit : Nat) : CycFrame := { flags := 16 * rank, k := 0, cycle := 0, time := 0, unit := unit }

theorem wit_LinesComplete_foreignCycleStart_a : ∃ (s : State) (d : Dev) (p : Nat) (w : List (BitVec 8)) (f : CycFrame),
    s.start = d ∧ s.On ∧ p < 24 ∧ cycFrameOf w = some f ∧ f.unit ≠ Config.serial.toNat % 65536 ∧ d.nodes p ≠ 0 ∧ d.portState p = 1 ∧ (d.port p).listening = true := by
  rcases unit_other with h | h
  · exact ⟨{ dev := devHear 1 0 true }, devHear 1 0 true, 1, cycFrameBytes (cycleBy 0 0), cycleBy 0 0, rfl, by decide +kernel, by decide, by decide +kernel, h, by decide +kernel, by decide +kernel⟩
  · exact ⟨{ dev := devHear 1 0 true }, devHear 1 0 true, 1, cycFrameBytes (cycleBy 0 1), cycleBy 0 1, rfl, by decide +kernel, by decide, by decide +kernel, h, by decide +kernel, by decide +kernel⟩

theorem wit_LinesComplete_foreignCycleStart_b : ∃ (s : State) (d : Dev) (p : Nat) (w : List (BitVec 8)) (f : CycFrame),
    s.start = d ∧ s.On ∧ p < 24 ∧ cycFrameOf w = some f ∧ f.unit ≠ Config.serial.toNat % 65536 ∧ d.nodes p ≠ 0 ∧ sendingState (d.portState p) = true ∧ f.flags / 16 % 16 < d.fld R.LINE_GCFG F.LINE_GCFG.RANK := by
  rcases unit_other with h | h
  · exact ⟨{ dev := devHear 3 5 false }, devHear 3 5 false, 1, cycFrameBytes (cycleBy 2 0), cycleBy 2 0, rfl, by decide +kernel, by decide, by decide +kernel, h, by decide +kernel, by decide +kernel⟩
  · exact ⟨{ dev := devHear 3 5 false }, devHear 3 5 false, 1, cycFrameBytes (cycleBy 2 1), cycleBy 2 1, rfl, by decide +kernel, by decide, by decide +kernel, h, by decide +kernel, by decide +kernel⟩

theorem wit_LinesComplete_foreignCycleStart_c : ∃ (s : State) (d : Dev) (p : Nat) (w : List (BitVec 8)) (f : CycFrame),
    s.start = d ∧ s.On ∧ p < 24 ∧ cycFrameOf w = some f ∧ f.unit ≠ Config.serial.toNat % 65536 ∧ d.nodes p ≠ 0 ∧ sendingState (d.portState p) = true ∧ d.fld R.LINE_GCFG F.LINE_GCFG.RANK < f.flags / 16 % 16 := by
  rcases unit_other with h | h
  · exact ⟨{ dev := devHear 3 2 false }, devHear 3 2 false, 1, cycFrameBytes (cycleBy 5 0), cycleBy 5 0, rfl, by decide +kernel, by decide, by decide +kernel, h, by decide +kernel, by decide +kernel⟩
  · exact ⟨{ dev := devHear 3 2 false }, devHear 3 2 false, 1, cycFrameBytes (cycleBy 5 1), cycleBy 5 1, rfl, by decide +kernel, by decide, by decide +kernel, h, by decide +kernel, by decide +kernel⟩

def devPtp : Dev := { regs := [(R.TIME_PTP_CFG.addr, 4030726147#32)], time := { gm := some 5, syncSeq := some (1, 7, some 6), dreq := some (2, 9) } }

theorem wit_PtpComplete_ptpDelayResp : ∃ (s : State) (d : Dev) (m : PtpHdr) (resp : Nat × Int) (req : Nat) (t4 : Int) (q : Nat) (t1 t2 t3 : Int),
    s.start = d ∧ s.On ∧ resp = (req, t4) ∧ d.ptpFromGm m = true ∧ req = portIdentity m.port ∧ d.time.syncSeq = some (q, t2, some t1) ∧ d.time.dreq = some (m.seq, t3) :=
  ⟨{ dev := devPtp }, devPtp, { port := 0, trans := 1, domain := 3, sdoId := 15, src := 5, seq := 2 }, (portIdentity 0, 0), portIdentity 0, 0, 1, 6, 7, 9, rfl, by decide +kernel, rfl, by decide +kernel, rfl, by decide +kernel, by decide +kernel⟩

def devIp : Dev := { regs := [(R.HOST_STAT.addr, 0xFFFFFFFF#32)], host := { inForce := [((R.HOST_P_IP4 0).addr, 5#32)] } }

theorem wit_HostEventsComplete_arpRequest : ∃ (s : State) (d : Dev) (p : Nat) (v6 : Bool) (addr : Nat),
    s.start = d ∧ s.On ∧ p < 2 ∧ d.hostLink p = true ∧ d.ownAddr p v6 addr = true :=
  ⟨{ dev := devIp }, devIp, 0, false, 5, rfl, by decide +kernel⟩

theorem wit_HostEventsComplete_icmpEcho : ∃ (s : State) (d : Dev) (p : Nat) (v6 : Bool) (addr : Nat) (data : List (BitVec 8)),
    s.start = d ∧ s.On ∧ p < 2 ∧ d.hostLink p = true ∧ d.ownAddr p v6 addr = true :=
  ⟨{ dev := devIp }, devIp, 0, false, 5, [], rfl, by decide +kernel⟩

/-! ### Statements over any command, and the frames -/

theorem wit_StepRunsFront : ∃ (c : Instr) (rest : List Instr) (s : State), s.pending = c :: rest :=
  ⟨.mramTimeout, [], { pending := [.mramTimeout] }, rfl⟩

theorem wit_IdleClock : ∃ s : State, s.pending = [] := ⟨State.reset, rfl⟩

theorem wit_StepKeepsInv : ∃ s t : State, s.Inv ∧ step s = .next t := ⟨{ dev := { clk := 7 } }, _, by decide +kernel, rfl⟩

def devCtl : Dev := { host := { sess := [(0, { sessId := 7, ctl := true })] } }

theorem wit_NumbersRefused_a : ∃ (s : State) (i : Instr), s.On ∧ i.wf = false := ⟨{}, .linkUp 24, by decide⟩

theorem wit_NumbersRefused_b : ∃ (s : State) (ses addr : Nat) (r : Reg), s.On ∧ (tget? s.start.host.sess ses).any (fun x => x.ctl) = true ∧
    (tget? s.start.host.sess ses).isSome = true ∧ regAt addr = some r ∧ s.start.present r = false :=
  ⟨{ dev := devCtl }, 0, (R.AXIS_STAT 0).addr, R.AXIS_STAT 0, by decide +kernel⟩

theorem wit_NumbersRefused_c : ∃ (s : State) (ses addr : Nat), s.On ∧ (tget? s.start.host.sess ses).any (fun x => x.ctl) = true ∧
    (tget? s.start.host.sess ses).isSome = true ∧ regAt addr = none :=
  ⟨{ dev := devCtl }, 0, 3, by decide +kernel⟩

theorem wit_WarmResetRule_a : ∃ (s : State) (d : Dev) (ses : Nat) (w : Word), s.start = d ∧ s.On ∧ (tget? d.host.sess ses).any (fun x => x.ctl) = false ∧
    getF w F.SYS_RST_CTL.KEY = 0x5741 :=
  ⟨{ dev := {} }, {}, 0, putF 0 F.SYS_RST_CTL.KEY 0x5741, rfl, by decide +kernel⟩

theorem wit_WarmResetRule_b : ∃ (s : State) (d : Dev) (ses : Nat) (w : Word), s.start = d ∧ s.On ∧ d.MayWrite ses R.SYS_RST_CTL ∧
    getF w F.SYS_RST_CTL.KEY ≠ 0x5741 :=
  ⟨{ dev := devCtl }, devCtl, 0, 0, rfl, by decide +kernel⟩

def devAxis : Dev :=
  { devCtl with regs := [((R.AXIS_STAT 0).addr, putF 0 F.AXIS_STAT.STATE 2)],
                loader := { image := some { axes := [{ axis := 0, kind := 0, k := 0, bind := 0, group := 0, arm := 0, joint := 0, fb := 0, sp := 0, law := 0 }] } } }

theorem wit_WarmResetRule_c : ∃ (s : State) (d : Dev) (ses : Nat) (w : Word), s.start = d ∧ s.On ∧ d.MayWrite ses R.SYS_RST_CTL ∧
    getF w F.SYS_RST_CTL.KEY = 0x5741 ∧ d.anyEnabled = true ∧ d.bit R.SYS_PF_STAT F.SYS_PF_STAT.PFW = false :=
  ⟨{ dev := devAxis }, devAxis, 0, putF 0 F.SYS_RST_CTL.KEY 0x5741, rfl, by decide +kernel⟩

theorem wit_WarmResetRule_d : ∃ (s : State) (d : Dev) (ses : Nat) (w : Word), s.start = d ∧ s.On ∧ d.MayWrite ses R.SYS_RST_CTL ∧
    getF w F.SYS_RST_CTL.KEY = 0x5741 ∧ d.anyEnabled = false ∧ d.bit R.SYS_PF_STAT F.SYS_PF_STAT.PFW = false ∧ d.sys.resetDue = none :=
  ⟨{ dev := devCtl }, devCtl, 0, putF 0 F.SYS_RST_CTL.KEY 0x5741, rfl, by decide +kernel⟩

theorem wit_WarmResetRule_e : ∃ (s : State) (d : Dev) (t : Nat), s.start = d ∧ s.On ∧ d.sys.resetDue = some t ∧ t ≤ d.clk ∧ d.wdExpired = false :=
  ⟨{ dev := { sys := { resetDue := some 0 } } }, { sys := { resetDue := some 0 } }, 0, rfl, by decide +kernel⟩

theorem wit_WarmResetRule_f : ∃ (s : State) (d : Dev) (t : Nat), s.start = d ∧ s.On ∧ d.sys.resetDue = some t ∧ d.clk < t :=
  ⟨{ dev := { sys := { resetDue := some 1 } } }, { sys := { resetDue := some 1 } }, 1, rfl, by decide +kernel⟩

theorem wit_OwnerHashRule : ∃ (d : Dev) (ses : Nat) (m : List Byte), uAt m 0 2 = 0x0F33 ∧ uAt m 2 1 = 1 ∧ m.length = 64 ∧
    d.isStandby = false ∧ d.handingOver = false ∧ (msgBlk 0x0F33).all (fun b => d.blkOn b) = true ∧ (d.execMsg ses m).2.1 = .ok :=
  ⟨devCtl, 0, [51#8, 15#8, 1#8] ++ List.replicate 61 1#8, by decide +kernel⟩

/-- Every frame speaks of the next state, and every command answers one. -/
theorem wit_Frames : ∃ (s : State), (∃ t, exec .extRefLost s = .next t) ∧ (∃ t, exec .listenExpiry s = .next t) ∧ (∃ t, exec .bootCheckComplete s = .next t) ∧
    (∃ t, exec (.go 0 0 0) s = .next t) ∧ (∃ t, exec .ackInputEdge s = .next t) ∧ (∃ t, exec .mramTimeout s = .next t) ∧
    (∃ t, exec .debugRequest s = .next t) :=
  ⟨{ dev := devCtl }, ⟨_, rfl⟩, ⟨_, rfl⟩, ⟨_, rfl⟩, ⟨_, rfl⟩, ⟨_, rfl⟩, ⟨_, rfl⟩, ⟨_, rfl⟩⟩

theorem wit_TimeFrame : ∃ addr1 addr2 addr3 : Nat, ∃ (r : Reg) (h : RegName), (regAt addr1).all (fun r => r.name.quiet) = true ∧
    (regAt addr2).all (fun r => r.name.isHi) = true ∧ regAt addr3 = some r ∧ r.name.hi? = some h ∧
    r.name ∈ [RegName.AXIS_MOT_TGT_LO, .AXIS_VL_MIN_LO, .AXIS_VL_MAX_LO, .AXIS_GEAR_AT_LO] :=
  ⟨(R.AXIS_QDEC 3).addr, (R.AXIS_MOT_TGT_HI 3).addr, (R.AXIS_MOT_TGT_LO 3).addr, R.AXIS_MOT_TGT_LO 3, .AXIS_MOT_TGT_HI, by decide +kernel⟩

def devMsg (m : List Byte) : Dev :=
  { host := { sess := [(0, { sessId := 7, ctl := true })], queues := [(0, { slot := 0, depth := 0, respQ := 64, stored := [m] }), (64, { slot := 0, depth := 1 })] } }

def writeMsg : List Byte := [17#8, 15#8, 2#8] ++ List.replicate 13 0#8 ++ le 4 (R.CE_MEM_ADDR 0).addr ++ [1#8] ++ List.replicate 107 0#8

def rmwMsg : List Byte := [18#8, 15#8, 1#8] ++ List.replicate 13 0#8 ++ le 4 (R.CE_MEM_ADDR 0).addr ++ List.replicate 44 0#8

theorem wit_UnitFrame_a : ∃ (s : State) (m : List Byte) (x : Queue) (r : Reg), s.start.Executes 0x0F11 1 m x ∧ uAt m 20 2 = 1 ∧ uAt m 16 4 = r.addr ∧
    r.name.quiet = true :=
  ⟨{ dev := devMsg writeMsg }, writeMsg, { slot := 0, depth := 0, respQ := 64, stored := [writeMsg] }, R.CE_MEM_ADDR 0, by decide +kernel⟩

theorem wit_UnitFrame_b : ∃ (s : State) (m : List Byte) (x : Queue) (r : Reg), s.start.Executes 0x0F12 1 m x ∧ uAt m 16 4 = r.addr ∧ r.name.quiet = true :=
  ⟨{ dev := devMsg rmwMsg }, rmwMsg, { slot := 0, depth := 0, respQ := 64, stored := [rmwMsg] }, R.CE_MEM_ADDR 0, by decide +kernel⟩

/-! ### Well-formedness: each check refuses a number beyond its limit -/

theorem test_wf_1 :
    (Instr.cmpArm 0 64 0).wf = false ∧
    (Instr.linkUp 24).wf = false ∧
    (Instr.slotArrival 24 0 { e := 0, nextE := none, wire := [] }).wf = false ∧
    (Instr.slotArrival 0 6144 { e := 0, nextE := none, wire := [] }).wf = false ∧
    (Instr.cycleMark 24 0).wf = false ∧
    (Instr.cycleMark 0 16).wf = false ∧
    (Instr.grpReq 0 256 0).wf = false ∧
    (Instr.paramsWrite 0 16 0 0 0).wf = false ∧
    (Instr.paramsWrite 0 0 2 0 0).wf = false ∧
    (Instr.taskRelease 4096 []).wf = false ∧
    (Instr.bundleIssue 16 none).wf = false ∧
    (Instr.breakpointSet 16 0).wf = false ∧
    (Instr.breakpointSet 0 32768).wf = false ∧
    (Instr.axisEnable 0 8192 0).wf = false ∧
    (Instr.lawWrite 0 8192 0 0).wf = false ∧
    (Instr.lawWrite 0 0 3 0).wf = false ∧
    (Instr.filterCommit 0 8192 0 0).wf = false := by decide

theorem test_wf_2 :
    (Instr.filterCommit 0 0 8 0).wf = false ∧
    (Instr.reloadSample 8).wf = false ∧
    (Instr.pwmCmpLoWrite 0 96 0).wf = false ∧
    (Instr.tripActive 8 0 false).wf = false ∧
    (Instr.tripActive 0 4 false).wf = false ∧
    (Instr.sdLoss 8 0).wf = false ∧
    (Instr.sdLoss 0 13).wf = false ∧
    (Instr.quadTransition 32 false false).wf = false ∧
    (Instr.probeEdge 16 false).wf = false ∧
    (Instr.remoteEncoderCycle 256).wf = false ∧
    (Instr.trkMasterLost 256).wf = false ∧
    (Instr.vmRunWrite 0 64 0).wf = false ∧
    (Instr.pathPeriod 12).wf = false ∧
    (Instr.commitMeasure 262144).wf = false ∧
    (Instr.tackReceived 8192 0).wf = false ∧
    (Instr.itemWinRead 0 16).wf = false ∧
    (Instr.tallEcc false 262144).wf = false := by decide

theorem test_wf_3 :
    (Instr.processorFault 0).wf = false ∧
    (Instr.processorFault 8).wf = false ∧
    (Instr.safetyFragment 256).wf = false ∧
    (Instr.bankOff 4).wf = false ∧
    (Instr.eventReceived 65536 0 0 [] []).wf = false ∧
    (Instr.eventReceived 0 8 0 [] []).wf = false ∧
    (Instr.evtWinRead (16, 0) false).wf = false ∧
    (Instr.evtWinRead (0, 16) false).wf = false ∧
    (Instr.imageEraseDone 2).wf = false ∧
    (Instr.bulkIdleTimeout 4 0).wf = false ∧
    (Instr.ackTimeout 128).wf = false ∧
    (Instr.fanFailure 3).wf = false ∧
    (Instr.sfpInserted 3 0).wf = false ∧
    (Instr.safeDiagComplete 8).wf = false ∧
    (Instr.hostLinkUp 2).wf = false := by decide

theorem test_wf_accepts : (Instr.cmpArm 0 63 0).wf = true ∧ (Instr.linkUp 23).wf = true ∧ (Instr.eventReceived 65535 7 0 [] []).wf = true ∧
    (Instr.processorFault 7).wf = true := by decide

/-! ### Worked values of the spec -/

/-- No row of the table has a word, so nothing is decoded and withFetchWord leaves the queue alone. -/
theorem test_no_words : decodeTableWord 32 0 = none ∧ (State.reset.withFetchWord 32 0).pending = [] := by decide +kernel

/-- R44, R65: the example of the time base: a stamp of 0x0000_2A10 lies 14,864 ns after 0xFFFF_F000. -/
theorem test_stamp_difference : tsDiff 0x00002A10#32 0xFFFFF000#32 = 14864 := by decide +kernel

/-- R73: the example of the line rings: with 438 nodes U0 is 56,488 ns and UE 196,648 ns. -/
theorem test_slot_times : slotsStart 438 = 56488 ∧ slotsEnd 438 = 196648 := by decide

/-- R160: the example of the control engines: MOVA with SCALE = +1 of the three products. -/
theorem test_mova : movA (2 * 1610612736 * 858993459) 1 = (1288490188, false) ∧ (movA (2 * 1610612736 * 1717986918) 1).2 = true ∧
    movA (-(2 * 1610612736 * 858993459)) 1 = (-1288490189, false) := by decide +kernel

/-- R241: the example of the minimum pulse: MINP 250 ns, a command of 160 ns at 32 kHz; the first four periods, in taps of 1/32 ns. -/
theorem test_min_pulse : (minPulse 1000000 8000 5056 5120 0).hApp = 8000 ∧ (minPulse 1000000 8000 5056 5120 0).acc = -2880 ∧
    (minPulse 1000000 8000 5056 5120 (-2880)).hApp = 0 ∧ (minPulse 1000000 8000 5056 5120 (-2880)).acc = 2240 ∧
    (minPulse 1000000 8000 5056 5120 2240).acc = -640 ∧ (minPulse 1000000 8000 5056 5120 (-640)).acc = -3520 := by decide +kernel

/-- R473, R480: the timing words of the example of the CAN channels are accepted. -/
theorem test_can_timing : lowest (State.reset.dev.regCheck (R.CAN_NBT 3) 0 0x0213CA14 0x0213CA14) = .ok ∧
    lowest (State.reset.dev.regCheck (R.CAN_DBT 3) 0 0x11329450 0x11329450) = .ok := by decide +kernel

/-! ### Single steps -/

/-- Whether the state that a command answers from `s` has `p`. -/
def after (i : Instr) (s : State) (p : Dev → Bool) : Bool :=
  match exec i s with
  | .next t => p t.dev
  | _ => false

theorem test_idle_clock : (match step State.reset with | .next t => t.dev.clk == 1 | _ => false) = true := by decide +kernel

theorem test_step_runs_front : (match step { dev := devCtl, pending := [.linkUp 3, .linkUp 4] } with
    | .next t => t.pending == [.linkUp 4] && (t.dev.port 3).linkUp && !(t.dev.port 4).linkUp | _ => false) = true := by decide +kernel

/-- R622: a write of another key is refused with BADARG and asks for no reset. -/
theorem test_warm_reset_key : after (.warmResetReq 0 0x1234) { dev := devCtl } (fun e => e.out.head? == some (.status .badArg) && e.sys.resetDue == none) =
    true := by decide +kernel

/-- R9: a half of a pair written by a session is held until its _LO register is written. -/
theorem test_hi_held : after (.hiWriteHold 0 (R.AXIS_MOT_TGT_HI 0).addr 9) { dev := devAxis } (fun e =>
    e.pairI (R.AXIS_MOT_TGT_LO 0) (R.AXIS_MOT_TGT_HI 0) == 0 && ((tget? e.host.sess 0).bind (fun x => tget? x.held (R.AXIS_MOT_TGT_HI 0).addr)) == some 9#32) =
    true := by decide +kernel

theorem test_pair_commits : after (.loWriteCommit 0 (R.AXIS_MOT_TGT_LO 0).addr 5) { dev := { devAxis with
    host := { sess := [(0, { sessId := 7, ctl := true, held := [((R.AXIS_MOT_TGT_HI 0).addr, 9#32)] })] } } } (fun e =>
    e.pairI (R.AXIS_MOT_TGT_LO 0) (R.AXIS_MOT_TGT_HI 0) == 9 * 2 ^ 32 + 5) = true := by decide +kernel

/-- R8, R20: a register of an axis that no image configures answers NOTREADY. -/
theorem test_not_configured : after (.loReadLatch 0 (R.AXIS_STAT 0).addr) { dev := devCtl } (fun e => e.out.head? == some (.word .notReady 0)) = true := by
  decide +kernel

end Sys2Proof.Tests
end

namespace Sys2Proof.Machine

/-! ### Every step has a next state -/

/-- R14: whatever the command and the state, a command answers a next state: its row runs an effect on the device. -/
theorem exec_next (i : Instr) (s : State) : ∃ t, exec i s = .next t := by
  cases i <;> exact ⟨_, rfl⟩

/-- Settles O3: a clock that passes and a command that runs both answer a next state. -/
theorem stepAlwaysNext : Obligations.StepAlwaysNext := by
  intro s
  unfold step
  split
  · exact ⟨_, rfl⟩
  · exact exec_next _ _

end Sys2Proof.Machine

namespace Sys2Proof.Machine

/-! ### A command that reports no event -/

/-- With no event raised, the Bureau takes nothing, and the device stays as it is (R520). -/
theorem flush_of_no_event (d : Dev) (h : d.evq = []) : d.flush = d := by
  have ho : d.evOrder = [] := by simp [Dev.evOrder, evSort, h]
  have hs : d.sinkAll 6 ⟨d.bureau, d.host, d.cap.met, d.out⟩ d.evOrder = ⟨d.bureau, d.host, d.cap.met, d.out⟩ := by
    rw [ho]
    rfl
  unfold Dev.flush
  rw [hs]
  simp [Dev.countTx, Dev.each, ← h]

theorem gatesFollow_host (d : Dev) : d.gatesFollow.host = d.host := by
  unfold Dev.gatesFollow Dev.each
  generalize d.pwm.legs.map (·.1) = ks
  induction ks generalizing d with
  | nil => rfl
  | cons l rest ih =>
    rw [List.foldl_cons, ih]
    unfold Dev.gateFollows
    dsimp only
    split <;> rfl

theorem linkServe_host (start fuel : Nat) : ∀ d : Dev, (d.linkServe start fuel).host = d.host := by
  induction fuel with
  | zero => exact fun _ => rfl
  | succ n ih =>
    intro d
    unfold Dev.linkServe
    split
    · rfl
    · split
      · rfl
      · split
        · rfl
        · exact ih _

/-- What follows from the state leaves the host interface alone. -/
theorem settle_host (d : Dev) : d.settle.host = d.host := by
  obtain ⟨-, -, -, -, hb, -⟩ := bootArm_kept d
  obtain ⟨-, -, -, -, hp, -⟩ := selectPower_kept d.bootArm
  unfold Dev.settle Dev.linkFollows
  rw [linkServe_host, gatesFollow_host, hp, hb]

theorem settle_evq (d : Dev) : d.settle.evq = d.evq := by
  obtain ⟨-, -, hb, -⟩ := bootArm_kept d
  obtain ⟨-, -, hp, -⟩ := selectPower_kept d.bootArm
  obtain ⟨-, -, hg, -⟩ := gatesFollow_kept d.bootArm.selectPower
  unfold Dev.settle Dev.linkFollows
  obtain ⟨-, -, hl, -⟩ := linkServe_kept d.bootArm.selectPower.gatesFollow.clk d.bootArm.selectPower.gatesFollow.link.q.length
    d.bootArm.selectPower.gatesFollow
  rw [hl, hg, hp, hb]

/-- What follows from the state changes no register but PWR_STAT and FAB_IMG_STAT (R142, R608). -/
theorem settle_reg (d : Dev) {r : Reg} (h1 : r.addr ≠ R.PWR_STAT.addr) (h2 : r.addr ≠ R.FAB_IMG_STAT.addr) :
    d.settle.reg r = d.reg r := by
  obtain ⟨-, -, -, -, -, -, -, -, hb⟩ := bootArm_kept d
  obtain ⟨-, -, -, -, -, -, -, hp⟩ := selectPower_kept d.bootArm
  obtain ⟨-, -, -, -, -, hg⟩ := gatesFollow_kept d.bootArm.selectPower
  unfold Dev.settle Dev.linkFollows
  obtain ⟨-, -, -, -, -, hl⟩ := linkServe_kept d.bootArm.selectPower.gatesFollow.clk d.bootArm.selectPower.gatesFollow.link.q.length
    d.bootArm.selectPower.gatesFollow
  rw [Dev.reg_congr hl, Dev.reg_congr hg, hp r h1, hb r h2]

/-- What follows the effect of a command that raised no event: besides `Follows`, the host interface stands, and the counters of the
datagrams sent with it. -/
structure FollowsIdle (d e : Dev) : Prop extends Follows d e where
  host : e.host = d.host
  regs : ∀ r : Reg, r.addr ≠ R.PWR_STAT.addr → r.addr ≠ R.FAB_IMG_STAT.addr → e.reg r = d.reg r

theorem post_followsIdle (d : Dev) (h : d.evq = []) : FollowsIdle d d.settle.flush.seal := by
  have hf : d.settle.flush = d.settle := flush_of_no_event _ ((settle_evq d).trans h)
  refine ⟨post_follows d, ?_, fun r h1 h2 => ?_⟩
  · rw [hf]
    exact settle_host d
  · rw [hf]
    exact (tget_tabNorm _ _ _).trans (settle_reg d h1 h2)

/-- A command whose effect `f` raises no event completes with every `P` that follows from that effect. -/
theorem runs_of_no_event {i : Instr} {s : State} {f : Dev → Dev} {P : Dev → Prop} (hi : exec i s = s.run f) (hon : s.On)
    (he : (f s.start).evq = []) (hP : ∀ e, FollowsIdle (f s.start) e → P e) : Runs i s P := by
  have hf : (if s.start.sys.off then s.start else f s.start) = f s.start := if_neg (by simp [hon])
  refine ⟨_, hi, rfl, hP _ ?_⟩
  show FollowsIdle (f s.start) (if s.start.sys.off then s.start else f s.start).settle.flush.seal
  rw [hf]
  exact post_followsIdle _ he

/-- What a command put out first is the first thing put out. -/
theorem Follows.head_out {d e : Dev} {o : Out} (h : Follows d e) (ho : d.out = [o]) : e.out.head? = some o := by
  obtain ⟨l, hl⟩ := h.out
  rw [hl, ho]
  rfl

/-! ### Reads -/

/-- The registers of which a read does more than R9 says of every register. -/
def RegName.readActs (n : RegName) : Bool :=
  [RegName.EVT_WIN, .TALL_ITEM_WIN, .SEC_MS, .FBK_PRB_POS, .DIO_CAP_STAT, .CE_MEM_DATA].contains n

theorem readReg_plain (d : Dev) {r : Reg} (h : r.name.readActs = false) : d.readReg r = (d.clearRead r, d.view r) := by
  unfold Dev.readReg
  split
  case h_7 => rfl
  all_goals
    rename_i hn
    rw [hn] at h
    exact absurd h (by decide)

/-- A register whose read acts is neither a counter that a read clears nor the _LO half of a pair. -/
theorem RegName.of_readActs {n : RegName} (h : n.readActs = true) : n.info.cor = false ∧ n.hi? = none := by
  simp only [RegName.readActs, List.contains_eq_mem, List.mem_cons, List.not_mem_nil, or_false, decide_eq_true_eq] at h
  rcases h with rfl | rfl | rfl | rfl | rfl | rfl <;> exact ⟨rfl, rfl⟩

/-- A counter that a read clears is no half of a pair. -/
theorem RegName.no_half_of_cor {n : RegName} (h : n.info.cor = true) : n.hi? = none ∧ n.isHi = false := by
  constructor
  · unfold RegName.hi?
    split
    case h_17 => rfl
    all_goals exact absurd h (by decide)
  · unfold RegName.isHi
    split
    case h_17 => rfl
    all_goals exact absurd h (by decide)

/-- The fields that a read clears stand in registers: nothing else changes. -/
theorem clearRead_regs (d : Dev) (r : Reg) : ∃ g, d.clearRead r = { d with regs := g } := by
  have hf (l : List FldInfo) : ∀ e : Dev, (∃ g, e = { d with regs := g }) →
      ∃ g, l.foldl (fun e f => if f.acc == .roc then e.setFld r ⟨f.hi, f.lo⟩ 0 else e) e = { d with regs := g } := by
    induction l with
    | nil => exact fun _ h => h
    | cons f rest ih =>
      rintro _ ⟨g, rfl⟩
      rw [List.foldl_cons]
      split
      · exact ih _ ⟨_, rfl⟩
      · exact ih _ ⟨g, rfl⟩
  unfold Dev.clearRead
  dsimp only
  split
  · exact ⟨_, rfl⟩
  · exact hf _ d ⟨d.regs, rfl⟩

/-- A register-read row on a register that the session may read. -/
theorem hostRead_ok (d : Dev) {ses : Nat} {r : Reg} (hm : d.MayRead ses r) :
    d.hostRead ses r.addr = (d.readFor ses r).1.emit (.word .ok (d.readFor ses r).2) := by
  obtain ⟨hs, hr⟩ := hm
  have hn : (tget? d.host.sess ses).isNone = false := by simpa using hs
  have hr' : d.reach r.addr = (.ok, some r) := hr
  simp [Dev.hostRead, Dev.readAddr, hn, hr']

/-- A session's read of a _LO register latches the present _HI half (R8). -/
theorem readFor_lo (d : Dev) {ses : Nat} {x : Session} {r : Reg} {h : RegName} (hx : tget? d.host.sess ses = some x)
    (hh : r.name.hi? = some h) :
    ∃ g, d.readFor ses r = (({ d with regs := g } : Dev).setSess ses
      { x with latch := tset x.latch (Reg.addr { r with name := h }) (d.view { r with name := h }) }, d.view r) := by
  have hp : r.name.readActs = false := Bool.eq_false_iff.2 fun ha => by simp [(RegName.of_readActs ha).2] at hh
  obtain ⟨g, hg⟩ := clearRead_regs d r
  refine ⟨g, ?_⟩
  simp only [Dev.readFor, hx, hh, readReg_plain d hp, hg, Dev.setSess]

/-- A session's read of a counter clears it (R9). -/
theorem readFor_cor (d : Dev) {ses : Nat} {x : Session} {r : Reg} (hx : tget? d.host.sess ses = some x)
    (hc : r.name.info.cor = true) : d.readFor ses r = (d.setReg r r.name.info.resetWord, d.view r) := by
  obtain ⟨h1, h2⟩ := RegName.no_half_of_cor hc
  have hp : r.name.readActs = false := Bool.eq_false_iff.2 fun ha => by simp [(RegName.of_readActs ha).1] at hc
  simp [Dev.readFor, hx, h1, h2, readReg_plain d hp, Dev.clearRead, hc]

/-! ### Writes -/

theorem quiet_elim {n m : RegName} {α : Prop} (hq : n.quiet = true) (h : n = m) (hm : m.quiet = false) : α := by
  subst h
  simp [hq] at hm

theorem axisDo_quiet (d : Dev) {r : Reg} (old new w : Word) (hq : r.name.quiet = true) : d.axisDo r old new w = d := by
  unfold Dev.axisDo
  split
  case h_9 => rfl
  all_goals exact quiet_elim hq ‹r.name = _› (by decide)

theorem plantDo_quiet (d : Dev) {r : Reg} (old w : Word) (hq : r.name.quiet = true) : d.plantDo r old w = d := by
  unfold Dev.plantDo
  split
  case h_17 => rfl
  all_goals exact quiet_elim hq ‹r.name = _› (by decide)

theorem netDo_quiet (d : Dev) {r : Reg} (old new w : Word) (hq : r.name.quiet = true) : d.netDo r old new w = d := by
  unfold Dev.netDo
  split
  case h_15 => rfl
  all_goals exact quiet_elim hq ‹r.name = _› (by decide)

theorem unitDo_quiet (d : Dev) (ses : Nat) {r : Reg} (w : Word) (hq : r.name.quiet = true) : d.unitDo ses r w = d := by
  unfold Dev.unitDo
  split
  case h_13 => rfl
  all_goals exact quiet_elim hq ‹r.name = _› (by decide)

/-- A write of a quiet register starts nothing. -/
theorem regDo_quiet (d : Dev) (ses : Nat) {r : Reg} (old new w : Word) (hq : r.name.quiet = true) : d.regDo ses r old new w = d := by
  simp only [Dev.regDo, axisDo_quiet d old new w hq, plantDo_quiet d old w hq, netDo_quiet d old new w hq, unitDo_quiet d ses w hq]
  split <;> rfl

/-- A quiet register is no half of a pair, is not read only, and its write answers by the common rule. -/
theorem plainName_of_quiet {n : RegName} (hq : n.quiet = true) : plainName n = true := by
  have h1 : n ≠ .CAP_CTL := by
    rintro rfl
    exact absurd hq (by decide)
  have h2 : n ≠ .FLT_CFG := by
    rintro rfl
    exact absurd hq (by decide)
  simp only [RegName.quiet, Bool.and_eq_true] at hq
  obtain ⟨⟨⟨hr, hh⟩, hl⟩, -⟩ := hq
  simp [plainName, h1, h2, hr, hh, hl]

/-- An accepted write of a quiet register leaves the merged word in it, whether or not it changes the register (R661). -/
theorem hostWrite_quiet (d : Dev) {ses : Nat} {r : Reg} {w : Word} (hq : r.name.quiet = true) (hm : d.MayWrite ses r)
    (hw : d.WriteOk r w) : ∃ g, d.hostWrite ses r w = ({ d with regs := g } : Dev).answer .ok ∧
      ({ d with regs := g } : Dev).reg r = d.written r w := by
  have hp := plainName_of_quiet hq
  by_cases ha : d.written r w ≠ d.reg r ∨ writeActs r.name.info w = true ∨ r.name.everyWrite = true
  · refine ⟨_, ?_, Dev.reg_setReg_same d r _⟩
    rw [hostWrite_ok d ses r w hm ha hw hp, regDo_quiet _ _ _ _ _ hq]
    rfl
  · simp only [not_or, ne_eq, not_not, Bool.not_eq_true] at ha
    obtain ⟨h1, h2, h3⟩ := ha
    exact ⟨d.regs, hostWrite_same d ses r w hm h1 h2 h3 hp, h1.symm⟩

/-- A write by a session that may write the register is that session's write, whatever the register (R571, R579). -/
theorem writeAddr_of_mayWrite (d : Dev) {ses : Nat} {r : Reg} (w : Word) (hm : d.MayWrite ses r) :
    ∃ x, tget? d.host.sess ses = some x ∧ d.writeAddr ses r.addr w = d.writeFor ses x r w := by
  obtain ⟨hc, hsb, hho, -, hre⟩ := hm
  obtain ⟨x, hx, hctl⟩ := (Option.any_eq_true _ _).1 hc
  have hg : lowest [need x.ctl .denied, need (!d.isStandby || standbyMay r w) .denied, need (!d.handingOver) .busy, .ok] = .ok := by
    simp [hctl, hsb, hho, need, lowest]
  refine ⟨x, hx, ?_⟩
  unfold Dev.writeAddr
  rw [hx, reach_regAt d hre, hre]
  dsimp only
  rw [if_pos hg]

theorem setHeld_of_session (d : Dev) {ses : Nat} {x : Session} (t : Tab Word) (hx : tget? d.host.sess ses = some x) :
    d.setHeld ses t = d.setSess ses { x with held := t } := by
  unfold Dev.setHeld
  rw [hx]
  rfl

/-- A session's write of a writable _HI register is held (R8); the half of a leg's pair only while software commands the leg (R235). -/
theorem writeFor_hi (d : Dev) {ses : Nat} {x : Session} {r : Reg} (w : Word) (hx : tget? d.host.sess ses = some x)
    (hh : r.name.isHi = true) (hr : r.name.info.readOnly = false)
    (hl : r.name = .PWM_CMP_HI → d.bit (R.PWM_LEG_CFG r.i r.j) F.PWM_LEG_CFG.SRC = true) :
    d.writeFor ses x r w = (d.setSess ses { x with held := tset x.held r.addr w }, .ok) := by
  have hc : (r.name == .PWM_CMP_HI && !d.bit (R.PWM_LEG_CFG r.i r.j) F.PWM_LEG_CFG.SRC) = false := by
    by_cases hn : r.name = .PWM_CMP_HI
    · simp [hl hn]
    · simp [hn]
  simp only [Dev.writeFor, hh, hr, hc, if_true, Bool.false_eq_true, if_false, setHeld_of_session d _ hx]

/-- The upper half of a leg's pair is refused while the fabric commands the leg (R235). -/
theorem writeFor_legHi (d : Dev) {ses : Nat} {x : Session} {r : Reg} (w : Word) (hn : r.name = .PWM_CMP_HI)
    (hl : d.bit (R.PWM_LEG_CFG r.i r.j) F.PWM_LEG_CFG.SRC = false) : d.writeFor ses x r w = (d, .conflict) := by
  simp [Dev.writeFor, hn, hl, RegName.isHi, show RegName.PWM_CMP_HI.info.readOnly = false from by decide]

/-! ### Pairs -/

/-- A 64-bit number that was read as signed wraps back to itself. -/
theorem modN_signed {n : Nat} (h : n < 2 ^ 64) : modN 64 (signed 64 n) = n := by
  unfold modN signed
  split <;> omega

theorem pairI_setPair (d : Dev) {lo hi : Reg} (h : lo.addr ≠ hi.addr) {n : Nat} (hn : n < 2 ^ 64) :
    (d.setPair lo hi (signed 64 n)).pairI lo hi = signed 64 n := by
  have hl : (d.setPair lo hi (signed 64 n)).reg lo = wN n := by
    simp only [Dev.setPair, modN_signed hn]
    rw [Dev.reg_setReg_other _ _ (Ne.symm h), Dev.reg_setReg_same]
  have hh : (d.setPair lo hi (signed 64 n)).reg hi = wN (n / 2 ^ 32) := by
    simp only [Dev.setPair, modN_signed hn, Dev.reg_setReg_same]
  have hs : (wN n).toNat + 2 ^ 32 * (wN (n / 2 ^ 32)).toNat = n := by
    simp only [wN, BitVec.toNat_ofNat]
    omega
  rw [Dev.pairI, Dev.pair, hl, hh, hs]

/-- The pairs whose commit is no more than their two words (R8). -/
def plainPairs : List RegName := [.AXIS_MOT_TGT_LO, .AXIS_VL_MIN_LO, .AXIS_VL_MAX_LO, .AXIS_GEAR_AT_LO]

theorem plainPair_hi {n h : RegName} (hn : n ∈ plainPairs) (hh : n.hi? = some h) (i j : Nat) :
    Reg.addr ⟨h, i, j⟩ = Reg.addr ⟨n, i, j⟩ + 4 := by
  simp only [plainPairs, List.mem_cons, List.not_mem_nil, or_false] at hn
  rcases hn with rfl | rfl | rfl | rfl <;> cases hh <;> simp [Reg.addr, RegName.info] <;> omega

theorem plainPair_write {r : Reg} (hn : r.name ∈ plainPairs) (d : Dev) (hi : Reg) (v : Int) :
    r.name.isHi = false ∧ r.name.info.readOnly = false ∧ d.presentHi r hi = d.reg hi ∧ d.pairDo r hi v = d.setPair r hi v := by
  obtain ⟨n, i, j⟩ := r
  simp only [plainPairs, List.mem_cons, List.not_mem_nil, or_false] at hn
  rcases hn with rfl | rfl | rfl | rfl <;> exact ⟨rfl, rfl, rfl, rfl⟩

/-- A commit of a pair that is no more than its two words leaves the value committed in them (R8). -/
theorem writePair_plain (d : Dev) {r hi : Reg} (w wh : Word) (hn : r.name ∈ plainPairs) (ha : r.addr ≠ hi.addr)
    (hs : d.inSwitch = false) (hc : lowest (d.pairCheck r (signed 64 (w.toNat + 2 ^ 32 * wh.toNat))) = .ok) :
    ∃ g, d.writePair false r hi w wh = ({ d with regs := g }, .ok) ∧
      ({ d with regs := g } : Dev).pairI r hi = signed 64 (w.toNat + 2 ^ 32 * wh.toNat) := by
  obtain ⟨-, hr, -, hp⟩ := plainPair_write hn d hi (signed 64 (w.toNat + 2 ^ 32 * wh.toNat))
  have hg : lowest (need (false || !d.inSwitch || !switchBlks.contains (blkOf r.addr)) .busy ::
      d.pairCheck r (signed 64 (w.toNat + 2 ^ 32 * wh.toNat))) = .ok := by
    simp only [hs, need, Bool.not_false, Bool.or_true, Bool.true_or, if_true, lowest, hc]
  unfold Dev.writePair
  dsimp only
  rw [if_neg (by simp [hr]), if_pos hg, hp]
  split
  · rename_i hsame
    simp only [Bool.and_eq_true, beq_iff_eq] at hsame
    obtain ⟨⟨-, hlo⟩, hhi⟩ := hsame
    exact ⟨d.regs, rfl, by rw [← hlo, ← hhi]; rfl⟩
  · exact ⟨_, rfl, pairI_setPair d ha (by omega)⟩

/-- A session's write of the _LO half of such a pair commits it with the half held, and the held half is used up (R8). -/
theorem writeFor_plainPair (d : Dev) {ses : Nat} {x : Session} {r : Reg} {h : RegName} (w : Word)
    (hx : tget? d.host.sess ses = some x) (hn : r.name ∈ plainPairs) (hh : r.name.hi? = some h) (hs : d.inSwitch = false)
    (hc : lowest (d.pairCheck r (d.pairValue ses r { r with name := h } w)) = .ok) :
    ∃ g, d.writeFor ses x r w = (({ d with regs := g } : Dev).setSess ses { x with held := tdel x.held (Reg.addr { r with name := h }) }, .ok) ∧
      ({ d with regs := g } : Dev).pairI r { r with name := h } = d.pairValue ses r { r with name := h } w := by
  have ha : r.addr ≠ Reg.addr { r with name := h } := by
    have : Reg.addr { r with name := h } = r.addr + 4 := plainPair_hi hn hh r.i r.j
    omega
  have hv : d.pairValue ses r { r with name := h } w =
      signed 64 (w.toNat + 2 ^ 32 * ((tget? x.held (Reg.addr { r with name := h })).getD (d.presentHi r { r with name := h })).toNat) := by
    simp only [Dev.pairValue, hx, Option.bind_some]
  obtain ⟨hi, -, -, -⟩ := plainPair_write hn d { r with name := h } 0
  rw [hv] at hc
  obtain ⟨g, hg, hp⟩ := writePair_plain d w _ hn ha hs hc
  refine ⟨g, ?_, hp.trans hv.symm⟩
  simp only [Dev.writeFor, hi, hh, hg, Bool.false_eq_true, if_false, if_true]
  rw [setHeld_of_session ({ d with regs := g } : Dev) _ hx]

/-! ### Registers that a command's end does not touch -/

theorem regAt_PWR_STAT : regAt R.PWR_STAT.addr = some R.PWR_STAT := by decide +kernel

theorem regAt_FAB_IMG_STAT : regAt R.FAB_IMG_STAT.addr = some R.FAB_IMG_STAT := by decide +kernel

/-- A register that the address map gives stands at an address of its own. -/
theorem addr_ne_of_name_ne {q r : Reg} (hq : regAt q.addr = some q) (hr : regAt r.addr = some r) (hn : r.name ≠ q.name) :
    r.addr ≠ q.addr := by
  intro ha
  rw [ha, hq] at hr
  exact hn (congrArg Reg.name (Option.some.inj hr)).symm

theorem FollowsIdle.reg_of_reach {d e : Dev} (h : FollowsIdle d e) {c : Dev} {r : Reg} (hr : c.Reachable r) (h1 : r.name ≠ .PWR_STAT)
    (h2 : r.name ≠ .FAB_IMG_STAT) : e.reg r = d.reg r :=
  h.regs r (addr_ne_of_name_ne regAt_PWR_STAT (reach_regAt c hr) h1) (addr_ne_of_name_ne regAt_FAB_IMG_STAT (reach_regAt c hr) h2)

/-- PWR_STAT and FAB_IMG_STAT are read only, so no quiet register. -/
theorem not_settled_of_quiet {n : RegName} (hq : n.quiet = true) : n ≠ .PWR_STAT ∧ n ≠ .FAB_IMG_STAT :=
  ⟨fun h => quiet_elim hq h (by decide), fun h => quiet_elim hq h (by decide)⟩

/-- No counter that a read clears is PWR_STAT or FAB_IMG_STAT. -/
theorem not_settled_of_cor {n : RegName} (hc : n.info.cor = true) : n ≠ .PWR_STAT ∧ n ≠ .FAB_IMG_STAT := by
  constructor <;>
  · rintro rfl
    exact absurd hc (by decide)

/-- The lower word of a plain pair, and so its upper word, stands above FAB_IMG_STAT and PWR_STAT. -/
theorem plainPair_above_settled {r : Reg} (hn : r.name ∈ plainPairs) :
    R.FAB_IMG_STAT.addr < r.addr ∧ R.PWR_STAT.addr < r.addr := by
  obtain ⟨n, i, j⟩ := r
  simp only [plainPairs, List.mem_cons, List.not_mem_nil, or_false] at hn
  rcases hn with rfl | rfl | rfl | rfl <;> simp [Reg.addr, RegName.info] <;> omega

/-- What a command's end leaves of a plain pair is what its effect committed. -/
theorem FollowsIdle.pairI_plain {d e : Dev} (he : FollowsIdle d e) {r : Reg} {h : RegName} (hn : r.name ∈ plainPairs)
    (hh : r.name.hi? = some h) : e.pairI r { r with name := h } = d.pairI r { r with name := h } := by
  have ha : Reg.addr { r with name := h } = r.addr + 4 := plainPair_hi hn hh r.i r.j
  obtain ⟨h1, h2⟩ := plainPair_above_settled hn
  rw [Dev.pairI, Dev.pairI, Dev.pair, Dev.pair, he.regs r (by omega) (by omega),
    he.regs { r with name := h } (by omega) (by omega)]

/-! ### The rows of the accesses by address -/

/-- A register-write row whose access ends in `d'` with `st` and raises no event: it answers `st`, and `P` holds of what follows `d'`. -/
theorem runs_write {i : Instr} {s : State} {ses addr : Nat} {w : Word} {d' : Dev} {st : Status} {P : Dev → Prop}
    (hi : exec i s = s.run (fun d => d.hostWriteAt ses addr w)) (hon : s.On) (hw : s.start.writeAddr ses addr w = (d', st))
    (he : d'.evq = []) (ho : d'.out = []) (hP : ∀ e, FollowsIdle (d'.answer st) e → P e) :
    Runs i s (fun e => e.out.head? = some (.status st) ∧ P e) := by
  have hf : s.start.hostWriteAt ses addr w = d'.answer st := by rw [Dev.hostWriteAt, hw]
  refine runs_of_no_event hi hon (by rw [hf]; exact he) fun e h => ?_
  rw [hf] at h
  exact ⟨h.head_out (by simp [Dev.answer, Dev.emit, ho]), hP e h⟩

/-- A register-read row whose access ends in `d'` with the word `w` and raises no event: it answers `w`, and `P` holds of what follows `d'`. -/
theorem runs_read {i : Instr} {s : State} {ses : Nat} {r : Reg} {w : Word} {d' : Dev} {P : Dev → Prop}
    (hi : exec i s = s.run (fun d => d.hostRead ses r.addr)) (hon : s.On) (hm : s.start.MayRead ses r)
    (hr : s.start.readFor ses r = (d', w)) (he : d'.evq = []) (ho : d'.out = []) (hP : ∀ e, FollowsIdle (d'.emit (.word .ok w)) e → P e) :
    Runs i s (fun e => e.out.head? = some (.word .ok w) ∧ P e) := by
  have hf : s.start.hostRead ses r.addr = d'.emit (.word .ok w) := by rw [hostRead_ok s.start hm, hr]
  refine runs_of_no_event hi hon (by rw [hf]; exact he) fun e h => ?_
  rw [hf] at h
  exact ⟨h.head_out (by simp [Dev.emit, ho]), hP e h⟩

/-- Settles O7, clause by clause: each access is its session's own effect, which raises no event. -/
theorem registerAccessComplete : Obligations.RegisterAccessComplete := by
  rintro s d rfl hon
  refine ⟨?quietWrite, ?loRead, ?hiWrite, ?legHiWrite, ?loWrite, ?counterRead⟩
  case quietWrite =>
    rintro ses _ w r rfl hq hm hw
    obtain ⟨g, hg, hr⟩ := hostWrite_quiet s.start hq hm hw
    obtain ⟨h1, h2⟩ := not_settled_of_quiet hq
    obtain ⟨-, -, -, -, hreach⟩ := hm
    refine runs_of_no_event (f := fun d => d.hostWrite ses r w) rfl hon (by rw [hg]; rfl) fun e he => ?_
    rw [hg] at he
    exact ⟨he.head_out rfl, (he.reg_of_reach hreach h1 h2).trans hr⟩
  case loRead =>
    rintro ses _ r h rfl hh hm
    obtain ⟨x, hx⟩ := Option.isSome_iff_exists.1 hm.1
    obtain ⟨g, hg⟩ := readFor_lo s.start hx hh
    refine runs_read rfl hon hm hg rfl rfl fun e he => ?_
    rw [he.host]
    simp [Dev.emit, Dev.setSess]
  case hiWrite =>
    rintro ses _ w r rfl hh hro hm hl
    obtain ⟨x, hx, hw⟩ := writeAddr_of_mayWrite s.start w hm
    refine runs_write rfl hon (hw.trans (writeFor_hi s.start w hx hh hro hl)) rfl rfl fun e he => ?_
    rw [he.host]
    simp [Dev.answer, Dev.emit, Dev.setSess]
  case legHiWrite =>
    rintro ses _ w r rfl hn hm hl
    obtain ⟨x, -, hw⟩ := writeAddr_of_mayWrite s.start w hm
    refine runs_write rfl hon (hw.trans (writeFor_legHi s.start w hn hl)) rfl rfl fun e he => ?_
    rw [he.host]
    rfl
  case loWrite =>
    rintro ses _ w r h rfl hh hn hm hc
    obtain ⟨x, hx, hw⟩ := writeAddr_of_mayWrite s.start w hm
    obtain ⟨-, -, -, hsw, -⟩ := hm
    obtain ⟨g, hg, hp⟩ := writeFor_plainPair s.start w hx hn hh hsw hc
    refine runs_write rfl hon (hw.trans hg) rfl rfl fun e he => ⟨(he.pairI_plain hn hh).trans hp, ?_⟩
    rw [he.host]
    simp [Dev.answer, Dev.emit, Dev.setSess]
  case counterRead =>
    rintro ses _ r rfl hcor hm
    obtain ⟨x, hx⟩ := Option.isSome_iff_exists.1 hm.1
    obtain ⟨h1, h2⟩ := not_settled_of_cor hcor
    refine runs_read rfl hon hm (readFor_cor s.start hx hcor) rfl rfl fun e he => ?_
    exact (he.reg_of_reach hm.2 h1 h2).trans (Dev.reg_setReg_same _ _ _)

end Sys2Proof.Machine

namespace Sys2Proof.Machine

/-! ### A status register with a counter that a read clears

R9: a read clears a field of kind ROC, and FBK_ENC_STAT (R283) holds one, ERRCNT, beside fields of other kinds. So a read changes a register
that is no counter as a whole, and a masked write, which reads first, writes nothing back into such a field. -/

/-- The status register of encoder 0. -/
def errStat : Reg := R.FBK_ENC_STAT 0

/-- FBK_ENC_STAT at its reset cause, with one error in ERRCNT. -/
def oneError : Word := 0x20010000#32

/-- The same with ERRCNT cleared. -/
def noError : Word := 0x20000000#32

/-- A unit whose encoder 0 has counted one error, and a controlling session in slot 0. -/
def errDev : Dev := { regs := [(errStat.addr, oneError)], host := { sess := [(0, { sessId := 7, ctl := true })] } }

/-- The word of a register after a command, where the command answers a next state. -/
def regAfter (i : Instr) (s : State) (r : Reg) : Option Word :=
  match exec i s with
  | .next t => some (t.dev.reg r)
  | _ => none

theorem regAfter_of_next {i : Instr} {s t : State} (h : exec i s = .next t) (r : Reg) : regAfter i s r = some (t.dev.reg r) := by
  rw [regAfter, h]

/-! ### Addresses outside the named registers -/

/-- How far the last register of a name lies above the first. -/
def RegInfo.span (x : RegInfo) : Nat :=
  match x.dims with
  | [] => 0
  | [(n, s)] => (n - 1) * s
  | (n, s) :: (m, t) :: _ => (n - 1) * s + (m - 1) * t

theorem mod_mul_le_pred_mul {n : Nat} (h : 0 < n) (i s : Nat) : i % n * s ≤ (n - 1) * s :=
  Nat.mul_le_mul_right s (Nat.le_pred_of_lt (Nat.mod_lt i h))

/-- Every register of a name lies between the first and the last. -/
theorem addr_mem_span (r : Reg) (h : r.name.info.dims.all (fun e => 0 < e.1) = true) :
    r.name.info.base ≤ r.addr ∧ r.addr ≤ r.name.info.base + r.name.info.span := by
  unfold Reg.addr RegInfo.span
  generalize r.name.info.dims = ds at h
  match ds with
  | [] => simp
  | [(n, s)] =>
    simp only [List.all_cons, List.all_nil, Bool.and_true, decide_eq_true_eq] at h
    have hi := mod_mul_le_pred_mul h r.i s
    exact ⟨Nat.le_add_right _ _, Nat.add_le_add_left hi _⟩
  | (n, s) :: (m, t) :: rest =>
    simp only [List.all_cons, Bool.and_eq_true, decide_eq_true_eq] at h
    obtain ⟨hn, hm, -⟩ := h
    have hi := mod_mul_le_pred_mul hn r.i s
    have hj := mod_mul_le_pred_mul hm r.j t
    dsimp only
    omega

/-- An address outside the span of every name of a list is that of no register named there. -/
theorem not_named_of_span {l : List RegName} {a : Nat} (h : ∀ n ∈ l, n.info.dims.all (fun e => 0 < e.1) = true ∧
    (a < n.info.base ∨ n.info.base + n.info.span < a)) : ¬ Named l a := by
  rintro ⟨n, hn, i, j, rfl⟩
  obtain ⟨hd, ho⟩ := h n hn
  obtain ⟨hlo, hhi⟩ := addr_mem_span ⟨n, i, j⟩ hd
  dsimp only at hlo hhi
  omega

theorem errStat_not_readNames : ¬ Named readNames errStat.addr := not_named_of_span (by decide +kernel)

theorem errStat_not_settleNames : ¬ Named settleNames errStat.addr := not_named_of_span (by decide +kernel)

/-! ### A read -/

theorem regAfter_read : regAfter (.loReadLatch 0 errStat.addr) { dev := errDev } errStat = some noError := by decide +kernel

/-- Refutes O53: a read of FBK_ENC_STAT clears its ERRCNT, and the frame of the read does not name the register. -/
theorem not_timeFrame : ¬ Obligations.TimeFrame := by
  intro h
  obtain ⟨-, hread, -⟩ := h { dev := errDev }
  obtain ⟨t, ht⟩ := exec_next (.loReadLatch 0 errStat.addr) { dev := errDev }
  obtain ⟨-, hregs, -⟩ := hread 0 errStat.addr t ht
  have hkept : t.dev.reg errStat = oneError := hregs errStat errStat_not_readNames errStat_not_settleNames
  have hcleared : some (t.dev.reg errStat) = some noError := (regAfter_of_next ht errStat).symm.trans regAfter_read
  rw [hkept] at hcleared
  exact absurd hcleared (by decide)

/-! ### A masked write -/

/-- A REG_RMW of the register with an empty mask. -/
def rmwMsg : List Byte := message 0x0F12 0 7 0 0 0 0 (le 4 errStat.addr)

/-- The command queue in which the message waits. -/
def rmwQueue : Queue := { slot := 0, depth := 256, respQ := 64, stored := [rmwMsg] }

/-- The unit with the message in its command queue 0, and room in the response queue. -/
def rmwDev : Dev :=
  { errDev with host := { errDev.host with queues := [(0, rmwQueue), (64, { slot := 0, depth := 256 })] } }

theorem rmwDev_executes : rmwDev.Executes 0x0F12 1 rmwMsg rmwQueue := by decide +kernel

theorem regAfter_rmw : regAfter (.regRmw (0, 0, 0) rmwMsg) { dev := rmwDev } errStat = some noError := by decide +kernel

/-- Refutes O42: a REG_RMW of FBK_ENC_STAT reads the register and so clears its ERRCNT, which the word merged from the register before the
command still holds. -/
theorem not_messagesComplete : ¬ Obligations.MessagesComplete := by
  intro h
  obtain ⟨-, -, hrmw, -⟩ := h { dev := rmwDev } rmwDev rfl rfl
  have hmay : rmwDev.MayWrite rmwQueue.slot errStat := by decide +kernel
  have hmask : wN (uAt rmwMsg 20 4) &&& ~~~ rmwDev.rmwBits errStat.name.info = 0 := by decide +kernel
  have hnew : oneError = ((rmwDev.readFor rmwQueue.slot errStat).2 &&& ~~~ wN (uAt rmwMsg 20 4)) |||
      (wN (uAt rmwMsg 24 4) &&& wN (uAt rmwMsg 20 4)) := by decide +kernel
  have hok : rmwDev.WriteOk errStat oneError := by decide +kernel
  have hmerged : rmwDev.written errStat oneError = oneError := by decide +kernel
  obtain ⟨t, ht, -, hreg, -⟩ := hrmw (0, 0, 0) rmwMsg rmwQueue errStat oneError rmwDev_executes (by decide +kernel) (by decide +kernel)
    hmay hmask hnew hok (by decide)
  have hkept : t.dev.reg errStat = oneError := hreg.trans hmerged
  have hcleared : some (t.dev.reg errStat) = some noError := (regAfter_of_next ht errStat).symm.trans regAfter_rmw
  rw [hkept] at hcleared
  exact absurd hcleared (by decide)

end Sys2Proof.Machine
namespace Sys2Proof.Machine
theorem regAfter_counterRead : regAfter (.counterReadClear 0 errStat.addr) { dev := errDev } errStat = some noError := by decide +kernel

/-- Refutes O54: COUNTER_READ_CLEAR reads by address, a read of FBK_ENC_STAT clears its ERRCNT, and the frame of the read does not name the
register. -/
theorem not_lineFrame : ¬ Obligations.LineFrame := by
  intro h
  obtain ⟨hread, -⟩ := h { dev := errDev }
  obtain ⟨t, ht⟩ := exec_next (.counterReadClear 0 errStat.addr) { dev := errDev }
  obtain ⟨-, hregs, -⟩ := hread 0 errStat.addr t ht
  have hkept : t.dev.reg errStat = oneError := hregs errStat errStat_not_readNames errStat_not_settleNames
  have hcleared : some (t.dev.reg errStat) = some noError := (regAfter_of_next ht errStat).symm.trans regAfter_counterRead
  rw [hkept] at hcleared
  exact absurd hcleared (by decide)
end Sys2Proof.Machine

namespace Sys2Proof.Machine

/-! ### Registers of different names -/

/-- How far the last register of the dimensions after the first lies above the first. -/
def RegInfo.window (x : RegInfo) : Nat :=
  match x.dims with
  | _ :: (m, t) :: _ => (m - 1) * t
  | _ => 0

/-- The registers of two names stand at different addresses: all of one below all of the other, or, in arrays of one stride, at different
places of each element. -/
def RegInfo.apart (x y : RegInfo) : Bool :=
  x.dims.all (fun e => 0 < e.1) && y.dims.all (fun e => 0 < e.1) &&
  (decide (x.base + x.span < y.base) || decide (y.base + y.span < x.base) ||
   (match x.dims, y.dims with
    | (_, s) :: _, (_, t) :: _ => s == t && decide (x.base % s + x.window < s) && decide (y.base % s + y.window < s) &&
        (decide (x.base % s + x.window < y.base % s) || decide (y.base % s + y.window < x.base % s))
    | _, _ => false))

/-- In an array of stride `s` a register stands in the window of an element. -/
theorem addr_mem_window (r : Reg) {n s : Nat} {ds : List (Nat × Nat)} (h : r.name.info.dims = (n, s) :: ds)
    (hp : r.name.info.dims.all (fun e => 0 < e.1) = true) :
    ∃ k v, r.addr = r.name.info.base + k * s + v ∧ v ≤ r.name.info.window := by
  unfold Reg.addr RegInfo.window
  rw [h] at hp ⊢
  match ds with
  | [] => exact ⟨r.i % n, 0, rfl, Nat.zero_le _⟩
  | (m, t) :: rest =>
    simp only [List.all_cons, Bool.and_eq_true, decide_eq_true_eq] at hp
    obtain ⟨-, hm, -⟩ := hp
    exact ⟨r.i % n, r.j % m * t, rfl, mod_mul_le_pred_mul hm r.j t⟩

theorem mod_of_window {b k s v w : Nat} (hv : v ≤ w) (hw : b % s + w < s) : (b + k * s + v) % s = b % s + v := by
  rw [Nat.add_right_comm, Nat.add_mul_mod_self_right, Nat.add_mod, Nat.mod_eq_of_lt (show v < s by omega), Nat.mod_eq_of_lt (by omega)]

/-- Registers of names that stand apart have different addresses. -/
theorem addr_ne_of_apart {q r : Reg} (h : q.name.info.apart r.name.info = true) : q.addr ≠ r.addr := by
  intro ha
  unfold RegInfo.apart at h
  simp only [Bool.and_eq_true, Bool.or_eq_true, decide_eq_true_eq] at h
  obtain ⟨⟨hq, hr⟩, h⟩ := h
  obtain ⟨hq1, hq2⟩ := addr_mem_span q hq
  obtain ⟨hr1, hr2⟩ := addr_mem_span r hr
  rcases h with (h | h) | h
  · omega
  · omega
  · split at h
    · rename_i n s ds m t es hd he
      simp only [Bool.and_eq_true, Bool.or_eq_true, decide_eq_true_eq, beq_iff_eq] at h
      obtain ⟨⟨⟨rfl, hw⟩, hx⟩, h⟩ := h
      obtain ⟨k, v, hk, hv⟩ := addr_mem_window q hd hq
      obtain ⟨l, u, hl, hu⟩ := addr_mem_window r he hr
      have h1 := mod_of_window (k := k) hv hw
      have h2 := mod_of_window (k := l) hu hx
      rw [← hk] at h1
      rw [← hl] at h2
      rw [ha] at h1
      omega
    · exact absurd h Bool.false_ne_true

theorem addr_ne {n m : RegName} (h : n.info.apart m.info = true) (i j k l : Nat) : Reg.addr ⟨n, i, j⟩ ≠ Reg.addr ⟨m, k, l⟩ :=
  addr_ne_of_apart (q := ⟨n, i, j⟩) (r := ⟨m, k, l⟩) h

/-- A register that stands apart from those that follow every command is the command's own. -/
theorem ownReg_of_apart {n : RegName} (h : settleNames.all (fun m => m.info.apart n.info) = true) (i j : Nat) : OwnReg ⟨n, i, j⟩ := by
  simp only [List.all_eq_true] at h
  have hne (m : RegName) (hm : m ∈ settleNames) (k l : Nat) : Reg.addr ⟨n, i, j⟩ ≠ Reg.addr ⟨m, k, l⟩ :=
    (addr_ne (h m hm) k l i j).symm
  exact ⟨hne .PWR_STAT (by decide) 0 0, hne .FAB_IMG_STAT (by decide) 0 0, fun p => hne .HOST_P_CNT_TX (by decide) p 0⟩

/-! ### What a command's effect leaves alone -/

/-- A part of the state stands as it stood. -/
def Part.fixed (p : Part) (d e : Dev) : Prop :=
  match p with
  | .clk => e.clk = d.clk
  | .fresh => e.fresh = d.fresh
  | .fil => e.fil = d.fil
  | .time => e.time = d.time
  | .cap => e.cap = d.cap
  | .loader => e.loader = d.loader
  | .line => e.line = d.line
  | .engs => e.engs = d.engs
  | .axs => e.axs = d.axs
  | .pwm => e.pwm = d.pwm
  | .fbk => e.fbk = d.fbk
  | .mot => e.mot = d.mot
  | .arms => e.arms = d.arms
  | .dio => e.dio = d.dio
  | .tall => e.tall = d.tall
  | .gorse => e.gorse = d.gorse
  | .safe => e.safe = d.safe
  | .can => e.can = d.can
  | .duo => e.duo = d.duo
  | .link => e.link = d.link
  | .sec => e.sec = d.sec
  | .sys => e.sys = d.sys

theorem Part.fixed_rfl (p : Part) (d : Dev) : p.fixed d d := by cases p <;> rfl

theorem Part.fixed.trans {p : Part} {d e f : Dev} (h : p.fixed d e) (k : p.fixed e f) : p.fixed d f := by
  cases p <;> exact Eq.trans k h

/-- From `d` to `e` only registers of the names `l`, the parts `ps` and what is not a part may differ, and the outputs grow. -/
structure Inside (l : List RegName) (ps : List Part) (d e : Dev) : Prop where
  regs : ∀ r : Reg, (∀ n ∈ l, n.info.apart r.name.info = true) → e.reg r = d.reg r
  parts : ∀ p, p ∉ ps → p.fixed d e
  out : ∃ o, e.out = d.out ++ o

namespace Inside

variable {l l' : List RegName} {ps ps' : List Part} {d e f : Dev}

theorem refl : Inside [] [] d d := ⟨fun _ _ => rfl, fun p _ => p.fixed_rfl d, [], (List.append_nil _).symm⟩

theorem trans (h : Inside l ps d e) (k : Inside l ps e f) : Inside l ps d f := by
  obtain ⟨o, ho⟩ := h.out
  obtain ⟨q, hq⟩ := k.out
  exact ⟨fun r hr => (k.regs r hr).trans (h.regs r hr), fun p hp => (h.parts p hp).trans (k.parts p hp), o ++ q, by
    rw [hq, ho, List.append_assoc]⟩

theorem within (h : Inside l ps d e) (hl : l ⊆ l') (hp : ps ⊆ ps') : Inside l' ps' d e :=
  ⟨fun r hr => h.regs r fun n hn => hr n (hl hn), fun p hq => h.parts p fun hi => hq (hp hi), h.out⟩

/-- A step after another: the names and the parts of both. -/
theorem step (h : Inside l ps d e) (k : Inside l' ps' e f) : Inside (l' ++ l) (ps' ++ ps) d f :=
  (h.within (List.subset_append_right _ _) (List.subset_append_right _ _)).trans
    (k.within (List.subset_append_left _ _) (List.subset_append_left _ _))

/-! What is read after it. -/

theorem reg (h : Inside l ps d e) {m : RegName} {i j : Nat} (hm : l.all (fun n => n.info.apart m.info) = true) :
    e.reg ⟨m, i, j⟩ = d.reg ⟨m, i, j⟩ := h.regs _ (by simpa using hm)

theorem fld (h : Inside l ps d e) {m : RegName} {i j : Nat} {g : Fld} (hm : l.all (fun n => n.info.apart m.info) = true) :
    e.fld ⟨m, i, j⟩ g = d.fld ⟨m, i, j⟩ g := congrArg (getF · g) (h.reg hm)

theorem mem_out (h : Inside l ps d e) {o : Out} (ho : o ∈ d.out) : o ∈ e.out := by
  obtain ⟨q, hq⟩ := h.out
  exact hq ▸ List.mem_append_left q ho

/-! Steps that leave the parts alone. -/

/-- A step that changes no part and puts nothing out. -/
theorem of_regs (h : Inside l ps d e) (hr : ∀ r : Reg, (∀ n ∈ l, n.info.apart r.name.info = true) → f.reg r = e.reg r)
    (hp : ∀ p : Part, p.fixed e f) (ho : f.out = e.out) : Inside l ps d f :=
  h.trans ⟨hr, fun p _ => hp p, [], by rw [ho, List.append_nil]⟩

theorem setReg (h : Inside l ps d e) {n : RegName} {i j : Nat} {w : Word} : Inside (n :: l) ps d (e.setReg ⟨n, i, j⟩ w) :=
  (h.within (List.subset_cons_self n l) (List.Subset.refl ps)).of_regs
    (fun _ hr => Dev.reg_setReg_other e w (addr_ne_of_apart (q := ⟨n, i, j⟩) (hr n List.mem_cons_self))) (fun p => by cases p <;> rfl) rfl

theorem setFld (h : Inside l ps d e) {n : RegName} {i j v : Nat} {g : Fld} : Inside (n :: l) ps d (e.setFld ⟨n, i, j⟩ g v) := h.setReg

theorem setRegI (h : Inside l ps d e) {n : RegName} {i j : Nat} {x : Int} : Inside (n :: l) ps d (e.setRegI ⟨n, i, j⟩ x) := h.setReg

theorem bump (h : Inside l ps d e) {n : RegName} {i j k : Nat} {g : Fld} : Inside (n :: l) ps d (e.bump ⟨n, i, j⟩ g k) := h.setFld

theorem inc (h : Inside l ps d e) {n : RegName} {i j : Nat} : Inside (n :: l) ps d (e.inc ⟨n, i, j⟩) := h.bump

theorem setPair (h : Inside l ps d e) {n m : RegName} {i j i' j' : Nat} {x : Int} :
    Inside (m :: n :: l) ps d (e.setPair ⟨n, i, j⟩ ⟨m, i', j'⟩ x) := h.setReg.setReg

theorem setW1c (h : Inside l ps d e) {n : RegName} {i j k : Nat} {g : Fld} : Inside (n :: l) ps d (e.setW1c ⟨n, i, j⟩ g k) :=
  h.setFld.of_regs (fun _ _ => rfl) (fun p => by cases p <;> rfl) rfl

theorem raise (h : Inside l ps d e) {v : Ev} : Inside l ps d (e.raise v) := h.of_regs (fun _ _ => rfl) (fun p => by cases p <;> rfl) rfl

theorem ev (h : Inside l ps d e) {c k : Nat} {x : List Word} : Inside l ps d (e.ev c k x) := h.raise

theorem evObj (h : Inside l ps d e) {c k o : Nat} {x : List Word} : Inside l ps d (e.evObj c k o x) := h.raise

theorem evAt (h : Inside l ps d e) {c k o : Nat} {i : Option Nat} {x : List Word} : Inside l ps d (e.evAt c k o i x) := h.raise

theorem emit (h : Inside l ps d e) {o : Out} : Inside l ps d (e.emit o) :=
  h.trans ⟨fun _ _ => rfl, fun p _ => by cases p <;> rfl, [o], rfl⟩

theorem answer (h : Inside l ps d e) {st : Status} : Inside l ps d (e.answer st) := h.emit

/-! Steps made of steps. -/

theorem each {α : Type} (h : Inside l ps d e) {xs : List α} {g : Dev → α → Dev} (hg : ∀ x a, a ∈ xs → Inside l' ps' x (g x a)) :
    Inside (l' ++ l) (ps' ++ ps) d (e.each xs g) := by
  refine h.step ?_
  clear h
  induction xs generalizing e with
  | nil => exact refl.within (List.nil_subset _) (List.nil_subset _)
  | cons a as ih => exact (hg e a List.mem_cons_self).trans (ih fun x b hb => hg x b (List.mem_cons_of_mem a hb))

theorem ite (c : Prop) [Decidable c] (h : c → Inside l ps d e) (k : ¬c → Inside l' ps' d f) :
    Inside (l ++ l') (ps ++ ps') d (if c then e else f) := by
  split
  · exact (h ‹c›).within (List.subset_append_left _ _) (List.subset_append_left _ _)
  · exact (k ‹¬c›).within (List.subset_append_right _ _) (List.subset_append_right _ _)

/-! Steps that change one part. -/

/-- A step that changes the part `q` alone. -/
theorem of_part (h : Inside l ps d e) (q : Part) (hr : f.regs = e.regs) (ho : f.out = e.out) (hp : ∀ p : Part, p ≠ q → p.fixed e f) :
    Inside l (q :: ps) d f :=
  (h.within (List.Subset.refl l) (List.subset_cons_self q ps)).trans ⟨fun r _ => Dev.reg_congr hr r,
    fun p hn => hp p fun hpq => hn (hpq ▸ List.mem_cons_self), [], by rw [ho, List.append_nil]⟩

theorem line (h : Inside l ps d e) {x : LineSt} : Inside l (.line :: ps) d { e with line := x } :=
  h.of_part .line rfl rfl fun p hp => by cases p; all_goals trivial

theorem axs (h : Inside l ps d e) {x : AxesSt} : Inside l (.axs :: ps) d { e with axs := x } :=
  h.of_part .axs rfl rfl fun p hp => by cases p; all_goals trivial

theorem engs (h : Inside l ps d e) {x : EnginesSt} : Inside l (.engs :: ps) d { e with engs := x } :=
  h.of_part .engs rfl rfl fun p hp => by cases p; all_goals trivial

theorem cap (h : Inside l ps d e) {x : CapSt} : Inside l (.cap :: ps) d { e with cap := x } :=
  h.of_part .cap rfl rfl fun p hp => by cases p; all_goals trivial

theorem dio (h : Inside l ps d e) {x : DioSt} : Inside l (.dio :: ps) d { e with dio := x } :=
  h.of_part .dio rfl rfl fun p hp => by cases p; all_goals trivial

theorem duo (h : Inside l ps d e) {x : PairSt} : Inside l (.duo :: ps) d { e with duo := x } :=
  h.of_part .duo rfl rfl fun p hp => by cases p; all_goals trivial

theorem link (h : Inside l ps d e) {x : LinkSt} : Inside l (.link :: ps) d { e with link := x } :=
  h.of_part .link rfl rfl fun p hp => by cases p; all_goals trivial

theorem time (h : Inside l ps d e) {x : TimeSt} : Inside l (.time :: ps) d { e with time := x } :=
  h.of_part .time rfl rfl fun p hp => by cases p; all_goals trivial

theorem fresh (h : Inside l ps d e) {x : Nat} : Inside l (.fresh :: ps) d { e with fresh := x } :=
  h.of_part .fresh rfl rfl fun p hp => by cases p; all_goals trivial

theorem safe (h : Inside l ps d e) {x : SafeSt} : Inside l (.safe :: ps) d { e with safe := x } :=
  h.of_part .safe rfl rfl fun p hp => by cases p; all_goals trivial

end Inside

end Sys2Proof.Machine

namespace Sys2Proof.Machine

/-! ### Completing a command -/

/-- A command completes with every `P` that holds of what follows its effect `f`. -/
theorem runs_of_run {i : Instr} {s : State} {f : Dev → Dev} {P : Dev → Prop} (hi : exec i s = s.run f) (hon : s.On)
    (hP : ∀ e, Follows (f s.start) e → P e) : Runs i s P := by
  obtain ⟨t, ht, hpend, hf⟩ := run_next s f hon
  exact ⟨t, hi.trans ht, hpend, hP _ hf⟩

/-- The same of a command on an object whose number is within its limit. -/
theorem runs_of_runIf {i : Instr} {s : State} {c : Bool} {f : Dev → Dev} {P : Dev → Prop} (hi : exec i s = s.runIf c f) (hon : s.On)
    (hc : c = true) (hP : ∀ e, Follows (f s.start) e → P e) : Runs i s P := by
  obtain ⟨t, ht, hpend, hf⟩ := runIf_next s c f hon hc
  exact ⟨t, hi.trans ht, hpend, hP _ hf⟩

namespace Follows

variable {d e : Dev}

theorem reg_own (h : Follows d e) {n : RegName} {i j : Nat} (hn : settleNames.all (fun m => m.info.apart n.info) = true) :
    e.reg ⟨n, i, j⟩ = d.reg ⟨n, i, j⟩ := h.reg _ (ownReg_of_apart hn i j)

theorem fld_own (h : Follows d e) {n : RegName} {i j : Nat} {g : Fld}
    (hn : settleNames.all (fun m => m.info.apart n.info) = true) : e.fld ⟨n, i, j⟩ g = d.fld ⟨n, i, j⟩ g :=
  h.fld (ownReg_of_apart hn i j) g

theorem bit_own (h : Follows d e) {n : RegName} {i j : Nat} {g : Fld}
    (hn : settleNames.all (fun m => m.info.apart n.info) = true) : e.bit ⟨n, i, j⟩ g = d.bit ⟨n, i, j⟩ g :=
  h.bit (ownReg_of_apart hn i j) g

theorem port (h : Follows d e) (p : Nat) : e.port p = d.port p := by simp only [Dev.port, h.kept.line]

theorem slot (h : Follows d e) (p i : Nat) : e.slot p i = d.slot p i := by simp only [Dev.slot, h.kept.line]

theorem grp (h : Follows d e) (g : Nat) : e.grp g = d.grp g := by simp only [Dev.grp, h.kept.line]

theorem grpState (h : Follows d e) (g : Nat) : e.grpState g = d.grpState g := h.fld_own (by decide)

theorem portState (h : Follows d e) (p : Nat) : e.portState p = d.portState p := h.fld_own (by decide)

theorem slotState (h : Follows d e) (p i : Nat) : e.slotState p i = d.slotState p i := h.fld_own (by decide)

theorem mem_out (h : Follows d e) {o : Out} (ho : o ∈ d.out) : o ∈ e.out := by
  obtain ⟨q, hq⟩ := h.out
  exact hq ▸ List.mem_append_left q ho

end Follows

/-! ### Frames that wait for the fallow window -/

theorem Dev.port_setPort (d : Dev) (p q : Nat) (x : PortSt) : (d.setPort p x).port q = if p = q then x else d.port q :=
  tget_tset d.line.ports p q x {}

@[simp] theorem Dev.port_setPort_same (d : Dev) (p : Nat) (x : PortSt) : (d.setPort p x).port p = x := tget_tset_same _ _ _ _

/-- From `d` to `e` frames may have joined those that wait at the ports, and nothing else has changed. -/
structure Queued (d e : Dev) : Prop where
  rest : ∃ x, e = { d with line := { d.line with ports := x } }
  port : ∀ q, ∃ k, e.port q = { d.port q with queue := (d.port q).queue ++ k }

namespace Queued

variable {d e f : Dev}

theorem refl : Queued d d := ⟨⟨d.line.ports, rfl⟩, fun q => ⟨[], by rw [List.append_nil]⟩⟩

theorem trans (h : Queued d e) (k : Queued e f) : Queued d f := by
  obtain ⟨x, rfl⟩ := h.rest
  obtain ⟨y, rfl⟩ := k.rest
  refine ⟨⟨y, rfl⟩, fun q => ?_⟩
  obtain ⟨a, ha⟩ := h.port q
  obtain ⟨b, hb⟩ := k.port q
  exact ⟨a ++ b, by rw [hb, ha, List.append_assoc]⟩

theorem acyclic {p t a : Nat} {b : List Byte} : Queued d (d.acyclic p t a b) := by
  refine ⟨⟨_, rfl⟩, fun q => ?_⟩
  unfold Dev.acyclic Dev.updPort
  rw [Dev.port_setPort]
  split
  · subst_vars
    exact ⟨[_], rfl⟩
  · exact refl.port q

theorem each {α : Type} {xs : List α} {g : Dev → α → Dev} (hg : ∀ x a, Queued x (g x a)) : Queued d (d.each xs g) := by
  induction xs generalizing d with
  | nil => exact refl
  | cons a as ih => exact (hg d a).trans ih

theorem send {p t a : Nat} {b : List Byte} : Queued d (d.send p t a b) := each fun _ _ => acyclic

theorem sendApply {g n m t : Nat} {ms : List (Nat × Nat × Nat)} : Queued d (d.sendApply g n m t ms) := each fun _ _ => send

theorem regs (h : Queued d e) : e.regs = d.regs := by
  obtain ⟨x, rfl⟩ := h.rest
  rfl

theorem reg (h : Queued d e) (r : Reg) : e.reg r = d.reg r := Dev.reg_congr h.regs r

theorem fld (h : Queued d e) (r : Reg) (f : Fld) : e.fld r f = d.fld r f := congrArg (getF · f) (h.reg r)

theorem grp (h : Queued d e) (g : Nat) : e.grp g = d.grp g := by
  obtain ⟨x, rfl⟩ := h.rest
  rfl

theorem nextToken (h : Queued d e) : e.line.nextToken = d.line.nextToken := by
  obtain ⟨x, rfl⟩ := h.rest
  rfl

theorem inside (h : Queued d e) : Inside [] [.line] d e := by
  obtain ⟨x, rfl⟩ := h.rest
  exact Inside.refl.line

end Queued

end Sys2Proof.Machine

namespace Sys2Proof.Machine

/-! ### The shared operations: outputs, channels, reactions -/

theorem dioDrive_inside (d : Dev) (k : Nat) : Inside [] [.dio] d (d.dioDrive k) := by
  unfold Dev.dioDrive
  extract_lets x e
  exact Inside.ite _ (fun _ => Inside.refl) fun _ => Inside.refl.dio.emit

theorem dioCommand_inside (d : Dev) (k : Nat) (on : Bool) : Inside [.DIO_OUT] [.dio] d (d.dioCommand k on) := by
  unfold Dev.dioCommand
  extract_lets x r w w1 y
  exact (Inside.ite _ (fun _ => Inside.refl) fun _ => Inside.refl.dio.setReg.step (dioDrive_inside _ _)).within (by decide) (by decide)

theorem dioFabric_inside (d : Dev) (c : Nat) (v : Word) : Inside [.DIO_OUT] [.dio] d (d.dioFabric c v) := by
  unfold Dev.dioFabric
  extract_lets k
  exact Inside.ite _ (fun _ => dioCommand_inside _ _ _) fun _ => Inside.refl

theorem chanStore_inside (d : Dev) (c : Nat) (v : Word) (k : Bool) (rel : Option Nat) :
    Inside [.DIO_OUT] [.cap, .dio, .engs] d (d.chanStore c v k rel) := by
  unfold Dev.chanStore
  split
  · exact Inside.refl.within (by decide) (by decide)
  · extract_lets v pk latch x y d1
    have h1 : Inside [] [.cap, .engs] d d1 := (Inside.refl.engs (x := d1.engs)).cap (x := d1.cap)
    exact (h1.each fun _ _ _ => Inside.ite _ (fun _ => dioFabric_inside _ _ _) fun _ => Inside.refl).within (by decide) (by decide)

theorem updAxSt_inside (d : Dev) (a : Nat) (f : AxisSt → AxisSt) : Inside [] [.axs] d (d.updAxSt a f) := Inside.refl.axs

theorem outputsZero_inside (d : Dev) (a : Nat) : Inside [.DIO_OUT] [.axs, .cap, .dio, .engs] d (d.outputsZero a) := by
  have h := updAxSt_inside d a AxisSt.zeroed
  unfold Dev.outputsZero
  extract_lets d1
  split
  · exact (Inside.ite _ (fun _ => h.each fun _ _ _ => chanStore_inside _ _ _ _ _) fun _ => h).within (by decide) (by decide)
  · exact h.within (by decide) (by decide)

theorem applyReaction_inside (d : Dev) (a code cause : Nat) (pf : Bool) :
    Inside [.AXIS_STAT, .DIO_OUT] [.axs, .cap, .dio, .engs] d (d.applyReaction a code cause pf) := by
  unfold Dev.applyReaction
  extract_lets r d1 d2 x1 d3
  have h1 : Inside [.AXIS_STAT] [.axs] d d1 :=
    ((updAxSt_inside d a _).setFld.setFld.setFld.evObj).within (by decide) (by decide)
  have h2 : Inside [.AXIS_STAT, .DIO_OUT] [.axs, .cap, .dio, .engs] d d2 :=
    (h1.step (outputsZero_inside _ a)).setFld.within (by decide) (by decide)
  have h3 : Inside [.AXIS_STAT] [.axs] d d3 := (h1.setFld.step (updAxSt_inside _ a _)).within (by decide) (by decide)
  split
  · exact (Inside.ite _ (fun _ => h2) fun _ => h2.axs).within (by decide) (by decide)
  · split
    · exact (Inside.ite _ (fun _ => Inside.ite _ (fun _ => h3.axs) fun _ => h3) fun _ => h3).within (by decide) (by decide)
    · exact h3.within (by decide) (by decide)

theorem react_inside (d : Dev) (a code cause : Nat) (pf : Bool) :
    Inside [.AXIS_STAT, .DIO_OUT] [.axs, .cap, .dio, .engs] d (d.react a code cause pf) := by
  unfold Dev.react
  extract_lets st loc c now d1
  have h1 : Inside [] [] d d1 := Inside.refl.evObj
  exact (Inside.ite _ (fun _ => Inside.refl) fun _ => Inside.ite _ (fun _ => Inside.refl.evObj) fun _ =>
    Inside.ite _ (fun _ => applyReaction_inside _ _ _ _ _) fun _ => Inside.ite _ (fun _ => h1.setFld) fun _ => h1).within
    (by decide) (by decide)

end Sys2Proof.Machine

namespace Sys2Proof.Machine

/-! ### Group changes (R103 to R105, R113) -/

@[simp] theorem Dev.grp_setGrp_same (d : Dev) (g : Nat) (x : GroupSt) : (d.setGrp g x).grp g = x := tget_tset_same _ _ _ _

theorem Dev.grpState_setGrpState (d : Dev) (g st : Nat) (h : st < 8) : (d.setGrpState g st).grpState g = st :=
  (Dev.fld_setFld_same d _ _ st (by decide) (by decide)).trans (Nat.mod_eq_of_lt h)

theorem grpEv_inside (d : Dev) (c k g : Nat) (x : List Word) : Inside [] [] d (d.grpEv c k g x) := by
  unfold Dev.grpEv
  split
  · exact Inside.refl.ev
  · exact Inside.refl.evObj

/-- R104: what the last member's answer leaves. -/
theorem grpAllStaged_effect (d : Dev) (g : Nat) :
    (d.grpAllStaged g).grpState g = 2 ∧ (d.grpAllStaged g).grp g = { d.grp g with n := some (d.grpIdx g + 2) } ∧
    (d.grpAllStaged g).fld (R.GRP_STAT g) F.GRP_STAT.STAGED = d.fld (R.GRP_STAT g) F.GRP_STAT.STAGED ∧
    (d.grpAllStaged g).line.nextToken = d.line.nextToken := by
  have h : Queued ((d.setGrp g { d.grp g with n := some (d.grpIdx g + 2) }).setGrpState g 2) (d.grpAllStaged g) := Queued.sendApply
  refine ⟨(h.fld _ _).trans (Dev.grpState_setGrpState _ _ _ (by decide)), (h.grp g).trans (Dev.grp_setGrp_same _ _ _),
    (h.fld _ _).trans ?_, h.nextToken⟩
  exact Dev.fld_setFld_apart _ _ _ _ _ (by decide) (by decide) (by decide) (by decide)

/-- R104: what a request leaves. -/
theorem grpStart_effect (d : Dev) (g : Nat) :
    (d.grpStart g).grpState g = (if d.grpNodes g = [] then 2 else 1) ∧
    (d.grpStart g).fld (R.GRP_STAT g) F.GRP_STAT.STAGED = d.fld (R.GRP_REQ g) F.GRP_REQ.MODE ∧
    ((d.grpStart g).grp g).token = d.line.nextToken ∧ (d.grpStart g).line.nextToken = (d.line.nextToken + 1) % 65536 := by
  have hmode : d.fld (R.GRP_REQ g) F.GRP_REQ.MODE < 2 ^ 8 := getF_lt _ F.GRP_REQ.MODE
  unfold Dev.grpStart
  dsimp only
  generalize hd : ((Dev.setGrpState _ g 1).setFld _ F.GRP_STAT.STAGED _).setFld _ F.GRP_STAT.RETRY 0 = d1
  have hstate : d1.grpState g = 1 := by
    rw [← hd, Dev.grpState, Dev.fld_setFld_apart _ _ _ _ _ (by decide) (by decide) (by decide) (by decide),
      Dev.fld_setFld_apart _ _ _ _ _ (by decide) (by decide) (by decide) (by decide)]
    exact Dev.grpState_setGrpState _ _ _ (by decide)
  have hstaged : d1.fld (R.GRP_STAT g) F.GRP_STAT.STAGED = d.fld (R.GRP_REQ g) F.GRP_REQ.MODE := by
    rw [← hd, Dev.fld_setFld_apart _ _ _ _ _ (by decide) (by decide) (by decide) (by decide),
      Dev.fld_setFld_same _ _ _ _ (by decide) (by decide)]
    exact Nat.mod_eq_of_lt hmode
  have htoken : (d1.grp g).token = d.line.nextToken := by
    rw [← hd]
    exact congrArg GroupSt.token (Dev.grp_setGrp_same _ _ _)
  have hnext : d1.line.nextToken = (d.line.nextToken + 1) % 65536 := by
    rw [← hd]
    rfl
  generalize h2 : d1.each (d.grpNodes g) _ = d2
  have hq : Queued d1 d2 := h2 ▸ Queued.each fun _ _ => Queued.send
  have hstate2 : d2.grpState g = 1 := (hq.fld _ _).trans hstate
  have hstaged2 := (hq.fld _ _).trans hstaged
  have htoken2 := (congrArg GroupSt.token (hq.grp g)).trans htoken
  have hnext2 := hq.nextToken.trans hnext
  by_cases hn : d.grpNodes g = []
  · obtain ⟨ha, hb, hc, hf⟩ := grpAllStaged_effect d2 g
    simp only [hn, List.isEmpty_nil, if_true]
    exact ⟨ha, hc.trans hstaged2, (congrArg GroupSt.token hb).trans htoken2, hf.trans hnext2⟩
  · simp only [List.isEmpty_iff, hn, if_false]
    exact ⟨hstate2, hstaged2, htoken2, hnext2⟩

/-- A write of GRP_REQ merges MODE as written. -/
theorem getF_mergeWord_grpReq (old w h : Word) : getF (mergeWord RegName.GRP_REQ.info old w h) F.GRP_REQ.MODE = getF w F.GRP_REQ.MODE := by
  have : mergeWord RegName.GRP_REQ.info old w h = putF old F.GRP_REQ.MODE (getF w F.GRP_REQ.MODE) := rfl
  rw [this, getF_putF_same _ _ _ (by decide) (by decide)]
  exact Nat.mod_eq_of_lt (getF_lt w F.GRP_REQ.MODE)

theorem writeActs_grpReq (w : Word) : writeActs RegName.GRP_REQ.info (putF w F.GRP_REQ.REQ 1) = true := by
  have h : getF (putF w F.GRP_REQ.REQ 1) F.GRP_REQ.REQ = 1 := getF_putF_same _ _ _ (by decide) (by decide)
  simp [writeActs, RegName.info, RegName.info, h]

theorem regDo_grpReq (d : Dev) (ses g : Nat) (old new w : Word) (h : getF w F.GRP_REQ.REQ = 1) :
    d.regDo ses (R.GRP_REQ g) old new w = d.grpStart g := by
  have hb : blkOf (R.GRP_REQ g).addr = .line := by
    rw [addr_GRP_REQ]
    exact blkOf_line (by omega) (by omega)
  unfold Dev.regDo
  rw [hb]
  exact if_pos (by simp [h])

/-- R104: an accepted request. -/
theorem hostWrite_grpReq (d : Dev) (ses g : Nat) (w : Word) (hm : d.MayWrite ses (R.GRP_REQ g))
    (hw : d.WriteOk (R.GRP_REQ g) (putF w F.GRP_REQ.REQ 1)) :
    d.hostWrite ses (R.GRP_REQ g) (putF w F.GRP_REQ.REQ 1) =
      ((d.setReg (R.GRP_REQ g) (d.written (R.GRP_REQ g) (putF w F.GRP_REQ.REQ 1))).grpStart g).answer .ok := by
  rw [hostWrite_ok d ses _ _ hm (.inr (.inl (writeActs_grpReq w))) hw rfl,
    regDo_grpReq _ _ _ _ _ _ (getF_putF_same _ _ _ (by decide) (by decide))]

theorem fld_written_grpReq (d : Dev) (g : Nat) (w : Word) :
    getF (d.written (R.GRP_REQ g) (putF w F.GRP_REQ.REQ 1)) F.GRP_REQ.MODE = getF w F.GRP_REQ.MODE :=
  (getF_mergeWord_grpReq _ _ _).trans (getF_putF_other _ _ _ _ (by decide) (by decide) (by decide) (by decide))

/-- R104: the answer of a member that had not staged is noted; the last one's sets N. -/
theorem grpStaged_effect (d : Dev) {p i g token mask : Nat} (hs : d.grpState g = 1) (ht : token = (d.grp g).token)
    (hm : (d.grpNodes g).contains (p, i, mask) = true) (hn : (d.grp g).staged.contains (p, i) = false) :
    ((d.grpStaged p i g token mask).grp g).staged = (d.grp g).staged ++ [(p, i)] ∧
    ((d.grpNodes g).all (fun m => ((d.grp g).staged ++ [(p, i)]).contains (m.1, m.2.1)) = true →
      (d.grpStaged p i g token mask).grpState g = 2 ∧ ((d.grpStaged p i g token mask).grp g).n = some (d.grpIdx g + 2)) := by
  unfold Dev.grpStaged
  dsimp only
  rw [if_neg (by simpa [hs, ht] using And.intro hm hn)]
  obtain ⟨ha, hb, -, -⟩ := grpAllStaged_effect (d.setGrp g { d.grp g with staged := (d.grp g).staged ++ [(p, i)] }) g
  rw [Dev.grp_setGrp_same] at hb
  split
  · exact ⟨congrArg GroupSt.staged hb, fun _ => ⟨ha, congrArg GroupSt.n hb⟩⟩
  · next h => exact ⟨congrArg GroupSt.staged (Dev.grp_setGrp_same _ _ _), fun h' => absurd h' h⟩

/-- R104: at the deadline the change is ABORTED. -/
theorem grpDeadline_effect (d : Dev) (g : Nat) (hs : d.grpState g = 1)
    (h : (d.grp g).s + d.fld (R.GRP_CFG g) F.GRP_CFG.STAGEDL ≤ d.grpIdx g) : (d.grpDeadline g).grpState g = 4 := by
  unfold Dev.grpDeadline
  rw [if_pos (by simp [hs, h])]
  exact ((grpEv_inside _ _ _ _ _).fld (by decide)).trans (Dev.grpState_setGrpState _ _ _ (by decide))

/-- R104: a report of a member of a change is noted. -/
theorem grpApplyRpt_effect (d : Dev) {p i g token mask : Nat} (hs : d.grpState g = 2) (ht : token = (d.grp g).token)
    (hm : (d.grpNodes g).contains (p, i, mask) = true) :
    ((d.grpApplyRpt p i g token mask).grp g).applied.contains (p, i) = true := by
  unfold Dev.grpApplyRpt
  dsimp only
  cases hc : (d.grp g).applied.contains (p, i) with
  | true => simpa [hs, ht] using hc
  | false =>
    rw [if_neg (by simp [hs, ht]), if_pos hm, Dev.grp_setGrp_same]
    simp

/-- R104: in N + 1 to N + 4 the members that have not reported are asked again. -/
theorem grpRetry_effect (d : Dev) {g n : Nat} (hn : (d.grp g).n = some n) (hs : d.grpState g = 2) (h1 : n < d.grpIdx g)
    (h2 : d.grpIdx g ≤ n + 4) (h3 : (d.grp g).retries < d.grpIdx g - n) (ho : d.grpOpen g ≠ []) :
    ((d.grpRetry g).grp g).retries = d.grpIdx g - n ∧ (d.grpRetry g).fld (R.GRP_STAT g) F.GRP_STAT.RETRY = d.grpIdx g - n := by
  unfold Dev.grpRetry
  simp only [hn]
  rw [if_pos (by simp [hs, h1, h3, ho]; omega)]
  generalize hx : d.setGrp g _ = x
  have hgrp : (x.grp g).retries = d.grpIdx g - n := by rw [← hx, Dev.grp_setGrp_same]
  refine ⟨(congrArg GroupSt.retries (Queued.sendApply.grp g)).trans hgrp, (Queued.sendApply.fld _ _).trans ?_⟩
  rw [Dev.fld_setFld_same _ _ _ _ (by decide) (by decide)]
  exact Nat.mod_eq_of_lt (show d.grpIdx g - n < 8 by omega)

/-- R104: at the end of N + 4 the change has converged or is split. -/
theorem grpConverge_effect (d : Dev) {g n : Nat} (hn : (d.grp g).n = some n) (hs : d.grpState g = 2) (hst : (d.grp g).stop = 0)
    (h : n + 5 ≤ d.grpIdx g) :
    (d.grpOpen g = [] → (d.grpConverge g).grpState g = 3) ∧
    (d.grpOpen g ≠ [] → (d.grpConverge g).grpState g = 5 ∧ (d.grpConverge g).reg (R.GRP_SPLIT g) = wN (d.grpOpen g).length) := by
  unfold Dev.grpConverge
  simp only [hn]
  rw [if_neg (by simp [hst]), if_pos (by simp [hs, h])]
  constructor <;> intro ho
  · rw [if_pos (by simp [ho])]
    exact Dev.grpState_setGrpState _ _ _ (by decide)
  · rw [if_neg (by simp [ho])]
    generalize hx : (Dev.setGrp d g _).setGrpState g 5 = x
    have hx5 : x.grpState g = 5 := hx ▸ Dev.grpState_setGrpState _ _ _ (by decide)
    refine ⟨(Queued.sendApply.fld _ _).trans (((grpEv_inside _ _ _ _ _).fld (by decide)).trans ?_),
      (Queued.sendApply.reg _).trans (((grpEv_inside _ _ _ _ _).reg (by decide)).trans (Dev.reg_setReg_same _ _ _))⟩
    exact (Dev.fld_setReg_other _ _ _ (addr_ne (by decide) g 0 g 0)).trans hx5

theorem grpMode_inside (d : Dev) (g mode : Nat) :
    Inside [.AXIS_STAT, .DIO_OUT, .GRP_STAT] [.axs, .cap, .dio, .engs] d (d.grpMode g mode) := by
  unfold Dev.grpMode
  extract_lets d1
  have h1 : Inside [.GRP_STAT] [] d d1 := Inside.refl.setFld
  exact (Inside.ite _ (fun _ => h1.each fun _ _ _ => react_inside _ _ _ _ _) fun _ =>
    Inside.ite _ (fun _ => h1.each fun _ _ _ => react_inside _ _ _ _ _) fun _ => h1).within (by decide) (by decide)

theorem each_react_inside (d : Dev) (l : List AxisRec) (code cause : Nat) :
    Inside [.AXIS_STAT, .DIO_OUT] [.axs, .cap, .dio, .engs] d (d.each l (fun d a => d.react a.axis code cause)) :=
  Inside.refl.each fun _ _ _ => react_inside _ _ _ _ _

/-- The reactions of the axes leave GRP_STAT as the mode set it. -/
theorem reg_grpMode (d : Dev) (g mode h : Nat) :
    (d.grpMode g mode).reg (R.GRP_STAT h) = (d.setFld (R.GRP_STAT g) F.GRP_STAT.CURRENT mode).reg (R.GRP_STAT h) := by
  unfold Dev.grpMode
  dsimp only
  split
  · exact (each_react_inside _ _ _ _).reg (by decide)
  · split
    · exact (each_react_inside _ _ _ _).reg (by decide)
    · rfl

theorem fld_grpMode_current (d : Dev) (g mode : Nat) (h : mode < 2 ^ 8) :
    (d.grpMode g mode).fld (R.GRP_STAT g) F.GRP_STAT.CURRENT = mode := by
  rw [Dev.fld, reg_grpMode]
  exact (Dev.fld_setFld_same _ _ _ _ (by decide) (by decide)).trans (Nat.mod_eq_of_lt h)

theorem fld_grpMode_apart (d : Dev) (g mode : Nat) (f : Fld) (h : F.GRP_STAT.CURRENT.hi < f.lo ∨ f.hi < F.GRP_STAT.CURRENT.lo)
    (hl : f.lo ≤ f.hi) (h32 : f.hi < 32) : (d.grpMode g mode).fld (R.GRP_STAT g) f = d.fld (R.GRP_STAT g) f := by
  rw [Dev.fld, reg_grpMode]
  exact Dev.fld_setFld_apart _ _ _ _ _ h (by decide) hl h32

theorem grp_grpMode (d : Dev) (g mode h : Nat) : (d.grpMode g mode).grp h = d.grp h :=
  congrArg (fun l : LineSt => tget l.groups h {}) ((grpMode_inside d g mode).parts .line (by decide))

/-- R104: at N the staged mode takes effect, whether a FALLBACK was due or not. -/
theorem grpBoundary_effect (d : Dev) (g : Nat) (hn : (d.grp g).n.any (fun n => decide (n ≤ d.grpIdx g)) = true) (hs : d.grpState g = 2)
    (hst : (d.grp g).stop = 0) (hb : (d.grp g).boundaryDone = false) :
    ((d.grpBoundary g).grp g).boundaryDone = true ∧
    (d.grpBoundary g).fld (R.GRP_STAT g) F.GRP_STAT.CURRENT = d.fld (R.GRP_STAT g) F.GRP_STAT.STAGED := by
  obtain ⟨n, hx, hle⟩ := (Option.any_eq_true _ _).1 hn
  have hle := of_decide_eq_true hle
  unfold Dev.grpBoundary
  extract_lets x d1
  have hs1 : d1.grpState g = 2 := by
    unfold d1
    split
    · split
      · exact (fld_grpMode_apart _ _ _ _ (by decide) (by decide) (by decide)).trans hs
      · exact hs
    · exact hs
  have hsent : d.grpSent g = d.fld (R.GRP_STAT g) F.GRP_STAT.STAGED := if_neg (by simp [hst])
  have hlt : d.fld (R.GRP_STAT g) F.GRP_STAT.STAGED < 2 ^ 8 := getF_lt _ F.GRP_STAT.STAGED
  simp only [x, hx]
  rw [if_pos (by simp [hs1, hb, hle]), hsent]
  exact ⟨(congrArg GroupSt.boundaryDone (grp_grpMode _ _ _ _)).trans (congrArg GroupSt.boundaryDone (Dev.grp_setGrp_same _ _ _)),
    fld_grpMode_current _ _ _ hlt⟩

/-- Settles O15: each clause is the effect of its command, read in what follows it. -/
theorem groupsComplete : Obligations.GroupsComplete := by
  rintro s d rfl hon
  refine ⟨?_, ?_, ?_, ?_, ?_, ?_, ?_⟩
  case refine_1 =>
    intro ses g w hg hm hw
    refine runs_of_runIf (f := fun d => d.hostWrite ses (R.GRP_REQ g) (putF w F.GRP_REQ.REQ 1)) rfl hon (decide_eq_true hg) fun e he => ?_
    rw [hostWrite_grpReq _ _ _ _ hm hw] at he
    obtain ⟨h1, h2, h3, h4⟩ := grpStart_effect (s.start.setReg (R.GRP_REQ g) (s.start.written (R.GRP_REQ g) (putF w F.GRP_REQ.REQ 1))) g
    refine ⟨(he.grpState g).trans h1, (he.fld_own (by decide)).trans (h2.trans ?_), (congrArg GroupSt.token (he.grp g)).trans h3,
      (congrArg LineSt.nextToken he.kept.line).trans h4⟩
    exact (Dev.fld_setReg_same _ _ _ _).trans (fld_written_grpReq _ _ _)
  case refine_2 =>
    intro p head body crc tail w i b g hw hp ha hg hs ht hm hn
    refine runs_of_runIf (f := fun d => d.grpFrame (d.basePort p) 0x21 (head ++ body ++ crc ++ tail)) rfl hon (decide_eq_true hp) fun e he => ?_
    rw [Dev.grpFrame, ← hw, ha] at he
    subst hg
    obtain ⟨h1, h2⟩ := grpStaged_effect s.start hs ht hm hn
    refine ⟨(congrArg GroupSt.staged (he.grp _)).trans h1, fun hall => ?_⟩
    exact ⟨(he.grpState _).trans (h2 hall).1, (congrArg GroupSt.n (he.grp _)).trans (h2 hall).2⟩
  case refine_3 =>
    intro g hg hs h
    exact runs_of_runIf (f := fun d => d.grpDeadline g) rfl hon (decide_eq_true hg) fun e he => (he.grpState g).trans (grpDeadline_effect _ g hs h)
  case refine_4 =>
    intro g hg hn hs hst hb
    refine runs_of_runIf (f := fun d => d.grpBoundary g) rfl hon (decide_eq_true hg) fun e he => ?_
    obtain ⟨h1, h2⟩ := grpBoundary_effect s.start g hn hs hst hb
    exact ⟨(congrArg GroupSt.boundaryDone (he.grp g)).trans h1, (he.fld_own (by decide)).trans h2⟩
  case refine_5 =>
    intro p head body crc tail w i b g hw hp ha hg hs ht hm
    refine runs_of_runIf (f := fun d => d.grpFrame (d.basePort p) 0x24 (head ++ body ++ crc ++ tail)) rfl hon (decide_eq_true hp) fun e he => ?_
    rw [Dev.grpFrame, ← hw, ha] at he
    subst hg
    rw [he.grp]
    exact grpApplyRpt_effect _ hs ht hm
  case refine_6 =>
    intro g n hg hn hs h1 h2 h3 ho
    refine runs_of_runIf (f := fun d => d.grpRetry g) rfl hon (decide_eq_true hg) fun e he => ?_
    obtain ⟨hr, hf⟩ := grpRetry_effect s.start hn hs h1 h2 h3 ho
    exact ⟨(congrArg GroupSt.retries (he.grp g)).trans hr, (he.fld_own (by decide)).trans hf⟩
  case refine_7 =>
    intro g n hg hn hs hst h
    refine runs_of_runIf (f := fun d => d.grpConverge g) rfl hon (decide_eq_true hg) fun e he => ?_
    obtain ⟨h3, h5⟩ := grpConverge_effect s.start hn hs hst h
    exact ⟨fun ho => (he.grpState g).trans (h3 ho), fun ho => ⟨(he.grpState g).trans (h5 ho).1, (he.reg_own (by decide)).trans (h5 ho).2⟩⟩

end Sys2Proof.Machine

namespace Sys2Proof.Machine

/-! ### Fields of one name -/

/-- Registers of one name at one address are one register. -/
theorem Dev.reg_of_addr (d : Dev) {n : RegName} {i j k l : Nat} (h : Reg.addr ⟨n, i, j⟩ = Reg.addr ⟨n, k, l⟩) :
    d.reg ⟨n, i, j⟩ = d.reg ⟨n, k, l⟩ := by
  simp only [Dev.reg, h]

/-- A field lies within a word. -/
def Fld.inWord (f : Fld) : Bool := decide (f.lo ≤ f.hi) && decide (f.hi < 32)

/-- Two fields of a word that do not meet. -/
def Fld.apart (f g : Fld) : Bool := f.inWord && g.inWord && (decide (f.hi < g.lo) || decide (g.hi < f.lo))

/-- A field stands where another field, apart from it, of a register of the name was put. -/
theorem Dev.fld_setFld_field (d : Dev) {n : RegName} {i j k l v : Nat} {f g : Fld} (h : f.apart g = true) :
    (d.setFld ⟨n, i, j⟩ f v).fld ⟨n, k, l⟩ g = d.fld ⟨n, k, l⟩ g := by
  simp only [Fld.apart, Fld.inWord, Bool.and_eq_true, Bool.or_eq_true, decide_eq_true_eq] at h
  obtain ⟨⟨⟨hf, -⟩, hg, h32⟩, h⟩ := h
  by_cases ha : Reg.addr ⟨n, i, j⟩ = Reg.addr ⟨n, k, l⟩
  · have h1 := Dev.reg_of_addr (d.setFld ⟨n, i, j⟩ f v) ha
    have h2 := Dev.reg_of_addr d ha
    simp only [Dev.fld, ← h1, ← h2, Dev.reg_setFld_same]
    exact getF_putF_other _ _ _ _ h hf hg h32
  · exact Dev.fld_setFld_other d f g v ha

/-- What was put in a field reads from it where it is no wider. -/
theorem Dev.fld_setFld_of_lt (d : Dev) {r : Reg} {f : Fld} {v : Nat} (hv : v < 2 ^ (f.hi - f.lo + 1)) (h : f.inWord = true) :
    (d.setFld r f v).fld r f = v := by
  simp only [Fld.inWord, Bool.and_eq_true, decide_eq_true_eq] at h
  exact (Dev.fld_setFld_same d r f v h.2 h.1).trans (Nat.mod_eq_of_lt hv)

theorem Dev.fld_setReg_name (d : Dev) {n m : RegName} {i j k l : Nat} {w : Word} {g : Fld} (h : n.info.apart m.info = true) :
    (d.setReg ⟨n, i, j⟩ w).fld ⟨m, k, l⟩ g = d.fld ⟨m, k, l⟩ g :=
  Dev.fld_setReg_other d w g (addr_ne h i j k l)

theorem Dev.fld_setFld_name (d : Dev) {n m : RegName} {i j k l v : Nat} {f g : Fld} (h : n.info.apart m.info = true) :
    (d.setFld ⟨n, i, j⟩ f v).fld ⟨m, k, l⟩ g = d.fld ⟨m, k, l⟩ g := d.fld_setReg_name h

/-! ### Ports -/

theorem Dev.port_updPort_same (d : Dev) (p : Nat) (f : PortSt → PortSt) : (d.updPort p f).port p = f (d.port p) :=
  Dev.port_setPort_same _ _ _

theorem Dev.port_setPort_other (d : Dev) {p q : Nat} (x : PortSt) (h : p ≠ q) : (d.setPort p x).port q = d.port q :=
  tget_tset_other _ _ _ h

theorem Dev.port_updPort_other (d : Dev) {p q : Nat} (f : PortSt → PortSt) (h : p ≠ q) : (d.updPort p f).port q = d.port q :=
  Dev.port_setPort_other _ _ h

/-- What a change of a port keeps of its state, it keeps of every port's. -/
theorem Dev.port_updPort_keeps {α : Type} (d : Dev) (p q : Nat) {f : PortSt → PortSt} (g : PortSt → α) (h : ∀ x, g (f x) = g x) :
    g ((d.updPort p f).port q) = g (d.port q) := by
  unfold Dev.updPort
  rw [Dev.port_setPort]
  split
  · subst_vars
    exact h _
  · rfl

theorem Dev.port_of_line {d e : Dev} (h : e.line = d.line) (p : Nat) : e.port p = d.port p := by simp only [Dev.port, h]

theorem Inside.port {l : List RegName} {ps : List Part} {d e : Dev} (h : Inside l ps d e) (p : Nat) (hl : Part.line ∉ ps) :
    e.port p = d.port p := Dev.port_of_line (h.parts .line hl) p

theorem Inside.portState {l : List RegName} {ps : List Part} {d e : Dev} (h : Inside l ps d e) (p : Nat)
    (hm : l.all (fun n => n.info.apart RegName.LINE_STAT.info) = true) : e.portState p = d.portState p := h.fld hm

@[simp] theorem Dev.port_setReg (d : Dev) (r : Reg) (w : Word) (p : Nat) : (d.setReg r w).port p = d.port p := rfl

@[simp] theorem Dev.port_setFld (d : Dev) (r : Reg) (f : Fld) (v p : Nat) : (d.setFld r f v).port p = d.port p := rfl

@[simp] theorem Dev.port_emit (d : Dev) (o : Out) (p : Nat) : (d.emit o).port p = d.port p := rfl

@[simp] theorem Dev.port_lineEv (d : Dev) (c k q p : Nat) (x : List Word) : (d.lineEv c k q x).port p = d.port p := rfl

@[simp] theorem Dev.reg_updPort (d : Dev) (p : Nat) (f : PortSt → PortSt) (r : Reg) : (d.updPort p f).reg r = d.reg r := rfl

@[simp] theorem Dev.fld_updPort (d : Dev) (p : Nat) (f : PortSt → PortSt) (r : Reg) (g : Fld) : (d.updPort p f).fld r g = d.fld r g := rfl

@[simp] theorem Dev.portState_updPort (d : Dev) (p q : Nat) (f : PortSt → PortSt) : (d.updPort p f).portState q = d.portState q := rfl

theorem addr_LINE_STAT_ne {p q : Nat} (hp : p < 24) (hq : q < 24) (h : p ≠ q) : (R.LINE_STAT p).addr ≠ (R.LINE_STAT q).addr := by
  rw [addr_LINE_STAT, addr_LINE_STAT]
  omega

theorem Dev.portState_setPortState_same (d : Dev) {p st : Nat} (h : st < 16) : (d.setPortState p st).portState p = st :=
  d.fld_setFld_of_lt h (by decide)

theorem Dev.portState_setPortState_other (d : Dev) {p q : Nat} (st : Nat) (hp : p < 24) (hq : q < 24) (h : p ≠ q) :
    (d.setPortState p st).portState q = d.portState q := Dev.fld_setFld_other d _ _ _ (addr_LINE_STAT_ne hp hq h)

/-! ### Frames of the line's shared operations -/

section
variable {l : List RegName} {ps : List Part} {d e : Dev}

theorem Inside.setPort (h : Inside l ps d e) {p : Nat} {x : PortSt} : Inside l (.line :: ps) d (e.setPort p x) := h.line

theorem Inside.updPort (h : Inside l ps d e) {p : Nat} {f : PortSt → PortSt} : Inside l (.line :: ps) d (e.updPort p f) := h.line

theorem Inside.setSlot (h : Inside l ps d e) {p i : Nat} {x : SlotSt} : Inside l (.line :: ps) d (e.setSlot p i x) := h.line

theorem Inside.setPortState (h : Inside l ps d e) {p st : Nat} : Inside (.LINE_STAT :: l) ps d (e.setPortState p st) := h.setFld

end

theorem linkPut_inside (d : Dev) (o : Out) : Inside [] [.link] d (d.linkPut o) := by
  unfold Dev.linkPut
  exact Inside.ite _ (fun _ => Inside.refl) fun _ => Inside.refl.link

theorem linkSend_inside (d : Dev) (t : Nat) (x : List Int) : Inside [] [.link] d (d.linkSend t x) :=
  (Inside.refl.link.step (linkPut_inside _ _)).within (by decide) (by decide)

theorem askCopy_inside (d : Dev) : Inside [.PAIR_STAT, .PAIR_CNT_RESYNC] [.duo, .link] d d.askCopy := by
  have h : Inside [.PAIR_CNT_RESYNC, .PAIR_STAT] [.duo] d
      (((d.setDuo { d.duo with copyWait := true, copying := false, early := [], gapTick := none }).setMstate 1).inc R.PAIR_CNT_RESYNC) :=
    Inside.refl.duo.setFld.inc
  exact (h.step (linkSend_inside _ _ _)).within (by decide) (by decide)

theorem dioAllSafe_inside (d : Dev) (on : Bool) : Inside [] [.dio] d (d.dioAllSafe on) := by
  unfold Dev.dioAllSafe
  extract_lets d1
  have h1 : Inside [] [.dio] d d1 := Inside.within (Inside.ite _ (fun _ => Inside.refl.each fun _ _ _ => Inside.refl.dio) fun _ => Inside.refl)
    (by decide) (by decide)
  exact (h1.dio.each fun x b _ => Inside.refl.each fun _ _ _ => dioDrive_inside _ _).within (by decide) (by decide)

theorem roleIs_inside (d : Dev) (role : Nat) : Inside [.LINE_GSTAT] [.dio] d (d.roleIs role) :=
  (Inside.refl.setFld.step (dioAllSafe_inside _ _)).within (by decide) (by decide)

theorem fld_roleIs (d : Dev) {role : Nat} (h : role < 4) : (d.roleIs role).fld R.LINE_GSTAT F.LINE_GSTAT.ROLE = role :=
  ((dioAllSafe_inside _ _).fld (by decide)).trans (d.fld_setFld_of_lt h (by decide))

theorem setRole_inside (d : Dev) (p role : Nat) : Inside [.LINE_GSTAT] [.dio] d (d.setRole p role) :=
  Inside.ite _ (fun _ => Inside.refl) fun _ => (roleIs_inside d role).evObj

theorem fld_setRole (d : Dev) {p role : Nat} (h : role < 4) : (d.setRole p role).fld R.LINE_GSTAT F.LINE_GSTAT.ROLE = role := by
  unfold Dev.setRole
  split
  · next hr => exact eq_of_beq hr
  · exact ((Inside.evObj Inside.refl).fld (by decide)).trans (fld_roleIs d h)

theorem decideRole_inside (d : Dev) (p role : Nat) : Inside [.LINE_GSTAT] [.dio] d (d.decideRole p role) :=
  Inside.ite _ (fun _ => Inside.refl) fun _ => setRole_inside d p role

theorem fld_decideRole (d : Dev) {p role : Nat} (h : role < 4) : (d.decideRole p role).fld R.LINE_GSTAT F.LINE_GSTAT.ROLE =
    if d.fld R.LINE_GSTAT F.LINE_GSTAT.ROLE = 0 then role else d.fld R.LINE_GSTAT F.LINE_GSTAT.ROLE := by
  unfold Dev.decideRole
  by_cases h0 : d.fld R.LINE_GSTAT F.LINE_GSTAT.ROLE = 0
  · rw [if_neg (by simp [h0]), if_pos h0, fld_setRole d h]
  · rw [if_pos (by simp [h0]), if_neg h0]

theorem pairServo_inside (d : Dev) : Inside [.TIME_RATE] [.fresh] d d.pairServo :=
  (Inside.ite _ (fun _ => Inside.refl.fresh.setReg) fun _ => Inside.refl).within (by decide) (by decide)

theorem silencePort_inside (d : Dev) (p : Nat) : Inside [.LINE_STAT] [.line] d (d.silencePort p) := by
  unfold Dev.silencePort
  exact Inside.ite _ (fun _ => Inside.refl) fun _ => Inside.refl.setPortState.updPort

theorem safeSlot_inside (d : Dev) (p i : Nat) (b : List Byte) : Inside [] [.safe] d (d.safeSlot p i b) :=
  Inside.refl.each fun _ _ _ => Inside.refl.safe

end Sys2Proof.Machine

namespace Sys2Proof.Machine

/-! ### Links and breaks (R69, R95) -/

theorem declareBreak_inside (d : Dev) (p : Nat) (ix before after : Option Nat) :
    Inside [.LINE_STAT, .LINE_BREAKPOS] [.line] d (d.declareBreak p ix before after) := by
  unfold Dev.declareBreak
  extract_lets b x inDiscover healed further d1 phys island d2 pairUp
  have h1 : Inside [.LINE_STAT, .LINE_BREAKPOS] [.line] d d1 := Inside.refl.evObj.setW1c.setReg.within (by decide) (by decide)
  have h2 : Inside [.LINE_STAT, .LINE_BREAKPOS] [.line] d d2 :=
    (Inside.ite _ (fun _ => h1.evObj) fun _ => h1).within (by decide) (by decide)
  exact (Inside.ite _ (fun _ => Inside.refl) fun _ => h2.updPort).within (by decide) (by decide)

/-- A declared break leaves alone what it does not name of the ports. -/
theorem port_declareBreak_keeps {α : Type} (d : Dev) (p q : Nat) (ix before after : Option Nat) (g : PortSt → α)
    (h : ∀ x brk2 brkIx suspCyc healPending relayPending, g { x with
      brk := true, brk2 := brk2, brkIx := brkIx, joinSusp := true, validCyc := 0, suspCyc := suspCyc, healPending := healPending,
      relayPending := relayPending } = g x) : g ((d.declareBreak p ix before after).port q) = g (d.port q) := by
  unfold Dev.declareBreak
  extract_lets b x inDiscover healed further d1 phys island d2 pairUp
  have h2 : Inside [] [] d1 d2 := Inside.ite _ (fun _ => Inside.refl.evObj) fun _ => Inside.refl
  split
  · rfl
  · rw [Dev.port_updPort_keeps d2 b q g fun x => h x _ _ _ _ _, h2.port q (by decide)]
    rfl

theorem fld_declareBreak_apart (d : Dev) (p q : Nat) (ix before after : Option Nat) {f : Fld}
    (h : F.LINE_STAT.BREAK.apart f = true) :
    (d.declareBreak p ix before after).fld (R.LINE_STAT q) f = d.fld (R.LINE_STAT q) f := by
  unfold Dev.declareBreak
  extract_lets b x inDiscover healed further d1 phys island d2 pairUp
  have h1 : d1.fld (R.LINE_STAT q) f = d.fld (R.LINE_STAT q) f :=
    (Dev.fld_setReg_name _ (by decide)).trans (d.fld_setFld_field h)
  have h2 : Inside [] [] d1 d2 := Inside.ite _ (fun _ => Inside.refl.evObj) fun _ => Inside.refl
  split
  · rfl
  · exact (h2.fld (m := .LINE_STAT) (by decide)).trans h1

/-- The first sign of a break on a port that sends declares it. -/
theorem declareBreak_effect (d : Dev) {p : Nat} (ix before after : Option Nat) (hs : sendingState (d.portState (d.basePort p)) = true)
    (hd : d.phase (d.basePort p) ≠ 2 ∨ d.noneHeld (d.basePort p) = false) (hb : (d.port (d.basePort p)).brk = false) :
    (d.declareBreak p ix before after).bit (R.LINE_STAT (d.basePort p)) F.LINE_STAT.BREAK = true ∧
    ((d.declareBreak p ix before after).port (d.basePort p)).brk = true ∧
    ((d.declareBreak p ix before after).port (d.basePort p)).joinSusp = true := by
  unfold Dev.declareBreak
  extract_lets b x inDiscover healed further d1 phys island d2 pairUp
  have hdisc : inDiscover = false := by
    rcases hd with h | h <;> simp [inDiscover, b, h]
  have hfur : further = false := by simp [further, x, b, hb]
  have h1 : d1.fld (R.LINE_STAT b) F.LINE_STAT.BREAK = 1 := by
    have h := d.fld_setFld_same (R.LINE_STAT b) F.LINE_STAT.BREAK (d.fld (R.LINE_STAT b) F.LINE_STAT.BREAK ||| 1) (by decide) (by decide)
    have hbit : (d.fld (R.LINE_STAT b) F.LINE_STAT.BREAK ||| 1) % 2 = 1 := by simp
    exact (Dev.fld_setReg_name _ (by decide)).trans (h.trans hbit)
  have h2 : Inside [] [] d1 d2 := Inside.ite _ (fun _ => Inside.refl.evObj) fun _ => Inside.refl
  rw [if_neg (by simp [hdisc, hfur, b, hs]), Dev.port_updPort_same]
  exact ⟨beq_iff_eq.2 ((h2.fld (m := .LINE_STAT) (by decide)).trans h1), rfl, rfl⟩

/-- R69: a link comes up. -/
theorem lineLinkUp_effect (d : Dev) (p : Nat) (h : (d.port p).linkUp = false) :
    ((d.lineLinkUp p).port p).linkUp = true ∧ ((d.lineLinkUp p).port p).upClk = d.clk ∧
    (d.lineLinkUp p).bit (R.LINE_STAT p) F.LINE_STAT.LOS = false := by
  unfold Dev.lineLinkUp
  rw [if_neg (by simp [h])]
  have hp := d.port_updPort_same p (fun x => { x with linkUp := true, upClk := d.clk })
  refine ⟨congrArg PortSt.linkUp hp, congrArg PortSt.upClk hp, ?_⟩
  exact beq_eq_false_iff_ne.2 fun h1 => absurd ((Dev.fld_setFld_of_lt _ (by decide) (by decide)).symm.trans h1) (by decide)

/-- R69: a link goes down. -/
theorem lineLinkDown_effect (d : Dev) (p : Nat) :
    ((d.lineLinkDown p).port p).linkUp = false ∧ (d.lineLinkDown p).bit (R.LINE_STAT p) F.LINE_STAT.LOS = true := by
  unfold Dev.lineLinkDown Dev.breakAt
  extract_lets b d1 n
  have hp := d.port_updPort_same p (fun x => { x with linkUp := false })
  refine ⟨(port_declareBreak_keeps d1 p p _ _ _ PortSt.linkUp fun _ _ _ _ _ _ => rfl).trans (congrArg PortSt.linkUp hp), ?_⟩
  exact beq_iff_eq.2 ((fld_declareBreak_apart d1 p p _ _ _ (by decide)).trans (Dev.fld_setFld_of_lt _ (by decide) (by decide)))

/-- R95: every LINK_DOWN frame declares a break with some place. -/
theorem linkDownFrame_declares (d : Dev) {p i : Nat} {w b : List Byte} (h : acyclicIn 0x1A 3 w = some (i, b)) :
    ∃ ix before after, d.linkDownFrame p w = d.declareBreak p ix before after := by
  unfold Dev.linkDownFrame
  rw [h]
  dsimp only
  split
  · unfold Dev.linkDownAt
    dsimp only
    split
    · exact ⟨_, _, _, rfl⟩
    · exact ⟨_, _, _, rfl⟩
  · exact ⟨_, _, _, rfl⟩

end Sys2Proof.Machine

namespace Sys2Proof.Machine

/-! ### Writes of LINE_CTL (R107) -/

theorem regDo_of_line (d : Dev) (ses : Nat) {r : Reg} (old new w : Word) (h : blkOf r.addr = .line) :
    d.regDo ses r old new w = d.netDo r old new w := by
  simp only [Dev.regDo, h]

theorem netDo_lineCtl (d : Dev) (p : Nat) (old new w : Word) : d.netDo (R.LINE_CTL p) old new w = d.lineCtlDo p w := by
  simp only [Dev.netDo]

theorem regDo_lineCtl (d : Dev) (ses p : Nat) (old new w : Word) : d.regDo ses (R.LINE_CTL p) old new w = d.lineCtlDo p w := by
  have hb : blkOf (R.LINE_CTL p).addr = .line := by
    rw [addr_LINE_CTL]
    exact blkOf_line (by omega) (by omega)
  rw [regDo_of_line d ses old new w hb, netDo_lineCtl]

/-- A write of LINE_CTL with an action bit acts. -/
theorem writeActs_lineCtl {w : Word} (h : getF w F.LINE_CTL.START = 1 ∨ getF w F.LINE_CTL.STOP = 1 ∨ getF w F.LINE_CTL.REDISC = 1) :
    writeActs RegName.LINE_CTL.info w = true := by
  rcases h with h | h | h <;> simp [writeActs, RegName.info, h]

/-- An accepted write of LINE_CTL with an action bit. -/
theorem hostWrite_lineCtl (d : Dev) (ses p : Nat) (w : Word) (hm : d.MayWrite ses (R.LINE_CTL p)) (hw : d.WriteOk (R.LINE_CTL p) w)
    (h : getF w F.LINE_CTL.START = 1 ∨ getF w F.LINE_CTL.STOP = 1 ∨ getF w F.LINE_CTL.REDISC = 1) :
    d.hostWrite ses (R.LINE_CTL p) w = ((d.setReg (R.LINE_CTL p) (d.written (R.LINE_CTL p) w)).lineCtlDo p w).answer .ok := by
  rw [hostWrite_ok d ses _ _ hm (.inr (.inl (writeActs_lineCtl h))) hw rfl, regDo_lineCtl]

/-- R107: REDISC asks for a new measurement, and for the restoration of a healed or relayed ring. -/
def Dev.redisc (d : Dev) (p : Nat) : Dev :=
  d.updPort p (fun x => { x with restorePending := x.restorePending || d.phase p == 4 || d.phase p == 5, remeasure := true })

/-- What a write of LINE_CTL does: REDISC first, then STOP or START. -/
theorem lineCtlDo_eq (d : Dev) (p : Nat) (w : Word) : d.lineCtlDo p w =
    if getF w F.LINE_CTL.STOP = 1 then (if getF w F.LINE_CTL.REDISC = 1 then d.redisc p else d).portStop p
    else if getF w F.LINE_CTL.START = 1 then (if getF w F.LINE_CTL.REDISC = 1 then d.redisc p else d).portStart p
    else if getF w F.LINE_CTL.REDISC = 1 then d.redisc p else d := by
  unfold Dev.lineCtlDo
  simp only [beq_iff_eq, Dev.redisc]

theorem portStart_effect (d : Dev) (p : Nat) : (d.portStart p).portState p = 1 ∧ ((d.portStart p).port p).listenClk = d.clk := by
  unfold Dev.portStart
  extract_lets d1
  refine ⟨?_, congrArg PortSt.listenClk (Dev.port_updPort_same d1 p _)⟩
  rw [Dev.portState_updPort]
  exact (Dev.fld_setReg_name _ (by decide)).trans
    (((d.setPortState p 1).fld_setFld_field (by decide)).trans (d.portState_setPortState_same (by decide)))

theorem portOff_portState (d : Dev) (p : Nat) : (d.portOff p).portState p = 0 := d.portState_setPortState_same (by decide)

theorem portStop_effect (d : Dev) (p : Nat) :
    if sendingState (d.portState p) then ((d.portStop p).port p).stopAsked = true ∧ (d.portStop p).portState p = d.portState p
    else (d.portStop p).portState p = 0 := by
  unfold Dev.portStop
  split
  · exact ⟨congrArg PortSt.stopAsked (Dev.port_updPort_same d p _), rfl⟩
  · exact portOff_portState d p

theorem redisc_effect (d : Dev) (p : Nat) : ((d.redisc p).port p).remeasure = true ∧
    (d.phase p = 4 ∨ d.phase p = 5 → ((d.redisc p).port p).restorePending = true) := by
  unfold Dev.redisc
  rw [Dev.port_updPort_same]
  exact ⟨rfl, fun h => by rcases h with h | h <;> simp [h]⟩

/-- STOP and START act on the line as it stood but for LINE_CTL and what REDISC asks for. -/
theorem lineCtlDo_after (d : Dev) (p : Nat) (v w : Word) : ∃ x, Inside [.LINE_CTL] [.line] d x ∧
    (d.setReg (R.LINE_CTL p) v).lineCtlDo p w =
      if getF w F.LINE_CTL.STOP = 1 then x.portStop p else if getF w F.LINE_CTL.START = 1 then x.portStart p else x :=
  ⟨_, (Inside.ite _ (fun _ => Inside.refl.setReg.updPort) fun _ => Inside.refl.setReg).within (by decide) (by decide), lineCtlDo_eq _ _ _⟩

theorem phase_congr {d e : Dev} {p : Nat} (hs : e.portState p = d.portState p) (hp : e.port p = d.port p) : e.phase p = d.phase p := by
  simp only [Dev.phase, hs, hp]

end Sys2Proof.Machine

namespace Sys2Proof.Machine

/-! ### One step for each of a list -/

/-- What every step keeps holds after them all. -/
theorem Dev.each_keeps {α : Type} {Q : Dev → Prop} {f : Dev → α → Dev} {l : List α} 
    (h : ∀ d a, a ∈ l → Q d → Q (f d a)) {d : Dev} (hd : Q d) :
    Q (d.each l f) := by
  induction l generalizing d with
  | nil => exact hd
  | cons a as ih => exact ih (fun e b hb => h e b (List.mem_cons_of_mem a hb)) (h d a List.mem_cons_self hd)

/-- The step for `a` brings about `P` from `Q`; the steps before it keep `Q`, and those after it keep `P`. -/
theorem Dev.each_at {α : Type} {Q P : Dev → Prop} {f : Dev → α → Dev} {l : List α} {a : α} (ha : a ∈ l) (hl : l.Nodup)
    (before : ∀ d b, b ∈ l → b ≠ a → Q d → Q (f d b)) (step : ∀ d, Q d → P (f d a))
    (after : ∀ d b, b ∈ l → b ≠ a → P d → P (f d b))
    {d : Dev} (hd : Q d) : P (d.each l f) := by
  induction l generalizing d with
  | nil => exact absurd ha List.not_mem_nil
  | cons b bs ih =>
    obtain ⟨hb, hbs⟩ := List.nodup_cons.1 hl
    by_cases hab : a = b
    · subst hab
      refine Dev.each_keeps (Q := P) (fun e c hc => after e c (List.mem_cons_of_mem a hc) ?_) (step d hd)
      exact fun h => hb (h ▸ hc)
    · have hmem := (List.mem_cons.1 ha).resolve_left hab
      exact ih hmem hbs (fun e c hc => before e c (List.mem_cons_of_mem b hc)) (fun e c hc => after e c (List.mem_cons_of_mem b hc))
        (before d b List.mem_cons_self (Ne.symm hab) hd)

theorem allPorts_nodup : allPorts.Nodup := List.nodup_range

theorem mem_allPorts {p : Nat} : p ∈ allPorts ↔ p < 24 := List.mem_range

/-! ### Silence (R86 to R88) -/

theorem silencePort_portState (d : Dev) {p : Nat} (h : d.portState p ≠ 0) : (d.silencePort p).portState p = 7 := by
  unfold Dev.silencePort
  rw [if_neg (by simp [h]), Dev.portState_updPort, Dev.portState_setPortState_same _ (by decide)]

theorem silencePort_portState_other (d : Dev) {p q : Nat} (hp : p < 24) (hq : q < 24) (h : p ≠ q) :
    (d.silencePort p).portState q = d.portState q := by
  unfold Dev.silencePort
  split
  · rfl
  · rw [Dev.portState_updPort, Dev.portState_setPortState_other _ _ hp hq h]

/-- What the silencing of a port leaves alone of the ports. -/
theorem port_silencePort_keeps {α : Type} (d : Dev) (p q : Nat) (g : PortSt → α) (h : ∀ x, g { x with
      listening := false, queue := [], healPending := false, relayPending := false, restorePending := false, keepAlive := false,
      relaying := false } = g x) : g ((d.silencePort p).port q) = g (d.port q) := by
  unfold Dev.silencePort
  split
  · rfl
  · exact Dev.port_updPort_keeps _ _ _ g h

/-- All ports fall silent that are not off. -/
theorem silence_all (d : Dev) {p : Nat} (hp : p < 24) (h : d.portState p ≠ 0) : (d.each allPorts Dev.silencePort).portState p = 7 := by
  refine Dev.each_at (Q := fun e => e.portState p ≠ 0) (P := fun e => e.portState p = 7) (mem_allPorts.2 hp) allPorts_nodup ?_
    (fun e he => silencePort_portState e he) ?_ h
  · intro e q hq hne he
    rwa [silencePort_portState_other e (mem_allPorts.1 hq) hp hne]
  · intro e q hq hne he
    rwa [silencePort_portState_other e (mem_allPorts.1 hq) hp hne]

/-! ### The end of listening (R85, R86) -/

/-- R88: the role that the unit has taken is silent. -/
def Dev.silentRole (d : Dev) : Bool := d.fld R.LINE_GSTAT F.LINE_GSTAT.ROLE == 2 || d.fld R.LINE_GSTAT F.LINE_GSTAT.ROLE == 3

/-- R85: a port has listened for its time. -/
def Dev.listened (d : Dev) (p : Nat) : Bool :=
  d.portState p == 1 && (d.port p).listening && d.mayCycle && d.nodes p != 0 &&
    d.since (d.port p).listenClk (clksOfNs (2 * periodNs (d.portK p)))

/-- R85, R88: a port that has not listened for its time goes on; one that has falls silent or sends. -/
theorem listenExpiry_eq (d : Dev) (p : Nat) : d.listenExpiry p =
    if d.listened p then
      if d.silentRole then d.silencePort p
      else ((d.setRole p 1).setPortState p 2).updPort p (fun y => { y with listening := false, goodLast := false, markerNs := none })
    else d := by
  have h : d.listened p = !(d.portState p != 1 || !(d.port p).listening || !d.mayCycle || d.nodes p == 0 ||
      !d.since (d.port p).listenClk (clksOfNs (2 * periodNs (d.portK p)))) := by simp [Dev.listened, bne]
  unfold Dev.listenExpiry Dev.silentRole
  rw [h]
  dsimp only
  cases (d.portState p != 1 || !(d.port p).listening || !d.mayCycle || d.nodes p == 0 ||
      !d.since (d.port p).listenClk (clksOfNs (2 * periodNs (d.portK p)))) <;> rfl

theorem listenExpiry_inside (d : Dev) (p : Nat) : Inside [.LINE_GSTAT, .LINE_STAT] [.dio, .line] d (d.listenExpiry p) := by
  rw [listenExpiry_eq]
  exact (Inside.ite _ (fun _ => Inside.ite _ (fun _ => silencePort_inside d p)
    fun _ => (setRole_inside d p 1).setPortState.updPort) fun _ => Inside.refl).within (by decide) (by decide)

theorem listenExpiry_other (d : Dev) {p q : Nat} (hp : p < 24) (hq : q < 24) (h : p ≠ q) :
    (d.listenExpiry p).portState q = d.portState q ∧ (d.listenExpiry p).port q = d.port q := by
  rw [listenExpiry_eq]
  split
  · split
    · refine ⟨silencePort_portState_other d hp hq h, ?_⟩
      unfold Dev.silencePort
      split
      · rfl
      · exact Dev.port_updPort_other _ _ h
    · rw [Dev.portState_updPort, Dev.portState_setPortState_other _ _ hp hq h, Dev.port_updPort_other _ _ h]
      exact ⟨(setRole_inside d p 1).portState q (by decide), (setRole_inside d p 1).port q (by decide)⟩
  · exact ⟨rfl, rfl⟩

theorem listenExpiry_silentRole (d : Dev) (p : Nat) : (d.listenExpiry p).silentRole = d.silentRole := by
  rw [listenExpiry_eq]
  split
  · split
    · simp only [Dev.silentRole, (silencePort_inside d p).fld (m := .LINE_GSTAT) (by decide)]
    · next h =>
      have hrole : ((d.setRole p 1).setPortState p 2).fld R.LINE_GSTAT F.LINE_GSTAT.ROLE = 1 :=
        (Dev.fld_setFld_name _ (by decide)).trans (fld_setRole d (by decide))
      rw [Bool.eq_false_of_not_eq_true h]
      simp only [Dev.silentRole, Dev.fld_updPort, hrole]
      rfl
  · rfl

/-- What a unit's ports do not change of the sign that cycle starts may be sent. -/
theorem Inside.mayCycle {l : List RegName} {ps : List Part} {d e : Dev} (h : Inside l ps d e) (hl : Part.loader ∉ ps)
    (hm : l.all (fun n => n.info.apart RegName.TIME_STAT.info) = true) : e.mayCycle = d.mayCycle := by
  have hj : e.loader = d.loader := h.parts .loader hl
  simp only [Dev.mayCycle, Dev.running, Dev.winOpen, Dev.bit, hj, h.fld (m := .TIME_STAT) hm]

theorem listened_of_inside {d e : Dev} (h : Inside [.LINE_GSTAT, .LINE_STAT] [.dio, .line] d e) {p : Nat} (hs : e.portState p = d.portState p)
    (hp : e.port p = d.port p) : e.listened p = d.listened p := by
  have hc : e.clk = d.clk := h.parts .clk (by decide)
  simp only [Dev.listened, hs, hp, h.mayCycle (by decide) (by decide), Dev.nodes, Dev.portK, Dev.since, hc, h.fld (m := .LINE_CFG) (by decide)]
  rfl

/-- R85, R86: each port that has listened for its time, whatever the ports before it did. -/
theorem listenExpiry_all (d : Dev) {p : Nat} (hp : p < 24) (h : d.listened p = true) :
    (d.each allPorts Dev.listenExpiry).portState p = if d.silentRole then 7 else 2 := by
  refine Dev.each_at (Q := fun e => Inside [.LINE_GSTAT, .LINE_STAT] [.dio, .line] d e ∧ e.portState p = d.portState p ∧ e.port p = d.port p ∧
    e.silentRole = d.silentRole) (P := fun e => e.portState p = if d.silentRole then 7 else 2) (mem_allPorts.2 hp) allPorts_nodup ?_ ?_ ?_
    ⟨Inside.refl.within (by decide) (by decide), rfl, rfl, rfl⟩
  · rintro e q hq hne ⟨hi, hs, hx, hr⟩
    obtain ⟨h1, h2⟩ := listenExpiry_other e (mem_allPorts.1 hq) hp hne
    exact ⟨hi.trans (listenExpiry_inside e q), h1.trans hs, h2.trans hx, (listenExpiry_silentRole e q).trans hr⟩
  · rintro e ⟨hi, hs, hx, hr⟩
    have hst : e.portState p ≠ 0 := by
      simp only [Dev.listened, Bool.and_eq_true, beq_iff_eq] at h
      obtain ⟨⟨⟨⟨h1, -⟩, -⟩, -⟩, -⟩ := h
      omega
    rw [listenExpiry_eq, if_pos ((listened_of_inside hi hs hx).trans h), hr]
    split
    · exact silencePort_portState e hst
    · rw [Dev.portState_updPort, Dev.portState_setPortState_same _ (by decide)]
  · intro e q hq hne he
    exact (listenExpiry_other e (mem_allPorts.1 hq) hp hne).1.trans he

theorem demoteExpiry_inside (d : Dev) :
    Inside [.LINE_GSTAT, .PAIR_STAT, .PAIR_CNT_RESYNC] [.line, .dio, .duo, .link] d d.demoteExpiry := by
  unfold Dev.demoteExpiry
  split
  · exact Inside.refl.within (by decide) (by decide)
  · refine (Inside.ite _ (fun _ => Inside.refl) fun _ => ?_).within (List.Subset.refl _) (List.Subset.refl _)
    extract_lets y d0 d1
    have h1 : Inside [.LINE_GSTAT] [.dio, .line] d d1 := Inside.refl.line.step (setRole_inside _ _ _)
    exact (Inside.ite _ (fun _ => h1.ev.step (askCopy_inside _)) fun _ => h1).within (by decide) (by decide)

end Sys2Proof.Machine

namespace Sys2Proof.Machine

/-! ### Cycle starts of other units (R86, R87) -/

theorem hearCycle_inside (d : Dev) (p : Nat) (f : CycFrame) :
    Inside [.LINE_CYCLE, .PAIR_STAT, .TIME_RATE] [.line, .fresh] d (d.hearCycle p f) := by
  unfold Dev.hearCycle
  extract_lets d1 d2
  have h1 : Inside [.LINE_CYCLE] [.line] d d1 := Inside.refl.updPort.setReg
  have h2 : Inside [.LINE_CYCLE, .PAIR_STAT] [.line] d d2 :=
    (Inside.ite _ (fun _ => h1) fun _ => h1.setFld).within (by decide) (by decide)
  exact (Inside.ite _ (fun _ => h2.step (pairServo_inside _)) fun _ => h2).within (by decide) (by decide)

/-- R86, R548: what a port keeps of a cycle start that it hears. -/
theorem hearCycle_effect (d : Dev) (p : Nat) (f : CycFrame) :
    (d.hearCycle p f).reg (R.LINE_CYCLE p) = wN f.cycle ∧ ((d.hearCycle p f).port p).heardNs = some d.ns := by
  unfold Dev.hearCycle
  extract_lets d1 d2
  have h2 : Inside [.PAIR_STAT] [] d1 d2 := Inside.ite _ (fun _ => Inside.refl) fun _ => Inside.refl.setFld
  have h3 : Inside [.PAIR_STAT, .TIME_RATE] [.fresh] d1 (if d.duo.linkLost then d2.pairServo else d2) :=
    (Inside.ite _ (fun _ => h2.step (pairServo_inside _)) fun _ => h2).within (by decide) (by decide)
  refine ⟨(h3.reg (by decide)).trans (Dev.reg_setReg_same _ _ _), ?_⟩
  rw [h3.port p (by decide), Dev.port_setReg, Dev.port_updPort_same]

/-- R86: a listening port falls silent, and decides the role of a unit that has none. -/
theorem foreignCycle_listening (d : Dev) {p : Nat} {f : CycFrame} (hu : f.unit ≠ Config.serial.toNat % 65536) (hn : d.nodes p ≠ 0)
    (hs : d.portState p = 1) (hl : (d.port p).listening = true) :
    (d.foreignCycle p f).portState p = 7 ∧ (d.foreignCycle p f).reg (R.LINE_CYCLE p) = wN f.cycle ∧
    ((d.foreignCycle p f).port p).heardNs = some d.ns ∧
    (d.foreignCycle p f).fld R.LINE_GSTAT F.LINE_GSTAT.ROLE =
      (if d.fld R.LINE_GSTAT F.LINE_GSTAT.ROLE = 0 then 2 else d.fld R.LINE_GSTAT F.LINE_GSTAT.ROLE) := by
  unfold Dev.foreignCycle
  extract_lets st own rank d1 d2 d3
  have hc := hearCycle_inside d p f
  obtain ⟨hcyc, hheard⟩ := hearCycle_effect d p f
  have h3 : Inside [] [] d2 d3 := Inside.ite _ (fun _ => Inside.refl.ev) fun _ => Inside.refl
  have h4 := decideRole_inside d3 p 2
  have h5 := silencePort_inside (d3.decideRole p 2) p
  have hst : (d3.decideRole p 2).portState p = 1 :=
    (h4.portState p (by decide)).trans ((h3.portState p (by decide)).trans ((hc.portState p (by decide)).trans hs))
  rw [if_neg (by simp [hu, st, hs]), if_neg (by simp [hn]), if_neg (by simp [st, hs]), if_neg (by simp [st, hs, sendingState]),
    if_pos (by simp [st, hs, hl])]
  refine ⟨silencePort_portState _ (by omega), (h5.reg (by decide)).trans ((h4.reg (by decide)).trans ((h3.reg (by decide)).trans hcyc)), ?_,
    (h5.fld (by decide)).trans ((fld_decideRole d3 (by decide)).trans ?_)⟩
  · rw [port_silencePort_keeps _ p p PortSt.heardNs fun _ => rfl, h4.port p (by decide), h3.port p (by decide), hheard]
  · have hrole : d3.fld R.LINE_GSTAT F.LINE_GSTAT.ROLE = d.fld R.LINE_GSTAT F.LINE_GSTAT.ROLE := (h3.fld (by decide)).trans (hc.fld (by decide))
    rw [hrole]

/-- R86: the unit steps back: it is silent on its ports, in role 3, and waits for its time. -/
theorem demote_effect (d : Dev) {p q : Nat} (hq : q < 24) (hs : d.portState q ≠ 0) :
    (d.demote p).portState q = 7 ∧ (d.demote p).fld R.LINE_GSTAT F.LINE_GSTAT.ROLE = 3 ∧ (d.demote p).line.demote.isSome = true := by
  unfold Dev.demote
  extract_lets was t d0 d1
  have h0 : Inside [] [.time] d d0 := Inside.refl.time
  have hall := silence_all d0 hq (by rwa [h0.portState q (by decide)])
  have h1 : d1.portState q = 7 := ((roleIs_inside (d0.each allPorts Dev.silencePort) 3).portState q (by decide)).trans hall
  have h2 : d1.fld R.LINE_GSTAT F.LINE_GSTAT.ROLE = 3 := fld_roleIs (d0.each allPorts Dev.silencePort) (by decide)
  have h3 : Inside [] [.line] d1 { d1 with line := { d1.line with demote := some (p, d.clk + clksOfNs d.longestNs, was) } } :=
    Inside.refl.line
  exact ⟨(h3.portState q (by decide)).trans h1, (h3.fld (by decide)).trans h2, rfl⟩

/-- The sign of two senders leaves the ports alone. -/
theorem dualSign_inside (d : Dev) : Inside [.PAIR_STAT] [] d
    (if d.bit R.PAIR_CFG F.PAIR_CFG.EN then (d.setW1c R.PAIR_STAT F.PAIR_STAT.DUAL).ev 0xF006 7 else d) :=
  Inside.ite _ (fun _ => Inside.refl.setW1c.ev) fun _ => Inside.refl

/-- R86: a sending port hears a unit of another rank: the lower rank prevails. -/
theorem foreignCycle_sending (d : Dev) {p : Nat} {f : CycFrame} (hp : p < 24) (hu : f.unit ≠ Config.serial.toNat % 65536) (hn : d.nodes p ≠ 0)
    (hs : sendingState (d.portState p) = true) :
    (f.flags / 16 % 16 < d.fld R.LINE_GCFG F.LINE_GCFG.RANK → (d.foreignCycle p f).portState p = 7 ∧
      (d.foreignCycle p f).fld R.LINE_GSTAT F.LINE_GSTAT.ROLE = 3 ∧ (d.foreignCycle p f).line.demote.isSome = true) ∧
    (d.fld R.LINE_GCFG F.LINE_GCFG.RANK < f.flags / 16 % 16 → (d.foreignCycle p f).portState p = d.portState p) := by
  have hst : 2 ≤ d.portState p ∧ d.portState p ≤ 6 := by simpa [sendingState] using hs
  have hdual := (dualSign_inside d).portState p (by decide)
  unfold Dev.foreignCycle
  extract_lets st own rank d1 d2 d3
  rw [if_neg (by simp [hu, st]; omega), if_neg (by simp [hn]), if_neg (by simp [st]; omega), if_pos hs]
  refine ⟨fun hr => ?_, fun hr => ?_⟩
  · rw [if_pos hr]
    exact demote_effect d1 hp (by rw [hdual]; omega)
  · rw [if_neg (Nat.not_lt_of_lt hr), if_pos hr]
    exact hdual

/-! ### The end of the back-off (R87) -/

/-- R87: a port's back-off is over. -/
def Dev.backedOff (d : Dev) (p : Nat) : Bool := d.portState p == 7 && (match (d.port p).backoffEnd with
  | some c => decide (c ≤ d.clk)
  | none => false)

/-- R87: a port listens again. -/
def Dev.listenAgain (d : Dev) (p : Nat) : Dev := (d.setPortState p 1).updPort p (fun x => { x with
  backoffEnd := none, listening := d.mayCycle, listenClk := d.clk, heardNs := none })

theorem clashExpiry_eq (d : Dev) : d.clashExpiry =
    if (allPorts.filter d.backedOff).isEmpty then d
    else (d.setFld R.LINE_GSTAT F.LINE_GSTAT.ROLE 0).each (allPorts.filter d.backedOff) Dev.listenAgain := rfl

theorem listenAgain_inside (d : Dev) (p : Nat) : Inside [.LINE_STAT] [.line] d (d.listenAgain p) := Inside.refl.setPortState.updPort

theorem listenAgain_effect (d : Dev) (p : Nat) : (d.listenAgain p).portState p = 1 ∧ ((d.listenAgain p).port p).backoffEnd = none ∧
    ((d.listenAgain p).port p).listenClk = d.clk := by
  unfold Dev.listenAgain
  rw [Dev.port_updPort_same, Dev.portState_updPort]
  exact ⟨d.portState_setPortState_same (by decide), rfl, rfl⟩

theorem listenAgain_other (d : Dev) {p q : Nat} (hp : p < 24) (hq : q < 24) (h : p ≠ q) :
    (d.listenAgain p).portState q = d.portState q ∧ (d.listenAgain p).port q = d.port q :=
  ⟨Dev.portState_setPortState_other d _ hp hq h, Dev.port_updPort_other _ _ h⟩

theorem clashExpiry_effect (d : Dev) {p : Nat} (hp : p < 24) (h : d.backedOff p = true) :
    d.clashExpiry.portState p = 1 ∧ (d.clashExpiry.port p).backoffEnd = none ∧ (d.clashExpiry.port p).listenClk = d.clk ∧
    d.clashExpiry.fld R.LINE_GSTAT F.LINE_GSTAT.ROLE = 0 := by
  have hmem : p ∈ allPorts.filter d.backedOff := List.mem_filter.2 ⟨mem_allPorts.2 hp, h⟩
  have hlt {q : Nat} (hq : q ∈ allPorts.filter d.backedOff) : q < 24 := mem_allPorts.1 (List.mem_of_mem_filter hq)
  rw [clashExpiry_eq, if_neg (by simpa using List.ne_nil_of_mem hmem)]
  generalize hd0 : d.setFld R.LINE_GSTAT F.LINE_GSTAT.ROLE 0 = d0
  have hrole : d0.fld R.LINE_GSTAT F.LINE_GSTAT.ROLE = 0 := hd0 ▸ d.fld_setFld_of_lt (by decide) (by decide)
  have hclk : d0.clk = d.clk := hd0 ▸ rfl
  have hall : Inside [.LINE_STAT] [.line] d0 (d0.each (allPorts.filter d.backedOff) Dev.listenAgain) :=
    Inside.refl.each fun x q _ => listenAgain_inside x q
  obtain ⟨h1, h2, h3⟩ := Dev.each_at (f := Dev.listenAgain) (Q := fun e => e.clk = d.clk)
    (P := fun e => e.portState p = 1 ∧ (e.port p).backoffEnd = none ∧
      (e.port p).listenClk = d.clk) hmem (allPorts_nodup.filter _) (fun e q _ _ he => he)
    (fun e he => he ▸ listenAgain_effect e p) (fun e q hq hne he => by
      obtain ⟨h4, h5⟩ := listenAgain_other e (hlt hq) hp hne
      rwa [h4, h5]) hclk
  exact ⟨h1, h2, h3, (hall.fld (by decide)).trans hrole⟩

end Sys2Proof.Machine

namespace Sys2Proof.Machine

/-! ### Numbers in bytes -/

theorem length_le (n v : Nat) : (le n v).length = n := by
  induction n generalizing v with
  | zero => rfl
  | succ k ih => simp [le, ih]

theorem unle_le (n v : Nat) : unle (le n v) = v % 256 ^ n := by
  induction n generalizing v with
  | zero => simp [le, unle, Nat.mod_one]
  | succ k ih =>
    have hpow : 256 ^ (k + 1) = 256 * 256 ^ k := Nat.pow_succ'
    rw [le, unle, ih, BitVec.toNat_ofNat, hpow, Nat.mod_mul]

theorem slice_append (a b c : List Byte) : slice (a ++ b ++ c) a.length b.length = b := by
  simp [slice, List.append_assoc]

/-- A number that stands after the bytes `a`. -/
theorem uAt_append_le (a c : List Byte) (n v : Nat) : uAt (a ++ le n v ++ c) a.length n = v % 256 ^ n := by
  have h := slice_append a (le n v) c
  rw [length_le] at h
  rw [uAt, h, unle_le]

theorem uAt_cycFrameBytes_cycle (f : CycFrame) : uAt (cycFrameBytes f) 4 4 = f.cycle % 2 ^ 32 := by
  have h := uAt_append_le ([symStart, 0x01#8] ++ le 1 f.flags ++ le 1 f.k) (le 8 f.time ++ le 2 f.unit ++
    le 4 (crc32 ([0x01#8] ++ le 1 f.flags ++ le 1 f.k ++ le 4 f.cycle ++ le 8 f.time ++ le 2 f.unit)).toNat ++ [symEnd] ++ [symIdle]) 4 f.cycle
  simpa [cycFrameBytes, framed, List.append_assoc, length_le] using h

theorem uAt_cycFrameBytes_time (f : CycFrame) : uAt (cycFrameBytes f) 8 8 = f.time % 2 ^ 64 := by
  have h := uAt_append_le ([symStart, 0x01#8] ++ le 1 f.flags ++ le 1 f.k ++ le 4 f.cycle) (le 2 f.unit ++
    le 4 (crc32 ([0x01#8] ++ le 1 f.flags ++ le 1 f.k ++ le 4 f.cycle ++ le 8 f.time ++ le 2 f.unit)).toNat ++ [symEnd] ++ [symIdle]) 8 f.time
  simpa [cycFrameBytes, framed, List.append_assoc, length_le] using h

/-! ### The cycle start (R73 to R75) -/

/-- From `d` to `e` the line's cycle account may have changed: not the count of cycles, not what a port relays. -/
structure Turned (d e : Dev) : Prop where
  inside : Inside [.LINE_CNT_MISS, .LINE_CNT_HEAL, .LINE_STAT] [.line, .safe] d e
  relaying : ∀ q, (e.port q).relaying = (d.port q).relaying

namespace Turned

variable {d e f : Dev}

theorem refl : Turned d d := ⟨Inside.refl.within (by decide) (by decide), fun _ => rfl⟩

theorem trans (h : Turned d e) (k : Turned e f) : Turned d f := ⟨h.inside.trans k.inside, fun q => (k.relaying q).trans (h.relaying q)⟩

theorem of_inside {l : List RegName} {ps : List Part} (h : Inside l ps d e) (hl : l ⊆ [.LINE_CNT_MISS, .LINE_CNT_HEAL, .LINE_STAT])
    (hp : ps ⊆ [.line, .safe]) (hq : Part.line ∉ ps) : Turned d e :=
  ⟨h.within hl hp, fun q => congrArg PortSt.relaying (h.port q hq)⟩

theorem of_queued (h : Queued d e) : Turned d e := by
  refine ⟨h.inside.within (by decide) (by decide), fun q => ?_⟩
  obtain ⟨k, hk⟩ := h.port q
  rw [hk]

theorem updPort (h : Turned d e) {p : Nat} {g : PortSt → PortSt} (hg : ∀ x, (g x).relaying = x.relaying) :
    Turned d (e.updPort p g) :=
  h.trans ⟨Inside.refl.updPort.within (by decide) (by decide), fun q => e.port_updPort_keeps p q PortSt.relaying hg⟩

theorem lineEv (h : Turned d e) {c k p : Nat} {x : List Word} : Turned d (e.lineEv c k p x) :=
  h.trans (of_inside Inside.refl.evObj (by decide) (by decide) (by decide))

theorem inc (h : Turned d e) {n : RegName} {i j : Nat} (hn : [n] ⊆ [.LINE_CNT_MISS, .LINE_CNT_HEAL, .LINE_STAT]) :
    Turned d (e.inc ⟨n, i, j⟩) :=
  h.trans (of_inside Inside.refl.inc hn (by decide) (by decide))

theorem setSlot (h : Turned d e) {p i : Nat} {x : SlotSt} : Turned d (e.setSlot p i x) := 
  h.trans ⟨Inside.refl.setSlot.within (by decide) (by decide), fun _ => rfl⟩

theorem ite (c : Prop) [Decidable c] (h : c → Turned d e) (k : ¬c → Turned d f) : Turned d (if c then e else f) := by
  split
  · exact h ‹c›
  · exact k ‹¬c›

theorem each {α : Type} {xs : List α} {g : Dev → α → Dev} (hg : ∀ x a, Turned x (g x a)) : Turned d (d.each xs g) :=
  Dev.each_keeps (Q := Turned d) (fun x a _ h => h.trans (hg x a)) refl

end Turned

theorem nodeTiming_queued (d : Dev) (p i : Nat) : Queued d (d.nodeTiming p i) := Queued.send

theorem setPhase_turned (d : Dev) (p st : Nat) : Turned d (d.setPhase p st) :=
  Turned.ite _ (fun _ => Turned.refl.updPort fun _ => rfl)
    fun _ => Turned.of_inside Inside.refl.setPortState (by decide) (by decide) (by decide)

theorem restoreRing_turned (d : Dev) (p : Nat) : Turned d (d.restoreRing p) := by
  unfold Dev.restoreRing
  refine Turned.ite _ (fun _ => ?_) fun _ => Turned.refl.updPort fun _ => rfl
  exact ((setPhase_turned d p 3).updPort (by intros; rfl)).lineEv

theorem healTurn_turned (d : Dev) (p st code : Nat) : Turned d (d.healTurn p st code) := by
  unfold Dev.healTurn
  extract_lets d1
  have h1 : Turned d d1 := ((setPhase_turned d p st).updPort (by intros; rfl)).lineEv.inc (by decide)
  exact h1.trans (Turned.each fun x i => Turned.of_queued (nodeTiming_queued x p i))

theorem cycleTurn_turned (d : Dev) (p : Nat) : Turned d (d.cycleTurn p) := by
  unfold Dev.cycleTurn
  extract_lets x d1 d2
  have h1 : Turned d d1 := Turned.ite _ (fun _ => restoreRing_turned d p) fun _ => Turned.refl
  have h2 : Turned d d2 := h1.trans (Turned.ite _ (fun _ => healTurn_turned _ _ _ _) fun _ =>
    Turned.ite _ (fun _ => healTurn_turned _ _ _ _) fun _ => Turned.refl)
  exact Turned.ite _ (fun _ => h2.trans (setPhase_turned _ _ _)) fun _ => h2

theorem closeSlots_turned (d : Dev) (p : Nat) : Turned d (d.closeSlots p) := by
  refine Turned.each fun e i => ?_
  extract_lets x d0 d1
  have h0 : Turned e d0 := Turned.ite _ (fun _ => Turned.refl) fun _ => Turned.refl.inc (by decide)
  have h1 : Turned e d1 :=
    Turned.ite _ (fun _ => h0.trans (Turned.of_inside (safeSlot_inside _ _ _ _) (by decide) (by decide) (by decide))) fun _ => h0
  exact h1.setSlot

theorem sendCycle_inside (d : Dev) (p q : Nat) : Inside [] [] d (d.sendCycle p q) := by
  unfold Dev.sendCycle
  extract_lets f d1
  exact Inside.ite _ (fun _ => Inside.refl.emit) fun _ => Inside.refl.emit.emit

theorem relayTurn_inside (d : Dev) (p start : Nat) : Inside [] [.line] d (d.relayTurn p start) := by
  unfold Dev.relayTurn
  extract_lets x
  exact (Inside.ite _ (fun _ => Inside.refl.updPort.evObj) fun _ => Inside.refl).within (by decide) (by decide)

/-- The frame with which a cycle of the port starts is among the outputs: it carries CYCLE and the time. -/
def startsCycle (p cyc ns : Nat) (o : Out) : Bool :=
  match o with
  | .line q t b => q == p && t == 1 && uAt b 4 4 == cyc && uAt b 8 8 == ns
  | _ => false

theorem sendCycle_starts (d : Dev) (p : Nat) : (d.sendCycle p p).out.any (startsCycle p (d.reg (R.LINE_CYCLE p)).toNat d.ns) = true := by
  have hcyc : (d.reg (R.LINE_CYCLE p)).toNat % 2 ^ 32 = (d.reg (R.LINE_CYCLE p)).toNat := Nat.mod_eq_of_lt (BitVec.isLt _)
  have hns : d.ns % 2 ^ 64 = d.ns := Nat.mod_eq_of_lt (Nat.mod_lt _ (by decide))
  unfold Dev.sendCycle
  extract_lets f d1
  have hmem : .line p 0x01 (cycFrameBytes f) ∈ d1.out := List.mem_append_right _ List.mem_cons_self
  have hstarts : startsCycle p (d.reg (R.LINE_CYCLE p)).toNat d.ns (.line p 0x01 (cycFrameBytes f)) = true := by
    simp only [startsCycle, uAt_cycFrameBytes_cycle, uAt_cycFrameBytes_time, f, hcyc, hns, beq_self_eq_true, Bool.and_self]
  refine List.any_eq_true.2 ⟨_, ?_, hstarts⟩
  split
  · exact hmem
  · exact List.mem_append_left _ hmem

/-- R73: what a cycle start leaves of a port that is not asked to stop. -/
theorem cycleStart_effect (d : Dev) {p n : Nat} (hd : d.cycleDue p = some n) (hb : d.basePort p = p) (hs : d.sends p = true)
    (hst : (d.port p).stopAsked = false) :
    ((d.cycleStart p).port p).lastTick = some n ∧
    (d.cycleStart p).out.any (startsCycle p ((d.cycleStart p).reg (R.LINE_CYCLE p)).toNat d.ns) = true ∧
    ((d.port p).relaying = false → (d.cycleStart p).reg (R.LINE_CYCLE p) = d.reg (R.LINE_CYCLE p) + 1) := by
  unfold Dev.cycleStart
  simp -zeta only [hd]
  rw [if_neg (by simp [hb, hs]), if_neg (by simp [hst])]
  extract_lets d1 start x cyc d2 d3 d4 d5
  have h1 : Turned d d1 := ((closeSlots_turned d p).updPort (by intros; rfl)).trans (cycleTurn_turned _ _)
  have hrel : Inside [] [.line] d1 (if x.relaying then d1.relayTurn p start else d1) :=
    (Inside.ite _ (fun _ => relayTurn_inside _ _ _) fun _ => Inside.refl).within (by decide) (by decide)
  have h3 : Inside [.LINE_CYCLE, .LINE_CNT_MISS, .LINE_CNT_HEAL, .LINE_STAT] [.line, .safe] d d3 :=
    (h1.inside.step hrel).setReg.updPort.within (by decide) (by decide)
  have h4 : Inside [] [] d3 d4 := sendCycle_inside d3 p p
  have h5 : Inside [] [.line] d4 d5 :=
    (Inside.ite _ (fun _ => (sendCycle_inside d4 p (p + 1)).updPort) fun _ => Inside.refl).within (by decide) (by decide)
  have hlast5 : (d5.port p).lastTick = (d4.port p).lastTick := by
    unfold d5
    split
    · rw [Dev.port_updPort_other _ _ (Nat.succ_ne_self p), (sendCycle_inside d4 p (p + 1)).port p (by decide)]
    · rfl
  have hcyc : d3.reg (R.LINE_CYCLE p) = cyc := by
    unfold d3
    rw [Dev.reg_updPort, Dev.reg_setReg_same]
  have hcyc5 : d5.reg (R.LINE_CYCLE p) = cyc := (h5.reg (by decide)).trans ((h4.reg (by decide)).trans hcyc)
  have hns : d3.ns = d.ns := congrArg (fun t : TimeSt => t.tns / 2 ^ 32 % 2 ^ 64) (h3.parts .time (by decide))
  refine ⟨?_, ?_, fun hr => ?_⟩
  · rw [Dev.port_updPort_same]
    show (d5.port p).lastTick = some n
    rw [hlast5, h4.port p (by decide), Dev.port_updPort_same]
  · have hsent := sendCycle_starts d3 p
    obtain ⟨o, ho, hso⟩ := List.any_eq_true.1 hsent
    rw [Dev.reg_updPort, hcyc5]
    rw [hcyc, hns] at hso
    exact List.any_eq_true.2 ⟨o, h5.mem_out ho, hso⟩
  · rw [Dev.reg_updPort, hcyc5]
    have hx : x.relaying = false := (h1.relaying p).trans hr
    unfold cyc
    rw [hx, if_neg (by simp), h1.inside.reg (by decide)]

/-! ### Markers (R72, R78) -/

theorem markerSend_effect (d : Dev) {p : Nat} (hs : d.sends p = true) (h : (d.port p).cycleNs + d.portNs (d.basePort p) - 256 ≤ d.ns) :
    ((d.markerSend p).port p).markerNs = some d.ns ∧
    Out.line p 0x0F (markerBytes ((d.reg (R.LINE_CYCLE (d.basePort p))).toNat % 65536) 0) ∈ (d.markerSend p).out := by
  unfold Dev.markerSend
  extract_lets b x d1 cyc
  rw [if_neg (by simp [hs, x, b]; omega)]
  rw [Dev.port_emit, Dev.port_updPort_same]
  exact ⟨rfl, List.mem_append_right _ List.mem_cons_self⟩

/-- From `d` to `e` the measured loop stands: the return of a marker, the loop delay and whether it is too long. -/
structure LoopKept (p : Nat) (d e : Dev) : Prop where
  marker : (e.port p).markerNs = (d.port p).markerNs
  delay : e.reg (R.LINE_LOOPDLY p) = d.reg (R.LINE_LOOPDLY p)
  long : e.fld (R.LINE_STAT p) F.LINE_STAT.LOOPLONG = d.fld (R.LINE_STAT p) F.LINE_STAT.LOOPLONG

theorem declareBreak_loopKept (d : Dev) (p q : Nat) (ix before after : Option Nat) : LoopKept p d (d.declareBreak q ix before after) :=
  ⟨port_declareBreak_keeps d q p ix before after PortSt.markerNs fun _ _ _ _ _ _ => rfl, 
    (declareBreak_inside _ _ _ _ _).reg (by decide), fld_declareBreak_apart d q p ix before after (by decide)⟩

/-- R72: a marker that returns gives the loop delay of its port. -/
theorem markerReturn_effect (d : Dev) {p t : Nat} (w : List Byte) (h : (d.port p).markerNs = some t) :
    ((d.markerReturn p w).port p).markerNs = none ∧ (d.markerReturn p w).reg (R.LINE_LOOPDLY p) = wN (d.ns - t) ∧
    (d.markerReturn p w).bit (R.LINE_STAT p) F.LINE_STAT.LOOPLONG = decide (d.portNs (d.basePort p) < 2 * (d.ns - t)) := by
  unfold Dev.markerReturn
  extract_lets x b hops good was held split expect
  simp -zeta only [x, h]
  extract_lets dly long d1 d2 d3
  have h2 : Inside [] [] d1 d2 := Inside.ite _ (fun _ => Inside.refl.evObj) fun _ => Inside.refl
  have hdly : d3.reg (R.LINE_LOOPDLY p) = wN dly :=
    (h2.reg (by decide)).trans ((Dev.reg_setFld_other _ _ _ (addr_ne (by decide) _ _ _ _)).trans (Dev.reg_setReg_same _ _ _))
  have hlong : d3.fld (R.LINE_STAT p) F.LINE_STAT.LOOPLONG = if long then 1 else 0 :=
    (h2.fld (by decide)).trans (Dev.fld_setFld_of_lt _ (by split <;> decide) (by decide))
  have hmark : (d3.port p).markerNs = none := congrArg PortSt.markerNs (Dev.port_updPort_same d2 p _)
  suffices hk : ∀ e, LoopKept p d3 e → (e.port p).markerNs = none ∧ e.reg (R.LINE_LOOPDLY p) = wN dly ∧
      e.bit (R.LINE_STAT p) F.LINE_STAT.LOOPLONG = long by
    refine hk _ ?_
    clear_value d3 hops
    split
    · exact ⟨rfl, rfl, rfl⟩
    · split
      · exact declareBreak_loopKept _ _ _ _ _ _
      · split
        · exact declareBreak_loopKept _ _ _ _ _ _
        · split
          · refine ⟨?_, rfl, rfl⟩
            rw [Dev.port_lineEv]
            exact d3.port_updPort_keeps b p PortSt.markerNs fun _ => rfl
          · exact ⟨rfl, rfl, rfl⟩
  rintro e ⟨hm, hd, hl⟩
  refine ⟨hm.trans hmark, hd.trans hdly, ?_⟩
  rw [Dev.bit, hl, hlong]
  cases long <;> rfl

/-! ### The restoration of a ring (R99) -/

theorem ringRestore_effect (d : Dev) {p : Nat} (ha : d.bit (R.LINE_CFG p) F.LINE_CFG.AUTORST = true) (hl : d.allLinksUp p = true)
    (hp : d.phase p = 4 ∨ d.phase p = 5) : ((d.ringRestore p).port p).restorePending = true ∧ (d.ringRestore p).phase p = d.phase p := by
  unfold Dev.ringRestore
  rw [if_pos (by rcases hp with h | h <;> simp [h, ha, hl]), Dev.port_updPort_same]
  refine ⟨rfl, ?_⟩
  unfold Dev.phase
  rw [Dev.portState_updPort, Dev.port_updPort_same]

end Sys2Proof.Machine

namespace Sys2Proof.Machine

/-- Settles O13: each clause is the effect of its command, read in what follows it. -/
theorem linesComplete : Obligations.LinesComplete := by
  rintro s d rfl hon
  refine ⟨?_, ?_, ?_, ?_, ?_, ?_, ?_, ?_, ?_, ?_, ?_, ?_, ?_⟩
  case refine_1 =>
    intro p hp hl
    refine runs_of_runIf (f := fun d => d.lineLinkUp p) rfl hon (decide_eq_true hp) fun e he => ?_
    obtain ⟨h1, h2, h3⟩ := lineLinkUp_effect s.start p hl
    rw [he.port, he.bit_own (by decide)]
    exact ⟨h1, h2, h3⟩
  case refine_2 =>
    intro p hp
    refine runs_of_runIf (f := fun d => d.lineLinkDown p) rfl hon (decide_eq_true hp) fun e he => ?_
    rw [he.port, he.bit_own (by decide)]
    exact lineLinkDown_effect s.start p
  case refine_3 =>
    intro ses p w hp hm hstop hw
    refine runs_of_runIf (f := fun d => d.hostWrite ses (R.LINE_CTL p) (putF w F.LINE_CTL.START 1)) rfl hon (decide_eq_true hp) fun e he => ?_
    have hstart : getF (putF w F.LINE_CTL.START 1) F.LINE_CTL.START = 1 := getF_putF_same _ _ _ (by decide) (by decide)
    have hstop' : getF (putF w F.LINE_CTL.START 1) F.LINE_CTL.STOP = 0 :=
      (getF_putF_other _ _ _ _ (by decide) (by decide) (by decide) (by decide)).trans hstop
    obtain ⟨x, hx, heq⟩ := lineCtlDo_after s.start p (s.start.written (R.LINE_CTL p) (putF w F.LINE_CTL.START 1)) (putF w F.LINE_CTL.START 1)
    rw [hostWrite_lineCtl _ _ _ _ hm hw (.inl hstart), heq, if_neg (by omega), if_pos hstart] at he
    obtain ⟨h1, h2⟩ := portStart_effect x p
    rw [he.portState, he.port]
    exact ⟨h1, h2.trans (hx.parts .clk (by decide))⟩
  case refine_4 =>
    intro ses p w hp hm hw
    refine runs_of_runIf (f := fun d => d.hostWrite ses (R.LINE_CTL p) (putF w F.LINE_CTL.STOP 1)) rfl hon (decide_eq_true hp) fun e he => ?_
    have hstop : getF (putF w F.LINE_CTL.STOP 1) F.LINE_CTL.STOP = 1 := getF_putF_same _ _ _ (by decide) (by decide)
    obtain ⟨x, hx, heq⟩ := lineCtlDo_after s.start p (s.start.written (R.LINE_CTL p) (putF w F.LINE_CTL.STOP 1)) (putF w F.LINE_CTL.STOP 1)
    rw [hostWrite_lineCtl _ _ _ _ hm hw (.inr (.inl hstop)), heq, if_pos hstop] at he
    have h := portStop_effect x p
    rw [hx.portState p (by decide)] at h
    rw [he.portState, he.port]
    exact h
  case refine_5 =>
    intro ses p w hp hm hstop hstart hw
    refine runs_of_runIf (f := fun d => d.hostWrite ses (R.LINE_CTL p) (putF w F.LINE_CTL.REDISC 1)) rfl hon (decide_eq_true hp) fun e he => ?_
    have hre : getF (putF w F.LINE_CTL.REDISC 1) F.LINE_CTL.REDISC = 1 := getF_putF_same _ _ _ (by decide) (by decide)
    have hstop' : getF (putF w F.LINE_CTL.REDISC 1) F.LINE_CTL.STOP = 0 :=
      (getF_putF_other _ _ _ _ (by decide) (by decide) (by decide) (by decide)).trans hstop
    have hstart' : getF (putF w F.LINE_CTL.REDISC 1) F.LINE_CTL.START = 0 :=
      (getF_putF_other _ _ _ _ (by decide) (by decide) (by decide) (by decide)).trans hstart
    rw [hostWrite_lineCtl _ _ _ _ hm hw (.inr (.inr hre)), lineCtlDo_eq, if_neg (by omega), if_neg (by omega), if_pos hre] at he
    obtain ⟨h1, h2⟩ := redisc_effect (s.start.setReg (R.LINE_CTL p) (s.start.written (R.LINE_CTL p) (putF w F.LINE_CTL.REDISC 1))) p
    have hin : Inside [.LINE_CTL] [] s.start (s.start.setReg (R.LINE_CTL p) (s.start.written (R.LINE_CTL p) (putF w F.LINE_CTL.REDISC 1))) :=
      Inside.refl.setReg.within (by decide) (by decide)
    rw [phase_congr (hin.portState p (by decide)) (hin.port p (by decide))] at h2
    rw [he.port]
    exact ⟨h1, h2⟩
  case refine_6 =>
    intro hmay
    refine runs_of_run (f := fun d => (d.each allPorts Dev.listenExpiry).demoteExpiry) rfl hon fun e he p hp hs hl hn hc => ?_
    have hlis : s.start.listened p = true := by simp [Dev.listened, hs, hl, hn, hc, hmay]
    rw [he.portState, (demoteExpiry_inside _).portState p (by decide), listenExpiry_all _ (mem_allPorts.1 hp) hlis]
    simp only [Dev.silentRole, Bool.or_eq_true, beq_iff_eq]
  case refine_7 =>
    intro p w f hp hw hu hn
    refine runs_of_runIf (f := fun d => d.hearFrame p w) rfl hon (decide_eq_true hp) fun e he => ?_
    rw [Dev.hearFrame, hw] at he
    have hline : e.line = (s.start.foreignCycle p f).line := he.kept.line
    refine ⟨fun hs hl => ?_, fun hs hr => ?_, fun hs hr => ?_⟩
    · rw [he.portState, he.reg_own (by decide), he.port, he.fld_own (by decide)]
      exact foreignCycle_listening s.start hu hn hs hl
    · rw [he.portState, he.fld_own (by decide), hline]
      exact (foreignCycle_sending s.start hp hu hn hs).1 hr
    · rw [he.portState]
      exact (foreignCycle_sending s.start hp hu hn hs).2 hr
  case refine_8 =>
    refine runs_of_run (f := Dev.clashExpiry) rfl hon fun e he p hp hs hc => ?_
    have hb : s.start.backedOff p = true := by
      obtain ⟨c, hx, hle⟩ := (Option.any_eq_true _ _).1 hc
      simpa [Dev.backedOff, hs, hx] using hle
    rw [he.portState, he.port, he.fld_own (by decide)]
    exact clashExpiry_effect s.start (mem_allPorts.1 hp) hb
  case refine_9 =>
    intro p n hp hd hb hs
    refine runs_of_runIf (f := fun d => d.cycleStart p) rfl hon (decide_eq_true hp) fun e he => ?_
    rw [he.portState, he.port, he.reg_own (by decide)]
    refine ⟨fun hst => ?_, fun hst => ?_, fun hst hr => ?_⟩
    · rw [Dev.cycleStart, hd]
      dsimp only
      rw [if_neg (by simp [hb, hs]), if_pos hst]
      exact portOff_portState _ p
    · obtain ⟨h1, h2, -⟩ := cycleStart_effect s.start hd hb hs hst
      obtain ⟨o, ho, hso⟩ := List.any_eq_true.1 h2
      exact ⟨h1, List.any_eq_true.2 ⟨o, he.mem_out ho, hso⟩⟩
    · exact (cycleStart_effect s.start hd hb hs hst).2.2 hr
  case refine_10 =>
    intro p hp hs h
    refine runs_of_runIf (f := fun d => d.markerSend p) rfl hon (decide_eq_true hp) fun e he => ?_
    obtain ⟨h1, h2⟩ := markerSend_effect s.start hs h
    rw [he.port]
    exact ⟨h1, he.mem_out h2⟩
  case refine_11 =>
    intro p head crc tail t hp h
    refine runs_of_runIf (f := fun d => d.markerReturn p (head ++ crc ++ tail)) rfl hon (decide_eq_true hp) fun e he => ?_
    rw [he.port, he.reg_own (by decide), he.bit_own (by decide)]
    exact markerReturn_effect s.start _ h
  case refine_12 =>
    intro p w i b hp hw hs hd hb
    refine runs_of_runIf (f := fun d => d.linkDownFrame p w) rfl hon (decide_eq_true hp) fun e he => ?_
    obtain ⟨ix, before, after, hx⟩ := linkDownFrame_declares s.start hw
    rw [hx] at he
    rw [he.port, he.bit_own (by decide)]
    exact declareBreak_effect s.start ix before after hs hd hb
  case refine_13 =>
    intro p hp ha hl h
    refine runs_of_runIf (f := fun d => d.ringRestore p) rfl hon (decide_eq_true hp) fun e he => ?_
    rw [phase_congr (he.portState p) (he.port p), he.port]
    exact ringRestore_effect s.start ha hl h

end Sys2Proof.Machine

namespace Sys2Proof.Machine

/-! ### Slots -/

@[simp] theorem Dev.slot_setSlot_same (d : Dev) (p i : Nat) (x : SlotSt) : (d.setSlot p i x).slot p i = x := tget_tset_same _ _ _ _

@[simp] theorem Dev.slot_setFld (d : Dev) (r : Reg) (f : Fld) (v p i : Nat) : (d.setFld r f v).slot p i = d.slot p i := rfl

@[simp] theorem Dev.fld_setSlot (d : Dev) (p i : Nat) (x : SlotSt) (r : Reg) (f : Fld) : (d.setSlot p i x).fld r f = d.fld r f := rfl

@[simp] theorem Dev.slotState_setSlot (d : Dev) (p i q j : Nat) (x : SlotSt) : (d.setSlot p i x).slotState q j = d.slotState q j := rfl

theorem Inside.slot {l : List RegName} {ps : List Part} {d e : Dev} (h : Inside l ps d e) (p i : Nat) (hl : Part.line ∉ ps) :
    e.slot p i = d.slot p i := by
  have hline : e.line = d.line := h.parts .line hl
  simp only [Dev.slot, hline]

theorem Queued.slot {d e : Dev} (h : Queued d e) (p i : Nat) : e.slot p i = d.slot p i := by
  obtain ⟨x, rfl⟩ := h.rest
  rfl

theorem Queued.slotState {d e : Dev} (h : Queued d e) (p i : Nat) : e.slotState p i = d.slotState p i := h.fld _ _

theorem setSlotState_inside (d : Dev) (p i st : Nat) : Inside [.LINE_NODES, .LINE_SLOT_STAT] [] d (d.setSlotState p i st) := by
  unfold Dev.setSlotState
  extract_lets old n
  have hn (x : Dev) (was is : Nat) (f : Fld) : Inside [.LINE_NODES] [] x (n x was is f) :=
    (Inside.ite _ (fun _ => Inside.refl.setFld) fun _ => Inside.ite _ (fun _ => Inside.refl.setFld) fun _ => Inside.refl).within
      (by decide) (by decide)
  exact ((hn _ _ _ _).trans (hn _ _ _ _)).setFld.within (by decide) (by decide)

theorem slotState_setSlotState (d : Dev) {p i st : Nat} (h : st < 4) : (d.setSlotState p i st).slotState p i = st :=
  Dev.fld_setFld_of_lt _ h (by decide)

theorem fld_setSlotState_apart (d : Dev) {p i st : Nat} {f : Fld} (h : F.LINE_SLOT_STAT.STATE.apart f = true) :
    (d.setSlotState p i st).fld (R.LINE_SLOT_STAT p i) f = d.fld (R.LINE_SLOT_STAT p i) f := by
  unfold Dev.setSlotState
  extract_lets old n
  have hn (x : Dev) (was is : Nat) (g : Fld) : Inside [.LINE_NODES] [] x (n x was is g) :=
    (Inside.ite _ (fun _ => Inside.refl.setFld) fun _ => Inside.ite _ (fun _ => Inside.refl.setFld) fun _ => Inside.refl).within
      (by decide) (by decide)
  exact (Dev.fld_setFld_field _ h).trans (((hn _ _ _ _).trans (hn _ _ _ _)).fld (by decide))

theorem takeUpstream_inside (d : Dev) (p i : Nat) (b : List Byte) : Inside [.DIO_OUT] [.cap, .dio, .engs] d (d.takeUpstream p i b) := by
  unfold Dev.takeUpstream
  split
  · exact Inside.refl.within (by decide) (by decide)
  · exact Inside.refl.each fun _ _ _ => chanStore_inside _ _ _ _ _

theorem slotJoined_of_ne (d : Dev) {p i : Nat} (h : d.slotState p i ≠ 1) : d.slotJoined p i = d := if_neg (by simpa using h)

/-- What the account of a slot, and what its node sends, keeps of a slot: its state and its register. -/
structure SlotKept (p i : Nat) (d e : Dev) : Prop where
  slot : e.slot p i = d.slot p i
  reg : e.reg (R.LINE_SLOT_STAT p i) = d.reg (R.LINE_SLOT_STAT p i)

namespace SlotKept

variable {p i : Nat} {d e f : Dev}

theorem refl : SlotKept p i d d := ⟨rfl, rfl⟩

theorem trans (h : SlotKept p i d e) (k : SlotKept p i e f) : SlotKept p i d f := ⟨k.slot.trans h.slot, k.reg.trans h.reg⟩

theorem of_inside {l : List RegName} {ps : List Part} (h : Inside l ps d e)
    (hm : l.all (fun n => n.info.apart RegName.LINE_SLOT_STAT.info) = true) (hl : Part.line ∉ ps) :
    SlotKept p i d e := ⟨h.slot p i hl, h.reg hm⟩

theorem of_queued (h : Queued d e) : SlotKept p i d e := ⟨h.slot p i, h.reg _⟩

theorem grpForget {q j : Nat} (h : SlotKept p i d e) : SlotKept p i d (e.grpForget q j) := ⟨h.slot, h.reg⟩

theorem inc (h : SlotKept p i d e) {n : RegName} {a b : Nat} (hn : n.info.apart RegName.LINE_SLOT_STAT.info = true) :
    SlotKept p i d (e.inc ⟨n, a, b⟩) := h.trans (of_inside Inside.refl.inc (by simpa using hn) List.not_mem_nil)

theorem slotEv (h : SlotKept p i d e) {c k q : Nat} {j : Option Nat} {x : List Word} : SlotKept p i d (e.slotEv c k q j x) :=
  h.trans (of_inside Inside.refl.evAt (by decide) (by decide))

theorem safeSlot (h : SlotKept p i d e) {q j : Nat} {b : List Byte} : SlotKept p i d (e.safeSlot q j b) :=
  h.trans (of_inside (safeSlot_inside _ _ _ _) (by decide) (by decide))

theorem sendTrim (h : SlotKept p i d e) {q j : Nat} {x : Int} : SlotKept p i d (e.sendTrim q j x) := h.trans (of_queued Queued.send)

theorem fld (h : SlotKept p i d e) (g : Fld) : e.fld (R.LINE_SLOT_STAT p i) g = d.fld (R.LINE_SLOT_STAT p i) g := congrArg (getF · g) h.reg

end SlotKept

end Sys2Proof.Machine

namespace Sys2Proof.Machine

/-! ### The arrival of a slot (R81 to R84) -/

/-- What every slot taken at position `i` leaves: its state `y`, its offset and the side it came in on. -/
def Dev.slotFace (d : Dev) (p i : Nat) (far : Bool) (x : Int) (y : SlotSt) : Dev :=
  ((d.setSlot p i y).setFld (R.LINE_SLOT_STAT p i) F.LINE_SLOT_STAT.OFS (modN 8 (clampI (-128) 127 (x / 2)))).setFld (R.LINE_SLOT_STAT p i)
    F.LINE_SLOT_STAT.FAR (if far then 1 else 0)

section
variable (d : Dev) (p i : Nat) (far : Bool) (x : Int) (y : SlotSt)

theorem slotFace_slot : (d.slotFace p i far x y).slot p i = y := Dev.slot_setSlot_same _ _ _ _

theorem slotFace_far : (d.slotFace p i far x y).fld (R.LINE_SLOT_STAT p i) F.LINE_SLOT_STAT.FAR = if far then 1 else 0 :=
  Dev.fld_setFld_of_lt _ (by split <;> decide) (by decide)

theorem slotFace_slotState : (d.slotFace p i far x y).slotState p i = d.slotState p i := by
  refine (Dev.fld_setFld_field _ (by decide)).trans ((Dev.fld_setFld_field _ (by decide)).trans ?_)
  exact d.slotState_setSlot p i p i y

theorem slotFace_inside : Inside [.LINE_SLOT_STAT] [.line] d (d.slotFace p i far x y) :=
  Inside.refl.setSlot.setFld.setFld.within (by decide) (by decide)

end

/-- R81: a slot on time whose node, place and sequence are right is taken with its payload. -/
theorem slotArrival_usable (d : Dev) {p i : Nat} (far : Bool) {f : SlotFrame} {b : SlotBody} (hka : (d.port p).keepAlive = false)
    (hs : d.slotState p i = 2) (hb : slotBodyOf f.wire = some b) (hi : b.index = i) (hq : b.seq = (d.reg (R.LINE_CYCLE p)).toNat % 256)
    (he : f.e.natAbs ≤ 24) (hn : f.nextE = none) (hp : i = 0 ∨ (d.slot p (i - 1)).sdAt = none) :
    ((d.slotArrival p i far f).slot p i).usable = true ∧ ((d.slotArrival p i far f).slot p i).payload = b.payload ∧
    (d.slotArrival p i far f).fld (R.LINE_SLOT_STAT p i) F.LINE_SLOT_STAT.STALE = 0 := by
  unfold Dev.slotArrival
  extract_lets st r x due prev ovr y z base ae
  have hbase (y : SlotSt) : base y = d.slotFace p i far f.e y := rfl
  have hz : z = some b := by simp only [z, hb, hi, beq_self_eq_true, if_true]
  have hovr : ovr = false := by
    have hprev : prev = none := by
      rcases hp with h | h
      · simp only [prev, h, if_true]
      · simp only [prev, h, ite_self]
    simp only [ovr, hn, hprev, Bool.or_self]
  clear_value z ovr
  subst hz hovr
  rw [if_neg (by simp [st, hs]), if_neg (by simp [due, st, hs, hka])]
  dsimp -zeta only
  extract_lets links y1 d1 d5 d2 d3
  rw [if_neg (by simp [hq]), if_neg (by simp [ae]; omega)]
  have hd2 : d2 = d1 := if_neg (by simp only [ae]; omega)
  have hstate : d3.slotState p i = 2 := by
    refine (Dev.slotState_setSlot _ _ _ _ _ _).trans ((Dev.fld_setFld_field _ (by decide)).trans ((Dev.fld_setFld_field _ (by decide)).trans ?_))
    rw [hd2]
    exact (slotFace_slotState _ _ _ _ _ _).trans hs
  have hstale : d3.fld (R.LINE_SLOT_STAT p i) F.LINE_SLOT_STAT.STALE = 0 :=
    (Dev.fld_setSlot _ _ _ _ _ _).trans (Dev.fld_setFld_of_lt _ (by decide) (by decide))
  have hkept : SlotKept p i d3 (((d3.slotJoined p i).takeUpstream p i b.payload).safeSlot p i b.payload) := by
    rw [slotJoined_of_ne _ (by omega)]
    exact (SlotKept.of_inside (takeUpstream_inside _ _ _ _) (by decide) (by decide)).safeSlot
  rw [hkept.slot, hkept.fld, Dev.slot_setSlot_same]
  exact ⟨rfl, rfl, hstale⟩

/-- R81: a slot with a bad checksum is counted, and is not taken. -/
theorem slotArrival_bad (d : Dev) {p i : Nat} (far : Bool) {f : SlotFrame} (hka : (d.port p).keepAlive = false) (hs : d.slotState p i = 2)
    (hb : slotBodyOf f.wire = none) :
    ((d.slotArrival p i far f).reg (R.LINE_CNT_CRC p)).toNat = min ((d.reg (R.LINE_CNT_CRC p)).toNat + 1) (2 ^ 32 - 1) ∧
    ((d.slotArrival p i far f).slot p i).usable = (d.slot p i).usable := by
  unfold Dev.slotArrival
  extract_lets st r x due prev ovr y z base ae
  have hbase (y : SlotSt) : base y = d.slotFace p i far f.e y := rfl
  have hz : z = none := by simp only [z, hb]
  clear_value z
  subst hz
  rw [if_neg (by simp [st, hs]), if_neg (by simp [due, st, hs, hka])]
  have hafter : Inside [] [.safe] ((base y).inc (R.LINE_CNT_CRC p))
      ((((base y).inc (R.LINE_CNT_CRC p)).slotEv 0xA004 3 p (some i)).safeSlot p i []) := Inside.refl.evAt.step (safeSlot_inside _ _ _ _)
  have hkept : SlotKept p i (base y) ((((base y).inc (R.LINE_CNT_CRC p)).slotEv 0xA004 3 p (some i)).safeSlot p i []) :=
    (SlotKept.refl.inc (by decide)).slotEv.safeSlot
  have hface : (base y).reg (R.LINE_CNT_CRC p) = d.reg (R.LINE_CNT_CRC p) := (slotFace_inside d p i far f.e y).reg (by decide)
  refine ⟨?_, ?_⟩
  · rw [hafter.reg (by decide), Dev.inc_reg, hface]
  · rw [hkept.slot, hbase, slotFace_slot]

/-- A slot has arrived at position `i`, through the far end of the line. -/
structure HeardFar (p i : Nat) (e : Dev) : Prop where
  any : (e.slot p i).any = true
  far : e.fld (R.LINE_SLOT_STAT p i) F.LINE_SLOT_STAT.FAR = 1

namespace HeardFar

variable {p i : Nat} {d e : Dev}

theorem kept (h : HeardFar p i d) (k : SlotKept p i d e) : HeardFar p i e := ⟨k.slot ▸ h.any, (k.fld _).trans h.far⟩

theorem setFld (h : HeardFar p i d) {f : Fld} {v : Nat} (hf : f.apart F.LINE_SLOT_STAT.FAR = true) :
    HeardFar p i (d.setFld (R.LINE_SLOT_STAT p i) f v) :=
  ⟨h.any, (Dev.fld_setFld_field d hf).trans h.far⟩

theorem setSlot (h : HeardFar p i d) {x : SlotSt} (hx : x.any = true) : HeardFar p i (d.setSlot p i x) :=
  ⟨(congrArg SlotSt.any (d.slot_setSlot_same p i x)).trans hx, h.far⟩

theorem setSlotState (h : HeardFar p i d) {st : Nat} : HeardFar p i (d.setSlotState p i st) :=
  ⟨(congrArg SlotSt.any ((setSlotState_inside d p i st).slot p i (by decide))).trans h.any, (fld_setSlotState_apart d (by decide)).trans h.far⟩

theorem slotJoined (h : HeardFar p i d) : HeardFar p i (d.slotJoined p i) := by
  unfold Dev.slotJoined
  split
  · extract_lets x
    have h1 := (h.setSlotState (st := 2)).setSlot (x := { x with join := none }) h.any
    exact h1.kept SlotKept.refl.slotEv
  · exact h

theorem chargeSlot (h : HeardFar p i d) {x : Int} : HeardFar p i (d.chargeSlot p i x) := by
  unfold Dev.chargeSlot
  extract_lets st n d1
  have h1 : HeardFar p i d1 := (h.setFld (by decide)).kept SlotKept.refl.sendTrim
  split
  · exact (h1.kept (SlotKept.of_queued Queued.send)).setSlotState.kept (SlotKept.refl.inc (by decide)).grpForget.slotEv
  · exact h1

end HeardFar

theorem slotFace_heardFar (d : Dev) (p i : Nat) (x : Int) {y : SlotSt} (h : y.any = true) : HeardFar p i (d.slotFace p i true x y) :=
  ⟨by rw [slotFace_slot, h], slotFace_far d p i true x y⟩

/-- R100: whatever comes of a slot through the far end at an active place, it has been heard there. -/
theorem slotArrival_far (d : Dev) {p i : Nat} (f : SlotFrame) (hka : (d.port p).keepAlive = false) (hs : d.slotState p i = 2) :
    HeardFar p i (d.slotArrival p i true f) := by
  unfold Dev.slotArrival
  extract_lets st r x due prev ovr y z base ae
  have hbase (y : SlotSt) (hy : y.any = true) : HeardFar p i (base y) := slotFace_heardFar d p i f.e hy
  clear_value z base
  rw [if_neg (by simp [st, hs]), if_neg (by simp [due, st, hs, hka])]
  split
  · exact (hbase y rfl).kept (SlotKept.refl.inc (by decide)).slotEv.safeSlot
  · extract_lets links y1 d1 d2 d4 d3
    have h1 : HeardFar p i d1 := hbase y1 rfl
    split
    · exact h1.kept (SlotKept.refl.inc (by decide)).slotEv.safeSlot
    · split
      · have h2 : HeardFar p i d2 := h1.kept (SlotKept.refl.safeSlot.inc (by decide)).slotEv
        split
        · exact h2.chargeSlot
        · exact h2
      · have h2 : HeardFar p i d4 := by
          unfold d4
          split
          · exact h1.kept (SlotKept.refl.inc (by decide)).slotEv.sendTrim
          · exact h1
        exact ((((h2.setFld (by decide)).setFld (by decide)).setSlot rfl).slotJoined).kept
          (SlotKept.of_inside (takeUpstream_inside _ _ _ _) (by decide) (by decide)).safeSlot

end Sys2Proof.Machine

namespace Sys2Proof.Machine

/-! ### Slots that stay away (R84) -/

theorem slotStale_effect (d : Dev) {p i : Nat} (hka : (d.port p).keepAlive = false) (hs : 2 ≤ d.slotState p i)
    (hu : (d.slot p i).usable = false) (hm : d.fld (R.LINE_CFG p) F.LINE_CFG.MISSLIM ≤ (d.slot p i).noUse) :
    (d.slotStale p i).fld (R.LINE_SLOT_STAT p i) F.LINE_SLOT_STAT.STALE = 1 := by
  unfold Dev.slotStale
  extract_lets x now
  have hnow : now = (d.slot p i).noUse := by simp only [now, x, hu, Bool.false_eq_true, if_false]
  rw [if_pos (by rw [hnow]; simp [hka, hm]; omega)]
  exact d.fld_setFld_of_lt (by decide) (by decide)

theorem nodeLost_effect (d : Dev) {p i : Nat} (hka : (d.port p).keepAlive = false) (hs : d.slotState p i ≠ 0)
    (ha : (d.slot p i).any = false) (hl : 16 ≤ (d.slot p i).absent) : (d.nodeLost p i).slotState p i = 0 := by
  unfold Dev.nodeLost
  extract_lets x d1
  have h1 : d1.slotState p i = 0 := (Dev.fld_setReg_same _ _ _ _).trans (by decide)
  have hk : SlotKept p i d1 ((d1.grpForget p i).slotEv 0xA007 4 p (some i)) := SlotKept.refl.grpForget.slotEv
  rw [if_pos (by simp [hka, hs, x, ha, hl])]
  exact (Queued.send.slotState p i).trans ((hk.fld _).trans h1)

/-! ### Delays (R93) -/

/-- A delay probe waits at a port. -/
def Dev.probeWaits (d : Dev) (p : Nat) : Bool := (d.port p).queue.any (fun a => a.typ == 0x14)

theorem Queued.probeWaits {d e : Dev} (h : Queued d e) {p : Nat} (hp : d.probeWaits p = true) : e.probeWaits p = true := by
  obtain ⟨k, hk⟩ := h.port p
  unfold Dev.probeWaits at hp ⊢
  rw [hk, List.any_append, hp, Bool.true_or]

theorem acyclic_probeWaits (d : Dev) (p a : Nat) (b : List Byte) : (d.acyclic p 0x14 a b).probeWaits p = true := by
  unfold Dev.probeWaits Dev.acyclic
  rw [Dev.port_updPort_same]
  simp

theorem delayProbe_queued (d : Dev) (p : Nat) : Queued d (d.delayProbe p) := by
  unfold Dev.delayProbe
  extract_lets id d1
  split
  · exact Queued.acyclic
  · split
    · exact Queued.acyclic.trans Queued.acyclic
    · exact Queued.acyclic

theorem delayProbe_probeWaits (d : Dev) (p : Nat) : (d.delayProbe p).probeWaits p = true := by
  unfold Dev.delayProbe
  extract_lets id d1
  have h1 : d1.probeWaits p = true := acyclic_probeWaits _ _ _ _
  split
  · exact acyclic_probeWaits _ _ _ _
  · split
    · exact Queued.acyclic.probeWaits h1
    · exact h1

theorem delayProbeCycle_effect (d : Dev) {p : Nat} (hb : d.basePort p = p) (hs : sendingState (d.portState p) = true)
    (h : (d.port p).remeasure = true ∨ (d.reg (R.LINE_CYCLE p)).toNat % 2 ^ d.fld (R.LINE_CFG p) F.LINE_CFG.DLYPER = 0) :
    ((d.delayProbeCycle p).port p).remeasure = false ∧ (d.delayProbeCycle p).probeWaits p = true := by
  unfold Dev.delayProbeCycle
  extract_lets cyc
  rw [if_pos (by rcases h with h | h <;> simp [hb, hs, h, cyc])]
  refine ⟨?_, delayProbe_probeWaits _ _⟩
  obtain ⟨k, hk⟩ := (delayProbe_queued (d.updPort p fun x => { x with remeasure := false }) p).port p
  rw [hk, Dev.port_updPort_same]

/-- R93: a report of an active node's delay is kept for the end it was measured from. -/
theorem delayRpt_active (d : Dev) {p i id h : Nat} (hs : d.slotState p i = 2) :
    if id % 2 = 0 then ((d.delayRpt p i id h).slot p i).h0 = some h else ((d.delayRpt p i id h).slot p i).h1 = some h := by
  unfold Dev.delayRpt
  extract_lets st x far dly y
  have hst : st = 2 := hs
  have hc : ¬(st == 0 || st == 3) = true := by simp [hst]
  rw [if_neg hc]
  clear_value st
  subst hst
  have htaken : if id % 2 = 0 then (((d.setSlot p i y).nodeTiming p i).slot p i).h0 = some h
      else (((d.setSlot p i y).nodeTiming p i).slot p i).h1 = some h := by
    rw [(nodeTiming_queued _ p i).slot, Dev.slot_setSlot_same]
    by_cases hp : id % 2 = 0
    · rw [if_pos hp]
      simp [y, far, hp]
    · rw [if_neg hp]
      have h1 : id % 2 = 1 := by omega
      simp [y, far, h1]
  cases x.join
  · exact htaken
  · exact htaken

/-! ### Joining (R90 to R92, R663) -/

theorem joinReq_accepted (d : Dev) {q al tc serial ec : Nat} {r : SlotRec} (hs : sendingState (d.portState (d.basePort q)) = true)
    (hka : (d.port (d.basePort q)).keepAlive = false) (hj : (d.port (d.basePort q)).joinSusp = false)
    (hen : d.bit (R.LINE_CTL (d.basePort q)) F.LINE_CTL.JOINEN = true) (hr : d.slotOfAlias (d.basePort q) al = some r) (ht : r.typeCode = tc)
    (he : r.epCount = ec) (hst : d.slotState (d.basePort q) r.slot = 0 ∨ d.slotState (d.basePort q) r.slot = 3) :
    (d.joinReq q al tc serial ec).slotState (d.basePort q) r.slot = 1 ∧
    ((d.joinReq q al tc serial ec).slot (d.basePort q) r.slot).join.map (fun j => (j.step, j.serial)) = some (3, serial) ∧
    (d.joinReq q al tc serial ec).probeWaits (d.basePort q) = true := by
  unfold Dev.joinReq
  extract_lets p rec_ x slot
  have hrec : rec_ = some r := hr
  rw [if_neg (by simp [hs, p, Dev.joinsHeld, hka]), if_neg (by simp [x, p, hj, hen])]
  clear_value rec_
  subst hrec
  dsimp -zeta only
  extract_lets st d1
  have hst1 : st ≠ 2 ∧ st ≠ 1 := by rcases hst with h | h <;> simp [st, p, h]
  rw [if_neg (by simp [ht, he]), if_neg (by simp [hst1]), if_neg (by simp [hst1])]
  have hq := delayProbe_queued (d1.setFld (R.LINE_SLOT_STAT p r.slot) F.LINE_SLOT_STAT.CONSEC 0) p
  have h1 : d1.slotState p r.slot = 1 :=
    (Dev.slotState_setSlot _ _ _ _ _ _).trans ((Dev.fld_setFld_field _ (by decide)).trans (slotState_setSlotState d (by decide)))
  have hx : (d1.slot p r.slot).join.map (fun j => (j.step, j.serial)) = some (3, serial) := by
    rw [Dev.slot_setSlot_same]
    rfl
  refine ⟨(hq.slotState p r.slot).trans ((Dev.fld_setFld_field _ (by decide)).trans h1), ?_, delayProbe_probeWaits _ _⟩
  rw [hq.slot, Dev.slot_setFld, hx]

theorem joinGrant_slot (d : Dev) (p i : Nat) (j : JoinSt) :
    (d.joinGrant p i j).slot p i = { d.slot p i with firstCyc := none, join := some { j with step := 6 } } := by
  unfold Dev.joinGrant
  extract_lets x eps al
  rw [Queued.send.slot, Dev.slot_setSlot_same]

/-- R90: a test slot within its limits grants the join. -/
theorem testSlot_granted (d : Dev) {p i : Nat} {f : SlotFrame} {j : JoinSt} {b : SlotBody} (hs : d.slotState p i = 1)
    (hj : (d.slot p i).join = some j) (h4 : j.step = 4) (hsent : j.sent = true) (hka : (d.port p).keepAlive = false)
    (hsusp : (d.port p).joinSusp = false) (hb : slotBodyOf f.wire = some b) (he : f.e.natAbs ≤ 24) :
    ((d.testSlot p i f).slot p i).join.map (·.step) = some 6 ∧ ((d.testSlot p i f).slot p i).feed = b.feed := by
  unfold Dev.testSlot
  extract_lets x
  have hx : x.join = some j := hj
  simp -zeta only [hs, hx, hb]
  rw [if_pos (by simp [h4, hsent, Dev.joinsHeld, hka])]
  unfold Dev.joinStep
  rw [if_neg (by simp [hsusp])]
  beta_reduce
  extract_lets d0
  rw [if_pos he, joinGrant_slot, Dev.slot_setSlot_same]
  exact ⟨rfl, rfl⟩

theorem joinDrop_abandoned (d : Dev) (p i : Nat) : (d.joinDrop p i 0).slotState p i = 0 ∧ ((d.joinDrop p i 0).slot p i).join = none := by
  unfold Dev.joinDrop
  extract_lets al
  generalize hx : ((d.setSlotState p i 0).setFld (R.LINE_SLOT_STAT p i) F.LINE_SLOT_STAT.ALIAS 0).setSlot p i {} = x
  have hk : SlotKept p i x (x.joinReject p (some i) al 0) := SlotKept.refl.slotEv
  have h1 : x.slotState p i = 0 :=
    hx ▸ (Dev.slotState_setSlot _ _ _ _ _ _).trans ((Dev.fld_setFld_field _ (by decide)).trans (slotState_setSlotState d (by decide)))
  refine ⟨(hk.fld _).trans h1, ?_⟩
  rw [hk.slot, ← hx, Dev.slot_setSlot_same]

/-- R663: a join that has waited for more than 2 cycles is abandoned. -/
theorem joinTimeout_effect (d : Dev) {p i : Nat} {j : JoinSt} (hs : d.slotState p i = 1) (hj : (d.slot p i).join = some j) (h4 : j.step ≤ 4)
    (hsent : j.sent = true) (hka : (d.port p).keepAlive = false) (hc : 2 < tsDiff (d.reg (R.LINE_CYCLE p)) (wN j.cycle)) :
    (d.joinTimeout p i).slotState p i = 0 ∧ ((d.joinTimeout p i).slot p i).join = none := by
  unfold Dev.joinTimeout
  simp only [hs, hj]
  rw [if_pos (by simp [h4, hsent, Dev.joinsHeld, hka, hc])]
  exact joinDrop_abandoned d p i

theorem joinSuspendEnd_port (d : Dev) (p : Nat) :
    ((d.joinSuspendEnd p).port p).joinSusp = (decide ((d.port p).validCyc < 3) && (d.port p).joinSusp) := by
  unfold Dev.joinSuspendEnd
  extract_lets x
  by_cases h : 3 ≤ x.validCyc
  · have h3 : ¬(d.port p).validCyc < 3 := Nat.not_lt.2 h
    cases hj : x.joinSusp
    · have hj' : (d.port p).joinSusp = false := hj
      simp [hj']
    · rw [if_pos (by simp [h]), Dev.port_setPort_same]
      simp [h3]
  · have h3 : (d.port p).validCyc < 3 := Nat.not_le.1 h
    rw [if_neg (by simp [h])]
    simp [h3]

theorem joinSuspendEnd_other (d : Dev) {p q : Nat} (h : p ≠ q) : (d.joinSuspendEnd p).port q = d.port q := by
  unfold Dev.joinSuspendEnd
  extract_lets x
  split
  · exact Dev.port_setPort_other d _ h
  · rfl

/-- R92: joins resume on each port after 3 full valid cycles. -/
theorem joinSuspendEnd_all (d : Dev) {p : Nat} (hp : p ∈ allPorts) :
    ((d.each allPorts Dev.joinSuspendEnd).port p).joinSusp = (decide ((d.port p).validCyc < 3) && (d.port p).joinSusp) := by
  refine Dev.each_at (f := Dev.joinSuspendEnd) (Q := fun e => e.port p = d.port p)
    (P := fun e => (e.port p).joinSusp = (decide ((d.port p).validCyc < 3) && (d.port p).joinSusp)) hp allPorts_nodup ?_ ?_ ?_ rfl
  · intro e q _ hne he
    rw [joinSuspendEnd_other e hne, he]
  · intro e he
    rw [joinSuspendEnd_port, he]
  · intro e q _ hne he
    rw [joinSuspendEnd_other e hne, he]

end Sys2Proof.Machine

namespace Sys2Proof.Machine

/-! ### The fallow window (R80) -/

/-- From `d` to `e` frames have left: the ports stand, and what was put out stays. -/
structure FramesLeft (d e : Dev) : Prop where
  inside : Inside [] [.line] d e
  port : ∀ q, e.port q = d.port q

namespace FramesLeft

variable {d e f : Dev}

theorem refl : FramesLeft d d := ⟨Inside.refl.within (by decide) (by decide), fun _ => rfl⟩

theorem trans (h : FramesLeft d e) (k : FramesLeft e f) : FramesLeft d f := ⟨h.inside.trans k.inside, fun q => (k.port q).trans (h.port q)⟩

theorem setSlot (h : FramesLeft d e) {p i : Nat} {x : SlotSt} : FramesLeft d (e.setSlot p i x) := h.trans ⟨Inside.refl.setSlot, fun _ => rfl⟩

theorem emit (h : FramesLeft d e) {o : Out} : FramesLeft d (e.emit o) := h.trans ⟨Inside.refl.emit.within (by decide) (by decide), fun _ => rfl⟩

theorem each {α : Type} {xs : List α} {g : Dev → α → Dev} (hg : ∀ x a, FramesLeft x (g x a)) : FramesLeft d (d.each xs g) :=
  Dev.each_keeps (Q := FramesLeft d) (fun x a _ h => h.trans (hg x a)) refl

end FramesLeft

theorem stampJoin_framesLeft (d : Dev) (p : Nat) (a : Acyclic) : FramesLeft d (d.stampJoin p a) := by
  refine FramesLeft.each fun e i => ?_
  extract_lets x
  split
  · split
    · exact FramesLeft.refl.setSlot
    · exact FramesLeft.refl
  · exact FramesLeft.refl

theorem stampGrant_framesLeft (d : Dev) (p : Nat) (a : Acyclic) : FramesLeft d (d.stampGrant p a).1 := by
  unfold Dev.stampGrant
  split
  · exact FramesLeft.refl.setSlot
  · exact FramesLeft.refl

theorem sendAll_framesLeft (d : Dev) (b p : Nat) (l : List Acyclic) : FramesLeft d (d.sendAll b p l) :=
  FramesLeft.each fun e a => ((stampJoin_framesLeft e b a).trans (stampGrant_framesLeft _ b a)).emit

/-- A trim is stamped with nothing: it leaves as it waits. -/
theorem sendAll_trim (d : Dev) (b p : Nat) {a : Acyclic} (h : a.typ = 0x17) : d.sendAll b p [a] = d.sendNow p 0x17 a.adr a.body := by
  have hj : d.stampJoin b a = d := by
    unfold Dev.stampJoin
    simp [h, Dev.each]
  have hg : d.stampGrant b a = (d, a) := if_neg (by simp [h])
  show (let (d2, c) := (d.stampJoin b a).stampGrant b a; d2.sendNow p c.typ c.adr c.body) = _
  rw [hj, hg]
  dsimp only
  rw [h]

theorem pastMarks_nil (t n : Nat) : pastMarks [] t n = t := rfl

/-- A frame that fits the window where no mark stands in its way is sent. -/
theorem fitFrames_one {stop t : Nat} {a : Acyclic} (h : t + a.ns ≤ stop) : fitFrames [] stop t [a] = ([a], [], t + a.ns) := by
  simp [fitFrames, pastMarks_nil, h]

theorem fitFrames_nil (marks : List Nat) (stop t : Nat) : fitFrames marks stop t [] = ([], [], t) := rfl

/-- The frame that leaves a port for a trim. -/
theorem mem_sendNow (d : Dev) (p t a : Nat) (b : List Byte) : Out.line p t (acyclicBytes t a b) ∈ (d.sendNow p t a b).out :=
  List.mem_append_right _ List.mem_cons_self

theorem joinsBusy_of_resumed (d : Dev) {p : Nat} (h : (d.port p).joinSusp = false) : d.joinsBusy p = d := if_pos (by simp [h])

/-- The MUTE of an activation leaves the frames that wait at the ports, and the joins, as they are. -/
theorem port_muteAll_keeps {α : Type} (d : Dev) (p q : Nat) (g : PortSt → α) (h : ∀ x, g { x with changed := true } = g x) :
    g ((d.muteAll p).port q) = g (d.port q) := by
  unfold Dev.muteAll Dev.sendNow
  rw [Dev.port_emit]
  exact d.port_updPort_keeps p q g h

/-- What waits at a port as its fallow window begins, where joins are not suspended. -/
theorem fallow_queue (d : Dev) (p : Nat) {c : Bool} {x : Option Nat} (hj : (d.port (d.basePort p)).joinSusp = false) :
    ((((if d.sends p && d.muteDue p then d.muteAll p else d).when c (fun e => e.joinsBusy (d.basePort p))).updPort p (fun y => { y with
      fallowNs := x })).port p).queue = (d.port p).queue := by
  generalize he : (if d.sends p && d.muteDue p then d.muteAll p else d) = e
  have hsusp : (e.port (d.basePort p)).joinSusp = false := by
    rw [← he]
    split
    · exact (port_muteAll_keeps d p _ PortSt.joinSusp fun _ => rfl).trans hj
    · exact hj
  have hqueue : (e.port p).queue = (d.port p).queue := by
    rw [← he]
    split
    · exact port_muteAll_keeps d p p PortSt.queue fun _ => rfl
    · rfl
  have hwhen : e.when c (fun e => e.joinsBusy (d.basePort p)) = e := by
    cases c
    · rfl
    · exact joinsBusy_of_resumed e hsusp
  rw [hwhen, Dev.port_updPort_same, hqueue]

/-- R80: the fallow window of a cycle is served once; a trim alone that fits leaves in it. -/
theorem fallow_effect (d : Dev) {p : Nat} (hs : d.sends p = true) (hf : (d.port p).fallowNs ≠ some (d.port p).cycleNs)
    (h1 : (d.port p).cycleNs + (if (d.port (d.basePort p)).keepAlive then 192 else slotsEnd (d.nodes (d.basePort p))) ≤ d.ns)
    (h2 : d.ns < (d.port p).cycleNs + (d.portNs (d.basePort p) - 256)) :
    ((d.fallow p).port p).fallowNs = some (d.port p).cycleNs ∧
    (∀ a : Acyclic, (d.port p).queue = [a] → a.typ = 0x17 → a.prio ≤ 4 → (d.port (d.basePort p)).keepAlive = false →
      d.wireMarks (d.basePort p) = [] → (d.port (d.basePort p)).joinSusp = false →
      slotsEnd (d.nodes (d.basePort p)) + a.ns ≤ d.portNs (d.basePort p) - 256 →
      Out.line p 0x17 (acyclicBytes 0x17 a.adr a.body) ∈ (d.fallow p).out ∧ ((d.fallow p).port p).queue = []) := by
  have hstart : d.endCycleNs p = (d.port p).cycleNs := if_pos hs
  unfold Dev.fallow
  extract_lets b ka start ue stop probes d0 q sorted marks disc
  have hst : start = (d.port p).cycleNs := hstart
  rw [if_neg (by rw [hst]; simp [hs, hf]; exact ⟨h1, h2⟩)]
  generalize hfit : fitFrames marks stop ue (sorted.filter (fun a => decide (a.prio ≤ 4))) = fit
  obtain ⟨sent, left, t⟩ := fit
  dsimp -zeta only
  extract_lets t1 win discover d1
  have hport : d1.port p = { d0.port p with queue := (if probes then q.filter (fun a => a.typ != 0x14) else []) ++ left ++
      (fitFrames marks stop (if discover then t1 else t) (sorted.filter (fun a => decide (4 < a.prio)))).2.1 } := by
    rw [(sendAll_framesLeft _ _ _ _).port, Dev.port_updPort_same]
  generalize hfit5 : fitFrames marks stop (if discover then t1 else t) (sorted.filter (fun a => decide (4 < a.prio))) = fit5 at hport ⊢
  have hleft : FramesLeft d1 ((if discover then d1.sendNow p 0x10 0xFFFF (le 1 win) else d1).sendAll b p fit5.1) := by
    refine FramesLeft.trans ?_ (sendAll_framesLeft _ _ _ _)
    split
    · exact FramesLeft.refl.emit
    · exact FramesLeft.refl
  rw [hleft.port, hport]
  refine ⟨?_, fun a hq ht hprio hka hm hj hfits => ?_⟩
  · show (d0.port p).fallowNs = _
    rw [Dev.port_updPort_same, hst]
  · have hprobes : probes = false := by simp [probes, ka, b, hka, hs]
    have hq0 : q = [a] := (fallow_queue d p hj).trans hq
    have hsorted : sorted = [a] := by simp [sorted, hprobes, hq0, acyclicInsert]
    have hue : ue = slotsEnd (d.nodes b) := by simp [ue, ka, b, hka]
    have hmarks : marks = [] := hm
    rw [hsorted, hmarks, hue, List.filter_cons_of_pos (by simpa using hprio), List.filter_nil, fitFrames_one hfits] at hfit
    rw [hsorted, List.filter_cons_of_neg (by simpa using hprio), List.filter_nil, fitFrames_nil] at hfit5
    cases hfit
    subst hfit5
    refine ⟨hleft.inside.mem_out ?_, by simp [hprobes]⟩
    show _ ∈ (Dev.sendAll _ b p [a]).out
    rw [sendAll_trim _ b p ht]
    exact mem_sendNow _ _ _ _ _

end Sys2Proof.Machine

namespace Sys2Proof.Machine

/-! ### Cycle marks (R102) -/

theorem updStat_inside (d : Dev) (t : Nat) (f : TaskStat → TaskStat) : Inside [] [.engs] d (d.updStat t f) := Inside.refl.engs

theorem dropRelease_inside (d : Dev) (e t : Nat) : Inside [.CE_CNT_OVR] [.engs] d (d.dropRelease e t) :=
  (Inside.refl.inc.step (updStat_inside _ _ _)).evObj

theorem startTask_inside (d : Dev) (t : Nat) : Inside [.CE_CNT_OVR] [.engs] d (d.startTask t) := by
  unfold Dev.startTask
  split
  · split
    · exact dropRelease_inside _ _ _
    · exact Inside.refl.within (by decide) (by decide)
  · exact Inside.refl.engs.within (by decide) (by decide)

/-- From `d` to `e` marks of the port `p` may have fired, and a task been started by them; of the port no more has changed. -/
structure Marked (p : Nat) (d e : Dev) : Prop where
  inside : Inside [.CE_CNT_OVR] [.engs, .line] d e
  port : ∃ m, e.port p = { d.port p with marks := (d.port p).marks ++ m }

namespace Marked

variable {p : Nat} {d e f : Dev}

theorem refl : Marked p d d := ⟨Inside.refl.within (by decide) (by decide), [], by rw [List.append_nil]⟩

theorem trans (h : Marked p d e) (k : Marked p e f) : Marked p d f := by
  obtain ⟨m, hm⟩ := h.port
  obtain ⟨n, hn⟩ := k.port
  exact ⟨h.inside.trans k.inside, m ++ n, by rw [hn, hm, List.append_assoc]⟩

theorem keeps {α : Type} (h : Marked p d e) (g : PortSt → α) (hg : ∀ x m, g { x with marks := m } = g x) :
    g (e.port p) = g (d.port p) := by
  obtain ⟨m, hm⟩ := h.port
  rw [hm, hg]

theorem contains (h : Marked p d e) {k : Nat} (hk : (d.port p).marks.contains k = true) : (e.port p).marks.contains k = true := by
  obtain ⟨m, hm⟩ := h.port
  rw [hm]
  simp only [List.contains_eq_mem, List.mem_append, Bool.decide_or, decide_eq_true_eq] at hk ⊢
  simp [hk]

end Marked

/-- R102: whether a mark fires. -/
def Dev.markDue (d : Dev) (p m : Nat) : Bool :=
  !(d.basePort p != p || !sendingState (d.portState p) || !d.bit (R.LINE_MARK_CTL p m) F.LINE_MARK_CTL.EN || (d.port p).marks.contains m ||
    decide (d.ns < (d.port p).cycleNs + d.fld (R.LINE_MARK_OFS p m) F.LINE_MARK_OFS.OFS) ||
    decide (d.portNs p ≤ d.fld (R.LINE_MARK_OFS p m) F.LINE_MARK_OFS.OFS) ||
    ((d.port p).keepAlive && d.bit (R.LINE_MARK_CTL p m) F.LINE_MARK_CTL.WIRE))

/-- A mark that fires adds itself to those that have fired. -/
theorem markFires_port (d : Dev) (p m : Nat) : ∃ l, l ⊆ [m] ∧ (d.markFires p m).port p = { d.port p with marks := (d.port p).marks ++ l } := by
  unfold Dev.markFires
  extract_lets c ofs x wire act d1 d2 d3 d4
  split
  · exact ⟨[], List.nil_subset _, by rw [List.append_nil]⟩
  · refine ⟨[m], List.Subset.refl _, ?_⟩
    have h : Inside [.CE_CNT_OVR] [.engs] d1 (if wire then (if d.phase p == 4 then d4.sendNow (p + 1) 0x30 0xFFFF (le 1 m) else d4) else d3) := by
      have h2 : Inside [] [] d1 d2 := Inside.ite _ (fun _ => Inside.refl.emit) fun _ => Inside.refl
      have h3 : Inside [.CE_CNT_OVR] [.engs] d2 d3 := Inside.ite _ (fun _ => startTask_inside _ _) fun _ => Inside.refl
      exact ((h2.step h3).step (Inside.ite _ (fun _ => Inside.ite _ (fun _ => Inside.refl.emit.emit) fun _ => Inside.refl.emit)
        fun _ => Inside.refl)).within (by decide) (by decide)
    rw [h.port _ (by decide), Dev.port_setPort_same]

theorem markFires_inside (d : Dev) (p m : Nat) : Inside [.CE_CNT_OVR] [.engs, .line] d (d.markFires p m) := by
  unfold Dev.markFires
  extract_lets c ofs x wire act d1 d2 d3 d4
  have h2 : Inside [] [.line] d d2 := Inside.refl.setPort.step (Inside.ite _ (fun _ => Inside.refl.emit) fun _ => Inside.refl)
  have h3 : Inside [.CE_CNT_OVR] [.engs, .line] d d3 :=
    h2.step (Inside.ite _ (fun _ => startTask_inside _ _) fun _ => Inside.refl)
  exact (Inside.ite _ (fun _ => Inside.refl) fun _ => h3.step (Inside.ite _ (fun _ =>
    Inside.ite _ (fun _ => Inside.refl.emit.emit) fun _ => Inside.refl.emit) fun _ => Inside.refl)).within (by decide) (by decide)

theorem markFires_marked (d : Dev) (p m : Nat) : Marked p d (d.markFires p m) := by
  obtain ⟨l, -, hl⟩ := markFires_port d p m
  exact ⟨markFires_inside d p m, l, hl⟩

theorem markFires_other (d : Dev) {p m k : Nat} (h : m ≠ k) : ((d.markFires p m).port p).marks.contains k = (d.port p).marks.contains k := by
  obtain ⟨l, hl, hp⟩ := markFires_port d p m
  have hk : k ∉ l := fun hk => h (List.mem_singleton.1 (hl hk)).symm
  rw [hp]
  simp [hk]

theorem markFires_effect (d : Dev) {p m : Nat} (h : d.markDue p m = true) :
    ((d.markFires p m).port p).marks.contains m = true ∧
    (d.fld (R.LINE_MARK_CTL p m) F.LINE_MARK_CTL.ACT % 2 = 0 → Out.signal "cycle mark" (16 * p + m) d.ts.toNat ∈ (d.markFires p m).out) := by
  unfold Dev.markFires
  extract_lets c ofs x wire act d1 d2 d3 d4
  have hc : ¬(d.basePort p != p || !sendingState (d.portState p) || !d.bit c F.LINE_MARK_CTL.EN || x.marks.contains m ||
      decide (d.ns < x.cycleNs + ofs) || decide (d.portNs p ≤ ofs) || (x.keepAlive && wire)) = true := by
    simpa only [Dev.markDue, Bool.not_eq_true', Bool.not_eq_true] using h
  rw [if_neg hc]
  have h13 : Inside [.CE_CNT_OVR] [.engs] d2 d3 := Inside.ite _ (fun _ => startTask_inside _ _) fun _ => Inside.refl
  have h3 : Inside [] [] d3 (if wire then (if d.phase p == 4 then d4.sendNow (p + 1) 0x30 0xFFFF (le 1 m) else d4) else d3) :=
    Inside.ite _ (fun _ => Inside.ite _ (fun _ => Inside.refl.emit.emit) fun _ => Inside.refl.emit) fun _ => Inside.refl
  have h12 : Inside [] [] d1 d2 := Inside.ite _ (fun _ => Inside.refl.emit) fun _ => Inside.refl
  refine ⟨?_, fun ha => h3.mem_out (h13.mem_out ?_)⟩
  · rw [h3.port _ (by decide), h13.port _ (by decide), h12.port _ (by decide), Dev.port_setPort_same]
    simp
  · have hact : act = 0 ∨ act = 2 := by
      have hlt : act < 4 := getF_lt _ F.LINE_MARK_CTL.ACT
      have heven : act % 2 = 0 := ha
      omega
    have h2 : d2 = d1.emit (.signal "cycle mark" (16 * p + m) d.ts.toNat) := if_pos (by simpa using hact)
    rw [h2]
    exact List.mem_append_right _ List.mem_cons_self

/-- The marks that fired before leave a mark as due as it was, unless it fired itself. -/
theorem markDue_of_marked {p m : Nat} {d e : Dev} (h : Marked p d e) (hm : (e.port p).marks.contains m = (d.port p).marks.contains m) :
    e.markDue p m = d.markDue p m := by
  have hns : e.ns = d.ns := congrArg (fun t : TimeSt => t.tns / 2 ^ 32 % 2 ^ 64) (h.inside.parts .time (by decide))
  have hka := h.keeps PortSt.keepAlive fun _ _ => rfl
  simp only [Dev.markDue, Dev.basePort, Dev.topo, Dev.portState, Dev.bit, Dev.portNs, Dev.portK, hm, hns, hka, h.keeps PortSt.cycleNs fun _ _ => rfl,
    h.inside.fld (m := .LINE_CFG) (by decide), h.inside.fld (m := .LINE_STAT) (by decide), h.inside.fld (m := .LINE_MARK_CTL) (by decide),
    h.inside.fld (m := .LINE_MARK_OFS) (by decide)]
  rfl

/-- R102: a mark that is due fires, whatever marks fire in the same clock before it. -/
theorem cycleMark_effect (d : Dev) {p k : Nat} (h : d.markDue p k = true) :
    ((d.cycleMark p k).port p).marks.contains k = true ∧
    (d.fld (R.LINE_MARK_CTL p k) F.LINE_MARK_CTL.ACT % 2 = 0 → Out.signal "cycle mark" (16 * p + k) d.ts.toNat ∈ (d.cycleMark p k).out) := by
  unfold Dev.cycleMark
  extract_lets ofs
  have hk : k ∈ (List.range (k + 1)).filter (fun j => ofs j == ofs k) := List.mem_filter.2 ⟨List.self_mem_range_succ, beq_self_eq_true _⟩
  refine Dev.each_at (f := fun d j => d.markFires p j) (Q := fun e => Marked p d e ∧ (e.port p).marks.contains k = (d.port p).marks.contains k)
    (P := fun e => (e.port p).marks.contains k = true ∧ (d.fld (R.LINE_MARK_CTL p k) F.LINE_MARK_CTL.ACT % 2 = 0 →
      Out.signal "cycle mark" (16 * p + k) d.ts.toNat ∈ e.out)) hk (List.nodup_range.filter _) ?_ ?_ ?_ ⟨Marked.refl, rfl⟩
  · rintro e j _ hne ⟨hm, hc⟩
    exact ⟨hm.trans (markFires_marked e p j), (markFires_other e hne).trans hc⟩
  · rintro e ⟨hm, hc⟩
    obtain ⟨h1, h2⟩ := markFires_effect e ((markDue_of_marked hm hc).trans h)
    have hts : e.ts = d.ts := congrArg (fun t : TimeSt => wN (t.tns / 2 ^ 32 % 2 ^ 64)) (hm.inside.parts .time (by decide))
    rw [hm.inside.fld (m := .LINE_MARK_CTL) (by decide), hts] at h2
    exact ⟨h1, h2⟩
  · rintro e j _ _ ⟨h1, h2⟩
    exact ⟨(markFires_marked e p j).contains h1, fun ha => (markFires_inside e p j).mem_out (h2 ha)⟩

end Sys2Proof.Machine

namespace Sys2Proof.Machine

/-- Settles O14: each clause is the effect of its command, read in what follows it. -/
theorem slotsComplete : Obligations.SlotsComplete := by
  rintro s d rfl hon
  refine ⟨?_, ?_, ?_, ?_, ?_, ?_, ?_, ?_, ?_, ?_, ?_, ?_, ?_, ?_⟩
  case refine_1 =>
    intro p i f hp hi hb hr hka hs
    refine runs_of_runIf (f := fun d => d.portSlot p i f) rfl hon (by simp [hp, hi]) fun e he => ?_
    have heq : s.start.portSlot p i f = s.start.slotArrival p i false f := by
      unfold Dev.portSlot
      simp [hr, hb]
    rw [heq] at he
    rw [he.slot, he.reg_own (by decide), he.bit_own (by decide)]
    refine ⟨fun b hbody hidx hseq herr hnext hprev => ?_, fun hbody => slotArrival_bad s.start false hka hs hbody⟩
    obtain ⟨h1, h2, h3⟩ := slotArrival_usable s.start false hka hs (Option.mem_toList.1 hbody) hidx hseq herr hnext hprev
    exact ⟨h1, h2, by rw [Dev.bit, h3]; rfl⟩
  case refine_2 =>
    intro p i f hp hi hph hka hs
    refine runs_of_runIf (f := fun d => if d.phase p == 5 then d.slotArrival p i true f else d) rfl hon (by simp [hp, hi]) fun e he => ?_
    rw [if_pos (by simp [hph])] at he
    obtain ⟨h1, h2⟩ := slotArrival_far s.start f hka hs
    rw [he.slot, he.bit_own (by decide)]
    exact ⟨beq_iff_eq.2 h2, h1⟩
  case refine_3 =>
    intro p i hp hi hka hs hu hm
    refine runs_of_runIf (f := fun d => d.slotStale p i) rfl hon (by simp [hp, hi]) fun e he => ?_
    rw [he.bit_own (by decide)]
    exact beq_iff_eq.2 (slotStale_effect s.start hka hs hu hm)
  case refine_4 =>
    intro p i hp hi hka hs ha hl
    refine runs_of_runIf (f := fun d => d.nodeLost p i) rfl hon (by simp [hp, hi]) fun e he => ?_
    exact (he.slotState p i).trans (nodeLost_effect s.start hka hs ha hl)
  case refine_5 =>
    intro p hp hs hf h1 h2
    refine runs_of_runIf (f := fun d => d.fallow p) rfl hon (by simp [hp]) fun e he => ?_
    obtain ⟨hw, hq⟩ := fallow_effect s.start hs hf h1 h2
    rw [he.port]
    refine ⟨hw, fun a _ ha ht hprio hka hm hj hfits => ?_⟩
    obtain ⟨ho, hempty⟩ := hq a ha ht hprio hka hm hj hfits
    exact ⟨he.mem_out ho, hempty⟩
  case refine_6 =>
    intro p hp hb hs h
    refine runs_of_runIf (f := fun d => d.delayProbeCycle p) rfl hon (by simp [hp]) fun e he => ?_
    rw [he.port]
    exact delayProbeCycle_effect s.start hb hs h
  case refine_7 =>
    intro p i head tail w b hw hp hi ha hs
    refine runs_of_runIf (f := fun d => d.delayRptFrame (d.basePort p) i (head ++ tail)) rfl hon (by simp [hp, hi]) fun e he => ?_
    rw [Dev.delayRptFrame, ← hw, ha] at he
    dsimp only at he
    rw [if_pos (by simp)] at he
    rw [he.slot]
    exact delayRpt_active s.start hs
  case refine_8 =>
    intro p head body crc tail w q b r hw hp ha hs hka hj hen hr ht hc hst
    refine runs_of_runIf (f := fun d => d.joinReqFrame p (head ++ body ++ crc ++ tail)) rfl hon (by simp [hp]) fun e he => ?_
    rw [Dev.joinReqFrame, ← hw, ha] at he
    rw [he.slotState, he.slot, he.port]
    exact joinReq_accepted s.start hs hka hj hen hr ht hc hst
  case refine_9 =>
    intro p i err w j b hp hi hs hj h4 hsent hka hsusp hb herr
    refine runs_of_runIf (f := fun d => d.testSlot (d.basePort p) i { e := err, nextE := none, wire := w }) rfl hon (by simp [hp, hi])
      fun e he => ?_
    rw [he.slot]
    exact testSlot_granted s.start hs hj h4 hsent hka hsusp hb herr
  case refine_10 =>
    intro p i j hp hi hs hj h4 hsent hka hc
    refine runs_of_runIf (f := fun d => d.joinTimeout p i) rfl hon (by simp [hp, hi]) fun e he => ?_
    rw [he.slotState, he.slot]
    exact joinTimeout_effect s.start hs hj h4 hsent hka hc
  case refine_11 =>
    refine runs_of_run (f := fun d => d.each allPorts Dev.joinSuspendEnd) rfl hon fun e he p hp => ?_
    rw [he.port]
    exact joinSuspendEnd_all s.start hp
  case refine_12 =>
    intro p cycle blocks hp hs
    refine runs_of_runIf (f := fun d => d.relayBlk p cycle blocks) rfl hon (by simp [hp]) fun e he => ?_
    rw [he.port, Dev.relayBlk, if_neg (by simp [hs]), Dev.port_updPort_same]
    exact ⟨rfl, rfl, rfl⟩
  case refine_13 =>
    intro p head body tail w i b hw hp ha
    refine runs_of_runIf (f := fun d => d.mbxUp p (head ++ body ++ tail)) rfl hon (by simp [hp]) fun e he => ?_
    rw [Dev.mbxUp, ← hw, ha] at he
    exact he.mem_out (List.mem_append_right _ List.mem_cons_self)
  case refine_14 =>
    intro p k hp hk hb hs hen hm h1 h2 hka
    refine runs_of_runIf (f := fun d => d.cycleMark p k) rfl hon (by simp [hp, hk]) fun e he => ?_
    have hdue : s.start.markDue p k = true := by
      simp only [Dev.markDue, hb, hs, hen, hm, hka]
      simp [h1, h2]
    obtain ⟨hc, ho⟩ := cycleMark_effect s.start hdue
    rw [he.port]
    exact ⟨hc, fun ha => he.mem_out (ho ha)⟩

end Sys2Proof.Machine

namespace Sys2Proof.Machine

/-! ### Set-points (R290): the tick of an axis's last set-point -/

theorem Inside.mot {l : List RegName} {ps : List Part} {d e : Dev} (h : Inside l ps d e) {x : MotionSt} :
    Inside l (.mot :: ps) d { e with mot := x } := h.of_part .mot rfl rfl fun p hp => by cases p; all_goals trivial

theorem Inside.setMs {l : List RegName} {ps : List Part} {d e : Dev} (h : Inside l ps d e) {a : Nat} {x : MotSt} :
    Inside l (.mot :: ps) d (e.setMs a x) := h.mot

theorem Dev.ms_of_mot {d e : Dev} (h : e.mot = d.mot) (a : Nat) : e.ms a = d.ms a := by simp only [Dev.ms, h]

theorem Inside.ms {l : List RegName} {ps : List Part} {d e : Dev} (h : Inside l ps d e) (a : Nat) (hm : Part.mot ∉ ps) :
    e.ms a = d.ms a := Dev.ms_of_mot (h.parts .mot hm) a

@[simp] theorem Dev.ms_setMs_same (d : Dev) (a : Nat) (x : MotSt) : (d.setMs a x).ms a = x := tget_tset_same _ _ _ _

@[simp] theorem Dev.ms_setReg (d : Dev) (r : Reg) (w : Word) (a : Nat) : (d.setReg r w).ms a = d.ms a := Dev.ms_of_mot rfl a

@[simp] theorem Dev.ms_setFld (d : Dev) (r : Reg) (f : Fld) (v a : Nat) : (d.setFld r f v).ms a = d.ms a := Dev.ms_of_mot rfl a

@[simp] theorem Dev.ms_setPair (d : Dev) (lo hi : Reg) (x : Int) (a : Nat) : (d.setPair lo hi x).ms a = d.ms a := Dev.ms_of_mot rfl a

@[simp] theorem Dev.ms_setW1c (d : Dev) (r : Reg) (f : Fld) (k a : Nat) : (d.setW1c r f k).ms a = d.ms a := Dev.ms_of_mot rfl a

@[simp] theorem Dev.ms_evObj (d : Dev) (c k o a : Nat) (x : List Word) : (d.evObj c k o x).ms a = d.ms a := Dev.ms_of_mot rfl a

@[simp] theorem Dev.ms_setSrc (d : Dev) (a b src : Nat) : (d.setSrc b src).ms a = d.ms a := Dev.ms_of_mot rfl a

@[simp] theorem Dev.ms_setGearSt (d : Dev) (a b st : Nat) : (d.setGearSt b st).ms a = d.ms a := Dev.ms_of_mot rfl a

@[simp] theorem Dev.ms_vlimit (d : Dev) (a b w l : Nat) : (d.vlimit b w l).ms a = d.ms a :=
  (Inside.refl.setFld.evObj).ms a (by decide)

@[simp] theorem Dev.ms_react (d : Dev) (a b code cause : Nat) (pf : Bool) : (d.react b code cause pf).ms a = d.ms a :=
  (react_inside d b code cause pf).ms a (by decide)

@[simp] theorem MotSt.advance_tick (s : MotSt) (dt : Int) : (s.advance dt).tick = s.tick := by
  unfold MotSt.advance
  split <;> rfl

theorem Dev.tick_ite {c : Prop} [Decidable c] {d e : Dev} {a : Nat} {t : Option Nat} (h : (d.ms a).tick = t) (k : (e.ms a).tick = t) :
    ((if c then d else e).ms a).tick = t := by
  split
  · exact h
  · exact k

section
variable (d : Dev) (a : Nat)

@[simp] theorem cancelChange_tick : ((d.cancelChange a).ms a).tick = (d.ms a).tick := by
  unfold Dev.cancelChange
  split
  · rfl
  · extract_lets x d1
    split <;> simp [d1, x]

@[simp] theorem gearOff_tick : ((d.gearOff a).ms a).tick = (d.ms a).tick := by simp [Dev.gearOff]

@[simp] theorem gearComplete_tick (c : Change) : ((d.gearComplete a c).ms a).tick = (d.ms a).tick := by simp [Dev.gearComplete]

@[simp] theorem gearFire_tick (c : Change) (xq : Int) : ((d.gearFire a c xq).ms a).tick = (d.ms a).tick := by
  unfold Dev.gearFire
  extract_lets s y c1 d1 d2 d3
  have h1 : (d1.ms a).tick = (d.ms a).tick := by simp [d1, s]
  have h2 : (d2.ms a).tick = (d1.ms a).tick := by
    unfold d2
    split <;> simp
  have h3 : (d3.ms a).tick = (d2.ms a).tick := by
    unfold d3
    split <;> simp
  split <;> simp [h1, h2, h3]

@[simp] theorem gearStep_tick : ((d.gearStep a).ms a).tick = (d.ms a).tick := by
  unfold Dev.gearStep
  extract_lets ma s dp d1 x d2
  have h1 : (d1.ms a).tick = (d.ms a).tick := by simp [d1, s]
  have h2 : (d2.ms a).tick = (d1.ms a).tick := by
    unfold d2
    split
    · split
      · rfl
      · split
        · simp
        · split <;> simp [x]
    · rfl
  split
  · split <;> simp [h1, h2]
  · rw [h2, h1]

@[simp] theorem gearEngage_tick : ((d.gearEngage a).ms a).tick = (d.ms a).tick := by simp [Dev.gearEngage]

@[simp] theorem startMove_tick (kind : Nat) (val : Int) (k : Kin) (dt : Int) :
    ((d.startMove a kind val k dt).ms a).tick = (d.ms a).tick := by simp [Dev.startMove]

@[simp] theorem actionMove_tick (r : MoveReq) : ((d.actionMove a r).ms a).tick = (d.ms a).tick := by
  unfold Dev.actionMove
  extract_lets s src start dt k d1
  split <;> simp [d1]

@[simp] theorem motCommit_tick : ((d.motCommit a).ms a).tick = (d.ms a).tick := by
  unfold Dev.motCommit
  extract_lets s d1 d2 d3 d4 d5 k halts t l
  have h1 : (d1.ms a).tick = (d.ms a).tick := by simp [d1, s]
  have h2 : (d2.ms a).tick = (d1.ms a).tick := by
    exact Dev.tick_ite (cancelChange_tick d1 a) rfl
  have h3 : (d3.ms a).tick = (d2.ms a).tick :=
    Dev.each_keeps (Q := fun e => (e.ms a).tick = (d2.ms a).tick) (fun e r _ he => by rw [actionMove_tick, he]) rfl
  have h4 : (d4.ms a).tick = (d3.ms a).tick := by
    unfold d4
    split <;> simp
  have h5 : (d5.ms a).tick = (d.ms a).tick := by
    unfold d5
    split <;> simp [h4, h3, h2, h1]
  split
  · split <;> simp [h5]
  · simp [h5]
  · refine Dev.tick_ite ?_ h5
    split
    · exact Dev.tick_ite h5 (by simp [t, h5])
    · exact h5

@[simp] theorem applyLimits_tick (c : Int × Int × Int) : ((d.applyLimits a c).1.ms a).tick = (d.ms a).tick := by
  unfold Dev.applyLimits
  split
  · rfl
  · extract_lets s st was hi1 lo1 which settled l e beyond lim rest past can v1 q1 q2 p dt d1 x d2
    have h2 : (d2.ms a).tick = (d.ms a).tick := by simp [d2, x, d1]
    clear_value d2 beyond settled
    split
    · split
      · exact Dev.tick_ite rfl (by simp)
      · split
        · exact Dev.tick_ite rfl (by simp)
        · exact Dev.tick_ite rfl (by simp)
    · split <;> simp
    · split
      · rfl
      · split
        · rfl
        · exact h2

@[simp] theorem masterLost_tick : ((d.masterLost a).ms a).tick = (d.ms a).tick := by
  unfold Dev.masterLost
  split <;> simp

end

/-! ### The set-point that is stored (R290) -/

theorem fit32_inside (d : Dev) (x : Int) : Inside [] [.fresh] d (d.fit32 x).2 := by
  unfold Dev.fit32
  split
  · exact Inside.refl.within (by decide) (by decide)
  · exact Inside.refl.fresh

/-- The set-point of an axis and its registers, as they are stored. -/
def Dev.storedPos (d : Dev) (a : Nat) (c : Int × Int × Int) : Dev :=
  (d.setMs a { d.ms a with sp := c.1, v := c.2.1, a := c.2.2 }).setPair (R.AXIS_MOT_POS_LO a) (R.AXIS_MOT_POS_HI a) (c.1 / p32)

/-- After the position has been stored only the speed, the acceleration and what takes them follow. -/
theorem storeSp_after (d : Dev) (a : Nat) (c : Int × Int × Int) :
    Inside [.AXIS_MOT_VEL, .AXIS_MOT_ACC, .DIO_OUT] [.fresh, .axs, .cap, .dio, .engs] (d.storedPos a c) (d.storeSp a c) := by
  unfold Dev.storeSp
  extract_lets s n d1 v acc fv fa d2 next d3
  have h2 : Inside [.AXIS_MOT_VEL, .AXIS_MOT_ACC] [.fresh] d1 d2 :=
    ((fit32_inside d1 v).step (fit32_inside fv.2 acc)).setRegI.setRegI.within (by decide) (by decide)
  have h3 : Inside [.AXIS_MOT_VEL, .AXIS_MOT_ACC] [.axs, .fresh] d1 d3 := h2.step (updAxSt_inside _ _ _)
  split
  · exact (h3.step (chanStore_inside _ _ _ _ _)).within (by decide) (by decide)
  · exact h3.within (by decide) (by decide)

theorem storedPos_inside (d : Dev) (a : Nat) (c : Int × Int × Int) :
    Inside [.AXIS_MOT_POS_HI, .AXIS_MOT_POS_LO] [.mot] d (d.storedPos a c) := Inside.refl.setMs.setPair

theorem storeSp_inside (d : Dev) (a : Nat) (c : Int × Int × Int) :
    Inside [.AXIS_MOT_POS_HI, .AXIS_MOT_POS_LO, .AXIS_MOT_VEL, .AXIS_MOT_ACC, .DIO_OUT] [.mot, .fresh, .axs, .cap, .dio, .engs] d
      (d.storeSp a c) := ((storedPos_inside d a c).step (storeSp_after d a c)).within (by decide) (by decide)

theorem storeSp_ms (d : Dev) (a : Nat) (c : Int × Int × Int) :
    (d.storeSp a c).ms a = { d.ms a with sp := c.1, v := c.2.1, a := c.2.2 } := by
  rw [(storeSp_after d a c).ms a (by decide), Dev.storedPos, Dev.ms_setPair, Dev.ms_setMs_same]

/-- A number in a pair of registers of different addresses reads as it was written, in 64 bits. -/
theorem Dev.pairI_setPair (d : Dev) {lo hi : Reg} (x : Int) (h : hi.addr ≠ lo.addr) :
    (d.setPair lo hi x).pairI lo hi = signed 64 (modN 64 x) := by
  have hlt : modN 64 x < 2 ^ 64 := by
    unfold modN
    omega
  have hlo : (d.setPair lo hi x).reg lo = wN (modN 64 x) := (Dev.reg_setReg_other _ _ h).trans (Dev.reg_setReg_same _ _ _)
  have hhi : (d.setPair lo hi x).reg hi = wN (modN 64 x / 2 ^ 32) := Dev.reg_setReg_same _ _ _
  rw [Dev.pairI, Dev.pair, hlo, hhi, wN, wN, BitVec.toNat_ofNat, BitVec.toNat_ofNat, Nat.mod_eq_of_lt (show modN 64 x / 2 ^ 32 < 2 ^ 32 by omega),
    Nat.mod_add_div]

theorem storeSp_pos (d : Dev) (a : Nat) (c : Int × Int × Int) :
    (d.storeSp a c).pairI (R.AXIS_MOT_POS_LO a) (R.AXIS_MOT_POS_HI a) = signed 64 (modN 64 (c.1 / p32)) := by
  have h := storeSp_after d a c
  have hp := (d.setMs a { d.ms a with sp := c.1, v := c.2.1, a := c.2.2 }).pairI_setPair (c.1 / p32)
    (addr_ne (n := .AXIS_MOT_POS_HI) (m := .AXIS_MOT_POS_LO) (by decide) a 0 a 0)
  rw [← hp]
  simp only [Dev.pairI, Dev.pair, h.reg (m := .AXIS_MOT_POS_LO) (by decide), h.reg (m := .AXIS_MOT_POS_HI) (by decide)]
  rfl

theorem motDone_inside (d : Dev) (a : Nat) : Inside [.AXIS_MOT_STAT] [.mot] d (d.motDone a) := by
  unfold Dev.motDone
  extract_lets st s src fin d1 win n near ok k
  have h1 : Inside [.AXIS_MOT_STAT] [] d d1 := Inside.ite _ (fun _ => Inside.refl.setFld) fun _ => Inside.refl
  exact h1.setMs.setFld.within (by decide) (by decide)

theorem motDone_ms (d : Dev) (a : Nat) : (d.motDone a).ms a = { d.ms a with inN := ((d.motDone a).ms a).inN } := by
  unfold Dev.motDone
  simp

/-! ### An axis that stops (R211) -/

theorem cancelChange_inside (d : Dev) (a : Nat) : Inside [.AXIS_MOT_STAT] [.mot] d (d.cancelChange a) := by
  unfold Dev.cancelChange
  split
  · exact Inside.refl.within (by decide) (by decide)
  · extract_lets x d1
    have h1 : Inside [.AXIS_MOT_STAT] [.mot] d d1 := Inside.refl.setMs.setFld
    exact (Inside.ite _ (fun _ => h1) fun _ => h1.evObj).within (by decide) (by decide)

theorem gearOff_inside (d : Dev) (a : Nat) : Inside [.AXIS_MOT_STAT] [.mot] d (d.gearOff a) :=
  (cancelChange_inside d a).setFld.within (by decide) (by decide)

theorem stopSource_inside (d : Dev) (a : Nat) (dt : Int) :
    Inside [.AXIS_MOT_STAT, .AXIS_MOT_POS_HI, .AXIS_MOT_POS_LO, .AXIS_MOT_VEL, .AXIS_MOT_ACC, .DIO_OUT]
      [.mot, .fresh, .axs, .cap, .dio, .engs] d (d.stopSource a dt) := by
  unfold Dev.stopSource
  extract_lets code s x d0 k y d1 d2
  have h0 : Inside [.AXIS_MOT_STAT] [.mot] d d0 := (gearOff_inside d a).setMs.within (by decide) (by decide)
  have h1 : Inside [.AXIS_MOT_STAT] [.mot] d d1 := by
    unfold d1
    split
    · exact h0.setMs.setFld.within (by decide) (by decide)
    · split
      · exact (Inside.ite _ (fun _ => h0) fun _ => h0.setMs).within (by decide) (by decide)
      · exact h0
  have h2 : Inside [.AXIS_MOT_STAT] [.mot] d d2 := h1.setMs.within (by decide) (by decide)
  exact (Inside.ite _ (fun _ => h2.step (storeSp_inside _ _ _)) fun _ => h2.step (storeSp_inside _ _ _)).within (by decide) (by decide)

theorem stopSource_tick (d : Dev) (a : Nat) (dt : Int) : ((d.stopSource a dt).ms a).tick = (d.ms a).tick := by
  unfold Dev.stopSource
  extract_lets code s x d0 k y d1 d2
  have h0 : (d0.ms a).tick = (d.ms a).tick := by simp [d0, x]
  have h1 : (d1.ms a).tick = (d0.ms a).tick := by
    refine Dev.tick_ite (by simp [y]) ?_
    split
    · exact Dev.tick_ite rfl (by simp [y])
    · rfl
  have h2 : (d2.ms a).tick = (d.ms a).tick := by simp [d2, h0, h1]
  exact Dev.tick_ite (by rw [storeSp_ms, h2]) (by rw [storeSp_ms, h2])

/-! ### The set-point of a period (R290) -/

theorem Inside.axState {l : List RegName} {ps : List Part} {d e : Dev} (h : Inside l ps d e) (a : Nat)
    (hm : l.all (fun n => n.info.apart RegName.AXIS_STAT.info) = true) : e.axState a = d.axState a := h.fld hm

/-- The tick of the set-point at `t`, and the position registers showing the set-point of an axis that moves. -/
structure SpTaken (a : Nat) (t : Option Nat) (e : Dev) : Prop where
  tick : (e.ms a).tick = t
  pos : e.axState a ≤ 3 → e.pairI (R.AXIS_MOT_POS_LO a) (R.AXIS_MOT_POS_HI a) = signed 64 (modN 64 ((e.ms a).sp / p32))

/-- A stopping axis takes its set-point from the ramp. -/
theorem stopSource_spTaken (d : Dev) {a : Nat} (dt : Int) (h : d.axState a = 4) : SpTaken a (d.ms a).tick (d.stopSource a dt) := by
  refine ⟨stopSource_tick d a dt, fun h3 => ?_⟩
  rw [(stopSource_inside d a dt).axState a (by decide)] at h3
  omega

/-- An axis in fault has no source. -/
theorem faultSource_spTaken (d : Dev) {a : Nat} (h : d.axState a = 6) : SpTaken a (d.ms a).tick ((d.gearOff a).setSrc a 0) := by
  refine ⟨by simp, fun h3 => ?_⟩
  have hs : Inside [.AXIS_MOT_STAT] [.mot] d ((d.gearOff a).setSrc a 0) := (gearOff_inside d a).setFld.within (by decide) (by decide)
  rw [hs.axState a (by decide)] at h3
  omega

theorem storeSp_spTaken (d : Dev) (a : Nat) (c : Int × Int × Int) : SpTaken a (d.ms a).tick ((d.storeSp a c).motDone a) := by
  have hin := motDone_inside (d.storeSp a c) a
  refine ⟨by rw [motDone_ms, storeSp_ms], fun _ => ?_⟩
  have hsp : (((d.storeSp a c).motDone a).ms a).sp = c.1 := by rw [motDone_ms, storeSp_ms]
  have hpair : ((d.storeSp a c).motDone a).pairI (R.AXIS_MOT_POS_LO a) (R.AXIS_MOT_POS_HI a) =
      (d.storeSp a c).pairI (R.AXIS_MOT_POS_LO a) (R.AXIS_MOT_POS_HI a) := by
    simp only [Dev.pairI, Dev.pair, hin.reg (m := .AXIS_MOT_POS_LO) (by decide), hin.reg (m := .AXIS_MOT_POS_HI) (by decide)]
  rw [hpair, storeSp_pos, hsp]

theorem setpoint_effect (d : Dev) {a : Nat} {r : AxisRec} (hr : d.axisRec a = some r) (hk : r.kind ≠ 1)
    (hb : isBoundary d.time.tick r.period = true) (ht : (d.ms a).tick ≠ some d.time.tick) (he : d.axEnabled a = true) :
    SpTaken a (some d.time.tick) (d.setpoint a) := by
  unfold Dev.setpoint
  simp -zeta only [hr]
  extract_lets +onlyGivenNames s
  rw [if_neg (by simp [hk, hb, he, s, ht])]
  extract_lets +onlyGivenNames dt d0 d1
  have h1 : (d1.ms a).tick = some d.time.tick := by
    have h0 : (d0.ms a).tick = some d.time.tick := by simp [d0]
    exact Dev.tick_ite ((masterLost_tick d0 a).trans h0) h0
  clear_value d1
  rw [← h1]
  split
  · next h => exact stopSource_spTaken d1 dt h
  · next h => exact ⟨rfl, fun h3 => absurd h3 (by omega)⟩
  · next h => exact faultSource_spTaken d1 h
  · extract_lets +onlyGivenNames d2 d3 d4
    have h4 : (d4.ms a).tick = (d1.ms a).tick := by
      have h2 : (d2.ms a).tick = (d1.ms a).tick := Dev.tick_ite (gearStep_tick d1 a) rfl
      have h3 : (d3.ms a).tick = (d1.ms a).tick := (motCommit_tick d2 a).trans h2
      exact Dev.tick_ite (by simp [h3]) h3
    have h5 := (applyLimits_tick d4 a (d4.candidate a)).trans h4
    generalize d4.applyLimits a (d4.candidate a) = q at h5 ⊢
    obtain ⟨d5, c⟩ := q
    dsimp -zeta only at h5 ⊢
    rw [← h5]
    split
    · next h => exact stopSource_spTaken d5 dt (eq_of_beq h)
    · split
      · next h => exact faultSource_spTaken d5 (eq_of_beq h)
      · exact storeSp_spTaken d5 a c

end Sys2Proof.Machine

namespace Sys2Proof.Machine

/-! ### The state of an axis -/

theorem Dev.axSt_of_axes {d e : Dev} (h : e.axs.axes = d.axs.axes) (a : Nat) : e.axSt a = d.axSt a := by simp only [Dev.axSt, h]

theorem Inside.axSt {l : List RegName} {ps : List Part} {d e : Dev} (h : Inside l ps d e) (a : Nat) (hm : Part.axs ∉ ps) :
    e.axSt a = d.axSt a := Dev.axSt_of_axes (congrArg AxesSt.axes (h.parts .axs hm)) a

@[simp] theorem Dev.axSt_setAxSt_same (d : Dev) (a : Nat) (x : AxisSt) : (d.setAxSt a x).axSt a = x := tget_tset_same _ _ _ _

@[simp] theorem Dev.axSt_updAxSt_same (d : Dev) (a : Nat) (f : AxisSt → AxisSt) : (d.updAxSt a f).axSt a = f (d.axSt a) :=
  d.axSt_setAxSt_same a _

@[simp] theorem Dev.axSt_setFld (d : Dev) (r : Reg) (f : Fld) (v a : Nat) : (d.setFld r f v).axSt a = d.axSt a := Dev.axSt_of_axes rfl a

@[simp] theorem Dev.axSt_evObj (d : Dev) (c k o a : Nat) (x : List Word) : (d.evObj c k o x).axSt a = d.axSt a := Dev.axSt_of_axes rfl a

theorem Inside.maxReg {l : List RegName} {ps : List Part} {d e : Dev} (h : Inside l ps d e) {n : RegName} {i j k : Nat} :
    Inside (n :: l) ps d (e.maxReg ⟨n, i, j⟩ k) :=
  (Inside.ite _ (fun _ => h.setReg) fun _ => h).within (List.append_subset.2 ⟨List.Subset.refl _, List.subset_cons_self _ _⟩)
    (List.append_subset.2 ⟨List.Subset.refl _, List.Subset.refl _⟩)

/-! ### The end of a stop (R212) -/

theorem AxisSt.takeSp_ramp (x : AxisSt) : x.takeSp.ramp = x.ramp := by
  unfold AxisSt.takeSp
  split <;> rfl

theorem storeSp_ramp (d : Dev) (a : Nat) (c : Int × Int × Int) : ((d.storeSp a c).axSt a).ramp = (d.axSt a).ramp := by
  unfold Dev.storeSp
  extract_lets s n d1 v acc fv fa d2 next d3
  have h2 : Inside [.AXIS_MOT_VEL, .AXIS_MOT_ACC, .AXIS_MOT_POS_HI, .AXIS_MOT_POS_LO] [.fresh, .mot] d d2 :=
    ((Inside.refl.setMs.setPair.step (fit32_inside d1 v)).step (fit32_inside fv.2 acc)).setRegI.setRegI.within (by decide) (by decide)
  have h3 : (d3.axSt a).ramp = (d.axSt a).ramp := by
    unfold d3
    rw [Dev.axSt_updAxSt_same, ← h2.axSt a (by decide)]
    dsimp only
    split
    · rfl
    · exact AxisSt.takeSp_ramp _
  split
  · rw [(chanStore_inside _ _ _ _ _).axSt a (by decide), h3]
  · exact h3

theorem stopComplete_effect (d : Dev) {a : Nat} (hs : d.axState a = 4) (h8 : 8 ≤ (d.axSt a).still) :
    (d.stopComplete a).axState a = 5 ∧ ((d.stopComplete a).axSt a).ramp = none := by
  unfold Dev.stopComplete
  rw [if_pos (by simp [hs, h8])]
  extract_lets d1 x d2
  have h1 : d1.axState a = 5 := Dev.fld_setFld_of_lt _ (by decide) (by decide)
  have hr1 : (d1.axSt a).ramp = none := by simp [d1]
  have h2 : d2.axState a = 5 ∧ (d2.axSt a).ramp = none := by
    unfold d2
    split
    · exact ⟨h1, hr1⟩
    · have hin : Inside [.AXIS_MOT_STAT] [.mot] d1 ((d1.setMs a { x with plan := none, target := none }).setSrc a 0) :=
        Inside.refl.setMs.setFld
      refine ⟨((hin.step (storeSp_inside _ _ _)).axState a (by decide)).trans h1, ?_⟩
      rw [storeSp_ramp, hin.axSt a (by decide), hr1]
  obtain ⟨hst, hr⟩ := h2
  exact ⟨((Inside.refl (d := d2)).evObj.axState a (by decide)).trans hst, by rw [Dev.axSt_evObj, hr]⟩

/-! ### Plausibility (R208, R209) -/

/-- The model's history: its outputs, its inputs and the sum of the inputs of the running period. -/
def AxisSt.history (x : AxisSt) : (Int × Int) × (Int × Int) × Int × Nat := ((x.y1, x.y2), (x.u1, x.u2), x.uSum, x.uN)

theorem outputsZero_history (d : Dev) (a : Nat) : ((d.outputsZero a).axSt a).history = (d.axSt a).history := by
  unfold Dev.outputsZero
  extract_lets d1
  have h1 : (d1.axSt a).history = (d.axSt a).history := by
    simp only [d1, Dev.axSt_updAxSt_same]
    rfl
  have hall (l : List Nat) : Inside [.DIO_OUT] [.cap, .dio, .engs] d1 (d1.each l fun d c => d.chanStore c 0#32) :=
    Inside.refl.each fun _ _ _ => chanStore_inside _ _ _ _ _
  split
  · split
    · rw [(hall _).axSt a (by decide), h1]
    · exact h1
  · exact h1

theorem Dev.axSt_with (d : Dev) (x : AxesSt) (h : x.axes = d.axs.axes) (a : Nat) : ({ d with axs := x } : Dev).axSt a = d.axSt a :=
  Dev.axSt_of_axes h a

theorem applyReaction_history (d : Dev) (a code cause : Nat) (pf : Bool) :
    ((d.applyReaction a code cause pf).axSt a).history = (d.axSt a).history := by
  unfold Dev.applyReaction
  extract_lets r d1 d2 x1 d3
  have h1 : (d1.axSt a).history = (d.axSt a).history := by
    simp only [d1, Dev.axSt_evObj, Dev.axSt_setFld, Dev.axSt_updAxSt_same]
    rfl
  have h2 : (d2.axSt a).history = (d.axSt a).history := by
    rw [Dev.axSt_setFld, outputsZero_history, h1]
  have h3 : (d3.axSt a).history = (d.axSt a).history := by
    simp only [d3, Dev.axSt_updAxSt_same, Dev.axSt_setFld]
    exact h1
  split
  · split
    · exact h2
    · exact (congrArg AxisSt.history (Dev.axSt_of_axes rfl a)).trans h2
  · split
    · split
      · extract_lets old
        split
        · clear_value d3
          refine Eq.trans (congrArg AxisSt.history (d3.axSt_with _ ?_ a)) h3
          rfl
        · exact h3
      · exact h3
    · exact h3

theorem react_history (d : Dev) (a code cause : Nat) (pf : Bool) : ((d.react a code cause pf).axSt a).history = (d.axSt a).history := by
  unfold Dev.react
  extract_lets st loc c now d1
  split
  · rfl
  · split
    · rw [Dev.axSt_evObj]
    · split
      · exact applyReaction_history d a c cause pf
      · split
        · simp only [d1, Dev.axSt_setFld, Dev.axSt_evObj]
        · simp only [d1, Dev.axSt_evObj]

/-- A residual and its state, as a sample stores them. -/
theorem residualStored (d : Dev) (a : Nat) (x : AxisSt) (w : Word) (k : Nat) :
    (((d.setAxSt a x).setReg (R.AXIS_PRES a) w).maxReg (R.AXIS_PRESMAX a) k).axSt a = x ∧
    (((d.setAxSt a x).setReg (R.AXIS_PRES a) w).maxReg (R.AXIS_PRESMAX a) k).reg (R.AXIS_PRES a) = w := by
  have h : Inside [.AXIS_PRES] [] (d.setAxSt a x) ((d.setAxSt a x).setReg (R.AXIS_PRES a) w) := Inside.refl.setReg
  refine ⟨(h.maxReg.axSt a (by decide)).trans (d.axSt_setAxSt_same a x), ?_⟩
  exact ((Inside.refl (d := (d.setAxSt a x).setReg (R.AXIS_PRES a) w)).maxReg.reg (by decide)).trans (Dev.reg_setReg_same _ _ _)

theorem plausible_effect (d : Dev) {a : Nat} {r : AxisRec} (hr : d.axisRec a = some r) (hm : d.fld (R.PCFG a) F.PCFG.MODEL ≠ 0)
    (h0 : d.axState a ≠ 0) (h6 : d.axState a ≠ 6) (hp : (d.axSt a).primed = true) (hb : isBoundary d.time.tick (d.modelK r) = true)
    (hv : d.fbValid a = true) :
    ((d.plausible a).axSt a).history =
      (((d.modelInputs a).1, (d.axSt a).y1), ((d.modelInputs a).2, (d.axSt a).u1), 0, 0) ∧
    ((d.axSt a).primedNs + periodNs (d.modelK r) ≤ d.ns → (d.plausible a).reg (R.AXIS_PRES a) = wI (d.residual a)) := by
  unfold Dev.plausible
  simp -zeta only [hr]
  extract_lets +onlyGivenNames cfg model st x
  rw [if_neg (by simp [model, st, x, cfg, hm, h0, h6, hp, hb, hv])]
  generalize d.modelInputs a = q
  obtain ⟨y, u⟩ := q
  dsimp -zeta only
  extract_lets next res n fires d1
  have hnext : next.history = ((y, x.y1), (u, x.u1), 0, 0) := rfl
  by_cases hns : d.ns < x.primedNs + periodNs (d.modelK r)
  · rw [if_pos hns, Dev.axSt_setAxSt_same]
    exact ⟨hnext, fun h => absurd h (Nat.not_le.2 hns)⟩
  · rw [if_neg hns]
    obtain ⟨hx, hres⟩ := residualStored d a { next with bad := if fires then 0 else n } (wI res) res.natAbs
    have h1 : (d1.axSt a).history = ((y, x.y1), (u, x.u1), 0, 0) := (congrArg AxisSt.history hx).trans hnext
    split
    · refine ⟨?_, fun _ => ?_⟩
      · rw [react_history, Dev.axSt_evObj, Dev.axSt_setFld, h1]
      · exact (((Inside.refl.setFld.evObj).step (react_inside _ _ _ _ _)).reg (by decide)).trans hres
    · exact ⟨h1, fun _ => hres⟩

end Sys2Proof.Machine

namespace Sys2Proof.Machine

/-! ### Outputs of class F (R96, R203 to R205) -/

theorem Inside.pwm {l : List RegName} {ps : List Part} {d e : Dev} (h : Inside l ps d e) {x : PwmSt} :
    Inside l (.pwm :: ps) d { e with pwm := x } := h.of_part .pwm rfl rfl fun p hp => by cases p; all_goals trivial

theorem commitPair_inside (d : Dev) (l : Nat) (pair : Nat × Nat) : Inside [.PWM_LEG_CNT] [.pwm] d (d.commitPair l pair) := by
  unfold Dev.commitPair Dev.when
  extract_lets x late
  exact (Inside.ite _ (fun _ => Inside.refl.pwm.bump) fun _ => Inside.refl.pwm).within (by decide) (by decide)

theorem takeDuty_inside (d : Dev) (l : Nat) : Inside [.PWM_LEG_CNT] [.pwm] d (d.takeDuty l) := by
  unfold Dev.takeDuty
  split
  · exact Inside.refl.within (by decide) (by decide)
  · split
    · exact Inside.refl.within (by decide) (by decide)
    · exact commitPair_inside _ _ _

/-- The register of a level's delay. -/
def dlyName (lvl : Nat) : RegName :=
  match lvl with
  | 0 => .AXIS_DLY_P
  | 1 => .AXIS_DLY_V
  | _ => .AXIS_DLY_C

theorem dlyName_mem (lvl : Nat) : dlyName lvl ∈ [RegName.AXIS_DLY_P, .AXIS_DLY_V, .AXIS_DLY_C] := by
  unfold dlyName
  split <;> decide

theorem reportDelay_eq (d : Dev) (a lvl ns : Nat) : d.reportDelay a lvl ns =
    if d.classA a lvl then (d.setReg ⟨dlyName lvl, a, 0⟩ (wN ns)).maxReg (R.AXIS_DLYMAX a) ns else d.setReg ⟨dlyName lvl, a, 0⟩ (wN ns) := by
  match lvl with
  | 0 => rfl
  | 1 => rfl
  | n + 2 => rfl

theorem reportDelay_inside (d : Dev) (a lvl ns : Nat) :
    Inside [.AXIS_DLYMAX, .AXIS_DLY_P, .AXIS_DLY_V, .AXIS_DLY_C] [] d (d.reportDelay a lvl ns) := by
  rw [reportDelay_eq]
  have h : Inside [.AXIS_DLY_P, .AXIS_DLY_V, .AXIS_DLY_C] [] d (d.setReg ⟨dlyName lvl, a, 0⟩ (wN ns)) :=
    Inside.refl.setReg.within (List.cons_subset.2 ⟨dlyName_mem lvl, List.nil_subset _⟩) (by decide)
  exact (Inside.ite _ (fun _ => h.maxReg) fun _ => h).within (by decide) (by decide)

theorem dlyName_apart (lvl : Nat) : RegName.AXIS_DLYMAX.info.apart (dlyName lvl).info = true := by
  unfold dlyName
  split <;> decide

theorem dlyName_own (lvl : Nat) : settleNames.all (fun m => m.info.apart (dlyName lvl).info) = true := by
  unfold dlyName
  split <;> decide

theorem reportDelay_reg (d : Dev) (a lvl ns : Nat) : (d.reportDelay a lvl ns).reg ⟨dlyName lvl, a, 0⟩ = wN ns := by
  rw [reportDelay_eq]
  split
  · exact (Inside.refl.maxReg.reg (by simpa using dlyName_apart lvl)).trans (Dev.reg_setReg_same _ _ _)
  · exact Dev.reg_setReg_same _ _ _

theorem AxisSt.level_setLevel_same (x : AxisSt) (lvl : Nat) (l : LevelSt) : (x.setLevel lvl l).level lvl = l := tget_tset_same _ _ _ _

/-- R203: an output that is fresh is applied at its time, and its delay reported. -/
theorem classFTake_fresh (d : Dev) {a lvl : Nat} {r : AxisRec} (hr : d.axisRec a = some r) (hc : d.classA a lvl = false)
    (hl : (d.levels a).contains lvl = true) (he : d.axEnabled a = true)
    (hn : d.periodStart (r.levelK lvl) + 2 * d.fld (R.LVL_CFG a lvl) F.LVL_CFG.OUTPH ≤ d.ns) (hf : ((d.axSt a).level lvl).fresh = true)
    (hs : ((d.axSt a).level lvl).sampleNs = some (d.periodStart (r.levelK lvl)))
    (ht : ((d.axSt a).level lvl).takeNs ≠ some (d.periodStart (r.levelK lvl))) :
    d.classFTake a lvl = (d.setAxSt a ((d.axSt a).setLevel lvl { (d.axSt a).level lvl with
      applied := ((d.axSt a).level lvl).stored, late := 0, takeNs := some (d.periodStart (r.levelK lvl)), fresh := false })).reportDelay a lvl
        (2 * d.fld (R.LVL_CFG a lvl) F.LVL_CFG.OUTPH) := by
  unfold Dev.classFTake
  simp -zeta only [hr]
  extract_lets start ph x l set
  have hmem : lvl ∈ d.levels a := by simpa using hl
  rw [if_neg (by simp [hc, hmem, he, start, ph, l, x, hn, ht]), if_pos (by simp [l, x, hf, hs, start])]

theorem outputTake_inside (d : Dev) (a lvl : Nat) : Inside [.PWM_LEG_CNT] [.pwm] (d.classFTake a lvl) (d.outputTake a lvl) := by
  unfold Dev.outputTake
  extract_lets fresh d1 l
  split
  · exact (Inside.ite _ (fun _ => Inside.refl.each fun _ _ _ => takeDuty_inside _ _) fun _ => Inside.refl).within (by decide) (by decide)
  · exact Inside.refl.within (by decide) (by decide)

theorem dlyName_apart_legCnt (lvl : Nat) : RegName.PWM_LEG_CNT.info.apart (dlyName lvl).info = true := by
  unfold dlyName
  split <;> decide

theorem outputTake_effect (d : Dev) {a lvl : Nat} {r : AxisRec} (hr : d.axisRec a = some r) (hc : d.classA a lvl = false)
    (hl : (d.levels a).contains lvl = true) (he : d.axEnabled a = true)
    (hn : d.periodStart (r.levelK lvl) + 2 * d.fld (R.LVL_CFG a lvl) F.LVL_CFG.OUTPH ≤ d.ns) (hf : ((d.axSt a).level lvl).fresh = true)
    (hs : ((d.axSt a).level lvl).sampleNs = some (d.periodStart (r.levelK lvl)))
    (ht : ((d.axSt a).level lvl).takeNs ≠ some (d.periodStart (r.levelK lvl))) :
    (((d.outputTake a lvl).axSt a).level lvl).applied = ((d.axSt a).level lvl).stored ∧
    (((d.outputTake a lvl).axSt a).level lvl).fresh = false ∧
    (d.outputTake a lvl).reg ⟨dlyName lvl, a, 0⟩ = wN (2 * d.fld (R.LVL_CFG a lvl) F.LVL_CFG.OUTPH) := by
  have hin := outputTake_inside d a lvl
  rw [hin.axSt a (by decide), hin.reg (by simpa using dlyName_apart_legCnt lvl), classFTake_fresh d hr hc hl he hn hf hs ht,
    (reportDelay_inside _ _ _ _).axSt a (by decide), Dev.axSt_setAxSt_same, AxisSt.level_setLevel_same, reportDelay_reg]
  exact ⟨rfl, rfl, rfl⟩

end Sys2Proof.Machine

namespace Sys2Proof.Machine

/-! ### The downstream blocks of a cycle (R96, R212) -/

/-- From `d` to `e` the image and the takes that have been made stand. -/
structure TakesKept (d e : Dev) : Prop where
  takes : e.tall.takes = d.tall.takes
  loader : e.loader = d.loader

namespace TakesKept

variable {d e f : Dev}

theorem refl : TakesKept d d := ⟨rfl, rfl⟩

theorem trans (h : TakesKept d e) (k : TakesKept e f) : TakesKept d f := ⟨k.takes.trans h.takes, k.loader.trans h.loader⟩

theorem of_inside {l : List RegName} {ps : List Part} (h : Inside l ps d e) (ht : Part.tall ∉ ps) (hl : Part.loader ∉ ps) : TakesKept d e :=
  ⟨congrArg TallSt.takes (h.parts .tall ht), h.parts .loader hl⟩

theorem setTall (h : TakesKept d e) {x : TallSt} (hx : x.takes = e.tall.takes) : TakesKept d (e.setTall x) := h.trans ⟨hx, rfl⟩

theorem setAct (h : TakesKept d e) {i : Nat} {x : ActSt} : TakesKept d (e.setAct i x) := h.setTall rfl

theorem setTo (h : TakesKept d e) {o : Nat} {x : ToSt} : TakesKept d (e.setTo o x) := h.setTall rfl

theorem inc (h : TakesKept d e) {n : RegName} {i j : Nat} : TakesKept d (e.inc ⟨n, i, j⟩) :=
  h.trans (of_inside Inside.refl.inc (by decide) (by decide))

theorem bump (h : TakesKept d e) {n : RegName} {i j k : Nat} {g : Fld} : TakesKept d (e.bump ⟨n, i, j⟩ g k) :=
  h.trans (of_inside Inside.refl.bump (by decide) (by decide))

theorem setReg (h : TakesKept d e) {n : RegName} {i j : Nat} {w : Word} : TakesKept d (e.setReg ⟨n, i, j⟩ w) :=
  h.trans (of_inside Inside.refl.setReg (by decide) (by decide))

theorem actEv (h : TakesKept d e) {c k : Nat} {x : ActSt} {l : List Word} : TakesKept d (e.actEv c k x l) :=
  h.trans (of_inside Inside.refl.evObj (by decide) (by decide))

theorem chanStore (h : TakesKept d e) {c : Nat} {v : Word} {k : Bool} {rel : Option Nat} : TakesKept d (e.chanStore c v k rel) :=
  h.trans (of_inside (chanStore_inside _ _ _ _ _) (by decide) (by decide))

theorem ite (c : Prop) [Decidable c] (h : TakesKept d e) (k : TakesKept d f) : TakesKept d (if c then e else f) := by
  split
  · exact h
  · exact k

theorem each {α : Type} {xs : List α} {g : Dev → α → Dev} (hg : ∀ x a, TakesKept x (g x a)) : TakesKept d (d.each xs g) :=
  Dev.each_keeps (Q := TakesKept d) (fun x a _ h => h.trans (hg x a)) refl

end TakesKept

theorem lateWrap_takesKept (d : Dev) (x : ActSt) (pos : Int) : TakesKept d (d.lateWrap x pos) :=
  TakesKept.ite _ TakesKept.refl.inc.actEv TakesKept.refl

theorem crossed_takesKept (d : Dev) (i ns : Nat) (pos : Int) : TakesKept d (d.crossed i ns pos) := by
  unfold Dev.crossed
  split
  · exact TakesKept.refl
  · extract_lets f d1 y
    refine TakesKept.ite _ (TakesKept.refl.setAct.trans (lateWrap_takesKept _ _ _)) ?_
    exact (TakesKept.ite _ TakesKept.refl.setAct TakesKept.refl : TakesKept d d1).setTall rfl

theorem scan_takesKept (d : Dev) (t : Nat) : TakesKept d (d.scan t) := by
  unfold Dev.scan
  refine TakesKept.ite _ TakesKept.refl ?_
  extract_lets +onlyGivenNames x now
  split
  · exact TakesKept.refl.setTall rfl
  · extract_lets +onlyGivenNames dp v t0 cs y d1
    exact (TakesKept.refl.setTall rfl : TakesKept d d1).trans (TakesKept.each fun _ _ => crossed_takesKept _ _ _ _)

theorem toWait_takesKept (d : Dev) (o a : Nat) : TakesKept d (d.toWait o a) := by
  unfold Dev.toWait
  split
  · exact TakesKept.ite _ TakesKept.refl (TakesKept.ite _ TakesKept.refl.setAct TakesKept.refl.setAct.inc.bump.actEv)
  · exact TakesKept.refl

theorem toSend_takesKept (d : Dev) (o i : Nat) (x : ActSt) (tf take hor path : Nat) (valid final : Bool) :
    TakesKept d (d.toSend o i x tf take hor path valid final) := by
  unfold Dev.toSend
  extract_lets s same token commits late y d1
  have h1 : TakesKept d d1 := TakesKept.refl.setAct.setTo
  exact TakesKept.ite _ h1.inc.bump.actEv h1

theorem toTake_takesKept (d : Dev) (o p i take : Nat) : TakesKept d (d.toTake o p i take) := by
  unfold Dev.toTake
  extract_lets +onlyGivenNames hor path valid mine cands due s occupied idle repeated
  refine TakesKept.ite _ (TakesKept.refl.setTo.trans (TakesKept.each fun _ _ => toWait_takesKept _ _ _)) ?_
  extract_lets +onlyGivenNames d0
  have h0 : TakesKept d d0 := by
    unfold d0
    split
    · split
      · exact TakesKept.ite _ TakesKept.refl.setAct.setTo TakesKept.refl
      · exact TakesKept.refl.setTo
    · exact TakesKept.refl
  clear_value d0
  split
  · extract_lets +onlyGivenNames d1 d2 final
    have h1 : TakesKept d d1 := by
      unfold d1
      split
      · refine TakesKept.ite _ h0 ?_
        split
        · exact TakesKept.ite _ h0.setAct h0
        · exact h0
      · exact h0
    have h2 : TakesKept d d2 := h1.trans (TakesKept.each fun _ _ => toWait_takesKept _ _ _)
    exact h2.setTo.trans (toSend_takesKept _ _ _ _ _ _ _ _ _ _)
  · split
    · exact h0.setTo
    · exact h0.setTo

theorem fragmentOut_inside (d : Dev) (c : Nat) : Inside [] [.safe] d (d.fragmentOut c).1 := by
  unfold Dev.fragmentOut
  extract_lets x
  split
  · exact Inside.refl.within (by decide) (by decide)
  · extract_lets d1 d2
    have h1 : Inside [] [.safe] d d1 := Inside.refl.safe.emit
    exact (Inside.ite _ (fun _ => h1.each fun _ _ _ => Inside.refl.safe) fun _ => h1).within (by decide) (by decide)

theorem safeBlock_inside (d : Dev) (p i : Nat) (b : List Byte) : Inside [] [.safe] d (d.safeBlock p i b).1 := by
  unfold Dev.safeBlock
  refine List.foldlRecOn (motive := fun acc : Dev × List Byte => Inside [] [.safe] d acc.1) _ _
    (Inside.refl.within (by decide) (by decide)) fun acc h r _ => ?_
  exact h.trans (fragmentOut_inside acc.1 _)

end Sys2Proof.Machine

namespace Sys2Proof.Machine

/-- The block of slot `i` is taken at a port: the image and the takes stand, and no block is given up. -/
structure BlockTaken (p i : Nat) (d e : Dev) : Prop where
  kept : TakesKept d e
  grows : ∀ j, (tget? (d.port p).blocks j).isSome = true → (tget? (e.port p).blocks j).isSome = true
  taken : (d.slotRec p i).isSome = true → (tget? (e.port p).blocks i).isSome = true

theorem slotRec_of_loader {d e : Dev} (h : e.loader = d.loader) (p i : Nat) : e.slotRec p i = d.slotRec p i := by
  simp only [Dev.slotRec, Dev.img, h]

/-- The blocks of all the slots of a list that the image knows. -/
theorem blocks_each {p : Nat} {g : Dev → Nat → Dev} (hg : ∀ e i, BlockTaken p i e (g e i)) {l : List Nat} {d : Dev} :
    TakesKept d (d.each l g) ∧ ∀ i, (tget? (d.port p).blocks i).isSome = true ∨ (i ∈ l ∧ (d.slotRec p i).isSome = true) →
      (tget? ((d.each l g).port p).blocks i).isSome = true := by
  induction l generalizing d with
  | nil => exact ⟨TakesKept.refl, fun i hi => hi.resolve_right (by simp)⟩
  | cons a as ih =>
    obtain ⟨hk, hgrow, htaken⟩ := hg d a
    obtain ⟨hkall, hall⟩ := ih (d := g d a)
    refine ⟨hk.trans hkall, fun i hi => hall i ?_⟩
    rw [slotRec_of_loader hk.loader]
    rcases hi with hi | ⟨hi, hr⟩
    · exact .inl (hgrow i hi)
    · rcases List.mem_cons.1 hi with rfl | hmem
      · exact .inl (htaken hr)
      · exact .inr ⟨hmem, hr⟩

theorem downstreamTake_effect (d : Dev) {p : Nat} {relayed : Bool} (hb : d.basePort p = p) (hs : d.sends p = true)
    (hn : (d.ns / d.portNs p + 1) * d.portNs p - takeLead relayed ≤ d.ns)
    (ht : tget? d.tall.takes (2 * p + (if relayed then 1 else 0)) ≠ some ((d.ns / d.portNs p + 1) * d.portNs p)) :
    tget? (d.downstreamTake p relayed).tall.takes (2 * p + (if relayed then 1 else 0)) = some ((d.ns / d.portNs p + 1) * d.portNs p) ∧
    ∀ i ∈ List.range (d.nodes p), d.slotRelayed p i = relayed → (d.slotRec p i).isSome = true →
      (tget? ((d.downstreamTake p relayed).port p).blocks i).isSome = true := by
  unfold Dev.downstreamTake
  extract_lets +onlyGivenNames per cs take key
  rw [if_neg (by simp [hb, hs, take, key, cs, per, ht]; omega)]
  extract_lets +onlyGivenNames slots x d0 d1
  have h0 : TakesKept (d.setTall { x with takes := tset d.tall.takes key cs }) d0 := TakesKept.each fun _ _ => scan_takesKept _ _
  have h1 : TakesKept (d.setTall { x with takes := tset d.tall.takes key cs }) d1 := by
    refine h0.trans (TakesKept.each fun e a => ?_)
    split
    · next r _ =>
      refine TakesKept.ite _ ?_ TakesKept.refl
      extract_lets e2 st put
      have hput (y : Dev) (w v : Nat) : TakesKept y (put y w v) := by
        unfold put
        split
        · exact TakesKept.refl.chanStore
        · exact TakesKept.refl
      exact (((toTake_takesKept e a.1 p r.slot take).trans (hput _ _ _)).trans (hput _ _ _)).setReg
    · exact TakesKept.refl
  clear_value d1
  extract_lets +onlyGivenNames d2
  have h2 : TakesKept d1 d2 ∧ ∀ i, (tget? (d1.port p).blocks i).isSome = true ∨ (i ∈ slots ∧ (d1.slotRec p i).isSome = true) →
      (tget? (d2.port p).blocks i).isSome = true := by
    refine blocks_each fun e i => ?_
    split
    · next hr => exact ⟨TakesKept.refl, fun _ h => h, fun h => absurd h (by simp [hr])⟩
    · next r hr =>
      extract_lets ms word ok late f sb f1
      have hf : Inside [.AXIS_DLYMAX, .AXIS_DLY_P, .AXIS_DLY_V, .AXIS_DLY_C, .AXIS_DLYCYC] [] e f := by
        refine Inside.within (Inside.refl.each (l' := [.AXIS_DLYMAX, .AXIS_DLY_P, .AXIS_DLY_V, .AXIS_DLY_C, .AXIS_DLYCYC]) (ps' := [])
          fun y a _ => ?_) (by decide) (by decide)
        extract_lets fresh
        split
        · split
          · exact (reportDelay_inside _ _ _ _).within (by decide) (by decide)
          · exact Inside.refl.within (by decide) (by decide)
        · exact Inside.refl.bump.within (by decide) (by decide)
      have hs : Inside [.AXIS_DLYMAX, .AXIS_DLY_P, .AXIS_DLY_V, .AXIS_DLY_C, .AXIS_DLYCYC] [.safe] e sb.1 :=
        hf.step (safeBlock_inside f p i (le 12 word))
      have hall : Inside [] [.engs] f1 (f1.each ms fun d m => { d with engs := { d.engs with
          chan := tset d.engs.chan m.chan { d.chanSt m.chan with fresh := false } } }) := Inside.refl.each fun _ _ _ => Inside.refl.engs
      have hport : ((f1.each ms fun d m => { d with engs := { d.engs with
          chan := tset d.engs.chan m.chan { d.chanSt m.chan with fresh := false } } }).port p).blocks = tset (e.port p).blocks i sb.2 := by
        rw [hall.port p (by decide), Dev.port_updPort_same, hs.port p (by decide)]
      refine ⟨?_, fun j hj => ?_, fun _ => ?_⟩
      · exact TakesKept.of_inside ((hs.updPort (p := p)).step hall) (by decide) (by decide)
      · rw [hport]
        by_cases hij : i = j
        · rw [hij, tget?_tset_same]
          rfl
        · rwa [tget?_tset_other _ _ hij]
      · rw [hport, tget?_tset_same]
        rfl
  obtain ⟨hk, hblocks⟩ := h2
  clear_value d2
  have htakes : d2.tall.takes = tset d.tall.takes key cs := (h1.trans hk).takes
  generalize hl : d2.linkSend 3 _ = last
  have hlast : Inside [] [.link] d2 (if relayed then last else d2) :=
    (Inside.ite _ (fun _ => hl ▸ linkSend_inside _ _ _) fun _ => Inside.refl).within (by decide) (by decide)
  refine ⟨?_, fun i hi hr hrec => ?_⟩
  · rw [(TakesKept.of_inside hlast (by decide) (by decide)).takes, htakes]
    exact tget?_tset_same _ _ _
  · rw [hlast.port p (by decide)]
    exact hblocks i (.inr ⟨List.mem_filter.2 ⟨hi, beq_iff_eq.2 hr⟩, by rwa [slotRec_of_loader (h1.loader.trans rfl)]⟩)

/-- Settles O20: each clause is the effect of its command, read in what follows it. -/
theorem axisSamplesComplete : Obligations.AxisSamplesComplete := by
  rintro s d rfl hon
  refine ⟨?_, ?_, ?_, ?_, ?_⟩
  case refine_1 =>
    intro a r ha hr hk hb ht hen
    refine runs_of_runIf (f := fun d => d.setpoint a) rfl hon (decide_eq_true ha) fun e he => ?_
    obtain ⟨htick, hpos⟩ := setpoint_effect s.start hr hk hb ht hen
    have hms : e.ms a = (s.start.setpoint a).ms a := Dev.ms_of_mot he.kept.mot a
    have hst : e.axState a = (s.start.setpoint a).axState a := he.fld_own (by decide)
    have hpair : e.pairI (R.AXIS_MOT_POS_LO a) (R.AXIS_MOT_POS_HI a) =
        (s.start.setpoint a).pairI (R.AXIS_MOT_POS_LO a) (R.AXIS_MOT_POS_HI a) := by
      simp only [Dev.pairI, Dev.pair, he.reg_own (n := .AXIS_MOT_POS_LO) (by decide), he.reg_own (n := .AXIS_MOT_POS_HI) (by decide)]
    rw [hms, hst, hpair]
    exact ⟨htick, fun _ => hpos⟩
  case refine_2 =>
    intro a ha hs h8
    refine runs_of_runIf (f := fun d => d.stopComplete a) rfl hon (decide_eq_true ha) fun e he => ?_
    obtain ⟨hst, hr⟩ := stopComplete_effect s.start hs h8
    exact ⟨(he.fld_own (by decide)).trans hst, (congrArg AxisSt.ramp (Dev.axSt_of_axes (congrArg AxesSt.axes he.kept.axs) a)).trans hr⟩
  case refine_3 =>
    intro a r ha hr hm h0 h6 hp hb hv
    refine runs_of_runIf (f := fun d => d.plausible a) rfl hon (decide_eq_true ha) fun e he => ?_
    obtain ⟨hh, hres⟩ := plausible_effect s.start hr hm h0 h6 hp hb hv
    simp only [AxisSt.history, Prod.mk.injEq] at hh
    obtain ⟨⟨hy1, hy2⟩, ⟨hu1, hu2⟩, hsum, hn⟩ := hh
    rw [Dev.axSt_of_axes (congrArg AxesSt.axes he.kept.axs) a, he.reg_own (by decide)]
    exact ⟨hy1, hy2, hu1, hu2, hsum, hn, hres⟩
  case refine_4 =>
    intro a lvl r ha hlvl hr hc hl hen hn hf hs ht
    refine runs_of_runIf (f := fun d => d.outputTake a lvl) rfl hon (by simp [ha, hlvl]) fun e he => ?_
    obtain ⟨happ, hfresh, hreg⟩ := outputTake_effect s.start hr hc hl hen hn hf hs ht
    have hdly : e.reg ⟨dlyName lvl, a, 0⟩ = wN (2 * s.start.fld (R.LVL_CFG a lvl) F.LVL_CFG.OUTPH) :=
      (he.reg_own (dlyName_own lvl)).trans hreg
    rw [Dev.axSt_of_axes (congrArg AxesSt.axes he.kept.axs) a]
    refine ⟨happ, hfresh, ?_⟩
    clear happ hfresh hreg
    rcases lvl with _ | _ | n
    · exact hdly
    · exact hdly
    · exact hdly
  case refine_5 =>
    intro p relayed hp hb hs hn ht
    refine runs_of_runIf (f := fun d => d.downstreamTake p relayed) rfl hon (decide_eq_true hp) fun e he => ?_
    obtain ⟨h1, h2⟩ := downstreamTake_effect s.start hb hs hn ht
    have htakes : e.tall.takes = (s.start.downstreamTake p relayed).tall.takes := congrArg TallSt.takes he.kept.tall
    rw [htakes, he.port]
    exact ⟨h1, h2⟩

end Sys2Proof.Machine

namespace Sys2Proof.Machine

/-! ### The word of PWR_STAT: what leaves it alone -/

/-- The word that is listed for PWR_STAT. -/
def Dev.pwrWord (d : Dev) : Option Word := tget? d.regs R.PWR_STAT.addr

theorem Dev.pwrWord_of_regs {d e : Dev} (h : e.regs = d.regs) : e.pwrWord = d.pwrWord := by simp only [Dev.pwrWord, h]

/-- Every register but PWR_STAT stands apart from it. -/
theorem apart_pwrStat {n : RegName} (h : n ≠ .PWR_STAT) : n.info.apart RegName.PWR_STAT.info = true := by
  cases n
  case PWR_STAT => exact absurd rfl h
  all_goals decide

section
variable (d : Dev)

/-- A step that changes no register. -/
@[simp] theorem Dev.pwrWord_mk (clk fresh w1c out evq fil time bureau host cap loader line engs axs pwm fbk mot arms dio tall gorse safe can duo
    link sec pwr sys) : Dev.pwrWord ⟨d.regs, clk, fresh, w1c, out, evq, fil, time, bureau, host, cap, loader, line, engs, axs, pwm, fbk, mot, arms,
      dio, tall, gorse, safe, can, duo, link, sec, pwr, sys⟩ = d.pwrWord := Dev.pwrWord_of_regs rfl

@[simp] theorem Dev.pwrWord_setReg {r : Reg} (w : Word) (h : r.name ≠ .PWR_STAT) : (d.setReg r w).pwrWord = d.pwrWord := by
  have ha : r.addr ≠ R.PWR_STAT.addr := addr_ne_of_apart (apart_pwrStat h)
  unfold Dev.pwrWord Dev.setReg
  split
  · exact tget?_tdel_other _ ha
  · exact tget?_tset_other _ _ ha

@[simp] theorem Dev.pwrWord_setFld {r : Reg} (f : Fld) (v : Nat) (h : r.name ≠ .PWR_STAT) : (d.setFld r f v).pwrWord = d.pwrWord :=
  d.pwrWord_setReg _ h

@[simp] theorem Dev.pwrWord_setRegI {r : Reg} (x : Int) (h : r.name ≠ .PWR_STAT) : (d.setRegI r x).pwrWord = d.pwrWord := d.pwrWord_setReg _ h

@[simp] theorem Dev.pwrWord_clearReg {r : Reg} (h : r.name ≠ .PWR_STAT) : (d.clearReg r).pwrWord = d.pwrWord := d.pwrWord_setReg _ h

@[simp] theorem Dev.pwrWord_bump {r : Reg} (f : Fld) (n : Nat) (h : r.name ≠ .PWR_STAT) : (d.bump r f n).pwrWord = d.pwrWord :=
  d.pwrWord_setFld _ _ h

@[simp] theorem Dev.pwrWord_inc {r : Reg} (h : r.name ≠ .PWR_STAT) : (d.inc r).pwrWord = d.pwrWord := d.pwrWord_bump _ _ h

@[simp] theorem Dev.pwrWord_setPair {lo hi : Reg} (x : Int) (hl : lo.name ≠ .PWR_STAT) (hh : hi.name ≠ .PWR_STAT) :
    (d.setPair lo hi x).pwrWord = d.pwrWord := (Dev.pwrWord_setReg _ _ hh).trans (d.pwrWord_setReg _ hl)

@[simp] theorem Dev.pwrWord_markSet (r : Reg) (m : Nat) : (d.markSet r m).pwrWord = d.pwrWord := Dev.pwrWord_of_regs rfl

@[simp] theorem Dev.pwrWord_setW1c {r : Reg} (f : Fld) (m : Nat) (h : r.name ≠ .PWR_STAT) : (d.setW1c r f m).pwrWord = d.pwrWord :=
  (Dev.pwrWord_markSet _ _ _).trans (d.pwrWord_setFld _ _ h)

@[simp] theorem Dev.pwrWord_ev (c k : Nat) (x : List Word) : (d.ev c k x).pwrWord = d.pwrWord := Dev.pwrWord_of_regs rfl

@[simp] theorem Dev.pwrWord_evObj (c k o : Nat) (x : List Word) : (d.evObj c k o x).pwrWord = d.pwrWord := Dev.pwrWord_of_regs rfl

@[simp] theorem Dev.pwrWord_evAt (c k o : Nat) (i : Option Nat) (x : List Word) : (d.evAt c k o i x).pwrWord = d.pwrWord := Dev.pwrWord_of_regs rfl

@[simp] theorem Dev.pwrWord_emit (o : Out) : (d.emit o).pwrWord = d.pwrWord := Dev.pwrWord_of_regs rfl

@[simp] theorem Dev.pwrWord_ite (c : Prop) [Decidable c] (e : Dev) : (if c then d else e).pwrWord = if c then d.pwrWord else e.pwrWord :=
  apply_ite Dev.pwrWord c d e

@[simp] theorem Dev.pwrWord_each {α : Type} (l : List α) (g : Dev → α → Dev) (h : ∀ x a, (g x a).pwrWord = x.pwrWord) :
    (d.each l g).pwrWord = d.pwrWord :=
  Dev.each_keeps (Q := fun e => e.pwrWord = d.pwrWord) (fun x a _ hx => (h x a).trans hx) rfl

@[simp] theorem Dev.pwrWord_when (c : Bool) (g : Dev → Dev) (h : ∀ x, (g x).pwrWord = x.pwrWord) : (d.when c g).pwrWord = d.pwrWord := by
  simp [Dev.when, h]

end

end Sys2Proof.Machine

namespace Sys2Proof.Machine

/-! ### The functions of the device that leave PWR_STAT alone, block by block -/

section
variable (d : Dev)

/-! #### Registers -/

@[simp] theorem fit32_pwrWord (x : Int) : (d.fit32 x).2.pwrWord = d.pwrWord := by
  unfold Dev.fit32
  split
  · rfl
  · simp [Dev.free]

/-! #### Gates and the link -/

@[simp] theorem setLeg_pwrWord (l : Nat) (x : LegSt) : (d.setLeg l x).pwrWord = d.pwrWord := by simp [Dev.setLeg]

@[simp] theorem gateFollows_pwrWord (l : Nat) : (d.gateFollows l).pwrWord = d.pwrWord := by simp [Dev.gateFollows]

@[simp] theorem gatesOff_pwrWord : d.gatesOff.pwrWord = d.pwrWord := by simp [Dev.gatesOff]

@[simp] theorem linkPut_pwrWord (o : Out) : (d.linkPut o).pwrWord = d.pwrWord := by simp [Dev.linkPut]

@[simp] theorem linkSend_pwrWord (typ : Nat) (fields : List Int) : (d.linkSend typ fields).pwrWord = d.pwrWord := by simp [Dev.linkSend]

/-! #### The Bureau -/

@[simp] theorem evtNext_pwrWord : d.evtNext.pwrWord = d.pwrWord := by simp [Dev.evtNext]

@[simp] theorem evtClear_pwrWord : d.evtClear.pwrWord = d.pwrWord := by simp [Dev.evtClear]

@[simp] theorem retest_pwrWord (bad : List Nat) : (d.retest bad).pwrWord = d.pwrWord := by simp [Dev.retest]

/-! #### Outputs -/

@[simp] theorem setDioCh_pwrWord (k : Nat) (x : DioCh) : (d.setDioCh k x).pwrWord = d.pwrWord := by simp [Dev.setDioCh]

@[simp] theorem dioDrive_pwrWord (k : Nat) : (d.dioDrive k).pwrWord = d.pwrWord := by simp [Dev.dioDrive]

@[simp] theorem dioDriveBank_pwrWord (b : Nat) : (d.dioDriveBank b).pwrWord = d.pwrWord := by simp [Dev.dioDriveBank]

@[simp] theorem dioCommand_pwrWord (k : Nat) (on : Bool) : (d.dioCommand k on).pwrWord = d.pwrWord := by simp [Dev.dioCommand]

@[simp] theorem dioFabric_pwrWord (cons : Nat) (val : Word) : (d.dioFabric cons val).pwrWord = d.pwrWord := by simp [Dev.dioFabric]

/-! #### Channels and axes -/

@[simp] theorem chanStore_pwrWord (c : Nat) (val : Word) (valid : Bool) (rel : Option Nat) :
    (d.chanStore c val valid rel).pwrWord = d.pwrWord := by
  unfold Dev.chanStore
  split <;> simp

@[simp] theorem chanValid_pwrWord (c : Nat) (valid : Bool) : (d.chanValid c valid).pwrWord = d.pwrWord := by simp [Dev.chanValid]

@[simp] theorem setAxSt_pwrWord (a : Nat) (x : AxisSt) : (d.setAxSt a x).pwrWord = d.pwrWord := by simp [Dev.setAxSt]

@[simp] theorem updAxSt_pwrWord (a : Nat) (f : AxisSt → AxisSt) : (d.updAxSt a f).pwrWord = d.pwrWord := by simp [Dev.updAxSt]

@[simp] theorem outputsZero_pwrWord (a : Nat) : (d.outputsZero a).pwrWord = d.pwrWord := by
  unfold Dev.outputsZero
  dsimp only
  split <;> simp

@[simp] theorem applyReaction_pwrWord (a code cause : Nat) (pf : Bool) : (d.applyReaction a code cause pf).pwrWord = d.pwrWord := by
  unfold Dev.applyReaction
  dsimp only
  split
  · simp
  · split <;> simp

@[simp] theorem react_pwrWord (a code cause : Nat) (pf : Bool) : (d.react a code cause pf).pwrWord = d.pwrWord := by simp [Dev.react]

/-! #### The engines -/

@[simp] theorem setEng_pwrWord (e : Nat) (x : EngSt) : (d.setEng e x).pwrWord = d.pwrWord := by simp [Dev.setEng]

@[simp] theorem updStat_pwrWord (t : Nat) (f : TaskStat → TaskStat) : (d.updStat t f).pwrWord = d.pwrWord := by simp [Dev.updStat]

@[simp] theorem dropRelease_pwrWord (e t : Nat) : (d.dropRelease e t).pwrWord = d.pwrWord := by simp [Dev.dropRelease]

@[simp] theorem ceClrMax_pwrWord (e : Nat) : (d.ceClrMax e).pwrWord = d.pwrWord := by simp [Dev.ceClrMax]

@[simp] theorem ceResume_pwrWord (e : Nat) : (d.ceResume e).pwrWord = d.pwrWord := by simp [Dev.ceResume]

@[simp] theorem resumeEngine_pwrWord (e : Nat) : (d.resumeEngine e).pwrWord = d.pwrWord := by simp [Dev.resumeEngine]

/-! #### The loops -/

@[simp] theorem primeModel_pwrWord (a : Nat) : (d.primeModel a).pwrWord = d.pwrWord := by simp [Dev.primeModel]

@[simp] theorem startTask_pwrWord (t : Nat) : (d.startTask t).pwrWord = d.pwrWord := by
  unfold Dev.startTask
  dsimp only
  split
  · split <;> simp
  · simp

@[simp] theorem filterCommit_pwrWord (a s : Nat) (cfg : Word) : (d.filterCommit a s cfg).1.pwrWord = d.pwrWord := by
  unfold Dev.filterCommit
  dsimp only
  split <;> simp

/-! #### Safety connections -/

@[simp] theorem setConn_pwrWord (c : Nat) (x : SafeConn) : (d.setConn c x).pwrWord = d.pwrWord := by simp [Dev.setConn]

@[simp] theorem setSax_pwrWord (k : Nat) (x : SafeAxis) : (d.setSax k x).pwrWord = d.pwrWord := by simp [Dev.setSax]

/-! #### Time -/

@[simp] theorem refsel_pwrWord : d.refsel.pwrWord = d.pwrWord := by simp [Dev.refsel]

@[simp] theorem closeWindow_pwrWord : d.closeWindow.pwrWord = d.pwrWord := by simp [Dev.closeWindow]

@[simp] theorem makeStep_pwrWord (ofs : Int) : (d.makeStep ofs).pwrWord = d.pwrWord := by simp [Dev.makeStep]

@[simp] theorem timeCtlDo_pwrWord (w : Word) : (d.timeCtlDo w).pwrWord = d.pwrWord := by simp [Dev.timeCtlDo]

@[simp] theorem cmpArm_pwrWord (k : Nat) : (d.cmpArm k).pwrWord = d.pwrWord := by simp [Dev.cmpArm]

@[simp] theorem cmpDisarm_pwrWord (k : Nat) : (d.cmpDisarm k).pwrWord = d.pwrWord := by simp [Dev.cmpDisarm]

@[simp] theorem cmpAction_pwrWord (k : Nat) (tgt : Word) : (d.cmpAction k tgt).pwrWord = d.pwrWord := by
  unfold Dev.cmpAction
  dsimp only
  split <;> simp

@[simp] theorem cmpFire_pwrWord (k : Nat) : (d.cmpFire k).pwrWord = d.pwrWord := by
  unfold Dev.cmpFire
  split <;> simp

@[simp] theorem cmpCtlDo_pwrWord (k : Nat) (w : Word) : (d.cmpCtlDo k w).pwrWord = d.pwrWord := by simp [Dev.cmpCtlDo]

@[simp] theorem cmpLoseAll_pwrWord : d.cmpLoseAll.pwrWord = d.pwrWord := by simp [Dev.cmpLoseAll]

@[simp] theorem cmpFromImage_pwrWord (r : CmpRec) (t : Nat) : (d.cmpFromImage r t).pwrWord = d.pwrWord := by simp [Dev.cmpFromImage]

@[simp] theorem cmpRearmImage_pwrWord (base : Nat) : (d.cmpRearmImage base).pwrWord = d.pwrWord := by simp [Dev.cmpRearmImage]

/-! #### The line -/

@[simp] theorem setPort_pwrWord (p : Nat) (x : PortSt) : (d.setPort p x).pwrWord = d.pwrWord := by simp [Dev.setPort]

@[simp] theorem updPort_pwrWord (p : Nat) (f : PortSt → PortSt) : (d.updPort p f).pwrWord = d.pwrWord := by simp [Dev.updPort]

@[simp] theorem setPortState_pwrWord (p st : Nat) : (d.setPortState p st).pwrWord = d.pwrWord := by simp [Dev.setPortState]

@[simp] theorem acyclic_pwrWord (p typ adr : Nat) (body : List Byte) :
    (d.acyclic p typ adr body).pwrWord = d.pwrWord := by simp [Dev.acyclic]

@[simp] theorem send_pwrWord (p typ adr : Nat) (body : List Byte) : (d.send p typ adr body).pwrWord = d.pwrWord := by simp [Dev.send]

@[simp] theorem setDuo_pwrWord (x : PairSt) : (d.setDuo x).pwrWord = d.pwrWord := by simp [Dev.setDuo]

@[simp] theorem setMstate_pwrWord (st : Nat) : (d.setMstate st).pwrWord = d.pwrWord := by simp [Dev.setMstate]

@[simp] theorem askCopy_pwrWord : d.askCopy.pwrWord = d.pwrWord := by simp [Dev.askCopy]

@[simp] theorem portStart_pwrWord (p : Nat) : (d.portStart p).pwrWord = d.pwrWord := by simp [Dev.portStart]

@[simp] theorem portOff_pwrWord (p : Nat) : (d.portOff p).pwrWord = d.pwrWord := by simp [Dev.portOff]

@[simp] theorem portStop_pwrWord (p : Nat) : (d.portStop p).pwrWord = d.pwrWord := by simp [Dev.portStop]

@[simp] theorem lineCtlDo_pwrWord (p : Nat) (w : Word) : (d.lineCtlDo p w).pwrWord = d.pwrWord := by simp [Dev.lineCtlDo]

@[simp] theorem setGrp_pwrWord (g : Nat) (x : GroupSt) : (d.setGrp g x).pwrWord = d.pwrWord := by simp [Dev.setGrp]

@[simp] theorem setGrpState_pwrWord (g st : Nat) : (d.setGrpState g st).pwrWord = d.pwrWord := by simp [Dev.setGrpState]

@[simp] theorem sendApply_pwrWord (g n mode token : Nat) (ms : List (Nat × Nat × Nat)) :
    (d.sendApply g n mode token ms).pwrWord = d.pwrWord := by simp [Dev.sendApply]

@[simp] theorem grpAllStaged_pwrWord (g : Nat) : (d.grpAllStaged g).pwrWord = d.pwrWord := by simp [Dev.grpAllStaged]

@[simp] theorem grpStart_pwrWord (g : Nat) : (d.grpStart g).pwrWord = d.pwrWord := by simp [Dev.grpStart]

@[simp] theorem holdLine_pwrWord (p : Nat) : (d.holdLine p).pwrWord = d.pwrWord := by simp [Dev.holdLine]

/-! #### The legs -/

@[simp] theorem setCar_pwrWord (c : Nat) (x : CarSt) : (d.setCar c x).pwrWord = d.pwrWord := by simp [Dev.setCar]

@[simp] theorem commitPair_pwrWord (l : Nat) (pair : Nat × Nat) : (d.commitPair l pair).pwrWord = d.pwrWord := by
  simp [Dev.commitPair, legReg]

@[simp] theorem directCommit_pwrWord (l : Nat) (pair : Nat × Nat) :
    (d.directCommit l pair).pwrWord = d.pwrWord := by simp [Dev.directCommit]

@[simp] theorem legForm_pwrWord (l : Nat) : (d.legForm l).pwrWord = d.pwrWord := by
  simp [Dev.legForm, legReg]

@[simp] theorem clearAcc_pwrWord (l : Nat) : (d.clearAcc l).pwrWord = d.pwrWord := by simp [Dev.clearAcc, legReg]

@[simp] theorem legAnew_pwrWord (l : Nat) : (d.legAnew l).pwrWord = d.pwrWord := by simp [Dev.legAnew, legReg]

@[simp] theorem legsEnable_pwrWord (l0 : Nat) : (d.legsEnable l0).pwrWord = d.pwrWord := by simp [Dev.legsEnable]

@[simp] theorem tripDrive_pwrWord (c i : Nat) : (d.tripDrive c i).pwrWord = d.pwrWord := by
  unfold Dev.tripDrive
  extract_lets d1
  have h1 : d1.pwrWord = d.pwrWord := by simp [d1, legReg]
  split <;> simp [h1]

@[simp] theorem tripInput_pwrWord (c t : Nat) : (d.tripInput c t).pwrWord = d.pwrWord := by simp [Dev.tripInput]

@[simp] theorem typeOkNow_pwrWord (c : Nat) : (d.typeOkNow c).pwrWord = d.pwrWord := by simp [Dev.typeOkNow]

@[simp] theorem carIdStart_pwrWord (c : Nat) : (d.carIdStart c).pwrWord = d.pwrWord := by simp [Dev.carIdStart]

@[simp] theorem legCtlDo_pwrWord (l : Nat) (old w : Word) : (d.legCtlDo l old w).pwrWord = d.pwrWord := by simp [Dev.legCtlDo]

@[simp] theorem legCfgDo_pwrWord (l : Nat) (old : Word) : (d.legCfgDo l old).pwrWord = d.pwrWord := by simp [Dev.legCfgDo]

/-! #### Feedback -/

@[simp] theorem setEnc_pwrWord (k : Nat) (x : EncSt) : (d.setEnc k x).pwrWord = d.pwrWord := by simp [Dev.setEnc]

@[simp] theorem encValidity_pwrWord (k : Nat) : (d.encValidity k).pwrWord = d.pwrWord := by simp [Dev.encValidity]

@[simp] theorem clrInv_pwrWord (k : Nat) : (d.clrInv k).pwrWord = d.pwrWord := by simp [Dev.clrInv]

@[simp] theorem encPreset_pwrWord (k : Nat) (w : Word) : (d.encPreset k w).pwrWord = d.pwrWord := by simp [Dev.encPreset]

@[simp] theorem probeCtl_pwrWord (p : Nat) (w : Word) : (d.probeCtl p w).pwrWord = d.pwrWord := by simp [Dev.probeCtl]

@[simp] theorem encRestore_pwrWord (mask : Nat) : (d.encRestore mask).pwrWord = d.pwrWord := by simp [Dev.encRestore]

/-! #### Motion -/

@[simp] theorem setMs_pwrWord (a : Nat) (x : MotSt) : (d.setMs a x).pwrWord = d.pwrWord := by simp [Dev.setMs]

@[simp] theorem setTrk_pwrWord (t : Nat) (x : TrackSt) : (d.setTrk t x).pwrWord = d.pwrWord := by simp [Dev.setTrk]

@[simp] theorem setVm_pwrWord (v : Nat) (x : VmSt) : (d.setVm v x).pwrWord = d.pwrWord := by simp [Dev.setVm]

@[simp] theorem setSrc_pwrWord (a src : Nat) : (d.setSrc a src).pwrWord = d.pwrWord := by simp [Dev.setSrc]

@[simp] theorem setGearSt_pwrWord (a st : Nat) : (d.setGearSt a st).pwrWord = d.pwrWord := by simp [Dev.setGearSt]

@[simp] theorem cancelChange_pwrWord (a : Nat) : (d.cancelChange a).pwrWord = d.pwrWord := by
  unfold Dev.cancelChange
  split <;> simp

@[simp] theorem gearOff_pwrWord (a : Nat) : (d.gearOff a).pwrWord = d.pwrWord := by simp [Dev.gearOff]

@[simp] theorem motCtlDo_pwrWord (a : Nat) (w : Word) : (d.motCtlDo a w).pwrWord = d.pwrWord := by simp [Dev.motCtlDo]

@[simp] theorem motReplan_pwrWord (a : Nat) : (d.motReplan a).pwrWord = d.pwrWord := by simp [Dev.motReplan]

@[simp] theorem gearCtlDo_pwrWord (a : Nat) (w : Word) : (d.gearCtlDo a w).pwrWord = d.pwrWord := by simp [Dev.gearCtlDo]

@[simp] theorem storeSp_pwrWord (a : Nat) (c : Int × Int × Int) : (d.storeSp a c).pwrWord = d.pwrWord := by
  unfold Dev.storeSp
  dsimp only
  split <;> simp

@[simp] theorem motEnable_pwrWord (a : Nat) : (d.motEnable a).pwrWord = d.pwrWord := by simp [Dev.motEnable]

@[simp] theorem motDisable_pwrWord (a : Nat) : (d.motDisable a).pwrWord = d.pwrWord := by simp [Dev.motDisable]

@[simp] theorem trackCorr_pwrWord (t : Nat) (w : Word) : (d.trackCorr t w).pwrWord = d.pwrWord := by simp [Dev.trackCorr]

@[simp] theorem trackClrinv_pwrWord (t : Nat) : (d.trackClrinv t).pwrWord = d.pwrWord := by
  unfold Dev.trackClrinv
  split <;> simp

@[simp] theorem motionHold_pwrWord : d.motionHold.pwrWord = d.pwrWord := by simp [Dev.motionHold]

@[simp] theorem vmSet_pwrWord (v : Nat) (x : Int) : (d.vmSet v x).pwrWord = d.pwrWord := by simp [Dev.vmSet]

/-! #### Arms -/

@[simp] theorem setArm_pwrWord (m : Nat) (x : ArmSt) : (d.setArm m x).pwrWord = d.pwrWord := by simp [Dev.setArm]

@[simp] theorem setArmState_pwrWord (m st : Nat) : (d.setArmState m st).pwrWord = d.pwrWord := by simp [Dev.setArmState]

@[simp] theorem armShow_pwrWord (m : Nat) : (d.armShow m).pwrWord = d.pwrWord := by
  unfold Dev.armShow
  dsimp only
  split <;> simp

@[simp] theorem armDisable_pwrWord (m : Nat) : (d.armDisable m).pwrWord = d.pwrWord := by simp [Dev.armDisable]

@[simp] theorem armCtlDo_pwrWord (m : Nat) (w : Word) : (d.armCtlDo m w).pwrWord = d.pwrWord := by simp [Dev.armCtlDo]

/-! #### CAN -/

@[simp] theorem setCan_pwrWord (c : Nat) (x : CanSt) : (d.setCan c x).pwrWord = d.pwrWord := by simp [Dev.setCan]

@[simp] theorem canPairSet_pwrWord (c i : Nat) (m k : Word) : (d.canPairSet c i m k).pwrWord = d.pwrWord := by simp [Dev.canPairSet]

@[simp] theorem canDetect_pwrWord (c : Nat) : (d.canDetect c).pwrWord = d.pwrWord := by simp [Dev.canDetect]

@[simp] theorem canSuspend_pwrWord (c i : Nat) (f : CanFrame) : (d.canSuspend c i f).pwrWord = d.pwrWord := by simp [Dev.canSuspend]

@[simp] theorem canClashClr_pwrWord (c : Nat) : (d.canClashClr c).pwrWord = d.pwrWord := by
  unfold Dev.canClashClr
  split <;> simp

@[simp] theorem canModeSet_pwrWord (c : Nat) (old : Word) : (d.canModeSet c old).pwrWord = d.pwrWord := by
  unfold Dev.canModeSet
  dsimp only
  split
  · simp
  · split <;> simp

@[simp] theorem canDbtSet_pwrWord (c : Nat) : (d.canDbtSet c).pwrWord = d.pwrWord := by simp [Dev.canDbtSet]

@[simp] theorem canCtlDo_pwrWord (c : Nat) (w : Word) : (d.canCtlDo c w).pwrWord = d.pwrWord := by simp [Dev.canCtlDo]

@[simp] theorem canLoad_pwrWord : d.canLoad.pwrWord = d.pwrWord := by simp [Dev.canLoad]

/-! #### Capture -/

@[simp] theorem setCap_pwrWord (x : CapSt) : (d.setCap x).pwrWord = d.pwrWord := by simp [Dev.setCap]

@[simp] theorem setCapState_pwrWord (st : Nat) : (d.setCapState st).pwrWord = d.pwrWord := by simp [Dev.setCapState]

@[simp] theorem beginRecord_pwrWord : d.beginRecord.pwrWord = d.pwrWord := by simp [Dev.beginRecord]

@[simp] theorem armCapture_pwrWord : d.armCapture.pwrWord = d.pwrWord := by simp [Dev.armCapture]

@[simp] theorem keepRecord_pwrWord (r : CapRec) : (d.keepRecord r).pwrWord = d.pwrWord := by simp [Dev.keepRecord]

@[simp] theorem stopCapture_pwrWord : d.stopCapture.pwrWord = d.pwrWord := by
  unfold Dev.stopCapture
  dsimp only
  split
  · simp
  · split <;> simp

@[simp] theorem capCtl_pwrWord (w : Word) : (d.capCtl w).1.pwrWord = d.pwrWord := by
  unfold Dev.capCtl
  dsimp only
  repeat' split
  all_goals simp

@[simp] theorem abortCapture_pwrWord (why : Nat) : (d.abortCapture why).pwrWord = d.pwrWord := by simp [Dev.abortCapture]

/-! #### Field I/O -/

@[simp] theorem dioRequal_pwrWord (b : Nat) : (d.dioRequal b).pwrWord = d.pwrWord := by simp [Dev.dioRequal]

@[simp] theorem dioCtlDo_pwrWord (b : Nat) (w : Word) : (d.dioCtlDo b w).pwrWord = d.pwrWord := by simp [Dev.dioCtlDo]

@[simp] theorem dioClrTherm_pwrWord (b : Nat) (w : Word) : (d.dioClrTherm b w).pwrWord = d.pwrWord := by simp [Dev.dioClrTherm]

@[simp] theorem dioOutDo_pwrWord (b set clr : Nat) : (d.dioOutDo b set clr).pwrWord = d.pwrWord := by simp [Dev.dioOutDo]

@[simp] theorem dioFltAgain_pwrWord (b : Nat) : (d.dioFltAgain b).pwrWord = d.pwrWord := by simp [Dev.dioFltAgain]

/-! #### Gorse -/

@[simp] theorem gorseCtlDo_pwrWord (w : Word) : (d.gorseCtlDo w).pwrWord = d.pwrWord := by simp [Dev.gorseCtlDo]

@[simp] theorem capenDo_pwrWord (m : Nat) (old : Word) : (d.capenDo m old).pwrWord = d.pwrWord := by simp [Dev.capenDo]

@[simp] theorem gorseStart_pwrWord (st : Nat) : (d.gorseStart st).pwrWord = d.pwrWord := by simp [Dev.gorseStart]

@[simp] theorem gorseWake_pwrWord : d.gorseWake.pwrWord = d.pwrWord := by simp [Dev.gorseWake]

@[simp] theorem gorseLoad_pwrWord : d.gorseLoad.pwrWord = d.pwrWord := by
  unfold Dev.gorseLoad
  split <;> simp

/-! #### The safety processor -/

@[simp] theorem startMsg_pwrWord (c : Nat) (now : Bool) : (d.startMsg c now).pwrWord = d.pwrWord := by
  unfold Dev.startMsg
  split <;> simp

@[simp] theorem setPermit_pwrWord (k : Nat) (on : Bool) : (d.setPermit k on).pwrWord = d.pwrWord := by
  unfold Dev.setPermit
  dsimp only
  split
  · simp
  · split <;> simp

@[simp] theorem saSto_pwrWord (k fn : Nat) : (d.saSto k fn).pwrWord = d.pwrWord := by
  unfold Dev.saSto
  dsimp only
  split <;> simp

@[simp] theorem saFault_pwrWord (k kind : Nat) : (d.saFault k kind).pwrWord = d.pwrWord := by simp [Dev.saFault]

@[simp] theorem grantPermit_pwrWord (a : Nat) : (d.grantPermit a).pwrWord = d.pwrWord := by
  unfold Dev.grantPermit
  split <;> simp

@[simp] theorem dropPermit_pwrWord (a : Nat) : (d.dropPermit a).pwrWord = d.pwrWord := by
  unfold Dev.dropPermit
  split <;> simp

/-! #### Axis control -/

@[simp] theorem enableRefused_pwrWord (a : Nat) : (d.enableRefused a).pwrWord = d.pwrWord := by
  unfold Dev.enableRefused
  repeat' split
  all_goals simp

@[simp] theorem enableAxis_pwrWord (a : Nat) : (d.enableAxis a).pwrWord = d.pwrWord := by
  unfold Dev.enableAxis
  dsimp only
  split <;> simp

@[simp] theorem disableAxis_pwrWord (a : Nat) : (d.disableAxis a).pwrWord = d.pwrWord := by simp [Dev.disableAxis]

@[simp] theorem clrFlt_pwrWord (a : Nat) : (d.clrFlt a).pwrWord = d.pwrWord := by simp [Dev.clrFlt]

@[simp] theorem transferLaw_pwrWord (a : Nat) (lvls : List Nat) : (d.transferLaw a lvls).pwrWord = d.pwrWord := by simp [Dev.transferLaw]

@[simp] theorem axCtlDo_pwrWord (a : Nat) (old new w : Word) : (d.axCtlDo a old new w).pwrWord = d.pwrWord := by simp [Dev.axCtlDo]

/-! #### The pair -/

@[simp] theorem pairCtlDo_pwrWord (w : Word) : (d.pairCtlDo w).pwrWord = d.pwrWord := by simp [Dev.pairCtlDo]

/-! #### Security -/

@[simp] theorem setSec_pwrWord (x : SecSt) : (d.setSec x).pwrWord = d.pwrWord := by simp [Dev.setSec]

@[simp] theorem setWords_pwrWord {f : Nat → Reg} (ws : List Word) (h : ∀ i, (f i).name ≠ .PWR_STAT) :
    (d.setWords f ws).pwrWord = d.pwrWord := by simp [Dev.setWords, h]

@[simp] theorem extend_pwrWord (i op : Nat) (dg : List Byte) : (d.extend i op dg).pwrWord = d.pwrWord := by
  unfold Dev.extend
  extract_lets d1 r x d2
  have h1 : d1.pwrWord = d.pwrWord := by simp [d1]
  have h2 : d2.pwrWord = d.pwrWord := by simp [d2, h1]
  simp [h2]

@[simp] theorem extendEvent_pwrWord (op new : Nat) (td : List Byte) :
    (d.extendEvent op new td).pwrWord = d.pwrWord := by simp [Dev.extendEvent]

@[simp] theorem showDebug_pwrWord : d.showDebug.pwrWord = d.pwrWord := by simp [Dev.showDebug]

@[simp] theorem endDebug_pwrWord : d.endDebug.pwrWord = d.pwrWord := by simp [Dev.endDebug]

@[simp] theorem debugDenied_pwrWord (code : Nat) : (d.debugDenied code).pwrWord = d.pwrWord := by simp [Dev.debugDenied]

@[simp] theorem tryDebug_pwrWord : d.tryDebug.pwrWord = d.pwrWord := by simp [Dev.tryDebug]

@[simp] theorem setSecState_pwrWord (new op : Nat) (td : List Byte) :
    (d.setSecState new op td).pwrWord = d.pwrWord := by simp [Dev.setSecState]

@[simp] theorem disarmDebug_pwrWord : d.disarmDebug.pwrWord = d.pwrWord := by simp [Dev.disarmDebug]

@[simp] theorem endService_pwrWord : d.endService.pwrWord = d.pwrWord := by simp [Dev.endService]

@[simp] theorem secCtlDo_pwrWord (w : Word) : (d.secCtlDo w).pwrWord = d.pwrWord := by simp [Dev.secCtlDo]

/-! #### Images -/

@[simp] theorem setImgState_pwrWord (st : Nat) : (d.setImgState st).pwrWord = d.pwrWord := by simp [Dev.setImgState]

@[simp] theorem setLoader_pwrWord (x : LoaderSt) : (d.setLoader x).pwrWord = d.pwrWord := by simp [Dev.setLoader]

@[simp] theorem setValid_pwrWord (slot : Nat) (ok : Bool) : (d.setValid slot ok).pwrWord = d.pwrWord := by simp [Dev.setValid]

@[simp] theorem putSlot_pwrWord (slot : Nat) (b : List Byte) : (d.putSlot slot b).pwrWord = d.pwrWord := by simp [Dev.putSlot]

@[simp] theorem startCheck_pwrWord (slot : Nat) (act keep : Bool) :
    (d.startCheck slot act keep).pwrWord = d.pwrWord := by simp [Dev.startCheck]

@[simp] theorem imgCtlDo_pwrWord (w : Word) : (d.imgCtlDo w).pwrWord = d.pwrWord := by simp [Dev.imgCtlDo]

/-! #### Items and actions -/

@[simp] theorem setTall_pwrWord (x : TallSt) : (d.setTall x).pwrWord = d.pwrWord := by simp [Dev.setTall]

@[simp] theorem setItem_pwrWord (h : Nat) (x : ItemSt) : (d.setItem h x).pwrWord = d.pwrWord := by simp [Dev.setItem]

@[simp] theorem setAct_pwrWord (i : Nat) (x : ActSt) : (d.setAct i x).pwrWord = d.pwrWord := by simp [Dev.setAct]

@[simp] theorem setTo_pwrWord (o : Nat) (x : ToSt) : (d.setTo o x).pwrWord = d.pwrWord := by simp [Dev.setTo]

@[simp] theorem toRelease_pwrWord (i : Nat) (x : ActSt) : (d.toRelease i x).pwrWord = d.pwrWord := by simp [Dev.toRelease]

@[simp] theorem freeAct_pwrWord (i : Nat) : (d.freeAct i).pwrWord = d.pwrWord := by
  unfold Dev.freeAct
  dsimp only
  split
  · simp
  · split <;> simp

@[simp] theorem removeItem_pwrWord (h : Nat) : (d.removeItem h).pwrWord = d.pwrWord := by
  unfold Dev.removeItem
  split
  · rfl
  · refine (Dev.pwrWord_of_regs rfl).trans (Dev.pwrWord_each _ _ _ fun x a => ?_)
    split <;> simp

@[simp] theorem actEv_pwrWord (code sev : Nat) (x : ActSt) (data : List Word) :
    (d.actEv code sev x data).pwrWord = d.pwrWord := by simp [Dev.actEv]

@[simp] theorem lateWrap_pwrWord (x : ActSt) (pos : Int) : (d.lateWrap x pos).pwrWord = d.pwrWord := by simp [Dev.lateWrap]

@[simp] theorem crossed_pwrWord (i ns : Nat) (pos : Int) : (d.crossed i ns pos).pwrWord = d.pwrWord := by
  unfold Dev.crossed
  split <;> simp

@[simp] theorem scan_pwrWord (t : Nat) : (d.scan t).pwrWord = d.pwrWord := by
  unfold Dev.scan
  dsimp only
  split
  · simp
  · split <;> simp

@[simp] theorem scanAll_pwrWord : d.scanAll.pwrWord = d.pwrWord := by simp [Dev.scanAll]

@[simp] theorem tallCtlDo_pwrWord (w : Word) : (d.tallCtlDo w).pwrWord = d.pwrWord := by simp [Dev.tallCtlDo]

@[simp] theorem tallHold_pwrWord : d.tallHold.pwrWord = d.pwrWord := by
  refine Dev.pwrWord_each _ _ _ fun x a => ?_
  split <;> simp

/-! #### Writes -/

@[simp] theorem applyAddr_pwrWord (ses : Nat) : (d.applyAddr ses).pwrWord = d.pwrWord := by simp [Dev.applyAddr]

@[simp] theorem axisDo_pwrWord (r : Reg) (old new w : Word) : (d.axisDo r old new w).pwrWord = d.pwrWord := by
  unfold Dev.axisDo
  split <;> simp

@[simp] theorem plantDo_pwrWord (r : Reg) (old w : Word) : (d.plantDo r old w).pwrWord = d.pwrWord := by
  unfold Dev.plantDo
  split <;> simp

@[simp] theorem netDo_pwrWord (r : Reg) (old new w : Word) : (d.netDo r old new w).pwrWord = d.pwrWord := by
  unfold Dev.netDo
  split <;> simp [*]

/-! #### The objects of an image -/

@[simp] theorem loadEngine_pwrWord (e : Nat) (i : Image) : (d.loadEngine e i).pwrWord = d.pwrWord := by simp [Dev.loadEngine]

@[simp] theorem loadEngines_pwrWord (i : Image) : (d.loadEngines i).pwrWord = d.pwrWord := by simp [Dev.loadEngines]

@[simp] theorem paramShadows_pwrWord : d.paramShadows.pwrWord = d.pwrWord := by simp [Dev.paramShadows]

@[simp] theorem linesLoad_pwrWord : d.linesLoad.pwrWord = d.pwrWord := by simp [Dev.linesLoad]

@[simp] theorem groupsLoad_pwrWord : d.groupsLoad.pwrWord = d.pwrWord := by simp [Dev.groupsLoad]

@[simp] theorem tracksLoad_pwrWord (keep : Bool) : (d.tracksLoad keep).pwrWord = d.pwrWord := by simp [Dev.tracksLoad]

@[simp] theorem dioLoad_pwrWord : d.dioLoad.pwrWord = d.pwrWord := by simp [Dev.dioLoad]

@[simp] theorem canUnload_pwrWord : d.canUnload.pwrWord = d.pwrWord := by simp [Dev.canUnload]

@[simp] theorem constLoad_pwrWord : d.constLoad.pwrWord = d.pwrWord := by simp [Dev.constLoad]

/-! #### The loader -/

@[simp] theorem portBegin_pwrWord (p : Nat) : (d.portBegin p).pwrWord = d.pwrWord := by
  unfold Dev.portBegin
  dsimp only
  repeat' split
  all_goals simp

/-! #### The power states -/

@[simp] theorem holdLines_pwrWord (s : Nat) : (d.holdLines s).pwrWord = d.pwrWord := by simp [Dev.holdLines]

@[simp] theorem enginesOff_pwrWord : d.enginesOff.pwrWord = d.pwrWord := by simp [Dev.enginesOff]

@[simp] theorem sdStops_pwrWord : d.sdStops.pwrWord = d.pwrWord := by simp [Dev.sdStops]

@[simp] theorem carriersRead_pwrWord : d.carriersRead.pwrWord = d.pwrWord := by simp [Dev.carriersRead]

@[simp] theorem wakeP3_pwrWord (from4 : Bool) : (d.wakeP3 from4).pwrWord = d.pwrWord := by simp [Dev.wakeP3]

end

end Sys2Proof.Machine

namespace Sys2Proof.Machine

/-! ### The power state that is shown -/

theorem Dev.pstate_of_pwrWord {d e : Dev} (h : e.pwrWord = d.pwrWord) : e.pstate = d.pstate := by
  unfold Dev.pwrWord at h
  simp only [Dev.pstate, Dev.fld, Dev.reg, tget, h]

/-- PWR_STAT shows the state `t`, and no word that is its reset value is listed for it. -/
structure Dev.Shows (d : Dev) (t : Nat) : Prop where
  state : d.pstate = t
  listed : d.pwrWord ≠ some RegName.PWR_STAT.info.resetWord

theorem Dev.shows_setReg (d : Dev) (w : Word) : (d.setReg R.PWR_STAT w).Shows (getF w F.PWR_STAT.STATE) := by
  refine ⟨congrArg (getF · F.PWR_STAT.STATE) (Dev.reg_setReg_same d R.PWR_STAT w), ?_⟩
  unfold Dev.pwrWord Dev.setReg
  split
  · simp
  · next h => simpa using h

namespace Dev.Shows

variable {d e : Dev} {t : Nat}

theorem keep (h : d.Shows t) (k : e.pwrWord = d.pwrWord) : e.Shows t := ⟨(pstate_of_pwrWord k).trans h.state, k ▸ h.listed⟩

theorem setFld (h : d.Shows t) {f : Fld} {v : Nat} (hf : f.apart F.PWR_STAT.STATE = true) : (d.setFld R.PWR_STAT f v).Shows t := by
  have hs : (d.setFld R.PWR_STAT f v).pstate = t := (Dev.fld_setFld_field d hf).trans h.state
  exact ⟨hs, (d.shows_setReg _).listed⟩

/-! #### Writes (R8, R610) -/

theorem unitDo (h : d.Shows t) (ses : Nat) (r : Reg) (w : Word) : (d.unitDo ses r w).Shows t := by
  unfold Dev.unitDo
  split
  case h_3 => exact h.setFld (by decide)
  all_goals exact h.keep (by simp)

theorem regDo (h : d.Shows t) (ses : Nat) (r : Reg) (old new w : Word) : (d.regDo ses r old new w).Shows t := by
  unfold Dev.regDo
  split
  case h_13 => exact h.unitDo ses r w
  all_goals exact h.keep (by simp)

end Dev.Shows

/-- PWR_STAT is read only. -/
theorem ne_pwrStat_of_writable {n : RegName} (h : n.info.readOnly = false) : n ≠ .PWR_STAT := by
  rintro rfl
  exact absurd h (by decide)

theorem hi_ne_pwrStat {n m : RegName} (h : n.hi? = some m) : m ≠ .PWR_STAT := by
  rintro rfl
  unfold RegName.hi? at h
  split at h
  all_goals cases h

namespace Dev.Shows

variable {d e : Dev} {t : Nat}

theorem writeWord (h : d.Shows t) (init : Bool) (ses : Nat) (r : Reg) (w : Word) : (d.writeWord init ses r w).1.Shows t := by
  unfold Dev.writeWord
  extract_lets x old new none_ gate st
  split
  · exact h
  · next hro =>
    have hr : r.name ≠ .PWR_STAT := ne_pwrStat_of_writable (Bool.eq_false_of_not_eq_true hro)
    split
    · exact h
    · split
      · split
        · exact h.keep (by simp)
        · exact h
      · split
        · exact h.keep (by simp)
        · exact h
      · split
        · exact (h.keep (d.pwrWord_setReg new hr)).regDo ses r old new w
        · split
          · exact h.keep (by simp)
          · split
            · exact h.keep (by simp)
            · exact h

theorem pairDo (h : d.Shows t) {lo hi : Reg} (v : Int) (hl : lo.name ≠ .PWR_STAT) (hh : hi.name ≠ .PWR_STAT) : (d.pairDo lo hi v).Shows t := by
  refine h.keep ?_
  unfold Dev.pairDo
  split <;> simp [hl, hh]

theorem writePair (h : d.Shows t) (init : Bool) {lo hi : Reg} (w wh : Word) (hh : hi.name ≠ .PWR_STAT) :
    (d.writePair init lo hi w wh).1.Shows t := by
  unfold Dev.writePair
  extract_lets x v none_ st
  split
  · exact h
  · next hro =>
    have hl : lo.name ≠ .PWR_STAT := ne_pwrStat_of_writable (Bool.eq_false_of_not_eq_true hro)
    split
    · exact h
    · split
      · exact h.pairDo v hl hh
      · exact h

theorem regInitOne (h : d.Shows t) (held : Tab Word) (addr : Nat) (w : Word) : (d.regInitOne held addr w).1.Shows t := by
  unfold Dev.regInitOne
  split
  · exact h
  · split
    · exact h
    · split
      · exact h.writeWord true 0 _ w
      · next hm => exact h.writePair true w _ (hi_ne_pwrStat hm)

theorem regInitAll (h : d.Shows t) (l : List (Nat × Word)) (i : Nat) (held : Tab Word) : (d.regInitAll l i held).1.Shows t := by
  induction l generalizing d i held with
  | nil => exact h
  | cons a rest ih =>
    have h1 := h.regInitOne held a.1 a.2
    unfold Dev.regInitAll
    generalize d.regInitOne held a.1 a.2 = q at h1 ⊢
    obtain ⟨d1, held1, st⟩ := q
    dsimp only at h1 ⊢
    split
    · exact ih h1 _ _
    · exact ih (h1.keep (by simp)) _ _

end Dev.Shows

/-! #### What is kept of the registers (R628) -/

theorem tget?_filter {α : Type} (t : Tab α) {k : Nat} {p : Nat × α → Bool} (h : ∀ v, p (k, v) = true) : tget? (t.filter p) k = tget? t k := by
  induction t with
  | nil => rfl
  | cons e rest ih =>
    obtain ⟨n, u⟩ := e
    by_cases hn : n = k
    · subst hn
      rw [List.filter_cons_of_pos (h u)]
      simp [tget?]
    · by_cases hp : p (n, u) = true
      · rw [List.filter_cons_of_pos hp]
        simp only [tget?, hn, if_false, ih]
      · rw [List.filter_cons_of_neg hp, ih]
        simp only [tget?, hn, if_false]

/-- A change of the entries that keeps their numbers, and the entry at `k` unless it is `z`. -/
theorem tget?_filterMap {α : Type} (t : Tab α) {k : Nat} {z : α} {f : Nat × α → Option (Nat × α)} (hf : ∀ e x, f e = some x → x.1 = e.1)
    (hk : ∀ v, v ≠ z → f (k, v) = some (k, v)) (ht : tget? t k ≠ some z) : tget? (t.filterMap f) k = tget? t k := by
  induction t with
  | nil => rfl
  | cons e rest ih =>
    obtain ⟨n, u⟩ := e
    by_cases hn : n = k
    · subst hn
      have hu : u ≠ z := by simpa [tget?] using ht
      rw [List.filterMap_cons_some (hk u hu)]
      simp [tget?]
    · simp only [tget?, hn, if_false] at ht ⊢
      cases hx : f (n, u) with
      | none => rw [List.filterMap_cons_none hx, ih ht]
      | some x =>
        obtain ⟨m, v⟩ := x
        have hm : m = n := hf _ _ hx
        rw [List.filterMap_cons_some hx, tget?, if_neg (by rw [hm]; exact hn), ih ht]

theorem keptWord_all (x : RegInfo) {keep : FldInfo → Bool} (w : Word) (h : x.flds.all keep = true) : keptWord x keep w = w := by
  unfold keptWord
  generalize x.flds = l at h
  induction l with
  | nil => rfl
  | cons f fs ih =>
    obtain ⟨hf, hfs⟩ := Bool.and_eq_true_iff.1 h
    rw [List.foldl_cons, if_pos hf]
    exact ih hfs

theorem dropRegs_pwrWord (d : Dev) {p : Reg → Bool} (h : p R.PWR_STAT = false) : (d.dropRegs p).pwrWord = d.pwrWord :=
  tget?_filter _ fun v => by
    dsimp only
    rw [regAt_PWR_STAT]
    simp [h]

namespace Dev.Shows

variable {d e : Dev} {t : Nat}

theorem keepFlds (h : d.Shows t) {keep : Reg → FldInfo → Bool} (hk : RegName.PWR_STAT.info.flds.all (keep R.PWR_STAT) = true) :
    (d.keepFlds keep).Shows t := by
  refine h.keep (tget?_filterMap _ (z := RegName.PWR_STAT.info.resetWord) (fun e x hx => ?_) (fun v hv => ?_) h.listed)
  · dsimp only at hx
    split at hx
    · split at hx
      · cases hx
      · cases hx
        rfl
    · cases hx
      rfl
  · dsimp only
    rw [regAt_PWR_STAT]
    dsimp only
    rw [keptWord_all _ v hk, if_neg hv]

theorem volatileLost (h : d.Shows t) : d.volatileLost.Shows t :=
  (h.keepFlds (keep := fun r f => f.cls != .v || shownState r f) (by decide)).keep (Dev.pwrWord_of_regs rfl)

theorem enterP3 (h : d.Shows t) : d.enterP3.Shows t := by
  unfold Dev.enterP3
  extract_lets d1
  have h1 : d1.Shows t := h.keep (by simp [d1])
  exact (h1.keep (by simp)).volatileLost

theorem objectsMade (h : d.Shows t) (old : Image) (keep : Bool) : (d.objectsMade old keep).Shows t := by
  unfold Dev.objectsMade
  extract_lets i same d1 x1 x2 x3 x4 d2 d2s d3
  have h1 : d1.Shows t := (h.keep (dropRegs_pwrWord d (by rfl))).keepFlds (by decide)
  have h2 : d2.Shows t := h1.keep (Dev.pwrWord_of_regs rfl)
  have h3 : d3.Shows t := h2.keep (by simp [d3, d2s])
  exact h3.keep (by simp)

theorem wakeP4 (h : d.Shows t) : d.wakeP4.Shows t := by
  unfold Dev.wakeP4
  extract_lets d0 x d1 d2
  have h1 : d1.Shows t := (h.keep (carriersRead_pwrWord d)).keep (Dev.pwrWord_of_regs rfl)
  split
  · exact h1
  · have h2 : d2.Shows t := (h1.objectsMade {} false).regInitAll _ _ _
    exact h2.keep (by simp)

end Dev.Shows

end Sys2Proof.Machine

namespace Sys2Proof.Machine

/-! ### The end of a command -/

namespace Dev.Shows

variable {d e : Dev} {t : Nat}

theorem selectPower (h : d.Shows t) : d.selectPower.Shows t := by
  unfold Dev.selectPower
  extract_lets r b u st d1 x1 x2 d2
  split
  · exact h
  · have h1 : d1.Shows t := ((h.setFld (by decide)).setFld (by decide)).setFld (by decide)
    have h2 : d2.Shows t := by
      unfold d2
      split
      · exact h1
      · exact (h1.setFld (f := F.PWR_STAT.TARGET) (by decide)).keep (Dev.pwrWord_of_regs rfl)
    split
    · exact (h2.setFld (f := F.PWR_STAT.TRANS) (by decide)).keep (Dev.pwrWord_of_regs rfl)
    · exact h2

theorem settle (h : d.Shows t) : d.settle.Shows t := by
  have hb : d.bootArm.pwrWord = d.pwrWord := by simp [Dev.bootArm]
  have hs := (h.keep hb).selectPower
  obtain ⟨-, -, -, -, -, hg⟩ := gatesFollow_kept d.bootArm.selectPower
  obtain ⟨-, -, -, -, -, hl⟩ := linkServe_kept d.bootArm.selectPower.gatesFollow.clk d.bootArm.selectPower.gatesFollow.link.q.length
    d.bootArm.selectPower.gatesFollow
  exact (hs.keep (Dev.pwrWord_of_regs hg)).keep (Dev.pwrWord_of_regs hl)

theorem countTx (h : d.Shows t) (l : List Out) : (d.countTx l).Shows t := by
  refine h.keep (Dev.pwrWord_each _ _ _ fun x o => ?_)
  split
  · split <;> simp
  · rfl

theorem flush (h : d.Shows t) : d.flush.Shows t := by
  unfold Dev.flush
  extract_lets x y
  have hy : y.Shows t := h.keep (by simp [y])
  refine Dev.Shows.countTx ?_ _
  exact hy.keep (Dev.pwrWord_of_regs rfl)

theorem of_seal (h : d.Shows t) : d.seal.Shows t := h.keep (tget?_tabNorm _ _)

end Dev.Shows

/-- A command whose effect shows a power state completes with it. -/
theorem runs_of_shows {i : Instr} {s : State} {f : Dev → Dev} {t : Nat} (hi : exec i s = s.run f) (hon : s.On) (h : (f s.start).Shows t) :
    Runs i s (fun e => e.pstate = t) := by
  have hoff : s.start.sys.off = false := hon
  refine ⟨_, hi, rfl, ?_⟩
  show (if s.start.sys.off then s.start else f s.start).settle.flush.seal.pstate = t
  rw [hoff]
  exact h.settle.flush.of_seal.state

/-! ### Entry and return (R609) -/

theorem powerShow_shows (d : Dev) (old : Nat) {new : Nat} (h : new < 16) : (d.powerShow old new).Shows new := by
  have h1 : (d.setFld R.PWR_STAT F.PWR_STAT.STATE new).Shows new :=
    ⟨d.fld_setFld_of_lt h (by decide), (d.shows_setReg _).listed⟩
  exact h1.keep (by simp [Dev.powerShow])

/-- R609, R613: an entry that is due shows the state that was selected. -/
theorem powerEntry_shows (d : Dev) (ht : d.bit R.PWR_STAT F.PWR_STAT.TRANS = false) (hs : d.pstate < d.fld R.PWR_STAT F.PWR_STAT.TARGET)
    (hn : d.pwr.selNs / (if d.fld R.PWR_STAT F.PWR_STAT.TARGET = 1 then 31250 else 4000000) <
      d.ns / (if d.fld R.PWR_STAT F.PWR_STAT.TARGET = 1 then 31250 else 4000000))
    (hj : d.loader.job = .idle ∨ d.fld R.PWR_STAT F.PWR_STAT.TARGET = 1) (h4 : d.fld R.PWR_STAT F.PWR_STAT.TARGET ≤ 4) :
    d.powerEntry.Shows (d.fld R.PWR_STAT F.PWR_STAT.TARGET) := by
  unfold Dev.powerEntry
  extract_lets st t step busy
  have hstep : step = if t = 1 then 31250 else 4000000 := by simp [step]
  have hbusy : (decide (2 ≤ t) && busy) = false := by
    rcases hj with h | h
    · simp [busy, h]
    · simp [t, h]
  have hle : ¬t ≤ st := Nat.not_le.2 hs
  have hdue : ¬d.ns / step ≤ d.pwr.selNs / step := by
    rw [hstep]
    exact Nat.not_le.2 hn
  have hc : ¬(d.bit R.PWR_STAT F.PWR_STAT.TRANS || decide (t ≤ st) || decide (d.ns / step ≤ d.pwr.selNs / step) ||
      (decide (2 ≤ t) && busy)) = true := by
    rw [ht, hbusy, decide_eq_false hle, decide_eq_false hdue]
    decide
  rw [if_neg hc]
  exact powerShow_shows _ _ (by omega)

/-- R609, R611: the end of a transition shows the state that it leads to. -/
theorem powerExit_shows (d : Dev) (hx : d.pwr.exitFrom.isSome = true) (h4 : d.fld R.PWR_STAT F.PWR_STAT.TARGET < 4) :
    d.powerExit.Shows (d.fld R.PWR_STAT F.PWR_STAT.TARGET) := by
  obtain ⟨st, hst⟩ := Option.isSome_iff_exists.1 hx
  unfold Dev.powerExit
  simp -zeta only [hst]
  extract_lets t x d0 d1 d2 d3 d4
  have h1 : d1.Shows t := powerShow_shows _ _ (by omega)
  have h2 : d2.Shows t := by
    unfold d2 Dev.when
    split
    · exact h1.wakeP4
    · exact h1
  have h3 : d3.Shows t := by
    unfold d3
    split
    · exact h2.keep (by simp)
    · split
      · exact h2.enterP3
      · exact h2
  exact h3.keep (by simp [d4])

/-! ### Lines that go on (R116) -/

theorem resumeLine_inside (d : Dev) (p : Nat) : Inside [.LINE_STAT] [.line] d (d.resumeLine p) := by
  unfold Dev.resumeLine
  extract_lets x d1
  have h1 : Inside [.LINE_STAT] [.line] d d1 := Inside.refl.setPortState.setPort
  exact (Inside.ite _ (fun _ => h1.each fun _ _ _ => Inside.refl.setSlot) fun _ => Inside.refl).within (by decide) (by decide)

theorem port_eachSetSlot (d : Dev) (p q : Nat) (l : List Nat) (g : Dev → Nat → SlotSt) :
    (d.each l fun e i => e.setSlot p i (g e i)).port q = d.port q :=
  Dev.each_keeps (f := fun e i => e.setSlot p i (g e i)) (Q := fun e => e.port q = d.port q) (fun _ _ _ h => h) rfl

theorem resumeLine_keepAlive (d : Dev) (p : Nat) : ((d.resumeLine p).port p).keepAlive = false := by
  unfold Dev.resumeLine
  extract_lets x d1
  split
  · rw [port_eachSetSlot, Dev.port_setPort_same]
  · next h => exact Bool.eq_false_of_not_eq_true h

theorem resumeLine_port (d : Dev) {p q : Nat} (h : p ≠ q) : (d.resumeLine p).port q = d.port q := by
  unfold Dev.resumeLine
  extract_lets x d1
  split
  · rw [port_eachSetSlot, Dev.port_setPort_other _ _ h]
    rfl
  · rfl

/-- R116: at a 4 ms boundary every line of a unit in P0 or P1 runs its own period. -/
theorem lineResume_all (d : Dev) {p : Nat} (hp : p ∈ allPorts) (hn : d.ns / 31250 % 128 = 0) (hs : d.pstate < 2) :
    ((d.each allPorts Dev.lineResume).port p).keepAlive = false := by
  have heq (e : Dev) (q : Nat) (hi : Inside [.LINE_STAT] [.line] d e) : e.lineResume q = e.resumeLine q := by
    have hns : e.ns = d.ns := congrArg (fun t : TimeSt => t.tns / 2 ^ 32 % 2 ^ 64) (hi.parts .time (by decide))
    have hst : e.pstate = d.pstate := hi.fld (by decide)
    exact if_pos (by rw [hns, hst]; simp [hn, hs])
  have hin (e : Dev) (q : Nat) (hi : Inside [.LINE_STAT] [.line] d e) : Inside [.LINE_STAT] [.line] d (e.lineResume q) := by
    rw [heq e q hi]
    exact hi.trans (resumeLine_inside e q)
  refine (Dev.each_at (f := Dev.lineResume) (Q := fun e => Inside [.LINE_STAT] [.line] d e)
    (P := fun e => Inside [.LINE_STAT] [.line] d e ∧ (e.port p).keepAlive = false) hp allPorts_nodup (fun e q _ _ hi => hin e q hi)
    (fun e hi => ⟨hin e p hi, ?_⟩) ?_ (Inside.refl.within (by decide) (by decide))).2
  · rw [heq e p hi]
    exact resumeLine_keepAlive e p
  · rintro e q _ hne ⟨hi, hk⟩
    refine ⟨hin e q hi, ?_⟩
    rw [heq e q hi, resumeLine_port e hne, hk]

/-! ### Writes of PWR_LATTOL (R610) -/

theorem blkOf_pwrLattol : blkOf R.PWR_LATTOL.addr = .pwr := by decide

theorem regDo_pwrLattol (d : Dev) (ses : Nat) (old new w : Word) :
    d.regDo ses R.PWR_LATTOL old new w = d.setFld R.PWR_STAT F.PWR_STAT.WOKE 0 := by
  simp only [Dev.regDo, blkOf_pwrLattol, Dev.unitDo]

theorem pwrLattolWrite_reg (d : Dev) {ses : Nat} {w : Word} (hm : d.MayWrite ses R.PWR_LATTOL) (hw : d.WriteOk R.PWR_LATTOL w) :
    (d.hostWrite ses R.PWR_LATTOL w).reg R.PWR_LATTOL = d.written R.PWR_LATTOL w := by
  rw [hostWrite_ok d ses _ _ hm (.inr (.inr rfl)) hw rfl, regDo_pwrLattol]
  have h : Inside [.PWR_STAT] [] (d.setReg R.PWR_LATTOL (d.written R.PWR_LATTOL w))
      (((d.setReg R.PWR_LATTOL (d.written R.PWR_LATTOL w)).setFld R.PWR_STAT F.PWR_STAT.WOKE 0).answer .ok) := Inside.refl.setFld.answer
  exact (h.reg (by decide)).trans (Dev.reg_setReg_same _ _ _)

/-- Settles O45: an entry and a return end in a state that nothing after them in the command writes. -/
theorem powerComplete : Obligations.PowerComplete := by
  rintro s d rfl hon
  refine ⟨?_, ?_, ?_, ?_⟩
  case refine_1 =>
    intro ses w hm hw
    refine runs_of_run (f := fun d => d.hostWrite ses R.PWR_LATTOL w) rfl hon fun e he => ?_
    exact (he.reg_own (by decide)).trans (pwrLattolWrite_reg s.start hm hw)
  case refine_2 =>
    intro ht hs hn hj h4
    exact runs_of_shows rfl hon (powerEntry_shows s.start ht hs hn hj h4)
  case refine_3 =>
    intro hx h4
    exact runs_of_shows rfl hon (powerExit_shows s.start hx h4)
  case refine_4 =>
    intro hn hs
    refine runs_of_run (f := fun d => d.each allPorts Dev.lineResume) rfl hon fun e he p hp => ?_
    rw [he.port]
    exact lineResume_all s.start hp hn hs

end Sys2Proof.Machine

namespace Sys2Proof.Machine

open Sys2Proof

/-! ### What a command's effect changes at most, by address -/

/-- From `d` to `e` at most the registers at addresses of the names `l` and the parts `ps` differ, provided that `ok` holds. Other than
`Inside`, this tells apart the registers of two names that lie between each other, as those of the legs, the levels and the filters do. The rules
below collect in `ok` that each step's names and parts are listed: where the lists are known it evaluates to `true`. -/
structure Changes (l : List RegName) (ps : List Part) (d e : Dev) (ok : Bool := true) : Prop where
  regs_of : ok = true → ∀ r : Reg, ¬ Named l r.addr → e.reg r = d.reg r
  parts_of : ok = true → ∀ p, p ∉ ps → p.fixed d e

theorem addr_ne_of_not_named {l : List RegName} {n : RegName} {i j a : Nat} (hn : n ∈ l) (h : ¬ Named l a) : Reg.addr ⟨n, i, j⟩ ≠ a :=
  fun ha => h ⟨n, hn, i, j, ha.symm⟩

namespace Changes

variable {l l' : List RegName} {ps ps' : List Part} {d e f : Dev} {b c : Bool}

theorem regs (h : Changes l ps d e) : ∀ r : Reg, ¬ Named l r.addr → e.reg r = d.reg r := h.regs_of rfl

theorem parts (h : Changes l ps d e) : ∀ p, p ∉ ps → p.fixed d e := h.parts_of rfl

/-- The rules' shape: what holds under a condition from what holds without it. -/
theorem of_ok (h : c = true → Changes l ps d e) : Changes l ps d e c := ⟨fun hc => (h hc).regs, fun hc => (h hc).parts⟩

theorem use (h : Changes l ps d e b) (hb : b = true) : Changes l ps d e := hb ▸ h

theorem refl : Changes l ps d d := ⟨fun _ _ _ => rfl, fun _ p _ => p.fixed_rfl d⟩

/-- A step after another, with its names and parts among those of the whole. -/
theorem step (h : Changes l ps d e b) (k : Changes l' ps' e f c) : Changes l ps d f (l'.all l.contains && (ps'.all ps.contains && (b && c))) := by
  refine of_ok fun hok => ?_
  simp only [Bool.and_eq_true, List.all_eq_true, List.contains_iff_mem] at hok
  obtain ⟨hl, hp, hb, hc⟩ := hok
  exact ⟨fun _ r hr => ((k.use hc).regs r fun ⟨n, hn, i, j, ha⟩ => hr ⟨n, hl n hn, i, j, ha⟩).trans ((h.use hb).regs r hr),
    fun _ p hq => ((h.use hb).parts p hq).trans ((k.use hc).parts p fun hi => hq (hp p hi))⟩

theorem within (k : Changes l' ps' d e c) : Changes l ps d e (l'.all l.contains && (ps'.all ps.contains && c)) := refl.step k

/-- A step that changes no register and no part. -/
theorem of_still (h : Changes l ps d e b) (hr : f.regs = e.regs) (hp : ∀ p : Part, p.fixed e f) : Changes l ps d f b :=
  of_ok fun hb => ⟨fun _ r hn => (Dev.reg_congr hr r).trans ((h.use hb).regs r hn), fun _ p hn => ((h.use hb).parts p hn).trans (hp p)⟩

/-- A step that changes the part `q` alone. -/
theorem of_part (h : Changes l ps d e b) (q : Part) (hr : f.regs = e.regs) (hp : ∀ p : Part, p ≠ q → p.fixed e f) :
    Changes l ps d f (ps.contains q && b) := by
  refine of_ok fun hok => ?_
  simp only [Bool.and_eq_true, List.contains_iff_mem] at hok
  obtain ⟨hq, hb⟩ := hok
  exact ⟨fun _ r hn => (Dev.reg_congr hr r).trans ((h.use hb).regs r hn),
    fun _ p hn => ((h.use hb).parts p hn).trans (hp p fun hpq => hn (hpq ▸ hq))⟩

/-! Steps on registers. -/

section
variable {n : RegName} {i j k : Nat}

theorem setReg (h : Changes l ps d e b) {w : Word} : Changes l ps d (e.setReg ⟨n, i, j⟩ w) (l.contains n && b) := by
  refine of_ok fun hok => ?_
  simp only [Bool.and_eq_true, List.contains_iff_mem] at hok
  obtain ⟨hn, hb⟩ := hok
  exact ⟨fun _ r hr => (Dev.reg_setReg_other e w (addr_ne_of_not_named hn hr)).trans ((h.use hb).regs r hr),
    fun _ p hp => ((h.use hb).parts p hp).trans (by cases p <;> rfl)⟩

theorem setFld (h : Changes l ps d e b) {g : Fld} {v : Nat} : Changes l ps d (e.setFld ⟨n, i, j⟩ g v) (l.contains n && b) := h.setReg

theorem setRegI (h : Changes l ps d e b) {x : Int} : Changes l ps d (e.setRegI ⟨n, i, j⟩ x) (l.contains n && b) := h.setReg

theorem clearReg (h : Changes l ps d e b) : Changes l ps d (e.clearReg ⟨n, i, j⟩) (l.contains n && b) := h.setReg

theorem bump (h : Changes l ps d e b) {g : Fld} : Changes l ps d (e.bump ⟨n, i, j⟩ g k) (l.contains n && b) := h.setFld

theorem inc (h : Changes l ps d e b) : Changes l ps d (e.inc ⟨n, i, j⟩) (l.contains n && b) := h.bump

theorem maxReg (h : Changes l ps d e b) : Changes l ps d (e.maxReg ⟨n, i, j⟩ k) (l.contains n && b) := by
  unfold Dev.maxReg
  split
  · exact h.setReg
  · exact of_ok fun hok => h.use (Bool.and_eq_true_iff.1 hok).2

theorem setW1c (h : Changes l ps d e b) {g : Fld} : Changes l ps d (e.setW1c ⟨n, i, j⟩ g k) (l.contains n && b) :=
  h.setFld.of_still rfl fun p => by cases p <;> rfl

end

/-! Steps that report and put out. -/

theorem ev (h : Changes l ps d e b) {m k : Nat} {x : List Word} : Changes l ps d (e.ev m k x) b := h.of_still rfl fun p => by cases p <;> rfl

theorem evObj (h : Changes l ps d e b) {m k o : Nat} {x : List Word} : Changes l ps d (e.evObj m k o x) b :=
  h.of_still rfl fun p => by cases p <;> rfl

theorem emit (h : Changes l ps d e b) {o : Out} : Changes l ps d (e.emit o) b := h.of_still rfl fun p => by cases p <;> rfl

theorem answer (h : Changes l ps d e b) {st : Status} : Changes l ps d (e.answer st) b := h.emit

/-! Steps made of steps. -/

theorem each {α : Type} (h : Changes l ps d e b) {xs : List α} {g : Dev → α → Dev}
    (hg : ∀ x a, a ∈ xs → Changes l ps d x → Changes l ps d (g x a) c) : Changes l ps d (e.each xs g) (b && c) := by
  refine of_ok fun hok => ?_
  obtain ⟨hb, hc⟩ := Bool.and_eq_true_iff.1 hok
  exact Dev.each_keeps (Q := (Changes l ps d ·)) (fun x a ha hx => (hg x a ha hx).use hc) (h.use hb)

theorem ite {q : Prop} [Decidable q] (h : Changes l ps d e b) (k : Changes l ps d f c) : Changes l ps d (if q then e else f) (b && c) := by
  refine of_ok fun hok => ?_
  obtain ⟨hb, hc⟩ := Bool.and_eq_true_iff.1 hok
  split
  · exact h.use hb
  · exact k.use hc

theorem when (h : Changes l ps d e b) {q : Bool} {g : Dev → Dev} (hg : Changes l ps d (g e) c) : Changes l ps d (e.when q g) (b && c) := by
  refine of_ok fun hok => ?_
  obtain ⟨hb, hc⟩ := Bool.and_eq_true_iff.1 hok
  exact (hg.use hc).ite (h.use hb)

/-! Steps that change one part. -/

theorem line (h : Changes l ps d e b) {x : LineSt} : Changes l ps d { e with line := x } (ps.contains .line && b) :=
  h.of_part .line rfl fun p hp => by cases p; all_goals trivial

theorem axs (h : Changes l ps d e b) {x : AxesSt} : Changes l ps d { e with axs := x } (ps.contains .axs && b) :=
  h.of_part .axs rfl fun p hp => by cases p; all_goals trivial

theorem engs (h : Changes l ps d e b) {x : EnginesSt} : Changes l ps d { e with engs := x } (ps.contains .engs && b) :=
  h.of_part .engs rfl fun p hp => by cases p; all_goals trivial

theorem cap (h : Changes l ps d e b) {x : CapSt} : Changes l ps d { e with cap := x } (ps.contains .cap && b) :=
  h.of_part .cap rfl fun p hp => by cases p; all_goals trivial

theorem dio (h : Changes l ps d e b) {x : DioSt} : Changes l ps d { e with dio := x } (ps.contains .dio && b) :=
  h.of_part .dio rfl fun p hp => by cases p; all_goals trivial

theorem time (h : Changes l ps d e b) {x : TimeSt} : Changes l ps d { e with time := x } (ps.contains .time && b) :=
  h.of_part .time rfl fun p hp => by cases p; all_goals trivial

theorem fresh (h : Changes l ps d e b) {x : Nat} : Changes l ps d { e with fresh := x } (ps.contains .fresh && b) :=
  h.of_part .fresh rfl fun p hp => by cases p; all_goals trivial

theorem safe (h : Changes l ps d e b) {x : SafeSt} : Changes l ps d { e with safe := x } (ps.contains .safe && b) :=
  h.of_part .safe rfl fun p hp => by cases p; all_goals trivial

theorem loader (h : Changes l ps d e b) {x : LoaderSt} : Changes l ps d { e with loader := x } (ps.contains .loader && b) :=
  h.of_part .loader rfl fun p hp => by cases p; all_goals trivial

theorem tall (h : Changes l ps d e b) {x : TallSt} : Changes l ps d { e with tall := x } (ps.contains .tall && b) :=
  h.of_part .tall rfl fun p hp => by cases p; all_goals trivial

theorem mot (h : Changes l ps d e b) {x : MotionSt} : Changes l ps d { e with mot := x } (ps.contains .mot && b) :=
  h.of_part .mot rfl fun p hp => by cases p; all_goals trivial

theorem arms (h : Changes l ps d e b) {x : Tab ArmSt} : Changes l ps d { e with arms := x } (ps.contains .arms && b) :=
  h.of_part .arms rfl fun p hp => by cases p; all_goals trivial

theorem pwm (h : Changes l ps d e b) {x : PwmSt} : Changes l ps d { e with pwm := x } (ps.contains .pwm && b) :=
  h.of_part .pwm rfl fun p hp => by cases p; all_goals trivial

theorem gorse (h : Changes l ps d e b) {x : GorseSt} : Changes l ps d { e with gorse := x } (ps.contains .gorse && b) :=
  h.of_part .gorse rfl fun p hp => by cases p; all_goals trivial

theorem sec (h : Changes l ps d e b) {x : SecSt} : Changes l ps d { e with sec := x } (ps.contains .sec && b) :=
  h.of_part .sec rfl fun p hp => by cases p; all_goals trivial

theorem sys (h : Changes l ps d e b) {x : SysSt} : Changes l ps d { e with sys := x } (ps.contains .sys && b) :=
  h.of_part .sys rfl fun p hp => by cases p; all_goals trivial

end Changes

end Sys2Proof.Machine

namespace Sys2Proof.Machine

open Sys2Proof

/-! ### Names whose registers stand apart from all others -/

/-- The registers of a name lie between those of no other name, as those of the names that share an array of arrays do. -/
def RegName.lone (n : RegName) : Bool := regNames.all fun m => n == m || n.info.apart m.info

theorem ctorIdx_lt (n : RegName) : n.ctorIdx < 409 := by cases n <;> decide

theorem mem_regNames (n : RegName) : n ∈ regNames := by
  have hl : regNames.map RegName.ctorIdx = List.range 409 := by decide +kernel
  have h : n.ctorIdx ∈ regNames.map RegName.ctorIdx := hl ▸ List.mem_range.2 (ctorIdx_lt n)
  obtain ⟨m, hm, he⟩ := List.mem_map.1 h
  rwa [← RegName.ofNat_ctorIdx n, ← he, RegName.ofNat_ctorIdx]

theorem apart_of_lone {n m : RegName} (h : n.lone = true) (hn : n ≠ m) : n.info.apart m.info = true := by
  have hm := List.all_eq_true.1 h m (mem_regNames m)
  simpa [hn] using hm

/-- Names that stand apart from all others, of those that the frames below need. -/
def loneNames : List RegName := [.AXIS_CTL, .AXIS_DLYMAX, .AXIS_DLY_C, .AXIS_DLY_P, .AXIS_DLY_V, .AXIS_MOT_ACC, .AXIS_MOT_POS_HI, .AXIS_MOT_POS_LO,
  .AXIS_MOT_STAT, .AXIS_MOT_VEL, .AXIS_STAT, .CE_CTL, .DIO_OUT, .FAB_IMG_CTL, .PAIR_CNT_RESYNC, .PAIR_STAT]

theorem lone_of_mem {n : RegName} (h : n ∈ loneNames) : n.lone = true :=
  List.all_eq_true.1 (by decide +kernel : loneNames.all RegName.lone = true) n h

/-- A step of which the frame by names is known. -/
theorem Changes.inside {l l' : List RegName} {ps ps' : List Part} {d e f : Dev} {b : Bool} (h : Changes l ps d e b) (k : Inside l' ps' e f) :
    Changes l ps d f (l'.all (fun n => loneNames.contains n && l.contains n) && (ps'.all ps.contains && b)) := by
  refine of_ok fun hok => ?_
  simp only [Bool.and_eq_true, List.all_eq_true, List.contains_iff_mem] at hok
  obtain ⟨hl, hp, hb⟩ := hok
  refine ⟨fun _ r hr => (k.regs r fun n hn => ?_).trans ((h.use hb).regs r hr),
    fun _ p hq => ((h.use hb).parts p hq).trans (k.parts p fun hi => hq (hp p hi))⟩
  obtain ⟨hlone, hmem⟩ := hl n hn
  exact apart_of_lone (lone_of_mem hlone) fun he => hr ⟨n, hmem, r.i, r.j, by rw [he]⟩

/-! ### The frame of a command -/

theorem ownReg_of_not_named {r : Reg} (h : ¬ Named settleNames r.addr) : OwnReg r :=
  ⟨fun ha => h ⟨.PWR_STAT, by decide, 0, 0, ha⟩, fun ha => h ⟨.FAB_IMG_STAT, by decide, 0, 0, ha⟩,
    fun p ha => h ⟨.HOST_P_CNT_TX, by decide, p, 0, ha⟩⟩

/-- What follows a command's effect leaves a part the same that the effect left fixed (R142, R252, R505, R542). -/
theorem Follows.same {d x e : Dev} (h : Follows x e) {p : Part} (hp : p.fixed d x) (hl : p = .fresh → Part.link.fixed d x) : p.same d e := by
  obtain ⟨k, -, -, -, ⟨m, hm⟩, ⟨j, hj⟩, -⟩ := h
  cases p
  case fresh => exact fun hq => (k.fresh (by rw [hl rfl, hq])).trans hp
  case link => exact fun hq => (k.link (by rw [hp, hq])).trans hp
  case cap =>
    show { e.cap with met := [] } = { d.cap with met := [] }
    rw [hm, show x.cap = d.cap from hp]
  case loader =>
    show { e.loader with job := .idle } = { d.loader with job := .idle }
    rw [hj, show x.loader = d.loader from hp]
  case pwm =>
    have hx : x.pwm = d.pwm := hp
    exact ⟨hx ▸ k.pwm, fun l => by simpa only [Dev.leg, hx] using k.legs l⟩
  case clk => exact k.clk.trans hp
  case fil => exact k.fil.trans hp
  case time => exact k.time.trans hp
  case line => exact k.line.trans hp
  case engs => exact k.engs.trans hp
  case axs => exact k.axs.trans hp
  case fbk => exact k.fbk.trans hp
  case mot => exact k.mot.trans hp
  case arms => exact k.arms.trans hp
  case dio => exact k.dio.trans hp
  case tall => exact k.tall.trans hp
  case gorse => exact k.gorse.trans hp
  case safe => exact k.safe.trans hp
  case can => exact k.can.trans hp
  case duo => exact k.duo.trans hp
  case sec => exact k.sec.trans hp
  case sys => exact k.sys.trans hp

/-- The frame of a command from what its effect changes at most; a command of which frames may leave on the pairing link names the counter of
free values too. -/
theorem frame_of_effect {i : Instr} {s : State} {f : Dev → Dev} {touch : Nat → Prop} {ps : List Part} (hi : exec i s = s.run f)
    (hr : ∀ r : Reg, ¬ touch r.addr → (f s.start).reg r = s.start.reg r) (hp : ∀ p, p ∉ ps → p.fixed s.start (f s.start))
    (hl : (!ps.contains .link || ps.contains .fresh) = true) : Frame i s touch ps := by
  intro t ht
  obtain ⟨u, hu, hpend, hf⟩ := runAny_next s (fun d => if d.sys.off then d else f d)
  obtain rfl : u = t := Host.Outcome.next.inj ((hu.symm.trans hi.symm).trans ht)
  refine ⟨hpend, fun r hr1 hr2 => ?_, fun p hq => ?_⟩
  · refine (hf.reg r (ownReg_of_not_named hr2)).trans ?_
    split
    · rfl
    · exact hr r hr1
  · refine hf.same (d := s.start) ?_ fun he => ?_
    · split
      · exact p.fixed_rfl _
      · exact hp p hq
    · split
      · rfl
      · refine hp .link fun hm => hq (he ▸ ?_)
        simpa [hm] using hl

theorem frame_of_run {i : Instr} {s : State} {f : Dev → Dev} {l : List RegName} {ps : List Part} (hi : exec i s = s.run f)
    (h : ∀ d, Changes l ps d (f d)) (hl : (!ps.contains .link || ps.contains .fresh) = true) : Frame i s (Named l) ps :=
  frame_of_effect hi (h _).regs (h _).parts hl

theorem frame_of_runIf {i : Instr} {s : State} {c : Bool} {f : Dev → Dev} {l : List RegName} {ps : List Part} (hi : exec i s = s.runIf c f)
    (h : ∀ d, Changes l ps d (f d)) (hl : (!ps.contains .link || ps.contains .fresh) = true) : Frame i s (Named l) ps :=
  frame_of_run hi (fun d => (h d).ite Changes.refl.answer) hl

end Sys2Proof.Machine

namespace Sys2Proof.Machine

open Sys2Proof

/-! ### The loader at the end of a command (R142) -/

/-- What follows a command's effect, with the loader and its status register: of what follows, the arming at start alone touches them. -/
structure FollowsLoad (d e : Dev) : Prop extends Follows d e where
  loader_eq : e.loader = d.bootArm.loader
  imgStat : e.reg R.FAB_IMG_STAT = d.bootArm.reg R.FAB_IMG_STAT

theorem post_followsLoad (d : Dev) : FollowsLoad d d.settle.flush.seal := by
  obtain ⟨-, -, -, -, -, -, l2, r2⟩ := selectPower_kept d.bootArm
  obtain ⟨-, -, -, -, l3, r3⟩ := gatesFollow_kept d.bootArm.selectPower
  obtain ⟨-, -, -, -, l4, r4⟩ := linkServe_kept d.bootArm.selectPower.gatesFollow.clk d.bootArm.selectPower.gatesFollow.link.q.length
    d.bootArm.selectPower.gatesFollow
  obtain ⟨-, -, -, -, l5, -, r5⟩ := flush_kept d.settle
  refine ⟨post_follows d, l5.trans (l4.trans (l3.trans l2)), ?_⟩
  have h5 : d.settle.flush.seal.reg R.FAB_IMG_STAT = d.settle.flush.reg R.FAB_IMG_STAT := tget_tabNorm _ _ _
  rw [h5, r5 _ fun p => addr_ne (n := .FAB_IMG_STAT) (m := .HOST_P_CNT_TX) (by decide) 0 0 p 0]
  exact (Dev.reg_congr r4 _).trans ((Dev.reg_congr r3 _).trans (r2 _ (by decide)))

/-- A command completes with every `P` that holds of what follows its effect `f`, its loader included. -/
theorem runs_with_loader {i : Instr} {s : State} {f : Dev → Dev} {P : Dev → Prop} (hi : exec i s = s.run f) (hon : s.On)
    (hP : ∀ e, FollowsLoad (f s.start) e → P e) : Runs i s P := by
  have hoff : s.start.sys.off = false := hon
  refine ⟨_, hi, rfl, ?_⟩
  show P (if s.start.sys.off then s.start else f s.start).settle.flush.seal
  rw [hoff]
  exact hP _ (post_followsLoad _)

/-- No activation is armed at start while the loader is at work, nor where no image is chosen (R142). -/
theorem bootArm_eq_self {d : Dev} (h : d.loader.job ≠ .idle ∨ d.loader.nextImage = none) : d.bootArm = d :=
  if_neg (by rcases h with h | h <;> simp [h])

namespace FollowsLoad

variable {d e : Dev}

/-- A field of FAB_IMG_STAT other than STATE stands. -/
theorem imgFld (h : FollowsLoad d e) {g : Fld} (hg : F.FAB_IMG_STAT.STATE.apart g = true) :
    e.fld R.FAB_IMG_STAT g = d.fld R.FAB_IMG_STAT g := by
  have hb : d.bootArm.fld R.FAB_IMG_STAT g = d.fld R.FAB_IMG_STAT g := by
    unfold Dev.bootArm
    split
    · exact d.fld_setFld_field hg
    · rfl
  exact (congrArg (getF · g) h.imgStat).trans hb

theorem loader_of_unarmed (h : FollowsLoad d e) (hb : d.loader.job ≠ .idle ∨ d.loader.nextImage = none) : e.loader = d.loader := by
  rw [h.loader_eq, bootArm_eq_self hb]

theorem imgFld_of_unarmed (h : FollowsLoad d e) (hb : d.loader.job ≠ .idle ∨ d.loader.nextImage = none) (g : Fld) :
    e.fld R.FAB_IMG_STAT g = d.fld R.FAB_IMG_STAT g := by
  rw [Dev.fld, h.imgStat, bootArm_eq_self hb, Dev.fld]

end FollowsLoad

end Sys2Proof.Machine

namespace Sys2Proof.Machine

open Sys2Proof

/-! ### Writes of FAB_IMG_CTL (R134, R139, R146) -/

theorem blkOf_fabImgCtl : blkOf R.FAB_IMG_CTL.addr = .fab := by decide

theorem regDo_fabImgCtl (d : Dev) (ses : Nat) (old new w : Word) : d.regDo ses R.FAB_IMG_CTL old new w = d.imgCtlDo w := by
  simp only [Dev.regDo, blkOf_fabImgCtl, Dev.unitDo]

/-- A field that was put reads back, and one apart from it as before. -/
theorem getF_putF_field (w : Word) {f g : Fld} (v : Nat) (h : f.apart g = true) : getF (putF w f v) g = getF w g := by
  simp only [Fld.apart, Fld.inWord, Bool.and_eq_true, Bool.or_eq_true, decide_eq_true_eq] at h
  obtain ⟨⟨⟨hf, -⟩, hg, h32⟩, h⟩ := h
  exact getF_putF_other w f g v h hf hg h32

/-- An accepted write of FAB_IMG_CTL with an action bit. -/
theorem hostWrite_fabImgCtl (d : Dev) {ses : Nat} {w : Word} (hm : d.MayWrite ses R.FAB_IMG_CTL) (hw : d.WriteOk R.FAB_IMG_CTL w)
    (h : getF w F.FAB_IMG_CTL.ACTIVATE = 1 ∨ getF w F.FAB_IMG_CTL.CHECK = 1 ∨ getF w F.FAB_IMG_CTL.ERASE = 1) :
    d.hostWrite ses R.FAB_IMG_CTL w = ((d.setReg R.FAB_IMG_CTL (d.written R.FAB_IMG_CTL w)).imgCtlDo w).answer .ok := by
  have ha : writeActs RegName.FAB_IMG_CTL.info w = true := by rcases h with h | h | h <;> simp [writeActs, RegName.info, h]
  rw [hostWrite_ok d ses _ _ hm (.inr (.inl ha)) hw rfl, regDo_fabImgCtl]

theorem imgCtlDo_activate (d : Dev) {w : Word} (h : getF w F.FAB_IMG_CTL.ACTIVATE = 1) :
    d.imgCtlDo w = d.startCheck (getF w F.FAB_IMG_CTL.SLOT) true (getF w F.FAB_IMG_CTL.KEEPITEMS == 1) := by
  simp [Dev.imgCtlDo, h]

theorem imgCtlDo_check (d : Dev) {w : Word} (h0 : getF w F.FAB_IMG_CTL.ACTIVATE = 0) (h : getF w F.FAB_IMG_CTL.CHECK = 1) :
    d.imgCtlDo w = d.startCheck (getF w F.FAB_IMG_CTL.SLOT) false false := by
  simp [Dev.imgCtlDo, h0, h]

theorem imgCtlDo_erase (d : Dev) {w : Word} (h0 : getF w F.FAB_IMG_CTL.ACTIVATE = 0) (h1 : getF w F.FAB_IMG_CTL.CHECK = 0)
    (h : getF w F.FAB_IMG_CTL.ERASE = 1) : d.imgCtlDo w = d.putSlot (getF w F.FAB_IMG_CTL.SLOT) [] := by
  simp [Dev.imgCtlDo, h0, h1, h]

theorem startCheck_job (d : Dev) (slot : Nat) (act keep : Bool) : (d.startCheck slot act keep).loader.job = .checking slot act keep := rfl

theorem fld_setImgState (d : Dev) {st : Nat} (h : st < 16) : (d.setImgState st).fld R.FAB_IMG_STAT F.FAB_IMG_STAT.STATE = st :=
  d.fld_setFld_of_lt h (by decide)

/-- What follows the start of a check: the check stands. -/
theorem FollowsLoad.checking {d e : Dev} {slot : Nat} {act keep : Bool} (h : FollowsLoad ((d.startCheck slot act keep).answer .ok) e) :
    e.loader.job = .checking slot act keep ∧ e.fld R.FAB_IMG_STAT F.FAB_IMG_STAT.STATE = 1 := by
  have hb : ((d.startCheck slot act keep).answer .ok).loader.job ≠ .idle := by simp [startCheck_job]
  exact ⟨congrArg LoaderSt.job (h.loader_of_unarmed (.inl hb)),
    (h.imgFld_of_unarmed (.inl hb) _).trans (fld_setImgState _ (by decide))⟩

theorem putSlot_erased (d : Dev) (slot : Nat) : tget? (d.putSlot slot []).loader.flash slot = none := tget?_tdel_same _ _

/-- A slot whose bytes are replaced is not valid (R120). -/
theorem putSlot_invalid (d : Dev) (b : List Byte) :
    (d.putSlot 0 b).fld R.FAB_IMG_STAT F.FAB_IMG_STAT.VALID0 = 0 ∧ (d.putSlot 1 b).fld R.FAB_IMG_STAT F.FAB_IMG_STAT.VALID1 = 0 :=
  ⟨Dev.fld_setFld_of_lt _ (by decide) (by decide), Dev.fld_setFld_of_lt _ (by decide) (by decide)⟩

/-! ### The end of a check (R120, R134, R140) -/

/-- A check that the image passes. -/
theorem checked_good (d : Dev) {slot : Nat} (h : checkImage slot (d.slotFull slot) = none) :
    d.checked slot = ((d.showUtil (imageOf slot (d.slotFull slot))).setValid slot true, some (imageOf slot (d.slotFull slot))) := by
  unfold Dev.checked
  extract_lets b i
  rw [h]

theorem checkComplete_arms (d : Dev) {slot : Nat} {keep : Bool} (hj : d.loader.job = .checking slot true keep)
    (h : checkImage slot (d.slotFull slot) = none) :
    d.checkComplete.loader.job = .armed (boundaryAfter d.ns) keep ∧
    d.checkComplete.loader.nextImage = some (imageOf slot (d.slotFull slot)) ∧
    d.checkComplete.fld R.FAB_IMG_STAT F.FAB_IMG_STAT.STATE = 2 := by
  simp only [Dev.checkComplete, hj, checked_good d h, if_true]
  exact ⟨rfl, rfl, fld_setImgState _ (by decide)⟩

theorem bootCheck_chooses (d : Dev) {slot : Nat} (hd : d.loader.bootDone = false) (hi : d.loader.image = none) (hj : d.loader.job = .idle)
    (hp : d.bit R.SYS_PF_STAT F.SYS_PF_STAT.PFW = false) (ht : d.loader.bootTry = []) (ho : d.bootOrder.head? = some slot)
    (h : checkImage slot (d.slotFull slot) = none) :
    d.bootCheck.loader.bootDone = true ∧ d.bootCheck.loader.nextImage = some (imageOf slot (d.slotFull slot)) := by
  obtain ⟨rest, hr⟩ := List.head?_eq_some_iff.1 ho
  have hf : d.bootOrder.filter (fun s => !d.loader.bootTry.contains s) = slot :: rest := by simp [ht, hr]
  unfold Dev.bootCheck
  rw [if_neg (by simp [hd, hi, hj, hp]), hf]
  simp only [checked_good d h]
  exact ⟨rfl, rfl⟩

/-! ### Writes of PARAMS words (R145) -/

theorem paramsWrite_ok (d : Dev) {ses n mem a : Nat} (w : Word) (hc : (tget? d.host.sess ses).any (fun x => x.ctl) = true)
    (hh : d.paramsHold n mem a = true) (hs : d.isStandby = false) (ho : d.handingOver = false) (hw : d.inSwitch = false)
    (hb : d.blkOn .ce = true) : ∃ keep, d.paramsWrite ses n mem a w =
      (d.setLoader { d.loader with shadow := keep ++ [(n, mem, a, w)],
                                   pendingParams := d.loader.pendingParams ++ [(n, mem, a, w)] }).answer .ok := by
  obtain ⟨x, hx, hctl⟩ := (Option.any_eq_true _ _).1 hc
  unfold Dev.paramsWrite
  extract_lets st keep
  exact ⟨keep, if_pos (by simp [st, hx, hctl, hh, hs, ho, hw, hb, need, lowest])⟩

/-- Settles O16: each clause is the effect of its command on the loader, read in what follows it. -/
theorem imageCommandsComplete : Obligations.ImageCommandsComplete := by
  rintro s d rfl hon
  refine ⟨?check, ?activate, ?erase, ?checkEnd, ?bootEnd, ?params⟩
  case check =>
    intro ses w hm h0 hw
    have h1 : getF (putF w F.FAB_IMG_CTL.CHECK 1) F.FAB_IMG_CTL.CHECK = 1 := getF_putF_same _ _ _ (by decide) (by decide)
    have h2 := (getF_putF_field w (f := F.FAB_IMG_CTL.CHECK) (g := F.FAB_IMG_CTL.ACTIVATE) 1 (by decide)).trans h0
    refine runs_with_loader (f := fun d => d.hostWrite ses R.FAB_IMG_CTL (putF w F.FAB_IMG_CTL.CHECK 1)) rfl hon fun e he => ?_
    rw [hostWrite_fabImgCtl _ hm hw (.inr (.inl h1)), imgCtlDo_check _ h2 h1, getF_putF_field _ _ (by decide)] at he
    exact he.checking
  case activate =>
    intro ses w hm hw
    have h1 : getF (putF w F.FAB_IMG_CTL.ACTIVATE 1) F.FAB_IMG_CTL.ACTIVATE = 1 := getF_putF_same _ _ _ (by decide) (by decide)
    refine runs_with_loader (f := fun d => d.hostWrite ses R.FAB_IMG_CTL (putF w F.FAB_IMG_CTL.ACTIVATE 1)) rfl hon fun e he => ?_
    rw [hostWrite_fabImgCtl _ hm hw (.inl h1), imgCtlDo_activate _ h1, getF_putF_field _ _ (by decide), getF_putF_field _ _ (by decide)] at he
    exact he.checking
  case erase =>
    intro ses w hm h0 hc hw
    have h1 : getF (putF w F.FAB_IMG_CTL.ERASE 1) F.FAB_IMG_CTL.ERASE = 1 := getF_putF_same _ _ _ (by decide) (by decide)
    have h2 := (getF_putF_field w (f := F.FAB_IMG_CTL.ERASE) (g := F.FAB_IMG_CTL.ACTIVATE) 1 (by decide)).trans h0
    have h3 := (getF_putF_field w (f := F.FAB_IMG_CTL.ERASE) (g := F.FAB_IMG_CTL.CHECK) 1 (by decide)).trans hc
    refine runs_with_loader (f := fun d => d.hostWrite ses R.FAB_IMG_CTL (putF w F.FAB_IMG_CTL.ERASE 1)) rfl hon fun e he => ?_
    rw [hostWrite_fabImgCtl _ hm hw (.inr (.inr h1)), imgCtlDo_erase _ h2 h3 h1, getF_putF_field _ _ (by decide)] at he
    obtain ⟨j, hj⟩ := he.loader
    refine ⟨?_, fun hs => ?_, fun hs => ?_⟩
    · rw [hj]
      exact putSlot_erased _ _
    · rw [hs] at he
      exact (he.imgFld (by decide)).trans (putSlot_invalid _ _).1
    · rw [hs] at he
      exact (he.imgFld (by decide)).trans (putSlot_invalid _ _).2
  case checkEnd =>
    intro slot keep hj h
    obtain ⟨h1, h2, h3⟩ := checkComplete_arms s.start hj h
    have hb : s.start.checkComplete.loader.job ≠ .idle := by simp [h1]
    refine runs_with_loader (f := Dev.checkComplete) rfl hon fun e he => ?_
    rw [he.loader_of_unarmed (.inl hb), he.imgFld_of_unarmed (.inl hb)]
    exact ⟨h1, h2, h3⟩
  case bootEnd =>
    intro slot hd hi hj hp ht ho h
    refine runs_with_loader (f := Dev.bootCheck) rfl hon fun e he => ?_
    obtain ⟨j, hl⟩ := he.loader
    rw [hl]
    exact bootCheck_chooses s.start hd hi hj hp ht ho h
  case params =>
    intro ses n mem a w hn hmem hc hh hs ho hw hb
    obtain ⟨keep, hk⟩ := paramsWrite_ok s.start w hc hh hs ho hw hb
    refine runs_of_runIf (f := fun d => d.paramsWrite ses n mem a w) rfl hon (by simp [hn, hmem]) fun e he => ?_
    rw [hk] at he
    obtain ⟨j, hl⟩ := he.loader
    refine ⟨he.head_out rfl, ?_, ?_⟩
    · rw [hl]
      rfl
    · rw [hl]
      exact List.mem_append_right _ (List.mem_singleton.2 rfl)

end Sys2Proof.Machine

namespace Sys2Proof.Machine

open Sys2Proof

/-! ### The line and the capture: what their shared operations change at most -/

theorem muteAll_changes (d : Dev) (p : Nat) : Changes [] [.line] d (d.muteAll p) := Changes.refl.line.emit

theorem portOff_changes (d : Dev) (p : Nat) : Changes [.LINE_STAT] [.line] d (d.portOff p) := Changes.refl.setFld.line

theorem portStart_changes (d : Dev) (p : Nat) : Changes [.LINE_STAT, .LINE_LOOPDLY] [.line] d (d.portStart p) :=
  Changes.refl.setFld.setFld.setReg.line

theorem keepRecord_changes (d : Dev) (r : CapRec) : Changes [.CAP_STAT, .CAP_TRIGMAP] [.cap] d (d.keepRecord r) :=
  Changes.refl.cap.setFld.setReg

theorem stopCapture_changes (d : Dev) : Changes [.CAP_STAT, .CAP_TRIGMAP] [.cap] d d.stopCapture := by
  unfold Dev.stopCapture
  extract_lets x d1
  have h1 : Changes [.CAP_STAT, .CAP_TRIGMAP] [.cap] d d1 := by
    unfold d1
    split
    · exact Changes.refl.cap.ite (keepRecord_changes _ _)
    · exact Changes.refl
  have h2 : Changes [.CAP_STAT, .CAP_TRIGMAP] [.cap] d (d1.setCapState 6) := h1.setFld
  exact Changes.refl.ite h2

theorem capActivate_changes (d : Dev) : Changes [.CAP_STAT, .CAP_TRIGMAP] [.cap] d d.capActivate :=
  Changes.cap ((stopCapture_changes d).ev.ite Changes.refl)

/-! ### The phases of an activation (R140, R141) -/

theorem loadEngine_changes (d : Dev) (e : Nat) (i : Image) : Changes [] [.engs] d (d.loadEngine e i) := Changes.refl.engs

theorem cmpDisarm_changes (d : Dev) (k : Nat) : Changes [.TIME_CMP_CTL] [.time] d (d.cmpDisarm k) := Changes.refl.time.setFld

theorem disarmOld_changes (d : Dev) : Changes [.TIME_CMP_CTL, .LINE_MARK_CTL] [.time] d d.disarmOld := by
  have h1 (l : List Nat) : Changes [.TIME_CMP_CTL, .LINE_MARK_CTL] [.time] d
      (d.each l fun d k => if d.cmpOwned k then (d.cmpDisarm k).setFld (R.TIME_CMP_CTL k) F.TIME_CMP_CTL.OWNIMG 0 else d) :=
    Changes.refl.each fun x k _ h => (h.step (cmpDisarm_changes x k)).setFld.ite h
  exact (h1 _).each fun x p _ h => h.each fun y m _ h => h.setFld

theorem portHalt_changes (d : Dev) (new : Image) (p : Nat) : Changes [.LINE_SLOT_STAT, .LINE_STAT] [.line] d (d.portHalt new p) := by
  unfold Dev.portHalt
  extract_lets d1 d2
  have h1 : Changes [.LINE_SLOT_STAT, .LINE_STAT] [.line] d d1 := (muteAll_changes d p).within.ite Changes.refl
  have h2 : Changes [.LINE_SLOT_STAT, .LINE_STAT] [.line] d d2 := ((h1.step (portOff_changes d1 p)).ite h1).line
  exact Changes.refl.ite (h2.each fun _ _ _ h => h.setFld)

/-- What the stop of the old schedule changes at most after the loader's own step. -/
theorem oldStopped_changes (d : Dev) (i : Image) :
    Changes [.LINE_SLOT_STAT, .LINE_STAT, .TIME_CMP_CTL, .LINE_MARK_CTL] [.line, .engs, .time] d
      ((d.disarmOld.each allPorts fun d p => d.portHalt i p).each allEngines fun d e =>
        if (d.eng e).insts.isEmpty then d.loadEngine e i else d) :=
  (Changes.each (disarmOld_changes d).within fun x p _ h => h.step (portHalt_changes x i p)).each fun x e _ h =>
    (h.step (loadEngine_changes x e i)).ite h

theorem restState_changes (d : Dev) : Changes [.FAB_IMG_STAT] [] d d.restState := Changes.refl.setFld

theorem dropActivation_changes (d : Dev) : Changes [.FAB_IMG_STAT] [.line, .loader] d d.dropActivation :=
  (Changes.refl.loader.each fun _ _ _ h => h.line).step (restState_changes _)

theorem keepCheck_changes (d : Dev) : Changes [.FAB_IMG_STAT] [.line, .loader] d d.keepCheck := by
  unfold Dev.keepCheck
  split
  · split
    · split
      · exact (dropActivation_changes d).evObj
      · exact Changes.refl.each fun x p _ h => (h.step (muteAll_changes x p)).ite h
    · exact .refl
  · exact .refl

theorem tallClear_changes (d : Dev) : Changes [] [.tall] d d.tallClear := Changes.refl.tall

theorem activationSwitch_changes (d : Dev) : Changes [.CAP_STAT, .CAP_TRIGMAP, .FAB_IMG_STAT, .LINE_MARK_CTL, .LINE_SLOT_STAT, .LINE_STAT,
    .TIME_CMP_CTL] [.cap, .engs, .line, .loader, .tall, .time] d d.activationSwitch := by
  unfold Dev.activationSwitch
  split
  · next t keep i _ _ =>
    have h1 : Changes [.CAP_STAT, .CAP_TRIGMAP, .FAB_IMG_STAT] [.cap, .loader, .tall] d
        ((d.setLoader { d.loader with job := .switching t keep false }).setImgState 3).capActivate :=
      Changes.step (Changes.refl.loader.setFld (n := .FAB_IMG_STAT)) (capActivate_changes _)
    exact Changes.ite ((h1.when (h1.step (tallClear_changes _))).within.step (oldStopped_changes _ i)) .refl
  · exact .refl

theorem soutCycle_changes (d : Dev) : Changes [] [.dio] d d.soutCycle :=
  Changes.refl.each fun _ _ _ h => h.ite (h.dio.inside (dioDrive_inside _ _))

theorem safeShow_changes (d : Dev) : Changes [.SAFE_STAT] [] d d.safeShow := Changes.refl.setFld.setFld

/-- The registers of the safety processor that an activation sets (R454). -/
abbrev safeNames : List RegName := [.SAFE_CONN_STAT, .SAFE_FN, .SAFE_IN, .SAFE_SA_STAT, .SAFE_SECTCRC, .SAFE_STAT]

theorem safeTake_changes (d : Dev) : Changes safeNames [.dio, .safe] d d.safeTake := by
  unfold Dev.safeTake
  extract_lets d1 d2 d3
  have h1 : Changes safeNames [.dio, .safe] d d1 := Changes.refl.safe.setFld.setFld.setReg
  have h2 : Changes safeNames [.dio, .safe] d d2 := h1.each fun x c _ h => h.clearReg.clearReg.ite h.clearReg.clearReg.setReg
  have h3 : Changes safeNames [.dio, .safe] d d3 := (h2.each fun _ _ _ h => h.clearReg).each fun _ _ _ h => h.clearReg
  exact Changes.refl.ite ((h3.step (soutCycle_changes d3)).step (safeShow_changes _))

theorem gorseStart_changes (d : Dev) (st : Nat) : Changes [.GORSE_STAT] [.gorse] d (d.gorseStart st) := Changes.refl.gorse.setFld

theorem portBegin_changes (d : Dev) (p : Nat) : Changes [.LINE_STAT, .LINE_LOOPDLY] [.line] d (d.portBegin p) := by
  unfold Dev.portBegin
  extract_lets d1 st
  have h1 : Changes [.LINE_STAT, .LINE_LOOPDLY] [.line] d d1 := Changes.refl.line
  refine h1.ite (Changes.ite (h1.ite (h1.step (portOff_changes d1 p))) ?_)
  split
  · exact h1.setFld.setReg.line
  · exact h1.setFld
  · exact h1.step (portStart_changes d1 p)

theorem beginListening_changes (d : Dev) : Changes [] [.line] d d.beginListening :=
  Changes.refl.each fun _ _ _ h => h.line.ite h

theorem showImage_changes (d : Dev) : Changes [.FAB_IMG_HASH, .FAB_IMG_ID, .FAB_IMG_STAT, .FAB_IMG_VER] [] d d.showImage :=
  Changes.each Changes.refl.setFld.setReg.setReg fun _ _ _ h => h.setReg

/-- What the start of the new schedule changes at most after the loader's own step. -/
theorem newStarted_changes (d : Dev) (l : List Nat) : Changes (safeNames ++ [.GORSE_STAT, .LINE_STAT, .LINE_LOOPDLY])
    [.dio, .gorse, .line, .safe] d ((d.safeTake.gorseStart 2).each l Dev.portBegin).beginListening :=
  Changes.step (Changes.each (Changes.step (safeTake_changes d).within (gorseStart_changes _ 2)) fun x p _ h => h.step (portBegin_changes x p))
    (beginListening_changes _)

theorem activationRelease_changes (d : Dev) : Changes [.FAB_ACT_TIME, .FAB_IMG_HASH, .FAB_IMG_ID, .FAB_IMG_STAT, .FAB_IMG_VER, .GORSE_STAT,
    .LINE_LOOPDLY, .LINE_STAT, .SAFE_CONN_STAT, .SAFE_FN, .SAFE_IN, .SAFE_SA_STAT, .SAFE_SECTCRC, .SAFE_STAT] [.dio, .gorse, .line, .loader, .safe]
    d d.activationRelease := by
  unfold Dev.activationRelease
  split
  · exact Changes.ite (((Changes.refl.loader.setFld.setReg.step (showImage_changes _)).step (newStarted_changes _ _)).ev) Changes.refl
  · exact Changes.refl

/-! ### A filter taken over (R199) -/

theorem filterCommit_changes (d : Dev) (a s : Nat) (cfg : Word) :
    Changes [.FLT_A1, .FLT_A2, .FLT_B0, .FLT_B1, .FLT_B2, .FLT_CFG] [.axs] d (d.filterCommit a s cfg).1 := by
  unfold Dev.filterCommit
  generalize d.filterCheck a s cfg = q
  obtain ⟨st, cs⟩ := q
  dsimp -zeta only
  split
  · exact Changes.refl
  · extract_lets kind lvl d1 d2 x f
    have h1 : Changes [.FLT_A1, .FLT_A2, .FLT_B0, .FLT_B1, .FLT_B2, .FLT_CFG] [.axs] d d1 := Changes.refl.setReg
    have h2 : Changes [.FLT_A1, .FLT_A2, .FLT_B0, .FLT_B1, .FLT_B2, .FLT_CFG] [.axs] d d2 :=
      h1.setRegI.setRegI.setRegI.setRegI.setRegI.ite h1
    exact h2.axs

end Sys2Proof.Machine

namespace Sys2Proof.Machine

open Sys2Proof

/-! ### The clock, the input filters and the loader: what leaves them alone

The REGINIT list of an image may start what a write of any register starts (R140), so the walk goes over all of it: one lemma for each operation,
found by `simp` where another operation calls it. -/

/-- The clock, the filters of the input lines, and the loader stand. -/
@[simp] abbrev Dev.Still (d e : Dev) : Prop := e.clk = d.clk ∧ e.fil = d.fil ∧ e.loader = d.loader

section
variable (d : Dev)

@[simp] theorem Dev.setW1c_clk (r : Reg) (g : Fld) (m : Nat) : (d.setW1c r g m).clk = d.clk := rfl

@[simp] theorem Dev.setW1c_fil (r : Reg) (g : Fld) (m : Nat) : (d.setW1c r g m).fil = d.fil := rfl

@[simp] theorem Dev.setW1c_loader (r : Reg) (g : Fld) (m : Nat) : (d.setW1c r g m).loader = d.loader := rfl

@[simp] theorem Dev.clk_ite (c : Prop) [Decidable c] (e : Dev) : (if c then d else e).clk = if c then d.clk else e.clk := apply_ite Dev.clk c d e

@[simp] theorem Dev.fil_ite (c : Prop) [Decidable c] (e : Dev) : (if c then d else e).fil = if c then d.fil else e.fil := apply_ite Dev.fil c d e

@[simp] theorem Dev.loader_ite (c : Prop) [Decidable c] (e : Dev) : (if c then d else e).loader = if c then d.loader else e.loader :=
  apply_ite Dev.loader c d e

@[simp] theorem Dev.each_still {α : Type} (l : List α) (g : Dev → α → Dev) (h : ∀ (x : Dev) a, x.Still (g x a)) : d.Still (d.each l g) :=
  Dev.each_keeps (Q := d.Still) (fun x a _ ⟨hc, hf, hl⟩ =>
    have ⟨kc, kf, kl⟩ := h x a
    ⟨kc.trans hc, kf.trans hf, kl.trans hl⟩) ⟨rfl, rfl, rfl⟩

@[simp] theorem Dev.when_still (c : Bool) (g : Dev → Dev) (h : ∀ x : Dev, x.Still (g x)) : d.Still (d.when c g) := by
  simp [Dev.when, h]

/-! #### Registers -/

@[simp] theorem fit32_still (x : Int) : d.Still (d.fit32 x).2 := by
  unfold Dev.fit32
  split
  · exact ⟨rfl, rfl, rfl⟩
  · simp [Dev.free]

/-! #### Gates and the link -/

@[simp] theorem setLeg_still (l : Nat) (x : LegSt) : d.Still (d.setLeg l x) := by simp [Dev.setLeg]

@[simp] theorem gateFollows_still (l : Nat) : d.Still (d.gateFollows l) := by simp [Dev.gateFollows]

@[simp] theorem linkPut_still (o : Out) : d.Still (d.linkPut o) := by simp [Dev.linkPut]

@[simp] theorem linkSend_still (typ : Nat) (fields : List Int) : d.Still (d.linkSend typ fields) := by simp [Dev.linkSend]

/-! #### The Bureau -/

@[simp] theorem evtNext_still : d.Still d.evtNext := by simp [Dev.evtNext]

@[simp] theorem evtClear_still : d.Still d.evtClear := by simp [Dev.evtClear]

@[simp] theorem retest_still (bad : List Nat) : d.Still (d.retest bad) := by simp [Dev.retest]

/-! #### Outputs -/

@[simp] theorem setDioCh_still (k : Nat) (x : DioCh) : d.Still (d.setDioCh k x) := by simp [Dev.setDioCh]

@[simp] theorem dioDrive_still (k : Nat) : d.Still (d.dioDrive k) := by simp [Dev.dioDrive]

@[simp] theorem dioDriveBank_still (b : Nat) : d.Still (d.dioDriveBank b) := by simp [Dev.dioDriveBank]

@[simp] theorem dioCommand_still (k : Nat) (on : Bool) : d.Still (d.dioCommand k on) := by simp [Dev.dioCommand]

@[simp] theorem dioFabric_still (cons : Nat) (val : Word) : d.Still (d.dioFabric cons val) := by simp [Dev.dioFabric]

/-! #### Channels and axes -/

@[simp] theorem chanStore_still (c : Nat) (val : Word) (valid : Bool) (rel : Option Nat) : d.Still (d.chanStore c val valid rel) := by
  unfold Dev.chanStore
  split <;> simp

@[simp] theorem chanValid_still (c : Nat) (valid : Bool) : d.Still (d.chanValid c valid) := by simp [Dev.chanValid]

@[simp] theorem setAxSt_still (a : Nat) (x : AxisSt) : d.Still (d.setAxSt a x) := by simp [Dev.setAxSt]

@[simp] theorem updAxSt_still (a : Nat) (f : AxisSt → AxisSt) : d.Still (d.updAxSt a f) := by simp [Dev.updAxSt]

@[simp] theorem outputsZero_still (a : Nat) : d.Still (d.outputsZero a) := by
  unfold Dev.outputsZero
  dsimp only
  split <;> simp

@[simp] theorem applyReaction_still (a code cause : Nat) (pf : Bool) : d.Still (d.applyReaction a code cause pf) := by
  unfold Dev.applyReaction
  dsimp only
  split
  · simp
  · split <;> simp

@[simp] theorem react_still (a code cause : Nat) (pf : Bool) : d.Still (d.react a code cause pf) := by simp [Dev.react]

/-! #### The engines -/

@[simp] theorem setEng_still (e : Nat) (x : EngSt) : d.Still (d.setEng e x) := by simp [Dev.setEng]

@[simp] theorem updStat_still (t : Nat) (f : TaskStat → TaskStat) : d.Still (d.updStat t f) := by simp [Dev.updStat]

@[simp] theorem dropRelease_still (e t : Nat) : d.Still (d.dropRelease e t) := by simp [Dev.dropRelease]

@[simp] theorem ceClrMax_still (e : Nat) : d.Still (d.ceClrMax e) := by simp [Dev.ceClrMax]

@[simp] theorem ceResume_still (e : Nat) : d.Still (d.ceResume e) := by simp [Dev.ceResume]

@[simp] theorem resumeEngine_still (e : Nat) : d.Still (d.resumeEngine e) := by simp [Dev.resumeEngine]

/-! #### The loops -/

@[simp] theorem primeModel_still (a : Nat) : d.Still (d.primeModel a) := by simp [Dev.primeModel]

@[simp] theorem startTask_still (t : Nat) : d.Still (d.startTask t) := by
  unfold Dev.startTask
  dsimp only
  split
  · split <;> simp
  · simp

@[simp] theorem filterCommit_still (a s : Nat) (cfg : Word) : d.Still (d.filterCommit a s cfg).1 :=
  have h := filterCommit_changes d a s cfg
  ⟨h.parts .clk (by decide), h.parts .fil (by decide), h.parts .loader (by decide)⟩

/-! #### Safety connections -/

@[simp] theorem setConn_still (c : Nat) (x : SafeConn) : d.Still (d.setConn c x) := by simp [Dev.setConn]

@[simp] theorem setSax_still (k : Nat) (x : SafeAxis) : d.Still (d.setSax k x) := by simp [Dev.setSax]

/-! #### Time -/

@[simp] theorem refsel_still : d.Still d.refsel := by simp [Dev.refsel]

@[simp] theorem closeWindow_still : d.Still d.closeWindow := by simp [Dev.closeWindow]

@[simp] theorem makeStep_still (ofs : Int) : d.Still (d.makeStep ofs) := by simp [Dev.makeStep]

@[simp] theorem timeCtlDo_still (w : Word) : d.Still (d.timeCtlDo w) := by simp [Dev.timeCtlDo]

@[simp] theorem cmpArm_still (k : Nat) : d.Still (d.cmpArm k) := by simp [Dev.cmpArm]

@[simp] theorem cmpDisarm_still (k : Nat) : d.Still (d.cmpDisarm k) := by simp [Dev.cmpDisarm]

@[simp] theorem cmpAction_still (k : Nat) (tgt : Word) : d.Still (d.cmpAction k tgt) := by
  unfold Dev.cmpAction
  dsimp only
  split <;> simp

@[simp] theorem cmpFire_still (k : Nat) : d.Still (d.cmpFire k) := by
  unfold Dev.cmpFire
  split <;> simp

@[simp] theorem cmpCtlDo_still (k : Nat) (w : Word) : d.Still (d.cmpCtlDo k w) := by simp [Dev.cmpCtlDo]

@[simp] theorem cmpFromImage_still (r : CmpRec) (t : Nat) : d.Still (d.cmpFromImage r t) := by simp [Dev.cmpFromImage]

/-! #### The line -/

@[simp] theorem setPort_still (p : Nat) (x : PortSt) : d.Still (d.setPort p x) := by simp [Dev.setPort]

@[simp] theorem updPort_still (p : Nat) (f : PortSt → PortSt) : d.Still (d.updPort p f) := by simp [Dev.updPort]

@[simp] theorem setPortState_still (p st : Nat) : d.Still (d.setPortState p st) := by simp [Dev.setPortState]

@[simp] theorem acyclic_still (p typ adr : Nat) (body : List Byte) : d.Still (d.acyclic p typ adr body) := by simp [Dev.acyclic]

@[simp] theorem send_still (p typ adr : Nat) (body : List Byte) : d.Still (d.send p typ adr body) := by simp [Dev.send]

@[simp] theorem setDuo_still (x : PairSt) : d.Still (d.setDuo x) := by simp [Dev.setDuo]

@[simp] theorem setMstate_still (st : Nat) : d.Still (d.setMstate st) := by simp [Dev.setMstate]

@[simp] theorem askCopy_still : d.Still d.askCopy := by simp [Dev.askCopy]

@[simp] theorem portStart_still (p : Nat) : d.Still (d.portStart p) := by simp [Dev.portStart]

@[simp] theorem portOff_still (p : Nat) : d.Still (d.portOff p) := by simp [Dev.portOff]

@[simp] theorem portStop_still (p : Nat) : d.Still (d.portStop p) := by simp [Dev.portStop]

@[simp] theorem lineCtlDo_still (p : Nat) (w : Word) : d.Still (d.lineCtlDo p w) := by simp [Dev.lineCtlDo]

@[simp] theorem setGrp_still (g : Nat) (x : GroupSt) : d.Still (d.setGrp g x) := by simp [Dev.setGrp]

@[simp] theorem setGrpState_still (g st : Nat) : d.Still (d.setGrpState g st) := by simp [Dev.setGrpState]

@[simp] theorem sendApply_still (g n mode token : Nat) (ms : List (Nat × Nat × Nat)) : d.Still (d.sendApply g n mode token ms) := by
  simp [Dev.sendApply]

@[simp] theorem grpAllStaged_still (g : Nat) : d.Still (d.grpAllStaged g) := by simp [Dev.grpAllStaged]

@[simp] theorem grpStart_still (g : Nat) : d.Still (d.grpStart g) := by simp [Dev.grpStart]

/-! #### The legs -/

@[simp] theorem setCar_still (c : Nat) (x : CarSt) : d.Still (d.setCar c x) := by simp [Dev.setCar]

@[simp] theorem commitPair_still (l : Nat) (pair : Nat × Nat) : d.Still (d.commitPair l pair) := by
  simp [Dev.commitPair, legReg]

@[simp] theorem directCommit_still (l : Nat) (pair : Nat × Nat) : d.Still (d.directCommit l pair) := by simp [Dev.directCommit]

@[simp] theorem legForm_still (l : Nat) : d.Still (d.legForm l) := by
  simp [Dev.legForm, legReg]

@[simp] theorem clearAcc_still (l : Nat) : d.Still (d.clearAcc l) := by simp [Dev.clearAcc, legReg]

@[simp] theorem legAnew_still (l : Nat) : d.Still (d.legAnew l) := by simp [Dev.legAnew, legReg]

@[simp] theorem legsEnable_still (l0 : Nat) : d.Still (d.legsEnable l0) := by simp [Dev.legsEnable]

@[simp] theorem tripDrive_still (c i : Nat) : d.Still (d.tripDrive c i) := by
  unfold Dev.tripDrive
  extract_lets d1
  have h1 : d.Still d1 := by simp [d1, legReg]
  split <;> simp [h1]

@[simp] theorem tripInput_still (c t : Nat) : d.Still (d.tripInput c t) := by simp [Dev.tripInput]

@[simp] theorem typeOkNow_still (c : Nat) : d.Still (d.typeOkNow c) := by simp [Dev.typeOkNow]

@[simp] theorem legCtlDo_still (l : Nat) (old w : Word) : d.Still (d.legCtlDo l old w) := by simp [Dev.legCtlDo]

@[simp] theorem legCfgDo_still (l : Nat) (old : Word) : d.Still (d.legCfgDo l old) := by simp [Dev.legCfgDo]

/-! #### Feedback -/

@[simp] theorem setEnc_still (k : Nat) (x : EncSt) : d.Still (d.setEnc k x) := by simp [Dev.setEnc]

@[simp] theorem encValidity_still (k : Nat) : d.Still (d.encValidity k) := by simp [Dev.encValidity]

@[simp] theorem clrInv_still (k : Nat) : d.Still (d.clrInv k) := by simp [Dev.clrInv]

@[simp] theorem encPreset_still (k : Nat) (w : Word) : d.Still (d.encPreset k w) := by simp [Dev.encPreset]

@[simp] theorem probeCtl_still (p : Nat) (w : Word) : d.Still (d.probeCtl p w) := by simp [Dev.probeCtl]

@[simp] theorem encRestore_still (mask : Nat) : d.Still (d.encRestore mask) := by simp [Dev.encRestore]

/-! #### Motion -/

@[simp] theorem setMs_still (a : Nat) (x : MotSt) : d.Still (d.setMs a x) := by simp [Dev.setMs]

@[simp] theorem setTrk_still (t : Nat) (x : TrackSt) : d.Still (d.setTrk t x) := by simp [Dev.setTrk]

@[simp] theorem setVm_still (v : Nat) (x : VmSt) : d.Still (d.setVm v x) := by simp [Dev.setVm]

@[simp] theorem setSrc_still (a src : Nat) : d.Still (d.setSrc a src) := by simp [Dev.setSrc]

@[simp] theorem setGearSt_still (a st : Nat) : d.Still (d.setGearSt a st) := by simp [Dev.setGearSt]

@[simp] theorem cancelChange_still (a : Nat) : d.Still (d.cancelChange a) := by
  unfold Dev.cancelChange
  split <;> simp

@[simp] theorem gearOff_still (a : Nat) : d.Still (d.gearOff a) := by simp [Dev.gearOff]

@[simp] theorem motCtlDo_still (a : Nat) (w : Word) : d.Still (d.motCtlDo a w) := by simp [Dev.motCtlDo]

@[simp] theorem motReplan_still (a : Nat) : d.Still (d.motReplan a) := by simp [Dev.motReplan]

@[simp] theorem gearCtlDo_still (a : Nat) (w : Word) : d.Still (d.gearCtlDo a w) := by simp [Dev.gearCtlDo]

@[simp] theorem storeSp_still (a : Nat) (c : Int × Int × Int) : d.Still (d.storeSp a c) := by
  unfold Dev.storeSp
  dsimp only
  split <;> simp

@[simp] theorem motEnable_still (a : Nat) : d.Still (d.motEnable a) := by simp [Dev.motEnable]

@[simp] theorem motDisable_still (a : Nat) : d.Still (d.motDisable a) := by simp [Dev.motDisable]

@[simp] theorem trackCorr_still (t : Nat) (w : Word) : d.Still (d.trackCorr t w) := by simp [Dev.trackCorr]

@[simp] theorem trackClrinv_still (t : Nat) : d.Still (d.trackClrinv t) := by
  unfold Dev.trackClrinv
  split <;> simp

@[simp] theorem vmSet_still (v : Nat) (x : Int) : d.Still (d.vmSet v x) := by simp [Dev.vmSet]

/-! #### Arms -/

@[simp] theorem setArm_still (m : Nat) (x : ArmSt) : d.Still (d.setArm m x) := by simp [Dev.setArm]

@[simp] theorem armCtlDo_still (m : Nat) (w : Word) : d.Still (d.armCtlDo m w) := by simp [Dev.armCtlDo]

/-! #### CAN -/

@[simp] theorem setCan_still (c : Nat) (x : CanSt) : d.Still (d.setCan c x) := by simp [Dev.setCan]

@[simp] theorem canPairSet_still (c i : Nat) (m k : Word) : d.Still (d.canPairSet c i m k) := by simp [Dev.canPairSet]

@[simp] theorem canDetect_still (c : Nat) : d.Still (d.canDetect c) := by simp [Dev.canDetect]

@[simp] theorem canSuspend_still (c i : Nat) (f : CanFrame) : d.Still (d.canSuspend c i f) := ⟨rfl, rfl, rfl⟩

@[simp] theorem canClashClr_still (c : Nat) : d.Still (d.canClashClr c) := by
  unfold Dev.canClashClr
  extract_lets d1
  have h1 : d.Still d1 := by
    -- for every list: over the numeral one, the terms' check would evaluate the loop
    have he (l : List Nat) : d.Still ((d.each l fun d i => d.setReg (R.CAN_CLASH_ID c i) 0).setFld (R.CAN_STAT c) F.CAN_STAT.CLASHFULL 0) := by
      simp
    exact he _
  clear_value d1
  split
  · split
    · simp [h1]
    · exact h1
  · exact h1

@[simp] theorem canModeSet_still (c : Nat) (old : Word) : d.Still (d.canModeSet c old) := by
  unfold Dev.canModeSet
  extract_lets new same x d0 d1
  have h1 : d.Still d1 := by simp [d1, d0]
  split
  · simp
  · split
    · exact h1
    · split
      · exact h1
      · exact h1
    · exact h1

@[simp] theorem canDbtSet_still (c : Nat) : d.Still (d.canDbtSet c) := by simp [Dev.canDbtSet]

@[simp] theorem canCtlDo_still (c : Nat) (w : Word) : d.Still (d.canCtlDo c w) := by simp [Dev.canCtlDo]

@[simp] theorem canLoad_still : d.Still d.canLoad := by simp [Dev.canLoad]

/-! #### Capture -/

@[simp] theorem setCap_still (x : CapSt) : d.Still (d.setCap x) := by simp [Dev.setCap]

@[simp] theorem setCapState_still (st : Nat) : d.Still (d.setCapState st) := by simp [Dev.setCapState]

@[simp] theorem beginRecord_still : d.Still d.beginRecord := by simp [Dev.beginRecord]

@[simp] theorem armCapture_still : d.Still d.armCapture := by simp [Dev.armCapture]

@[simp] theorem keepRecord_still (r : CapRec) : d.Still (d.keepRecord r) := by simp [Dev.keepRecord]

@[simp] theorem stopCapture_still : d.Still d.stopCapture := by
  unfold Dev.stopCapture
  dsimp only
  split
  · simp
  · split <;> simp

@[simp] theorem capCtl_still (w : Word) : d.Still (d.capCtl w).1 := by
  unfold Dev.capCtl
  dsimp only
  repeat' split
  all_goals simp

/-! #### Field I/O -/

@[simp] theorem dioRequal_still (b : Nat) : d.Still (d.dioRequal b) := by simp [Dev.dioRequal]

@[simp] theorem dioCtlDo_still (b : Nat) (w : Word) : d.Still (d.dioCtlDo b w) := by simp [Dev.dioCtlDo]

@[simp] theorem dioClrTherm_still (b : Nat) (w : Word) : d.Still (d.dioClrTherm b w) := by simp [Dev.dioClrTherm]

@[simp] theorem dioOutDo_still (b set clr : Nat) : d.Still (d.dioOutDo b set clr) := by simp [Dev.dioOutDo]

@[simp] theorem dioFltAgain_still (b : Nat) : d.Still (d.dioFltAgain b) := by simp [Dev.dioFltAgain]

/-! #### Gorse -/

@[simp] theorem gorseCtlDo_still (w : Word) : d.Still (d.gorseCtlDo w) := by simp [Dev.gorseCtlDo]

@[simp] theorem capenDo_still (m : Nat) (old : Word) : d.Still (d.capenDo m old) := by simp [Dev.capenDo]

@[simp] theorem gorseStart_still (st : Nat) : d.Still (d.gorseStart st) := by simp [Dev.gorseStart]

@[simp] theorem gorseWake_still : d.Still d.gorseWake := by simp [Dev.gorseWake]

@[simp] theorem gorseLoad_still : d.Still d.gorseLoad := by
  unfold Dev.gorseLoad
  split <;> simp

/-! #### The safety processor -/

@[simp] theorem startMsg_still (c : Nat) (now : Bool) : d.Still (d.startMsg c now) := by
  unfold Dev.startMsg
  split <;> simp

@[simp] theorem setPermit_still (k : Nat) (on : Bool) : d.Still (d.setPermit k on) := by
  unfold Dev.setPermit
  dsimp only
  split
  · simp
  · split <;> simp

@[simp] theorem saSto_still (k fn : Nat) : d.Still (d.saSto k fn) := by
  unfold Dev.saSto
  dsimp only
  split <;> simp

@[simp] theorem saFault_still (k kind : Nat) : d.Still (d.saFault k kind) := by simp [Dev.saFault]

@[simp] theorem grantPermit_still (a : Nat) : d.Still (d.grantPermit a) := by
  unfold Dev.grantPermit
  split <;> simp

@[simp] theorem dropPermit_still (a : Nat) : d.Still (d.dropPermit a) := by
  unfold Dev.dropPermit
  split <;> simp

/-! #### Axis control -/

@[simp] theorem enableRefused_still (a : Nat) : d.Still (d.enableRefused a) := by
  unfold Dev.enableRefused
  repeat' split
  all_goals simp

@[simp] theorem enableAxis_still (a : Nat) : d.Still (d.enableAxis a) := by
  unfold Dev.enableAxis
  dsimp only
  split <;> simp

@[simp] theorem disableAxis_still (a : Nat) : d.Still (d.disableAxis a) := by simp [Dev.disableAxis]

@[simp] theorem clrFlt_still (a : Nat) : d.Still (d.clrFlt a) := by simp [Dev.clrFlt]

@[simp] theorem transferLaw_still (a : Nat) (lvls : List Nat) : d.Still (d.transferLaw a lvls) := by simp [Dev.transferLaw]

@[simp] theorem axCtlDo_still (a : Nat) (old new w : Word) : d.Still (d.axCtlDo a old new w) := by simp [Dev.axCtlDo]

/-! #### The pair -/

@[simp] theorem pairCtlDo_still (w : Word) : d.Still (d.pairCtlDo w) := by simp [Dev.pairCtlDo]

/-! #### Security -/

@[simp] theorem setSec_still (x : SecSt) : d.Still (d.setSec x) := by simp [Dev.setSec]

@[simp] theorem setWords_still {f : Nat → Reg} (ws : List Word) : d.Still (d.setWords f ws) := by simp [Dev.setWords]

@[simp] theorem extend_still (i op : Nat) (dg : List Byte) : d.Still (d.extend i op dg) := by
  unfold Dev.extend
  extract_lets d1 r x d2
  have h1 : d.Still d1 := by simp [d1]
  have h2 : d.Still d2 := by simp [d2, h1]
  simp [h2]

@[simp] theorem extendEvent_still (op new : Nat) (td : List Byte) : d.Still (d.extendEvent op new td) := by simp [Dev.extendEvent]

@[simp] theorem showDebug_still : d.Still d.showDebug := by simp [Dev.showDebug]

@[simp] theorem endDebug_still : d.Still d.endDebug := by simp [Dev.endDebug]

@[simp] theorem setSecState_still (new op : Nat) (td : List Byte) : d.Still (d.setSecState new op td) := by simp [Dev.setSecState]

@[simp] theorem disarmDebug_still : d.Still d.disarmDebug := by simp [Dev.disarmDebug]

@[simp] theorem endService_still : d.Still d.endService := by simp [Dev.endService]

@[simp] theorem secCtlDo_still (w : Word) : d.Still (d.secCtlDo w) := by simp [Dev.secCtlDo]

/-! #### Items and actions -/

@[simp] theorem setTall_still (x : TallSt) : d.Still (d.setTall x) := by simp [Dev.setTall]

@[simp] theorem setItem_still (h : Nat) (x : ItemSt) : d.Still (d.setItem h x) := by simp [Dev.setItem]

@[simp] theorem setAct_still (i : Nat) (x : ActSt) : d.Still (d.setAct i x) := by simp [Dev.setAct]

@[simp] theorem setTo_still (o : Nat) (x : ToSt) : d.Still (d.setTo o x) := by simp [Dev.setTo]

@[simp] theorem toRelease_still (i : Nat) (x : ActSt) : d.Still (d.toRelease i x) := by simp [Dev.toRelease]

@[simp] theorem freeAct_still (i : Nat) : d.Still (d.freeAct i) := by
  unfold Dev.freeAct
  dsimp only
  split
  · simp
  · split <;> simp

@[simp] theorem removeItem_still (h : Nat) : d.Still (d.removeItem h) := by
  unfold Dev.removeItem
  split
  · exact ⟨rfl, rfl, rfl⟩
  · refine Dev.each_still d _ _ fun x i => ?_
    split
    · split
      · exact ⟨rfl, rfl, rfl⟩
      · exact freeAct_still x i
    · exact ⟨rfl, rfl, rfl⟩

@[simp] theorem actEv_still (code sev : Nat) (x : ActSt) (data : List Word) : d.Still (d.actEv code sev x data) := by simp [Dev.actEv]

@[simp] theorem lateWrap_still (x : ActSt) (pos : Int) : d.Still (d.lateWrap x pos) := by simp [Dev.lateWrap]

@[simp] theorem crossed_still (i ns : Nat) (pos : Int) : d.Still (d.crossed i ns pos) := by
  unfold Dev.crossed
  split <;> simp

@[simp] theorem scan_still (t : Nat) : d.Still (d.scan t) := by
  unfold Dev.scan
  dsimp only
  split
  · simp
  · split <;> simp

@[simp] theorem scanAll_still : d.Still d.scanAll := by simp [Dev.scanAll]

@[simp] theorem tallCtlDo_still (w : Word) : d.Still (d.tallCtlDo w) := by simp [Dev.tallCtlDo]

/-! #### Writes -/

@[simp] theorem applyAddr_still (ses : Nat) : d.Still (d.applyAddr ses) := by simp [Dev.applyAddr]

@[simp] theorem axisDo_still (r : Reg) (old new w : Word) : d.Still (d.axisDo r old new w) := by
  unfold Dev.axisDo
  split <;> simp

@[simp] theorem plantDo_still (r : Reg) (old w : Word) : d.Still (d.plantDo r old w) := by
  unfold Dev.plantDo
  split <;> simp

@[simp] theorem netDo_still (r : Reg) (old new w : Word) : d.Still (d.netDo r old new w) := by
  unfold Dev.netDo
  split <;> simp [*]

/-! #### The objects of an image -/

@[simp] theorem loadEngine_still (e : Nat) (i : Image) : d.Still (d.loadEngine e i) := by simp [Dev.loadEngine]

@[simp] theorem loadEngines_still (i : Image) : d.Still (d.loadEngines i) := by simp [Dev.loadEngines]

@[simp] theorem linesLoad_still : d.Still d.linesLoad := by simp [Dev.linesLoad]

@[simp] theorem groupsLoad_still : d.Still d.groupsLoad := by simp [Dev.groupsLoad]

@[simp] theorem tracksLoad_still (keep : Bool) : d.Still (d.tracksLoad keep) := by simp [Dev.tracksLoad]

@[simp] theorem dioLoad_still : d.Still d.dioLoad := by simp [Dev.dioLoad]

@[simp] theorem canUnload_still : d.Still d.canUnload := by simp [Dev.canUnload]

@[simp] theorem constLoad_still : d.Still d.constLoad := by simp [Dev.constLoad]

end

end Sys2Proof.Machine

namespace Sys2Proof.Machine

open Sys2Proof

/-! ### The REGINIT list of an image leaves the clock, the filters and the loader's work (R140) -/

/-- The clock and the filters stand, and so does the loader's work while it is at work. -/
structure Dev.Stays (d e : Dev) : Prop where
  clk : e.clk = d.clk
  fil : e.fil = d.fil
  work : d.loader.job ≠ .idle → e.loader.job = d.loader.job ∧ e.loader.image = d.loader.image

theorem Dev.Still.stays {d e : Dev} (h : d.Still e) : d.Stays e :=
  ⟨h.1, h.2.1, fun _ => ⟨congrArg LoaderSt.job h.2.2, congrArg LoaderSt.image h.2.2⟩⟩

namespace Dev.Stays

variable {d e f : Dev}

theorem refl : d.Stays d := ⟨rfl, rfl, fun _ => ⟨rfl, rfl⟩⟩

theorem trans (h : d.Stays e) (k : e.Stays f) : d.Stays f := by
  refine ⟨k.clk.trans h.clk, k.fil.trans h.fil, fun hj => ?_⟩
  obtain ⟨h1, h2⟩ := h.work hj
  obtain ⟨k1, k2⟩ := k.work (h1 ▸ hj)
  exact ⟨k1.trans h1, k2.trans h2⟩

end Dev.Stays

/-- An accepted write of FAB_IMG_CTL asks for no check while the loader is at work. -/
theorem imgCtl_asks_nothing {d : Dev} {old w : Word} (h : ∀ x ∈ d.imgCtlCheck old w, x = .ok) (hj : d.loader.job ≠ .idle) :
    getF w F.FAB_IMG_CTL.ACTIVATE = 0 ∧ getF w F.FAB_IMG_CTL.CHECK = 0 := by
  simpa [Dev.imgCtlCheck, need, hj] using h _ (.tail _ (.tail _ (.head _)))

theorem imgCtlDo_stays (d x : Dev) {old w : Word} (hx : x.loader = d.loader) (h : ∀ s ∈ d.imgCtlCheck old w, s = .ok) :
    x.Stays (x.imgCtlDo w) := by
  unfold Dev.imgCtlDo
  extract_lets slot
  split
  case isTrue ha => exact ⟨rfl, rfl, fun hj => by simp [(imgCtl_asks_nothing h (hx ▸ hj)).1] at ha⟩
  split
  case isTrue hc => exact ⟨rfl, rfl, fun hj => by simp [(imgCtl_asks_nothing h (hx ▸ hj)).2] at hc⟩
  split
  · exact ⟨rfl, rfl, fun _ => ⟨rfl, rfl⟩⟩
  · exact .refl

/-- What an accepted write starts leaves the loader's work. -/
theorem unitDo_stays (d x : Dev) (ses : Nat) {r : Reg} {old new w : Word} (hx : x.loader = d.loader)
    (h : ∀ s ∈ d.unitCheck r old new w, s = .ok) : x.Stays (x.unitDo ses r w) := by
  unfold Dev.unitDo
  split
  case h_7 hn => exact imgCtlDo_stays d x (old := old) hx (by simpa only [Dev.unitCheck, hn] using h)
  all_goals exact Dev.Still.stays (by simp)

theorem regDo_stays (d x : Dev) (ses : Nat) {r : Reg} {old new w : Word} (hx : x.loader = d.loader)
    (h : ∀ s ∈ d.regCheck r old new w, s = .ok) : x.Stays (x.regDo ses r old new w) := by
  unfold Dev.regCheck at h
  unfold Dev.regDo
  split
  case h_13 =>
    refine unitDo_stays d x ses (old := old) (new := new) hx ?_
    simp_all only
    exact h
  all_goals exact Dev.Still.stays (by simp)

theorem writeWord_stays (d : Dev) (init : Bool) (ses : Nat) (r : Reg) (w : Word) : d.Stays (d.writeWord init ses r w).1 := by
  unfold Dev.writeWord
  extract_lets x old new none_ gate st
  split
  · exact .refl
  split
  · exact .refl
  split
  · split
    · exact Dev.Still.stays (by simp)
    · exact .refl
  · split
    · exact Dev.Still.stays (by simp)
    · exact .refl
  · split
    case isTrue hst =>
      have hc := (lowest_ok_iff _).1 ((lowest_append_ok _ _).1 hst).2
      have h1 : d.Stays (d.setReg r new) := Dev.Still.stays (by simp)
      exact h1.trans (regDo_stays d _ ses rfl hc)
    · refine Dev.Still.stays ?_
      split
      · simp
      · split <;> simp

theorem pairDo_stays (d : Dev) (lo hi : Reg) (v : Int) : d.Stays (d.pairDo lo hi v) := by
  refine Dev.Still.stays ?_
  unfold Dev.pairDo
  split <;> simp

theorem writePair_stays (d : Dev) (init : Bool) (lo hi : Reg) (w wh : Word) : d.Stays (d.writePair init lo hi w wh).1 := by
  unfold Dev.writePair
  extract_lets x v none_ st
  split
  · exact .refl
  split
  · exact .refl
  split
  · exact pairDo_stays d lo hi v
  · exact .refl

theorem regInitOne_stays (d : Dev) (held : Tab Word) (addr : Nat) (w : Word) : d.Stays (d.regInitOne held addr w).1 := by
  unfold Dev.regInitOne
  split
  · exact .refl
  split
  · exact .refl
  split
  · exact writeWord_stays d true 0 _ w
  · exact writePair_stays d true _ _ w _

theorem regInitAll_stays (d : Dev) (l : List (Nat × Word)) (i : Nat) (held : Tab Word) : d.Stays (d.regInitAll l i held).1 := by
  induction l generalizing d i held with
  | nil => exact .refl
  | cons a rest ih =>
    have h1 := regInitOne_stays d held a.1 a.2
    unfold Dev.regInitAll
    generalize d.regInitOne held a.1 a.2 = q at h1 ⊢
    obtain ⟨d1, held1, st⟩ := q
    dsimp only at h1 ⊢
    split
    · exact h1.trans (ih _ _ _)
    · exact (h1.trans (Dev.Still.stays (by simp))).trans (ih _ _ _)

/-! ### The objects of the new image (R140) -/

@[simp] theorem dropRegs_still (d : Dev) (p : Reg → Bool) : d.Still (d.dropRegs p) := ⟨rfl, rfl, rfl⟩

theorem objectsMade_stays (d : Dev) (old : Image) (keep : Bool) : d.Stays (d.objectsMade old keep) := by
  unfold Dev.objectsMade
  extract_lets i same d1 mot engs line loader d2 d2s d3
  have h2 : d.Stays d2 := ⟨rfl, rfl, fun _ => ⟨rfl, rfl⟩⟩
  have h3 : d2.Still d3 := by simp [d3, d2s]
  exact h2.trans (Dev.Still.stays (by simp [h3]))

@[simp] theorem portRemade_still (d : Dev) (p : Nat) : d.Still (d.portRemade p) := by
  unfold Dev.portRemade
  extract_lets x stale d0 d1
  have h1 : d.Still d1 := by simp [d1, d0]
  exact h1

@[simp] theorem cmpArmImage_still (d : Dev) (base : Nat) : d.Still (d.cmpArmImage base) := by simp [Dev.cmpArmImage]

@[simp] theorem measureImage_still (d : Dev) : d.Still d.measureImage := by simp [Dev.measureImage]

/-! ### The commit of an activation (R140) -/

end Sys2Proof.Machine

namespace Sys2Proof.Machine

open Sys2Proof

/-! ### Reading a register that a step does not name -/

theorem not_named_of_apart {l : List RegName} {n : RegName} (h : l.all (fun m => n.info.apart m.info) = true) (i j : Nat) :
    ¬ Named l (Reg.addr ⟨n, i, j⟩) :=
  fun ⟨m, hm, k, k', ha⟩ => addr_ne (List.all_eq_true.1 h m hm) i j k k' ha

theorem Changes.reg_apart {l : List RegName} {ps : List Part} {d e : Dev} (h : Changes l ps d e) (r : Reg)
    (hn : l.all (fun m => r.name.info.apart m.info) = true) : e.reg r = d.reg r := h.regs _ (not_named_of_apart hn r.i r.j)

theorem Changes.fld_apart {l : List RegName} {ps : List Part} {d e : Dev} (h : Changes l ps d e) (r : Reg) (g : Fld)
    (hn : l.all (fun m => r.name.info.apart m.info) = true) : e.fld r g = d.fld r g := congrArg (getF · g) (h.reg_apart r hn)

/-! ### The switch of an activation (R140, R141) -/

theorem keepCheck_drops {d : Dev} {t k : Nat} (hj : d.loader.job = .armed t true) (ht : t ≤ d.ns + 125000) (hk : d.movingTrack = some k) :
    d.keepCheck.loader.job = .idle ∧ d.keepCheck.loader.nextImage = none := by
  have h : Changes [.FAB_IMG_STAT] [.line] (d.setLoader { d.loader with job := .idle, nextImage := none }) d.keepCheck := by
    unfold Dev.keepCheck
    rw [hj]
    dsimp only
    rw [if_pos (decide_eq_true ht), hk]
    exact (Changes.step (Changes.refl.each fun _ _ _ h => h.line) (restState_changes _)).evObj
  rw [h.parts .loader (by decide)]
  exact ⟨rfl, rfl⟩

theorem activationSwitch_effect {d : Dev} {t : Nat} {keep : Bool} {i : Image} (hj : d.loader.job = .armed t keep)
    (hi : d.loader.nextImage = some i) (ht : t ≤ d.ns) :
    d.activationSwitch.loader.job = .switching t keep false ∧ d.activationSwitch.fld R.FAB_IMG_STAT F.FAB_IMG_STAT.STATE = 3 ∧
      (keep = false → d.activationSwitch.tall.items = []) := by
  unfold Dev.activationSwitch
  rw [hj, hi]
  dsimp only
  rw [if_pos (by simpa using ht)]
  generalize hx : (d.setLoader { d.loader with job := .switching t keep false }).setImgState 3 = x
  have hc := capActivate_changes x
  have hk : Changes [.CAP_STAT, .CAP_TRIGMAP] [.cap, .tall] x (x.capActivate.when (!keep) Dev.tallClear) :=
    hc.within.when (hc.within.step (tallClear_changes _))
  have ho := oldStopped_changes (x.capActivate.when (!keep) Dev.tallClear) i
  refine ⟨?_, ?_, fun hf => ?_⟩
  · rw [ho.parts .loader (by decide), hk.parts .loader (by decide), ← hx]
    rfl
  · rw [ho.fld_apart R.FAB_IMG_STAT _ (by decide), hk.fld_apart R.FAB_IMG_STAT _ (by decide), ← hx, fld_setImgState _ (by decide)]
  · rw [ho.parts .tall (by decide), hf]
    rfl

/-! ### The commit of an activation (R133, R140) -/

theorem extend_changes (d : Dev) (i op : Nat) (dg : List Byte) : Changes [.SEC_EXTCNT, .SEC_MS, .SEC_STAT] [.sec] d (d.extend i op dg) := by
  unfold Dev.extend
  extract_lets d1 r sec d2
  have h1 : Changes [.SEC_EXTCNT, .SEC_MS, .SEC_STAT] [.sec] d d1 := (Changes.refl.each fun _ _ _ h => h.setReg).bump
  exact (h1.sec.ite h1.setFld).ev

/-- The commit of an image `i`: what comes before COMMIT is set leaves the loader's work. -/
theorem activationCommit_eq {d : Dev} {t : Nat} {keep : Bool} {i : Image} (hj : d.loader.job = .switching t keep false)
    (hi : d.loader.nextImage = some i) (ht : t + 3800000 ≤ d.ns) :
    ∃ x, (d.setLoader { d.loader with job := .switching t keep true, image := some i }).Stays x ∧
      d.activationCommit = ((x.setFld R.FAB_IMG_STAT F.FAB_IMG_STAT.COMMIT (if i.slot == 2 then 0 else 1)).gorseStart 0).measureImage := by
  unfold Dev.activationCommit
  rw [hj, hi]
  dsimp -zeta only
  rw [if_pos (decide_eq_true ht)]
  extract_lets l0 old d1 d2 d3 d4
  refine ⟨d3.cmpArmImage (t + 4000000), ?_, rfl⟩
  have h2 : d1.Stays d2 := (Dev.each_still d1 _ _ portRemade_still).stays
  exact (((objectsMade_stays _ old keep).trans h2).trans (regInitAll_stays d2 _ _ _)).trans (cmpArmImage_still d3 _).stays

/-- The clock and the filters of the input lines stand at a commit. -/
theorem activationCommit_clk_fil (d : Dev) : d.activationCommit.clk = d.clk ∧ d.activationCommit.fil = d.fil := by
  by_cases h : ∃ t keep i, d.loader.job = .switching t keep false ∧ d.loader.nextImage = some i ∧ t + 3800000 ≤ d.ns
  · obtain ⟨t, keep, i, hj, hi, ht⟩ := h
    obtain ⟨x, hx, he⟩ := activationCommit_eq hj hi ht
    rw [he]
    simp [hx.clk, hx.fil, Dev.setLoader]
  · unfold Dev.activationCommit
    split
    · next hj hi => exact ⟨congrArg Dev.clk (if_neg fun ht => h ⟨_, _, _, hj, hi, by simpa using ht⟩),
        congrArg Dev.fil (if_neg fun ht => h ⟨_, _, _, hj, hi, by simpa using ht⟩)⟩
    · exact ⟨rfl, rfl⟩

theorem activationCommit_effect {d : Dev} {t : Nat} {keep : Bool} {i : Image} (hj : d.loader.job = .switching t keep false)
    (hi : d.loader.nextImage = some i) (ht : t + 3800000 ≤ d.ns) :
    d.activationCommit.loader.job = .switching t keep true ∧ d.activationCommit.loader.image = some i ∧
      d.activationCommit.fld R.FAB_IMG_STAT F.FAB_IMG_STAT.COMMIT = if i.slot == 2 then 0 else 1 := by
  obtain ⟨x, hx, he⟩ := activationCommit_eq hj hi ht
  obtain ⟨hjob, himg⟩ := hx.work (by simp [Dev.setLoader])
  rw [he]
  generalize hy : x.setFld R.FAB_IMG_STAT F.FAB_IMG_STAT.COMMIT (if i.slot == 2 then 0 else 1) = y
  have hg : Changes [.GORSE_STAT, .SEC_EXTCNT, .SEC_MS, .SEC_STAT] [.gorse, .sec] y (y.gorseStart 0).measureImage :=
    (gorseStart_changes y 0).within.step (extend_changes _ _ _ _)
  have hl : (y.gorseStart 0).measureImage.loader = x.loader := by
    rw [hg.parts .loader (by decide), ← hy]
    rfl
  refine ⟨?_, ?_, ?_⟩
  · rw [hl, hjob]
    rfl
  · rw [hl, himg]
    rfl
  · rw [hg.fld_apart R.FAB_IMG_STAT _ (by decide), ← hy]
    exact Dev.fld_setFld_of_lt _ (by split <;> decide) (by decide)

/-! ### The release of an activation (R140, R147) -/

theorem showImage_imgState (d : Dev) :
    d.showImage.fld R.FAB_IMG_STAT F.FAB_IMG_STAT.STATE = d.fld R.FAB_IMG_STAT F.FAB_IMG_STAT.STATE := by
  have h : Changes [.FAB_IMG_HASH, .FAB_IMG_ID, .FAB_IMG_VER] [] (d.setFld R.FAB_IMG_STAT F.FAB_IMG_STAT.ACTSLOT d.img.slot) d.showImage :=
    Changes.each Changes.refl.setReg.setReg fun _ _ _ h => h.setReg
  exact (h.fld_apart R.FAB_IMG_STAT _ (by decide)).trans (d.fld_setFld_field (by decide))

theorem activationRelease_effect {d : Dev} {t : Nat} {keep : Bool} (hj : d.loader.job = .switching t keep true) (ht : t + 4000000 ≤ d.ns) :
    d.activationRelease.loader.job = .idle ∧ d.activationRelease.loader.nextImage = none ∧
      d.activationRelease.fld R.FAB_IMG_STAT F.FAB_IMG_STAT.STATE = 4 ∧ d.activationRelease.reg R.FAB_ACT_TIME = wN (t + 4000000) := by
  unfold Dev.activationRelease
  rw [hj]
  dsimp -zeta only
  rw [if_pos (decide_eq_true ht)]
  extract_lets i l0 d1 d2 d3
  have h3 : Changes (safeNames ++ [.GORSE_STAT, .LINE_STAT, .LINE_LOOPDLY]) [.dio, .gorse, .line, .safe] d2 d3.beginListening :=
    newStarted_changes d2 (allPorts.filter fun p => (d.port p).changed)
  have hn : Changes (safeNames ++ [.GORSE_STAT, .LINE_STAT, .LINE_LOOPDLY]) [.dio, .gorse, .line, .safe] d2
    (d3.beginListening.ev 0x3002 2 [wN i.id, wN i.ver, wN i.slot]) := Changes.ev h3
  have hs := showImage_changes (d1.setReg R.FAB_ACT_TIME (wN (t + 4000000)))
  have ha : Changes [.FAB_ACT_TIME] [] d1 (d1.setReg R.FAB_ACT_TIME (wN (t + 4000000))) := Changes.refl.setReg
  have hl : (d3.beginListening.ev 0x3002 2 [wN i.id, wN i.ver, wN i.slot]).loader = d1.loader :=
    by
    rw [hn.parts .loader (by decide), hs.parts .loader (by decide), ha.parts .loader (by decide)]
  refine ⟨?_, ?_, ?_, ?_⟩
  · rw [hl]
    rfl
  · rw [hl]
    rfl
  · rw [hn.fld_apart R.FAB_IMG_STAT _ (by decide)]
    exact (showImage_imgState _).trans ((ha.fld_apart R.FAB_IMG_STAT _ (by decide)).trans (fld_setImgState _ (by decide)))
  · rw [hn.reg_apart R.FAB_ACT_TIME (by decide)]
    exact (hs.reg_apart R.FAB_ACT_TIME (by decide)).trans (Dev.reg_setReg_same _ _ _)

/-- Settles O17: each phase's effect on the loader, read in what follows the command. -/
theorem activationComplete : Obligations.ActivationComplete := by
  rintro s d rfl hon
  refine ⟨?still, ?switch, ?commit, ?release⟩
  case still =>
    intro t k hj ht hk
    obtain ⟨h1, h2⟩ := keepCheck_drops hj ht hk
    refine runs_with_loader (f := Dev.keepCheck) rfl hon fun e he => ?_
    rw [he.loader_of_unarmed (.inr h2)]
    exact ⟨h2, h1⟩
  case switch =>
    intro t keep i hj hi ht
    obtain ⟨h1, h2, h3⟩ := activationSwitch_effect hj hi ht
    have hb : s.start.activationSwitch.loader.job ≠ .idle := by simp [h1]
    refine runs_with_loader (f := Dev.activationSwitch) rfl hon fun e he => ?_
    rw [he.loader_of_unarmed (.inl hb), he.imgFld_of_unarmed (.inl hb), he.kept.tall]
    exact ⟨h1, h2, h3⟩
  case commit =>
    intro t keep i hj hi ht
    obtain ⟨h1, h2, h3⟩ := activationCommit_effect hj hi ht
    have hb : s.start.activationCommit.loader.job ≠ .idle := by simp [h1]
    refine runs_with_loader (f := Dev.activationCommit) rfl hon fun e he => ?_
    have hc := (he.imgFld_of_unarmed (.inl hb) F.FAB_IMG_STAT.COMMIT).trans h3
    refine ⟨(congrArg LoaderSt.job (he.loader_of_unarmed (.inl hb))).trans h1, ?_, ?_⟩
    · rw [Dev.img, he.loader_of_unarmed (.inl hb), h2]
      rfl
    · rw [Dev.commit, Dev.bit, hc]
      split <;> simp_all
  case release =>
    intro t keep hj ht _
    obtain ⟨h1, h2, h3, h4⟩ := activationRelease_effect hj ht
    refine runs_with_loader (f := Dev.activationRelease) rfl hon fun e he => ?_
    rw [he.loader_of_unarmed (.inr h2), he.imgFld_of_unarmed (.inr h2), he.reg _ (ownReg_of_apart (by decide) 0 0)]
    exact ⟨h1, h2, h3, h4⟩

end Sys2Proof.Machine

namespace Sys2Proof.Machine

open Sys2Proof

/-! ### The register at an address (R10) -/

theorem addr_of_indexAt {n : RegName} {a : Nat} {e : Nat × Nat} (h : n.info.indexAt a = some e) : Reg.addr ⟨n, e.1, e.2⟩ = a := by
  unfold RegInfo.indexAt at h
  unfold Reg.addr
  split at h
  · cases h
  · next hb =>
    generalize n.info.dims = ds at h ⊢
    match ds with
    | [] =>
      dsimp only at h ⊢
      split at h
      · omega
      · cases h
    | [(k, s)] =>
      dsimp only at h ⊢
      split at h
      · next hc =>
        simp only [Bool.and_eq_true, decide_eq_true_eq] at hc
        obtain rfl := Option.some.inj h
        have := Nat.div_add_mod' (a - n.info.base) s
        rw [Nat.mod_eq_of_lt hc.2]
        omega
      · cases h
    | (k, s) :: (m, t) :: _ =>
      dsimp only at h ⊢
      split at h
      · next hc =>
        simp only [Bool.and_eq_true, decide_eq_true_eq, and_assoc] at hc
        obtain ⟨h1, h2, h3⟩ := hc
        obtain rfl := Option.some.inj h
        have := Nat.div_add_mod' (a - n.info.base) s
        have := Nat.div_add_mod' ((a - n.info.base) % s) t
        rw [Nat.mod_eq_of_lt h1, Nat.mod_eq_of_lt h3]
        omega
      · cases h

theorem addr_of_regAt {a : Nat} {r : Reg} (h : regAt a = some r) : r.addr = a := by
  obtain ⟨n, -, hn⟩ := List.exists_of_findSome?_eq_some h
  obtain ⟨e, he, rfl⟩ := Option.map_eq_some_iff.1 hn
  exact addr_of_indexAt he

/-- No register of another name stands at an address of one of this name. -/
def RegName.Sole (n : RegName) : Prop := ∀ (r : Reg) (i j : Nat), r.addr = Reg.addr ⟨n, i, j⟩ → r.name = n

theorem RegName.sole_of_lone {n : RegName} (h : n.lone = true) : n.Sole := by
  intro r i j ha
  by_contra hn
  exact addr_ne (apart_of_lone h (Ne.symm hn)) i j r.i r.j ha.symm

/-- The names whose registers lie between those of LVL_CFG (R224). -/
abbrev lvlNames : List RegName := [.LVL_CFG, .LVL_KP0, .LVL_KI0, .LVL_KD0, .LVL_ILIM0, .LVL_KP1, .LVL_KI1, .LVL_KD1, .LVL_ILIM1, .LVL_DPOLE,
  .LVL_OLIM, .LVL_FFA, .LVL_FFB, .LVL_OBS_L1, .LVL_OBS_L2, .LVL_OBS_JINV]

/-- The names whose registers lie between those of FLT_CFG (R225). -/
abbrev fltNames : List RegName := [.FLT_CFG, .FLT_PAR, .FLT_B0, .FLT_B1, .FLT_B2, .FLT_A1, .FLT_A2]

theorem mem_of_not_apart {n m : RegName} {l : List RegName} (h : regNames.all (fun m => n.info.apart m.info || l.contains m) = true)
    (hm : n.info.apart m.info ≠ true) : m ∈ l := by
  have := List.all_eq_true.1 h m (mem_regNames m)
  simpa [hm] using this

theorem lvlCfg_sole : RegName.LVL_CFG.Sole := by
  rintro ⟨m, i', j'⟩ i j ha
  have hm : m ∈ lvlNames := mem_of_not_apart (n := .LVL_CFG) (by decide +kernel) fun h => addr_ne h i j i' j' ha.symm
  fin_cases hm
  · rfl
  all_goals
    simp only [Reg.addr, RegName.info] at ha
    omega

theorem fltCfg_sole : RegName.FLT_CFG.Sole := by
  rintro ⟨m, i', j'⟩ i j ha
  have hm : m ∈ fltNames := mem_of_not_apart (n := .FLT_CFG) (by decide +kernel) fun h => addr_ne h i j i' j' ha.symm
  fin_cases hm
  · rfl
  all_goals
    simp only [Reg.addr, RegName.info] at ha
    omega

/-- What a write starts is what its block of registers starts. -/
theorem regDo_cases (d : Dev) (ses : Nat) (r : Reg) (old new w : Word) : d.regDo ses r old new w = d.axisDo r old new w ∨
    d.regDo ses r old new w = d.plantDo r old w ∨ d.regDo ses r old new w = d.netDo r old new w ∨ d.regDo ses r old new w = d.unitDo ses r w := by
  unfold Dev.regDo
  split <;> simp

/-! ### What a write changes at most, accepted or not (R579, R598) -/

section
variable {l : List RegName} {ps : List Part} {d : Dev} {ses : Nat} {w : Word}

theorem writeWord_changes {n : RegName} {i j : Nat} (hc : n ≠ .CAP_CTL) (hf : n ≠ .FLT_CFG)
    (hdo : ∀ old new, Changes l ps d ((d.setReg ⟨n, i, j⟩ new).regDo ses ⟨n, i, j⟩ old new w))
    (hr : n = .AXIS_CTL → Changes l ps d (d.enableRefused i)) : Changes l ps d (d.writeWord false ses ⟨n, i, j⟩ w).1 := by
  unfold Dev.writeWord
  extract_lets x old new none_ gate st
  split
  · exact .refl
  split
  · exact .refl
  split
  · next h => exact absurd h hc
  · next h => exact absurd h hf
  · split
    · exact hdo old new
    · dsimp only
      split
      · next h =>
        simp only [Bool.and_eq_true, beq_iff_eq] at h
        exact hr h.1.1.1
      · exact Changes.refl.evObj.ite .refl

theorem hostWrite_changes {n : RegName} {i j : Nat} (hn : n.Sole) (hi : n.isHi = false) (hh : n.hi? = none)
    (h : ∀ i' j', Changes l ps d (d.writeWord false ses ⟨n, i', j'⟩ w).1) : Changes l ps d (d.hostWrite ses ⟨n, i, j⟩ w) := by
  refine Changes.answer (?_ : Changes l ps d (d.writeAddr ses (Reg.addr ⟨n, i, j⟩) w).1)
  unfold Dev.writeAddr
  split
  · exact .refl
  split
  · exact .refl
  · next r hr =>
    obtain ⟨m, i', j'⟩ := r
    obtain rfl : m = n := hn _ i j (addr_of_regAt hr)
    have hw (s : Session) : Changes l ps d (d.writeFor ses s ⟨m, i', j'⟩ w).1 := by
      unfold Dev.writeFor
      rw [hi, hh]
      exact h i' j'
    dsimp only
    split
    · exact hw _
    · exact .refl

end

end Sys2Proof.Machine

namespace Sys2Proof.Machine

open Sys2Proof

/-! ### Channels and axes: what their shared operations change at most -/

theorem updAxSt_changes (d : Dev) (a : Nat) (f : AxisSt → AxisSt) : Changes [] [.axs] d (d.updAxSt a f) := Changes.refl.axs

theorem chanStore_changes (d : Dev) (c : Nat) (v : Word) (k : Bool) (rel : Option Nat) :
    Changes [.DIO_OUT] [.cap, .dio, .engs] d (d.chanStore c v k rel) := Changes.refl.inside (chanStore_inside d c v k rel)

theorem outputsZero_changes (d : Dev) (a : Nat) : Changes [.DIO_OUT] [.axs, .cap, .dio, .engs] d (d.outputsZero a) :=
  Changes.refl.inside (outputsZero_inside d a)

theorem react_changes (d : Dev) (a code cause : Nat) (pf : Bool) :
    Changes [.AXIS_STAT, .DIO_OUT] [.axs, .cap, .dio, .engs] d (d.react a code cause pf) := Changes.refl.inside (react_inside d a code cause pf)

theorem reactAll_changes (d : Dev) (a : Nat) (l : List (Nat × Nat)) :
    Changes [.AXIS_STAT, .DIO_OUT] [.axs, .cap, .dio, .engs] d (d.reactAll a l) := by
  unfold Dev.reactAll
  split
  · exact react_changes d a _ _ _
  · exact .refl

theorem updStat_changes (d : Dev) (t : Nat) (f : TaskStat → TaskStat) : Changes [] [.engs] d (d.updStat t f) := Changes.refl.engs

/-- The registers that show the set-point of an axis (R290). -/
abbrev spNames : List RegName := [.AXIS_MOT_POS_HI, .AXIS_MOT_POS_LO, .AXIS_MOT_VEL, .AXIS_MOT_ACC, .DIO_OUT]

theorem storeSp_changes (d : Dev) (a : Nat) (c : Int × Int × Int) :
    Changes spNames [.mot, .fresh, .axs, .cap, .dio, .engs] d (d.storeSp a c) := Changes.refl.inside (storeSp_inside d a c)

theorem reportDelay_changes (d : Dev) (a lvl ns : Nat) :
    Changes [.AXIS_DLYMAX, .AXIS_DLY_P, .AXIS_DLY_V, .AXIS_DLY_C] [] d (d.reportDelay a lvl ns) :=
  Changes.refl.inside (reportDelay_inside d a lvl ns)

theorem linkSend_changes (d : Dev) (t : Nat) (x : List Int) : Changes [] [.link] d (d.linkSend t x) := Changes.refl.inside (linkSend_inside d t x)

/-! ### The image (R134, R139, R145, R146) -/

/-- The registers that the end of a check sets. -/
abbrev checkNames : List RegName := [.FAB_IMG_STAT, .FAB_LOAD_ERR, .FAB_LOAD_IDX, .FAB_SCHED_UTIL]

theorem showUtil_changes (d : Dev) (i : Image) : Changes [.FAB_SCHED_UTIL] [] d (d.showUtil i) :=
  Changes.refl.each fun _ _ _ h => h.setFld.setFld.setFld

theorem checkFailed_changes (d : Dev) (slot stage : Nat) (f : Fail) :
    Changes [.FAB_IMG_STAT, .FAB_LOAD_ERR, .FAB_LOAD_IDX] [] d (d.checkFailed slot stage f) := by
  unfold Dev.checkFailed
  extract_lets r d1
  have h1 : Changes [.FAB_IMG_STAT, .FAB_LOAD_ERR, .FAB_LOAD_IDX] [] d d1 := Changes.refl.setFld.setFld.setFld.setFld.setReg
  have h2 : Changes [.FAB_IMG_STAT, .FAB_LOAD_ERR, .FAB_LOAD_IDX] [] d (d1.setValid slot false) := h1.setFld
  exact h2.ev

theorem checked_changes (d : Dev) (slot : Nat) : Changes checkNames [] d (d.checked slot).1 := by
  unfold Dev.checked
  extract_lets b i
  split
  · exact (showUtil_changes d i).within.setFld
  · dsimp only
    split
    · exact (showUtil_changes d i).within.step (checkFailed_changes _ _ _ _)
    · exact (checkFailed_changes _ _ _ _).within

theorem checkComplete_changes (d : Dev) : Changes checkNames [.loader] d d.checkComplete := by
  unfold Dev.checkComplete
  split
  case h_1 slot act keep _ =>
    have h := checked_changes d slot
    generalize d.checked slot = q at h
    obtain ⟨d1, _ | i⟩ := q
    · exact h.within.loader.step (restState_changes _)
    · have h2 : Changes checkNames [.loader] d (d1.setLoader { d1.loader with checked := i.hash }) := h.within.loader
      exact Changes.ite (Changes.setFld h2.loader) (h2.loader.step (restState_changes _))
  case h_2 => exact .refl

theorem bootChosen_changes (d : Dev) (i : Image) : Changes [.FAB_IMG_STAT] [.loader] d (d.bootChosen i) := Changes.refl.loader.setFld

theorem bootCheck_changes (d : Dev) : Changes checkNames [.loader] d d.bootCheck := by
  have hb {x : Dev} (h : Changes checkNames [.loader] d x) (i : Image) : Changes checkNames [.loader] d (x.bootChosen i) :=
    h.step (bootChosen_changes x i)
  unfold Dev.bootCheck
  split
  · exact .refl
  split
  · exact hb Changes.refl.ev _
  · next slot rest _ =>
    have h := checked_changes d slot
    generalize d.checked slot = q at h
    obtain ⟨d1, _ | i⟩ := q
    · dsimp -zeta only
      extract_lets l d2
      have h2 : Changes checkNames [.loader] d d2 := h.within.loader
      exact Changes.ite (hb h2.ev _) (Changes.setFld h2)
    · exact hb (Changes.ite h.within h.within.ev) i

theorem paramsWrite_changes (d : Dev) (ses e mem a : Nat) (w : Word) : Changes [] [.loader] d (d.paramsWrite ses e mem a w) := by
  unfold Dev.paramsWrite
  extract_lets st keep
  exact Changes.ite Changes.refl.loader.answer Changes.refl.answer

theorem imgCtlDo_changes (d : Dev) (w : Word) : Changes [.FAB_IMG_STAT] [.loader] d (d.imgCtlDo w) := by
  have hs (slot : Nat) (act keep : Bool) : Changes [.FAB_IMG_STAT] [.loader] d (d.startCheck slot act keep) := Changes.refl.loader.setFld
  have hp (slot : Nat) (b : List Byte) : Changes [.FAB_IMG_STAT] [.loader] d (d.putSlot slot b) := Changes.refl.loader.setFld
  unfold Dev.imgCtlDo
  exact (hs _ _ _).ite ((hs _ _ _).ite ((hp _ _).ite .refl))

/-- A write of FAB_IMG_CTL. -/
theorem imageWrite_changes (d : Dev) (ses : Nat) (w : Word) :
    Changes [.FAB_IMG_CTL, .FAB_IMG_STAT] [.loader] d (d.hostWrite ses R.FAB_IMG_CTL w) := by
  refine hostWrite_changes (RegName.sole_of_lone (lone_of_mem (by decide))) rfl rfl fun i j => ?_
  refine writeWord_changes (by decide) (by decide) (fun old new => ?_) (by simp)
  have h : Changes [.FAB_IMG_CTL, .FAB_IMG_STAT] [.loader] d (d.setReg ⟨.FAB_IMG_CTL, i, j⟩ new) := Changes.refl.setReg
  unfold Dev.regDo
  split
  case h_13 => exact h.step (imgCtlDo_changes _ w)
  all_goals exact h

end Sys2Proof.Machine

namespace Sys2Proof.Machine

open Sys2Proof

namespace Changes

variable {l : List RegName} {ps : List Part} {d e : Dev} {b : Bool}

theorem setEng (h : Changes l ps d e b) {n : Nat} {x : EngSt} : Changes l ps d (e.setEng n x) (ps.contains .engs && b) := h.engs

theorem setAxSt (h : Changes l ps d e b) {a : Nat} {x : AxisSt} : Changes l ps d (e.setAxSt a x) (ps.contains .axs && b) := h.axs

theorem updAxSt (h : Changes l ps d e b) {a : Nat} {f : AxisSt → AxisSt} : Changes l ps d (e.updAxSt a f) (ps.contains .axs && b) := h.axs

theorem setMs (h : Changes l ps d e b) {a : Nat} {x : MotSt} : Changes l ps d (e.setMs a x) (ps.contains .mot && b) := h.mot

theorem setSrc (h : Changes l ps d e b) {a src : Nat} : Changes l ps d (e.setSrc a src) (l.contains .AXIS_MOT_STAT && b) := h.setFld

theorem setArm (h : Changes l ps d e b) {m : Nat} {x : ArmSt} : Changes l ps d (e.setArm m x) (ps.contains .arms && b) := h.arms

theorem setTall (h : Changes l ps d e b) {x : TallSt} : Changes l ps d (e.setTall x) (ps.contains .tall && b) := h.tall

theorem setLeg (h : Changes l ps d e b) {k : Nat} {x : LegSt} : Changes l ps d (e.setLeg k x) (ps.contains .pwm && b) := h.pwm

theorem setSax (h : Changes l ps d e b) {k : Nat} {x : SafeAxis} : Changes l ps d (e.setSax k x) (ps.contains .safe && b) := h.safe

end Changes

/-! ### Writes of CE_CTL (R175, R184) -/

theorem ceResume_changes (d : Dev) (e : Nat) : Changes [] [.engs] d (d.ceResume e) :=
  Changes.refl.each fun x _ _ h => (h.step (updStat_changes x _ _)).ite h

theorem ceClrMax_changes (d : Dev) (e : Nat) : Changes [.CE_UTIL] [.engs] d (d.ceClrMax e) :=
  Changes.refl.setFld.each fun x _ _ h => h.step (updStat_changes x _ _)

theorem plantDo_ceCtl (d : Dev) (i j : Nat) (old w : Word) : d.plantDo ⟨.CE_CTL, i, j⟩ old w =
    (d.when (getF w F.CE_CTL.RESUME == 1) (·.ceResume i)).when (getF w F.CE_CTL.CLRMAX == 1) (·.ceClrMax i) := rfl

theorem plantDo_ceCtl_changes (d : Dev) (i j : Nat) (old w : Word) : Changes [.CE_UTIL] [.engs] d (d.plantDo ⟨.CE_CTL, i, j⟩ old w) := by
  have h : Changes [.CE_UTIL] [.engs] d (d.when (getF w F.CE_CTL.RESUME == 1) (·.ceResume i)) :=
    Changes.refl.when (ceResume_changes d i).within
  rw [plantDo_ceCtl]
  exact h.when (h.step (ceClrMax_changes _ i))

theorem engineWrite_changes (d : Dev) (ses e : Nat) (w : Word) : Changes [.CE_CTL, .CE_UTIL] [.engs] d (d.hostWrite ses (R.CE_CTL e) w) := by
  refine hostWrite_changes (RegName.sole_of_lone (lone_of_mem (by decide))) rfl rfl fun i j => ?_
  refine writeWord_changes (by decide) (by decide) (fun old new => ?_) (by simp)
  have h : Changes [.CE_CTL, .CE_UTIL] [.engs] d (d.setReg ⟨.CE_CTL, i, j⟩ new) := Changes.refl.setReg
  rcases regDo_cases (d.setReg ⟨.CE_CTL, i, j⟩ new) ses ⟨.CE_CTL, i, j⟩ old new w with hr | hr | hr | hr <;> rw [hr]
  · exact h
  · exact h.step (plantDo_ceCtl_changes _ i j old w)
  · exact h
  · exact h

/-! ### The end of a task's run and its faults (R171 to R177, R196) -/

theorem levelStored_changes (d : Dev) (r : AxisRec) (lvl rel : Nat) : Changes [.DIO_OUT] [.axs, .cap, .dio, .engs] d (d.levelStored r lvl rel) := by
  unfold Dev.levelStored
  extract_lets x l start gone d1
  have h1 : Changes [.DIO_OUT] [.axs, .cap, .dio, .engs] d d1 := Changes.refl.axs
  exact Changes.refl.axs.ite ((h1.each fun x c _ h => h.step (chanStore_changes x c _ _ _)).ite h1)

theorem lawStores_changes (d : Dev) (task rel : Nat) : Changes [.DIO_OUT] [.axs, .cap, .dio, .engs] d (d.lawStores task rel) :=
  Changes.refl.each fun _ r _ h => h.each fun y l _ h => h.step (levelStored_changes y r l rel)

theorem lawAborted_changes (d : Dev) (task : Nat) : Changes [] [.axs] d (d.lawAborted task) :=
  Changes.refl.each fun x _ _ h => h.step (updAxSt_changes x _ _)

theorem endInst_changes (d : Dev) (e : Nat) (i : Inst) : Changes [.DIO_OUT] [.axs, .cap, .dio, .engs] d (d.endInst e i) := by
  unfold Dev.endInst
  extract_lets x d1
  have h1 : Changes [.DIO_OUT] [.axs, .cap, .dio, .engs] d d1 := Changes.refl.setEng.step (lawStores_changes _ _ _)
  exact h1.step (updStat_changes _ _ _)

/-- The registers that record an engine's fault, and those that the reactions to it set (R177). -/
abbrev faultNames : List RegName := [.AXIS_STAT, .CE_CNT_FAULT, .CE_CNT_OVR, .CE_FAULT, .CE_FAULT_PC, .CE_FAULT_TIME, .DIO_OUT]

theorem recordFault_changes (d : Dev) (e cause ctx task pc : Nat) :
    Changes [.CE_FAULT, .CE_FAULT_PC, .CE_FAULT_TIME] [] d (d.recordFault e cause ctx task pc) := by
  unfold Dev.recordFault
  extract_lets r d1
  have h1 : Changes [.CE_FAULT, .CE_FAULT_PC, .CE_FAULT_TIME] [] d d1 := Changes.refl.setFld.setFld.setFld.setW1c
  exact Changes.refl.ite h1.setReg.setReg

theorem countAbort_changes (d : Dev) (e : Nat) (i : Inst) (ovr : Bool) :
    Changes [.AXIS_STAT, .DIO_OUT] [.axs, .cap, .dio, .engs] d (d.countAbort e i ovr) := by
  unfold Dev.countAbort
  extract_lets st n susp d1
  have h1 : Changes [.AXIS_STAT, .DIO_OUT] [.axs, .cap, .dio, .engs] d d1 := (updStat_changes d _ _).within
  exact (h1.evObj.each fun x a _ h => h.step (react_changes x a _ _ _)).ite h1

theorem enterFault_changes (d : Dev) (e cause task pc : Nat) : Changes [] [.engs] d (d.enterFault e cause task pc) := by
  unfold Dev.enterFault
  split
  · exact Changes.refl.evObj
  · exact Changes.refl.evObj.ite Changes.refl.engs

theorem engFault_changes (d : Dev) (e : Nat) (i : Inst) (cause pc : Nat) :
    Changes faultNames [.axs, .cap, .dio, .engs] d (d.engFault e i cause pc) := by
  unfold Dev.engFault
  extract_lets x d1 d2 ovr d3 d4
  have h1 : Changes faultNames [.axs, .cap, .dio, .engs] d d1 := Changes.refl.setEng.step (lawAborted_changes _ _)
  have h2 : Changes faultNames [.axs, .cap, .dio, .engs] d d2 := h1.step (recordFault_changes _ _ _ _ _ _)
  have h3 : Changes faultNames [.axs, .cap, .dio, .engs] d d3 := h2.inc.evObj.ite h2.inc.evObj
  have h4 : Changes faultNames [.axs, .cap, .dio, .engs] d d4 := h3.each fun x a _ h => h.step (react_changes x a _ _ _)
  exact (h3.step (countAbort_changes _ _ _ _)).ite ((h4.step (countAbort_changes _ _ _ _)).step (enterFault_changes _ _ _ _ _))

theorem deadline_changes (d : Dev) (t : Nat) : Changes faultNames [.axs, .cap, .dio, .engs] d (d.deadline t) := by
  unfold Dev.deadline
  split
  · exact .refl
  split
  · exact (engFault_changes _ _ _ _ _).ite .refl
  · exact .refl

/-! ### The issue of a bundle (R155, R171, R181, R182) -/

/-- The registers that the issue of a bundle may set. -/
abbrev issueNames : List RegName := [.AXIS_STAT, .CE_CNT_ECC, .CE_CNT_FAULT, .CE_CNT_OVR, .CE_CNT_STALL, .CE_FAULT, .CE_FAULT_PC, .CE_FAULT_TIME,
  .DIO_OUT]

theorem eccDouble_changes (d : Dev) (e mem a : Nat) : Changes [] [.engs, .loader] d (d.eccDouble e mem a) :=
  Changes.refl.setEng.loader

theorem eccSingle_changes (d : Dev) (e m a : Nat) : Changes [.CE_CNT_ECC, .CE_CNT_STALL] [] d (d.eccSingle e m a) :=
  Changes.refl.inc.bump.evObj

theorem haltEngine_changes (d : Dev) (e : Nat) : Changes [] [.engs] d (d.haltEngine e) := Changes.refl.ite Changes.refl.setEng.evObj

theorem issue_changes (d : Dev) (e : Nat) (err : Option (Nat × Nat × Bool)) :
    Changes issueNames [.axs, .cap, .dio, .engs, .fresh, .loader] d (d.issue e err) := by
  have hf {x : Dev} (h : Changes issueNames [.axs, .cap, .dio, .engs, .fresh, .loader] d x) (i : Inst) (k pc : Nat) :
      Changes issueNames [.axs, .cap, .dio, .engs, .fresh, .loader] d (x.engFault e i k pc) := h.step (engFault_changes x e i k pc)
  unfold Dev.issue
  extract_lets x
  split
  · exact .refl
  · next i0 _ =>
    extract_lets i ctxs c y0 kept
    have hk : Changes issueNames [.axs, .cap, .dio, .engs, .fresh, .loader] d kept := Changes.refl.setEng
    have h1 (m a : Nat) : Changes issueNames [.axs, .cap, .dio, .engs, .fresh, .loader] d (kept.eccSingle e m a) :=
      hk.step (eccSingle_changes kept e m a)
    have h2 (m a : Nat) : Changes issueNames [.axs, .cap, .dio, .engs, .fresh, .loader] d (kept.eccDouble e m a) :=
      hk.step (eccDouble_changes kept e m a)
    refine Changes.ite (hf Changes.refl.setEng _ _ _) ?_
    split
    · exact hf hk _ _ _
    · exact hf (h1 _ _) _ _ _
    · exact hf (h2 _ _) _ _ _
    · exact hf (h2 _ _) _ _ _
    · extract_lets out put cyc i1 y d1 d2 d3
      have k1 : Changes issueNames [.axs, .cap, .dio, .engs, .fresh, .loader] d d1 := Changes.refl.setEng
      have k2 : Changes issueNames [.axs, .cap, .dio, .engs, .fresh, .loader] d d2 := by
        unfold d2
        split
        · exact k1.step (eccSingle_changes d1 e _ _)
        · exact k1
      have k3 : Changes issueNames [.axs, .cap, .dio, .engs, .fresh, .loader] d d3 := by
        unfold d3
        generalize out = o
        match o with
        | some (ch, v) =>
          have kf : Changes issueNames [.axs, .cap, .dio, .engs, .fresh, .loader] d { d2 with fresh := d2.fresh + 1 } := k2.fresh
          have kw : Changes issueNames [.axs, .cap, .dio, .engs, .fresh, .loader] d
            (({ d2 with fresh := d2.fresh + 1 } : Dev).when (put.1 != 0) fun d => d.bump (R.CE_CNT_STALL e) wholeF put.1) := kf.when kf.bump
          exact kw.step (chanStore_changes _ _ _ _ _)
        | none => exact k2
      exact (k3.step (endInst_changes d3 e i1)).ite k3

/-! ### The debug commands of an engine (R190, R604, R606) -/

theorem refuseDebug_changes (d : Dev) (code : Nat) : Changes [.SEC_CNT_DBGDENY] [.sec] d (d.refuseDebug code) :=
  Changes.refl.ite (Changes.inc (e := d.setSec _) Changes.refl.sec).ev

theorem debugStep_changes (d : Dev) (e : Nat) (err : Option (Nat × Nat × Bool)) :
    Changes (issueNames ++ [.SEC_CNT_DBGDENY]) [.axs, .cap, .dio, .engs, .fresh, .loader, .sec] d (d.debugStep e err) := by
  unfold Dev.debugStep
  refine (refuseDebug_changes d 2).within.ite (Changes.refl.ite ?_)
  extract_lets x d1
  have h1 : Changes (issueNames ++ [.SEC_CNT_DBGDENY]) [.axs, .cap, .dio, .engs, .fresh, .loader, .sec] d d1 :=
    Changes.refl.setEng.step (issue_changes _ e err)
  exact h1.setEng.evObj

theorem askCopy_changes (d : Dev) : Changes [.PAIR_CNT_RESYNC, .PAIR_STAT] [.duo, .link] d d.askCopy := Changes.refl.inside (askCopy_inside d)

theorem debugResume_changes (d : Dev) (e : Nat) :
    Changes [.PAIR_CNT_RESYNC, .PAIR_STAT, .SEC_CNT_DBGDENY] [.duo, .engs, .fresh, .link, .sec] d (d.debugResume e) := by
  unfold Dev.debugResume
  extract_lets d1
  have h1 : Changes [.PAIR_CNT_RESYNC, .PAIR_STAT, .SEC_CNT_DBGDENY] [.duo, .engs, .fresh, .link, .sec] d d1 := Changes.refl.setEng.evObj.ite .refl
  exact (refuseDebug_changes d 3).within.ite (Changes.refl.ite ((h1.step (askCopy_changes d1)).ite h1))

end Sys2Proof.Machine

namespace Sys2Proof.Machine

open Sys2Proof

/-! ### The loop levels at a release (R192 to R214) -/

/-- The registers that the release of the levels of an axis may set. -/
abbrev axisNames : List RegName := [.AXIS_DLYMAX, .AXIS_DLY_C, .AXIS_DLY_P, .AXIS_DLY_V, .AXIS_FEMAX, .AXIS_MANVAL, .AXIS_STAT, .DIO_OUT]

theorem takeAbove_changes (d : Dev) (r : AxisRec) (lvl : Nat) :
    Changes [.AXIS_DLYMAX, .AXIS_DLY_P, .AXIS_DLY_V, .AXIS_DLY_C] [.axs] d (d.takeAbove r lvl) := by
  have hs {x : Dev} (h : Changes [.AXIS_DLYMAX, .AXIS_DLY_P, .AXIS_DLY_V, .AXIS_DLY_C] [.axs] d x) (ns : Nat) :
      Changes [.AXIS_DLYMAX, .AXIS_DLY_P, .AXIS_DLY_V, .AXIS_DLY_C] [.axs] d (x.reportDelay r.axis (lvl - 1) ns) :=
    h.step (reportDelay_changes x _ _ ns)
  unfold Dev.takeAbove
  extract_lets a x l shown
  exact Changes.refl.ite ((hs .refl _).ite ((hs Changes.refl.setAxSt _).ite .refl))

theorem runLevel_changes (d : Dev) (r : AxisRec) (lvl : Nat) : Changes axisNames [.axs] d (d.runLevel r lvl) := by
  unfold Dev.runLevel
  extract_lets a e x l p inner u o openLoop step out y l1 x1 x2 d1 d2
  have h0 : Changes axisNames [.axs] d e := (takeAbove_changes d r lvl).within
  have h1 : Changes axisNames [.axs] d d1 := h0.setAxSt
  have h2 : Changes axisNames [.axs] d d2 := h1.setW1c.evObj.ite h1
  exact h2.maxReg.ite h2

theorem sampleLevels_changes (d : Dev) (r : AxisRec) (lvls : List Nat) (vel : Option Int) : Changes [] [.axs] d (d.sampleLevels r lvls vel) := by
  unfold Dev.sampleLevels
  extract_lets x pos v cur y
  exact Changes.refl.setAxSt.ite Changes.refl.setAxSt

theorem primeModel_changes (d : Dev) (a : Nat) : Changes [] [.axs] d (d.primeModel a) := Changes.refl.axs

theorem showFeedback_changes (d : Dev) (a : Nat) (fb : Bool) : Changes [.AXIS_STAT] [.axs] d (d.showFeedback a fb) := by
  unfold Dev.showFeedback
  extract_lets d1
  have h1 : Changes [.AXIS_STAT] [.axs] d d1 := Changes.refl.setFld
  exact (h1.step (updAxSt_changes _ _ _)).ite ((h1.step (primeModel_changes _ _)).ite h1)

theorem manualTurn_changes (d : Dev) (a : Nat) : Changes [.AXIS_MANVAL, .AXIS_STAT] [.axs] d (d.manualTurn a) := by
  unfold Dev.manualTurn
  extract_lets man x st
  exact (Changes.setFld (Changes.refl.setReg.step (updAxSt_changes _ _ _))).ite
    ((Changes.setFld (updAxSt_changes d _ _).within).ite .refl)

theorem supervise_changes (d : Dev) (a : Nat) (fb ran : Bool) :
    Changes [.AXIS_STAT, .DIO_OUT] [.axs, .cap, .dio, .engs] d (d.supervise a fb ran) := by
  unfold Dev.supervise
  extract_lets x react lost d0 d1 follow d2
  have h0 : Changes [.AXIS_STAT, .DIO_OUT] [.axs, .cap, .dio, .engs] d d0 := Changes.refl.setAxSt
  have h1 : Changes [.AXIS_STAT, .DIO_OUT] [.axs, .cap, .dio, .engs] d d1 := h0.evObj.ite h0
  have h2 : Changes [.AXIS_STAT, .DIO_OUT] [.axs, .cap, .dio, .engs] d d2 := h1.setFld.evObj.ite h1
  exact h2.step (reactAll_changes d2 _ _)

theorem showLimits_changes (d : Dev) (a : Nat) (ran : List Nat) : Changes [.AXIS_STAT] [] d (d.showLimits a ran) := Changes.refl.setFld.setFld

theorem countStill_changes (d : Dev) (a : Nat) : Changes [] [.axs] d (d.countStill a) := (updAxSt_changes d _ _).ite .refl

theorem axisRelease_changes (d : Dev) (ms : List AxMeas) (last : Option Nat) (a : Nat) :
    Changes axisNames [.axs, .cap, .dio, .engs, .sys] d (d.axisRelease ms last a) := by
  unfold Dev.axisRelease
  split
  · exact .refl
  extract_lets m fbIs due d1 d2 d3 posDue z d4 state d5 d6 d7
  have h1 : Changes axisNames [.axs, .cap, .dio, .engs, .sys] d d1 := (updAxSt_changes d _ _).within
  have h2 : Changes axisNames [.axs, .cap, .dio, .engs, .sys] d d2 := (h1.step (sampleLevels_changes _ _ _ _)).ite h1
  have h3 : Changes axisNames [.axs, .cap, .dio, .engs, .sys] d d3 := h2.step (showFeedback_changes _ _ _)
  have h4 : Changes axisNames [.axs, .cap, .dio, .engs, .sys] d d4 := (h3.sys.step (react_changes _ _ _ _ _)).ite h3
  have h5 : Changes axisNames [.axs, .cap, .dio, .engs, .sys] d d5 := h4.setFld.ite h4
  have h6 : Changes axisNames [.axs, .cap, .dio, .engs, .sys] d d6 := (h5.step (manualTurn_changes _ _)).step (supervise_changes _ _ _ _)
  have h7 : Changes axisNames [.axs, .cap, .dio, .engs, .sys] d d7 :=
    Changes.step (h6.each fun x l _ h => h.step (runLevel_changes x _ l)) (showLimits_changes _ _ _)
  exact h4.ite (h6.ite ((h7.step (countStill_changes _ _)).ite h7))

/-! ### The release of a task (R171, R173) -/

theorem commitParams_changes (d : Dev) (t : Nat) : Changes [] [.engs, .loader] d (d.commitParams t) := by
  unfold Dev.commitParams
  extract_lets mine d1
  have h1 : Changes [] [.engs, .loader] d d1 := Changes.refl.each fun _ _ _ h => h.setEng
  exact h1.loader

theorem deliver_changes (d : Dev) (e k : Nat) : Changes [] [.engs] d (d.deliver e k) := Changes.refl.ite Changes.refl.setEng

theorem dropRelease_changes (d : Dev) (e t : Nat) : Changes [.CE_CNT_OVR] [.engs] d (d.dropRelease e t) :=
  Changes.evObj (Changes.refl.inc.step (updStat_changes _ _ _))

theorem releaseTask_changes (d : Dev) (t : Nat) (ms : List AxMeas) :
    Changes (.CE_CNT_OVR :: axisNames) [.axs, .cap, .dio, .engs, .loader, .sys] d (d.releaseTask t ms) := by
  unfold Dev.releaseTask
  split
  · exact .refl
  next r _ =>
  extract_lets e x last z d0 d1 y i d2
  have h0 : Changes (.CE_CNT_OVR :: axisNames) [.axs, .cap, .dio, .engs, .loader, .sys] d d0 := Changes.refl.engs
  have h1 : Changes (.CE_CNT_OVR :: axisNames) [.axs, .cap, .dio, .engs, .loader, .sys] d d1 :=
    (h0.step (commitParams_changes _ _)).step (deliver_changes _ _ _)
  have h2 : Changes (.CE_CNT_OVR :: axisNames) [.axs, .cap, .dio, .engs, .loader, .sys] d d2 := h1.setEng.step (updStat_changes _ _ _)
  exact Changes.refl.ite ((h0.step (dropRelease_changes _ _ _)).ite (h2.each fun x a _ h => h.step (axisRelease_changes x ms last a)))

/-! ### The inverse kinematics of an arm (R344 to R352) -/

/-- The registers that the end of an arm's inverse kinematics may set. -/
abbrev armNames : List RegName := [.ARM_CNT, .ARM_IKRES, .ARM_POSE, .ARM_SEGCUR, .ARM_SEGDONE, .ARM_SIGMA, .ARM_STAT, .ARM_TAU, .AXIS_MOT_ACC,
  .AXIS_MOT_POS_HI, .AXIS_MOT_POS_LO, .AXIS_MOT_VEL, .AXIS_STAT, .DIO_OUT]

/-- The parts that the end of an arm's inverse kinematics may change. -/
abbrev armParts : List Part := [.arms, .axs, .cap, .dio, .engs, .fresh, .mot]

theorem armEnds_changes (d : Dev) (m : Nat) : Changes [.ARM_CNT, .ARM_SEGDONE] [.arms] d (d.armEnds m) := by
  unfold Dev.armEnds
  extract_lets s
  refine Changes.refl.setArm.each fun x e _ h => ?_
  extract_lets d1 d2
  have h1 : Changes [.ARM_CNT, .ARM_SEGDONE] [.arms] d d1 := h.setReg
  have h2 : Changes [.ARM_CNT, .ARM_SEGDONE] [.arms] d d2 := h1.evObj.ite h1
  exact h2.bump.evObj.ite h2

theorem armPose_changes (d : Dev) (m : Nat) (p : PoseM) : Changes [.ARM_POSE] [.arms] d (d.armPose m p) :=
  Changes.each Changes.refl.setArm fun _ _ _ h => h.setRegI

theorem armShow_changes (d : Dev) (m : Nat) : Changes [.ARM_SEGCUR, .ARM_STAT, .ARM_TAU] [] d (d.armShow m) := by
  unfold Dev.armShow
  extract_lets s d1
  have h1 : Changes [.ARM_SEGCUR, .ARM_STAT, .ARM_TAU] [] d d1 := Changes.refl.setFld.setFld
  split
  · exact h1.setReg.setReg
  · exact h1.setReg.setReg

theorem armStop_changes (d : Dev) (m code cause axCause : Nat) : Changes armNames armParts d (d.armStop m code cause axCause) := by
  unfold Dev.armStop
  split
  · exact .refl
  next r _ =>
  extract_lets s d1 s1 s2 d2 d3
  have h1 : Changes armNames armParts d d1 := Changes.setFld (e := d.setArmState m 5) Changes.refl.setFld
  have h2 : Changes armNames armParts d d2 :=
    h1.setArm.each fun x a _ h => h.ite ((h.step (react_changes x a _ _ _)).ite h)
  have h3 : Changes armNames armParts d d3 := (h2.each fun _ _ _ h => h.setMs).ite h2
  exact Changes.refl.ite (h3.axs.step (armShow_changes _ _))

theorem armIssue_changes (d : Dev) (m : Nat) (r : ArmRec) (q : List Int) (pose : PoseM) (bad : Bool) :
    Changes armNames armParts d (d.armIssue m r q pose bad) := by
  unfold Dev.armIssue
  extract_lets s vels checks q1 moved rate tr d1 d2 d3 slow fast d4 d5
  have h1 : Changes armNames armParts d d1 := Changes.refl.setArm
  have h2 : Changes armNames armParts d d2 := h1.each fun x e _ h => h.step (storeSp_changes x _ _)
  have h3 : Changes armNames armParts d d3 := h2.step (armPose_changes _ _ _)
  have h4 : Changes armNames armParts d d4 := h3.each fun _ _ _ h => h.evObj
  have h5 : Changes armNames armParts d d5 := h4.each fun _ _ _ h => h.evObj
  have hs (code cause ax : Nat) : Changes armNames armParts d (d5.armStop m code cause ax) := h5.step (armStop_changes _ _ _ _ _)
  exact (hs _ _ _).ite ((hs _ _ _).ite ((hs _ _ _).ite (h5.step (armEnds_changes _ _))))

theorem ikWords_changes (d : Dev) (m mem : Nat) : Changes [] [.engs, .fresh] d (d.ikWords m mem) := by
  unfold Dev.ikWords
  extract_lets e base x ws put
  exact Changes.refl.setEng.fresh

theorem ikRun_changes (d : Dev) (m : Nat) : Changes armNames armParts d (d.ikRun m) := by
  unfold Dev.ikRun
  split
  · dsimp -zeta only
    extract_lets s p seed tol bad n sing st d0 d1 d2 d3 d4 stop d5
    have h0 : Changes armNames armParts d d0 := Changes.refl.setArm.step (ikWords_changes _ _ _)
    have h1 : Changes armNames armParts d d1 := h0.setFld.setFld.setReg
    have h2 : Changes armNames armParts d d2 := h1.evObj.ite h1
    have h3 : Changes armNames armParts d d3 := h2.setFld
    have h4 : Changes armNames armParts d d4 := h3.bump.ite h3
    have h5 : Changes armNames armParts d d5 := h4.evObj.ite h4
    exact h5.step (armIssue_changes _ _ _ _ _ _)
  · exact .refl

end Sys2Proof.Machine

namespace Sys2Proof.Machine

open Sys2Proof

/-! ### The legs of an axis (R239 to R243) -/

theorem legForm_changes (d : Dev) (k : Nat) : Changes [.PWM_LEG_ACC, .PWM_LEG_CNT, .PWM_LEG_STAT] [.pwm] d (d.legForm k) := by
  unfold Dev.legForm
  dsimp -zeta only
  extract_lets c x st hl lh per u centre g skip cnt d1 d2 d3
  have h1 : Changes [.PWM_LEG_ACC, .PWM_LEG_CNT, .PWM_LEG_STAT] [.pwm] d d1 := Changes.refl.pwm
  have h2 : Changes [.PWM_LEG_ACC, .PWM_LEG_CNT, .PWM_LEG_STAT] [.pwm] d d2 := h1.ite (h1.bump.ite h1.setFld)
  have h3 : Changes [.PWM_LEG_ACC, .PWM_LEG_CNT, .PWM_LEG_STAT] [.pwm] d d3 := h2.setFld.setFld.setFld.setReg
  exact h3.emit

theorem clearAcc_changes (d : Dev) (k : Nat) : Changes [.PWM_LEG_ACC, .PWM_LEG_CNT, .PWM_LEG_STAT] [.pwm] d (d.clearAcc k) := by
  unfold Dev.clearAcc
  extract_lets d1
  have h1 : Changes [.PWM_LEG_ACC, .PWM_LEG_CNT, .PWM_LEG_STAT] [.pwm] d d1 := Changes.refl.setReg
  exact Changes.ite (Changes.step h1.setLeg (legForm_changes _ k)) h1

theorem legAnew_changes (d : Dev) (k : Nat) : Changes [.PWM_LEG_ACC, .PWM_LEG_CNT, .PWM_LEG_STAT] [.pwm] d (d.legAnew k) :=
  Changes.step (Changes.setFld (Changes.setFld (Changes.setFld Changes.refl.setLeg))) (clearAcc_changes _ k)

theorem legsEnable_changes (d : Dev) (l0 : Nat) : Changes [.PWM_LEG_ACC, .PWM_LEG_CNT, .PWM_LEG_STAT] [.pwm] d (d.legsEnable l0) :=
  Changes.refl.each fun _ k _ h => Changes.step h.setLeg (legAnew_changes _ k)

/-! ### The permit of a safe axis (R219, R431) -/

theorem startMsg_changes (d : Dev) (c : Nat) (now : Bool) : Changes [] [.safe] d (d.startMsg c now) := by
  unfold Dev.startMsg
  split
  · exact .refl
  · refine Changes.refl.ite ?_
    extract_lets x ks run on fack flags m fs d1
    have h1 : Changes [] [.safe] d d1 := Changes.refl.safe
    exact h1.each fun _ _ _ h => h.safe

theorem setPermit_changes (d : Dev) (k : Nat) (on : Bool) : Changes [.SAFE_SA_STAT] [.safe] d (d.setPermit k on) := by
  unfold Dev.setPermit
  extract_lets x d1
  have h1 : Changes [.SAFE_SA_STAT] [.safe] d d1 := Changes.refl.setFld.safe
  refine Changes.refl.ite ?_
  split
  · exact h1
  · exact h1.emit.ite (h1.ite (h1.step (startMsg_changes _ _ _)))

theorem saSto_changes (d : Dev) (k fn : Nat) :
    Changes [.AXIS_STAT, .DIO_OUT, .SAFE_SA_STAT] [.axs, .cap, .dio, .engs, .safe] d (d.saSto k fn) := by
  unfold Dev.saSto
  extract_lets r d1 x d2
  have h1 : Changes [.AXIS_STAT, .DIO_OUT, .SAFE_SA_STAT] [.axs, .cap, .dio, .engs, .safe] d d1 := Changes.refl.setFld.setFld.setFld
  have h2 : Changes [.AXIS_STAT, .DIO_OUT, .SAFE_SA_STAT] [.axs, .cap, .dio, .engs, .safe] d d2 :=
    Changes.evObj (Changes.step h1.setSax (setPermit_changes _ _ _))
  split
  · exact (h2.step (react_changes d2 _ _ _ _)).axs
  · exact h2

theorem saFault_changes (d : Dev) (k kind : Nat) :
    Changes [.AXIS_STAT, .DIO_OUT, .SAFE_SA_STAT] [.axs, .cap, .dio, .engs, .safe] d (d.saFault k kind) := by
  unfold Dev.saFault
  extract_lets r x d1
  have h1 : Changes [.AXIS_STAT, .DIO_OUT, .SAFE_SA_STAT] [.axs, .cap, .dio, .engs, .safe] d d1 := Changes.refl.setFld.safe.evObj
  exact Changes.refl.ite (h1.ite (h1.step (saSto_changes _ _ _)))

theorem grantPermit_changes (d : Dev) (a : Nat) : Changes [.SAFE_SA_STAT] [.safe] d (d.grantPermit a) := by
  unfold Dev.grantPermit
  split
  · exact setPermit_changes d _ _
  · exact .refl

theorem dropPermit_changes (d : Dev) (a : Nat) : Changes [.SAFE_SA_STAT] [.safe] d (d.dropPermit a) := by
  unfold Dev.dropPermit
  split
  · exact setPermit_changes d _ _
  · exact .refl

/-! ### Writes of AXIS_CTL (R214 to R222) -/

/-- The registers that a write of AXIS_CTL may set. -/
abbrev axCtlNames : List RegName := [.AXIS_CTL, .AXIS_MOT_ACC, .AXIS_MOT_POS_HI, .AXIS_MOT_POS_LO, .AXIS_MOT_STAT, .AXIS_MOT_VEL, .AXIS_STAT,
  .DIO_OUT, .GORSE_STAT, .PWM_LEG_ACC, .PWM_LEG_CNT, .PWM_LEG_STAT, .SAFE_SA_STAT]

/-- The parts that a write of AXIS_CTL may change. -/
abbrev axCtlParts : List Part := [.axs, .cap, .dio, .engs, .fresh, .mot, .pwm, .safe]

theorem motEnable_changes (d : Dev) (a : Nat) : Changes axCtlNames axCtlParts d (d.motEnable a) := by
  unfold Dev.motEnable
  extract_lets x d1
  have h1 : Changes axCtlNames axCtlParts d d1 := Changes.refl.setMs.setReg
  exact (h1.setSrc.step (storeSp_changes _ _ _)).updAxSt

theorem motDisable_changes (d : Dev) (a : Nat) : Changes [.AXIS_MOT_STAT] [.mot] d (d.motDisable a) := by
  unfold Dev.motDisable
  extract_lets d1
  have h1 : Changes [.AXIS_MOT_STAT] [.mot] d d1 := Changes.refl.inside (gearOff_inside d a)
  exact h1.setMs.setSrc

theorem enableAxis_changes (d : Dev) (a : Nat) : Changes axCtlNames axCtlParts d (d.enableAxis a) := by
  unfold Dev.enableAxis
  extract_lets pos d1 d2 d3
  have h1 : Changes axCtlNames axCtlParts d d1 := Changes.refl.updAxSt.step (primeModel_changes _ _)
  have h2 : Changes axCtlNames axCtlParts d d2 := by
    unfold d2
    split
    · exact (h1.step (legsEnable_changes _ _)).ite h1
    · exact h1
  have h3 : Changes axCtlNames axCtlParts d d3 := (h2.setFld.step (motEnable_changes _ _)).step (grantPermit_changes _ _)
  exact h3.evObj

theorem disableAxis_changes (d : Dev) (a : Nat) : Changes axCtlNames axCtlParts d (d.disableAxis a) := by
  unfold Dev.disableAxis
  extract_lets d1
  have h1 : Changes axCtlNames axCtlParts d d1 := ((outputsZero_changes d a).within.updAxSt).setFld
  exact ((h1.step (motDisable_changes _ _)).step (dropPermit_changes _ _)).evObj

theorem clrFlt_changes (d : Dev) (a : Nat) : Changes [.AXIS_MOT_STAT, .AXIS_STAT] [] d (d.clrFlt a) := by
  unfold Dev.clrFlt
  extract_lets st on follows implausible d1 d2 d3
  have h1 : Changes [.AXIS_MOT_STAT, .AXIS_STAT] [] d d1 := Changes.refl.setFld
  have h2 : Changes [.AXIS_MOT_STAT, .AXIS_STAT] [] d d2 := h1.ite h1.setFld
  have h3 : Changes [.AXIS_MOT_STAT, .AXIS_STAT] [] d d3 := h2.ite h2.setFld
  exact h3.ite h3.setFld.setFld.setFld

theorem transferLaw_changes (d : Dev) (a : Nat) (l : List Nat) : Changes [] [.axs] d (d.transferLaw a l) := updAxSt_changes d _ _

theorem axCtlDo_changes (d : Dev) (a : Nat) (old new w : Word) : Changes axCtlNames axCtlParts d (d.axCtlDo a old new w) := by
  unfold Dev.axCtlDo
  extract_lets d1 d2
  have h1 : Changes axCtlNames axCtlParts d d1 := ((enableAxis_changes d a).ite (disableAxis_changes d a)).ite .refl
  have h2 : Changes axCtlNames axCtlParts d d2 := (h1.step (transferLaw_changes _ _ _)).ite h1
  exact (h2.step (clrFlt_changes _ _)).ite h2

/-- What a refused write of EN leaves (R432, R398). -/
theorem enableRefused_changes (d : Dev) (a : Nat) : Changes axCtlNames axCtlParts d (d.enableRefused a) := by
  unfold Dev.enableRefused
  split
  · exact .refl
  · split
    · split
      · exact (saFault_changes d _ _).within
      · exact .refl
    · exact Changes.refl.setFld.ite .refl

theorem axisWrite_changes (d : Dev) (ses a : Nat) (w : Word) : Changes axCtlNames axCtlParts d (d.hostWrite ses (R.AXIS_CTL a) w) := by
  refine hostWrite_changes (RegName.sole_of_lone (lone_of_mem (by decide))) rfl rfl fun i j => ?_
  refine writeWord_changes (by decide) (by decide) (fun old new => ?_) fun _ => enableRefused_changes d i
  have h : Changes axCtlNames axCtlParts d (d.setReg ⟨.AXIS_CTL, i, j⟩ new) := Changes.refl.setReg
  rcases regDo_cases (d.setReg ⟨.AXIS_CTL, i, j⟩ new) ses ⟨.AXIS_CTL, i, j⟩ old new w with hr | hr | hr | hr <;> rw [hr]
  · exact h.step (axCtlDo_changes _ i old new w)
  · exact h
  · exact h
  · exact h

/-! ### Writes of LVL_CFG and FLT_CFG (R198, R199) -/

theorem lawWrite_changes (d : Dev) (ses a lvl : Nat) (w : Word) : Changes [.LVL_CFG] [.axs] d (d.hostWrite ses (R.LVL_CFG a lvl) w) := by
  refine hostWrite_changes lvlCfg_sole rfl rfl fun i j => ?_
  refine writeWord_changes (by decide) (by decide) (fun old new => ?_) (by simp)
  have h : Changes [.LVL_CFG] [.axs] d (d.setReg ⟨.LVL_CFG, i, j⟩ new) := Changes.refl.setReg
  rcases regDo_cases (d.setReg ⟨.LVL_CFG, i, j⟩ new) ses ⟨.LVL_CFG, i, j⟩ old new w with hr | hr | hr | hr <;> rw [hr]
  · exact (h.step (transferLaw_changes _ i [j])).ite h
  · exact h
  · exact h
  · exact h

theorem filterWrite_changes (d : Dev) (ses a k : Nat) (w : Word) :
    Changes [.FLT_A1, .FLT_A2, .FLT_B0, .FLT_B1, .FLT_B2, .FLT_CFG] [.axs] d (d.hostWrite ses (R.FLT_CFG a k) w) := by
  refine hostWrite_changes fltCfg_sole rfl rfl fun i j => ?_
  unfold Dev.writeWord
  extract_lets x old new none_ gate st
  split
  · exact .refl
  split
  · exact .refl
  · dsimp only
    split
    · exact filterCommit_changes d i j w
    · exact .refl

/-! ### The samples and takes of an axis (R203 to R212, R290) -/

/-- The registers that the end of a stop may set. -/
abbrev stopNames : List RegName := [.AXIS_MOT_ACC, .AXIS_MOT_POS_HI, .AXIS_MOT_POS_LO, .AXIS_MOT_STAT, .AXIS_MOT_VEL, .AXIS_STAT, .DIO_OUT]

/-- The parts that the end of a stop may change. -/
abbrev stopParts : List Part := [.axs, .cap, .dio, .engs, .fresh, .mot]

theorem stopComplete_changes (d : Dev) (a : Nat) : Changes stopNames stopParts d (d.stopComplete a) := by
  unfold Dev.stopComplete
  extract_lets d1 x d2
  have h1 : Changes stopNames stopParts d d1 := Changes.refl.setFld.updAxSt
  have h2 : Changes stopNames stopParts d d2 := h1.ite (h1.setMs.setSrc.step (storeSp_changes _ _ _))
  exact h2.evObj.ite .refl

theorem plausible_changes (d : Dev) (a : Nat) :
    Changes [.AXIS_PRES, .AXIS_PRESMAX, .AXIS_STAT, .DIO_OUT] [.axs, .cap, .dio, .engs] d (d.plausible a) := by
  unfold Dev.plausible
  split
  · exact .refl
  · dsimp -zeta only
    extract_lets cfg model st x next res n fires d1
    have h1 : Changes [.AXIS_PRES, .AXIS_PRESMAX, .AXIS_STAT, .DIO_OUT] [.axs, .cap, .dio, .engs] d d1 := Changes.refl.setAxSt.setReg.maxReg
    exact Changes.refl.ite (Changes.refl.setAxSt.ite ((h1.setFld.evObj.step (react_changes _ _ _ _ _)).ite h1))

/-- The registers that the take of a class F output may set, its legs' apart. -/
abbrev classFNames : List RegName := [.AXIS_DLYMAX, .AXIS_DLY_C, .AXIS_DLY_P, .AXIS_DLY_V, .AXIS_STAT, .DIO_OUT]

theorem classFTake_changes (d : Dev) (a lvl : Nat) : Changes classFNames [.axs, .cap, .dio, .engs] d (d.classFTake a lvl) := by
  unfold Dev.classFTake
  split
  · exact .refl
  · extract_lets start ph x l set n d1
    have hs (y : LevelSt) : Changes classFNames [.axs, .cap, .dio, .engs] d (set y) := Changes.refl.setAxSt
    have h1 : Changes classFNames [.axs, .cap, .dio, .engs] d d1 := (hs _).bump.evObj
    exact Changes.refl.ite (((hs _).step (reportDelay_changes _ _ _ _)).ite ((hs _).ite ((h1.step (react_changes _ _ _ _ _)).ite h1)))

theorem commitPair_changes (d : Dev) (k : Nat) (pair : Nat × Nat) : Changes [.PWM_LEG_CNT] [.pwm] d (d.commitPair k pair) := by
  unfold Dev.commitPair
  extract_lets x late
  have h : Changes [.PWM_LEG_CNT] [.pwm] d (d.setLeg k (x.commit d.clk pair)) := Changes.refl.setLeg
  exact h.when h.bump

theorem takeDuty_changes (d : Dev) (k : Nat) : Changes [.PWM_LEG_CNT] [.pwm] d (d.takeDuty k) := by
  unfold Dev.takeDuty
  refine Changes.refl.ite ?_
  split
  · exact .refl
  · exact commitPair_changes d k _

theorem outputTake_changes (d : Dev) (a lvl : Nat) :
    Changes (classFNames ++ [.PWM_LEG_CNT]) [.axs, .cap, .dio, .engs, .pwm] d (d.outputTake a lvl) := by
  unfold Dev.outputTake
  extract_lets fresh d1 l
  have h1 : Changes (classFNames ++ [.PWM_LEG_CNT]) [.axs, .cap, .dio, .engs, .pwm] d d1 := (classFTake_changes d a lvl).within
  split
  · exact (h1.each fun x k _ h => h.step (takeDuty_changes x k)).ite h1
  · exact h1

end Sys2Proof.Machine

namespace Sys2Proof.Machine

open Sys2Proof

/-! ### The items and actions of a downstream take (R361, R376 to R380) -/

namespace Changes

variable {l : List RegName} {ps : List Part} {d e : Dev} {b : Bool}

theorem setAct (h : Changes l ps d e b) {i : Nat} {x : ActSt} : Changes l ps d (e.setAct i x) (ps.contains .tall && b) := h.tall

theorem setTo (h : Changes l ps d e b) {o : Nat} {x : ToSt} : Changes l ps d (e.setTo o x) (ps.contains .tall && b) := h.tall

theorem actEv (h : Changes l ps d e b) {c k : Nat} {x : ActSt} {w : List Word} : Changes l ps d (e.actEv c k x w) b := h.evObj

end Changes

theorem lateWrap_changes (d : Dev) (x : ActSt) (pos : Int) : Changes [.TALL_CNT_LATE] [] d (d.lateWrap x pos) :=
  Changes.refl.inc.actEv.ite .refl

theorem crossed_changes (d : Dev) (i ns : Nat) (pos : Int) : Changes [.TALL_CNT_LATE] [.tall] d (d.crossed i ns pos) := by
  unfold Dev.crossed
  split
  · exact .refl
  · extract_lets f d1
    have h1 : Changes [.TALL_CNT_LATE] [.tall] d d1 := Changes.refl.setAct.ite .refl
    exact (Changes.refl.setAct.step (lateWrap_changes _ _ _)).ite h1.setTall

theorem scan_changes (d : Dev) (t : Nat) : Changes [.TALL_CNT_LATE] [.tall] d (d.scan t) := by
  unfold Dev.scan
  refine Changes.refl.ite ?_
  extract_lets +onlyGivenNames x now
  split
  · exact Changes.refl.setTall
  · extract_lets +onlyGivenNames dp v t0 cs y d1
    have h1 : Changes [.TALL_CNT_LATE] [.tall] d d1 := Changes.refl.setTall
    exact h1.each fun x c _ h => h.step (crossed_changes x _ _ _)

theorem scanAll_changes (d : Dev) : Changes [.TALL_CNT_LATE] [.tall] d d.scanAll := Changes.refl.each fun x t _ h => h.step (scan_changes x t)

/-- The registers of the actions' outputs that a take may set. -/
abbrev toNames : List RegName := [.TALL_CNT_TOBUSY, .TALL_CNT_TOLATE, .TALL_TO_CNT]

theorem toWait_changes (d : Dev) (o a : Nat) : Changes toNames [.tall] d (d.toWait o a) := by
  unfold Dev.toWait
  split
  · exact Changes.refl.ite (Changes.refl.setAct.ite Changes.refl.setAct.inc.bump.actEv)
  · exact .refl

theorem toSend_changes (d : Dev) (o i : Nat) (x : ActSt) (tf take hor path : Nat) (valid final : Bool) :
    Changes toNames [.tall] d (d.toSend o i x tf take hor path valid final) := by
  unfold Dev.toSend
  extract_lets s same token commits late y d1
  have h1 : Changes toNames [.tall] d d1 := Changes.refl.setAct.setTo
  exact h1.inc.bump.actEv.ite h1

theorem toTake_changes (d : Dev) (o p i take : Nat) : Changes toNames [.tall] d (d.toTake o p i take) := by
  unfold Dev.toTake
  extract_lets +onlyGivenNames hor path valid mine cands due s occupied idle repeated
  refine Changes.ite (Changes.refl.setTo.each fun x _ _ h => h.step (toWait_changes x _ _)) ?_
  extract_lets +onlyGivenNames d0
  have h0 : Changes toNames [.tall] d d0 := by
    unfold d0
    split
    · split
      · exact Changes.refl.setAct.setTo.ite .refl
      · exact Changes.refl.setTo
    · exact .refl
  clear_value d0
  split
  · extract_lets +onlyGivenNames d1 d2 final
    have h1 : Changes toNames [.tall] d d1 := by
      unfold d1
      split
      · refine h0.ite ?_
        split
        · exact h0.setAct.ite h0
        · exact h0
      · exact h0
    have h2 : Changes toNames [.tall] d d2 := h1.each fun x _ _ h => h.step (toWait_changes x _ _)
    exact h2.setTo.step (toSend_changes _ _ _ _ _ _ _ _ _ _)
  · split
    · exact h0.setTo
    · exact h0.setTo

/-- The registers of the delays that a take shows (R212). -/
abbrev delayNames : List RegName := [.AXIS_DLYCYC, .AXIS_DLYMAX, .AXIS_DLY_C, .AXIS_DLY_P, .AXIS_DLY_V]

/-- The registers that a downstream take may set. -/
abbrev takeNames : List RegName := [.AXIS_DLYCYC, .AXIS_DLYMAX, .AXIS_DLY_C, .AXIS_DLY_P, .AXIS_DLY_V, .DIO_OUT, .TALL_CNT_LATE, .TALL_CNT_TOBUSY,
  .TALL_CNT_TOLATE, .TALL_TO_CNT, .TALL_TO_TFIRE]

/-- The parts that a downstream take may change. -/
abbrev takeParts : List Part := [.cap, .dio, .engs, .fresh, .line, .link, .safe, .tall]

/-- The block of a slot as the take forms it: the delays of late outputs are shown, and the safety fragments go out. -/
theorem slotTake_changes (d : Dev) (p i : Nat) (block : List Byte) (late : List AxisRec) {g : Dev → AxisRec → Dev}
    (hg : ∀ x a, Changes delayNames [] x (g x a)) : Changes delayNames [.safe] d ((d.each late g).safeBlock p i block).1 :=
  Changes.inside (Changes.refl.each fun x a _ h => h.step (hg x a)) (safeBlock_inside _ p i block)

theorem downstreamTake_changes (d : Dev) (p : Nat) (relayed : Bool) : Changes takeNames takeParts d (d.downstreamTake p relayed) := by
  unfold Dev.downstreamTake
  extract_lets +onlyGivenNames per cs take key
  refine Changes.refl.ite ?_
  extract_lets +onlyGivenNames slots x d0 d1
  have h0 : Changes takeNames takeParts d d0 := Changes.refl.setTall.step (scanAll_changes _)
  have h1 : Changes takeNames takeParts d d1 := by
    refine h0.each fun e a _ h => ?_
    split
    · next r _ =>
      split
      · extract_lets e2 st put
        have he : Changes takeNames takeParts d e2 := h.step (toTake_changes _ _ _ _ _)
        have hput {y : Dev} (hy : Changes takeNames takeParts d y) (w v : Nat) : Changes takeNames takeParts d (put y w v) := by
          unfold put
          split
          · exact hy.step (chanStore_changes _ _ _ _ _)
          · exact hy
        exact (hput (hput he _ _) _ _).setReg
      · exact h
    · exact h
  clear_value d1
  extract_lets +onlyGivenNames d2
  have h2 : Changes takeNames takeParts d d2 := by
    refine h1.each fun e i _ h => ?_
    split
    · exact h
    · next r hr =>
      extract_lets ms word ok late f sb f1
      have hs : Changes takeNames takeParts d sb.1 := by
        refine h.step (slotTake_changes e p i (le 12 word) late fun y a => ?_)
        extract_lets fresh
        split
        · split
          · exact (reportDelay_changes _ _ _ _).within
          · exact .refl
        · exact Changes.refl.bump
      have hf : Changes takeNames takeParts d f1 := hs.line
      exact hf.each fun _ _ _ h => h.engs
  clear_value d2
  exact (h2.step (linkSend_changes _ _ _)).ite h2

/-! ### The commit of an activation, the release of a task and the issue of a bundle -/

/-- A commit may change every register, and every part beside the clock and the filters of the input lines. -/
theorem activationCommit_frame (s : State) : Frame .activationCommit s (fun _ => True) [.arms, .axs, .can, .cap, .dio, .duo, .engs, .fbk, .fresh,
    .gorse, .line, .link, .loader, .mot, .pwm, .safe, .sec, .sys, .tall, .time] := by
  obtain ⟨hclk, hfil⟩ := activationCommit_clk_fil s.start
  refine frame_of_effect (f := Dev.activationCommit) rfl (fun _ h => absurd trivial h) (fun p hp => ?_) rfl
  cases p
  case clk => exact hclk
  case fil => exact hfil
  all_goals exact absurd (by decide) hp

/-- The registers that the release of a task may set. -/
abbrev releaseNames : List RegName := [.ARM_CNT, .ARM_IKRES, .ARM_POSE, .ARM_SEGCUR, .ARM_SEGDONE, .ARM_SIGMA, .ARM_STAT, .ARM_TAU, .AXIS_DLYMAX,
  .AXIS_DLY_C, .AXIS_DLY_P, .AXIS_DLY_V, .AXIS_FEMAX, .AXIS_MANVAL, .AXIS_MOT_ACC, .AXIS_MOT_POS_HI, .AXIS_MOT_POS_LO, .AXIS_MOT_VEL, .AXIS_STAT,
  .CE_CNT_OVR, .DIO_OUT]

/-- What TASK_RELEASE does (R171, R352): the arms of a released task run their inverse kinematics. -/
def Dev.taskReleased (d : Dev) (t : Nat) (ms : List AxMeas) : Dev :=
  let d1 := d.releaseTask t ms
  if (d1.tstat t).lastRel == (d.tstat t).lastRel then d1 else d1.each (d1.armsOfTask t) (fun d m => d.ikRun m)

theorem taskReleased_changes (d : Dev) (t : Nat) (ms : List AxMeas) :
    Changes releaseNames [.arms, .axs, .cap, .dio, .engs, .fresh, .loader, .mot, .sys] d (d.taskReleased t ms) := by
  unfold Dev.taskReleased
  extract_lets d1
  have h1 : Changes releaseNames [.arms, .axs, .cap, .dio, .engs, .fresh, .loader, .mot, .sys] d d1 := (releaseTask_changes d t ms).within
  exact h1.ite (h1.each fun x m _ h => h.step (ikRun_changes x m))

/-- What BUNDLE_ISSUE does (R155, R606): a breakpoint halts the engine, else it issues. -/
def Dev.bundleIssued (d : Dev) (e : Nat) (err : Option (Nat × Nat × Bool)) : Dev :=
  let x := d.eng e
  if x.halted || d.engineOff e then d
  else
    let here := match pickInst x.insts with
      | some i => if i.begun then some (tget x.ctxs i.ctx {}).pc else
          (match d.taskRec i.task with | some t => some (t.entry / 8) | none => none)
      | none => none
    match here with
    | some pc =>
      if x.breaks.contains pc && !x.pass then d.haltEngine e
      else (d.setEng e { x with pass := false }).issue e err
    | none => d

theorem bundleIssued_changes (d : Dev) (e : Nat) (err : Option (Nat × Nat × Bool)) :
    Changes issueNames [.axs, .cap, .dio, .engs, .fresh, .loader] d (d.bundleIssued e err) := by
  refine Changes.refl.ite ?_
  split
  · exact Changes.ite (haltEngine_changes d e).within (Changes.refl.setEng.step (issue_changes _ e err))
  · exact .refl

/-! ### The frame of the group (R140, R175, R184, R214, R222) -/

theorem imageWrite_frame {i : Instr} (s : State) (ses : Nat) (w : Word) (hi : exec i s = s.run fun d => d.hostWrite ses R.FAB_IMG_CTL w) :
    Frame i s (Named [.FAB_IMG_CTL, .FAB_IMG_STAT]) [.loader] := frame_of_run hi (fun d => imageWrite_changes d ses w) rfl

theorem engineWrite_frame {i : Instr} (s : State) (ses e : Nat) (w : Word)
    (hi : exec i s = s.runIf (decide (e < 16)) fun d => d.hostWrite ses (R.CE_CTL e) w) : Frame i s (Named [.CE_CTL, .CE_UTIL]) [.engs] :=
  frame_of_runIf hi (fun d => engineWrite_changes d ses e w) rfl

theorem axisWrite_frame {i : Instr} (s : State) (ses a : Nat) (w : Word)
    (hi : exec i s = s.runIf (decide (a < 8192)) fun d => d.hostWrite ses (R.AXIS_CTL a) w) : Frame i s (Named axCtlNames) axCtlParts :=
  frame_of_runIf hi (fun d => axisWrite_changes d ses a w) rfl

/-- Settles O55: each command's effect changes at most what is named for it, and what follows the effect is the frame's own. -/
theorem engineFrame : Obligations.EngineFrame := fun s =>
  ⟨frame_of_run rfl bootCheck_changes rfl,
   fun ses w => imageWrite_frame s ses (putF w F.FAB_IMG_CTL.CHECK 1) rfl,
   frame_of_run rfl checkComplete_changes rfl,
   fun ses w => imageWrite_frame s ses (putF w F.FAB_IMG_CTL.ACTIVATE 1) rfl,
   fun ses w => imageWrite_frame s ses (putF w F.FAB_IMG_CTL.ERASE 1) rfl,
   frame_of_run rfl keepCheck_changes rfl,
   frame_of_run rfl activationSwitch_changes rfl,
   activationCommit_frame s,
   frame_of_run rfl activationRelease_changes rfl,
   fun ses e mem a w => frame_of_runIf (f := fun d => d.paramsWrite ses e mem a w) rfl (fun d => paramsWrite_changes d ses e mem a w) rfl,
   fun t ms => frame_of_runIf (f := fun d => d.taskReleased t (measures ms)) rfl (fun d => taskReleased_changes d t (measures ms)) rfl,
   fun e err => frame_of_runIf (f := fun d => d.bundleIssued e err) rfl (fun d => bundleIssued_changes d e err) rfl,
   fun t => frame_of_runIf (f := fun d => d.deadline t) rfl (fun d => deadline_changes d t) rfl,
   fun ses e w => engineWrite_frame s ses e (putF w F.CE_CTL.RESUME 1) rfl,
   fun ses e w => engineWrite_frame s ses e (putF w F.CE_CTL.CLRMAX 1) rfl,
   fun e err => frame_of_runIf (f := fun d => d.debugStep e err) rfl (fun d => debugStep_changes d e err) rfl,
   fun e => frame_of_runIf (f := fun d => d.debugResume e) rfl (fun d => debugResume_changes d e) rfl,
   fun ses a w => axisWrite_frame s ses a (putF w F.AXIS_CTL.EN 1) rfl,
   fun ses a w => axisWrite_frame s ses a (putF w F.AXIS_CTL.EN 0) rfl,
   fun ses a w => axisWrite_frame s ses a (putF w F.AXIS_CTL.MAN 1) rfl,
   fun ses a w => axisWrite_frame s ses a (putF w F.AXIS_CTL.MAN 0) rfl,
   fun ses a w => axisWrite_frame s ses a w rfl,
   fun ses a lvl w => frame_of_runIf (f := fun d => d.hostWrite ses (R.LVL_CFG a lvl) w) rfl (fun d => lawWrite_changes d ses a lvl w) rfl,
   fun ses a w => axisWrite_frame s ses a (putF w F.AXIS_CTL.CLRFLT 1) rfl,
   fun ses a k w => frame_of_runIf (f := fun d => d.hostWrite ses (R.FLT_CFG a k) w) rfl (fun d => filterWrite_changes d ses a k w) rfl,
   fun a => frame_of_runIf (f := fun d => d.stopComplete a) rfl (fun d => stopComplete_changes d a) rfl,
   fun a => frame_of_runIf (f := fun d => d.plausible a) rfl (fun d => plausible_changes d a) rfl,
   fun a lvl => frame_of_runIf (f := fun d => d.outputTake a lvl) rfl (fun d => outputTake_changes d a lvl) rfl,
   fun p relayed => frame_of_runIf (f := fun d => d.downstreamTake p relayed) rfl (fun d => downstreamTake_changes d p relayed) rfl⟩

end Sys2Proof.Machine

namespace Sys2Proof.Machine

open Sys2Proof

/-! ### Reading the state of an engine and the figures of a task -/

theorem Dev.eng_setEng (d : Dev) (n m : Nat) (x : EngSt) : (d.setEng n x).eng m = if n = m then x else d.eng m :=
  tget_tset d.engs.eng n m x {}

@[simp] theorem Dev.eng_setEng_same (d : Dev) (n : Nat) (x : EngSt) : (d.setEng n x).eng n = x := tget_tset_same _ _ _ _

@[simp] theorem Dev.eng_updStat (d : Dev) (t n : Nat) (f : TaskStat → TaskStat) : (d.updStat t f).eng n = d.eng n := rfl

theorem Dev.tstat_updStat (d : Dev) (t u : Nat) (f : TaskStat → TaskStat) :
    (d.updStat t f).tstat u = if t = u then f (d.tstat t) else d.tstat u := tget_tset d.engs.stat t u (f (d.tstat t)) {}

@[simp] theorem Dev.tstat_updStat_same (d : Dev) (t : Nat) (f : TaskStat → TaskStat) : (d.updStat t f).tstat t = f (d.tstat t) :=
  tget_tset_same _ _ _ _

theorem Follows.eng {d e : Dev} (h : Follows d e) (n : Nat) : e.eng n = d.eng n := by simp only [Dev.eng, h.kept.engs]

theorem Follows.tstat {d e : Dev} (h : Follows d e) (t : Nat) : e.tstat t = d.tstat t := by simp only [Dev.tstat, h.kept.engs]

theorem taskRec_task {d : Dev} {t : Nat} {r : TaskRec} (h : d.taskRec t = some r) : r.task = t := by
  simpa using List.find?_some h

/-- `Changes.reg_apart` with the name split off, so that its condition is closed where the numbers of the register are not. -/
theorem Changes.reg_name {l : List RegName} {ps : List Part} {d e : Dev} (h : Changes l ps d e) {n : RegName} {i j : Nat}
    (hn : l.all (fun m => n.info.apart m.info) = true) : e.reg ⟨n, i, j⟩ = d.reg ⟨n, i, j⟩ := h.reg_apart _ hn

theorem Changes.fld_name {l : List RegName} {ps : List Part} {d e : Dev} (h : Changes l ps d e) {n : RegName} {i j : Nat} {g : Fld}
    (hn : l.all (fun m => n.info.apart m.info) = true) : e.fld ⟨n, i, j⟩ g = d.fld ⟨n, i, j⟩ g := h.fld_apart _ g hn

/-! ### Engines that stand but for their data memories -/

/-- An engine without its data memories, which the fabric, the committed PARAMS and the inverse kinematics fill (R145, R172, R343). -/
def EngSt.sansMem (x : EngSt) : EngSt := { x with xmem := [], ymem := [] }

/-- From `d` to `e` every engine stands but for its data memories, and the figures of every task stand. -/
structure EngsKept (d e : Dev) : Prop where
  sansMem : ∀ n, (e.eng n).sansMem = (d.eng n).sansMem
  stat : e.engs.stat = d.engs.stat

namespace EngsKept

variable {l : List RegName} {ps : List Part} {d e f : Dev}

theorem refl : EngsKept d d := ⟨fun _ => rfl, rfl⟩

theorem trans (h : EngsKept d e) (k : EngsKept e f) : EngsKept d f :=
  ⟨fun n => (k.sansMem n).trans (h.sansMem n), k.stat.trans h.stat⟩

theorem of_eng_stat (h : e.engs.eng = d.engs.eng) (k : e.engs.stat = d.engs.stat) : EngsKept d e :=
  ⟨fun n => by simp only [Dev.eng, h], k⟩

/-- A step that leaves the part of the engines alone. -/
theorem still (h : EngsKept d e) (k : f.engs = e.engs := by rfl) : EngsKept d f :=
  h.trans (of_eng_stat (congrArg EnginesSt.eng k) (congrArg EnginesSt.stat k))

/-- A step of which the frame names another part than the engines. -/
theorem changes (h : EngsKept d e) (k : Changes l ps e f) (hp : Part.engs ∉ ps := by decide) : EngsKept d f :=
  h.still (k.parts .engs hp)

/-- The same of a frame by names. -/
theorem inside (h : EngsKept d e) (k : Inside l ps e f) (hp : Part.engs ∉ ps := by decide) : EngsKept d f :=
  h.still (k.parts .engs hp)

theorem each {α : Type} (h : EngsKept d e) {xs : List α} {g : Dev → α → Dev} (hg : ∀ x a, EngsKept x (g x a)) : EngsKept d (e.each xs g) :=
  Dev.each_keeps (Q := EngsKept d) (fun x a _ hx => hx.trans (hg x a)) h

theorem ite {c : Prop} [Decidable c] (h : EngsKept d e) (k : EngsKept d f) : EngsKept d (if c then e else f) := by
  split
  · exact h
  · exact k

theorem setEng (h : EngsKept d e) {n : Nat} {x : EngSt} (hx : x.sansMem = (e.eng n).sansMem) : EngsKept d (e.setEng n x) := by
  refine h.trans ⟨fun m => ?_, rfl⟩
  rw [Dev.eng_setEng]
  split
  · next hn => exact hn ▸ hx
  · rfl

theorem insts (h : EngsKept d e) (n : Nat) : (e.eng n).insts = (d.eng n).insts := (congrArg EngSt.insts (h.sansMem n) :)

theorem cur (h : EngsKept d e) (n : Nat) : (e.eng n).cur = (d.eng n).cur := (congrArg EngSt.cur (h.sansMem n) :)

theorem ctxs (h : EngsKept d e) (n : Nat) : (e.eng n).ctxs = (d.eng n).ctxs := (congrArg EngSt.ctxs (h.sansMem n) :)

theorem busy (h : EngsKept d e) (n : Nat) : (e.eng n).busy = (d.eng n).busy := (congrArg EngSt.busy (h.sansMem n) :)

theorem tstat (h : EngsKept d e) (t : Nat) : e.tstat t = d.tstat t := by simp only [Dev.tstat, h.stat]

end EngsKept

/-! ### The shared operations keep the engines (R34, R173, R211) -/

/-- A channel is stored among the engines' fabric channels and latches. -/
theorem chanStore_engsKept (d : Dev) (c : Nat) (v : Word) (k : Bool) (rel : Option Nat) : EngsKept d (d.chanStore c v k rel) := by
  unfold Dev.chanStore
  split
  · exact .refl
  · extract_lets v pk latch x y d1
    have h1 : EngsKept d d1 := .of_eng_stat rfl rfl
    exact h1.each fun x w => (EngsKept.refl.inside (dioFabric_inside x w v)).ite .refl

theorem outputsZero_engsKept (d : Dev) (a : Nat) : EngsKept d (d.outputsZero a) := by
  unfold Dev.outputsZero
  extract_lets d1
  have h1 : EngsKept d d1 := EngsKept.refl.still
  split
  · exact (h1.each fun x c => chanStore_engsKept x c _ _ _).ite h1
  · exact h1

theorem applyReaction_engsKept (d : Dev) (a code cause : Nat) (pf : Bool) : EngsKept d (d.applyReaction a code cause pf) := by
  unfold Dev.applyReaction
  extract_lets r d1 d2 x1 d3
  have h1 : EngsKept d d1 := EngsKept.refl.still
  have h2 : EngsKept d d2 := (h1.trans (outputsZero_engsKept d1 a)).still
  have h3 : EngsKept d d3 := EngsKept.refl.still
  refine (h2.ite h2.still).ite ?_
  split
  · exact (h3.still.ite h3).ite h3
  · exact h3

theorem react_engsKept (d : Dev) (a code cause : Nat) (pf : Bool) : EngsKept d (d.react a code cause pf) := by
  unfold Dev.react
  extract_lets st loc c now d1
  have h1 : EngsKept d d1 := EngsKept.refl.still
  exact EngsKept.refl.ite (.ite EngsKept.refl.still (.ite (applyReaction_engsKept d a c cause pf) (h1.still.ite h1)))

theorem reactAll_engsKept (d : Dev) (a : Nat) (l : List (Nat × Nat)) : EngsKept d (d.reactAll a l) := by
  unfold Dev.reactAll
  split
  · exact react_engsKept d a _ _ _
  · exact .refl

theorem levelStored_engsKept (d : Dev) (r : AxisRec) (lvl rel : Nat) : EngsKept d (d.levelStored r lvl rel) := by
  unfold Dev.levelStored
  extract_lets x l start gone d1
  have h1 : EngsKept d d1 := EngsKept.refl.still
  exact EngsKept.refl.still.ite ((h1.each fun x c => chanStore_engsKept x c _ _ _).ite h1)

theorem lawStores_engsKept (d : Dev) (task rel : Nat) : EngsKept d (d.lawStores task rel) :=
  EngsKept.refl.each fun _ r => EngsKept.refl.each fun y l => levelStored_engsKept y r l rel

theorem storeSp_engsKept (d : Dev) (a : Nat) (c : Int × Int × Int) : EngsKept d (d.storeSp a c) := by
  unfold Dev.storeSp
  extract_lets s n d1 v acc fv fa d2 next d3
  have hv : EngsKept d fv.2 := (EngsKept.refl.still : EngsKept d d1).inside (fit32_inside d1 v)
  have h3 : EngsKept d d3 := (hv.inside (fit32_inside fv.2 acc)).still
  split
  · exact h3.trans (chanStore_engsKept _ _ _ _ _)
  · exact h3

/-! ### The loops and arms of a released task keep the engines (R192 to R214, R343 to R352) -/

theorem supervise_engsKept (d : Dev) (a : Nat) (fb ran : Bool) : EngsKept d (d.supervise a fb ran) := by
  unfold Dev.supervise
  extract_lets x react lost d0 d1 follow d2
  have h1 : EngsKept d d1 := .ite EngsKept.refl.still EngsKept.refl.still
  have h2 : EngsKept d d2 := h1.still.ite h1
  exact h2.trans (reactAll_engsKept d2 _ _)

theorem axisRelease_engsKept (d : Dev) (ms : List AxMeas) (last : Option Nat) (a : Nat) : EngsKept d (d.axisRelease ms last a) := by
  unfold Dev.axisRelease
  split
  · exact .refl
  extract_lets m fbIs due d1 d2 d3 posDue z d4 state d5 d6 d7
  have h1 : EngsKept d d1 := EngsKept.refl.still
  have h2 : EngsKept d d2 := (h1.changes (sampleLevels_changes d1 _ _ _)).ite h1
  have h3 : EngsKept d d3 := h2.changes (showFeedback_changes d2 _ _)
  have h4 : EngsKept d d4 := (h3.still.trans (react_engsKept _ _ _ _ _)).ite h3
  have h5 : EngsKept d d5 := h4.still.ite h4
  have h6 : EngsKept d d6 := (h5.changes (manualTurn_changes d5 a)).trans (supervise_engsKept _ _ _ _)
  have h7 : EngsKept d d7 :=
    (h6.each fun x l => EngsKept.refl.changes (runLevel_changes x _ l)).changes (showLimits_changes _ _ _)
  exact h4.ite (h6.ite ((h7.changes (countStill_changes d7 a)).ite h7))

theorem armStop_engsKept (d : Dev) (m code cause axCause : Nat) : EngsKept d (d.armStop m code cause axCause) := by
  unfold Dev.armStop
  split
  · exact .refl
  next r _ =>
  extract_lets s d1 s1 s2 d2 d3
  have h1 : EngsKept d (d1.setArm m s2) := EngsKept.refl.still
  have h2 : EngsKept d d2 := h1.each fun x a => EngsKept.refl.ite ((react_engsKept x a _ _ _).ite .refl)
  have h3 : EngsKept d d3 := (h2.each fun _ _ => EngsKept.refl.still).ite h2
  exact EngsKept.refl.ite (h3.still.changes (armShow_changes _ _))

theorem armIssue_engsKept (d : Dev) (m : Nat) (r : ArmRec) (q : List Int) (pose : PoseM) (bad : Bool) :
    EngsKept d (d.armIssue m r q pose bad) := by
  unfold Dev.armIssue
  extract_lets s vels checks q1 moved rate tr d1 d2 d3 slow fast d4 d5
  have h1 : EngsKept d d1 := EngsKept.refl.still
  have h2 : EngsKept d d2 := h1.each fun x e => storeSp_engsKept x _ _
  have h3 : EngsKept d d3 := h2.changes (armPose_changes _ _ _)
  have h5 : EngsKept d d5 := (h3.each fun _ _ => EngsKept.refl.still).each fun _ _ => EngsKept.refl.still
  have hs (code cause ax : Nat) : EngsKept d (d5.armStop m code cause ax) := h5.trans (armStop_engsKept _ _ _ _ _)
  exact (hs _ _ _).ite ((hs _ _ _).ite ((hs _ _ _).ite (h5.changes (armEnds_changes d5 m))))

/-- The words of the inverse kinematics go to a data memory of the arm's engine. -/
theorem ikWords_engsKept (d : Dev) (m mem : Nat) : EngsKept d (d.ikWords m mem) := by
  unfold Dev.ikWords
  extract_lets e base x ws put
  clear_value put
  have h : EngsKept d (d.setEng e (if mem == 0 then { x with xmem := put x.xmem } else { x with ymem := put x.ymem })) :=
    EngsKept.refl.setEng (by split <;> rfl)
  exact h.still

theorem ikRun_engsKept (d : Dev) (m : Nat) : EngsKept d (d.ikRun m) := by
  unfold Dev.ikRun
  split
  · dsimp -zeta only
    extract_lets s p seed tol bad n sing st d0 d1 d2 d3 d4 stop d5
    have h0 : EngsKept d d0 := EngsKept.refl.still.trans (ikWords_engsKept _ _ _)
    have h1 : Changes armNames [] d0 d1 := Changes.refl.setFld.setFld.setReg
    have h2 : Changes armNames [] d0 d2 := h1.evObj.ite h1
    have h3 : Changes armNames [] d0 d3 := h2.setFld
    have h4 : Changes armNames [] d0 d4 := h3.bump.ite h3
    have h5 : Changes armNames [] d0 d5 := h4.evObj.ite h4
    exact (h0.changes h5).trans (armIssue_engsKept _ _ _ _ _ _)
  · exact .refl

end Sys2Proof.Machine

namespace Sys2Proof.Machine

open Sys2Proof

/-! ### The release of a task (R171, R175) -/

/-- The run of a task that waits from its release on (R175). -/
def Dev.instOf (d : Dev) (r : TaskRec) : Inst := { task := r.task, ctx := r.ctx, order := r.order, release := d.ns }

/-- A task that is due, on an engine that is not halted and holds no run of it, is released: its run joins those that wait. -/
theorem releaseTask_joins {d : Dev} {t : Nat} {r : TaskRec} (ms : List AxMeas) (hr : d.taskRec t = some r) (hrun : d.running = true)
    (hoff : d.engineOff r.engine = false) (hc : r.ctx ≠ 2) (hs : (d.tstat t).suspended = false) (hd : d.releaseDue r = true)
    (hh : (d.eng r.engine).halted = false) (hi : (d.eng r.engine).insts.any (fun i => i.task == t) = false) (ht : d.tooSoon r = false) :
    d.instOf r ∈ ((d.releaseTask t ms).eng r.engine).insts ∧ ((d.releaseTask t ms).tstat t).lastRel = some d.ns := by
  obtain rfl := taskRec_task hr
  unfold Dev.releaseTask
  simp -zeta only [hr]
  extract_lets e x last z d0 d1 y i d2
  rw [if_neg (by simp [hrun, e, hoff, hc, hs, hd]), if_neg (by simp only [x, e, hh, hi, ht]; decide)]
  have h2 : EngsKept d2 (d2.each (d.axesOfTask r.task) fun d a => d.axisRelease ms last a) :=
    EngsKept.refl.each fun x a => axisRelease_engsKept x ms last a
  rw [h2.insts, h2.tstat]
  simp [d2, i, e, Dev.instOf]

theorem taskReleased_engsKept (d : Dev) (t : Nat) (ms : List AxMeas) : EngsKept (d.releaseTask t ms) (d.taskReleased t ms) := by
  unfold Dev.taskReleased
  extract_lets d1
  exact EngsKept.refl.ite (EngsKept.refl.each ikRun_engsKept)

/-! ### The issue of a bundle (R153, R155, R171, R175) -/

/-- An engine issues in context `k`, has left `c` in it, and has been busy for `b` cycles. -/
def EngSt.Left (x : EngSt) (k : Nat) (c : Ctx) (b : Nat) : Prop := x.cur = k ∧ tget x.ctxs k {} = c ∧ x.busy = b

theorem EngsKept.left {d e : Dev} (h : EngsKept d e) {n k b : Nat} {c : Ctx} (hl : (d.eng n).Left k c b) : (e.eng n).Left k c b := by
  unfold EngSt.Left
  rwa [h.cur, h.ctxs, h.busy]

/-- END takes the run from those that wait, and leaves the context and the cycles. -/
theorem endInst_left {d : Dev} {n k b : Nat} {c : Ctx} (i : Inst) (h : (d.eng n).Left k c b) : ((d.endInst n i).eng n).Left k c b := by
  unfold Dev.endInst
  extract_lets x d1
  have h1 : EngsKept (d.setEng n { x with insts := x.insts.filter (fun j => !(j.task == i.task && j.ctx == i.ctx)) }) d1 :=
    lawStores_engsKept _ _ _
  refine h1.left (n := n) ?_
  rw [Dev.eng_setEng_same]
  exact h

/-- A bundle without a fault leaves its context and charges its cycles. -/
theorem issue_left {d : Dev} {n : Nat} {err : Option (Nat × Nat × Bool)} {i : Inst} {u : Issued} (hp : pickInst (d.eng n).insts = some i)
    (hpc : (d.issueCtx n i).pc < (d.eng n).plen) (hb : d.nextBundle n i = .inr u) (he : err.any (fun x => x.2.2) = false) :
    ((d.issue n err).eng n).Left i.ctx u.ctx ((d.eng n).busy + d.bundleCycles n u err.isSome) := by
  unfold Dev.issue
  extract_lets x
  simp -zeta only [x, hp]
  extract_lets i' ctxs c y0 kept
  rw [if_neg (by simpa [c, x] using hpc), hb]
  split
  · next h => cases h
  · next h => cases h
  · next h => cases h
  · next => simp at he
  · next u' _ h _ =>
    obtain rfl := Sum.inr.inj h
    extract_lets out put cyc i1 y d1 d2 d3
    have h1 : (d1.eng n).Left i.ctx u.ctx (x.busy + cyc) := by
      rw [Dev.eng_setEng_same]
      exact ⟨rfl, tget_tset_same _ _ _ _, rfl⟩
    have k2 : EngsKept d1 d2 := by
      unfold d2
      split
      · exact EngsKept.refl.changes (eccSingle_changes d1 n _ _)
      · exact .refl
    have k3 : EngsKept d1 d3 := by
      unfold d3
      generalize out = o
      match o with
      | some (ch, v) =>
        have kw : Changes [.CE_CNT_STALL] [.fresh] d2
            (({ d2 with fresh := d2.fresh + 1 } : Dev).when (put.1 != 0) fun d => d.bump (R.CE_CNT_STALL n) wholeF put.1) :=
          Changes.refl.fresh.when Changes.refl.fresh.bump
        exact (k2.changes kw).trans (chanStore_engsKept _ _ _ _ _)
      | none => exact k2
    split
    · exact endInst_left i1 (k3.left h1)
    · exact k3.left h1

/-- An engine with its halt and its passing of a breakpoint set. -/
def Dev.flagEng (d : Dev) (n : Nat) (halted pass : Bool) : Dev := d.setEng n { d.eng n with halted := halted, pass := pass }

theorem flagEng_issueCtx (d : Dev) (n : Nat) (h p : Bool) (i : Inst) : (d.flagEng n h p).issueCtx n i = d.issueCtx n i := by
  simp only [Dev.issueCtx, Dev.flagEng, Dev.eng_setEng_same]
  rfl

theorem flagEng_nextBundle (d : Dev) (n : Nat) (h p : Bool) (i : Inst) : (d.flagEng n h p).nextBundle n i = d.nextBundle n i := by
  unfold Dev.nextBundle
  rw [flagEng_issueCtx]
  simp only [Dev.flagEng, Dev.eng_setEng_same]
  rfl

theorem flagEng_bundleCycles (d : Dev) (n : Nat) (h p : Bool) (u : Issued) (corr : Bool) :
    (d.flagEng n h p).bundleCycles n u corr = d.bundleCycles n u corr := by
  simp only [Dev.bundleCycles, Dev.fabricPut, Dev.flagEng, Dev.eng_setEng_same]
  rfl

/-- What an engine issues does not depend on its halt nor on a breakpoint that it passes. -/
theorem flagEng_issue_left {d : Dev} {n : Nat} (h p : Bool) {err : Option (Nat × Nat × Bool)} {i : Inst} {u : Issued}
    (hp : pickInst (d.eng n).insts = some i) (hpc : (d.issueCtx n i).pc < (d.eng n).plen) (hb : d.nextBundle n i = .inr u)
    (he : err.any (fun x => x.2.2) = false) :
    (((d.flagEng n h p).issue n err).eng n).Left i.ctx u.ctx ((d.eng n).busy + d.bundleCycles n u err.isSome) := by
  have hx : (d.flagEng n h p).eng n = { d.eng n with halted := h, pass := p } := Dev.eng_setEng_same _ _ _
  have := issue_left (d := d.flagEng n h p) (n := n) (i := i) (u := u) (err := err) (by rw [hx]; exact hp)
    (by rw [flagEng_issueCtx, hx]; exact hpc) (by rw [flagEng_nextBundle, hb]) he
  rwa [hx, flagEng_bundleCycles] at this

theorem Ctx.putAll_pc (l : List Flight) (c : Ctx) : (l.foldl (fun x f => x.putP f.reg f.val) c).pc = c.pc := by
  induction l generalizing c with
  | nil => rfl
  | cons f fs ih => exact ih _

/-- Results that land leave the bundle address. -/
theorem Ctx.land_pc (c : Ctx) : c.land.pc = c.pc := Ctx.putAll_pc _ c

theorem Ctx.landAll_pc (c : Ctx) : c.landAll.pc = c.pc := Ctx.putAll_pc _ c

/-- Leaving another context does not touch the context that is entered. -/
theorem EngSt.tget_ctxsFor (x : EngSt) (k : Nat) : tget (x.ctxsFor k) k {} = tget x.ctxs k {} := by
  unfold EngSt.ctxsFor
  split
  · rfl
  · next h => exact tget_tset_other _ _ _ (by simpa using h)

/-- A run that has begun goes on where its context stands. -/
theorem issueCtx_pc_begun (d : Dev) (n : Nat) {i : Inst} (h : i.begun = true) :
    (d.issueCtx n i).pc = (tget (d.eng n).ctxs i.ctx {}).pc := by
  unfold Dev.issueCtx
  extract_lets c
  rw [Ctx.land_pc, if_pos h]
  exact congrArg Ctx.pc ((d.eng n).tget_ctxsFor i.ctx)

/-- A run that has not begun starts at its task's entry (R154). -/
theorem issueCtx_pc_fresh (d : Dev) (n : Nat) {i : Inst} {r : TaskRec} (h : i.begun = false) (hr : d.taskRec i.task = some r) :
    (d.issueCtx n i).pc = r.entry / 8 := by
  unfold Dev.issueCtx
  extract_lets c
  rw [Ctx.land_pc, if_neg (by simp [h]), Ctx.dispatch, Dev.entryOf, hr]

/-- An engine that runs, and meets no breakpoint that it does not pass, issues. -/
theorem bundleIssued_eq {d : Dev} {n : Nat} {i : Inst} (err : Option (Nat × Nat × Bool)) (hh : (d.eng n).halted = false)
    (hoff : d.engineOff n = false) (hp : pickInst (d.eng n).insts = some i) (hi : i.begun = true ∨ (d.taskRec i.task).isSome = true)
    (hb : (d.eng n).pass = true ∨ (d.eng n).breaks.contains (d.issueCtx n i).pc = false) :
    d.bundleIssued n err = (d.flagEng n (d.eng n).halted false).issue n err := by
  unfold Dev.bundleIssued
  extract_lets x here
  rw [if_neg (by simp [x, hh, hoff])]
  have hhere : here = some (d.issueCtx n i).pc := by
    simp only [here, x, hp]
    cases hbeg : i.begun with
    | true => rw [if_pos rfl, issueCtx_pc_begun d n hbeg]
    | false =>
      obtain ⟨r, hr⟩ := Option.isSome_iff_exists.1 (hi.resolve_left (by simp [hbeg]))
      rw [if_neg (by simp), hr, issueCtx_pc_fresh d n hbeg hr]
  rw [hhere]
  refine if_neg fun hstop => ?_
  obtain ⟨hset, hpass⟩ := Bool.and_eq_true_iff.1 hstop
  rcases hb with h | h
  · simp [x, h] at hpass
  · exact Bool.false_ne_true (h.symm.trans hset)

/-! ### The deadline of a run (R177, R179, R180) -/

/-- Hardware sets a one-bit field. -/
theorem Dev.bit_setW1c_same (d : Dev) (r : Reg) {f : Fld} (h : f.hi = f.lo) (h32 : f.hi < 32) : (d.setW1c r f).bit r f = true := by
  have hf : (d.setW1c r f).fld r f = (d.fld r f ||| 1) % 2 ^ (f.hi - f.lo + 1) := d.fld_setFld_same r f _ h32 (Nat.le_of_eq h.symm)
  rw [Dev.bit, hf, h, Nat.sub_self, beq_iff_eq]
  exact Nat.or_mod_two_eq_one.2 (.inr rfl)

theorem recordFault_valid (d : Dev) (e cause ctx task pc : Nat) :
    (d.recordFault e cause ctx task pc).bit (R.CE_FAULT e) F.CE_FAULT.VALID = true := by
  unfold Dev.recordFault
  extract_lets r d1
  split
  · assumption
  · have h : Changes [.CE_FAULT_PC, .CE_FAULT_TIME] [] d1 ((d1.setReg (R.CE_FAULT_PC e) (wN (pc % 32768))).setReg (R.CE_FAULT_TIME e) d.ts) :=
      Changes.refl.setReg.setReg
    rw [Dev.bit, h.fld_name (by decide)]
    exact Dev.bit_setW1c_same _ r rfl (by decide)

theorem countAbort_insts (d : Dev) (e : Nat) (i : Inst) (ovr : Bool) (n : Nat) :
    ((d.countAbort e i ovr).eng n).insts = (d.eng n).insts := by
  unfold Dev.countAbort
  extract_lets st k susp d1
  have h1 : EngsKept d1 (d1.evObj 0x4004 5 e [wN i.task]) := EngsKept.refl.still
  split
  · exact (h1.each fun x a => react_engsKept x a 4 4 false).insts n
  · rfl

/-- The entry of the fault context adds at most a run of that context. -/
theorem mem_insts_enterFault {d : Dev} {e cause task pc : Nat} {j : Inst} (h : j ∈ ((d.enterFault e cause task pc).eng e).insts) :
    j ∈ (d.eng e).insts ∨ j.ctx = 2 := by
  unfold Dev.enterFault at h
  split at h
  · exact .inl h
  · split at h
    · exact .inl h
    · extract_lets x c0 c i at h
      rw [Dev.eng_setEng_same] at h
      rcases List.mem_cons.1 h with rfl | hj
      · exact .inr rfl
      · exact .inl hj

/-- A deadline abort is counted and recorded, and the run waits no more. -/
theorem engFault_overrun (d : Dev) (e : Nat) {i : Inst} (pc : Nat) :
    ((d.engFault e i causeOverrun pc).reg (R.CE_CNT_OVR e)).toNat = min ((d.reg (R.CE_CNT_OVR e)).toNat + 1) (2 ^ 32 - 1) ∧
    (d.engFault e i causeOverrun pc).bit (R.CE_FAULT e) F.CE_FAULT.VALID = true ∧
    ∀ j ∈ ((d.engFault e i causeOverrun pc).eng e).insts, ¬ (j.task = i.task ∧ j.ctx = i.ctx) := by
  unfold Dev.engFault
  extract_lets x d1 d2 ovr d3 d4
  have h1 : Changes [] [.axs, .engs] d d1 := Changes.refl.setEng.step (lawAborted_changes _ _)
  have h2 : Changes [.CE_FAULT, .CE_FAULT_PC, .CE_FAULT_TIME] [.axs, .engs] d d2 := h1.within.step (recordFault_changes _ _ _ _ _ _)
  have hd3 : d3 = (d2.inc (R.CE_CNT_OVR e)).evObj 0x4002 4 e [wN i.task, 1] := if_pos rfl
  have hcnt : (d3.reg (R.CE_CNT_OVR e)).toNat = min ((d.reg (R.CE_CNT_OVR e)).toNat + 1) (2 ^ 32 - 1) := by
    rw [hd3, Dev.evObj_reg, Dev.inc_reg, h2.reg_name (by decide)]
  have h3 : Changes [.CE_CNT_OVR] [] d2 d3 := hd3 ▸ Changes.refl.inc.evObj
  have hvalid : d3.bit (R.CE_FAULT e) F.CE_FAULT.VALID = true := by
    rw [Dev.bit, h3.fld_name (by decide)]
    exact recordFault_valid d1 e causeOverrun i.ctx i.task pc
  have hgone : ∀ j ∈ (d3.eng e).insts, ¬ (j.task = i.task ∧ j.ctx = i.ctx) := by
    have k3 : EngsKept (d.setEng e { x with insts := x.insts.filter (fun j => !(j.task == i.task && j.ctx == i.ctx)) }) d3 :=
      ((EngsKept.refl.changes (lawAborted_changes _ _)).changes (recordFault_changes d1 _ _ _ _ _)).changes h3
    rw [k3.insts, Dev.eng_setEng_same]
    intro j hj ⟨ht, hk⟩
    simp [ht, hk] at hj
  have htail (y : Dev) (h : Changes [.AXIS_STAT, .DIO_OUT] [.axs, .cap, .dio, .engs] d3 y) :
      (y.reg (R.CE_CNT_OVR e)).toNat = min ((d.reg (R.CE_CNT_OVR e)).toNat + 1) (2 ^ 32 - 1) ∧
      y.bit (R.CE_FAULT e) F.CE_FAULT.VALID = true := by
    rw [h.reg_name (by decide), Dev.bit, h.fld_name (by decide)]
    exact ⟨hcnt, hvalid⟩
  split
  · next hctx =>
    obtain ⟨hc, hv⟩ := htail _ (countAbort_changes d3 e i ovr)
    exact ⟨hc, hv, by rwa [countAbort_insts]⟩
  · next hctx =>
    have h4 : Changes [.AXIS_STAT, .DIO_OUT] [.axs, .cap, .dio, .engs] d3 d4 := Changes.refl.each fun x a _ h => h.step (react_changes x a _ _ _)
    have k4 : EngsKept d3 d4 := EngsKept.refl.each fun x a => react_engsKept x a _ _ _
    obtain ⟨hc, hv⟩ := htail _ ((h4.step (countAbort_changes d4 e i ovr)).step (enterFault_changes _ e causeOverrun i.task pc))
    refine ⟨hc, hv, fun j hj ⟨ht, hk⟩ => ?_⟩
    rcases mem_insts_enterFault hj with hj | hj
    · rw [countAbort_insts, k4.insts] at hj
      exact hgone j hj ⟨ht, hk⟩
    · simp [← hk, hj] at hctx

theorem deadline_eq {d : Dev} {t : Nat} {r : TaskRec} {i : Inst} (hr : d.taskRec t = some r)
    (hi : (d.eng r.engine).insts.find? (fun i => i.task == t) = some i) (hc : i.ctx ≠ 0) (hd : i.release + r.deadline ≤ d.ns) :
    d.deadline t = d.engFault r.engine i causeOverrun (tget (d.eng r.engine).ctxs i.ctx {}).pc := by
  unfold Dev.deadline
  rw [hr]
  dsimp only
  rw [hi]
  exact if_pos (by simp [hc, hd])

/-! ### Writes of CE_CTL (R175, R184) -/

theorem regDo_of_ce (d : Dev) (ses : Nat) {r : Reg} (old new w : Word) (h : blkOf r.addr = .ce) :
    d.regDo ses r old new w = d.plantDo r old w := by
  unfold Dev.regDo
  rw [h]

theorem regDo_ceCtl (d : Dev) (ses n : Nat) (old new w : Word) : d.regDo ses (R.CE_CTL n) old new w = d.plantDo (R.CE_CTL n) old w := by
  have hb : blkOf (R.CE_CTL n).addr = .ce := by
    rw [addr_CE_CTL]
    exact blkOf_ce (by omega) (by omega)
  exact regDo_of_ce d ses old new w hb

/-- An accepted write of CE_CTL with an action bit. -/
theorem hostWrite_ceCtl {d : Dev} {ses n : Nat} {w : Word} (hm : d.MayWrite ses (R.CE_CTL n)) (hw : d.WriteOk (R.CE_CTL n) w)
    (h : getF w F.CE_CTL.RESUME = 1 ∨ getF w F.CE_CTL.CLRMAX = 1) :
    d.hostWrite ses (R.CE_CTL n) w = (((d.setReg (R.CE_CTL n) (d.written (R.CE_CTL n) w)).when (getF w F.CE_CTL.RESUME == 1)
      (·.ceResume n)).when (getF w F.CE_CTL.CLRMAX == 1) (·.ceClrMax n)).answer .ok := by
  have ha : writeActs RegName.CE_CTL.info w = true := by rcases h with h | h <;> simp [writeActs, RegName.info, h]
  rw [hostWrite_ok d ses _ _ hm (.inr (.inl ha)) hw rfl, regDo_ceCtl, plantDo_ceCtl]

/-- What the step for an entry brings about, and the other steps keep, holds of every entry after them all. -/
theorem Dev.each_all {α : Type} {P : α → Dev → Prop} {f : Dev → α → Dev} {l : List α} (step : ∀ d a, P a (f d a))
    (keep : ∀ d a b, P b d → P b (f d a)) (d : Dev) : ∀ a ∈ l, P a (d.each l f) := by
  induction l generalizing d with
  | nil => exact fun a ha => absurd ha List.not_mem_nil
  | cons b bs ih =>
    intro a ha
    rcases List.mem_cons.1 ha with rfl | hmem
    · exact Dev.each_keeps (Q := P a) (l := bs) (fun e c _ => keep e c a) (step d a)
    · exact ih (f d b) a hmem

/-- A suspended task is suspended no more, with the others as they were. -/
theorem updStat_released (d : Dev) (t u : Nat) (f : TaskStat → TaskStat) (hf : ∀ s, (f s).suspended = false)
    (h : (d.tstat u).suspended = false) : ((d.updStat t f).tstat u).suspended = false := by
  rw [Dev.tstat_updStat]
  split
  · exact hf _
  · exact h

theorem ceResume_lifts (d : Dev) {n : Nat} {t : TaskRec} (ht : t ∈ d.img.tasks) (he : t.engine = n) :
    ((d.ceResume n).tstat t.task).suspended = false := by
  have hmem : t ∈ d.img.tasks.filter (fun t => t.engine == n) := List.mem_filter.2 ⟨ht, by simpa using he⟩
  refine Dev.each_all (P := fun t e => (e.tstat t.task).suspended = false) (fun e a => ?_) (fun e a b hb => ?_) d t hmem
  · split
    · rw [Dev.tstat_updStat_same]
    · next h => simpa using h
  · split
    · exact updStat_released _ _ _ _ (fun _ => rfl) hb
    · exact hb

/-- The clearing of the maxima leaves the suspensions. -/
theorem ceClrMax_suspended (d : Dev) (n u : Nat) : ((d.ceClrMax n).tstat u).suspended = (d.tstat u).suspended := by
  refine Dev.each_keeps (Q := fun e => (e.tstat u).suspended = (d.tstat u).suspended) (fun e a _ h => ?_) rfl
  rw [← h, Dev.tstat_updStat]
  split
  · next ha => rw [ha]
  · rfl

theorem ceClrMax_clears (d : Dev) {n : Nat} {t : TaskRec} (ht : t ∈ d.img.tasks) (he : t.engine = n) :
    ((d.ceClrMax n).tstat t.task).maxCyc = 0 ∧ ((d.ceClrMax n).tstat t.task).maxFin = 0 := by
  have hmem : t ∈ d.img.tasks.filter (fun t => t.engine == n) := List.mem_filter.2 ⟨ht, by simpa using he⟩
  refine Dev.each_all (P := fun t e => (e.tstat t.task).maxCyc = 0 ∧ (e.tstat t.task).maxFin = 0) (fun e a => ?_) (fun e a b hb => ?_) _ t hmem
  · rw [Dev.tstat_updStat_same]
    exact ⟨rfl, rfl⟩
  · rw [Dev.tstat_updStat]
    split
    · exact ⟨rfl, rfl⟩
    · exact hb

theorem ceClrMax_maxpm (d : Dev) (n : Nat) : (d.ceClrMax n).fld (R.CE_UTIL n) F.CE_UTIL.MAXPM = 0 := by
  have h : Changes [] [.engs] (d.setFld (R.CE_UTIL n) F.CE_UTIL.MAXPM 0) (d.ceClrMax n) :=
    Changes.refl.each fun x _ _ h => h.step (updStat_changes x _ _)
  rw [h.fld_name (by decide)]
  exact Dev.fld_setFld_of_lt _ (by decide) (by decide)

/-- RESUME lifts the suspension of every task of the engine, whether CLRMAX is written with it or not. -/
theorem hostWrite_resumes {d : Dev} {ses n : Nat} {w : Word} (hm : d.MayWrite ses (R.CE_CTL n)) (hw : d.WriteOk (R.CE_CTL n) w)
    (h : getF w F.CE_CTL.RESUME = 1) {t : TaskRec} (ht : t ∈ d.img.tasks) (he : t.engine = n) :
    ((d.hostWrite ses (R.CE_CTL n) w).tstat t.task).suspended = false := by
  have hl := ceResume_lifts (d.setReg (R.CE_CTL n) (d.written (R.CE_CTL n) w)) ht he
  rw [hostWrite_ceCtl hm hw (.inl h), Dev.tstat, Dev.answer_engs, ← Dev.tstat]
  simp only [Dev.when, h, beq_self_eq_true, if_true]
  split
  · rwa [ceClrMax_suspended]
  · exact hl

theorem hostWrite_clears {d : Dev} {ses n : Nat} {w : Word} (hm : d.MayWrite ses (R.CE_CTL n)) (hw : d.WriteOk (R.CE_CTL n) w)
    (h : getF w F.CE_CTL.CLRMAX = 1) : (d.hostWrite ses (R.CE_CTL n) w).fld (R.CE_UTIL n) F.CE_UTIL.MAXPM = 0 ∧
    ∀ t ∈ d.img.tasks, t.engine = n → ((d.hostWrite ses (R.CE_CTL n) w).tstat t.task).maxCyc = 0 ∧
      ((d.hostWrite ses (R.CE_CTL n) w).tstat t.task).maxFin = 0 := by
  rw [hostWrite_ceCtl hm hw (.inr h)]
  generalize hx : (d.setReg (R.CE_CTL n) (d.written (R.CE_CTL n) w)).when (getF w F.CE_CTL.RESUME == 1) (·.ceResume n) = x
  have hc : Changes [.CE_CTL] [.engs] d x := hx ▸ Changes.refl.setReg.when (Changes.refl.setReg.step (ceResume_changes _ n))
  have himg : x.img = d.img := congrArg (·.image.getD {}) (hc.parts .loader (by decide))
  unfold Dev.when
  rw [if_pos (by simpa using h)]
  exact ⟨ceClrMax_maxpm x n, fun t ht he => ceClrMax_clears x (himg ▸ ht) he⟩

/-! ### The debug commands of an engine (R190, R604, R606) -/

theorem haltEngine_halted (d : Dev) (n : Nat) : ((d.haltEngine n).eng n).halted = true := by
  unfold Dev.haltEngine
  split
  · assumption
  · exact congrArg EngSt.halted (Dev.eng_setEng_same _ _ _)

theorem resumeEngine_runs (d : Dev) (n : Nat) : ((d.resumeEngine n).eng n).halted = false := by
  unfold Dev.resumeEngine
  split
  · exact congrArg EngSt.halted (Dev.eng_setEng_same _ _ _)
  · next h => simpa using h

/-- An engine without safety-relevant tasks, or of a unit whose safety is not armed, halts at once. -/
theorem debugHalt_now {d : Dev} {n : Nat} (hs : bitAt d.debugScope 3 = true) (hoff : d.engineOff n = false)
    (ha : d.bit R.SAFE_STAT F.SAFE_STAT.ARMED = false ∨ d.safeTasksOf n = []) : d.debugHalt n = d.haltEngine n := by
  unfold Dev.debugHalt
  extract_lets ts d1
  rw [if_neg (by simp [hs]), if_neg (by simp [hoff]), if_neg (by rcases ha with h | h <;> simp [h, ts])]

/-- An engine with safety-relevant tasks halts at the end of the stop of its safe axes (R606). -/
theorem debugHalt_asks {d : Dev} {n : Nat} (hs : bitAt d.debugScope 3 = true) (hoff : d.engineOff n = false)
    (ha : d.bit R.SAFE_STAT F.SAFE_STAT.ARMED = true) (ht : d.safeTasksOf n ≠ []) : (d.debugHalt n).sec.haltAsk.contains n = true := by
  unfold Dev.debugHalt
  extract_lets ts d1
  rw [if_neg (by simp [hs]), if_neg (by simp [hoff]), if_pos (by simp [ha, ts, ht])]
  show (if d1.sec.haltAsk.contains n then d1.sec.haltAsk else d1.sec.haltAsk ++ [n]).contains n = true
  split
  · assumption
  · simp

/-- A step of a halted engine issues one bundle and leaves the engine halted. -/
theorem debugStep_eq {d : Dev} {n : Nat} (err : Option (Nat × Nat × Bool)) (hs : bitAt d.debugScope 3 = true)
    (hh : (d.eng n).halted = true) :
    (d.debugStep n err).eng n = { ((d.flagEng n false (d.eng n).pass).issue n err).eng n with halted := true } := by
  unfold Dev.debugStep
  extract_lets d1
  rw [if_neg (by simp [hs]), if_neg (by simp [hh])]
  exact Dev.eng_setEng_same _ _ _

theorem debugResume_runs {d : Dev} {n : Nat} (hs : bitAt d.debugScope 3 = true) (hh : (d.eng n).halted = true) :
    ((d.debugResume n).eng n).halted = false := by
  unfold Dev.debugResume
  extract_lets d1
  rw [if_neg (by simp [hs]), if_neg (by simp [hh])]
  split
  · rw [Dev.eng, (askCopy_changes d1).parts .engs (by decide)]
    exact resumeEngine_runs d n
  · exact resumeEngine_runs d n

theorem debugBreak_set {d : Dev} {n pc : Nat} (hs : bitAt d.debugScope 3 = true)
    (ha : d.bit R.SAFE_STAT F.SAFE_STAT.ARMED = false ∨ d.safeTasksOf n = []) : ((d.debugBreak n pc).eng n).breaks.contains pc = true := by
  unfold Dev.debugBreak
  extract_lets x
  rw [if_neg (by simp [hs]), if_neg (by rcases ha with h | h <;> simp [h]), Dev.eng_setEng_same]
  dsimp only
  split
  · assumption
  · simp

end Sys2Proof.Machine

namespace Sys2Proof.Machine

open Sys2Proof

/-! ### The commands of the control engines (R155, R171, R175, R177, R184, R190, R604, R606) -/

/-- Settles O18: each clause is the effect of its command on the engine, read in what follows it. -/
theorem enginesComplete : Obligations.EnginesComplete := by
  rintro s d rfl hon
  refine ⟨?release, ?issue, ?deadline, ?resume, ?clrmax, ?halt, ?haltAsked, ?step, ?debugResume, ?breakpoint⟩
  case release =>
    intro t ms r ht hr hrun hoff hc hs hd hh hi hsoon
    refine runs_of_runIf (f := fun d => d.taskReleased t (measures ms)) rfl hon (decide_eq_true ht) fun e he => ?_
    obtain ⟨hmem, hlast⟩ := releaseTask_joins (measures ms) hr hrun hoff hc hs hd hh hi hsoon
    have hk := taskReleased_engsKept s.start t (measures ms)
    rw [he.eng, he.tstat, hk.insts, hk.tstat]
    exact ⟨List.any_eq_true.2 ⟨_, hmem, by simp [Dev.instOf, taskRec_task hr]⟩, hlast⟩
  case issue =>
    intro n err i u hn hh hoff hp hi hb hpc hu herr
    refine runs_of_runIf (f := fun d => d.bundleIssued n err) rfl hon (decide_eq_true hn) fun e he => ?_
    rw [he.eng, bundleIssued_eq err hh hoff hp hi hb]
    exact flagEng_issue_left _ _ hp hpc hu herr
  case deadline =>
    intro t r i ht hr hi hc hd
    refine runs_of_runIf (f := fun d => d.deadline t) rfl hon (decide_eq_true ht) fun e he => ?_
    rw [deadline_eq hr hi hc hd] at he
    obtain ⟨hcnt, hvalid, hgone⟩ := engFault_overrun s.start r.engine (i := i) (tget (s.start.eng r.engine).ctxs i.ctx {}).pc
    have htask : i.task = t := by simpa using List.find?_some hi
    rw [he.reg_own (by decide), he.bit_own (by decide), he.eng]
    refine ⟨hcnt, hvalid, List.any_eq_false.2 fun j hj => ?_⟩
    simpa [htask] using hgone j hj
  case resume =>
    intro ses n w hn hm hw
    have h1 : getF (putF w F.CE_CTL.RESUME 1) F.CE_CTL.RESUME = 1 := getF_putF_same _ _ _ (by decide) (by decide)
    refine runs_of_runIf (f := fun d => d.hostWrite ses (R.CE_CTL n) (putF w F.CE_CTL.RESUME 1)) rfl hon (decide_eq_true hn) fun e he => ?_
    refine List.all_eq_true.2 fun t ht => ?_
    rw [he.tstat, Bool.or_eq_true, bne_iff_ne, Bool.not_eq_true']
    exact or_iff_not_imp_left.2 fun hte => hostWrite_resumes hm hw h1 ht (not_not.1 hte)
  case clrmax =>
    intro ses n w hn hm hw
    have h1 : getF (putF w F.CE_CTL.CLRMAX 1) F.CE_CTL.CLRMAX = 1 := getF_putF_same _ _ _ (by decide) (by decide)
    obtain ⟨hpm, hmax⟩ := hostWrite_clears hm hw h1
    refine runs_of_runIf (f := fun d => d.hostWrite ses (R.CE_CTL n) (putF w F.CE_CTL.CLRMAX 1)) rfl hon (decide_eq_true hn) fun e he => ?_
    refine ⟨(he.fld_own (by decide)).trans hpm, List.all_eq_true.2 fun t ht => ?_⟩
    rw [he.tstat, Bool.or_eq_true, bne_iff_ne, Bool.and_eq_true, beq_iff_eq, beq_iff_eq]
    exact or_iff_not_imp_left.2 fun hte => hmax t ht (not_not.1 hte)
  case halt =>
    intro n hn hs hoff ha
    refine runs_of_runIf (f := fun d => d.debugHalt n) rfl hon (decide_eq_true hn) fun e he => ?_
    rw [he.eng, debugHalt_now hs hoff ha]
    exact haltEngine_halted _ _
  case haltAsked =>
    intro n hn hs hoff ha ht
    refine runs_of_runIf (f := fun d => d.debugHalt n) rfl hon (decide_eq_true hn) fun e he => ?_
    rw [he.kept.sec]
    exact debugHalt_asks hs hoff ha ht
  case step =>
    intro n err i u hn hs hh hp hpc hu herr
    refine runs_of_runIf (f := fun d => d.debugStep n err) rfl hon (decide_eq_true hn) fun e he => ?_
    rw [he.eng, debugStep_eq err hs hh]
    obtain ⟨-, hctx, hbusy⟩ := flagEng_issue_left false (s.start.eng n).pass hp hpc hu herr
    exact ⟨rfl, hctx, hbusy⟩
  case debugResume =>
    intro n hn hs hh
    refine runs_of_runIf (f := fun d => d.debugResume n) rfl hon (decide_eq_true hn) fun e he => ?_
    rw [he.eng]
    exact debugResume_runs hs hh
  case breakpoint =>
    intro n pc hn hpc hs ha
    refine runs_of_runIf (f := fun d => d.debugBreak n pc) rfl hon (by simp [hn, hpc]) fun e he => ?_
    rw [he.eng]
    exact debugBreak_set hs ha

end Sys2Proof.Machine

namespace Sys2Proof.Machine

open Sys2Proof

/-! ### An accepted write, whether it changes the register or not (R661) -/

/-- An accepted write leaves the merged word in the register and starts what the register starts, provided that the register starts nothing
where the word stays and no bit acts. -/
theorem hostWrite_regDo {d : Dev} {ses : Nat} {r : Reg} {w : Word} (hm : d.MayWrite ses r) (hw : d.WriteOk r w) (hp : plainName r.name = true)
    (hs : writeActs r.name.info w = false → d.regDo ses r (d.reg r) (d.reg r) w = d) :
    ∃ x, Changes [r.name] [] d x ∧ x.reg r = d.written r w ∧
      d.hostWrite ses r w = (x.regDo ses r (d.reg r) (d.written r w) w).answer .ok := by
  by_cases ha : d.written r w ≠ d.reg r ∨ writeActs r.name.info w = true ∨ r.name.everyWrite = true
  · exact ⟨d.setReg r (d.written r w), (Changes.refl.setReg (l := [r.name])).use (by simp), Dev.reg_setReg_same _ _ _,
      hostWrite_ok d ses r w hm ha hw hp⟩
  · simp only [not_or, ne_eq, not_not, Bool.not_eq_true] at ha
    obtain ⟨h1, h2, h3⟩ := ha
    refine ⟨d, .refl, h1.symm, ?_⟩
    rw [h1, hs h2]
    exact hostWrite_same d ses r w hm h1 h2 h3 hp

theorem regDo_of_axis (d : Dev) (ses : Nat) {r : Reg} (old new w : Word) (h : blkOf r.addr = .axis) :
    d.regDo ses r old new w = d.axisDo r old new w := by
  unfold Dev.regDo
  rw [h]

/-- A field reads what was put there where it is no wider. -/
theorem getF_putF_of_lt (w : Word) {f : Fld} {v : Nat} (hv : v < 2 ^ (f.hi - f.lo + 1)) (h : f.inWord = true) : getF (putF w f v) f = v := by
  simp only [Fld.inWord, Bool.and_eq_true, decide_eq_true_eq] at h
  exact (getF_putF_same w f v h.2 h.1).trans (Nat.mod_eq_of_lt hv)

/-- A field of a merged word that takes its bits from the written word. -/
theorem getF_putF_getF (v w : Word) {f : Fld} (h : f.inWord = true) : getF (putF v f (getF w f)) f = getF w f :=
  getF_putF_of_lt v (getF_lt w f) h

/-! ### The state of an axis's loops -/

theorem Follows.axSt {d e : Dev} (h : Follows d e) (a : Nat) : e.axSt a = d.axSt a := by simp only [Dev.axSt, h.kept.axs]

theorem Follows.axState {d e : Dev} (h : Follows d e) (a : Nat) : e.axState a = d.axState a := h.fld_own (by decide)

theorem Changes.axState {l : List RegName} {ps : List Part} {d e : Dev} (h : Changes l ps d e) (a : Nat)
    (hn : l.all (fun m => RegName.AXIS_STAT.info.apart m.info) = true) : e.axState a = d.axState a := h.fld_name hn

theorem Changes.axEnabled {l : List RegName} {ps : List Part} {d e : Dev} (h : Changes l ps d e) (a : Nat)
    (hn : l.all (fun m => RegName.AXIS_STAT.info.apart m.info) = true) : e.axEnabled a = d.axEnabled a := by
  simp only [Dev.axEnabled, h.axState a hn]

theorem Changes.axSt {l : List RegName} {ps : List Part} {d e : Dev} (h : Changes l ps d e) (a : Nat) (hp : Part.axs ∉ ps) :
    e.axSt a = d.axSt a := Dev.axSt_of_axes (congrArg AxesSt.axes (h.parts .axs hp)) a

theorem Dev.axState_setState (d : Dev) (a : Nat) {v : Nat} (hv : v < 16) : (d.setFld (R.AXIS_STAT a) F.AXIS_STAT.STATE v).axState a = v :=
  d.fld_setFld_of_lt hv (by decide)

theorem Changes.levels {l : List RegName} {ps : List Part} {d e : Dev} (h : Changes l ps d e) (a : Nat)
    (hn : l.all (fun m => RegName.AXIS_CFG.info.apart m.info) = true) : e.levels a = d.levels a := by
  simp only [Dev.levels, Dev.casc, h.fld_name (i := a) hn]

/-- A level of the axis transfers at the next release (R217). -/
def AxisSt.Transfers (x : AxisSt) (lvl : Nat) : Prop := (x.level lvl).transfer = true

theorem AxisSt.level_setLevel (x : AxisSt) (k lvl : Nat) (l : LevelSt) :
    (x.setLevel k l).level lvl = if k = lvl then l else x.level lvl := tget_tset _ _ _ _ _

/-- A level marked for its transfer, those already marked with it. -/
theorem AxisSt.transfers_setLevel {x : AxisSt} {k lvl : Nat} {l : LevelSt} (hl : l.transfer = true) (h : k = lvl ∨ x.Transfers lvl) :
    (x.setLevel k l).Transfers lvl := by
  unfold AxisSt.Transfers
  rw [AxisSt.level_setLevel]
  split
  · exact hl
  · exact h.resolve_left ‹_›

theorem transferLaw_transfers (d : Dev) (a : Nat) {lvls : List Nat} {lvl : Nat} (h : lvl ∈ lvls) :
    ((d.transferLaw a lvls).axSt a).Transfers lvl := by
  unfold Dev.transferLaw
  rw [Dev.axSt_updAxSt_same]
  generalize d.axSt a = x
  replace h : lvl ∈ lvls ∨ x.Transfers lvl := .inl h
  induction lvls generalizing x with
  | nil => exact h.resolve_left List.not_mem_nil
  | cons k ks ih =>
    refine ih _ ?_
    rw [List.mem_cons, or_assoc, or_left_comm] at h
    exact h.imp_right fun h => AxisSt.transfers_setLevel rfl (h.imp_left Eq.symm)

/-! ### Writes of AXIS_CTL (R212, R214 to R217) -/

theorem writeActs_axisCtl (w : Word) : writeActs RegName.AXIS_CTL.info w = (getF w F.AXIS_CTL.CLRFLT != 0) :=
  Bool.or_false _

/-- The fields of AXIS_CTL that a write sets. -/
abbrev axCtlFlds : List Fld := [F.AXIS_CTL.EN, F.AXIS_CTL.MAN, F.AXIS_CTL.BANK]

theorem getF_written_axisCtl (d : Dev) (a : Nat) (w : Word) {f : Fld} (hf : f ∈ axCtlFlds) :
    getF (d.written (R.AXIS_CTL a) w) f = getF w f := by
  have hw : d.written (R.AXIS_CTL a) w = putF (putF (putF (d.reg (R.AXIS_CTL a)) F.AXIS_CTL.EN (getF w F.AXIS_CTL.EN))
    F.AXIS_CTL.MAN (getF w F.AXIS_CTL.MAN)) F.AXIS_CTL.BANK (getF w F.AXIS_CTL.BANK) := rfl
  rw [hw]
  simp only [axCtlFlds, List.mem_cons, List.not_mem_nil, or_false] at hf
  obtain rfl | rfl | rfl := hf
  · rw [getF_putF_field _ _ (by decide), getF_putF_field _ _ (by decide), getF_putF_getF _ _ (by decide)]
  · rw [getF_putF_field _ _ (by decide), getF_putF_getF _ _ (by decide)]
  · rw [getF_putF_getF _ _ (by decide)]

/-- What a write of EN does: enable, disable or nothing. -/
def Dev.axSwitch (d : Dev) (a : Nat) (old new : Word) : Dev :=
  if getF old F.AXIS_CTL.EN != getF new F.AXIS_CTL.EN then
    (if getF new F.AXIS_CTL.EN == 1 then d.enableAxis a else d.disableAxis a)
  else d

/-- What a write of AXIS_CTL does: EN first, then BANK, then CLRFLT. -/
theorem axCtlDo_eq (d : Dev) (a : Nat) (old new w : Word) : d.axCtlDo a old new w =
    ((d.axSwitch a old new).when (getF old F.AXIS_CTL.BANK != getF new F.AXIS_CTL.BANK) (·.transferLaw a (d.levels a))).when
      (getF w F.AXIS_CTL.CLRFLT == 1) (·.clrFlt a) := rfl

theorem axCtlDo_same (d : Dev) (a : Nat) (old : Word) {w : Word} (h : getF w F.AXIS_CTL.CLRFLT ≠ 1) : d.axCtlDo a old old w = d := by
  simp [axCtlDo_eq, Dev.axSwitch, Dev.when, h]

theorem regDo_axisCtl (d : Dev) (ses a : Nat) (old new w : Word) : d.regDo ses (R.AXIS_CTL a) old new w = d.axCtlDo a old new w := by
  refine regDo_of_axis d ses old new w ?_
  rw [addr_AXIS_CTL]
  exact blkOf_axis (by omega) (by omega)

theorem hostWrite_axisCtl {d : Dev} {ses a : Nat} {w : Word} (hm : d.MayWrite ses (R.AXIS_CTL a)) (hw : d.WriteOk (R.AXIS_CTL a) w) :
    ∃ x, Changes [.AXIS_CTL] [] d x ∧ x.reg (R.AXIS_CTL a) = d.written (R.AXIS_CTL a) w ∧ d.hostWrite ses (R.AXIS_CTL a) w =
      (x.axCtlDo a (d.reg (R.AXIS_CTL a)) (d.written (R.AXIS_CTL a) w) w).answer .ok := by
  obtain ⟨x, hx, hr, hd⟩ := hostWrite_regDo hm hw rfl fun h => by
    rw [regDo_axisCtl]
    refine axCtlDo_same d a _ fun h1 => ?_
    rw [writeActs_axisCtl, h1] at h
    cases h
  exact ⟨x, hx, hr, by rw [hd, regDo_axisCtl]⟩

/-! #### EN (R214, R215) -/

/-- The set-point's part of an enable leaves AXIS_CTL and AXIS_STAT. -/
theorem motEnable_sp (d : Dev) (a : Nat) :
    Changes (.AXIS_MOT_STAT :: spNames) [.mot, .fresh, .axs, .cap, .dio, .engs] d (d.motEnable a) := by
  unfold Dev.motEnable
  extract_lets x d1
  have h1 : Changes (.AXIS_MOT_STAT :: spNames) [.mot, .fresh, .axs, .cap, .dio, .engs] d d1 := Changes.refl.setMs.setReg
  exact (h1.setSrc.step (storeSp_changes _ _ _)).updAxSt

/-- An enable is the new start of the loops and legs, then ENABLING with the set-point and the permit. -/
theorem enableAxis_eq (d : Dev) (a : Nat) : ∃ x, Changes [.PWM_LEG_ACC, .PWM_LEG_CNT, .PWM_LEG_STAT] [.axs, .pwm] d x ∧
    d.enableAxis a = (((x.setFld (R.AXIS_STAT a) F.AXIS_STAT.STATE 1).motEnable a).grantPermit a).evObj 0x6001 1 a := by
  unfold Dev.enableAxis
  extract_lets pos d1 d2 d3
  have h1 : Changes [.PWM_LEG_ACC, .PWM_LEG_CNT, .PWM_LEG_STAT] [.axs, .pwm] d d1 := Changes.refl.updAxSt.step (primeModel_changes _ _)
  refine ⟨d2, ?_, rfl⟩
  unfold d2
  split
  · exact (h1.step (legsEnable_changes _ _)).ite h1
  · exact h1

theorem enableAxis_axState (d : Dev) (a : Nat) : (d.enableAxis a).axState a = 1 := by
  obtain ⟨x, -, he⟩ := enableAxis_eq d a
  rw [he, (grantPermit_changes _ a).evObj.axState a (by decide), (motEnable_sp _ a).axState a (by decide), x.axState_setState a (by decide)]

theorem enableAxis_axisCtl (d : Dev) (a b : Nat) : (d.enableAxis a).reg (R.AXIS_CTL b) = d.reg (R.AXIS_CTL b) := by
  obtain ⟨x, hx, he⟩ := enableAxis_eq d a
  rw [he, Dev.evObj_reg, (grantPermit_changes _ a).reg_name (by decide), (motEnable_sp _ a).reg_name (by decide),
    Dev.reg_setFld_other _ _ _ (addr_ne (by decide) _ _ _ _), hx.reg_name (by decide)]

/-- A disable is the outputs at zero, then DISABLED without plan or permit. -/
theorem disableAxis_eq (d : Dev) (a : Nat) : ∃ x, Changes [.DIO_OUT] [.axs, .cap, .dio, .engs] d x ∧
    d.disableAxis a = (((x.setFld (R.AXIS_STAT a) F.AXIS_STAT.STATE 0).motDisable a).dropPermit a).evObj 0x6002 1 a :=
  ⟨_, (outputsZero_changes d a).updAxSt, rfl⟩

theorem disableAxis_axState (d : Dev) (a : Nat) : (d.disableAxis a).axState a = 0 := by
  obtain ⟨x, -, he⟩ := disableAxis_eq d a
  rw [he, (dropPermit_changes _ a).evObj.axState a (by decide), (motDisable_changes _ a).axState a (by decide),
    x.axState_setState a (by decide)]

theorem disableAxis_axisCtl (d : Dev) (a b : Nat) : (d.disableAxis a).reg (R.AXIS_CTL b) = d.reg (R.AXIS_CTL b) := by
  obtain ⟨x, hx, he⟩ := disableAxis_eq d a
  rw [he, Dev.evObj_reg, (dropPermit_changes _ a).reg_name (by decide), (motDisable_changes _ a).reg_name (by decide),
    Dev.reg_setFld_other _ _ _ (addr_ne (by decide) _ _ _ _), hx.reg_name (by decide)]

theorem axSwitch_on (d : Dev) (a : Nat) {old new : Word} (ho : getF old F.AXIS_CTL.EN ≠ 1) (hn : getF new F.AXIS_CTL.EN = 1) :
    d.axSwitch a old new = d.enableAxis a := by simp [Dev.axSwitch, ho, hn]

theorem axSwitch_off (d : Dev) (a : Nat) {old new : Word} (ho : getF old F.AXIS_CTL.EN = 1) (hn : getF new F.AXIS_CTL.EN = 0) :
    d.axSwitch a old new = d.disableAxis a := by simp [Dev.axSwitch, ho, hn]

theorem axSwitch_stay (d : Dev) (a : Nat) {old new : Word} (h : getF new F.AXIS_CTL.EN = getF old F.AXIS_CTL.EN) :
    d.axSwitch a old new = d := by simp [Dev.axSwitch, h]

theorem axSwitch_axisCtl (d : Dev) (a b : Nat) (old new : Word) : (d.axSwitch a old new).reg (R.AXIS_CTL b) = d.reg (R.AXIS_CTL b) := by
  unfold Dev.axSwitch
  split
  · split
    · exact enableAxis_axisCtl d a b
    · exact disableAxis_axisCtl d a b
  · rfl

/-! #### CLRFLT (R212) -/

/-- CLRFLT leaves the state of the axis: it clears other fields of AXIS_STAT. -/
theorem clrFlt_axState (d : Dev) (a : Nat) : (d.clrFlt a).axState a = d.axState a := by
  unfold Dev.clrFlt
  extract_lets st on follows implausible d1 d2 d3
  have hst (x : Dev) {f : Fld} (hf : f.apart F.AXIS_STAT.STATE = true) : (x.setFld st f 0).axState a = x.axState a := x.fld_setFld_field hf
  have h1 : d1.axState a = d.axState a := d.fld_setFld_name (by decide)
  have h2 : d2.axState a = d.axState a := by
    unfold d2
    split
    · exact h1
    · rw [hst _ (by decide), h1]
  have h3 : d3.axState a = d.axState a := by
    unfold d3
    split
    · exact h2
    · rw [hst _ (by decide), h2]
  split
  · exact h3
  · rw [hst _ (by decide), hst _ (by decide), hst _ (by decide), h3]

theorem clrFlt_vlflt (d : Dev) (a : Nat) : (d.clrFlt a).fld (R.AXIS_MOT_STAT a) F.AXIS_MOT_STAT.VLFLT = 0 := by
  unfold Dev.clrFlt
  extract_lets st on follows implausible d1 d2 d3
  have h1 : d1.fld (R.AXIS_MOT_STAT a) F.AXIS_MOT_STAT.VLFLT = 0 := Dev.fld_setFld_of_lt _ (by decide) (by decide)
  have h2 : Changes [.AXIS_STAT] [] d1 d2 := Changes.refl.ite Changes.refl.setFld
  have h3 : Changes [.AXIS_STAT] [] d1 d3 := h2.ite h2.setFld
  have h4 : Changes [.AXIS_STAT] [] d1
      (if on then d3 else ((d3.setFld st F.AXIS_STAT.REACT 0).setFld st F.AXIS_STAT.CAUSE 0).setFld st F.AXIS_STAT.PFSTOP 0) :=
    h3.ite h3.setFld.setFld.setFld
  rw [h4.fld_name (by decide), h1]

theorem clrFlt_disabled {d : Dev} {a : Nat} (h : d.axEnabled a = false) :
    (d.clrFlt a).fld (R.AXIS_STAT a) F.AXIS_STAT.REACT = 0 ∧ (d.clrFlt a).fld (R.AXIS_STAT a) F.AXIS_STAT.CAUSE = 0 := by
  unfold Dev.clrFlt
  extract_lets st on follows implausible d1 d2 d3
  rw [if_neg (by simp [on, h])]
  constructor
  · rw [Dev.fld_setFld_field _ (by decide), Dev.fld_setFld_field _ (by decide), Dev.fld_setFld_of_lt _ (by decide) (by decide)]
  · rw [Dev.fld_setFld_field _ (by decide), Dev.fld_setFld_of_lt _ (by decide) (by decide)]

/-! #### The whole write -/

theorem axCtlDo_axisCtl (d : Dev) (a b : Nat) (old new w : Word) : (d.axCtlDo a old new w).reg (R.AXIS_CTL b) = d.reg (R.AXIS_CTL b) := by
  have h : Changes [.AXIS_MOT_STAT, .AXIS_STAT] [.axs] (d.axSwitch a old new) (d.axCtlDo a old new w) := by
    rw [axCtlDo_eq]
    have h1 : Changes [.AXIS_MOT_STAT, .AXIS_STAT] [.axs] (d.axSwitch a old new) ((d.axSwitch a old new).when
        (getF old F.AXIS_CTL.BANK != getF new F.AXIS_CTL.BANK) (·.transferLaw a (d.levels a))) :=
      Changes.refl.when (transferLaw_changes _ _ _).within
    exact h1.when (h1.step (clrFlt_changes _ a))
  rw [h.reg_name (by decide), axSwitch_axisCtl]

/-- BANK and CLRFLT leave the state that EN gave. -/
theorem axCtlDo_axState (d : Dev) (a : Nat) (old new w : Word) : (d.axCtlDo a old new w).axState a = (d.axSwitch a old new).axState a := by
  have hc (x : Dev) (c : Bool) : (x.when c (·.clrFlt a)).axState a = x.axState a := by
    unfold Dev.when
    split
    · exact clrFlt_axState x a
    · rfl
  rw [axCtlDo_eq, hc]
  unfold Dev.when
  split
  · exact (transferLaw_changes _ a (d.levels a)).axState a (by decide)
  · rfl

/-- The change of BANK transfers every level, and CLRFLT after it touches none (R217). -/
theorem axCtlDo_transfers (d : Dev) (a : Nat) {old new : Word} (w : Word) (h : getF old F.AXIS_CTL.BANK ≠ getF new F.AXIS_CTL.BANK)
    {lvl : Nat} (hl : lvl ∈ d.levels a) : ((d.axCtlDo a old new w).axSt a).Transfers lvl := by
  have hc (x : Dev) (c : Bool) : (x.when c (·.clrFlt a)).axSt a = x.axSt a := by
    have h : Changes [.AXIS_MOT_STAT, .AXIS_STAT] [] x (x.when c (·.clrFlt a)) := Changes.refl.when (clrFlt_changes x a)
    exact h.axSt a (by decide)
  rw [axCtlDo_eq, hc, Dev.when, if_pos (by simpa using h)]
  exact transferLaw_transfers _ a hl

/-- CLRFLT written with EN as it is (R212). -/
theorem axCtlDo_clears (d : Dev) (a : Nat) {old new w : Word} (he : getF new F.AXIS_CTL.EN = getF old F.AXIS_CTL.EN)
    (hw : getF w F.AXIS_CTL.CLRFLT = 1) : (d.axCtlDo a old new w).fld (R.AXIS_MOT_STAT a) F.AXIS_MOT_STAT.VLFLT = 0 ∧
      (d.axEnabled a = false → (d.axCtlDo a old new w).fld (R.AXIS_STAT a) F.AXIS_STAT.REACT = 0 ∧
        (d.axCtlDo a old new w).fld (R.AXIS_STAT a) F.AXIS_STAT.CAUSE = 0) := by
  rw [axCtlDo_eq, axSwitch_stay d a he]
  generalize hx : d.when (getF old F.AXIS_CTL.BANK != getF new F.AXIS_CTL.BANK) (·.transferLaw a (d.levels a)) = x
  have hc : Changes [] [.axs] d x := hx ▸ Changes.refl.when (transferLaw_changes d a _)
  rw [Dev.when, if_pos (by simp [hw]), ← hc.axEnabled a (by decide)]
  exact ⟨clrFlt_vlflt x a, clrFlt_disabled⟩

/-- AXIS_CTL holds the merged word after an accepted write. -/
theorem hostWrite_axisCtl_fld {d : Dev} {ses a : Nat} {w : Word} (hm : d.MayWrite ses (R.AXIS_CTL a)) (hw : d.WriteOk (R.AXIS_CTL a) w)
    {f : Fld} (hf : f ∈ axCtlFlds) : (d.hostWrite ses (R.AXIS_CTL a) w).fld (R.AXIS_CTL a) f = getF w f := by
  obtain ⟨x, -, hr, hd⟩ := hostWrite_axisCtl hm hw
  rw [hd, Dev.answer_fld, Dev.fld, axCtlDo_axisCtl, hr, getF_written_axisCtl d a w hf]

theorem hostWrite_axState {d : Dev} {ses a : Nat} {w : Word} (hm : d.MayWrite ses (R.AXIS_CTL a)) (hw : d.WriteOk (R.AXIS_CTL a) w) :
    ∃ x : Dev, (d.hostWrite ses (R.AXIS_CTL a) w).axState a =
      (x.axSwitch a (d.reg (R.AXIS_CTL a)) (d.written (R.AXIS_CTL a) w)).axState a := by
  obtain ⟨x, -, -, hd⟩ := hostWrite_axisCtl hm hw
  exact ⟨x, hd ▸ axCtlDo_axState x a _ _ w⟩

theorem hostWrite_enables {d : Dev} {ses a : Nat} {w : Word} (hm : d.MayWrite ses (R.AXIS_CTL a)) (hw : d.WriteOk (R.AXIS_CTL a) w)
    (ho : d.fld (R.AXIS_CTL a) F.AXIS_CTL.EN ≠ 1) (hn : getF w F.AXIS_CTL.EN = 1) : (d.hostWrite ses (R.AXIS_CTL a) w).axState a = 1 := by
  obtain ⟨x, hx⟩ := hostWrite_axState hm hw
  rw [hx, axSwitch_on x a ho ((getF_written_axisCtl d a w (by simp)).trans hn), enableAxis_axState]

theorem hostWrite_disables {d : Dev} {ses a : Nat} {w : Word} (hm : d.MayWrite ses (R.AXIS_CTL a)) (hw : d.WriteOk (R.AXIS_CTL a) w)
    (ho : d.fld (R.AXIS_CTL a) F.AXIS_CTL.EN = 1) (hn : getF w F.AXIS_CTL.EN = 0) : (d.hostWrite ses (R.AXIS_CTL a) w).axState a = 0 := by
  obtain ⟨x, hx⟩ := hostWrite_axState hm hw
  rw [hx, axSwitch_off x a ho ((getF_written_axisCtl d a w (by simp)).trans hn), disableAxis_axState]

theorem hostWrite_clrFlt {d : Dev} {ses a : Nat} {w : Word} (hm : d.MayWrite ses (R.AXIS_CTL a)) (hw : d.WriteOk (R.AXIS_CTL a) w)
    (he : getF w F.AXIS_CTL.EN = d.fld (R.AXIS_CTL a) F.AXIS_CTL.EN) (hc : getF w F.AXIS_CTL.CLRFLT = 1) :
    (d.hostWrite ses (R.AXIS_CTL a) w).fld (R.AXIS_MOT_STAT a) F.AXIS_MOT_STAT.VLFLT = 0 ∧
      (d.axEnabled a = false → (d.hostWrite ses (R.AXIS_CTL a) w).fld (R.AXIS_STAT a) F.AXIS_STAT.REACT = 0 ∧
        (d.hostWrite ses (R.AXIS_CTL a) w).fld (R.AXIS_STAT a) F.AXIS_STAT.CAUSE = 0) := by
  obtain ⟨x, hx, -, hd⟩ := hostWrite_axisCtl hm hw
  rw [hd, ← hx.axEnabled a (by decide)]
  exact axCtlDo_clears x a ((getF_written_axisCtl d a w (by simp)).trans he) hc

theorem hostWrite_bankTransfers {d : Dev} {ses a : Nat} {w : Word} (hm : d.MayWrite ses (R.AXIS_CTL a)) (hw : d.WriteOk (R.AXIS_CTL a) w)
    (h : getF w F.AXIS_CTL.BANK ≠ d.fld (R.AXIS_CTL a) F.AXIS_CTL.BANK) {lvl : Nat} (hl : lvl ∈ d.levels a) :
    ((d.hostWrite ses (R.AXIS_CTL a) w).axSt a).Transfers lvl := by
  obtain ⟨x, hx, -, hd⟩ := hostWrite_axisCtl hm hw
  rw [← hx.levels a (by decide)] at hl
  rw [← getF_written_axisCtl d a w (by simp)] at h
  rw [hd]
  exact axCtlDo_transfers x a w (Ne.symm h) hl

/-! ### Writes of LVL_CFG (R217) -/

theorem regDo_lvlCfg (d : Dev) (ses a lvl : Nat) (old new w : Word) : d.regDo ses (R.LVL_CFG a lvl) old new w =
    d.when (getF old F.LVL_CFG.LAW != getF new F.LVL_CFG.LAW) (·.transferLaw a [lvl]) := by
  refine regDo_of_axis d ses old new w ?_
  rw [addr_LVL_CFG]
  exact blkOf_axis (by omega) (by omega)

theorem getF_written_lvlCfg (d : Dev) (a lvl : Nat) (w : Word) :
    getF (d.written (R.LVL_CFG a lvl) w) F.LVL_CFG.LAW = getF w F.LVL_CFG.LAW := by
  have hw : d.written (R.LVL_CFG a lvl) w = putF (putF (putF (putF (putF (d.reg (R.LVL_CFG a lvl))
    F.LVL_CFG.LAW (getF w F.LVL_CFG.LAW)) F.LVL_CFG.SHIFT (getF w F.LVL_CFG.SHIFT)) F.LVL_CFG.FFSHIFT (getF w F.LVL_CFG.FFSHIFT))
    F.LVL_CFG.OBS (getF w F.LVL_CFG.OBS)) F.LVL_CFG.OUTPH (getF w F.LVL_CFG.OUTPH) := rfl
  rw [hw, getF_putF_field _ _ (by decide), getF_putF_field _ _ (by decide), getF_putF_field _ _ (by decide),
    getF_putF_field _ _ (by decide), getF_putF_getF _ _ (by decide)]

/-- An accepted write of LVL_CFG: LAW as written, and the level's transfer where it changes. -/
theorem hostWrite_lvlCfg {d : Dev} {ses a lvl : Nat} {w : Word} (hm : d.MayWrite ses (R.LVL_CFG a lvl)) (hw : d.WriteOk (R.LVL_CFG a lvl) w) :
    (d.hostWrite ses (R.LVL_CFG a lvl) w).fld (R.LVL_CFG a lvl) F.LVL_CFG.LAW = getF w F.LVL_CFG.LAW ∧
    (getF w F.LVL_CFG.LAW ≠ d.fld (R.LVL_CFG a lvl) F.LVL_CFG.LAW → ((d.hostWrite ses (R.LVL_CFG a lvl) w).axSt a).Transfers lvl) := by
  obtain ⟨x, -, hr, hd⟩ := hostWrite_regDo hm hw rfl fun _ => by simp [regDo_lvlCfg, Dev.when]
  rw [hd, regDo_lvlCfg]
  constructor
  · have hc : Changes [] [.axs] x (x.when (getF (d.reg (R.LVL_CFG a lvl)) F.LVL_CFG.LAW != getF (d.written (R.LVL_CFG a lvl) w)
        F.LVL_CFG.LAW) (·.transferLaw a [lvl])) := Changes.refl.when (transferLaw_changes x a _)
    rw [Dev.answer_fld, hc.fld_name (by decide), Dev.fld, hr, getF_written_lvlCfg]
  · intro h
    rw [← getF_written_lvlCfg d a lvl w] at h
    rw [Dev.when, if_pos (by simpa [Dev.fld] using Ne.symm h)]
    exact transferLaw_transfers x a (List.mem_singleton.2 rfl)

/-! ### Writes of FLT_CFG (R199) -/

/-- A commit of a filter answers what its check answers. -/
theorem filterCommit_status (d : Dev) (a k : Nat) (w : Word) : (d.filterCommit a k w).2 = (d.filterCheck a k w).1 := by
  unfold Dev.filterCommit
  generalize d.filterCheck a k w = q
  obtain ⟨st, cs⟩ := q
  dsimp only
  split
  · rfl
  · next h => exact (by simpa using h : st = .ok).symm

/-- A commit whose check passes: the slot shows KIND, and its new set waits for the next release. -/
theorem filterCommit_effect {d : Dev} {a k : Nat} {w : Word} (h : (d.filterCheck a k w).1 = .ok) :
    (d.filterCommit a k w).1.fld (R.FLT_CFG a k) F.FLT_CFG.KIND = getF w F.FLT_CFG.KIND ∧
    (tget ((d.filterCommit a k w).1.axSt a).flts k {}).next =
      some (getF w F.FLT_CFG.KIND, getF w F.FLT_CFG.LEVEL, (d.filterCheck a k w).2) := by
  unfold Dev.filterCommit
  generalize d.filterCheck a k w = q at h ⊢
  obtain ⟨st, cs⟩ := q
  obtain rfl : st = .ok := h
  dsimp -zeta only
  rw [if_neg (by decide)]
  extract_lets kind lvl d1 d2 x f
  have h1 : d1.fld (R.FLT_CFG a k) F.FLT_CFG.KIND = kind := by
    unfold d1
    rw [Dev.fld_setReg_same, getF_putF_field _ _ (by decide), getF_putF_getF _ _ (by decide)]
  have h2 : d2.reg (R.FLT_CFG a k) = d1.reg (R.FLT_CFG a k) := by
    unfold d2
    split
    · iterate 5 rw [Dev.reg_setRegI_other _ _ (by simp)]
    · rfl
  constructor
  · exact (congrArg (getF · F.FLT_CFG.KIND) h2).trans h1
  · rw [Dev.axSt_setAxSt_same, tget_tset_same]

theorem hostWrite_fltCfg {d : Dev} {ses a k : Nat} {w : Word} (hm : d.MayWrite ses (R.FLT_CFG a k))
    (h : (d.filterCheck a k w).1 = .ok) : d.hostWrite ses (R.FLT_CFG a k) w = (d.filterCommit a k w).1.answer .ok := by
  obtain ⟨x, -, hx⟩ := writeAddr_of_mayWrite d w hm
  obtain ⟨-, -, -, hsw, -⟩ := hm
  have hs := (filterCommit_status d a k w).trans h
  have hw : d.writeWord false ses (R.FLT_CFG a k) w = d.filterCommit a k w := by
    unfold Dev.writeWord
    extract_lets y old new none_ gate st
    have hg : lowest gate = .ok := by
      have hl : lockedChange y old w = false := rfl
      simp [gate, hl, hsw, need, lowest]
    have hro : RegName.FLT_CFG.info.readOnly ≠ true := by decide
    rw [if_neg hro, if_neg (by simp [RegName.everyWrite])]
    exact if_pos hg
  have hf : d.writeFor ses x (R.FLT_CFG a k) w = d.filterCommit a k w := hw
  unfold Dev.hostWrite
  rw [hx, hf]
  dsimp only
  rw [hs]

end Sys2Proof.Machine

namespace Sys2Proof.Machine

open Sys2Proof

/-! ### The control writes of an axis (R199, R212, R214 to R217) -/

/-- A command that writes AXIS_CTL completes: what follows the write keeps the fields as written. -/
theorem runs_axisWrite {i : Instr} {s : State} {ses a : Nat} {w : Word} {P : Dev → Prop} (hm : s.start.MayWrite ses (R.AXIS_CTL a))
    (hw : s.start.WriteOk (R.AXIS_CTL a) w) (hi : exec i s = s.runIf (decide (a < 8192)) fun d => d.hostWrite ses (R.AXIS_CTL a) w)
    (hon : s.On) (ha : a < 8192) (hP : ∀ e, Follows (s.start.hostWrite ses (R.AXIS_CTL a) w) e →
      (∀ f ∈ axCtlFlds, e.fld (R.AXIS_CTL a) f = getF w f) → P e) : Runs i s P :=
  runs_of_runIf hi hon (decide_eq_true ha) fun e hf =>
    hP e hf fun _ hmem => (hf.fld_own (by decide)).trans (hostWrite_axisCtl_fld hm hw hmem)

/-- Settles O19: each clause is the effect of its write, read in what follows it. -/
theorem axisControlComplete : Obligations.AxisControlComplete := by
  rintro s d rfl hon
  refine ⟨?enable, ?disable, ?manOn, ?manOff, ?clrflt, ?bank, ?law, ?filter⟩
  case enable =>
    intro ses a w ha hm he hw
    have hen := getF_putF_of_lt w (f := F.AXIS_CTL.EN) (v := 1) (by decide) (by decide)
    refine runs_axisWrite hm hw rfl hon ha fun e hf hfld => ?_
    rw [hf.axState, Dev.bit, hfld _ (by simp), hen]
    exact ⟨hostWrite_enables hm hw (by simpa [Dev.bit] using he) hen, rfl⟩
  case disable =>
    intro ses a w ha hm he hw
    have hen := getF_putF_of_lt w (f := F.AXIS_CTL.EN) (v := 0) (by decide) (by decide)
    refine runs_axisWrite hm hw rfl hon ha fun e hf hfld => ?_
    rw [hf.axState, Dev.bit, hfld _ (by simp), hen]
    exact ⟨hostWrite_disables hm hw (by simpa [Dev.bit] using he) hen, rfl⟩
  case manOn =>
    intro ses a w ha hm hw
    refine runs_axisWrite hm hw rfl hon ha fun e _ hfld => ?_
    rw [Dev.bit, hfld _ (by simp), getF_putF_of_lt w (by decide) (by decide)]
    rfl
  case manOff =>
    intro ses a w ha hm hw
    refine runs_axisWrite hm hw rfl hon ha fun e _ hfld => ?_
    rw [Dev.bit, hfld _ (by simp), getF_putF_of_lt w (by decide) (by decide)]
    rfl
  case clrflt =>
    intro ses a w ha hm he hw
    obtain ⟨hv, hr⟩ := hostWrite_clrFlt hm hw ((getF_putF_field w 1 (by decide)).trans he) (getF_putF_of_lt w (by decide) (by decide))
    refine runs_axisWrite hm hw rfl hon ha fun e hf _ => ?_
    rw [hf.bit_own (by decide), hf.fld_own (by decide), hf.fld_own (by decide), Dev.bit, hv]
    exact ⟨rfl, hr⟩
  case bank =>
    intro ses a w ha hm hw
    refine runs_axisWrite hm hw rfl hon ha fun e hf hfld => ⟨hfld _ (by simp), fun h lvl hl => ?_⟩
    rw [hf.axSt]
    exact hostWrite_bankTransfers hm hw h hl
  case law =>
    intro ses a lvl w ha hl hm hw
    refine runs_of_runIf (f := fun d => d.hostWrite ses (R.LVL_CFG a lvl) w) rfl hon (by simp [ha, hl]) fun e hf => ?_
    rw [hf.fld_own (by decide), hf.axSt]
    exact hostWrite_lvlCfg hm hw
  case filter =>
    intro ses a k w ha hk hm hc
    refine runs_of_runIf (f := fun d => d.hostWrite ses (R.FLT_CFG a k) w) rfl hon (by simp [ha, hk]) fun e hf => ?_
    rw [hostWrite_fltCfg hm hc] at hf
    rw [hf.fld_own (by decide), hf.axSt]
    exact filterCommit_effect hc

end Sys2Proof.Machine

namespace Sys2Proof.Machine

open Sys2Proof

/-! ### The state of a leg and of a carrier (R229, R236, R246) -/

theorem Dev.leg_setLeg (d : Dev) (k l : Nat) (x : LegSt) : (d.setLeg k x).leg l = if k = l then x else d.leg l := tget_tset _ _ _ _ _

@[simp] theorem Dev.leg_setLeg_same (d : Dev) (l : Nat) (x : LegSt) : (d.setLeg l x).leg l = x := tget_tset_same _ _ _ _

@[simp] theorem Dev.car_setCar_same (d : Dev) (c : Nat) (x : CarSt) : (d.setCar c x).car c = x := tget_tset_same _ _ _ _

@[simp] theorem Dev.leg_setCar (d : Dev) (c l : Nat) (x : CarSt) : (d.setCar c x).leg l = d.leg l := rfl

@[simp] theorem Dev.car_setLeg (d : Dev) (c l : Nat) (x : LegSt) : (d.setLeg l x).car c = d.car c := rfl

theorem Changes.leg {ns : List RegName} {ps : List Part} {d e : Dev} (h : Changes ns ps d e) (hp : Part.pwm ∉ ps) (l : Nat) :
    e.leg l = d.leg l := congrArg (fun p : PwmSt => tget p.legs l {}) (h.parts .pwm hp)

theorem Follows.car {d e : Dev} (h : Follows d e) (c : Nat) : e.car c = d.car c := by
  have hc := congrArg PwmSt.cars h.kept.pwm
  exact congrArg (tget · c {}) hc

/-- What of a leg does not hang on its gates stands after the command's effect (R252). -/
theorem Follows.leg_keeps {α : Type} {d e : Dev} (h : Follows d e) (l : Nat) (g : LegSt → α)
    (hg : ∀ x : LegSt, g { x with gate := 0, lowAt := none } = g x) : g (e.leg l) = g (d.leg l) := by
  rcases h.kept.legs l with hl | hl <;> rw [hl]
  exact hg _

/-- Gates that follow leave what of a leg does not hang on them. -/
theorem Dev.leg_gateFollows {α : Type} (d : Dev) (k l : Nat) (g : LegSt → α) (hg : ∀ x : LegSt, g { x with gate := 0, lowAt := none } = g x) :
    g ((d.gateFollows k).leg l) = g (d.leg l) := by
  rcases (gateFollows_kept d k).1.legs l with hl | hl <;> rw [hl]
  exact hg _

/-! ### Trips of a drive (R244, R245) -/

/-- A leg is tripped. -/
def Dev.LegTrips (d : Dev) (l : Nat) : Prop := (d.leg l).trip = true

theorem Dev.LegTrips.setLeg {d : Dev} {k l : Nat} {x : LegSt} (hx : x.trip = true) (h : k = l ∨ d.LegTrips l) : (d.setLeg k x).LegTrips l := by
  unfold Dev.LegTrips
  rw [Dev.leg_setLeg]
  split
  · exact hx
  · exact h.resolve_left ‹_›

/-- The trip of one leg: it is tripped, and those tripped already stay so. -/
theorem legTrips_of_tripped {d : Dev} {k l : Nat} (h : k = l ∨ d.LegTrips l) :
    (((d.setLeg k { d.leg k with trip := true }).setReg (legReg R.PWM_LEG_ACC k) 0).gateFollows k).LegTrips l :=
  (Dev.leg_gateFollows _ k l LegSt.trip fun _ => rfl).trans (Dev.LegTrips.setLeg (d := d) (x := { d.leg k with trip := true }) rfl h)

/-- The legs of a drive. -/
def driveLegs (c i : Nat) : List Nat := [12 * c + 3 * i, 12 * c + 3 * i + 1, 12 * c + 3 * i + 2]

theorem tripDrive_react (d : Dev) (c i : Nat) {P : Dev → Prop} (h : P (d.each (driveLegs c i) fun d l =>
    ((d.setLeg l { d.leg l with trip := true }).setReg (legReg R.PWM_LEG_ACC l) 0).gateFollows l))
    (hr : ∀ (x : Dev) a, P x → P (x.react a 4 7)) : P (d.tripDrive c i) := by
  unfold Dev.tripDrive
  extract_lets d1
  split
  · exact hr _ _ h
  · exact h

theorem LegTrips.react {d : Dev} {a l : Nat} (h : d.LegTrips l) : (d.react a 4 7).LegTrips l := by
  unfold Dev.LegTrips
  rw [(react_changes d a 4 7 false).leg (by decide)]
  exact h

theorem tripDrive_trips (d : Dev) (c i : Nat) {l : Nat} (hl : l ∈ driveLegs c i) : (d.tripDrive c i).LegTrips l :=
  tripDrive_react d c i (P := (Dev.LegTrips · l))
    (Dev.each_all (P := fun l d => d.LegTrips l) (fun _ _ => legTrips_of_tripped (.inl rfl)) (fun _ _ _ h => legTrips_of_tripped (.inr h)) d l hl)
    fun _ _ h => LegTrips.react h

theorem tripDrive_keeps (d : Dev) (c i : Nat) {l : Nat} (h : d.LegTrips l) : (d.tripDrive c i).LegTrips l :=
  tripDrive_react d c i (P := (Dev.LegTrips · l)) (Dev.each_keeps (Q := (Dev.LegTrips · l)) (fun _ _ _ h => legTrips_of_tripped (.inr h)) h)
    fun _ _ h => LegTrips.react h

theorem gateFollows_changes (d : Dev) (l : Nat) : Changes [] [.pwm] d (d.gateFollows l) := by
  unfold Dev.gateFollows
  extract_lets x
  exact Changes.refl.ite Changes.refl.setLeg.emit

theorem tripDrive_changes (d : Dev) (c i : Nat) :
    Changes [.AXIS_STAT, .DIO_OUT, .PWM_LEG_ACC] [.axs, .cap, .dio, .engs, .pwm] d (d.tripDrive c i) :=
  tripDrive_react d c i (P := fun x => Changes [.AXIS_STAT, .DIO_OUT, .PWM_LEG_ACC] [.axs, .cap, .dio, .engs, .pwm] d x)
    (Changes.refl.each fun _ l _ h => Changes.step (Changes.setReg h.setLeg) (gateFollows_changes _ l))
    fun x a h => h.step (react_changes x a _ _ _)

/-- The trip of the drives `is` of a connector, one after another. -/
theorem tripDrives_trips (d : Dev) (c : Nat) {is : List Nat} {i l : Nat} (hi : i ∈ is) (hl : l ∈ driveLegs c i) :
    (d.each is fun d i => d.tripDrive c i).LegTrips l :=
  Dev.each_all (P := fun i d => ∀ l ∈ driveLegs c i, d.LegTrips l) (fun x i _ h => tripDrive_trips x c i h)
    (fun x j _ hx k hk => tripDrive_keeps x c j (hx k hk)) d i hi l hl

theorem tripDrives_changes (d : Dev) (c : Nat) (is : List Nat) :
    Changes [.AXIS_STAT, .DIO_OUT, .PWM_LEG_ACC] [.axs, .cap, .dio, .engs, .pwm] d (d.each is fun d i => d.tripDrive c i) :=
  Changes.refl.each fun x i _ h => h.step (tripDrive_changes x c i)

theorem mem_driveLegs {c l : Nat} (hl : l ∈ legsOf c) : ∃ i ∈ [0, 1, 2, 3], l ∈ driveLegs c i := by
  obtain ⟨j, hj, rfl⟩ := List.mem_map.1 hl
  have hj := List.mem_range.1 hj
  refine ⟨j / 3, ?_, ?_⟩
  · simp only [List.mem_cons, List.not_mem_nil, or_false]
    omega
  · simp only [driveLegs, List.mem_cons, List.not_mem_nil, or_false]
    omega

/-! ### Carriers (R246, R251) -/

/-- PRES is lost: neither PRESENT nor TYPEOK shows, and every leg of the connector is tripped. -/
theorem carRemoved_effect {d : Dev} {c : Nat} (h : d.bit (R.PWM_DRV_STAT c) F.PWM_DRV_STAT.PRESENT = true) :
    (d.carRemoved c).fld (R.PWM_DRV_STAT c) F.PWM_DRV_STAT.PRESENT = 0 ∧ (d.carRemoved c).fld (R.PWM_DRV_STAT c) F.PWM_DRV_STAT.TYPEOK = 0 ∧
    ∀ l ∈ legsOf c, (d.carRemoved c).LegTrips l := by
  unfold Dev.carRemoved
  rw [if_neg (by simp [h])]
  extract_lets x d1
  have hs := tripDrives_changes (d1.evAt 0x5002 5 c none [0]) c [0, 1, 2, 3]
  have hf {f : Fld} : (d1.evAt 0x5002 5 c none [0]).fld (R.PWM_DRV_STAT c) f =
    ((d.setFld (R.PWM_DRV_STAT c) F.PWM_DRV_STAT.PRESENT 0).setFld (R.PWM_DRV_STAT c) F.PWM_DRV_STAT.TYPEOK 0).fld (R.PWM_DRV_STAT c) f := rfl
  refine ⟨?_, ?_, fun l hl => ?_⟩
  · rw [hs.fld_name (by decide), hf, Dev.fld_setFld_field _ (by decide), Dev.fld_setFld_of_lt _ (by decide) (by decide)]
  · rw [hs.fld_name (by decide), hf, Dev.fld_setFld_of_lt _ (by decide) (by decide)]
  · obtain ⟨i, hi, hm⟩ := mem_driveLegs hl
    exact tripDrives_trips _ c hi hm

theorem carInserted_effect {d : Dev} {c : Nat} (h : d.bit (R.PWM_DRV_STAT c) F.PWM_DRV_STAT.PRESENT = false) :
    (d.carInserted c).fld (R.PWM_DRV_STAT c) F.PWM_DRV_STAT.PRESENT = 1 ∧ ((d.carInserted c).car c).reading = true := by
  unfold Dev.carInserted Dev.carIdStart
  rw [if_neg (by simp [h])]
  constructor
  · rw [Dev.fld_setFld_field _ (by decide)]
    exact Dev.fld_setFld_of_lt d (by decide) (by decide)
  · exact congrArg CarSt.reading (Dev.car_setCar_same _ c _)

/-- What the end of the reading of a carrier's identification stores, before TYPEOK follows. -/
theorem carIdDone_changes (d : Dev) (c : Nat) (b : List Byte) (h : (d.car c).reading = true) : ∃ x y : Dev,
    x.car c = { d.car c with reading := false, crcOk := decide ((crc32 (slice b 0 60)).toNat = uAt b 60 4), fmax := uAt b 10 2 } ∧
    x.reg (R.PWM_DRV_TYPE c) = wN (uAt b 0 4) ∧ x.reg (R.PWM_DRV_SERIAL c) = wN (uAt b 4 4) ∧
    Changes [.PWM_DRV_STAT] [] x y ∧ d.carIdDone c b = y := by
  unfold Dev.carIdDone
  rw [if_neg (by simp [h])]
  extract_lets ok x d1 d2
  refine ⟨d1, _, Dev.car_setCar_same d c _, ?_, ?_, ?_, rfl⟩
  · unfold d1
    rw [Dev.reg_setReg_other _ _ (addr_ne (by decide) _ _ _ _), Dev.reg_setReg_other _ _ (addr_ne (by decide) _ _ _ _), Dev.reg_setReg_same]
  · unfold d1
    rw [Dev.reg_setReg_other _ _ (addr_ne (by decide) _ _ _ _), Dev.reg_setReg_same]
  · have h2 : Changes [.PWM_DRV_STAT] [] d1 d2 := Changes.refl.setFld
    exact h2.ite (h2.of_still rfl fun p => by cases p <;> rfl)

theorem Changes.car {ns : List RegName} {ps : List Part} {d e : Dev} (h : Changes ns ps d e) (hp : Part.pwm ∉ ps) (c : Nat) :
    e.car c = d.car c := congrArg (fun p : PwmSt => tget p.cars c {}) (h.parts .pwm hp)

/-! ### Sigma-delta inputs (R248) -/

theorem Dev.chanSt_chanValid (d : Dev) (c k : Nat) (v : Bool) :
    (d.chanValid c v).chanSt k = if c = k then { d.chanSt c with valid := v } else d.chanSt k := tget_tset _ _ _ _ _

/-- The channels of a source all lose or regain their validity. -/
theorem chanValid_all (d : Dev) (l : List Nat) (v : Bool) : ∀ k ∈ l, ((d.each l fun d k => d.chanValid k v).chanSt k).valid = v := by
  refine Dev.each_all (P := fun k d => (d.chanSt k).valid = v) (fun x k => ?_) (fun x j k h => ?_) d
  · rw [Dev.chanSt_chanValid, if_pos rfl]
  · rw [Dev.chanSt_chanValid]
    split
    · rfl
    · exact h

theorem chanValid_changes (d : Dev) (l : List Nat) (v : Bool) : Changes [] [.engs] d (d.each l fun d k => d.chanValid k v) :=
  Changes.refl.each fun _ _ _ h => h.engs

theorem Follows.chanSt {d e : Dev} (h : Follows d e) (k : Nat) : e.chanSt k = d.chanSt k := by simp only [Dev.chanSt, h.kept.engs]

theorem sdLoss_effect (d : Dev) (c j : Nat) : (d.sdLoss c j).bit (R.SD_CFG c j) F.SD_CFG.LOSS = true ∧
    (d.bit (R.SD_CFG c j) F.SD_CFG.LOSS = false → ∀ k ∈ d.chansOf 0 (sdSrc c j), ((d.sdLoss c j).chanSt k).valid = false) := by
  unfold Dev.sdLoss
  split
  · next h => exact ⟨h, fun hn => absurd (h.symm.trans hn) (by decide)⟩
  · constructor
    · rw [Dev.evAt_bit, Dev.bit, (chanValid_changes _ _ _).fld_name (by decide), Dev.fld_setFld_of_lt _ (by decide) (by decide)]
      rfl
    · exact fun _ => chanValid_all (d.setFld (R.SD_CFG c j) F.SD_CFG.LOSS 1) _ _

theorem sdLossClear_effect (d : Dev) (c j : Nat) : (d.sdLossClear c j).bit (R.SD_CFG c j) F.SD_CFG.LOSS = false ∧
    ∀ k ∈ d.chansOf 0 (sdSrc c j), ((d.sdLossClear c j).chanSt k).valid = true := by
  unfold Dev.sdLossClear
  constructor
  · rw [Dev.bit, (chanValid_changes _ _ _).fld_name (by decide), Dev.fld_setFld_of_lt _ (by decide) (by decide)]
    rfl
  · exact chanValid_all _ _ _

/-- Settles O22: each clause is the effect of its command, read in what follows it. -/
theorem carriersComplete : Obligations.CarriersComplete := by
  rintro s d rfl hon
  refine ⟨?removed, ?inserted, ?idDone, ?loss, ?lossClear⟩
  case removed =>
    intro c hc hp
    obtain ⟨h1, h2, h3⟩ := carRemoved_effect hp
    refine runs_of_runIf (f := fun d => d.carRemoved c) rfl hon (by simp [hc]) fun e he => ?_
    rw [he.bit_own (by decide), he.bit_own (by decide), Dev.bit, Dev.bit, h1, h2]
    exact ⟨rfl, rfl, fun l hl => (he.leg_keeps l LegSt.trip fun _ => rfl).trans (h3 l hl)⟩
  case inserted =>
    intro c hc hp
    obtain ⟨h1, h2⟩ := carInserted_effect hp
    refine runs_of_runIf (f := fun d => d.carInserted c) rfl hon (by simp [hc]) fun e he => ?_
    rw [he.bit_own (by decide), he.car, Dev.bit, h1]
    exact ⟨rfl, h2⟩
  case idDone =>
    intro c b hc hr
    obtain ⟨x, y, h1, h2, h3, hy, h⟩ := carIdDone_changes s.start c b hr
    refine runs_of_runIf (f := fun d => d.carIdDone c b) rfl hon (by simp [hc]) fun e he => ?_
    rw [he.car, he.reg_own (by decide), he.reg_own (by decide), h, hy.car (by decide), hy.reg_name (by decide), hy.reg_name (by decide), h1]
    exact ⟨rfl, h2, h3, rfl⟩
  case loss =>
    intro c j hc hj
    obtain ⟨h1, h2⟩ := sdLoss_effect s.start c j
    refine runs_of_runIf (f := fun d => d.sdLoss c j) rfl hon (by simp [hc, hj]) fun e he => ?_
    rw [he.bit_own (by decide)]
    exact ⟨h1, fun h k hk => by rw [he.chanSt]; exact h2 h k hk⟩
  case lossClear =>
    intro c j hc hj
    obtain ⟨h1, h2⟩ := sdLossClear_effect s.start c j
    refine runs_of_runIf (f := fun d => d.sdLossClear c j) rfl hon (by simp [hc, hj]) fun e he => ?_
    rw [he.bit_own (by decide)]
    exact ⟨h1, fun k hk => by rw [he.chanSt]; exact h2 k hk⟩

end Sys2Proof.Machine

namespace Sys2Proof.Machine

open Sys2Proof

/-! ### The registers of the legs, which lie between each other (R229) -/

/-- The names whose registers lie between those of one leg and the next. -/
def legNames : List RegName :=
  [.PWM_LEG_CFG, .PWM_LEG_DT, .PWM_CMP_LO, .PWM_CMP_HI, .PWM_LEG_CTL, .PWM_LEG_STAT, .PWM_LEG_NAT, .PWM_LEG_CNT, .PWM_LEG_ACC]

/-- Each name has its own place among the 64 bytes of a leg. -/
theorem addr_mod_leg {n : RegName} (h : n ∈ legNames) (i j : Nat) : Reg.addr ⟨n, i, j⟩ % 64 = n.info.base % 64 := by
  fin_cases h <;>
  · simp only [Reg.addr, RegName.info]
    omega

/-- The registers of two names are told apart by their ranges, or by their places in a leg. -/
def RegName.legApart (n m : RegName) : Bool :=
  n.info.apart m.info || (legNames.contains n && legNames.contains m && n.info.base % 64 != m.info.base % 64)

theorem addr_ne_of_legApart {n m : RegName} (h : n.legApart m = true) (i j k l : Nat) : Reg.addr ⟨n, i, j⟩ ≠ Reg.addr ⟨m, k, l⟩ := by
  simp only [RegName.legApart, Bool.or_eq_true, Bool.and_eq_true, List.contains_iff_mem, bne_iff_ne] at h
  rcases h with h | ⟨⟨hn, hm⟩, hne⟩
  · exact addr_ne h i j k l
  · intro ha
    exact hne ((addr_mod_leg hn i j).symm.trans ((congrArg (· % 64) ha).trans (addr_mod_leg hm k l)))

theorem Changes.reg_leg {ns : List RegName} {ps : List Part} {d e : Dev} (h : Changes ns ps d e) {n : RegName} {i j : Nat}
    (hn : ns.all (·.legApart n) = true) : e.reg ⟨n, i, j⟩ = d.reg ⟨n, i, j⟩ :=
  h.regs _ fun ⟨m, hm, k, l, ha⟩ => addr_ne_of_legApart (List.all_eq_true.1 hn m hm) k l i j ha.symm

theorem Changes.fld_leg {ns : List RegName} {ps : List Part} {d e : Dev} (h : Changes ns ps d e) {n : RegName} {i j : Nat} {f : Fld}
    (hn : ns.all (·.legApart n) = true) : e.fld ⟨n, i, j⟩ f = d.fld ⟨n, i, j⟩ f := congrArg (getF · f) (h.reg_leg hn)

theorem Changes.bit_leg {ns : List RegName} {ps : List Part} {d e : Dev} (h : Changes ns ps d e) {n : RegName} {i j : Nat} {f : Fld}
    (hn : ns.all (·.legApart n) = true) : e.bit ⟨n, i, j⟩ f = d.bit ⟨n, i, j⟩ f := congrArg (· == 1) (h.fld_leg hn)

/-- The number of a leg from those of its connector and its place there. -/
theorem leg_of_place (l : Nat) : 12 * (l / 12) + l % 12 = l := Nat.div_add_mod l 12

theorem legsOf_nodup (c : Nat) : (legsOf c).Nodup := List.nodup_range.map fun _ _ h => by simpa using h

theorem conn_of_mem_legsOf {c l : Nat} (h : l ∈ legsOf c) : l / 12 = c := by
  obtain ⟨j, hj, rfl⟩ := List.mem_map.1 h
  have := List.mem_range.1 hj
  omega

/-! ### Commits (R235, R236) -/

/-- A commit gives the pair and its clock; of the rest of the leg it changes only the pair before (R235). -/
theorem commitPair_leg (d : Dev) (l : Nat) (pair : Nat × Nat) : (d.commitPair l pair).leg l = (d.leg l).commit d.clk pair := by
  have h : ∀ (x : Dev) (b : Bool), (x.when b fun d => d.bump (legReg R.PWM_LEG_CNT l) F.PWM_LEG_CNT.LATE 1).leg l = x.leg l :=
    fun x b => Changes.leg (ns := [.PWM_LEG_CNT]) (ps := []) (Changes.refl.when Changes.refl.bump) (by decide) l
  exact (h _ _).trans (d.leg_setLeg_same l _)

/-- What a commit answers to the state of its leg. -/
theorem directCommit_commits (d : Dev) (l : Nat) (pair : Nat × Nat) :
    ((d.directCommit l pair).leg l).commClk = d.clk ∧ ((d.directCommit l pair).leg l).comm = pair := by
  unfold Dev.directCommit
  rw [commitPair_leg]
  exact ⟨rfl, rfl⟩

theorem Follows.commits {d e : Dev} (h : Follows d e) (l : Nat) : (e.leg l).commClk = (d.leg l).commClk ∧ (e.leg l).comm = (d.leg l).comm :=
  ⟨h.leg_keeps l LegSt.commClk fun _ => rfl, h.leg_keeps l LegSt.comm fun _ => rfl⟩

/-- An accepted write of the _LO half of a pair of which every write acts commits the pair, and the held half is used up (R8). -/
theorem hostWrite_pair {d : Dev} {ses : Nat} {r : Reg} {h : RegName} {w : Word} (hm : d.MayWrite ses r) (hh : r.name.hi? = some h)
    (hi : r.name.isHi = false) (hr : r.name.info.readOnly = false) (he : r.name.everyWrite = true)
    (hc : lowest (d.pairCheck r (d.pairValue ses r { r with name := h } w)) = .ok) :
    ∃ t, d.hostWrite ses r w = ((d.pairDo r { r with name := h } (d.pairValue ses r { r with name := h } w)).setHeld ses t).answer .ok := by
  obtain ⟨x, hx, ha⟩ := writeAddr_of_mayWrite d w hm
  obtain ⟨-, -, -, hs, -⟩ := hm
  have hv : d.pairValue ses r { r with name := h } w =
      signed 64 (w.toNat + 2 ^ 32 * ((tget? x.held (Reg.addr { r with name := h })).getD (d.presentHi r { r with name := h })).toNat) := by
    simp only [Dev.pairValue, hx, Option.bind_some]
  rw [hv] at hc ⊢
  refine ⟨tdel x.held (Reg.addr { r with name := h }), ?_⟩
  generalize hwh : (tget? x.held (Reg.addr { r with name := h })).getD (d.presentHi r { r with name := h }) = wh at hc ⊢
  have hg : lowest (need (false || !d.inSwitch || !switchBlks.contains (blkOf r.addr)) .busy ::
      d.pairCheck r (signed 64 (w.toNat + 2 ^ 32 * wh.toNat))) = .ok := by
    simp only [hs, need, Bool.not_false, Bool.or_true, Bool.true_or, if_true, lowest, hc]
  have hp : d.writePair false r { r with name := h } w wh =
      (d.pairDo r { r with name := h } (signed 64 (w.toNat + 2 ^ 32 * wh.toNat)), .ok) := by
    unfold Dev.writePair
    dsimp only
    rw [if_neg (by simp [hr]), if_neg (by simp [he]), if_pos hg]
  unfold Dev.hostWrite
  rw [ha]
  simp only [Dev.writeFor, hi, hh, hwh, hp, Bool.false_eq_true, if_false, if_true]

/-- The value of a pair has the written word in its lower half. -/
theorem modN_pairValue (d : Dev) (ses : Nat) (lo hi : Reg) (w : Word) : modN 64 (d.pairValue ses lo hi w) % 2 ^ 32 = w.toNat := by
  unfold Dev.pairValue
  generalize ((tget? d.host.sess ses).bind fun x => tget? x.held hi.addr).getD (d.presentHi lo hi) = wh
  have hw := w.isLt
  have hh := wh.isLt
  rw [modN_signed (by omega)]
  omega

theorem pairDo_cmpLo (d : Dev) (l : Nat) (hi : Reg) (v : Int) : d.pairDo (legReg R.PWM_CMP_LO l) hi v =
    d.directCommit l (modN 64 v % 2 ^ 26, modN 64 v / 2 ^ 32 % 2 ^ 26) := by
  show d.directCommit (12 * (l / 12) + l % 12) _ = _
  rw [leg_of_place]

theorem Dev.leg_setHeld (d : Dev) (ses l : Nat) (t : Tab Word) : (d.setHeld ses t).leg l = d.leg l := by
  unfold Dev.setHeld
  split <;> rfl

/-- An accepted write of PWM_CMP_LO commits the pair that it makes with the half held (R8, R235). -/
theorem hostWrite_cmpLo {d : Dev} {ses l : Nat} {w : Word} (hm : d.MayWrite ses (legReg R.PWM_CMP_LO l))
    (hc : lowest (d.pairCheck (legReg R.PWM_CMP_LO l) (d.pairValue ses (legReg R.PWM_CMP_LO l) (legReg R.PWM_CMP_HI l) w)) = .ok) :
    ((d.hostWrite ses (legReg R.PWM_CMP_LO l) w).leg l).commClk = d.clk ∧
    ((d.hostWrite ses (legReg R.PWM_CMP_LO l) w).leg l).comm.1 = w.toNat % 2 ^ 26 := by
  obtain ⟨t, ht⟩ := hostWrite_pair (h := .PWM_CMP_HI) hm rfl rfl rfl rfl hc
  have hv := modN_pairValue d ses (legReg R.PWM_CMP_LO l) (legReg R.PWM_CMP_HI l) w
  rw [pairDo_cmpLo] at ht
  have hl : (d.hostWrite ses (legReg R.PWM_CMP_LO l) w).leg l = _ := (congrArg (Dev.leg · l) ht).trans (Dev.leg_setHeld _ ses l t)
  obtain ⟨h1, h2⟩ := directCommit_commits d l (modN 64 (d.pairValue ses (legReg R.PWM_CMP_LO l) (legReg R.PWM_CMP_HI l) w) % 2 ^ 26,
    modN 64 (d.pairValue ses (legReg R.PWM_CMP_LO l) (legReg R.PWM_CMP_HI l) w) / 2 ^ 32 % 2 ^ 26)
  rw [hl]
  refine ⟨h1, (congrArg Prod.fst h2).trans ?_⟩
  dsimp only
  omega

/-! ### Writes of PWM_LEG_CTL (R235, R239, R242) -/

theorem regDo_legCtl (d : Dev) (ses l : Nat) (old new w : Word) : d.regDo ses (legReg R.PWM_LEG_CTL l) old new w = d.legCtlDo l old w := by
  have hb : blkOf (legReg R.PWM_LEG_CTL l).addr = .pwm := by
    rw [legReg, addr_PWM_LEG_CTL]
    exact blkOf_pwm (by omega) (by omega)
  unfold Dev.regDo
  rw [hb]
  show d.legCtlDo (12 * (l / 12) + l % 12) old w = _
  rw [leg_of_place]

/-- A write of PWM_LEG_CTL that commits or clears. -/
theorem hostWrite_legCtl {d : Dev} {ses l : Nat} {w : Word} (hm : d.MayWrite ses (legReg R.PWM_LEG_CTL l))
    (hw : d.WriteOk (legReg R.PWM_LEG_CTL l) w) (ha : getF w F.PWM_LEG_CTL.COMMIT = 1 ∨ getF w F.PWM_LEG_CTL.CLRACC = 1) :
    ∃ x, Changes [.PWM_LEG_CTL] [] d x ∧
      d.hostWrite ses (legReg R.PWM_LEG_CTL l) w = (x.legCtlDo l (d.reg (legReg R.PWM_LEG_CTL l)) w).answer .ok := by
  have hacts : writeActs RegName.PWM_LEG_CTL.info w = true := by
    rcases ha with h | h <;> simp [writeActs, RegName.info, h]
  refine ⟨d.setReg (legReg R.PWM_LEG_CTL l) (d.written (legReg R.PWM_LEG_CTL l) w), (Changes.refl.setReg).use (by decide), ?_⟩
  rw [hostWrite_ok d ses _ w hm (.inr (.inl hacts)) hw rfl, regDo_legCtl]

/-- The accumulator, then DEN, then the commit. -/
theorem legCtlDo_eq (d : Dev) (l : Nat) (old w : Word) : d.legCtlDo l old w =
    (((d.when (getF w F.PWM_LEG_CTL.CLRACC == 1) (·.clearAcc l)).when (getF old F.PWM_LEG_CTL.DEN == 0 && getF w F.PWM_LEG_CTL.DEN == 1 &&
      d.bit (legReg R.PWM_LEG_CFG l) F.PWM_LEG_CFG.SRC) (·.legAnew l)).when (getF w F.PWM_LEG_CTL.COMMIT == 1)
        (·.directCommit l (d.leg l).comm)) := rfl

/-- A commit by PWM_LEG_CTL commits the pair as it stands (R235). -/
theorem legCtlDo_commits (d : Dev) (l : Nat) (old : Word) {w : Word} (h : getF w F.PWM_LEG_CTL.COMMIT = 1) :
    ((d.legCtlDo l old w).leg l).commClk = d.clk ∧ ((d.legCtlDo l old w).leg l).comm = (d.leg l).comm := by
  rw [legCtlDo_eq]
  generalize hx : (d.when (getF w F.PWM_LEG_CTL.CLRACC == 1) (·.clearAcc l)).when _ (·.legAnew l) = x
  have h1 : Changes [.PWM_LEG_ACC, .PWM_LEG_CNT, .PWM_LEG_STAT] [.pwm] d (d.when (getF w F.PWM_LEG_CTL.CLRACC == 1) (·.clearAcc l)) :=
    Changes.refl.when (clearAcc_changes d l)
  have hc : Changes [.PWM_LEG_ACC, .PWM_LEG_CNT, .PWM_LEG_STAT] [.pwm] d x := hx ▸ h1.when (h1.step (legAnew_changes _ l))
  rw [Dev.when, if_pos (by simp [h]), ← show x.clk = d.clk from hc.parts .clk (by decide)]
  exact directCommit_commits x l _

/-! ### The accumulator (R241, R242) -/

theorem Changes.clk {ns : List RegName} {ps : List Part} {d e : Dev} (h : Changes ns ps d e) (hp : Part.clk ∉ ps) : e.clk = d.clk :=
  h.parts .clk hp

/-- The forming of a pulse changes of a leg what its gates do, and leaves all carriers. -/
theorem legForm_pwm (d : Dev) (l : Nat) : ∃ g t s, (d.legForm l).pwm = (d.setLeg l { d.leg l with gate := g, lowAt := t, skipped := s }).pwm := by
  unfold Dev.legForm
  dsimp -zeta only
  extract_lets c x st hl lh per u centre g skip cnt d1 d2 d3
  have h2 : Changes [.PWM_LEG_CNT] [] d1 d2 := Changes.refl.ite (Changes.refl.bump.ite Changes.refl.setFld)
  have h3 : Changes [.PWM_LEG_CNT, .PWM_LEG_STAT, .PWM_LEG_ACC] [] d1 d3 := h2.within.setFld.setFld.setFld.setReg
  exact ⟨_, _, _, h3.parts .pwm (by decide)⟩

theorem legForm_car (d : Dev) (l c : Nat) : (d.legForm l).car c = d.car c := by
  obtain ⟨g, t, s, h⟩ := legForm_pwm d l
  have hc := congrArg PwmSt.cars h
  exact congrArg (tget · c {}) hc

theorem legForm_leg {α : Type} (d : Dev) (l k : Nat) (f : LegSt → α)
    (hf : ∀ (x : LegSt) g t s, f { x with gate := g, lowAt := t, skipped := s } = f x) : f ((d.legForm l).leg k) = f (d.leg k) := by
  obtain ⟨g, t, s, h⟩ := legForm_pwm d l
  have hl : (d.legForm l).leg k = (d.setLeg l { d.leg l with gate := g, lowAt := t, skipped := s }).leg k :=
    congrArg (fun p : PwmSt => tget p.legs k {}) h
  rw [hl, Dev.leg_setLeg]
  split
  · subst_vars
    exact hf _ _ _ _
  · rfl

theorem clearAcc_car (d : Dev) (l c : Nat) : (d.clearAcc l).car c = d.car c := by
  unfold Dev.clearAcc
  extract_lets d1
  split
  · exact legForm_car _ l c
  · rfl

/-- The accumulator of a leg is clear in `e`, or its period has started in the clock of `d`, from an accumulator of 0 (R242, R253). -/
def AccCleared (d e : Dev) (l : Nat) : Prop :=
  e.reg (legReg R.PWM_LEG_ACC l) = 0 ∨ (d.car (l / 12)).startClk = some d.clk ∧ (e.leg l).accIn = 0

theorem clearAcc_cleared {d e : Dev} {l : Nat} (hc : e.car (l / 12) = d.car (l / 12)) (hk : e.clk = d.clk) : AccCleared d (e.clearAcc l) l := by
  unfold Dev.clearAcc
  extract_lets d1
  split
  · next hs =>
    simp only [Dev.legStarts, Bool.and_eq_true, beq_iff_eq] at hs
    obtain ⟨⟨hst, -⟩, -⟩ := hs
    refine .inr ⟨by rw [← hc, ← hk, hst], ?_⟩
    rw [legForm_leg _ l l LegSt.accIn fun _ _ _ _ => rfl, Dev.leg_setLeg_same]
  · exact .inl (Dev.reg_setReg_same _ _ _)

theorem AccCleared.directCommit {d e : Dev} {l : Nat} (h : AccCleared d e l) (pair : Nat × Nat) : AccCleared d (e.directCommit l pair) l := by
  refine h.imp (fun hr => ?_) fun ⟨hs, ha⟩ => ⟨hs, ?_⟩
  · exact ((commitPair_changes e l pair).reg_leg (n := .PWM_LEG_ACC) (by decide)).trans hr
  · unfold Dev.directCommit
    rw [commitPair_leg]
    exact ha

theorem AccCleared.follows {d x e : Dev} {l : Nat} (h : AccCleared d x l) (he : Follows x e) : AccCleared d e l :=
  h.imp (he.reg_own (n := .PWM_LEG_ACC) (by decide)).trans fun ⟨hs, ha⟩ => ⟨hs, (he.leg_keeps l LegSt.accIn fun _ => rfl).trans ha⟩

/-- CLRACC clears the accumulator; the start of DEN and the commit after it keep it clear (R242). -/
theorem legCtlDo_cleared {d x : Dev} (hc : Changes [.PWM_LEG_CTL] [] d x) (l : Nat) (old : Word) {w : Word} (h : getF w F.PWM_LEG_CTL.CLRACC = 1) :
    AccCleared d (x.legCtlDo l old w) l := by
  have hcar : x.car (l / 12) = d.car (l / 12) := hc.car (by decide) _
  have hclk : x.clk = d.clk := hc.parts .clk (by decide)
  have h1 : AccCleared d (x.clearAcc l) l := clearAcc_cleared hcar hclk
  have hclk1 : (x.clearAcc l).clk = d.clk := ((clearAcc_changes x l).clk (by decide)).trans hclk
  have h2 (b : Bool) : AccCleared d ((x.clearAcc l).when b (·.legAnew l)) l := by
    unfold Dev.when
    split
    · exact clearAcc_cleared ((clearAcc_car x l _).trans hcar) hclk1
    · exact h1
  rw [legCtlDo_eq, show x.when (getF w F.PWM_LEG_CTL.CLRACC == 1) (·.clearAcc l) = x.clearAcc l from if_pos (by simp [h])]
  generalize hy : Dev.when (x.clearAcc l) _ (·.legAnew l) = y
  have hy : AccCleared d y l := hy ▸ h2 _
  unfold Dev.when
  split
  · exact hy.directCommit _
  · exact hy

/-! ### The reload sample (R236) -/

/-- The reload sample of a leg takes the last pair that an earlier clock committed. -/
theorem reloadLeg_next (d : Dev) (l : Nat) : ((d.reloadLeg l).leg l).next = if (d.leg l).commClk < d.clk then (d.leg l).comm else (d.leg l).prev := by
  unfold Dev.reloadLeg
  dsimp only
  split
  · rw [Dev.leg_setLeg_same]
  · exact congrArg LegSt.next (Dev.leg_setLeg_same _ _ _)

theorem reloadLeg_other (d : Dev) {l k : Nat} (h : l ≠ k) : (d.reloadLeg l).leg k = d.leg k := by
  have hs (x : LegSt) : (d.setLeg l x).leg k = d.leg k := by rw [Dev.leg_setLeg, if_neg h]
  unfold Dev.reloadLeg
  dsimp only
  split
  · exact hs _
  · exact hs _

theorem reloadLeg_changes (d : Dev) (l : Nat) : Changes [.PWM_LEG_CNT] [.pwm] d (d.reloadLeg l) := by
  unfold Dev.reloadLeg
  extract_lets x
  exact Changes.refl.setLeg.ite (Changes.bump Changes.refl.setLeg)

theorem reloadSample_next {d : Dev} {c : Nat} (h : (d.car c).lastReload ≠ some ((d.ns + 2048) / d.pwmNs c)) {l : Nat} (hl : l ∈ legsOf c) :
    ((d.reloadSample c).leg l).next = if (d.leg l).commClk < d.clk then (d.leg l).comm else (d.leg l).prev := by
  unfold Dev.reloadSample
  dsimp only
  rw [if_neg (by simpa using h)]
  refine Dev.each_at (Q := fun x => x.leg l = d.leg l ∧ x.clk = d.clk)
    (P := fun x => (x.leg l).next = if (d.leg l).commClk < d.clk then (d.leg l).comm else (d.leg l).prev) hl (legsOf_nodup c)
    (fun x k _ hk ⟨h1, h2⟩ => ⟨(reloadLeg_other x hk).trans h1, ((reloadLeg_changes x k).clk (by decide)).trans h2⟩)
    (fun x ⟨h1, h2⟩ => ?_) (fun x k _ hk hx => by rw [reloadLeg_other x hk, hx]) ⟨rfl, rfl⟩
  rw [reloadLeg_next, h1, h2]

/-! ### The start of a period (R231, R241) -/

/-- The registers of a leg that the start of its period sets. -/
abbrev periodNames : List RegName := [.PWM_CMP_HI, .PWM_CMP_LO, .PWM_LEG_ACC, .PWM_LEG_CNT, .PWM_LEG_NAT, .PWM_LEG_STAT]

/-- The start of a leg's period takes its next pair into use, and forms its pulse if it runs. -/
theorem legPeriod_eq (d : Dev) (l : Nat) : ∃ x y, y.use = (d.leg l).next ∧ x.out = d.out ∧ Changes periodNames [] (d.setLeg l y) x ∧
    d.legPeriod l = if d.legRuns l then x.legForm l else x := by
  unfold Dev.legPeriod
  extract_lets x st hl lh y d1 nat d2 d3
  have h1 : Changes periodNames [] (d.setLeg l y) d1 := Changes.refl.setFld.setFld
  have h2 : Changes periodNames [] (d.setLeg l y) d2 := h1.setFld.setFld
  have h3 : Changes periodNames [] (d.setLeg l y) d3 := h2.setReg.setReg
  exact ⟨d3, y, rfl, rfl, h3, rfl⟩

theorem legPeriod_changes (d : Dev) (l : Nat) : Changes periodNames [.pwm] d (d.legPeriod l) := by
  obtain ⟨x, y, -, -, hx, h⟩ := legPeriod_eq d l
  have h1 : Changes periodNames [.pwm] d x := (Changes.setLeg Changes.refl).step hx
  rw [h]
  exact (h1.step (legForm_changes x l)).ite h1

/-- What of a leg the forming of pulses leaves, read after the start of a period. -/
theorem legPeriod_leg {α : Type} (d : Dev) (l k : Nat) (f : LegSt → α)
    (hf : ∀ (x : LegSt) g t s, f { x with gate := g, lowAt := t, skipped := s } = f x) :
    ∃ y : LegSt, y.use = (d.leg l).next ∧ f ((d.legPeriod l).leg k) = f ((d.setLeg l y).leg k) := by
  obtain ⟨x, y, hy, -, hx, h⟩ := legPeriod_eq d l
  refine ⟨y, hy, ?_⟩
  rw [h, ← hx.leg (by decide)]
  split
  · exact legForm_leg x l k f hf
  · rfl

theorem legPeriod_use (d : Dev) (l : Nat) : ((d.legPeriod l).leg l).use = (d.leg l).next := by
  obtain ⟨y, hy, h⟩ := legPeriod_leg d l l LegSt.use fun _ _ _ _ => rfl
  rw [h, Dev.leg_setLeg_same, hy]

/-- The start of a leg's period leaves every other leg. -/
theorem legPeriod_other (d : Dev) {l k : Nat} (h : l ≠ k) : (d.legPeriod l).leg k = d.leg k := by
  obtain ⟨x, y, -, -, hx, he⟩ := legPeriod_eq d l
  have hk : x.leg k = d.leg k := (hx.leg (by decide) k).trans ((d.leg_setLeg l k y).trans (if_neg h))
  rw [he]
  split
  · obtain ⟨g, t, s, hp⟩ := legForm_pwm x l
    have hl : (x.legForm l).leg k = (x.setLeg l { x.leg l with gate := g, lowAt := t, skipped := s }).leg k :=
      congrArg (fun p : PwmSt => tget p.legs k {}) hp
    rw [hl, Dev.leg_setLeg, if_neg h, hk]
  · exact hk

theorem legPeriod_car (d : Dev) (l c : Nat) : (d.legPeriod l).car c = d.car c := by
  obtain ⟨x, y, -, -, hx, he⟩ := legPeriod_eq d l
  rw [he]
  split
  · exact (legForm_car x l c).trans (hx.car (by decide) c)
  · exact hx.car (by decide) c

/-- Whether a leg runs hangs on its state, its configuration and control, its axis, and the power state and role of the unit. -/
theorem legRuns_of_changes {ns : List RegName} {d e : Dev} (h : Changes ns [.pwm] d e) {l : Nat} (hl : e.leg l = d.leg l)
    (hn : ([.PWM_LEG_CFG, .PWM_LEG_CTL, .AXIS_STAT, .PWR_STAT, .PAIR_CFG, .LINE_GSTAT] : List RegName).all
      (fun m => ns.all (·.legApart m)) = true) : e.legRuns l = d.legRuns l := by
  simp only [List.all_cons, List.all_nil, Bool.and_eq_true, Bool.and_true] at hn
  obtain ⟨hcfg, hctl, hax, hpwr, hpair, hrole⟩ := hn
  have hst (a : Nat) : e.axState a = d.axState a := h.fld_leg hax
  have hp : e.pstate = d.pstate := h.fld_leg hpwr
  have hsb : e.isStandby = d.isStandby := by
    unfold Dev.isStandby
    rw [h.bit_leg hpair, h.fld_leg hrole]
  have hho : e.handedOver = d.handedOver := congrArg (fun x : PairSt => x.demoteT.isSome && x.switchT.isSome) (h.parts .duo (by decide))
  have hof : e.axisOfLeg l = d.axisOfLeg l := by
    unfold Dev.axisOfLeg Dev.img
    rw [show e.loader = d.loader from h.parts .loader (by decide)]
  have hperm : e.axs = d.axs := h.parts .axs (by decide)
  unfold Dev.legRuns Dev.axEnabled
  simp only [hl, hp, hsb, hho, hof, hst, hperm, legReg, h.bit_leg hcfg, h.bit_leg hctl]
  rfl

/-- Something was put out at the pins of leg `l`. -/
def Dev.LegOut (d : Dev) (l : Nat) : Prop := ∃ edges, Out.leg l edges ∈ d.out

theorem legForm_out (d : Dev) (l : Nat) : ∃ edges, (d.legForm l).out = d.out ++ [Out.leg l edges] := by
  unfold Dev.legForm
  dsimp -zeta only
  extract_lets c x st hl lh per u centre g skip cnt d1 d2 d3
  have h2 : d2.out = d.out := by
    unfold d2
    split
    · rfl
    · split <;> rfl
  exact ⟨_, congrArg (· ++ _) h2⟩

theorem Dev.LegOut.append {d e : Dev} {l : Nat} (h : d.LegOut l) {o : List Out} (he : e.out = d.out ++ o) : e.LegOut l := by
  obtain ⟨edges, hm⟩ := h
  exact ⟨edges, he ▸ List.mem_append_left o hm⟩

/-- The start of a leg's period puts its edges out if it runs, and takes nothing back. -/
theorem legPeriod_out (d : Dev) (l : Nat) : ∃ o, (d.legPeriod l).out = d.out ++ o ∧ (d.legRuns l = true → (d.legPeriod l).LegOut l) := by
  obtain ⟨x, y, -, ho, -, h⟩ := legPeriod_eq d l
  rw [h]
  split
  · obtain ⟨edges, hf⟩ := legForm_out x l
    exact ⟨[.leg l edges], hf.trans (congrArg (· ++ _) ho), fun _ => ⟨edges, hf ▸ List.mem_append_right _ (List.mem_singleton_self _)⟩⟩
  · next hr => exact ⟨[], ho.trans (List.append_nil _).symm, fun hn => absurd hn hr⟩

/-- The start of a carrier's period, which none has seen yet: its tap map takes effect, and then each leg's period starts (R231, R233). -/
theorem pwmPeriod_eq {d : Dev} {c : Nat} (h : (d.car c).lastStart ≠ some (d.ns / d.pwmNs c)) :
    ∃ y : CarSt, y.tap = (d.car c).tapNext.getD (d.car c).tap ∧ d.pwmPeriod c = (d.setCar c y).each (legsOf c) Dev.legPeriod := by
  unfold Dev.pwmPeriod
  dsimp only
  rw [if_neg (by simpa using h)]
  exact ⟨_, rfl, rfl⟩

theorem pwmPeriod_effect {d : Dev} {c : Nat} (h : (d.car c).lastStart ≠ some (d.ns / d.pwmNs c)) :
    ((d.pwmPeriod c).car c).tap = (d.car c).tapNext.getD (d.car c).tap ∧
    ∀ l ∈ legsOf c, ((d.pwmPeriod c).leg l).use = (d.leg l).next ∧ (d.legRuns l = true → (d.pwmPeriod c).LegOut l) := by
  obtain ⟨y, hy, he⟩ := pwmPeriod_eq h
  rw [he]
  constructor
  · exact Dev.each_keeps (Q := fun x => (x.car c).tap = (d.car c).tapNext.getD (d.car c).tap)
      (fun x l _ hx => by rw [legPeriod_car, hx]) (by rw [Dev.car_setCar_same, hy])
  intro l hl
  have hs : Changes periodNames [.pwm] d (d.setCar c y) := Changes.refl.pwm
  refine Dev.each_at (Q := fun x => Changes periodNames [.pwm] d x ∧ x.leg l = d.leg l)
    (P := fun x => (x.leg l).use = (d.leg l).next ∧ (d.legRuns l = true → x.LegOut l)) hl (legsOf_nodup c)
    (fun x k _ hk ⟨h1, h2⟩ => ⟨h1.step (legPeriod_changes x k), (legPeriod_other x hk).trans h2⟩)
    (fun x ⟨h1, h2⟩ => ?_) (fun x k _ hk ⟨h1, h2⟩ => ?_) ⟨hs, rfl⟩
  · obtain ⟨o, -, ho⟩ := legPeriod_out x l
    rw [legRuns_of_changes h1 h2 (by decide)] at ho
    exact ⟨(legPeriod_use x l).trans (congrArg LegSt.next h2), ho⟩
  · obtain ⟨o, ho, -⟩ := legPeriod_out x k
    exact ⟨by rw [legPeriod_other x hk, h1], fun hr => (h2 hr).append ho⟩

/-! ### The replica line (R233, R253) -/

theorem legForms_changes (d : Dev) (ls : List Nat) : Changes [.PWM_LEG_ACC, .PWM_LEG_CNT, .PWM_LEG_STAT] [.pwm] d (d.each ls Dev.legForm) :=
  Changes.refl.each fun x l _ h => h.step (legForm_changes x l)

theorem delayCal_effect {d : Dev} {c : Nat} (map : Option Nat) (h : (d.car c).calClk = 0 ∨ (d.car c).calClk + 2000 ≤ d.clk) :
    (d.delayCal c map).bit (R.PWM_DRV_STAT c) F.PWM_DRV_STAT.DLFAIL = map.isNone ∧
    (map.isSome = true → (d.car c).startClk ≠ some d.clk → ((d.delayCal c map).car c).tapNext = map) ∧
    (map.isSome = true → (d.car c).startClk = some d.clk → some ((d.delayCal c map).car c).tap = map) := by
  unfold Dev.delayCal
  extract_lets x st now y d1 d2
  have hc : (x.calClk != 0 && !d.since x.calClk 2000) = false := by
    rcases h with h | h <;> simp [x, Dev.since, h]
  rw [if_neg (by simp [hc])]
  have hcar : d2.car c = y := by
    have h2 : ∀ e : Dev, e.car c = y → ∀ ls : List Nat, (e.each ls Dev.legForm).car c = y := fun e he ls =>
      Dev.each_keeps (Q := fun e => e.car c = y) (fun e l _ he => (legForm_car e l c).trans he) he
    exact h2 d1 (Dev.car_setCar_same _ _ _) _
  have hdl : d2.bit st F.PWM_DRV_STAT.DLFAIL = map.isNone := by
    rw [Dev.bit, (legForms_changes d1 _).fld_name (by decide), Dev.fld_setFld_of_lt _ (by split <;> decide) (by decide)]
    cases map <;> rfl
  have key : d2.bit st F.PWM_DRV_STAT.DLFAIL = map.isNone ∧
      (map.isSome = true → (d.car c).startClk ≠ some d.clk → (d2.car c).tapNext = map) ∧
      (map.isSome = true → (d.car c).startClk = some d.clk → some (d2.car c).tap = map) := by
    refine ⟨hdl, fun hm hn => ?_, fun hm hn => ?_⟩ <;> obtain ⟨v, rfl⟩ := Option.isSome_iff_exists.1 hm <;> rw [hcar]
    · simp [y, now, x, hn]
    · simp [y, now, x, hn]
  split
  · exact key
  · exact key

/-! ### The transitions of SWN (R239, R240) -/

theorem swnEdge_effect {d : Dev} {l : Nat} (low : Bool) (ns : Nat) (hr : d.legRuns l = true)
    (hm : d.bit (legReg R.PWM_LEG_CFG l) F.PWM_LEG_CFG.DTMODE = false) :
    ((d.swnEdge l low ns).leg l).miss = 0 ∧
    (low = true → ns < 2 * d.fld (legReg R.PWM_LEG_STAT l) F.PWM_LEG_STAT.DTHL →
      ((d.swnEdge l low ns).leg l).curHL = some (max ((ns + 1) / 2) ((d.leg l).curHL.getD 0))) := by
  unfold Dev.swnEdge
  extract_lets x st n
  rw [if_neg (by simp [hr, hm])]
  cases low with
  | true =>
    rw [if_pos rfl]
    split
    · rw [Dev.leg_setLeg_same]
      exact ⟨rfl, fun _ _ => rfl⟩
    · next hn =>
      rw [Dev.leg_setLeg_same]
      exact ⟨rfl, fun _ h => absurd h hn⟩
  | false =>
    rw [if_neg Bool.false_ne_true]
    refine ⟨?_, fun h => absurd h Bool.false_ne_true⟩
    split <;> rw [Dev.leg_setLeg_same]

theorem swnMiss_effect {d : Dev} {l : Nat} (hr : d.legRuns l = true) (hm : d.bit (legReg R.PWM_LEG_CFG l) F.PWM_LEG_CFG.DTMODE = false) :
    ((d.swnMiss l).leg l).miss = (d.leg l).miss + 1 ∧
    (16 ≤ (d.leg l).miss + 1 → (d.swnMiss l).bit (legReg R.PWM_LEG_STAT l) F.PWM_LEG_STAT.SWNFIX = true) := by
  unfold Dev.swnMiss
  extract_lets x st n d1
  rw [if_neg (by simp [hr, hm])]
  have hx : (d1.leg l).miss = n := congrArg LegSt.miss (Dev.leg_setLeg_same _ _ _)
  have hst (y : Dev) {f : Fld} {v : Nat} (hf : f.apart F.PWM_LEG_STAT.SWNFIX = true) :
      (y.setFld st f v).fld st F.PWM_LEG_STAT.SWNFIX = y.fld st F.PWM_LEG_STAT.SWNFIX := y.fld_setFld_field hf
  split
  · refine ⟨hx, fun _ => ?_⟩
    rw [Dev.evAt_bit, Dev.bit, hst _ (by decide), hst _ (by decide), Dev.fld_setFld_of_lt _ (by decide) (by decide)]
    rfl
  · next hn =>
    refine ⟨hx, fun h => ?_⟩
    have hb : d.bit st F.PWM_LEG_STAT.SWNFIX = true := by simpa [n, x, h] using hn
    exact hb

end Sys2Proof.Machine

namespace Sys2Proof.Machine

open Sys2Proof

/-! ### Further steps of a frame -/

namespace Changes

variable {l : List RegName} {ps : List Part} {d e : Dev} {b : Bool}

theorem evAt (h : Changes l ps d e b) {m k o : Nat} {i : Option Nat} {x : List Word} : Changes l ps d (e.evAt m k o i x) b :=
  h.of_still rfl fun p => by cases p <;> rfl

theorem fbk (h : Changes l ps d e b) {x : FbkSt} : Changes l ps d { e with fbk := x } (ps.contains .fbk && b) :=
  h.of_part .fbk rfl fun p hp => by cases p; all_goals trivial

theorem fil (h : Changes l ps d e b) {x : Tab FilSt} : Changes l ps d { e with fil := x } (ps.contains .fil && b) :=
  h.of_part .fil rfl fun p hp => by cases p; all_goals trivial

theorem setPair (h : Changes l ps d e b) {n m : RegName} {i j i' j' : Nat} {x : Int} :
    Changes l ps d (e.setPair ⟨n, i, j⟩ ⟨m, i', j'⟩ x) (l.contains m && (l.contains n && b)) := h.setReg.setReg

theorem setCar (h : Changes l ps d e b) {c : Nat} {x : CarSt} : Changes l ps d (e.setCar c x) (ps.contains .pwm && b) := h.pwm

theorem setEnc (h : Changes l ps d e b) {k : Nat} {x : EncSt} : Changes l ps d (e.setEnc k x) (ps.contains .fbk && b) := h.fbk

theorem setRem (h : Changes l ps d e b) {r : Nat} {x : RemSt} : Changes l ps d (e.setRem r x) (ps.contains .fbk && b) := h.fbk

end Changes

/-! ### Trip inputs, encoders and probes (R244, R265 to R280) -/

theorem tripInput_changes (d : Dev) (c t : Nat) :
    Changes [.AXIS_STAT, .DIO_OUT, .PWM_DRV_STAT, .PWM_LEG_ACC] [.axs, .cap, .dio, .engs, .pwm] d (d.tripInput c t) := by
  unfold Dev.tripInput
  extract_lets x on d1
  have h1 : Changes [.AXIS_STAT, .DIO_OUT, .PWM_DRV_STAT, .PWM_LEG_ACC] [.axs, .cap, .dio, .engs, .pwm] d d1 := Changes.refl.setCar
  exact Changes.refl.ite (h1.ite (h1.setW1c.evAt.each fun y i _ h => h.step (tripDrive_changes y c i)))

theorem encValidity_changes (d : Dev) (k : Nat) : Changes [.FBK_ENC_STAT] [.engs] d (d.encValidity k) := by
  unfold Dev.encValidity
  extract_lets st was c d1 d2
  have h1 : Changes [.FBK_ENC_STAT] [.engs] d d1 := Changes.refl.setFld.setFld
  have h2 : Changes [.FBK_ENC_STAT] [.engs] d d2 := h1.step (chanValid_changes d1 _ _)
  exact h2.evObj.ite h2

/-- The registers that a transition of a channel sets. -/
abbrev countNames : List RegName := [.FBK_ENC_POS, .FBK_ENC_STAT, .FBK_ENC_TLAST, .FBK_PRB_POS, .FBK_PRB_STAT]

theorem encCount_changes (d : Dev) (k : Nat) (delta : Int) : Changes countNames [.engs, .fbk] d (d.encCount k delta) := by
  unfold Dev.encCount
  extract_lets cfg s x before y stamp d1 d2 d3
  have h1 : Changes countNames [.engs, .fbk] d d1 := Changes.refl.setEnc
  have h2 : Changes countNames [.engs, .fbk] d d2 := h1.setReg
  have h3 : Changes countNames [.engs, .fbk] d d3 := h2.ite h2.setReg
  exact h3.each fun _ _ _ h => h.setReg

theorem encIllegal_changes (d : Dev) (k : Nat) : Changes countNames [.engs, .fbk] d (d.encIllegal k) := by
  unfold Dev.encIllegal
  extract_lets st x l four
  split
  extract_lets y d1 d2
  have h1 : Changes countNames [.engs, .fbk] d d1 := (Changes.bump (Changes.setW1c Changes.refl.setEnc)).evObj
  have h2 : Changes countNames [.engs, .fbk] d d2 := (h1.step (encValidity_changes _ _)).ite h1
  exact h2.each fun _ _ _ h => h.setFld

theorem quad_changes (d : Dev) (k old new : Nat) : Changes countNames [.engs, .fbk] d (d.quad k old new) := by
  unfold Dev.quad
  refine Changes.refl.ite ?_
  split
  case h_9 => exact encIllegal_changes d k
  all_goals exact encCount_changes d k _

theorem hall_changes (d : Dev) (k old new : Nat) : Changes countNames [.engs, .fbk] d (d.hall k old new) := by
  unfold Dev.hall
  refine Changes.refl.ite ?_
  split
  · exact (encCount_changes d k _).ite ((encCount_changes d k _).ite (encIllegal_changes d k))
  · exact .refl
  · exact encIllegal_changes d k

theorem capProbe_changes (d : Dev) (p : Nat) (stamp : Word) : Changes [] [.cap] d (d.capProbe p stamp) := Changes.refl.cap

theorem probeEdge_changes (d : Dev) (p : Nat) (rising : Bool) :
    Changes [.FBK_PRB_POS, .FBK_PRB_STAT, .FBK_PRB_TIME] [.cap, .fbk] d (d.probeEdge p rising) := by
  unfold Dev.probeEdge
  extract_lets cfg st sel hit d1 k x stamp pos ok qerr d2 d3
  have h1 : Changes [.FBK_PRB_POS, .FBK_PRB_STAT, .FBK_PRB_TIME] [.cap, .fbk] d d1 := Changes.refl.setFld.ite .refl
  have h2 : Changes [.FBK_PRB_POS, .FBK_PRB_STAT, .FBK_PRB_TIME] [.cap, .fbk] d d2 := h1.setReg.setReg.setFld
  have h3 : Changes [.FBK_PRB_POS, .FBK_PRB_STAT, .FBK_PRB_TIME] [.cap, .fbk] d d3 := h2.setFld.setFld
  exact Changes.refl.ite (h1.setFld.ite (h3.fbk.step (capProbe_changes _ p _)))

/-! ### The clock of the input filters (R244, R266, R275) -/

theorem setLine_changes (d : Dev) (key : Nat) (lvl : Bool) : Changes [] [.fil] d (d.setLine key lvl) := by
  unfold Dev.setLine
  extract_lets idle x
  exact Changes.refl.fil.ite Changes.refl.fil

/-- The lines that are due take their new levels. -/
def Dev.filPass (d : Dev) : Dev := d.each d.filDue fun d k => { d with fil := tset d.fil k { d.filOf k with out := (d.filOf k).raw } }

/-- The trip inputs among the lines that are due. -/
def Dev.filTrips (d : Dev) : List Nat := d.filDue.filter fun k => decide (k < 32)

/-- The registers and the parts that channels and probes may set when their lines change. -/
abbrev edgeNames : List RegName := [.FBK_ENC_POS, .FBK_ENC_STAT, .FBK_ENC_TLAST, .FBK_PRB_POS, .FBK_PRB_STAT, .FBK_PRB_TIME]

theorem filPass_changes (d : Dev) : Changes [] [.fil] d d.filPass := Changes.refl.each fun _ _ _ h => h.fil

/-- Where a line is due and the block is on: the levels are passed on, the trip inputs are looked at, then channels and probes. -/
theorem filClock_eq {d : Dev} (hd : d.filDue ≠ []) (hp : d.pstate ≠ 4) :
    Changes edgeNames [.cap, .engs, .fbk] (d.filPass.each d.filTrips fun d k => d.tripInput (k / 4) (k % 4)) d.filClock := by
  have hi : d.filDue.isEmpty = false := by simpa using hd
  have hq : (d.pstate == 4) = false := by simpa using hp
  unfold Dev.filClock
  extract_lets due d1 d2 encs d3
  rw [if_neg (by simp [due, hi, hq])]
  have h3 : Changes edgeNames [.cap, .engs, .fbk] d2 d3 := Changes.refl.each fun x k _ h =>
    (h.step (quad_changes x k _ _)).step (hall_changes _ k _ _)
  exact h3.each fun x k _ h => h.step (probeEdge_changes x _ _)

/-- Where no line is due, or the block is off, levels are passed on and nothing else happens. -/
theorem filClock_idle {d : Dev} (h : d.filDue = [] ∨ d.pstate = 4) : d.filClock = d.filPass := by
  unfold Dev.filClock
  exact if_pos (by simpa using h)

/-- The registers that lines may set when they change. -/
abbrev lineNames : List RegName := [.AXIS_STAT, .DIO_OUT, .FBK_ENC_POS, .FBK_ENC_STAT, .FBK_ENC_TLAST, .FBK_PRB_POS, .FBK_PRB_STAT, .FBK_PRB_TIME,
  .PWM_DRV_STAT, .PWM_LEG_ACC]

theorem filClock_changes (d : Dev) : Changes lineNames [.axs, .cap, .dio, .engs, .fbk, .fil, .pwm] d d.filClock := by
  by_cases h : d.filDue = [] ∨ d.pstate = 4
  · rw [filClock_idle h]
    exact (filPass_changes d).within
  · rw [not_or] at h
    obtain ⟨hd, hp⟩ := h
    have h1 : Changes lineNames [.axs, .cap, .dio, .engs, .fbk, .fil, .pwm] d
        (d.filPass.each d.filTrips fun d k => d.tripInput (k / 4) (k % 4)) :=
      (filPass_changes d).within.each fun x k _ h => h.step (tripInput_changes x _ _)
    exact h1.step (filClock_eq hd hp)

end Sys2Proof.Machine

namespace Sys2Proof.Machine

open Sys2Proof

/-! ### Bits of a number -/

theorem bitAt_eq_testBit (n i : Nat) : bitAt n i = n.testBit i := by
  rw [Nat.testBit_eq_decide_div_mod_eq]
  rfl

/-- A power of two joins a number in which its bit is clear without a carry. -/
theorem testBit_add_two_pow {n i j : Nat} (h : n.testBit i = false) (hij : i ≠ j) : (n + 2 ^ i).testBit j = n.testBit j := by
  rcases Nat.lt_or_gt_of_ne hij with hlt | hgt
  · have hd : (n + 2 ^ i) / 2 ^ (i + 1) = n / 2 ^ (i + 1) := by
      rw [Nat.testBit_eq_decide_div_mod_eq, decide_eq_false_iff_not] at h
      rw [pow_succ, ← Nat.div_div_eq_div_mul, ← Nat.div_div_eq_div_mul, Nat.add_div_right _ (Nat.two_pow_pos i)]
      omega
    obtain ⟨k, rfl⟩ := Nat.exists_eq_add_of_lt hlt
    have hk (m : Nat) : m.testBit (i + k + 1) = (m / 2 ^ (i + 1)).testBit k := by
      rw [Nat.testBit_div_two_pow]
      congr 1
      omega
    rw [hk, hk, hd]
  · rw [Nat.add_comm]
    exact Nat.testBit_two_pow_add_gt hgt n

theorem bitAt_setBit_other {n i j : Nat} (h : i ≠ j) : bitAt (setBit n i) j = bitAt n j := by
  unfold setBit
  split
  · rfl
  · next hb =>
    rw [bitAt_eq_testBit, bitAt_eq_testBit, testBit_add_two_pow _ h]
    rwa [bitAt_eq_testBit, Bool.not_eq_true] at hb

theorem bitAt_clrBit_other {n i j : Nat} (h : i ≠ j) : bitAt (clrBit n i) j = bitAt n j := by
  unfold clrBit
  split
  · next hb =>
    rw [bitAt_eq_testBit] at hb
    have hle : 2 ^ i ≤ n := Nat.ge_two_pow_of_testBit hb
    have hn : n - 2 ^ i + 2 ^ i = n := Nat.sub_add_cancel hle
    have hc : (n - 2 ^ i).testBit i = false := by
      rw [Nat.testBit_eq_decide_div_mod_eq, decide_eq_true_eq] at hb
      rw [Nat.testBit_eq_decide_div_mod_eq, decide_eq_false_iff_not]
      have := Nat.add_div_right (n - 2 ^ i) (Nat.two_pow_pos i)
      rw [hn] at this
      omega
    rw [bitAt_eq_testBit, bitAt_eq_testBit, ← testBit_add_two_pow hc h, hn]
  · rfl

/-! ### One step for each of a list, with repetitions -/

/-- The step for `a` brings about `P` from `Q`; every step keeps both. -/
theorem Dev.each_mem {α : Type} {Q P : Dev → Prop} {f : Dev → α → Dev} {l : List α} {a : α} (ha : a ∈ l)
    (keepQ : ∀ d b, Q d → Q (f d b)) (step : ∀ d, Q d → P (f d a)) (keepP : ∀ d b, P d → P (f d b)) {d : Dev} (hd : Q d) : P (d.each l f) := by
  induction l generalizing d with
  | nil => exact absurd ha List.not_mem_nil
  | cons b bs ih =>
    rcases List.mem_cons.1 ha with rfl | hmem
    · exact Dev.each_keeps (Q := P) (l := bs) (fun e c _ => keepP e c) (step d hd)
    · exact ih hmem (keepQ d b hd)

/-! ### A trip input at its filter (R244) -/

/-- The line of `key` has the level `high`, since no later than now; the filter passes on `out`. -/
def Dev.LineAt (d : Dev) (key : Nat) (high out : Bool) : Prop :=
  ∃ x, tget? d.fil key = some x ∧ x.raw = high ∧ x.out = out ∧ x.clk ≤ d.clk

/-- What the filter of a line passes on, or would pass on if nothing has driven it: a trip input at the inactive level (R244). -/
def Dev.lineOut (d : Dev) (c t : Nat) : Bool :=
  (tget d.fil (4 * c + t) ⟨!d.bit (R.PWM_TRIP_CFG c t) F.PWM_TRIP_CFG.POL, 0, !d.bit (R.PWM_TRIP_CFG c t) F.PWM_TRIP_CFG.POL⟩).out

theorem setLine_lineAt {d : Dev} {c t : Nat} (high : Bool) (hc : c < 8) (ht : t < 4) (hk : (d.filOf (4 * c + t)).clk ≤ d.clk) :
    (d.setLine (4 * c + t) high).LineAt (4 * c + t) high (d.lineOut c t) := by
  have h1 : decide (4 * c + t < 32) = true := decide_eq_true (by omega)
  have h2 : (4 * c + t) / 4 = c := by omega
  have h3 : (4 * c + t) % 4 = t := by omega
  have hx : ∀ b, (tget d.fil (4 * c + t) ⟨b, 0, b⟩).clk ≤ d.clk := by
    intro b
    unfold Dev.filOf tget at hk
    unfold tget
    cases h : tget? d.fil (4 * c + t) with
    | none => exact Nat.zero_le _
    | some x => rwa [h] at hk
  unfold Dev.setLine
  rw [h1, h2, h3, Bool.true_and]
  extract_lets idle x
  split
  · next hr => exact ⟨x, tget?_tset_same _ _ _, by simpa using hr, rfl, hx _⟩
  · exact ⟨_, tget?_tset_same _ _ _, rfl, rfl, le_rfl⟩

theorem mem_keys_of_tget? {α : Type} {t : Tab α} {k : Nat} {x : α} (h : tget? t k = some x) : k ∈ t.map (·.1) := by
  induction t with
  | nil => cases h
  | cons e t ih =>
    obtain ⟨n, v⟩ := e
    unfold tget? at h
    split at h
    · next hn => exact hn ▸ List.mem_cons_self
    · exact List.mem_cons_of_mem _ (ih h)

/-- Without a filter a line whose level differs from what is passed on is due at once. -/
theorem mem_filDue {d : Dev} {key : Nat} {high out : Bool} (h : d.LineAt key high out) (hf : d.filLen key = 0) (hne : high ≠ out) :
    key ∈ d.filDue := by
  obtain ⟨x, hx, hr, ho, hk⟩ := h
  have hof : d.filOf key = x := by simp [Dev.filOf, tget, hx]
  refine List.mem_filter.2 ⟨mem_keys_of_tget? hx, ?_⟩
  simp only [Dev.filAt, hof, hr, ho, hf, Nat.add_zero, Nat.max_eq_left hk]
  simp [hne]

/-- The level of the line is passed on. -/
theorem filPass_passes {d : Dev} {key : Nat} {high out : Bool} (h : d.LineAt key high out) (hf : d.filLen key = 0) :
    ∃ x, tget? d.filPass.fil key = some x ∧ x.out = high := by
  have hstep (y : Dev) (k : Nat) (P : FilSt → Prop) (hP : ∀ x, P x → P { x with out := x.raw }) (hy : ∃ x, tget? y.fil key = some x ∧ P x) :
      ∃ x, tget? (tset y.fil k { y.filOf k with out := (y.filOf k).raw }) key = some x ∧ P x := by
    obtain ⟨x, hx, hp⟩ := hy
    by_cases hk : k = key
    · subst hk
      have hof : y.filOf k = x := by simp [Dev.filOf, tget, hx]
      exact ⟨_, tget?_tset_same _ _ _, hof ▸ hP x hp⟩
    · exact ⟨x, (tget?_tset_other _ _ hk).trans hx, hp⟩
  obtain ⟨x, hx, hr, ho, -⟩ := id h
  have hP : ∀ y : FilSt, y.raw = high ∧ y.out = high → y.raw = high ∧ y.raw = high := fun y hy => ⟨hy.1, hy.1⟩
  have key : ∃ x, tget? d.filPass.fil key = some x ∧ x.raw = high ∧ x.out = high := by
    by_cases hne : high = out
    · exact Dev.each_keeps (Q := fun y => ∃ x, tget? y.fil key = some x ∧ x.raw = high ∧ x.out = high)
        (fun y k _ hy => hstep y k (fun x => x.raw = high ∧ x.out = high) hP hy) ⟨x, hx, hr, ho.trans hne.symm⟩
    · refine Dev.each_mem (Q := fun y => ∃ x, tget? y.fil key = some x ∧ x.raw = high) (mem_filDue h hf hne)
        (fun y k hy => hstep y k (·.raw = high) (fun _ h => h) hy) (fun y hy => ?_)
        (fun y k hy => hstep y k (fun x => x.raw = high ∧ x.out = high) hP hy) ⟨x, hx, hr⟩
      obtain ⟨z, hz, hzr⟩ := hy
      have hof : y.filOf key = z := by simp [Dev.filOf, tget, hz]
      exact ⟨_, tget?_tset_same _ _ _, hof ▸ hzr, hof ▸ hzr⟩
  obtain ⟨z, hz, -, hzo⟩ := key
  exact ⟨z, hz, hzo⟩

theorem filClock_fil (d : Dev) : d.filClock.fil = d.filPass.fil := by
  by_cases h : d.filDue = [] ∨ d.pstate = 4
  · rw [filClock_idle h]
  · rw [not_or] at h
    obtain ⟨hd, hp⟩ := h
    have hc : d.filClock.fil = (d.filPass.each d.filTrips fun d k => d.tripInput (k / 4) (k % 4)).fil :=
      (filClock_eq hd hp).parts .fil (by decide)
    have ht : Changes [.AXIS_STAT, .DIO_OUT, .PWM_DRV_STAT, .PWM_LEG_ACC] [.axs, .cap, .dio, .engs, .pwm] d.filPass
        (d.filPass.each d.filTrips fun d k => d.tripInput (k / 4) (k % 4)) := Changes.refl.each fun x k _ h => h.step (tripInput_changes x _ _)
    exact hc.trans (ht.parts .fil (by decide))

theorem Dev.tripActive_of_fil {d : Dev} {c t : Nat} {x : FilSt} (h : tget? d.fil (4 * c + t) = some x) :
    d.tripActive c t = (x.out == d.bit (R.PWM_TRIP_CFG c t) F.PWM_TRIP_CFG.POL) := by
  unfold Dev.tripActive
  rw [h]

/-- A trip input shows in its latch (R245). -/
def Dev.TripLatched (d : Dev) (c t : Nat) : Prop := bitAt (d.fld (R.PWM_DRV_STAT c) F.PWM_DRV_STAT.TRIPLAT) t = true

theorem Changes.tripLatched {ns : List RegName} {ps : List Part} {d e : Dev} (h : Changes ns ps d e)
    (hn : ns.all (fun m => RegName.PWM_DRV_STAT.info.apart m.info) = true) {c t : Nat} (hl : d.TripLatched c t) : e.TripLatched c t := by
  unfold Dev.TripLatched
  rwa [h.fld_name hn]

/-- A latch is set, and those set already stay so. -/
theorem setW1c_latched {d : Dev} {c c' t t' : Nat} (ht : t < 4) (h : (c = c' ∧ t = t') ∨ d.TripLatched c t) :
    (d.setW1c (R.PWM_DRV_STAT c') F.PWM_DRV_STAT.TRIPLAT (2 ^ t')).TripLatched c t := by
  have hs (n : Nat) : bitAt (n % 2 ^ 4) t = n.testBit t := by
    rw [bitAt_eq_testBit, Nat.testBit_mod_two_pow, decide_eq_true ht, Bool.true_and]
  unfold Dev.TripLatched Dev.setW1c at *
  show bitAt ((d.setFld (R.PWM_DRV_STAT c') F.PWM_DRV_STAT.TRIPLAT _).fld (R.PWM_DRV_STAT c) F.PWM_DRV_STAT.TRIPLAT) t = true
  by_cases ha : (R.PWM_DRV_STAT c').addr = (R.PWM_DRV_STAT c).addr
  · have hf (x : Dev) : x.fld (R.PWM_DRV_STAT c) F.PWM_DRV_STAT.TRIPLAT = x.fld (R.PWM_DRV_STAT c') F.PWM_DRV_STAT.TRIPLAT :=
      congrArg (getF · _) (x.reg_of_addr ha).symm
    rw [hf, Dev.fld_setFld_same _ _ _ _ (by decide) (by decide)]
    refine (hs _).trans ?_
    rw [Nat.testBit_or, Bool.or_eq_true]
    rcases h with ⟨rfl, rfl⟩ | h
    · exact .inr Nat.testBit_two_pow_self
    · rw [hf, bitAt_eq_testBit] at h
      exact .inl h
  · rw [Dev.fld_setFld_other _ _ _ _ ha]
    rcases h with ⟨rfl, -⟩ | h
    · exact absurd rfl ha
    · exact h

theorem gateFollows_car (d : Dev) (l c : Nat) : (d.gateFollows l).car c = d.car c := by
  have hc := congrArg PwmSt.cars (gateFollows_kept d l).1.pwm
  exact congrArg (tget · c {}) hc

theorem tripDrive_car (d : Dev) (c i k : Nat) : (d.tripDrive c i).car k = d.car k := by
  refine tripDrive_react d c i (P := fun x => x.car k = d.car k) (Dev.each_keeps (Q := fun x => x.car k = d.car k) (fun x l _ hx => ?_) rfl)
    fun x a hx => ((react_changes x a 4 7 false).car (by decide) k).trans hx
  exact (gateFollows_car _ l k).trans hx

theorem tripDrives_car (d : Dev) (c k : Nat) (is : List Nat) : (d.each is fun d i => d.tripDrive c i).car k = d.car k :=
  Dev.each_keeps (Q := fun x => x.car k = d.car k) (fun x i _ hx => (tripDrive_car x c i k).trans hx) rfl

theorem Dev.car_setCar_other (d : Dev) {c k : Nat} (x : CarSt) (h : c ≠ k) : (d.setCar c x).car k = d.car k := tget_tset_other _ _ _ h

/-- Whether a trip input was active and enabled changes when that input is looked at, and at no other time. -/
theorem tripInput_tripOn (d : Dev) {c c' t t' : Nat} (h : ¬ (c = c' ∧ t = t')) :
    bitAt ((d.tripInput c' t').car c).tripOn t = bitAt (d.car c).tripOn t := by
  unfold Dev.tripInput
  extract_lets x on d1
  have h1 : bitAt (d1.car c).tripOn t = bitAt (d.car c).tripOn t := by
    by_cases hc : c = c'
    · have ht : t' ≠ t := fun ht => h ⟨hc, ht.symm⟩
      subst hc
      unfold d1
      rw [Dev.car_setCar_same]
      show bitAt (if on then setBit x.tripOn t' else clrBit x.tripOn t') t = _
      split
      · exact bitAt_setBit_other ht
      · exact bitAt_clrBit_other ht
    · exact congrArg (fun z : CarSt => bitAt z.tripOn t) (d.car_setCar_other _ (Ne.symm hc))
  split
  · rfl
  · split
    · exact h1
    · rw [tripDrives_car]
      exact h1

theorem tripInput_latched {d : Dev} {c c' t t' : Nat} (ht : t < 4) (h : d.TripLatched c t) : (d.tripInput c' t').TripLatched c t := by
  unfold Dev.tripInput
  extract_lets x on d1
  have h1 : d1.TripLatched c t := h
  split
  · exact h
  · split
    · exact h1
    · exact (tripDrives_changes _ c' _).tripLatched (by decide) (setW1c_latched ht (.inr h1))

/-- A trip input that is active and enabled latches, if it was not so before (R244, R245). -/
theorem tripInput_latches {d : Dev} {c t : Nat} (ht : t < 4) (ha : d.tripActive c t = true)
    (he : d.bit (R.PWM_TRIP_CFG c t) F.PWM_TRIP_CFG.EN = true) (h : bitAt (d.car c).tripOn t = true → d.TripLatched c t) :
    (d.tripInput c t).TripLatched c t := by
  unfold Dev.tripInput
  extract_lets x on d1
  have hon : on = true := by simp [on, ha, he]
  split
  · next hb =>
    rw [hon, beq_iff_eq] at hb
    exact h hb.symm
  · rw [if_neg (by simp [hon])]
    exact (tripDrives_changes _ c _).tripLatched (by decide) (setW1c_latched ht (.inl ⟨rfl, rfl⟩))

end Sys2Proof.Machine

namespace Sys2Proof.Machine

open Sys2Proof

/-- A trip input without a filter, at a level that nothing holds back: the level is passed on in its clock. -/
theorem tripClock_active {d : Dev} {c t : Nat} (high : Bool) (hc : c < 8) (ht : t < 4)
    (hf : d.fld (R.PWM_TRIP_CFG c t) F.PWM_TRIP_CFG.FILT = 0) (hk : (d.filOf (4 * c + t)).clk ≤ d.clk) :
    ((d.setLine (4 * c + t) high).filClock).tripActive c t = (high == d.bit (R.PWM_TRIP_CFG c t) F.PWM_TRIP_CFG.POL) := by
  have hs := setLine_changes d (4 * c + t) high
  have hlen : (d.setLine (4 * c + t) high).filLen (4 * c + t) = 0 := by
    rw [Dev.filLen, if_pos (by omega), show (4 * c + t) / 4 = c by omega, show (4 * c + t) % 4 = t by omega, hs.fld_name (by decide), hf]
  obtain ⟨x, hx, ho⟩ := filPass_passes (setLine_lineAt high hc ht hk) hlen
  rw [← filClock_fil] at hx
  rw [Dev.tripActive_of_fil hx, ho, Dev.bit, (hs.within.step (filClock_changes _) : Changes lineNames
    [.axs, .cap, .dio, .engs, .fbk, .fil, .pwm] d _).fld_name (by decide)]
  rfl

theorem Changes.tripActive {ns : List RegName} {ps : List Part} {d e : Dev} (h : Changes ns ps d e) (hp : Part.fil ∉ ps)
    (hn : ns.all (fun m => RegName.PWM_TRIP_CFG.info.apart m.info) = true) (c t : Nat) : e.tripActive c t = d.tripActive c t := by
  unfold Dev.tripActive Dev.bit
  rw [show e.fil = d.fil from h.parts .fil hp, h.fld_name hn]

/-- An input that is not active has its inactive level passed on, or nothing. -/
theorem lineOut_of_inactive {d : Dev} {c t : Nat} (h : d.tripActive c t = false) :
    d.lineOut c t = !d.bit (R.PWM_TRIP_CFG c t) F.PWM_TRIP_CFG.POL := by
  unfold Dev.tripActive at h
  unfold Dev.lineOut tget
  cases hx : tget? d.fil (4 * c + t) with
  | none => rfl
  | some x =>
    rw [hx] at h
    dsimp only at h
    exact Bool.eq_not_of_ne (by simpa using h)

/-- A trip input that becomes active with EN = 1 latches (R244, R245). -/
theorem tripClock_latches {d : Dev} {c t : Nat} {high : Bool} (hc : c < 8) (ht : t < 4) (hf : d.fld (R.PWM_TRIP_CFG c t) F.PWM_TRIP_CFG.FILT = 0)
    (hk : (d.filOf (4 * c + t)).clk ≤ d.clk) (hp : d.pstate ≠ 4) (ha : d.tripActive c t = false)
    (hh : high = d.bit (R.PWM_TRIP_CFG c t) F.PWM_TRIP_CFG.POL) (he : d.bit (R.PWM_TRIP_CFG c t) F.PWM_TRIP_CFG.EN = true)
    (hb : bitAt (d.car c).tripOn t = false) : ((d.setLine (4 * c + t) high).filClock).TripLatched c t := by
  have h4 : (4 * c + t) / 4 = c ∧ (4 * c + t) % 4 = t := by omega
  have hs := setLine_changes d (4 * c + t) high
  have hline := setLine_lineAt high hc ht hk
  have hlen : (d.setLine (4 * c + t) high).filLen (4 * c + t) = 0 := by
    rw [Dev.filLen, if_pos (by omega), h4.1, h4.2, hs.fld_name (by decide), hf]
  have hdue := mem_filDue hline hlen (by rw [lineOut_of_inactive ha, hh]; simp)
  obtain ⟨x, hx, ho⟩ := filPass_passes hline hlen
  have hpass : Changes [] [.fil] d (d.setLine (4 * c + t) high).filPass := hs.step (filPass_changes _)
  generalize d.setLine (4 * c + t) high = y at hs hdue hx hpass
  have hpy : y.pstate ≠ 4 := by rwa [Dev.pstate, hs.fld_name (by decide)]
  refine (filClock_eq (List.ne_nil_of_mem hdue) hpy).tripLatched (by decide) ?_
  have hmem : 4 * c + t ∈ y.filTrips := List.mem_filter.2 ⟨hdue, decide_eq_true (by omega)⟩
  refine Dev.each_mem (Q := fun z => z.tripActive c t = true ∧ z.bit (R.PWM_TRIP_CFG c t) F.PWM_TRIP_CFG.EN = true ∧
    (bitAt (z.car c).tripOn t = true → z.TripLatched c t)) (P := (Dev.TripLatched · c t)) hmem (fun z k ⟨h1, h2, h3⟩ => ?_)
    (fun z ⟨h1, h2, h3⟩ => ?_) (fun z k hz => tripInput_latched ht hz) ⟨?_, ?_, ?_⟩
  · have hz := tripInput_changes z (k / 4) (k % 4)
    refine ⟨(hz.tripActive (by decide) (by decide) c t).trans h1, ?_, fun hon => ?_⟩
    · rwa [Dev.bit, hz.fld_name (by decide)]
    · by_cases hkey : c = k / 4 ∧ t = k % 4
      · rw [← hkey.1, ← hkey.2]
        exact tripInput_latches ht h1 h2 h3
      · rw [tripInput_tripOn z hkey] at hon
        exact tripInput_latched ht (h3 hon)
  · rw [h4.1, h4.2]
    exact tripInput_latches ht h1 h2 h3
  · rw [Dev.tripActive_of_fil hx, ho, Dev.bit, hpass.fld_name (by decide), hh]
    exact beq_self_eq_true _
  · rwa [Dev.bit, hpass.fld_name (by decide)]
  · rw [hpass.car (by decide), hb]
    exact fun h => absurd h Bool.false_ne_true

theorem Follows.tripActive {d e : Dev} (h : Follows d e) (c t : Nat) : e.tripActive c t = d.tripActive c t := by
  unfold Dev.tripActive Dev.bit
  rw [h.kept.fil, h.fld_own (by decide)]

theorem Follows.legOut {d e : Dev} {l : Nat} (h : Follows d e) (hl : d.LegOut l) : e.LegOut l := by
  obtain ⟨o, ho⟩ := h.out
  exact hl.append ho

/-- Settles O21: each clause is the effect of its command, read in what follows it. -/
theorem pwmComplete : Obligations.PwmComplete := by
  rintro s d rfl hon
  refine ⟨?cmpLo, ?commit, ?clracc, ?reload, ?period, ?calib, ?edge, ?miss, ?trip⟩
  case cmpLo =>
    intro ses l w hl hm hc
    obtain ⟨h1, h2⟩ := hostWrite_cmpLo hm hc
    refine runs_of_runIf (f := fun d => d.hostWrite ses (legReg R.PWM_CMP_LO l) w) rfl hon (by simp [hl]) fun e he => ?_
    obtain ⟨k1, k2⟩ := he.commits l
    exact ⟨k1.trans h1, (congrArg Prod.fst k2).trans h2⟩
  case commit =>
    intro ses l w hl hm hw
    have hc := getF_putF_of_lt w (f := F.PWM_LEG_CTL.COMMIT) (v := 1) (by decide) (by decide)
    obtain ⟨x, hx, hd⟩ := hostWrite_legCtl hm hw (.inl hc)
    obtain ⟨h1, h2⟩ := legCtlDo_commits x l (s.start.reg (legReg R.PWM_LEG_CTL l)) hc
    refine runs_of_runIf (f := fun d => d.hostWrite ses (legReg R.PWM_LEG_CTL l) (putF w F.PWM_LEG_CTL.COMMIT 1)) rfl hon (by simp [hl])
      fun e he => ?_
    rw [hd] at he
    obtain ⟨k1, k2⟩ := he.commits l
    exact ⟨(k1.trans h1).trans (hx.clk (by decide)), (k2.trans h2).trans (congrArg LegSt.comm (hx.leg (by decide) l))⟩
  case clracc =>
    intro ses l w hl hm hw
    have hc := getF_putF_of_lt w (f := F.PWM_LEG_CTL.CLRACC) (v := 1) (by decide) (by decide)
    obtain ⟨x, hx, hd⟩ := hostWrite_legCtl hm hw (.inr hc)
    refine runs_of_runIf (f := fun d => d.hostWrite ses (legReg R.PWM_LEG_CTL l) (putF w F.PWM_LEG_CTL.CLRACC 1)) rfl hon (by simp [hl])
      fun e he => ?_
    rw [hd] at he
    have h : AccCleared s.start e l := AccCleared.follows (by exact legCtlDo_cleared hx l _ hc) he
    exact ⟨fun hn => h.resolve_right fun hs => hn hs.1, fun _ => h.imp_right And.right⟩
  case reload =>
    intro c hc hn
    refine runs_of_runIf (f := fun d => d.reloadSample c) rfl hon (by simp [hc]) fun e he => ?_
    have h (l : Nat) (hl : l ∈ legsOf c) := (he.leg_keeps l LegSt.next fun _ => rfl).trans (reloadSample_next hn hl)
    exact fun l hl hk => ⟨(h l hl).trans (if_pos hk), fun j hj hk => (h j hj).trans (if_neg (Nat.not_lt.2 hk))⟩
  case period =>
    intro c hc hn
    obtain ⟨h1, h2⟩ := pwmPeriod_effect hn
    refine runs_of_runIf (f := fun d => d.pwmPeriod c) rfl hon (by simp [hc]) fun e he => ?_
    rw [he.car]
    refine fun l hl => ⟨(he.leg_keeps l LegSt.use fun _ => rfl).trans (h2 l hl).1, h1, fun j hj hr => ?_⟩
    obtain ⟨edges, hm⟩ := he.legOut ((h2 j hj).2 hr)
    exact List.any_eq_true.2 ⟨_, hm, beq_self_eq_true j⟩
  case calib =>
    intro c map hc hn
    refine runs_of_runIf (f := fun d => d.delayCal c map) rfl hon (by simp [hc]) fun e he => ?_
    rw [he.bit_own (by decide), he.car]
    exact delayCal_effect map hn
  case edge =>
    intro l low ns hl hr hm
    obtain ⟨h1, h2⟩ := swnEdge_effect low ns hr hm
    refine runs_of_runIf (f := fun d => d.swnEdge l low ns) rfl hon (by simp [hl]) fun e he => ?_
    exact ⟨(he.leg_keeps l LegSt.miss fun _ => rfl).trans h1, fun hlow hns => (he.leg_keeps l LegSt.curHL fun _ => rfl).trans (h2 hlow hns)⟩
  case miss =>
    intro l hl hr hm
    obtain ⟨h1, h2⟩ := swnMiss_effect hr hm
    refine runs_of_runIf (f := fun d => d.swnMiss l) rfl hon (by simp [hl]) fun e he => ?_
    exact ⟨(he.leg_keeps l LegSt.miss fun _ => rfl).trans h1, fun h => (he.bit_own (n := .PWM_LEG_STAT) (by decide)).trans (h2 h)⟩
  case trip =>
    intro c t high hc ht hf hk hp
    refine runs_of_runIf (f := fun d => (d.setLine (4 * c + t) high).filClock) rfl hon (by simp [hc, ht]) fun e he => ?_
    rw [he.tripActive, he.fld_own (by decide)]
    exact ⟨tripClock_active high hc ht hf hk, tripClock_latches hc ht hf hk hp⟩

end Sys2Proof.Machine

namespace Sys2Proof.Machine

open Sys2Proof

/-! ### The effects of legs, carriers and sigma-delta inputs change at most this (R233 to R253) -/

theorem reloadSample_changes (d : Dev) (c : Nat) : Changes [.PWM_LEG_CNT] [.pwm] d (d.reloadSample c) := by
  unfold Dev.reloadSample
  extract_lets m
  have h : Changes [.PWM_LEG_CNT] [.pwm] d (d.setCar c { d.car c with lastReload := some m, reloadClk := some d.clk }) := Changes.refl.setCar
  exact Changes.refl.ite (h.each fun x l _ h => h.step (reloadLeg_changes x l))

theorem pwmPeriod_changes (d : Dev) (c : Nat) : Changes periodNames [.pwm] d (d.pwmPeriod c) := by
  unfold Dev.pwmPeriod
  extract_lets m x
  have h (y : CarSt) : Changes periodNames [.pwm] d (d.setCar c y) := Changes.refl.setCar
  exact Changes.refl.ite ((h _).each fun x l _ h => h.step (legPeriod_changes x l))

theorem delayCal_changes (d : Dev) (c : Nat) (map : Option Nat) :
    Changes [.PWM_DRV_STAT, .PWM_LEG_ACC, .PWM_LEG_CNT, .PWM_LEG_STAT] [.pwm] d (d.delayCal c map) := by
  unfold Dev.delayCal
  extract_lets x st now y d1 d2
  have h1 : Changes [.PWM_DRV_STAT, .PWM_LEG_ACC, .PWM_LEG_CNT, .PWM_LEG_STAT] [.pwm] d d1 := Changes.setFld Changes.refl.setCar
  have h2 : Changes [.PWM_DRV_STAT, .PWM_LEG_ACC, .PWM_LEG_CNT, .PWM_LEG_STAT] [.pwm] d d2 := h1.step (legForms_changes d1 _)
  exact Changes.refl.ite (h2.ite h2.evAt)

theorem swnEdge_changes (d : Dev) (l : Nat) (low : Bool) (ns : Nat) : Changes [] [.pwm] d (d.swnEdge l low ns) := by
  have hs (x : LegSt) : Changes [] [.pwm] d (d.setLeg l x) := Changes.refl.setLeg
  unfold Dev.swnEdge
  exact Changes.refl.ite (((hs _).ite (hs _)).ite ((hs _).ite (hs _)))

theorem swnMiss_changes (d : Dev) (l : Nat) : Changes [.PWM_LEG_STAT] [.pwm] d (d.swnMiss l) := by
  unfold Dev.swnMiss
  extract_lets x st n d1
  have h1 : Changes [.PWM_LEG_STAT] [.pwm] d d1 := Changes.refl.setLeg
  exact Changes.refl.ite (h1.setFld.setFld.setFld.evAt.ite h1)

theorem carRemoved_changes (d : Dev) (c : Nat) :
    Changes [.AXIS_STAT, .DIO_OUT, .PWM_DRV_STAT, .PWM_LEG_ACC] [.axs, .cap, .dio, .engs, .pwm] d (d.carRemoved c) := by
  unfold Dev.carRemoved
  extract_lets x d1
  have h1 : Changes [.AXIS_STAT, .DIO_OUT, .PWM_DRV_STAT, .PWM_LEG_ACC] [.axs, .cap, .dio, .engs, .pwm] d d1 := Changes.refl.setFld.setFld.setCar
  exact Changes.refl.ite (h1.evAt.step (tripDrives_changes _ c _))

theorem carInserted_changes (d : Dev) (c : Nat) : Changes [.PWM_DRV_STAT] [.pwm] d (d.carInserted c) :=
  Changes.refl.ite (Changes.setFld (Changes.setCar Changes.refl.setFld))

theorem carIdDone_frame (d : Dev) (c : Nat) (b : List Byte) :
    Changes [.PWM_DRV_DTFLOOR, .PWM_DRV_SERIAL, .PWM_DRV_STAT, .PWM_DRV_TYPE] [.pwm] d (d.carIdDone c b) := by
  unfold Dev.carIdDone
  extract_lets ok x d1 d2
  have h1 : Changes [.PWM_DRV_DTFLOOR, .PWM_DRV_SERIAL, .PWM_DRV_STAT, .PWM_DRV_TYPE] [.pwm] d d1 :=
    (Changes.setReg (Changes.setReg (Changes.setReg Changes.refl.setCar)))
  have h2 : Changes [.PWM_DRV_DTFLOOR, .PWM_DRV_SERIAL, .PWM_DRV_STAT, .PWM_DRV_TYPE] [.pwm] d d2 := h1.setFld
  exact Changes.refl.ite (h2.ite h2.evAt)

theorem sdLoss_changes (d : Dev) (c j : Nat) : Changes [.SD_CFG] [.engs] d (d.sdLoss c j) := by
  have h : Changes [.SD_CFG] [.engs] d (d.setFld (R.SD_CFG c j) F.SD_CFG.LOSS 1) := Changes.refl.setFld
  exact Changes.refl.ite (h.step (chanValid_changes _ _ _)).evAt

theorem sdLossClear_changes (d : Dev) (c j : Nat) : Changes [.SD_CFG] [.engs] d (d.sdLossClear c j) := by
  have h : Changes [.SD_CFG] [.engs] d (d.setFld (R.SD_CFG c j) F.SD_CFG.LOSS 0) := Changes.refl.setFld
  exact h.step (chanValid_changes _ _ _)

theorem legCtlDo_changes (d : Dev) (l : Nat) (old w : Word) :
    Changes [.PWM_LEG_ACC, .PWM_LEG_CNT, .PWM_LEG_CTL, .PWM_LEG_STAT] [.pwm] d (d.legCtlDo l old w) := by
  unfold Dev.legCtlDo
  extract_lets d1 starts d2
  have h1 : Changes [.PWM_LEG_ACC, .PWM_LEG_CNT, .PWM_LEG_CTL, .PWM_LEG_STAT] [.pwm] d d1 := (clearAcc_changes d l).within.ite .refl
  have h2 : Changes [.PWM_LEG_ACC, .PWM_LEG_CNT, .PWM_LEG_CTL, .PWM_LEG_STAT] [.pwm] d d2 := h1.when (h1.step (legAnew_changes d1 l))
  exact (h2.step (commitPair_changes d2 l _)).ite h2

/-! ### What a write of half a pair changes at most (R8) -/

theorem Changes.setHeld {l : List RegName} {ps : List Part} {d e : Dev} {b : Bool} (h : Changes l ps d e b) {ses : Nat} {t : Tab Word} :
    Changes l ps d (e.setHeld ses t) b := by
  unfold Dev.setHeld
  split
  · exact h.of_still rfl fun p => by cases p <;> rfl
  · exact h

/-- The parts of the table of names, each short enough for `decide` to go through. -/
def regParts : List (List RegName) := [regNames0, regNames1, regNames2, regNames3, regNames4, regNames5, regNames6, regNames7, regNames8, regNames9,
  regNames10]

theorem all_regNames {p : RegName → Bool} (h : (regParts.all fun l => l.all p) = true) : regNames.all p = true := by
  have hf : regParts.flatten = regNames := by simp only [regParts, regNames, List.flatten_cons, List.flatten_nil, List.append_nil, List.append_assoc]
  rwa [← hf, List.all_flatten]

theorem RegName.sole_of_legApart {n : RegName} (h : (regParts.all fun l => l.all fun m => n == m || n.legApart m) = true) : n.Sole := by
  intro r i j ha
  by_contra hn
  have hm := List.all_eq_true.1 (all_regNames h) r.name (mem_regNames _)
  rw [Bool.or_eq_true, beq_iff_eq] at hm
  exact addr_ne_of_legApart (hm.resolve_left (Ne.symm hn)) i j r.i r.j ha.symm

section
variable {l : List RegName} {ps : List Part} {d : Dev} {ses : Nat} {w : Word}

theorem writePair_changes {lo hi : Reg} {wh : Word} (h : ∀ v, Changes l ps d (d.pairDo lo hi v)) :
    Changes l ps d (d.writePair false lo hi w wh).1 := by
  unfold Dev.writePair
  extract_lets x v none_ st
  split
  · exact .refl
  split
  · exact .refl
  split
  · exact h v
  · exact .refl

theorem hostWritePair_changes {n m : RegName} {i j : Nat} (hn : n.Sole) (hi : n.isHi = false) (hh : n.hi? = some m)
    (h : ∀ i' j' v, Changes l ps d (d.pairDo ⟨n, i', j'⟩ ⟨m, i', j'⟩ v)) : Changes l ps d (d.hostWrite ses ⟨n, i, j⟩ w) := by
  refine Changes.answer (?_ : Changes l ps d (d.writeAddr ses (Reg.addr ⟨n, i, j⟩) w).1)
  unfold Dev.writeAddr
  split
  · exact .refl
  split
  · exact .refl
  · next r hr =>
    obtain ⟨q, i', j'⟩ := r
    obtain rfl : q = n := hn _ i j (addr_of_regAt hr)
    have hw (s : Session) : Changes l ps d (d.writeFor ses s ⟨q, i', j'⟩ w).1 := by
      unfold Dev.writeFor
      rw [hi, hh]
      dsimp only
      have hp (wh : Word) : Changes l ps d (d.writePair false ⟨q, i', j'⟩ ⟨m, i', j'⟩ w wh).1 := writePair_changes (h i' j')
      rw [if_neg Bool.false_ne_true]
      split
      · exact (hp _).setHeld
      · exact hp _
    dsimp only
    split
    · exact hw _
    · exact .refl

end

/-! ### Writes of the registers of a leg (R235, R242) -/

theorem cmpWrite_changes (d : Dev) (ses l : Nat) (w : Word) : Changes [.PWM_LEG_CNT] [.pwm] d (d.hostWrite ses (legReg R.PWM_CMP_LO l) w) :=
  hostWritePair_changes (RegName.sole_of_legApart (by decide)) rfl rfl fun _ _ _ => commitPair_changes d _ _

theorem legWrite_changes (d : Dev) (ses l : Nat) (w : Word) :
    Changes [.PWM_LEG_ACC, .PWM_LEG_CNT, .PWM_LEG_CTL, .PWM_LEG_STAT] [.pwm] d (d.hostWrite ses (legReg R.PWM_LEG_CTL l) w) := by
  refine hostWrite_changes (RegName.sole_of_legApart (by decide)) rfl rfl fun i j => ?_
  refine writeWord_changes (by decide) (by decide) (fun old new => ?_) (by simp)
  have h : Changes [.PWM_LEG_ACC, .PWM_LEG_CNT, .PWM_LEG_CTL, .PWM_LEG_STAT] [.pwm] d (d.setReg ⟨.PWM_LEG_CTL, i, j⟩ new) := Changes.refl.setReg
  rcases regDo_cases (d.setReg ⟨.PWM_LEG_CTL, i, j⟩ new) ses ⟨.PWM_LEG_CTL, i, j⟩ old new w with hr | hr | hr | hr <;> rw [hr]
  · exact h
  · exact h.step (legCtlDo_changes _ _ old w)
  · exact h
  · exact h

end Sys2Proof.Machine

namespace Sys2Proof.Machine

open Sys2Proof

/-! ### Further encoders, probes and their supply (R269 to R280) -/

theorem ssiStart_changes (d : Dev) (k : Nat) : Changes [] [.fbk] d (d.ssiStart k) := Changes.refl.ite Changes.refl.setEnc

theorem encSpeed_changes (d : Dev) (k : Nat) (v : Int) : Changes [.FBK_ENC_SPD] [.fbk] d (d.encSpeed k v) := Changes.setReg Changes.refl.setEnc

/-- The registers that the end of an SSI frame sets. -/
abbrev ssiNames : List RegName := [.FBK_ENC_POS, .FBK_ENC_SPD, .FBK_ENC_STAT, .FBK_ENC_TLAST]

theorem ssiEnd_changes (d : Dev) (k : Nat) (td : Option Nat) (data : Nat) (err par high : Bool) :
    Changes ssiNames [.engs, .fbk] d (d.ssiEnd k td data err par high) := by
  unfold Dev.ssiEnd
  extract_lets x st s bad n lost d1 bits raw bin val
  have h1 : Changes ssiNames [.engs, .fbk] d d1 := (Changes.bump Changes.refl.setEnc).evObj
  split
  · exact .refl
  · extract_lets y d2
    have h2 : Changes ssiNames [.engs, .fbk] d d2 := Changes.setReg (Changes.setReg (Changes.setFld Changes.refl.setEnc))
    refine ((h1.step (encValidity_changes d1 k)).ite h1).ite ?_
    split
    · exact (h2.step (encSpeed_changes d2 k _)).ite h2
    · exact h2

theorem speedWindow_changes (d : Dev) (k : Nat) : Changes [.FBK_ENC_SPD] [.fbk] d (d.speedWindow k) := by
  have h (x : EncSt) (v : Int) : Changes [.FBK_ENC_SPD] [.fbk] d ((d.setEnc k x).encSpeed k v) :=
    Changes.step (Changes.setEnc Changes.refl) (encSpeed_changes _ k v)
  unfold Dev.speedWindow
  exact Changes.refl.ite ((h _ _).ite (h _ _))

theorem clrInv_changes (d : Dev) (k : Nat) : Changes [.FBK_ENC_STAT] [.engs, .fbk] d (d.clrInv k) :=
  (Changes.step (Changes.setEnc Changes.refl) (encValidity_changes _ k)).ite .refl

theorem encPreset_changes (d : Dev) (k : Nat) (w : Word) : Changes [.FBK_ENC_POS] [.fbk] d (d.encPreset k w) := Changes.setReg Changes.refl.setEnc

theorem probeCtl_changes (d : Dev) (p : Nat) (w : Word) : Changes [.FBK_PRB_STAT] [] d (d.probeCtl p w) :=
  Changes.refl.setFld.ite (Changes.refl.setFld.ite .refl)

theorem encRestore_changes (d : Dev) (mask : Nat) : Changes [.SYS_ENV_ENC] [] d (d.encRestore mask) := Changes.refl.setReg

theorem encOvercurrent_changes (d : Dev) (c : Nat) : Changes [.FBK_ENC_STAT, .FBK_SUP, .SYS_ENV_ENC] [.engs, .fbk] d (d.encOvercurrent c) := by
  have h : Changes [.FBK_ENC_STAT, .FBK_SUP, .SYS_ENV_ENC] [.engs, .fbk] d
      ((d.setReg R.SYS_ENV_ENC (wN (clrBit (d.reg R.SYS_ENV_ENC).toNat c))).setW1c R.FBK_SUP F.FBK_SUP.SUPFLT (2 ^ c)) := Changes.refl.setReg.setW1c
  exact h.evObj.each fun x k _ h => Changes.step h.setEnc (encValidity_changes _ k)

/-! ### Remote encoders (R277) -/

theorem remValidity_changes (d : Dev) (r cause : Nat) : Changes [.FBK_REM_STAT] [.engs] d (d.remValidity r cause) := by
  unfold Dev.remValidity
  extract_lets st was d1 d2
  have h1 : Changes [.FBK_REM_STAT] [.engs] d d1 := Changes.refl.setFld.setFld
  have h2 : Changes [.FBK_REM_STAT] [.engs] d d2 := h1.step (chanValid_changes d1 _ _)
  exact h2.evObj.ite h2

theorem feed_changes (d : Dev) (kind src : Nat) (v : Word) (ok : Bool) : Changes [.DIO_OUT] [.cap, .dio, .engs] d (d.feed kind src v ok) :=
  Changes.refl.each fun x c _ h => h.step (chanStore_changes x c v ok none)

/-- The registers that a cycle of a remote encoder sets. -/
abbrev remNames : List RegName := [.DIO_OUT, .FBK_REM_POS, .FBK_REM_SPD, .FBK_REM_STAT]

theorem remCycle_changes (d : Dev) (r : Nat) : Changes remNames [.cap, .dio, .engs, .fbk] d (d.remCycle r) := by
  unfold Dev.remCycle
  extract_lets cfg chan x stamp ofs none_ n pos
  refine Changes.refl.ite ?_
  split
  · exact .refl
  · extract_lets cyc d0 per d1 v spd y d2
    have h0 : Changes remNames [.cap, .dio, .engs, .fbk] d d0 := Changes.refl.setRem
    have h1 : Changes remNames [.cap, .dio, .engs, .fbk] d d1 := (Changes.bump h0.setRem).evObj
    have h2 : Changes remNames [.cap, .dio, .engs, .fbk] d d2 := Changes.setReg (Changes.setReg h0.setRem)
    have h3 : Changes remNames [.cap, .dio, .engs, .fbk] d (d2.remValidity r 0) := h2.step (remValidity_changes d2 r 0)
    have h4 (src src' : Nat) (w w' : Word) : Changes remNames [.cap, .dio, .engs, .fbk] d (((d2.remValidity r 0).feed 0 src w).feed 0 src' w') :=
      Changes.step (h3.step (feed_changes _ _ _ _ _)) (feed_changes _ _ _ _ _)
    exact Changes.refl.ite ((h0.step (remValidity_changes d0 r 5)).ite (((h1.step (remValidity_changes d1 r 6)).ite h1).ite (h4 _ _ _ _)))

/-! ### Writes of registers that start what their block starts (R661) -/

/-- The names, standing apart from all others, of which the registers of this group are written or read. -/
def driveLone : List RegName := [.ARM_CTL, .AXIS_GEAR_CTL, .AXIS_MOT_CTL, .FBK_ENC_CTL, .FBK_ENC_PRESET, .FBK_PRB_CTL, .FBK_PRB_POS, .FBK_SUP,
  .TRACK_CORR, .TRACK_CTL, .TRACK_SET_LO, .VM_CTL, .VM_SET_LO]

theorem sole_of_driveLone {n : RegName} (h : n ∈ driveLone) : n.Sole :=
  have hl : (driveLone.all fun n => regParts.all fun l => l.all fun m => n == m || n.info.apart m.info) = true := by decide
  RegName.sole_of_lone (all_regNames (List.all_eq_true.1 hl n h))

/-- A write changes its register and what each block's start changes; most blocks start nothing of it. -/
theorem soleWrite_changes {l : List RegName} {ps : List Part} {d : Dev} {ses : Nat} {w : Word} {n : RegName} {i j : Nat} (hn : n.Sole)
    (hp : plainName n = true) (hna : n ≠ .AXIS_CTL) (hl : l.contains n = true)
    (hax : ∀ x i j old new, Changes l ps x (x.axisDo ⟨n, i, j⟩ old new w)) (hpl : ∀ x i j old, Changes l ps x (x.plantDo ⟨n, i, j⟩ old w))
    (hnet : ∀ x i j old new, Changes l ps x (x.netDo ⟨n, i, j⟩ old new w)) (hun : ∀ x i j, Changes l ps x (x.unitDo ses ⟨n, i, j⟩ w)) :
    Changes l ps d (d.hostWrite ses ⟨n, i, j⟩ w) := by
  simp only [plainName, Bool.and_eq_true, Bool.not_eq_true', bne_iff_ne, ne_eq, beq_iff_eq] at hp
  obtain ⟨⟨⟨⟨-, h1⟩, h2⟩, h3⟩, h4⟩ := hp
  refine hostWrite_changes hn h3 h4 fun i j => writeWord_changes h1 h2 (fun old new => ?_) fun h => absurd h hna
  have hs : Changes l ps d (d.setReg ⟨n, i, j⟩ new) := Changes.refl.setReg.use (by simpa using hl)
  have hstep {x : Dev} (k : Changes l ps (d.setReg ⟨n, i, j⟩ new) x) : Changes l ps d x :=
    (hs.step k).use (by simp)
  rcases regDo_cases (d.setReg ⟨n, i, j⟩ new) ses ⟨n, i, j⟩ old new w with hr | hr | hr | hr <;> rw [hr]
  · exact hstep (hax _ _ _ _ _)
  · exact hstep (hpl _ _ _ _)
  · exact hstep (hnet _ _ _ _ _)
  · exact hstep (hun _ _ _)

theorem supWrite_changes (d : Dev) (ses : Nat) (w : Word) : Changes [.FBK_SUP, .SYS_ENV_ENC] [] d (d.hostWrite ses R.FBK_SUP w) :=
  soleWrite_changes (sole_of_driveLone (by decide)) rfl (by decide) rfl (fun _ _ _ _ _ => .refl)
    (fun x _ _ _ => (encRestore_changes x _).within) (fun _ _ _ _ _ => .refl) fun _ _ _ => .refl

theorem encCtlWrite_changes (d : Dev) (ses k : Nat) (w : Word) :
    Changes [.FBK_ENC_CTL, .FBK_ENC_STAT] [.engs, .fbk] d (d.hostWrite ses (R.FBK_ENC_CTL k) w) :=
  soleWrite_changes (sole_of_driveLone (by decide)) rfl (by decide) rfl (fun _ _ _ _ _ => .refl)
    (fun x i _ _ => (clrInv_changes x i).within.ite .refl) (fun _ _ _ _ _ => .refl) fun _ _ _ => .refl

theorem presetWrite_changes (d : Dev) (ses k : Nat) (w : Word) :
    Changes [.FBK_ENC_POS, .FBK_ENC_PRESET] [.fbk] d (d.hostWrite ses (R.FBK_ENC_PRESET k) w) :=
  soleWrite_changes (sole_of_driveLone (by decide)) rfl (by decide) rfl (fun _ _ _ _ _ => .refl)
    (fun x i _ _ => (encPreset_changes x i w).within) (fun _ _ _ _ _ => .refl) fun _ _ _ => .refl

theorem probeWrite_changes (d : Dev) (ses p : Nat) (w : Word) :
    Changes [.FBK_PRB_CTL, .FBK_PRB_STAT] [] d (d.hostWrite ses (R.FBK_PRB_CTL p) w) :=
  soleWrite_changes (sole_of_driveLone (by decide)) rfl (by decide) rfl (fun _ _ _ _ _ => .refl)
    (fun x i _ _ => (probeCtl_changes x i w).within) (fun _ _ _ _ _ => .refl) fun _ _ _ => .refl

/-! ### The read of a probe's position (R60, R275) -/

theorem probeRead_changes (d : Dev) (p : Nat) : Changes [.FBK_PRB_STAT] [] d (d.probeRead p) := Changes.refl.setFld.setFld

theorem probePosRead_changes (d : Dev) (ses p : Nat) : Changes [.FBK_PRB_STAT] [] d (d.hostRead ses (R.FBK_PRB_POS p).addr) := by
  have hn : RegName.FBK_PRB_POS.Sole := sole_of_driveLone (by decide)
  refine Changes.emit (?_ : Changes [.FBK_PRB_STAT] [] d (d.readAddr ses (R.FBK_PRB_POS p).addr).1)
  unfold Dev.readAddr
  split
  · exact .refl
  split
  · next r hr =>
    obtain ⟨m, i, j⟩ := r
    obtain rfl : m = .FBK_PRB_POS := hn _ p 0 (addr_of_regAt (reach_regAt d hr))
    have hw : Changes [.FBK_PRB_STAT] [] d (d.readFor ses ⟨.FBK_PRB_POS, i, j⟩).1 := by
      unfold Dev.readFor
      split
      · exact probeRead_changes d i
      · exact probeRead_changes d i
    exact hw
  · exact .refl

end Sys2Proof.Machine

namespace Sys2Proof.Machine

open Sys2Proof

namespace Changes

variable {l : List RegName} {ps : List Part} {d e : Dev} {b : Bool}

theorem setTrk (h : Changes l ps d e b) {t : Nat} {x : TrackSt} : Changes l ps d (e.setTrk t x) (ps.contains .mot && b) := h.mot

theorem setVm (h : Changes l ps d e b) {v : Nat} {x : VmSt} : Changes l ps d (e.setVm v x) (ps.contains .mot && b) := h.mot

theorem setGearSt (h : Changes l ps d e b) {a st : Nat} : Changes l ps d (e.setGearSt a st) (l.contains .AXIS_MOT_STAT && b) := h.setFld

end Changes

/-! ### Gearing and moves of an axis (R293 to R305) -/

theorem cancelChange_changes (d : Dev) (a : Nat) : Changes [.AXIS_MOT_STAT] [.mot] d (d.cancelChange a) :=
  Changes.refl.inside (cancelChange_inside d a)

theorem gearOff_changes (d : Dev) (a : Nat) : Changes [.AXIS_MOT_STAT] [.mot] d (d.gearOff a) := Changes.refl.inside (gearOff_inside d a)

/-- The registers of an axis that gearing and moves set. -/
abbrev gearNames : List RegName := [.AXIS_GEAR_CUR_DEN, .AXIS_GEAR_CUR_NUM, .AXIS_GEAR_FIRED_HI, .AXIS_GEAR_FIRED_LO, .AXIS_MOT_STAT]

theorem gearComplete_changes (d : Dev) (a : Nat) (c : Change) : Changes gearNames [.mot] d (d.gearComplete a c) := by
  unfold Dev.gearComplete
  exact Changes.setGearSt (Changes.setReg (Changes.setReg (Changes.setMs Changes.refl)))

theorem gearFire_changes (d : Dev) (a : Nat) (c : Change) (xq : Int) : Changes gearNames [.mot] d (d.gearFire a c xq) := by
  unfold Dev.gearFire
  extract_lets s y c1 d1 d2 d3
  have h1 : Changes gearNames [.mot] d d1 := Changes.setPair (Changes.setMs Changes.refl)
  have h2 : Changes gearNames [.mot] d d2 := (h1.setFld.ite h1.setW1c).evObj
  have h3 : Changes gearNames [.mot] d d3 := h2.ite h2.evObj
  exact (h3.step (gearComplete_changes d3 a c1)).ite h3.setGearSt

theorem gearStep_changes (d : Dev) (a : Nat) : Changes gearNames [.mot] d (d.gearStep a) := by
  unfold Dev.gearStep
  extract_lets ma s dp d1 x d2
  have h1 : Changes gearNames [.mot] d d1 := Changes.setMs Changes.refl
  have h2 : Changes gearNames [.mot] d d2 := by
    unfold d2
    split
    · exact h1.ite ((h1.step (gearFire_changes d1 a _ _)).ite ((h1.step (gearFire_changes d1 a _ _)).ite h1.setMs))
    · exact h1
  split
  · exact (h2.step (gearComplete_changes d2 a _)).ite h2
  · exact h2

theorem gearEngage_changes (d : Dev) (a : Nat) : Changes gearNames [.mot] d (d.gearEngage a) := by
  unfold Dev.gearEngage
  exact Changes.setGearSt (Changes.setSrc (Changes.setReg (Changes.setReg (Changes.setMs Changes.refl))))

theorem motCtlDo_changes (d : Dev) (a : Nat) (w : Word) : Changes [.AXIS_MOT_STAT] [.mot] d (d.motCtlDo a w) := by
  have h (x : MotSt) : Changes [.AXIS_MOT_STAT] [.mot] d (d.setMs a x) := Changes.refl.setMs
  exact (h _).ite ((h _).setFld.ite .refl)

theorem gearCtlDo_changes (d : Dev) (a : Nat) (w : Word) : Changes [.AXIS_MOT_STAT] [.mot] d (d.gearCtlDo a w) := by
  have h (x : MotSt) : Changes [.AXIS_MOT_STAT] [.mot] d (d.setMs a x) := Changes.refl.setMs
  exact (h _).ite ((h _).setGearSt.ite ((h _).ite ((h _).ite .refl)))

theorem startMove_changes (d : Dev) (a kind : Nat) (val : Int) (k : Kin) (dt : Int) :
    Changes [.AXIS_MOT_STAT] [.mot] d (d.startMove a kind val k dt) := by
  unfold Dev.startMove
  extract_lets l p d1
  have h1 : Changes [.AXIS_MOT_STAT] [.mot] d d1 := gearOff_changes d a
  exact Changes.setFld (Changes.setSrc h1.setMs)

theorem actionMove_changes (d : Dev) (a : Nat) (r : MoveReq) : Changes [.AXIS_MOT_STAT] [.mot] d (d.actionMove a r) := by
  unfold Dev.actionMove
  extract_lets s src start dt k d1
  have h1 : Changes [.AXIS_MOT_STAT] [.mot] d d1 := Changes.refl.setFld
  split
  · exact h1.step (startMove_changes d1 a _ _ _ _)
  · exact h1.step (startMove_changes d1 a _ _ _ _)
  · exact h1.step (startMove_changes d1 a _ _ _ _)

theorem motCommit_changes (d : Dev) (a : Nat) : Changes gearNames [.mot] d (d.motCommit a) := by
  unfold Dev.motCommit
  extract_lets s d1 d2 d3 d4 d5 halts t l
  have h1 : Changes gearNames [.mot] d d1 := Changes.setMs Changes.refl
  have h2 : Changes gearNames [.mot] d d2 := (h1.step (cancelChange_changes d1 a)).ite h1
  have h3 : Changes gearNames [.mot] d d3 := h2.each fun x r _ h => h.step (actionMove_changes x a r)
  have h4 : Changes gearNames [.mot] d d4 := (h3.step (gearEngage_changes d3 a)).ite h3
  have h5 : Changes gearNames [.mot] d d5 := (Changes.setSrc (h4.step (gearOff_changes d4 a))).ite h4
  have hm (kind : Nat) (v : Int) (k : Kin) : Changes gearNames [.mot] d (d5.startMove a kind v k 0) := h5.step (startMove_changes d5 a kind v k 0)
  split
  · exact (hm _ _ _).setFld.ite (hm _ _ _)
  · exact hm _ _ _
  · refine Changes.ite (b := true) (c := true) ?_ h5
    split
    · exact h5.ite h5.setMs
    · exact h5

/-! ### The set-point of a period (R288 to R308) -/

/-- The registers and parts that the set-point of a period may set. -/
abbrev setpointNames : List RegName := [.AXIS_GEAR_CUR_DEN, .AXIS_GEAR_CUR_NUM, .AXIS_GEAR_FIRED_HI, .AXIS_GEAR_FIRED_LO, .AXIS_MOT_ACC,
  .AXIS_MOT_POS_HI, .AXIS_MOT_POS_LO, .AXIS_MOT_STAT, .AXIS_MOT_VEL, .AXIS_STAT, .DIO_OUT]

abbrev setpointParts : List Part := [.axs, .cap, .dio, .engs, .fresh, .mot]

theorem vlimit_changes (d : Dev) (a which lreact : Nat) : Changes [.AXIS_MOT_STAT] [] d (d.vlimit a which lreact) := Changes.refl.setFld.evObj

theorem applyLimits_changes (d : Dev) (a : Nat) (c : Int × Int × Int) : Changes setpointNames setpointParts d (d.applyLimits a c).1 := by
  have hi {q : Prop} [Decidable q] {x y : Dev × Int × Int × Int} (hx : Changes setpointNames setpointParts d x.1)
      (hy : Changes setpointNames setpointParts d y.1) : Changes setpointNames setpointParts d (if q then x else y).1 := by
    split
    · exact hx
    · exact hy
  have hv (which : Nat) : Changes setpointNames setpointParts d (d.vlimit a which 1) := (vlimit_changes d a which 1).within
  unfold Dev.applyLimits
  split
  · exact .refl
  · extract_lets s st was hi1 lo1 which settled l e beyond lim rest past can v1 toward stop p dt d1 x d2
    have h1 : Changes setpointNames setpointParts d d1 :=
      Changes.setSrc (Changes.step (gearOff_changes d a).within (vlimit_changes _ a beyond 0))
    have h2 : Changes setpointNames setpointParts d d2 := Changes.setFld h1.setMs
    split
    · exact hi (Changes.refl.ite (hv 2)) (hi (Changes.refl.ite (hv 1)) (Changes.refl.ite Changes.refl.setFld))
    · have hf : Changes setpointNames setpointParts d ((d.setFld st F.AXIS_MOT_STAT.VLFLT 1).vlimit a which 2) :=
        Changes.step Changes.refl.setFld (vlimit_changes _ a which 2)
      exact hi (hf.step (react_changes _ a _ _ _)) .refl
    · exact hi .refl (hi .refl h2)

theorem stopSource_changes (d : Dev) (a : Nat) (dt : Int) :
    Changes (.AXIS_MOT_STAT :: spNames) [.mot, .fresh, .axs, .cap, .dio, .engs] d (d.stopSource a dt) := Changes.refl.inside (stopSource_inside d a dt)

theorem motDone_changes (d : Dev) (a : Nat) : Changes [.AXIS_MOT_STAT] [.mot] d (d.motDone a) := Changes.refl.inside (motDone_inside d a)

theorem masterLost_changes (d : Dev) (a : Nat) : Changes [.AXIS_MOT_STAT, .AXIS_STAT, .DIO_OUT] [.axs, .cap, .dio, .engs, .mot] d (d.masterLost a) := by
  have h : Changes [.AXIS_MOT_STAT, .AXIS_STAT, .DIO_OUT] [.axs, .cap, .dio, .engs, .mot] d (d.cancelChange a) := (cancelChange_changes d a).within
  exact (h.setW1c.evObj.step (react_changes _ a _ _ _)).ite .refl

theorem setpoint_changes (d : Dev) (a : Nat) : Changes setpointNames setpointParts d (d.setpoint a) := by
  unfold Dev.setpoint
  split
  · exact .refl
  · extract_lets s dt d0 d1 d2 d3 d4
    have h0 : Changes setpointNames setpointParts d d0 := Changes.setMs Changes.refl
    have h1 : Changes setpointNames setpointParts d d1 := (h0.step (masterLost_changes d0 a)).ite h0
    refine Changes.refl.ite ?_
    split
    · exact h1.step (stopSource_changes d1 a _)
    · exact h1
    · exact Changes.setSrc (h1.step (gearOff_changes d1 a))
    · have h2 : Changes setpointNames setpointParts d d2 := (h1.step (gearStep_changes d1 a)).ite h1
      have h3 : Changes setpointNames setpointParts d d3 := h2.step (motCommit_changes d2 a)
      have h4 : Changes setpointNames setpointParts d d4 := h3.setMs.ite h3
      have h5 : Changes setpointNames setpointParts d (d4.applyLimits a (d4.candidate a)).1 := h4.step (applyLimits_changes d4 a _)
      generalize d4.applyLimits a (d4.candidate a) = q at h5
      obtain ⟨d5, c⟩ := q
      exact (h5.step (stopSource_changes d5 a _)).ite ((Changes.setSrc (h5.step (gearOff_changes d5 a))).ite
        (Changes.step (h5.step (storeSp_changes d5 a c)) (motDone_changes _ a)))

end Sys2Proof.Machine

namespace Sys2Proof.Machine

open Sys2Proof

/-! ### Tracks (R309 to R315) -/

/-- The registers that the update of a track sets. -/
abbrev trackNames : List RegName := [.TRACK_ACC, .TRACK_CORRREM, .TRACK_POS_HI, .TRACK_POS_LO, .TRACK_REV, .TRACK_STAT, .TRACK_TIME, .TRACK_VEL]

theorem fit32_changes (d : Dev) (x : Int) : Changes [] [.fresh] d (d.fit32 x).2 := Changes.refl.inside (fit32_inside d x)

theorem trackFreeze_changes (d : Dev) (t : Nat) : Changes [.TRACK_ACC, .TRACK_STAT, .TRACK_VEL] [.mot] d (d.trackFreeze t) := by
  unfold Dev.trackFreeze
  exact Changes.evObj (Changes.setReg (Changes.setReg (Changes.setFld (Changes.setFld (Changes.setTrk Changes.refl)))))

theorem trackPublish_changes (d : Dev) (t : Nat) (p rem : Int) (corr moving : Bool) :
    Changes trackNames [.fresh, .mot] d (d.trackPublish t p rem corr moving) := by
  unfold Dev.trackPublish
  extract_lets x st left slew step p1 md p2 turns hist vk ak dp fv v vh fa acc n d1 d2 d3
  have hf : Changes trackNames [.fresh, .mot] d fa.2 := (fit32_changes d _).within.step (fit32_changes fv.2 _)
  have h1 : Changes trackNames [.fresh, .mot] d d1 := hf.setTrk
  have h2 : Changes trackNames [.fresh, .mot] d d2 := h1.setPair.setRegI.setRegI.setReg.setReg.setRegI
  have h3 : Changes trackNames [.fresh, .mot] d d3 := h2.setFld.setFld.setFld
  exact h3.ite h3.setFld

theorem trackOne_changes (d : Dev) (t : Nat) : Changes trackNames [.fresh, .mot] d (d.trackOne t) := by
  have hp {x : Dev} (h : Changes trackNames [.fresh, .mot] d x) (p rem : Int) (corr moving : Bool) :
      Changes trackNames [.fresh, .mot] d (x.trackPublish t p rem corr moving) := h.step (trackPublish_changes x t p rem corr moving)
  have hs (x : TrackSt) : Changes trackNames [.fresh, .mot] d (d.setTrk t x) := Changes.refl.setTrk
  unfold Dev.trackOne
  split
  · exact .refl
  · extract_lets +onlyGivenNames x st m held
    split
    · extract_lets d1 d2
      have h1 : Changes trackNames [.fresh, .mot] d d1 := (hs _).setReg
      have h2 : Changes trackNames [.fresh, .mot] d d2 := h1.ite h1.setFld
      exact (hp h2 _ _ _ _).evObj
    · split
      · exact (hp (hs _).setFld _ _ _ _).ite (hp (Changes.refl.ite (hs _)) _ _ _ _)
      split
      · exact Changes.ite (hp (hs _).setFld.setFld _ _ _ _).evObj (hp (hs _).setFld.setFld _ _ _ _)
      split
      · exact hp .refl _ _ _ _
      split
      · exact hp (trackFreeze_changes d t).within _ _ _ _
      · exact hp (Changes.ite (hs _).setFld.evObj (hs _).setFld) _ _ _ _

theorem trackUpdate_changes (d : Dev) : Changes trackNames [.fresh, .mot] d d.trackUpdate := by
  unfold Dev.trackUpdate
  extract_lets m d1
  have h1 : Changes trackNames [.fresh, .mot] d d1 := Changes.refl.mot
  exact Changes.refl.ite (h1.each fun x k _ h => h.each fun y t _ h => h.step (trackOne_changes y t))

theorem trackLost_changes (d : Dev) (t : Nat) : Changes [.TRACK_ACC, .TRACK_STAT, .TRACK_VEL] [.mot] d (d.trackLost t) :=
  (trackFreeze_changes d t).ite .refl

theorem trackCorr_changes (d : Dev) (t : Nat) (w : Word) : Changes [.TRACK_CORRREM, .TRACK_STAT] [] d (d.trackCorr t w) :=
  Changes.refl.setRegI.setFld

theorem trackClrinv_changes (d : Dev) (t : Nat) : Changes [] [.mot] d (d.trackClrinv t) := by
  unfold Dev.trackClrinv
  split
  · exact .refl
  · exact Changes.refl.setTrk.ite .refl

/-! ### What the Tallboy takes from an update of the tracks (R312, R366) -/

/-- The registers that count the actions which a publication finds late or discards. -/
abbrev crossNames : List RegName := [.TALL_CNT_DISC, .TALL_CNT_LATE]

theorem scanJump_changes (d : Dev) (t : Nat) : Changes [.TALL_CNT_LATE] [.tall] d (d.scanJump t) := by
  unfold Dev.scanJump
  extract_lets now
  have hs (x : TallSt) : Changes [.TALL_CNT_LATE] [.tall] d (d.setTall x) := Changes.refl.setTall
  split
  · exact hs _
  · exact (hs _).each fun x c _ h => h.step (crossed_changes x _ _ _)

theorem toRelease_changes (d : Dev) (i : Nat) (x : ActSt) : Changes [] [.tall] d (d.toRelease i x) :=
  Changes.refl.setTo.ite (Changes.refl.setTo.ite .refl)

theorem freeAct_changes (d : Dev) (i : Nat) : Changes [] [.tall] d (d.freeAct i) := by
  unfold Dev.freeAct
  split
  · exact .refl
  · extract_lets d1 t d2
    have h1 : Changes [] [.tall] d d1 := toRelease_changes d i _
    have h2 : Changes [] [.tall] d d2 := h1.setTall
    split
    · exact Changes.ite (Changes.tall h2) h2
    · exact h2

/-- An armed action stands, or it is discarded and freed. -/
theorem armAct_changes (d : Dev) (i : Nat) (x : ActSt) : ∀ e ∈ d.armAct i x, Changes crossNames [.tall] d e := by
  unfold Dev.armAct
  extract_lets p fwd base pol log d1
  have hs (y : ActSt) : Changes crossNames [.tall] d (d.setAct i y) := Changes.refl.setAct
  have hl (y : ActSt) : Changes crossNames [.tall] d (log (d.setAct i y)) := (hs y).inc.actEv
  have hc {z : Dev} (h : Changes crossNames [.tall] d z) : Changes crossNames [.tall] d (z.crossed i d.ns p) := h.step (crossed_changes z i d.ns p)
  clear_value log pol
  split
  · split
    · split <;> rintro _ ⟨⟩
      · exact hl _
      · exact hc (hl _)
    · rintro _ ⟨⟩
      exact hs _
    · simp
  · rintro _ ⟨⟩
    exact (hc (hs _)).ite (hs _)

theorem retestAct_changes (d : Dev) (i : Nat) : Changes crossNames [.tall] d (d.retestAct i) := by
  unfold Dev.retestAct
  split
  · exact .refl
  · split
    · next e he => exact armAct_changes d i _ e he
    · exact Changes.step (Changes.actEv Changes.refl.inc) (freeAct_changes _ i)

theorem endWait_changes (d : Dev) (t : Nat) : Changes crossNames [.tall] d (d.endWait t) :=
  Changes.refl.ite (Changes.refl.each fun _ _ _ h => (h.setAct.step (retestAct_changes _ _)).ite h)

theorem publish_changes (d : Dev) : Changes crossNames [.tall] d d.publish := by
  unfold Dev.publish
  extract_lets d1
  have h1 : Changes crossNames [.tall] d d1 := Changes.refl.each fun x t _ h => (h.setTall.step (scanJump_changes _ t)).step (endWait_changes _ t)
  exact h1.setTall

/-- What TRACK_UPDATE does (R310, R312): the tracks are compared up to now, updated, and published. -/
def Dev.tracksUpdated (d : Dev) : Dev :=
  let d1 := d.scanAll.trackUpdate
  if d1.mot.trackTick == d.mot.trackTick then d1 else d1.publish

theorem tracksUpdated_changes (d : Dev) : Changes (crossNames ++ trackNames) [.fresh, .mot, .tall] d d.tracksUpdated := by
  unfold Dev.tracksUpdated
  extract_lets d1
  have h1 : Changes (crossNames ++ trackNames) [.fresh, .mot, .tall] d d1 := (scanAll_changes d).within.step (trackUpdate_changes _)
  exact h1.ite (h1.step (publish_changes d1))

/-! ### Virtual masters (R316) -/

/-- The registers that a virtual master sets. -/
abbrev vmNames : List RegName := [.VM_CURVEL, .VM_POS_HI, .VM_POS_LO]

theorem vmOne_changes (d : Dev) (v : Nat) : Changes vmNames [.mot] d (d.vmOne v) := by
  unfold Dev.vmOne
  extract_lets x run goal acc dv gap full v1 dp a1 d1
  have h1 : Changes vmNames [.mot] d d1 := Changes.refl.setVm
  exact Changes.refl.ite h1.setPair.setRegI

theorem vmUpdate_changes (d : Dev) : Changes vmNames [.mot] d d.vmUpdate :=
  Changes.refl.ite (Changes.refl.mot.each fun x v _ h => h.step (vmOne_changes x v))

theorem vmSet_changes (d : Dev) (v : Nat) (x : Int) : Changes [.VM_POS_HI, .VM_POS_LO] [.mot] d (d.vmSet v x) := Changes.refl.setVm.setPair

end Sys2Proof.Machine

namespace Sys2Proof.Machine

open Sys2Proof

/-! ### Writes that start moves, gearing, tracks, virtual masters and arms (R8, R304, R313 to R316, R349) -/

theorem motWrite_changes (d : Dev) (ses a : Nat) (w : Word) :
    Changes [.AXIS_MOT_CTL, .AXIS_MOT_STAT] [.mot] d (d.hostWrite ses (R.AXIS_MOT_CTL a) w) :=
  soleWrite_changes (sole_of_driveLone (by decide)) rfl (by decide) rfl (fun x i _ _ _ => (motCtlDo_changes x i w).within)
    (fun _ _ _ _ => .refl) (fun _ _ _ _ _ => .refl) fun _ _ _ => .refl

theorem gearWrite_changes (d : Dev) (ses a : Nat) (w : Word) :
    Changes [.AXIS_GEAR_CTL, .AXIS_MOT_STAT] [.mot] d (d.hostWrite ses (R.AXIS_GEAR_CTL a) w) :=
  soleWrite_changes (sole_of_driveLone (by decide)) rfl (by decide) rfl (fun x i _ _ _ => (gearCtlDo_changes x i w).within)
    (fun _ _ _ _ => .refl) (fun _ _ _ _ _ => .refl) fun _ _ _ => .refl

theorem corrWrite_changes (d : Dev) (ses t : Nat) (w : Word) :
    Changes [.TRACK_CORR, .TRACK_CORRREM, .TRACK_STAT] [] d (d.hostWrite ses (R.TRACK_CORR t) w) :=
  soleWrite_changes (sole_of_driveLone (by decide)) rfl (by decide) rfl (fun _ _ _ _ _ => .refl)
    (fun x i _ _ => (trackCorr_changes x i w).within) (fun _ _ _ _ _ => .refl) fun _ _ _ => .refl

theorem trackWrite_changes (d : Dev) (ses t : Nat) (w : Word) : Changes [.TRACK_CTL] [.mot] d (d.hostWrite ses (R.TRACK_CTL t) w) :=
  soleWrite_changes (sole_of_driveLone (by decide)) rfl (by decide) rfl (fun _ _ _ _ _ => .refl)
    (fun x i _ _ => (trackClrinv_changes x i).within.ite .refl) (fun _ _ _ _ _ => .refl) fun _ _ _ => .refl

theorem vmWrite_changes (d : Dev) (ses v : Nat) (w : Word) : Changes [.VM_CTL] [] d (d.hostWrite ses (R.VM_CTL v) w) :=
  soleWrite_changes (sole_of_driveLone (by decide)) rfl (by decide) rfl (fun _ _ _ _ _ => .refl) (fun _ _ _ _ => .refl)
    (fun _ _ _ _ _ => .refl) fun _ _ _ => .refl

theorem armWrite_changes (d : Dev) (ses m : Nat) (w : Word) : Changes [.ARM_CTL] [.arms] d (d.hostWrite ses (R.ARM_CTL m) w) := by
  have h (x : Dev) (i : Nat) : Changes [.ARM_CTL] [.arms] x (x.armCtlDo i w) := Changes.refl.setArm
  exact soleWrite_changes (sole_of_driveLone (by decide)) rfl (by decide) rfl (fun _ _ _ _ _ => .refl) (fun x i _ _ => h x i)
    (fun _ _ _ _ _ => .refl) fun _ _ _ => .refl

theorem trackSetWrite_changes (d : Dev) (ses t : Nat) (w : Word) : Changes [] [.mot] d (d.hostWrite ses (R.TRACK_SET_LO t) w) :=
  hostWritePair_changes (sole_of_driveLone (by decide)) rfl rfl fun _ _ _ => Changes.refl.setTrk

theorem vmSetWrite_changes (d : Dev) (ses v : Nat) (w : Word) :
    Changes [.VM_POS_HI, .VM_POS_LO] [.mot] d (d.hostWrite ses (R.VM_SET_LO v) w) :=
  hostWritePair_changes (sole_of_driveLone (by decide)) rfl rfl fun i _ v => vmSet_changes d i v

/-! ### A period of an arm (R328 to R350) -/

/-- The registers that a period of an arm may set. -/
abbrev pathNames : List RegName := [.ARM_CNT, .ARM_KEFF, .ARM_POSE, .ARM_SCALE, .ARM_SEGCUR, .ARM_SEGDONE, .ARM_STAT, .ARM_TAU, .AXIS_MOT_ACC,
  .AXIS_MOT_POS_HI, .AXIS_MOT_POS_LO, .AXIS_MOT_VEL, .AXIS_STAT, .DIO_OUT]

theorem Changes.setArmState {l : List RegName} {ps : List Part} {d e : Dev} {b : Bool} (h : Changes l ps d e b) {m st : Nat} :
    Changes l ps d (e.setArmState m st) (l.contains .ARM_STAT && b) := h.setFld

/-- A stop sets no register of the inverse kinematics, which `armStop_changes` names too. -/
theorem armStop_path (d : Dev) (m code cause axCause : Nat) : Changes pathNames armParts d (d.armStop m code cause axCause) := by
  unfold Dev.armStop
  split
  · exact .refl
  next r _ =>
  extract_lets s d1 s1 s2 d2 d3
  have h1 : Changes pathNames armParts d d1 := Changes.setFld (Changes.setArmState .refl)
  have h2 : Changes pathNames armParts d d2 := h1.setArm.each fun x a _ h => h.ite ((h.step (react_changes x a _ _ _)).ite h)
  have h3 : Changes pathNames armParts d d3 := (h2.each fun _ _ _ h => h.setMs).ite h2
  exact Changes.refl.ite (h3.axs.step (armShow_changes _ _))

theorem armIssue_path (d : Dev) (m : Nat) (r : ArmRec) (q : List Int) (pose : PoseM) (bad : Bool) :
    Changes pathNames armParts d (d.armIssue m r q pose bad) := by
  unfold Dev.armIssue
  extract_lets s vels checks q1 moved rate tr d1 d2 d3 slow fast d4 d5
  have h1 : Changes pathNames armParts d d1 := Changes.refl.setArm
  have h2 : Changes pathNames armParts d d2 := h1.each fun x e _ h => h.step (storeSp_changes x _ _)
  have h3 : Changes pathNames armParts d d3 := h2.step (armPose_changes _ _ _)
  have h5 : Changes pathNames armParts d d5 := Changes.each (h3.each fun _ _ _ h => h.evObj) fun _ _ _ h => h.evObj
  have hs (code cause ax : Nat) : Changes pathNames armParts d (d5.armStop m code cause ax) := h5.step (armStop_path _ _ _ _ _)
  exact (hs _ _ _).ite ((hs _ _ _).ite ((hs _ _ _).ite (h5.step (armEnds_changes _ _))))

theorem jointRamp_changes (d : Dev) (a : Nat) : Changes pathNames armParts d (d.jointRamp a) := by
  unfold Dev.jointRamp
  extract_lets s0 s s1
  refine Changes.ite (b := true) (c := true) ?_ .refl
  split
  · exact Changes.step (Changes.setMs .refl) (storeSp_changes _ a _)
  · exact .refl

theorem segBegin_changes (d : Dev) (m : Nat) (run : SegRun) : Changes [] [.arms] d (d.segBegin m run) := by
  have h (x : ArmSt) : Changes [] [.arms] d (d.setArm m x) := Changes.refl.setArm
  exact (h _).evObj.ite (h _)

theorem tryBlend_changes (d : Dev) (m : Nat) : Changes [.ARM_CNT] [.arms] d (d.tryBlend m) := by
  have h (x : ArmSt) : Changes [.ARM_CNT] [.arms] d (d.setArm m x) := Changes.refl.setArm
  unfold Dev.tryBlend
  extract_lets s
  split
  · exact .refl
  · extract_lets decide_ own next d1
    clear_value next
    refine Changes.refl.ite ?_
    split
    · exact ((h _).step (segBegin_changes _ m _)).ite ((h _).ite .refl)
    · exact Changes.ite ((h _).bump.evObj.ite (h _)) .refl

theorem finishRuns_changes (d : Dev) (m n : Nat) : Changes pathNames armParts d (d.finishRuns m n) := by
  induction n generalizing d with
  | zero => exact .refl
  | succ n ih =>
    have hi {x : Dev} (h : Changes pathNames armParts d x) : Changes pathNames armParts d (x.finishRuns m n) := h.step (ih x)
    have hb {x : Dev} (h : Changes pathNames armParts d x) (k : SegRun) : Changes pathNames armParts d (x.segBegin m k) :=
      h.step (segBegin_changes x m k)
    have hs {x : Dev} (h : Changes pathNames armParts d x) : Changes pathNames armParts d (x.armStop m 2 3 0) := h.step (armStop_path x m 2 3 0)
    unfold Dev.finishRuns
    extract_lets +onlyGivenNames s
    split
    · split
      · exact Changes.refl.ite (Changes.setArm (Changes.setArmState .refl))
      · refine Changes.refl.ite ?_
        extract_lets d0
        have h0 : Changes pathNames armParts d d0 := Changes.setArmState .refl
        split
        · exact (hi (hb h0 _)).ite (hb h0 _)
        · exact hs h0
    · extract_lets s1 ran d2
      have h1 : Changes pathNames armParts d (d.setArm m s1) := Changes.refl.setArm
      have h2 : Changes pathNames armParts d d2 := Changes.refl.setArm
      refine Changes.refl.ite (h1.ite ?_)
      split
      · exact h2.setArmState
      · refine Changes.ite (b := true) (c := true) ?_ h2
        split
        · exact hi (hb h2 _)
        · exact hs h2
      · exact hi h2

theorem armAdvance_changes (d : Dev) (m : Nat) (r : ArmRec) : Changes pathNames armParts d (d.armAdvance m r) := by
  unfold Dev.armAdvance
  extract_lets s0 want dt red d1 d2 d3 ending d4 s cmd
  have h1 : Changes pathNames armParts d d1 := Changes.setFld (Changes.setArm .refl)
  have h2 : Changes pathNames armParts d d2 := h1.bump.ite h1
  have h3 : Changes pathNames armParts d d3 := h2.step (tryBlend_changes d2 m)
  have h4 : Changes pathNames armParts d d4 := h3.step (finishRuns_changes d3 m 300)
  clear_value cmd
  refine h4.ite ?_
  split
  · exact Changes.step h4.setArm (armIssue_path _ m r _ _ _)
  · exact Changes.step h4.setArm (ikWords_changes _ m 0)

theorem armScale_changes (d : Dev) (m : Nat) : Changes [.ARM_KEFF, .ARM_SCALE, .ARM_STAT] [.arms] d (d.armScale m) := by
  unfold Dev.armScale
  extract_lets s start d0 goal up dn fs
  have h0 : Changes [.ARM_KEFF, .ARM_SCALE, .ARM_STAT] [.arms] d d0 := by
    unfold d0
    split
    · exact Changes.refl.setFld
    · exact .refl
  exact Changes.setFld (Changes.setFld h0.setArm)

theorem armCommit_changes (d : Dev) (m : Nat) : Changes [.ARM_SEGCUR, .ARM_STAT, .ARM_TAU] [.arms] d (d.armCommit m) := by
  unfold Dev.armCommit
  extract_lets s th st d1
  have h1 (x : ArmSt) : Changes [.ARM_SEGCUR, .ARM_STAT, .ARM_TAU] [.arms] d (d1.setArm m x) := Changes.setArm (Changes.setArm .refl)
  exact ((h1 _).setArmState.step (armShow_changes _ m)).ite ((h1 _).setArmState.ite ((h1 _).setArmState.ite Changes.refl.setArm))

theorem armDisable_changes (d : Dev) (m : Nat) : Changes [.ARM_SEGCUR, .ARM_STAT, .ARM_TAU] [.arms] d (d.armDisable m) :=
  Changes.step (Changes.setFld (Changes.setArmState (Changes.setArm .refl))) (armShow_changes _ m)

theorem pathPeriod_changes (d : Dev) (m : Nat) : Changes pathNames armParts d (d.pathPeriod m) := by
  unfold Dev.pathPeriod
  split
  · exact .refl
  refine Changes.refl.ite ?_
  extract_lets x d0 allAuto d1 q s e5 y e d2
  have h0 : Changes pathNames armParts d d0 := (Changes.step (Changes.setArm .refl) (armScale_changes _ m)).step (armCommit_changes _ m)
  have h1 : Changes pathNames armParts d d1 := by
    unfold d1
    split
    · exact Changes.axs (h0.step (armStop_path d0 m _ _ _))
    · exact h0
  have h2 : Changes pathNames armParts d d2 := by
    have hr (l : List Nat) : Changes pathNames armParts d (d1.each l fun x a => x.jointRamp a) := h1.each fun x a _ h => h.step (jointRamp_changes x a)
    have ha (r : ArmRec) : Changes pathNames armParts d (d1.armAdvance m r) := h1.step (armAdvance_changes d1 m r)
    have hd : Changes pathNames armParts d (d1.armDisable m) := h1.step (armDisable_changes d1 m)
    have h5 : Changes pathNames armParts d e5 := (hr _).ite (ha _)
    have he : Changes pathNames armParts d e := ha _
    unfold d2
    split
    · exact Changes.ite (Changes.step (Changes.setArmState (Changes.setArm h1)) (armPose_changes _ m _)) (hr _)
    · exact Changes.ite (Changes.evObj (Changes.setArmState (Changes.setArm h5))) h5
    · exact hd.ite h1
    · exact hd.ite (h1.ite (h1.ite (he.setArmState.evObj.ite he)))
  exact h2.setFld.step (armShow_changes _ m)

end Sys2Proof.Machine

namespace Sys2Proof.Machine

open Sys2Proof

/-! ### What the host interface changes besides its own state (R566 to R583) -/

/-- The registers that sessions, queues and handles may set. -/
abbrev hostNames : List RegName := [.FAB_IMG_STAT, .HOST_P_CNT_DROP, .HOST_P_CNT_RX, .HOST_P_CNT_TX, .HOST_Q_CNT, .HOST_S_REJ, .SEC_EXTCNT,
  .SEC_MS, .SEC_STAT]

/-- The parts beside the host interface that sessions, queues and handles may change. -/
abbrev hostParts : List Part := [.cap, .fresh, .loader, .sec]

/-- From `d` to `e` the host interface changes nothing else. -/
abbrev HostChanges (d e : Dev) : Prop := Changes hostNames hostParts d e

theorem Changes.host {l : List RegName} {ps : List Part} {d e : Dev} {b : Bool} (h : Changes l ps d e b) {x : HostSt} :
    Changes l ps d { e with host := x } b := h.of_still rfl fun p => by cases p <;> rfl

namespace HostChanges

variable {d e : Dev}

theorem setSess (h : HostChanges d e) {k : Nat} {x : Session} : HostChanges d (e.setSess k x) := Changes.host h

theorem setQueue (h : HostChanges d e) {q : Nat} {x : Queue} : HostChanges d (e.setQueue q x) := Changes.host h

theorem dropQueue (h : HostChanges d e) {q : Nat} : HostChanges d (e.dropQueue q) := Changes.host h

theorem hostOut (h : HostChanges d e) {p : Peer} {b : List Byte} : HostChanges d (e.hostOut p b) := (Changes.emit h).inc.ite h

theorem answerTo (h : HostChanges d e) {p : Peer} {m b : List Byte} {st : Status} : HostChanges d (e.answerTo p m st b) := hostOut h

theorem reject (h : HostChanges d e) {p : Peer} {m : List Byte} {st : Status} {n : Nat} {slot q : Option Nat} :
    HostChanges d (e.reject p m st n slot q) := by
  unfold Dev.reject
  extract_lets d1 d2
  have h1 : HostChanges d d1 := h.hostOut
  have h2 : HostChanges d d2 := by
    unfold d2
    split
    · exact Changes.inc h1
    · exact h1
  split
  · exact Changes.bump h2
  · exact h2

theorem countTx (h : HostChanges d e) {l : List Out} : HostChanges d (e.countTx l) := by
  refine Changes.each h fun x o _ hx => ?_
  split
  · split
    · exact (Changes.inc hx).ite hx
    · exact hx
  · exact hx

theorem placeMsg (h : HostChanges d e) {q typ st fl ref : Nat} {b : List Byte} : HostChanges d (e.placeMsg q typ st fl ref b) := by
  unfold Dev.placeMsg
  split
  · exact h
  · exact countTx (Changes.emit h.setQueue)

theorem finishMsg (h : HostChanges d e) {q typ st ref : Nat} {b : List Byte} : HostChanges d (e.finishMsg q typ st ref b) := by
  unfold Dev.finishMsg
  split
  · exact h
  · exact setQueue h.placeMsg

/-! Queues and handles that close (R574, R581). -/

theorem closeCmdQueue (h : HostChanges d e) {q : Nat} : HostChanges d (e.closeCmdQueue q) := by
  refine dropQueue (?_ : HostChanges d (e.abortStored q))
  unfold Dev.abortStored
  split
  · exact h
  · exact Changes.each h fun _ _ _ hx => finishMsg hx

theorem putSlot (h : HostChanges d e) {k : Nat} {b : List Byte} : HostChanges d (e.putSlot k b) := (Changes.loader h).setFld

theorem completeObj (h : HostChanges d e) {x : Handle} : HostChanges d (e.completeObj x).1 := by
  unfold Dev.completeObj
  split
  · split
    · exact h
    · split
      · exact h
      · exact Changes.cap h
  · exact (Changes.sec h).step (extend_changes _ 5 0 _)
  · exact h

theorem closeHandle (h : HostChanges d e) {slot k : Nat} : HostChanges d (e.closeHandle slot k).1 := by
  unfold Dev.closeHandle
  split
  · extract_lets d1
    have h1 : HostChanges d d1 := h.setSess
    split
    · exact h1
    · split
      · exact h1.completeObj
      · exact (putSlot h1).ite h1
  · exact h

/-! Sessions (R569 to R572). -/

theorem closeSession (h : HostChanges d e) {slot reason : Nat} {notice : Bool} : HostChanges d (e.closeSession slot reason notice) := by
  unfold Dev.closeSession
  split
  · exact h
  · extract_lets d1 d2 d3 x d4
    have h1 : HostChanges d d1 := h.hostOut.ite h
    have h2 : HostChanges d d2 := Changes.each (Changes.each h1 fun _ _ _ hx => (closeCmdQueue hx).ite hx) fun _ _ _ hx => dropQueue hx
    have h3 : HostChanges d d3 := h2.each fun _ _ _ hx => closeHandle hx
    have h4 : HostChanges d d4 := h3.host
    exact h4.evObj

theorem sessTimeout (h : HostChanges d e) {slot : Nat} : HostChanges d (e.sessTimeout slot) := by
  unfold Dev.sessTimeout
  split
  · exact h.closeSession.ite h
  · exact h

theorem sessOpen (h : HostChanges d e) {p : Peer} {m : List Byte} : HostChanges d (e.sessOpen p m) := by
  unfold Dev.sessOpen
  extract_lets nonce role slot st k
  split
  · exact h.hostOut
  · exact h.hostOut.ite (Changes.evObj (hostOut (Changes.host (setSess (Changes.fresh h)))))

theorem setCtl (h : HostChanges d e) {slot : Nat} {ctl : Bool} : HostChanges d (e.setCtl slot ctl) := by
  unfold Dev.setCtl
  split
  · exact h.setSess
  · exact h

theorem sessCtl (h : HostChanges d e) {p : Peer} {slot : Nat} {m : List Byte} : HostChanges d (e.sessCtl p slot m) := by
  unfold Dev.sessCtl
  extract_lets role other st claimed released forced d1
  clear_value other
  have hc : HostChanges d claimed := h.setCtl.ite h
  have hr : HostChanges d released := (Changes.host h.setCtl).ite h
  have hf : HostChanges d forced := by
    unfold forced
    split
    · split
      · exact hostOut h.setCtl
      · exact h.setCtl
    · exact h
  have h1 : HostChanges d d1 := (setCtl hf).evObj
  split
  · exact h.answerTo
  · exact hc.answerTo
  · exact hr.answerTo
  · exact h1.answerTo
  · exact h.answerTo

/-! Queues, subscriptions and acknowledgements (R574, R577, R578). -/

theorem queueOpen (h : HostChanges d e) {p : Peer} {slot : Nat} {m : List Byte} : HostChanges d (e.queueOpen p slot m) :=
  Changes.ite h.answerTo (Changes.ite h.hostOut (answerTo h.setQueue))

theorem queueClose (h : HostChanges d e) {p : Peer} {slot : Nat} {m : List Byte} : HostChanges d (e.queueClose p slot m) := by
  unfold Dev.queueClose
  extract_lets q
  split
  · exact h.answerTo
  · exact Changes.ite h.answerTo (Changes.ite (h.setQueue.ite (answerTo h.closeCmdQueue)) (Changes.ite h.answerTo (answerTo h.dropQueue)))

theorem evtSub (h : HostChanges d e) {p : Peer} {slot : Nat} {m : List Byte} : HostChanges d (e.evtSub p slot m) := by
  unfold Dev.evtSub
  extract_lets q sev st
  split
  · exact h
  · extract_lets d1
    have h1 : HostChanges d d1 := h.setSess.ite h
    exact h1.answerTo

theorem ackOne (h : HostChanges d e) {slot q done : Nat} : HostChanges d (e.ackOne slot q done) := by
  unfold Dev.ackOne
  split
  · exact Changes.inc h
  · exact (Changes.inc h).ite (h.ite h.setQueue)

theorem hostAck (h : HostChanges d e) {slot : Nat} {m : List Byte} : HostChanges d (e.hostAck slot m) :=
  Changes.each h fun _ _ _ hx => ackOne hx

theorem unqueuedMsg (h : HostChanges d e) {p : Peer} {slot : Nat} {m : List Byte} : HostChanges d (e.unqueuedMsg p slot m) := by
  unfold Dev.unqueuedMsg
  split
  · exact closeSession h.answerTo
  · exact h.sessCtl
  · exact h.queueOpen
  · exact h.queueClose
  · exact h.hostAck
  · exact h.evtSub

/-! The taking of a datagram (R566, R568, R575). -/

theorem storeMsg (h : HostChanges d e) {p : Peer} {slot q : Nat} {m : List Byte} : HostChanges d (e.storeMsg p slot q m) := by
  unfold Dev.storeMsg
  split
  · exact h
  · extract_lets qpos units diff free
    refine Changes.ite (Changes.ite h.setQueue h.reject) (Changes.ite h.reject (Changes.ite (Changes.bump h) ?_))
    split
    · exact h.hostOut
    · exact h.reject

theorem touch (h : HostChanges d e) {slot : Nat} {p : Peer} : HostChanges d (e.touch slot p) := by
  unfold Dev.touch
  split
  · exact h.setSess
  · exact h

theorem takeMsg (h : HostChanges d e) {p : Peer} {left : Nat} {m : List Byte} : HostChanges d (e.takeMsg p left m).1 := by
  unfold Dev.takeMsg
  extract_lets t units q queued d0 slot st
  have h0 : HostChanges d d0 := by
    unfold d0
    split
    · exact h.ite h.sessTimeout
    · exact h
  clear_value d0 queued st slot
  split
  · dsimp only
    exact h0.reject
  · split
    · exact h0.sessOpen.ite h0.answerTo
    · extract_lets d1
      have h1 : HostChanges d d1 := h0.touch
      split
      · exact h1.storeMsg
      · split
        · exact h1.answerTo
        · exact h1.unqueuedMsg

theorem takeAll (h : HostChanges d e) {p : Peer} {n : Nat} {b : List Byte} : HostChanges d (e.takeAll p n b) := by
  induction n generalizing e b with
  | zero => exact h
  | succ n ih =>
    cases b with
    | nil => exact h
    | cons x xs =>
      unfold Dev.takeAll
      extract_lets k
      have ht := h.takeMsg (p := p) (left := (x :: xs).length) (m := if k ≤ (x :: xs).length then (x :: xs).take (max k 64) else x :: xs)
      split
      · next hq => exact ih (hq ▸ ht :)
      · next hq => exact (hq ▸ ht :)

theorem datagram (h : HostChanges d e) {p : Peer} {b : List Byte} : HostChanges d (e.datagram p b) :=
  Changes.ite h (Changes.ite (Changes.inc h) (takeAll (Changes.inc h)))

end HostChanges

/-! ### A row of a queued message (R576) -/

theorem execMsg_changes {l : List RegName} {ps : List Part} {d : Dev} {ses : Nat} {m : List Byte} (h : Changes l ps d (d.runMsg ses m).1) :
    Changes l ps d (d.execMsg ses m).1 := by
  unfold Dev.execMsg
  extract_lets units gate
  split
  · exact .refl
  · dsimp only
    split
    · exact h
    · exact .refl

/-- A command queue is served: the effect of the message that stands first in it, and what its answer takes. -/
theorem serve_changes {l : List RegName} {ps : List Part} {d : Dev} {m : List Byte} (hl : hostNames.all l.contains = true)
    (hp : hostParts.all ps.contains = true) (hm : d.isHead m = true) (h : ∀ ses, Changes l ps d (d.runMsg ses m).1) :
    Changes l ps d (d.serve (uAt m 3 1)) := by
  unfold Dev.isHead at hm
  unfold Dev.serve
  split
  · exact .refl
  next x hx =>
  rw [hx] at hm
  split
  · exact .refl
  next m' _ hs =>
  obtain rfl : m' = m := by simp_all
  have hr : Changes l ps d (d.execMsg x.slot m').1 := execMsg_changes (h x.slot)
  have hq {e : Dev} (k : HostChanges (d.execMsg x.slot m').1 e) : Changes l ps d e := (hr.step k).use (by rw [hl, hp]; rfl)
  refine Changes.refl.ite ?_
  dsimp only
  refine Changes.refl.ite (Changes.ite (b := true) (c := true) ?_ (hq (HostChanges.finishMsg .refl)))
  split
  · exact hq (HostChanges.setQueue .refl)
  · exact hr

/-- A row of a queued message: what its datagram changes, and what the message does. -/
theorem queuedRow_changes {l : List RegName} {ps : List Part} {d : Dev} {typ : Nat} {src : Nat × Nat × Nat} {m : List Byte}
    (hl : hostNames.all l.contains = true) (hp : hostParts.all ps.contains = true)
    (h : uAt m 0 2 = typ → ∀ e ses, Changes l ps e (e.runMsg ses m).1) : Changes l ps d (d.queuedRow typ src m) := by
  unfold Dev.queuedRow
  split
  · exact .refl
  next ht =>
  have hm := h (by simpa using ht)
  extract_lets q d1
  have h1 : Changes l ps d d1 := (Changes.within (HostChanges.datagram .refl : HostChanges d d1)).use (by rw [hl, hp]; rfl)
  split
  · next hh => exact serve_changes hl hp hh (hm d)
  · split
    · next hh => exact (h1.step (serve_changes hl hp hh (hm d1))).use (by simp)
    · exact h1

/-! ### The message ARM_SEG (R335, R336) -/

theorem armSegMsg_changes (d : Dev) (m : List Byte) : Changes [.ARM_SEGCUR, .ARM_STAT, .ARM_TAU] [.arms] d (d.armSegMsg m).1 := by
  have h (a : Nat) (x : ArmSt) : Changes [.ARM_SEGCUR, .ARM_STAT, .ARM_TAU] [.arms] d ((d.setArm a x).armShow a) :=
    Changes.step (Changes.setArm .refl) (armShow_changes _ a)
  exact (h _ _).ite .refl

theorem armSeg_changes (d : Dev) (src : Nat × Nat × Nat) (m : List Byte) :
    Changes (.ARM_SEGCUR :: .ARM_STAT :: .ARM_TAU :: hostNames) [.arms, .cap, .fresh, .loader, .sec] d (d.queuedRow 0x0701 src m) := by
  refine queuedRow_changes rfl rfl fun ht e ses => ?_
  unfold Dev.runMsg
  rw [ht]
  exact (armSegMsg_changes e m).within

end Sys2Proof.Machine

namespace Sys2Proof.Machine

open Sys2Proof

/-! ### The frame of the group (R235, R268, R290, R310, R349) -/

theorem probeCtl_frame {i : Instr} (s : State) (ses p : Nat) (w : Word)
    (hi : exec i s = s.runIf (decide (p < 16)) fun d => d.hostWrite ses (R.FBK_PRB_CTL p) w) : Frame i s (Named [.FBK_PRB_CTL, .FBK_PRB_STAT]) [] :=
  frame_of_runIf hi (fun d => probeWrite_changes d ses p w) rfl

theorem motCtl_frame {i : Instr} (s : State) (ses a : Nat) (w : Word)
    (hi : exec i s = s.runIf (decide (a < 8192)) fun d => d.hostWrite ses (R.AXIS_MOT_CTL a) w) :
    Frame i s (Named [.AXIS_MOT_CTL, .AXIS_MOT_STAT]) [.mot] := frame_of_runIf hi (fun d => motWrite_changes d ses a w) rfl

theorem gearCtl_frame {i : Instr} (s : State) (ses a : Nat) (w : Word)
    (hi : exec i s = s.runIf (decide (a < 8192)) fun d => d.hostWrite ses (R.AXIS_GEAR_CTL a) w) :
    Frame i s (Named [.AXIS_GEAR_CTL, .AXIS_MOT_STAT]) [.mot] := frame_of_runIf hi (fun d => gearWrite_changes d ses a w) rfl

theorem armCtl_frame {i : Instr} (s : State) (ses m : Nat) (w : Word)
    (hi : exec i s = s.runIf (decide (m < 12)) fun d => d.hostWrite ses (R.ARM_CTL m) w) : Frame i s (Named [.ARM_CTL]) [.arms] :=
  frame_of_runIf hi (fun d => armWrite_changes d ses m w) rfl

theorem legCtl_frame {i : Instr} (s : State) (ses l : Nat) (w : Word)
    (hi : exec i s = s.runIf (decide (l < 96)) fun d => d.hostWrite ses (legReg R.PWM_LEG_CTL l) w) :
    Frame i s (Named [.PWM_LEG_ACC, .PWM_LEG_CNT, .PWM_LEG_CTL, .PWM_LEG_STAT]) [.pwm] := frame_of_runIf hi (fun d => legWrite_changes d ses l w) rfl

/-- A command that sets up to three input lines and lets their filters run. -/
theorem lines_frame {i : Instr} {s : State} {c : Bool} {f : Dev → Dev} (hi : exec i s = s.runIf c fun d => (f d).filClock)
    (h : ∀ d, Changes [] [.fil] d (f d)) : Frame i s (Named lineNames) [.axs, .cap, .dio, .engs, .fbk, .fil, .pwm] :=
  frame_of_runIf hi (fun d => (h d).within.step (filClock_changes (f d))) rfl

/-- Settles O56: each command's effect changes at most what is named for it, and what follows the effect is the frame's own. -/
theorem driveFrame : Obligations.DriveFrame := fun s =>
  ⟨fun c => frame_of_runIf (f := fun d => d.reloadSample c) rfl (fun d => reloadSample_changes d c) rfl,
   fun c => frame_of_runIf (f := fun d => d.pwmPeriod c) rfl (fun d => pwmPeriod_changes d c) rfl,
   fun c map => frame_of_runIf (f := fun d => d.delayCal c map) rfl (fun d => delayCal_changes d c map) rfl,
   fun ses l w => frame_of_runIf (f := fun d => d.hostWrite ses (legReg R.PWM_CMP_LO l) w) rfl (fun d => cmpWrite_changes d ses l w) rfl,
   fun ses l w => legCtl_frame s ses l (putF w F.PWM_LEG_CTL.COMMIT 1) rfl,
   fun ses l w => legCtl_frame s ses l (putF w F.PWM_LEG_CTL.CLRACC 1) rfl,
   fun l low ns => frame_of_runIf (f := fun d => d.swnEdge l low ns) rfl (fun d => swnEdge_changes d l low ns) rfl,
   fun l => frame_of_runIf (f := fun d => d.swnMiss l) rfl (fun d => swnMiss_changes d l) rfl,
   fun c t high => lines_frame (f := fun d => d.setLine (4 * c + t) high) rfl fun d => setLine_changes d _ high,
   fun c => frame_of_runIf (f := fun d => d.carRemoved c) rfl (fun d => carRemoved_changes d c) rfl,
   fun c => frame_of_runIf (f := fun d => d.carInserted c) rfl (fun d => carInserted_changes d c) rfl,
   fun c j => frame_of_runIf (f := fun d => d.sdLoss c j) rfl (fun d => sdLoss_changes d c j) rfl,
   fun c j => frame_of_runIf (f := fun d => d.sdLossClear c j) rfl (fun d => sdLossClear_changes d c j) rfl,
   fun k a b => lines_frame (f := fun d => (d.setLine (32 + 4 * k) a).setLine (32 + 4 * k + 1) b) rfl
     fun d => (setLine_changes d _ a).step (setLine_changes _ _ b),
   fun k a bc => lines_frame (f := fun d => ((d.setLine (32 + 4 * k) a).setLine (32 + 4 * k + 1) bc.1).setLine (32 + 4 * k + 2) bc.2) rfl
     fun d => ((setLine_changes d _ a).step (setLine_changes _ _ bc.1)).step (setLine_changes _ _ bc.2),
   fun k => frame_of_runIf (f := fun d => d.ssiStart k) rfl (fun d => ssiStart_changes d k) rfl,
   fun k td data err par high => frame_of_runIf (f := fun d => d.ssiEnd k td data err par high) rfl
     (fun d => ssiEnd_changes d k td data err par high) rfl,
   fun k => frame_of_runIf (f := fun d => d.speedWindow k) rfl (fun d => speedWindow_changes d k) rfl,
   fun p high => lines_frame (f := fun d => d.setLine (160 + p) high) rfl fun d => setLine_changes d _ high,
   fun ses p w => probeCtl_frame s ses p (putF w F.FBK_PRB_CTL.ARM 1) rfl,
   fun ses p w => probeCtl_frame s ses p (putF w F.FBK_PRB_CTL.DISARM 1) rfl,
   fun ses p => frame_of_runIf (f := fun d => d.hostRead ses (R.FBK_PRB_POS p).addr) rfl (fun d => probePosRead_changes d ses p) rfl,
   fun r => frame_of_runIf (f := fun d => d.remCycle r) rfl (fun d => remCycle_changes d r) rfl,
   fun c => frame_of_runIf (f := fun d => d.encOvercurrent c) rfl (fun d => encOvercurrent_changes d c) rfl,
   fun ses w => frame_of_run (f := fun d => d.hostWrite ses R.FBK_SUP w) rfl (fun d => supWrite_changes d ses w) rfl,
   fun ses k w => frame_of_runIf (f := fun d => d.hostWrite ses (R.FBK_ENC_CTL k) (putF w F.FBK_ENC_CTL.CLRINV 1)) rfl
     (fun d => encCtlWrite_changes d ses k _) rfl,
   fun ses k w => frame_of_runIf (f := fun d => d.hostWrite ses (R.FBK_ENC_PRESET k) w) rfl (fun d => presetWrite_changes d ses k w) rfl,
   fun ses a w => motCtl_frame s ses a (putF w F.AXIS_MOT_CTL.GO 1) rfl,
   fun ses a w => motCtl_frame s ses a (putF w F.AXIS_MOT_CTL.HALT 1) rfl,
   fun ses a w => gearCtl_frame s ses a (putF w F.AXIS_GEAR_CTL.ENGAGE 1) rfl,
   fun ses a w => gearCtl_frame s ses a (putF w F.AXIS_GEAR_CTL.ARM 1) rfl,
   fun ses a w => gearCtl_frame s ses a (putF w F.AXIS_GEAR_CTL.CANCEL 1) rfl,
   fun ses a w => gearCtl_frame s ses a (putF w F.AXIS_GEAR_CTL.DISENGAGE 1) rfl,
   fun a => frame_of_runIf (f := fun d => d.setpoint a) rfl (fun d => setpoint_changes d a) rfl,
   frame_of_run (f := Dev.tracksUpdated) rfl tracksUpdated_changes rfl,
   fun t => frame_of_runIf (f := fun d => d.trackLost t) rfl (fun d => trackLost_changes d t) rfl,
   fun ses t w => frame_of_runIf (f := fun d => d.hostWrite ses (R.TRACK_SET_LO t) w) rfl (fun d => trackSetWrite_changes d ses t w) rfl,
   fun ses t w => frame_of_runIf (f := fun d => d.hostWrite ses (R.TRACK_CORR t) w) rfl (fun d => corrWrite_changes d ses t w) rfl,
   fun ses t w => frame_of_runIf (f := fun d => d.hostWrite ses (R.TRACK_CTL t) (putF w F.TRACK_CTL.CLRINV 1)) rfl
     (fun d => trackWrite_changes d ses t _) rfl,
   frame_of_run (f := fun d => d.vmUpdate) rfl vmUpdate_changes rfl,
   fun ses v w => frame_of_runIf (f := fun d => d.hostWrite ses (R.VM_CTL v) w) rfl (fun d => vmWrite_changes d ses v w) rfl,
   fun ses v w => frame_of_runIf (f := fun d => d.hostWrite ses (R.VM_SET_LO v) w) rfl (fun d => vmSetWrite_changes d ses v w) rfl,
   fun src m => frame_of_run (f := fun d => d.queuedRow 0x0701 src m) rfl (fun d => armSeg_changes d src m) rfl,
   fun m => frame_of_runIf (f := fun d => d.pathPeriod m) rfl (fun d => pathPeriod_changes d m) rfl,
   fun ses m w => armCtl_frame s ses m (putF w F.ARM_CTL.HOLD 1) rfl,
   fun ses m w => armCtl_frame s ses m (putF w F.ARM_CTL.RESUME 1) rfl,
   fun ses m w => armCtl_frame s ses m (putF w F.ARM_CTL.FLUSH 1) rfl,
   fun c bytes => frame_of_runIf (f := fun d => d.carIdDone c bytes) rfl (fun d => carIdDone_frame d c bytes) rfl⟩

end Sys2Proof.Machine
